-- ==== Sys2Proof/Word.lean ====
section
/-! DEFINITION. The word types of the WX2048 and their plainest arithmetic.

Register fields are kept as naturals below 2 ^ width (a field's width is part of its description in Machine/Fld.lean);
what the manual calls a bit pattern and works on bit by bit (packed words, scrambler, coefficients) is a `BitVec`. -/

namespace Sys2Proof

/-- A byte of host memory or of a frame. -/
abbrev Byte := BitVec 8

/-- A 10-bit SDI word (R110). -/
abbrev Word10 := BitVec 10

/-- A 32-bit register or record word (R11). -/
abbrev Word32 := BitVec 32

/-- Bits `lo + width - 1` down to `lo` of a natural. -/
def bits (x lo width : Nat) : Nat := (x >>> lo) % 2 ^ width

/-- Bit `i` of a natural as a truth value. -/
def bit (x i : Nat) : Bool := x.testBit i

/-- A truth value as a one-bit field. -/
def b2n (b : Bool) : Nat := if b then 1 else 0

/-- The signed value of a `width`-bit two's complement pattern. -/
def toSigned (width x : Nat) : Int :=
  if x % 2 ^ width < 2 ^ (width - 1) then (x % 2 ^ width : Nat) else (x % 2 ^ width : Nat) - (2 ^ width : Nat)

/-- The `width`-bit two's complement pattern of an integer, wrapping. -/
def ofSigned (width : Nat) (x : Int) : Nat := (x % (2 ^ width : Nat)).toNat

/-- Little-endian value of a list of bytes, first byte least significant. -/
def leVal : List Byte → Nat
  | [] => 0
  | b :: bs => b.toNat + 256 * leVal bs

/-- Big-endian value of a list of bytes, first byte most significant. -/
def beVal (bs : List Byte) : Nat := leVal bs.reverse

/-- `n` little-endian bytes of a natural. -/
def leBytes : Nat → Nat → List Byte
  | 0, _ => []
  | n + 1, x => BitVec.ofNat 8 x :: leBytes n (x / 256)

/-- `n` big-endian bytes of a natural. -/
def beBytes (n x : Nat) : List Byte := (leBytes n x).reverse

/-- The little-endian field of `n` bytes that starts at byte `off`; bytes past the end read 0. -/
def leAt (bs : List Byte) (off n : Nat) : Nat := leVal ((bs.drop off).take n)

/-- The big-endian (network order) field of `n` bytes that starts at byte `off`. -/
def beAt (bs : List Byte) (off n : Nat) : Nat := beVal ((bs.drop off).take n)

/-- Byte `off` as a number; 0 past the end. -/
def byteAt (bs : List Byte) (off : Nat) : Nat := leAt bs off 1

/-- Clamp a natural between two limits. -/
def clampNat (lo hi x : Nat) : Nat := max lo (min hi x)

/-- Clamp an integer between two limits. -/
def clampInt (lo hi x : Int) : Int := max lo (min hi x)

end Sys2Proof
end

