-- ==== Sys2Proof/Machine/StateCmd.lean ====
section
/-! DEFINITION. What the command pair holds: open commands, completions held back, the persistent store's wear and map
(chapters "Host link and commands" and "Persistent state and security functions"). -/

namespace Sys2Proof.Machine

/-- When a command's commit points lie (R46, R160, R543): a point of the command's kind qualifies when its module time is at
least `notBefore`, its local time at least `at_`, and the frame count of `plane` has become `count`. -/
structure Due where
  notBefore : Nat := 0
  at_ : Option Nat := none
  frame : Option (Nat × Nat) := none
  deriving DecidableEq, Repr

/-- A command that is accepted and not yet completed (R542), or on HEEL a mirror that is applied and not yet committed. -/
structure OpenCmd where
  uid : Nat
  /-- applied from a MIRROR message; it completes with a COMMIT_RPT -/
  mirror : Bool := false
  ring : Nat := 0
  tag : Nat := 0
  entry : Nat := 0
  opcode : Nat := 0
  mseq : Nat := 0
  due : Due := {}
  /-- LATE_POLICY is REJECT -/
  reject : Bool := false
  /-- members that have not committed -/
  left : Nat := 0
  /-- mirrored to HEEL, so the completion waits for its report -/
  mirrored : Bool := false
  /-- module time at which HEEL's MIRROR_ACK arrived -/
  acked : Option Nat := none
  /-- HEEL has reported its commit -/
  reported : Bool := false
  solo : Bool := false
  late : Bool := false
  superseded : Bool := false
  aborted : Bool := false
  /-- TOO_LATE under R545, or a failure of a command that ends after acceptance; 0 none -/
  failed : Nat := 0
  qual : Nat := 0
  detail0 : Nat := 0
  detail1 : Nat := 0
  /-- local time of the last commit point -/
  commitAt : Option Nat := none
  /-- FENCE: the commands it waits for (R541) -/
  waits : List Nat := []
  /-- its completion is discarded (R557) -/
  drop : Bool := false
  /-- accepted by a HEEL under FEED_BOTH: never SOLO (R548) -/
  feedBoth : Bool := false
  deriving DecidableEq, Repr

structure CmdState where
  /-- open commands in acceptance order -/
  opens : List OpenCmd := []
  /-- next free uid -/
  uid : Nat := 1
  /-- fetch is paused (R579) -/
  paused : Bool := false
  /-- submission rings stopped under R535 -/
  stopped : List Nat := []
  /-- last ring an entry was taken from, for the rounds of R541; 16 none yet -/
  lastRing : Nat := 16
  /-- module time of the first refusal that the DENIED audit record in progress covers, and how many so far (R650) -/
  deniedAt : Option Nat := none
  deniedCount : Nat := 0
  deriving DecidableEq, Repr

/-- The non-volatile cells beside the registers that show them (R623 to R632). -/
structure PstState where
  /-- wear counter per row (R630) -/
  wear : List (Nat × Nat) := []
  /-- spare row that stands in for a row (R631) -/
  map : List (Nat × Nat) := []
  /-- spare rows used -/
  spares : Nat := 0
  /-- rows whose programming does not verify: what the cells do, given with the steps that store -/
  failing : List Nat := []
  /-- the store could not be read at bring-up: no store is made until POR (R600) -/
  dead : Bool := false
  /-- rows in which a sniff cycle has found an uncorrectable word, until the next bring-up repairs them (R632) -/
  errRows : List Nat := []
  /-- PREF row's VALID word, and REF_DIGEST (R628) -/
  prefValid : Bool := false
  refDigest : Nat := 0
  prefPrio : List (Nat × Nat) := []
  prefLockout : List (Nat × Nat) := []
  /-- PAIR_ID of the last image loaded -/
  pairId : Nat := 0
  /-- label commit in progress: index and eight words (the journal of R627) -/
  journal : Option (Nat × List Nat) := none
  deriving DecidableEq, Repr

end Sys2Proof.Machine
end

