-- ==== Sys2Proof/Machine/StateAud.lean ====
section
/-! DEFINITION. What the audio shuffler, the reed engines and the meters hold beside their registers (chapters "Audio shuffling and
channel rings" and "Reed engines"). -/

namespace Sys2Proof.Machine

/-- A channel ring (R274, R275). -/
structure Ring where
  /-- committed words, newest first, at most the length in force -/
  words : List Nat := []
  /-- what positions that the writer has not written read: 0 after an IMAGE reset, 0x80 (V = 1) after a lengthening (R284, R299) -/
  blank : Nat := 0
  /-- samples the writer holds: instant (module time) and ring word, oldest first (R280) -/
  held : List (Nat × Nat) := []
  /-- held samples whose instants lay before the last boundary and that it left uncommitted -/
  left : Nat := 0
  /-- the sample committed last, and its instant: what positions that no sample fills repeat (R401) -/
  last : Option (Nat × Nat) := none
  /-- the source delivers nothing, and LOSS has been raised for it (R281) -/
  lost : Bool := false
  deriving DecidableEq, Repr

/-- What an embedder group in RINGS reads (R287, R290): the rings of its four channels, the latency, and the reading it had before
an EMBED record with XFADE, until the first boundary after the record's commit. -/
structure EmbGroup where
  rings : List (Option Nat) := []
  lat : Nat := 16
  old : Option (List (Option Nat) × Nat) := none
  deriving DecidableEq, Repr

/-- A record of AUD_MAP (R296). -/
inductive MapRec where
  | deembed (slot mask : Nat)
  | embed (slot group mode : Nat) (xfade : Bool) (rings : List (Option Nat)) (lat : Nat)
  | fill (engine ch : Nat) (entries : List (Option (Nat × Nat)))
  | length (ring log2 : Nat)
  deriving DecidableEq, Repr

structure PendMap where
  uid : Nat := 0
  recs : List MapRec := []
  due : Due := {}
  deriving DecidableEq, Repr

/-- De-embedder of an input slot: groups seen in the frame in progress, and groups whose control packet announces another rate
(R286, R304). -/
structure InAud where
  seen : Nat := 0
  bad : Nat := 0
  deriving DecidableEq, Repr

structure AudState where
  rings : List (Nat × Ring) := []
  /-- embedder groups in RINGS, by 32 * output slot + group -/
  groups : List (Nat × EmbGroup) := []
  /-- fill entries, by 1024 * engine + bank channel: ring and latency (R293) -/
  fills : List (Nat × Nat × Nat) := []
  pend : List PendMap := []
  ins : List (Nat × InAud) := []
  /-- receive contexts that have counted a concealed block at this boundary (R401) -/
  concealed : List Nat := []
  /-- module time of the last audio block boundary (R453) -/
  boundary : Nat := 0
  /-- samples that the embedders took at the last boundary, by 32 * output slot + group, and those they place in the lines of the
  block in progress (R289) -/
  taken : List (Nat × List (List Nat)) := []
  placed : List (Nat × List (List Nat)) := []
  deriving DecidableEq, Repr

/-- A loop in progress (R328). -/
structure LoopFr where
  first : Nat
  last : Nat
  left : Nat
  step : Nat
  xi : Nat
  deriving DecidableEq, Repr

/-- A reed engine (R311). Coefficients are the registers REE_COEF; vector registers, state and banks hold 32-bit patterns, keyed by
16 * register or channel + j. -/
structure Reed where
  prog : List Nat := []
  smem : List (Nat × Nat) := []
  v : List (Nat × Nat) := []
  acc : List (Nat × Int) := []
  /-- accumulator positions that are clamped in their present sum (R319) -/
  clamped : List Nat := []
  x : List (Nat × Nat) := []
  loops : List LoopFr := []
  pc : Nat := 0
  cycles : Nat := 0
  /-- END has been executed in this block, or no block has begun -/
  ended : Bool := true
  inp : List (Nat × Nat) := []
  fill : List (Nat × Nat) := []
  out : List (Nat × Nat) := []
  back : List (Nat × Nat) := []
  /-- coefficients that a MACR used in the block (R324) -/
  ramps : List Nat := []
  /-- a clamp, and a saturation, have been counted in this block -/
  accov : Bool := false
  sat : Bool := false
  /-- resumed or stepping from a halt: a breakpoint at the program counter does not halt again (R682) -/
  past : Bool := false
  deriving DecidableEq, Repr

/-- A REE_WRITE waiting for its boundary (R332). -/
structure PendReed where
  uid : Nat := 0
  engine : Nat := 0
  /-- target is S -/
  state : Bool := false
  first : Nat := 0
  words : List Nat := []
  due : Due := {}
  deriving DecidableEq, Repr

/-- A peak meter: the ring and PAIR96 in force (as in the word of REE_PK_CFG), sample peak of the window in progress, samples the filter has
yet to use, and a clear that waits (R334, R336). -/
structure PkSt where
  cfg : Nat := 0
  window : Nat := 0
  hist : List Nat := []
  clr : Bool := false
  deriving DecidableEq, Repr

/-- A loudness meter: the configuration in force (EN and the eight channel words), filter states, energy of the segment in
progress, energies of the last 30 whole 100 ms segments (newest first), blocks of the segment so far, gating block energies since
the last start of INTEGRATED, and writes that wait (R335, R336). -/
structure LdSt where
  en : Bool := false
  chans : List Nat := []
  filt : List (Nat × List Nat) := []
  acc : Nat := 0
  blocks : Nat := 0
  segs : List Nat := []
  gates : List Nat := []
  /-- whole segments since INTEGRATED last started -/
  intSegs : Nat := 0
  clr : Bool := false
  restart : Bool := false
  deriving DecidableEq, Repr

structure ReedState where
  engines : List (Nat × Reed) := []
  pend : List PendReed := []
  pk : List (Nat × PkSt) := []
  ld : List (Nat × LdSt) := []
  /-- maxima that a CLR_MAX cleared at the last audio block boundary, (field, meter, value), and the local time of that boundary: a
  snapshot taken there still shows them (R336) -/
  cleared : List (Nat × Nat × Nat) := []
  clearedAt : Nat := 0
  deriving DecidableEq, Repr

end Sys2Proof.Machine
end

