-- ==== Sys2Proof/Machine/StateLane.lean ====
section
/-! DEFINITION. What the lane PHYs hold beside their registers: chapters "Backplane lanes" and "Lane blocks and slot payload".
Lanes 0 to 2047 are the backplane lanes of each direction; 2048 to 2055 are the eight lanes of the twin link, which follow the
same PHY and training rules (R72) and have no LNI or LNO registers. -/

namespace Sys2Proof.Machine

/-- Training phases of R65; an attempt's phase is shown in STATE unless the attempt is a probe (R69). -/
inductive Phase where
  | none | lock | align | eq | confirm
  /-- training is complete, and the lane waits for its first block (R66) -/
  | ready
  deriving DecidableEq, Repr

/-- Receiver and training state of one input lane. -/
structure InLane where
  /-- phase of the attempt in progress (R65) -/
  phase : Phase := .none
  /-- consecutive valid training sets at 16-symbol spacing (R65, TRAIN_ALIGN) -/
  sets : Nat := 0
  /-- consecutive valid TB sets with READY (R65, TRAIN_CONFIRM; R79) -/
  ready : Nat := 0
  /-- module time at which the attempt began, or the request of the fast retrain (R65, R79) -/
  startAt : Nat := 0
  /-- module time since which the CDR holds lock (R65) -/
  lockAt : Nat := 0
  /-- end of the back-off that runs (R68) -/
  backoffEnd : Nat := 0
  /-- module time from which the 1 s period of the probes runs (R69) -/
  probeAt : Nat := 0
  /-- module time of the first loss of signal of this stay in IDLE (R76) -/
  lossAt : Nat := 0
  /-- module time at which loss of alignment was declared (R62) -/
  searchAt : Nat := 0
  /-- taps 2 to 10 of the decision-feedback equaliser, two's complement of 8 bits (R73) -/
  dfe : List Nat := []
  /-- failed attempts since the last IMAGE reset (R59) -/
  fails : Nat := 0
  /-- the lane has reached ACTIVE since the last IMAGE reset (R59) -/
  wasActive : Bool := false
  /-- the lane rests in NO_PARTNER, also while it wakes for a probe or runs one (R69) -/
  noPartner : Bool := false
  /-- IDLE was entered on loss of signal, so IDLE_LIMIT runs (R76) -/
  idleByLoss : Bool := false
  /-- consecutive blocks without K28.5 at symbol 0 (R61) -/
  missed : Nat := 0
  /-- positions other than 0 at which K28.5 stood in the last block period (R61) -/
  seenPos : List Nat := []
  /-- alignment lost and not yet regained (R61) -/
  searching : Bool := false
  /-- the next block is the first after ACTIVE or a realignment (R106, R107) -/
  fresh : Bool := true
  /-- no SEQ has been taken as reference yet (R107) -/
  noRef : Bool := true
  /-- payload bytes of the previous block as transmitted (R105) -/
  prevPayload : List Byte := []
  /-- TYPE and SEQ of the previous accepted block (R106, R107) -/
  prevType : Nat := 0
  prevSeq : Nat := 0
  /-- consecutive blocks that were not valid, and that were valid (R109) -/
  invalidRun : Nat := 0
  validRun : Nat := 0
  /-- a SIDE value has been received (R122) -/
  sideSeen : Bool := false
  deriving DecidableEq, Repr

/-- Transmitter state of one output lane. -/
structure OutLane where
  /-- phase of the attempt; `lock`, `align` and `eq` send TA sets, `confirm` and `ready` send TB sets (R65 to R67) -/
  phase : Phase := .none
  /-- module time at which the attempt began, or the request of the fast retrain -/
  startAt : Nat := 0
  /-- module time at which the phase began -/
  phaseAt : Nat := 0
  backoffEnd : Nat := 0
  probeAt : Nat := 0
  /-- the training set that the transmitter repeats, symbols 2 to 14 without its sequence number; empty none (R63) -/
  sending : List Byte := []
  /-- sequence number of the first of these sets, and when it was sent -/
  setSeq : Nat := 0
  setAt : Nat := 0
  fails : Nat := 0
  wasActive : Bool := false
  noPartner : Bool := false
  /-- payload bytes of the previous block sent, after scrambling (R105) -/
  prevPayload : List Byte := []
  deriving DecidableEq, Repr

/-- Words of a stream that come one after the other: the module time of the first, and the time over which they come. -/
structure Seg where
  start : Nat := 0
  per : Nat := 0
  words : List Word10 := []
  deriving DecidableEq, Repr

/-- A word stream as the module holds it: that of an input slot, of a kennel reader on a plane or of a head. Its words are numbered in
order (R23, R24, R110). -/
structure Stream where
  /-- number of the first word held -/
  base : Nat := 0
  /-- oldest first -/
  segs : List Seg := []
  /-- number of the first word of the frame begun last: the EAV of its line 1 (R137) -/
  frameAt : Nat := 0
  deriving DecidableEq, Repr

/-- The lanes' state beside the registers. -/
structure LaneState where
  inp : List (Nat × InLane) := []
  out : List (Nat × OutLane) := []
  /-- block counter of R60 and R103, common to every output lane -/
  blockCtr : Nat := 0
  /-- the elastic buffer of each input slot i = 8 * lane + slot: the words it has delivered, with their times (R23, R136) -/
  rx : List (Nat × Stream) := []
  deriving DecidableEq, Repr

end Sys2Proof.Machine
end

