-- ==== Sys2Proof/Machine/StateXpt.lean ====
section
/-! DEFINITION. What the crosspoint and the kennel hold beside their registers. -/

namespace Sys2Proof.Machine

/-- What the arm deadline gives a take: its MODE (R151), and its switching point as a frame count of the output's plane and the time
from that boundary, so that the point moves with the plane (R51, R144). -/
structure Armed where
  mode : Nat
  count : Nat
  after : Nat
  deriving DecidableEq, Repr

/-- A take or salvo member, or a restore take, that has not committed (R156 to R165). -/
structure PendTake where
  /-- its command; 0 for a restore take -/
  uid : Nat := 0
  /-- output slot o -/
  out : Nat := 0
  /-- source descriptor of R135 -/
  src : Nat := 0
  noPst : Bool := false
  noFb : Bool := false
  /-- the output lane was IDLE or DEEP at acceptance (R162) -/
  wake : Bool := false
  due : Due := {}
  /-- set at the arm deadline -/
  armed : Option Armed := none
  deriving DecidableEq, Repr

/-- An output slot's path state. -/
structure XOut where
  /-- NO_FALLBACK of the take that set the source (R146) -/
  noFb : Bool := false
  /-- an automatic move waits: the MODE it makes, and the module time its switching point must reach (R152 to R154) -/
  move : Option (Nat × Nat) := none
  /-- the wait in JOIN ends in this MODE (R146, R151) -/
  joinTo : Nat := 0
  /-- the source left NOSIG while the output waited in JOIN: module time its switching point must reach for the path to be
  taken again (R146) -/
  repath : Option Nat := none
  /-- number, in the stream of its path, of the next word to send -/
  next : Nat := 0
  /-- words of a stream that has ended at a switch and that have still to be sent, each with the time at which it is due -/
  tail : List (Nat × Word10) := []
  /-- cadence descriptions that carry SW still owed (R119, R148) -/
  sw : Bool := false
  deriving DecidableEq, Repr

/-- An input slot's tracker and window state (R138 to R141). -/
structure XIn where
  /-- plane frames for which |e| ≤ GUARD_NS has held in GUARD (R140) -/
  reacq : Nat := 0
  /-- IN has been reached since OUT, OFFPLANE, NOSIG or NOFMT, so GUARD returns at once -/
  settled : Bool := false
  /-- structure (format code) of the last complete frame while no format is declared; none before one -/
  cand : Option Nat := none
  /-- frames completed since the declared format ended (R193, R758) -/
  sinceEnd : Nat := 0
  /-- a declared format has ended at a disagreeing frame and no format has been declared since -/
  ended : Bool := false
  /-- phase error of the last frame, in ns; the elastic buffer aligns by it, and holds it while no format is declared (R138, R758) -/
  e : Int := 0
  /-- |e| has exceeded GUARD_NS in a frame since the last plane frame boundary (R140) -/
  beyond : Bool := false
  /-- words received since the end of the last frame, as the write channel and the measurement stage have them (R23, R201) -/
  seen : List Word10 := []
  /-- a frame has been measured since the slot left NOSIG -/
  measured : Bool := false
  /-- module time of the last frame end -/
  lastEnd : Nat := 0
  deriving DecidableEq, Repr

/-- A frame in a frame slot. -/
structure KFrame where
  num : Nat := 0
  fmt : Nat := 0
  /-- module time at which writing ended -/
  endAt : Nat := 0
  /-- samples of the active picture line by line from the top, the fields of an interlaced frame woven (R179, R226) -/
  picture : List Word10 := []
  /-- ancillary packets stored, in order of arrival (R180) -/
  packets : List (List Word10) := []
  /-- positions in them of the packets of the second field (R410) -/
  second : List Nat := []
  /-- payload identifier of the frame, none where it carried none -/
  vpid : Option Nat := none
  /-- bytes that host software has written into the ancillary area, by offset in it (R200) -/
  ancBytes : List (Nat × Byte) := []
  deriving DecidableEq, Repr

/-- A reader of an allocation on a timing plane (R184, R186). -/
structure Reader where
  shown : Option Nat := none
  /-- format of the frame sent last -/
  fmt : Nat := 0
  /-- consecutive repeats since the loss began (R191) -/
  lossRepeats : Nat := 0
  /-- the frame it sends, a black one included; none while it sends nothing -/
  frame : Option KFrame := none
  /-- it applies LOSS_ACTION: black, or nothing (R191) -/
  blackOut : Bool := false
  /-- module time of its last output reference point -/
  at_ : Nat := 0
  /-- the stream it sends (R190) -/
  stream : Stream := {}
  deriving DecidableEq, Repr

/-- A FREEZE or UNFREEZE, or a STILL_SELECT, waiting to commit (R198, R200). -/
structure PendKnl where
  uid : Nat := 0
  /-- 0 FREEZE, 1 UNFREEZE, 2 STILL_SELECT -/
  op : Nat := 0
  index : Nat := 0
  due : Due := {}
  /-- STILL_SELECT: planes whose reader has not taken it yet -/
  planes : List Nat := []
  deriving DecidableEq, Repr

/-- A kennel allocation (R181). -/
structure Alloc where
  /-- frames held, newest first, at most N_F -/
  frames : List KFrame := []
  /-- number of the next frame to be written -/
  next : Nat := 0
  /-- a frame has completed since the IMAGE reset or a restart (R191) -/
  started : Bool := false
  /-- the writer is writing a frame -/
  writing : Bool := false
  /-- the frame in progress is damaged -/
  damaged : Bool := false
  /-- ancillary packets of the frame in progress, newest first, each with whether it belongs to the second field -/
  anc : List (Bool × List Word10) := []
  /-- the writer waits for a format, in a format change (R193) -/
  changing : Bool := false
  /-- format of the frame being written, or written last -/
  fmt : Nat := 0
  /-- module time of the writer's last frame end -/
  lastEnd : Nat := 0
  /-- module time at which the receive flow's last packet was written (R191) -/
  lastPkt : Nat := 0
  readers : List (Nat × Reader) := []
  pend : List PendKnl := []
  /-- STILL: frame INDEX to the frame it holds -/
  stills : List (Nat × KFrame) := []
  /-- STILL: captures running: uid, target index and the frame being copied -/
  captures : List (Nat × Nat × KFrame) := []
  deriving DecidableEq, Repr

/-- Running state of the input measurements of one slot (R201). -/
structure Meas where
  /-- frames without a payload identifier; in disagreement; in agreement -/
  noVpid : Nat := 0
  disagree : Nat := 0
  agree : Nat := 0
  /-- module time since which the black or freeze condition has held, or failed, in every frame -/
  blackSince : Option Nat := none
  blackClear : Option Nat := none
  freezeSince : Option Nat := none
  freezeClear : Option Nat := none
  /-- module time since which the slot has been in NOSIG or NOFMT -/
  lossSince : Option Nat := some 0
  /-- luma of the last frame, every fourth sample of every fourth line -/
  luma : List Nat := []
  deriving DecidableEq, Repr

structure XptState where
  /-- safety outputs and their heads, as the image names them (R241) -/
  safety : List (Nat × Nat) := []
  pend : List PendTake := []
  outs : List (Nat × XOut) := []
  ins : List (Nat × XIn) := []
  allocs : List (Nat × Alloc) := []
  meas : List (Nat × Meas) := []
  /-- bytes of kennel pages outside frames, and of SRAM banks, that the host or the debug module has written (value + 1; 0 none) -/
  kennel : List (Nat × Nat) := []
  sram : List (Nat × Nat) := []
  /-- SRAM banks that step 6 has zeroed and that no pool has used or gating emptied since (R37, R597) -/
  zeroed : List Nat := []
  deriving DecidableEq, Repr

end Sys2Proof.Machine
end

