-- ==== Sys2Proof/Machine/StateTwin.lean ====
section
/-! DEFINITION. What the twin logic holds beside the TWN registers (chapter "Twin operation"), and the messages of R491. -/

namespace Sys2Proof.Machine

/-- The fields of a bark that this module keeps of its twin (R495). -/
structure Bark where
  kind : Nat := 0
  role : Nat := 0
  claim : Bool := false
  fit : Bool := false
  feedBoth : Bool := false
  bseq : Nat := 0
  pairId : Nat := 0
  contacts : Nat := 0
  sync : Nat := 0
  epoch : Nat := 0
  elig : Nat := 0
  own : Nat := 0
  /-- TX_TIME, ECHO_TX and ECHO_RX in ns of local time -/
  txTime : Nat := 0
  echoTx : Nat := 0
  echoRx : Nat := 0
  mseq : Nat := 0
  deriving DecidableEq, Repr

/-- A bark path (R496). -/
structure PathSt where
  /-- consecutive barks received, up to 3 -/
  good : Nat := 0
  /-- a bark has arrived in the bark period in progress -/
  got : Bool := false
  /-- BSEQ of the last bark received, and the module time at which it arrived -/
  bseq : Nat := 0
  at_ : Nat := 0
  deriving DecidableEq, Repr

/-- A command sent to HEEL (R507): ring, entry index, the 64-byte entry, the bytes the descriptor DMA read for it, the
acceptance time, the commit points and the earliest arm deadline (local time; none for an untimed kind). -/
structure Mirror where
  mseq : Nat
  ring : Nat
  entry : Nat
  raw : List Byte
  data : List Byte := []
  acceptedAt : Nat := 0
  due : Due := {}
  deadline : Option Nat := none
  deriving DecidableEq, Repr

/-- What a LEAD has decided (R509). -/
inductive Choice where
  /-- a writer slip: ring and samples dropped (1) or repeated (−1) at block `n` -/
  | slip (ring : Nat) (dir : Int) (block : Nat)
  /-- the path of output slot `o` at its switching point, whose local time is `point` -/
  | path (o mode point : Nat)
  /-- reader of an allocation on a plane: the frame number to send at T, local time `point` -/
  | reader (alloc plane frame point : Nat)
  /-- layer: the frame number to show at F, local time `point` -/
  | layer (l frame point : Nat)
  /-- receive context: the frame with this timestamp is complete (or damaged); positions lost up to a sequence number -/
  | rxFrame (ctx : Nat) (complete : Bool) (lost : Nat)
  /-- new commit points of a command, or none: it ends without a commit (R545) -/
  | points (mseq : Nat) (due : Option Due)
  deriving DecidableEq, Repr

/-- What a resynchronisation carries of a reed engine (R333, R514): C, S, V0 to V15 and ACC0 to ACC3, with the mark of R319 of
each accumulator that is clamped in its present sum. -/
structure ReedCopy where
  coef : List (Nat × Nat) := []
  smem : List (Nat × Nat) := []
  v : List (Nat × Nat) := []
  acc : List (Nat × Int) := []
  clamped : List Nat := []
  deriving DecidableEq, Repr

/-- What it carries of a composition engine: active and shadow words of each layer of the pool, words 1 and 2 of each head active
and shadow, label texts active and shadow. -/
structure CmpImage where
  engine : Nat
  layers : List (Nat × List Nat × List Nat) := []
  heads : List (Nat × (Nat × Nat) × (Nat × Nat)) := []
  labels : List (Nat × List Byte × List Byte) := []
  deriving DecidableEq, Repr

/-- The audio map: de-embedder masks, embedder groups in RINGS with their reading, groups in MUTE, fill maps, ring lengths. -/
structure AudCopy where
  masks : List (Nat × Nat) := []
  ringBits : List (Nat × Nat) := []
  muteBits : List (Nat × Nat) := []
  groups : List (Nat × EmbGroup) := []
  fills : List (Nat × Nat × Nat) := []
  lengths : List (Nat × Nat) := []
  deriving DecidableEq, Repr

/-- The state a LEAD sends at a resynchronisation (R514). -/
structure TwinCopy where
  /-- every command up to this MSEQ has been applied -/
  m0 : Nat := 0
  /-- sources of the output slots that have one -/
  routes : List (Nat × Nat) := []
  aud : AudCopy := {}
  reeds : List (Nat × ReedCopy) := []
  cmps : List CmpImage := []
  /-- flow records in force: eight words each -/
  recs : List (List Nat) := []
  /-- frozen allocations -/
  freezes : List Nat := []
  /-- STILL allocation and selected index -/
  stills : List (Nat × Nat) := []
  /-- STILL frames held: allocation, index, frame -/
  stillFrames : List (Nat × Nat × KFrame) := []
  /-- the shofar bundle in force; empty none -/
  bundle : List Byte := []
  /-- raised messages and their causes -/
  raised : List (Nat × Nat) := []
  shofarSeq : Nat := 0
  deriving DecidableEq, Repr

/-- Messages of the twin link (R491). -/
inductive TwinMsg where
  | mirror (m : Mirror)
  | mirrorAck (mseq : Nat)
  | commitRpt (mseq : Nat) (applied : Bool)
  | decision (c : Choice)
  | health (record : List Byte)
  | resyncReq (mseq : Nat)
  | resyncAck (mseq : Nat)
  | state (mseq : Nat) (c : TwinCopy)
  | stateAck (mseq : Nat)
  deriving DecidableEq, Repr

/-- Progress of a resynchronisation on HEEL (R514). -/
inductive Resync where
  | idle | requested | acked | stepped | applying
  deriving DecidableEq, Repr

structure TwinState where
  link : PathSt := {}
  watch : PathSt := {}
  bseq : Nat := 0
  /-- last bark received from the twin on either path -/
  last : Bark := {}
  /-- local time in ns at which the last twin-link bark arrived, and its TX_TIME (R495) -/
  echoTx : Nat := 0
  echoRx : Nat := 0
  /-- module time of the last twin-link bark that showed LEAD: the time code of TWIN (R437) -/
  leadAt : Option Nat := none
  /-- a health record with a different digest: the twin's messages are ignored, and with them its barks on the twin link until its digest
  is unconfirmed again (R487) -/
  digestBad : Bool := false
  linkDeaf : Bool := false
  /-- rows of the table of R505 in force, bit k for row k + 1 -/
  diag : Nat := 0
  /-- module time since which the lanes have selected this side, or the twin's, without a break (R502) -/
  ownSince : Option Nat := none
  twinSince : Option Nat := none
  /-- module time since which every assigned output lane is ACTIVE, while row 7 of R505 is in force -/
  lanesSince : Option Nat := none
  /-- module times of the last role change, of the last withdrawal and of the last refresh of the claim watchdog (R506) -/
  roleAt : Nat := 0
  withdrawnAt : Nat := 0
  fedAt : Nat := 0
  /-- module time at which the handshake started (R500); none before an image is loaded -/
  handshakeAt : Option Nat := none
  /-- the claim watchdog has yielded and the service pair has not run since (R506) -/
  hardware : Bool := false
  /-- a MODULE reset waits for the twin's claim or 20 ms (R609) -/
  resetPending : Bool := false
  /-- messages not yet acknowledged, with the module time of the last transmission (R492) -/
  unacked : List (TwinMsg × Nat) := []
  mseqNext : Nat := 1
  /-- next MSEQ expected from LEAD; none until the first mirror or STATE -/
  mseqWant : Option Nat := none
  /-- mirrors queued during a resynchronisation (R514), oldest first -/
  queued : List Mirror := []
  resync : Resync := .idle
  /-- a resynchronisation is due and has not started (R514) -/
  wantResync : Bool := false
  /-- this resynchronisation could not take the shofar state (R514) -/
  shofarRefused : Bool := false
  reqMseq : Nat := 0
  /-- audio map and reed state that wait for an audio block boundary (R333, R514) -/
  audCopy : Option (AudCopy × List (Nat × ReedCopy)) := none
  /-- LEAD: a request is being served since this module time (R514) -/
  serving : Option Nat := none
  /-- LEAD has already sent this HEEL its state: TWIN stays selected there, and the wait for it is skipped (R514) -/
  served : Bool := false
  /-- the service pair has sent a bark since power-good (R494) -/
  barked : Bool := false
  /-- millisecond of local time of the last bark (R490); module time of the last BOOT bark -/
  barkMs : Option Nat := none
  bootAt : Option Nat := none
  /-- module time of the last health record (R513) -/
  healthAt : Option Nat := none
  /-- LEAD's count of 40 ms when HEEL came to wait for the step of R514 without a plane -/
  stepFrom : Option Nat := none
  /-- module time at which the twin became silent, while its contact report is kept (R497) -/
  silentAt : Option Nat := none
  /-- the double claim in progress has been counted (R503) -/
  doubled : Bool := false
  /-- LEAD's local time minus this module's at the last twin-link bark, in ns (R511) -/
  offset : Int := 0
  /-- output lanes that the withdrawal of R506 holds at electrical idle -/
  withdrawn : List Nat := []
  hseq : Nat := 0
  sniffSeq : Nat := 0
  sniffFail : Nat := 0
  sniffSkip : Nat := 0
  /-- kennel stacks that have failed in service (R505, R513) -/
  stackBad : Nat := 0
  /-- output lanes that left ACTIVE in the last 100 ms, with the module time of each, newest first (R505) -/
  laneDrops : List (Nat × Nat) := []
  /-- choices of LEAD waiting for the point they name (R509) -/
  choices : List Choice := []
  deriving DecidableEq, Repr

end Sys2Proof.Machine
end

