-- ==== Sys2Proof/Syntax.lean ====
section
/-! DEFINITION. The commands and events the module takes (spec/opcode_table.json), one constructor a row, with the operands
each carries: which unit it concerns and what arrives from outside with it (received symbols, bytes read from host memory, a
measured value). An operand named `t` is the module time at which it falls, in units of 2^-16 ns (log
entry 2). -/

namespace Sys2Proof

/-- Direction of a lane, input (to the module) or output. -/
inductive Dir where
  | inp | out
  deriving DecidableEq, Repr

/-- A received 10-bit symbol after 8b/10b decoding (R100, R101): a data character, a control character, a pattern outside the
code table, or a valid character of the wrong running disparity. -/
inductive Sym where
  | d (b : Byte)
  | k (c : Byte)
  | bad
  | disp (b : Byte)
  deriving DecidableEq, Repr

/-- Words that lie at equal distances in a slot's words of the frame in progress: number of the first, distance, how many. Streams of an
interface are interleaved word by word, so the words of a packet or a line need not be neighbours. -/
structure Run where
  first : Nat
  step : Nat := 1
  len : Nat
  deriving DecidableEq, Repr

/-- What the de-embedder reads from an audio packet of SMPTE ST 299-1 or ST 299-2 (R285, R286), found in sub-stream `link` of the
interface (link B of 3G level B is 1) with audio group number `ag`, from 1: of a data packet the outcome of its error check, and of
each sample its channel in the group and its instant (module time); of a control packet the rate it announces (0 48 kHz, 1 96 kHz,
2 another). -/
inductive AudPkt where
  | data (link ag : Nat) (ok : Bool) (samples : List (Nat × Nat))
  | control (link ag rate : Nat)
  deriving DecidableEq, Repr

/-- An ancillary data packet completed in a block: slot of the lane, and where the packet's words lie, from its DID to its checksum, as
the line tracker finds them; `audio` where it is an audio packet, `second` where it lies in the second field of its frame. -/
structure Anc where
  slot : Nat
  words : Run
  second : Bool := false
  audio : Option AudPkt := none
  deriving DecidableEq, Repr

/-- What the line tracker and the measurement stage found in a frame of an input slot (R138, R141, R201): the format its structure is (0
none of the table), where its payload identifier lies and the format that names, the module time at which the frame's first word arrived at
the lands, lines with a failed CRC, where the samples of its active picture lie (chroma and luma in turn, line by line from the top), and
how many words of the slot have arrived since the frame's last. -/
structure FrameIn where
  fmt : Nat
  vpid : Option Run
  vpidFmt : Nat
  start : Nat
  badLines : Nat
  picture : List Run
  back : Nat := 0
  deriving DecidableEq, Repr

/-- A meter register (R345, R347, R348). -/
inductive MeterReg where
  | pk (p : Nat)
  | ch (q k : Nat)
  | ctl (q : Nat)
  deriving DecidableEq, Repr

/-- Hold times of R201. -/
inductive Hold where
  | black | blackClear | freeze | freezeClear | loss
  deriving DecidableEq, Repr

/-- What an RTP packet carries, as its payload format lays it out (R398 to R401): for video, whether it belongs to the second field, and per
sample row data header the row of its field or frame, the pixel offset and the samples; for ancillary data whether they belong to the second
field, and the packets' words; for audio one list of ring words per sample period, a word per channel; for ST 2110-22 nothing. -/
inductive Payload where
  | video (second : Bool) (rows : List (Nat × Nat × List Word10))
  | anc (second : Bool) (packets : List (List Word10))
  | audio (periods : List (List Nat))
  | opaque_
  deriving DecidableEq, Repr

/-- What the monitors measure of a reference over its window (R437): whether the window has filled, frequency offset in ppb, drift
rate in ppb/s, for PTP the distance of the offset from its linear trend in ns, and the frame rate code of a video input. -/
structure RefMeas where
  filled : Bool
  freq : Int
  drift : Int
  trend : Nat := 0
  rate : Nat := 0
  deriving DecidableEq, Repr

/-- A PTP message of a domain and source port that an instance processes (R461). An Announce carries the data set that the default best
master clock algorithm compares, in its order (priority1, clockClass, clockAccuracy, offsetScaledLogVariance, priority2,
grandmasterIdentity), with stepsRemoved and currentUtcOffset, and like a Delay_Resp the binary logarithm of its message interval in
seconds; times are units of 2^-16 ns, corrections applied: t1 and t4 of the master's clock, `arrived` the module time at which the message
passed the port's timestamp point. -/
inductive PtpMsg where
  | announce (ds : List Nat) (steps utc : Nat) (utcValid : Bool) (interval : Int)
  | sync (seq arrived : Nat) (t1 : Option Nat)
  | followUp (seq t1 : Nat)
  | delayResp (seq t4 : Nat) (interval : Int)
  | other
  deriving DecidableEq, Repr

/-- A burst that a master of the control fabric holds when it is reset (R673): target code, beats transferred, whether it writes, and its
fabric address. -/
structure Burst where
  target : Nat
  beats : Nat
  write : Bool
  addr : Nat
  deriving DecidableEq, Repr

/-- What a register write meets outside the registers: the rows of the persistent store whose cells fail a store (R631), the burst that a
relock cuts short, those that a MODULE reset cuts short (R673), and the descriptors that the module reads after a write of a network
ring's tail, with the bytes of their buffers (R553, R554). -/
structure RegEnv where
  bad : List Nat := []
  burst : Option Burst := none
  cut : List (Nat × Burst) := []
  descs : List (List Byte × Option (List Byte)) := []
  deriving DecidableEq, Repr

/-- What a sniff cycle finds (R512, R632): failing steps (bit s - 1 for step s), the row of the persistent store that step 6 reads, the words
of it that it corrects, and the rows whose cells fail a store. -/
structure SniffFind where
  fails : Nat := 0
  row : Nat := 0
  corr : Nat := 0
  bad : List Nat := []
  deriving DecidableEq, Repr

/-- What a step of the bring-up sequence finds (R597, R600, R601): faults by code and unit, the fuses (step 2), the rows of the persistent
store that fail their check, and whether the CHAIN of the newest audit record fails (step 7). Units: for REGULATOR the domain number of
R699, for LANE_CAL that of the lane group, for TWIN_CAL 0 the twin link and 1 WATCH, else the index of the port, input, stack or bank. -/
structure BootFind where
  faults : List (Nat × Nat) := []
  id : Nat := 0
  ae : Bool := false
  stepMaj : Nat := 0
  stepMin : Nat := 0
  rows : List Nat := []
  corr : List Nat := []
  cut : Bool := false
  deriving DecidableEq, Repr

/-- The commands and events of the module. -/
inductive Instr where
  /-- POWER_GOOD_RISE (R593) -/
  | powerGoodRise (t : Nat) (sideB cold removed : Bool)
  /-- POWER_GOOD_FALL (R593) -/
  | powerGoodFall (t : Nat)
  /-- BRINGUP_STEP_END (R597) -/
  | bringupStepEnd (t : Nat) (f : BootFind) (bad : List Nat)
  /-- BRINGUP_STEP_TIMEOUT (R597) -/
  | bringupStepTimeout (t code unit : Nat) (bad : List Nat)
  /-- COLD_HOLD_RELEASE (R755) -/
  | coldHoldRelease (t : Nat)
  /-- ELECTRONIC_FUSE_OPEN (R738) -/
  | electronicFuseOpen (t : Nat)
  /-- SOFT_RESET (R608) -/
  | softReset (t key : Nat) (bad : List Nat) (bursts : List (Nat × Burst))
  /-- MODULE_RESET_PROCEED (R609) -/
  | moduleResetProceed (t : Nat) (bad : List Nat) (bursts : List (Nat × Burst))
  /-- HOST_PERST_N (R595) -/
  | hostPerstN (t : Nat) (burst : Option Burst)
  /-- FUNCTION_LEVEL_RESET (R557) -/
  | functionLevelReset (t : Nat) (burst : Option Burst)
  /-- D3HOT_ENTRY (R529) -/
  | d3hotEntry (t : Nat)
  /-- D0_RETURN (R529) -/
  | d0Return (t : Nat)
  /-- SLEEP (R713) -/
  | sleep (t key : Nat) (bad : List Nat)
  /-- SLEEP_WAKE (R714) -/
  | sleepWake (t cause : Nat)
  /-- IMAGE_BOOT_LOAD (R578) -/
  | imageBootLoad (t : Nat) (bad : List Nat)
  /-- IMAGE_RESET (R580) -/
  | imageReset (t : Nat) (bad : List Nat) (pulses : List (Nat × Nat))
  /-- SIGNAL_DETECT_RISE (R69) -/
  | signalDetectRise (t n : Nat)
  /-- SIGNAL_DETECT_FALL (R76) -/
  | signalDetectFall (t n : Nat)
  /-- TRAINING_SET_RX (R63): `eqOk`: the error metric has been below its limit for 1 ms; `request`: the preset that the receiver asks
  for (R65) -/
  | trainingSetRx (t n : Nat) (body : List Byte) (inverted spaced eqOk : Bool) (request : Nat)
  /-- TRAINING_ATTEMPT_TIMEOUT (R65) -/
  | trainingAttemptTimeout (t : Nat) (dir : Dir) (n : Nat)
  /-- BACKOFF_EXPIRE (R68) -/
  | backoffExpire (t : Nat) (dir : Dir) (n : Nat)
  /-- QUIET_PROBE_TIMER (R69) -/
  | quietProbeTimer (t : Nat) (dir : Dir) (n : Nat)
  /-- ONE_WAY_TRAIN_TIMER (R67) -/
  | oneWayTrainTimer (t n : Nat)
  /-- LANE_BLOCK_TX (R60) -/
  | laneBlockTx (t : Nat)
  /-- LANE_BLOCK_RX (R107) -/
  | laneBlockRx (t n : Nat) (syms : List Sym) (transitions : Nat) (anc : List Anc)
  /-- ALIGNMENT_TIMEOUT (R62) -/
  | alignmentTimeout (t n : Nat)
  /-- CDR_LOCK_LOSS (R62) -/
  | cdrLockLoss (t n : Nat)
  /-- FAST_RETRAIN_TIMEOUT (R79) -/
  | fastRetrainTimeout (t : Nat) (dir : Dir) (n : Nat)
  /-- IDLE_LIMIT_EXPIRE (R76) -/
  | idleLimitExpire (t n : Nat)
  /-- LNI_TARGET_STATE (R86) -/
  | lniTargetState (t n target : Nat)
  /-- LNI_RETRAIN (R80) -/
  | lniRetrain (t n : Nat)
  /-- LNI_CLR_CNT (R86) -/
  | lniClrCnt (n : Nat)
  /-- LNO_TARGET_STATE (R77) -/
  | lnoTargetState (t n target : Nat)
  /-- LNO_RETRAIN (R95) -/
  | lnoRetrain (t n : Nat)
  /-- LNO_CLR_CNT (R95) -/
  | lnoClrCnt (n : Nat)
  /-- LNO_TEST (R117) -/
  | lnoTest (n : Nat) (on : Bool)
  /-- INPUT_FRAME_END (R141) -/
  | inputFrameEnd (t k : Nat) (fr : FrameIn)
  /-- MEASUREMENT_HOLD_EXPIRE (R201) -/
  | measurementHoldExpire (t k : Nat) (hold : Hold)
  /-- FLOW_WRITER_TIMEOUT (R191) -/
  | flowWriterTimeout (t a : Nat)
  /-- KENNEL_READER_CHOICE (R186) -/
  | kennelReaderChoice (t a p : Nat)
  /-- ARM_DEADLINE (R151) -/
  | armDeadline (t o : Nat)
  /-- SWITCHING_POINT (R142) -/
  | switchingPoint (t o : Nat) (bad : List Nat)
  /-- WINDOW_EXIT (R153) -/
  | windowExit (t k : Nat)
  /-- NOFMT_TIMEOUT (R758) -/
  | nofmtTimeout (t k : Nat)
  /-- TAKE (R156) -/
  | take (t r : Nat) (raw : List Byte)
  /-- SALVO (R159) -/
  | salvo (t r : Nat) (raw : List Byte) (list : Option (List Byte))
  /-- XPT_CLR_CNT (R167) -/
  | xptClrCnt
  /-- FREEZE (R198) -/
  | freeze (t r : Nat) (raw : List Byte)
  /-- UNFREEZE (R198) -/
  | unfreeze (t r : Nat) (raw : List Byte)
  /-- CAPTURE (R196) -/
  | capture (t r : Nat) (raw : List Byte)
  /-- CAPTURE_DONE (R200) -/
  | captureDone (t uid : Nat)
  /-- STILL_SELECT (R196) -/
  | stillSelect (t r : Nat) (raw : List Byte)
  /-- KNL_CLR_CNT (R204) -/
  | knlClrCnt
  /-- HEAD_FRAME_BOUNDARY (R220) -/
  | headFrameBoundary (t e : Nat) (bad : List Nat)
  /-- CMP_SHADOW (R234) -/
  | cmpShadow (t r : Nat) (raw : List Byte) (list : Option (List Byte))
  /-- CMP_COMMIT (R235) -/
  | cmpCommit (t r : Nat) (raw : List Byte)
  /-- CMP_CLR_CNT (R256) -/
  | cmpClrCnt
  /-- BUNDLE_LOAD (R246) -/
  | bundleLoad (t r : Nat) (raw : List Byte) (list : Option (List Byte))
  /-- BUNDLE_IN_FORCE (R246) -/
  | bundleInForce (t uid : Nat) (bad : List Nat)
  /-- SHOFAR_REQ (R252) -/
  | shofarReq (t r : Nat) (raw : List Byte) (list : Option (List Byte))
  /-- SHOFAR_REQ_CHECKED (R253) -/
  | shofarReqChecked (t uid : Nat) (bad : List Nat)
  /-- ALARM_LOOP_SAMPLE (R751) -/
  | alarmLoopSample (t x ohms : Nat)
  /-- ALARM_LOOP_GAP_TIMEOUT (R751) -/
  | alarmLoopGapTimeout (t x : Nat)
  /-- CONTACT_DEBOUNCE_DONE (R248) -/
  | contactDebounceDone (t x : Nat) (bad : List Nat)
  /-- CONTACT_RESTORE_EXPIRE (R249) -/
  | contactRestoreExpire (t k : Nat) (bad : List Nat)
  /-- AUDIO_BLOCK_BOUNDARY (R278) -/
  | audioBlockBoundary (t : Nat)
  /-- AUD_MAP (R297) -/
  | audMap (t r : Nat) (raw : List Byte) (list : Option (List Byte))
  /-- AUD_CLR_CNT (R301) -/
  | audClrCnt
  /-- REED_NOP (R322) -/
  | reedNop (e : Nat)
  /-- REED_END (R324) -/
  | reedEnd (e : Nat)
  /-- SETX (R322) -/
  | setx (e : Nat)
  /-- ADDX (R322) -/
  | addx (e : Nat)
  /-- LOOP (R328) -/
  | loop (e : Nat)
  /-- LDI (R322) -/
  | ldi (e : Nat)
  /-- STO (R322) -/
  | sto (e : Nat)
  /-- LDS (R322) -/
  | lds (e : Nat)
  /-- STS (R322) -/
  | sts (e : Nat)
  /-- LDA (R322) -/
  | lda (e : Nat)
  /-- STA (R320) -/
  | sta (e : Nat)
  /-- CLR (R322) -/
  | clr (e : Nat)
  /-- MUL (R318) -/
  | mul (e : Nat)
  /-- MAC (R319) -/
  | mac (e : Nat)
  /-- MSU (R319) -/
  | msu (e : Nat)
  /-- MACR (R324) -/
  | macr (e : Nat)
  /-- MACV (R322) -/
  | macv (e : Nat)
  /-- BIQ (R325) -/
  | biq (e : Nat)
  /-- TLU (R327) -/
  | tlu (e : Nat)
  /-- VALU (R326) -/
  | valu (e : Nat)
  /-- REE_WRITE (R331) -/
  | reeWrite (t r : Nat) (raw : List Byte) (list : Option (List Byte))
  /-- REE_CLR_CNT (R338) -/
  | reeClrCnt
  /-- PK_CLR_MAX (R345) -/
  | pkClrMax (p : Nat)
  /-- LD_CLR_MAX (R348) -/
  | ldClrMax (q : Nat)
  /-- LD_RESET_INT (R348) -/
  | ldResetInt (q : Nat)
  /-- METER_CONFIG_WRITE (R336) -/
  | meterConfigWrite (reg : MeterReg) (value : Nat)
  /-- MAC_FRAME_RX (R357) -/
  | macFrameRx (t k : Nat) (frame : List Byte) (began fifo corr uncorr : Nat)
  /-- PAUSE_TAKE_EFFECT (R369) -/
  | pauseTakeEffect (t k : Nat)
  /-- PAUSE_TIMER_EXPIRE (R369) -/
  | pauseTimerExpire (t k : Nat)
  /-- MAC_FRAME_TX (R366) -/
  | macFrameTx (t k : Nat)
  /-- LINK_UP (R354) -/
  | linkUp (t k : Nat) (remote : Bool)
  /-- LINK_DOWN (R354) -/
  | linkDown (t k : Nat) (loc : Bool)
  /-- ETH_STEP_WINDOW (R372) -/
  | ethStepWindow (t p : Nat)
  /-- ETH_PORT_IDLE_TIMEOUT (R702) -/
  | ethPortIdleTimeout (t p : Nat)
  /-- FLUSH_MEDIA_RX (R365) -/
  | flushMediaRx (t k : Nat)
  /-- FLUSH_CTL_RX (R365) -/
  | flushCtlRx (t k : Nat)
  /-- FLUSH_CTL_TX (R365) -/
  | flushCtlTx (t k : Nat)
  /-- FLUSH_DONE (R365) -/
  | flushDone (t k q : Nat)
  /-- ETH_CLR_CNT (R382) -/
  | ethClrCnt
  /-- SNAP_ARM (R377) -/
  | snapArm
  /-- SNAP_HOLD (R377) -/
  | snapHold (on : Bool)
  /-- SNAPSHOT_BOUNDARY (R35) -/
  | snapshotBoundary (t : Nat)
  /-- SNAPSHOT_COPY_DONE (R377) -/
  | snapshotCopyDone (t : Nat)
  /-- FLOW_PACKET_RX (R397) -/
  | flowPacketRx (t k : Nat) (pl : Payload)
  /-- POSITION_LOST (R405) -/
  | positionLost (t c : Nat)
  /-- PATH_DOWN_TIMEOUT (R407) -/
  | pathDownTimeout (t c : Nat) (b : Bool)
  /-- FLOW_VIDEO_PACKET_TX (R409) -/
  | flowVideoPacketTx (t c : Nat)
  /-- FLOW_ANC_PACKET_TX (R410): line number and horizontal offset as the payload gives them -/
  | flowAncPacketTx (t c line offset : Nat)
  /-- FLOW_AUDIO_PACKET_TX (R411) -/
  | flowAudioPacketTx (t c : Nat)
  /-- OPAQUE_RELAY_TX (R403) -/
  | opaqueRelayTx (t c : Nat)
  /-- FLW_CTX (R419) -/
  | flwCtx (t r : Nat) (raw : List Byte) (list : Option (List Byte))
  /-- FLW_RX_RECORD_COMMIT (R420) -/
  | flwRxRecordCommit (t : Nat)
  /-- FLW_CLR_CNT (R424) -/
  | flwClrCnt
  /-- REF_ACTIVITY_LOSS (R437) -/
  | refActivityLoss (t n : Nat)
  /-- REF_WINDOW_UPDATE (R437) -/
  | refWindowUpdate (t n : Nat) (m : RefMeas)
  /-- REF_WTR_EXPIRE (R438) -/
  | refWtrExpire (t n : Nat)
  /-- TRANSITION_MEASURE_END (R442) -/
  | transitionMeasureEnd (t : Nat)
  /-- PIP_FORCE_EN (R440) -/
  | pipForceEn (t : Nat) (en : Bool) (ref : Nat)
  /-- PIP_FORCE_HOLD (R440) -/
  | pipForceHold (t : Nat) (on : Bool)
  /-- REF_PRIO_WRITE (R439) -/
  | refPrioWrite (t n prio : Nat) (lockout : Bool) (bad : List Nat)
  /-- PIP_CLR_CNT (R463) -/
  | pipClrCnt
  /-- PLANE_FRAME_BOUNDARY (R452) -/
  | planeFrameBoundary (t p : Nat) (pulse : Option Nat)
  /-- HARD_REALIGN (R451) -/
  | hardRealign (t p : Nat)
  /-- PULSE_EVENT (R454) -/
  | pulseEvent (t k src : Nat)
  /-- PULSE_CONFIG_WRITE (R454) -/
  | pulseConfigWrite (t k cfg offset : Nat)
  /-- TIME_SERVO_UPDATE (R458) -/
  | timeServoUpdate (t : Nat) (theta : Int)
  /-- LOCAL_TIME_SECOND (R460) -/
  | localTimeSecond (t : Nat)
  /-- TIM_SET_APPLY (R460) -/
  | timSetApply (t : Nat)
  /-- TIM_CLR_CNT (R478) -/
  | timClrCnt
  /-- PTP_CFG_WRITE (R482) -/
  | ptpCfgWrite (t k value : Nat)
  /-- PTP_MESSAGE_RX (R461) -/
  | ptpMessageRx (t k domain : Nat) (src : Nat × Nat) (msg : PtpMsg)
  /-- ANNOUNCE_TIMEOUT (R485) -/
  | announceTimeout (t k : Nat)
  /-- BARK_TX (R490) -/
  | barkTx (t : Nat)
  /-- BOOT_BARK (R494) -/
  | bootBark (t : Nat)
  /-- BARK_RX (R496) -/
  | barkRx (t path : Nat) (bytes : List Byte)
  /-- PATH_LOST (R496) -/
  | pathLost (t path : Nat)
  /-- HANDSHAKE_TIMEOUT (R500) -/
  | handshakeTimeout (t : Nat)
  /-- EVIDENCE_TIMER (R502) -/
  | evidenceTimer (t : Nat)
  /-- CLAIM_WATCHDOG_EXPIRY (R506) -/
  | claimWatchdogExpiry (t : Nat)
  /-- YIELD_TIMER (R506) -/
  | yieldTimer (t : Nat)
  /-- WITHDRAW_END (R506) -/
  | withdrawEnd (t : Nat)
  /-- LOCKSTEP_MISMATCH (R33) -/
  | lockstepMismatch (t p : Nat) (burst : Option Burst)
  /-- FIT_RESTORE_TIMER (R505) -/
  | fitRestoreTimer (t k : Nat)
  /-- MIRROR (R507) -/
  | mirror (t : Nat) (m : Machine.Mirror)
  /-- MIRROR_ACK (R492) -/
  | mirrorAck (t mseq : Nat)
  /-- COMMIT_RPT (R507) -/
  | commitRpt (t mseq : Nat) (applied : Bool)
  /-- DECISION (R509) -/
  | decision (t : Nat) (c : Machine.Choice)
  /-- HEALTH (R513) -/
  | health (t : Nat) (record : List Byte)
  /-- RESYNC_REQ (R514) -/
  | resyncReq (t mseq : Nat)
  /-- RESYNC_ACK (R492) -/
  | resyncAck (t mseq : Nat)
  /-- STATE (R514) -/
  | state (t mseq : Nat) (c : Machine.TwinCopy)
  /-- STATE_ACK (R492) -/
  | stateAck (t : Nat)
  /-- MESSAGE_RETRANSMIT (R492) -/
  | messageRetransmit (t : Nat)
  /-- HEALTH_RECORD_TX (R513) -/
  | healthRecordTx (t : Nat)
  /-- SNIFF_CYCLE_START (R512) -/
  | sniffCycleStart (t : Nat) (found : SniffFind)
  /-- TWN_YIELD (R500) -/
  | twnYield (t : Nat)
  /-- TWN_TAKE (R500) -/
  | twnTake (t : Nat)
  /-- TWN_RESYNC (R514) -/
  | twnResync (t : Nat)
  /-- TWN_FEED_BOTH (R510) -/
  | twnFeedBoth (t : Nat) (on : Bool)
  /-- TWN_CLR_CNT (R518) -/
  | twnClrCnt
  /-- SQ_DOORBELL (R535) -/
  | sqDoorbell (t r tail : Nat)
  /-- SQ_READ_ERROR (R535) -/
  | sqReadError (t r : Nat) (burst : Option Burst)
  /-- SQ_ENABLE (R534) -/
  | sqEnable (t r value : Nat)
  /-- CQ_HEAD_WRITE (R537) -/
  | cqHeadWrite (t r head : Nat)
  /-- NOP (R541) -/
  | nop (t r : Nat) (raw : List Byte)
  /-- FENCE (R541) -/
  | fence (t r : Nat) (raw : List Byte)
  /-- EVENT_POP (R550) -/
  | eventPop
  /-- EVENT_ARM (R556) -/
  | eventArm
  /-- ACCESS_ERR_READ (R550) -/
  | accessErrRead
  /-- MSIX_COALESCE_TIMEOUT (R556) -/
  | msixCoalesceTimeout (t r : Nat)
  /-- NET_TX_DOORBELL (R553) -/
  | netTxDoorbell (t n tail : Nat) (descs : List (List Byte × Option (List Byte)))
  /-- NET_TX_READ_ERROR (R553) -/
  | netTxReadError (t n : Nat) (burst : Option Burst)
  /-- NET_RX_TAIL (R554) -/
  | netRxTail (t n tail : Nat) (descs : List (List Byte))
  /-- HIF_CLR_CNT (R559) -/
  | hifClrCnt
  /-- BAR0_ACCESS_REFUSED (R12) -/
  | bar0AccessRefused (t off size : Nat) (write : Option Nat)
  /-- BAR2_ACCESS (R532) -/
  | bar2Access (t off size : Nat) (write : Option (List Byte))
  /-- REGISTER_WRITE (R530) -/
  | registerWrite (t off value : Nat) (env : RegEnv)
  /-- IMAGE_WRITE (R577) -/
  | imageWrite (t r : Nat) (raw : List Byte) (list : Option (List Byte)) (bad : List Nat)
  /-- IMAGE_WRITE_DONE (R577) -/
  | imageWriteDone (t : Nat) (ok : Bool)
  /-- IMAGE_RELOAD (R579) -/
  | imageReload (t r : Nat) (raw : List Byte) (list : Option (List Byte))
  /-- IMAGE_VALIDATED (R579) -/
  | imageValidated (t : Nat) (bad : List Nat)
  /-- RB_COMMIT (R581) -/
  | rbCommit (t : Nat) (bad : List Nat)
  /-- LABEL_COMMIT (R627) -/
  | labelCommit (t x : Nat) (bad : List Nat)
  /-- LABEL_COMMIT_DONE (R627) -/
  | labelCommitDone (t : Nat) (bad : List Nat)
  /-- GRANT (R643) -/
  | grant (t : Nat) (bad : List Nat)
  /-- GRANT_CLEAR (R640) -/
  | grantClear (t : Nat) (bad : List Nat)
  /-- KEY_SET (R635) -/
  | keySet (t : Nat) (bad : List Nat)
  /-- LIFECYCLE (R637) -/
  | lifecycle (t : Nat) (env : RegEnv)
  /-- EVAL_FIX (R646) -/
  | evalFix (t : Nat) (bad : List Nat)
  /-- CLASS_REQ (R640) -/
  | classReq (t : Nat) (bad : List Nat)
  /-- AUDIT_READ (R640) -/
  | auditRead (t : Nat) (bad : List Nat)
  /-- AUDIT_SIGN (R640) -/
  | auditSign (t : Nat) (bad : List Nat)
  /-- DEVICE_KEY (R640) -/
  | deviceKey (t : Nat) (bad : List Nat)
  /-- CHALLENGE_GET (R644) -/
  | challengeGet (t : Nat)
  /-- CHALLENGE_ANSWER (R644) -/
  | challengeAnswer (t level : Nat) (bad : List Nat)
  /-- NONCE_EXPIRE (R644) -/
  | nonceExpire (t : Nat)
  /-- DEBUG_LOCKOUT_EXPIRE (R645) -/
  | debugLockoutExpire (t : Nat)
  /-- EXTEST (R677) -/
  | extest (t cells : Nat)
  /-- SAMPLE_PRELOAD (R675) -/
  | samplePreload (t cells : Nat)
  /-- IDCODE (R676) -/
  | idcode (t : Nat)
  /-- HIGHZ (R677) -/
  | highz (t tdi : Nat)
  /-- CLAMP (R677) -/
  | clamp (t tdi : Nat)
  /-- DBG_ACCESS (R678) -/
  | dbgAccess (t op off data : Nat) (bad : List Nat)
  /-- DBG_CHAL (R678) -/
  | dbgChal (t op off data : Nat) (bad : List Nat)
  /-- BYPASS (R675) -/
  | bypass (t code tdi : Nat)
  /-- TRST_N (R675) -/
  | trstN (t : Nat)
  /-- DBG_RELOCK (R679) -/
  | dbgRelock (t : Nat) (burst : Option Burst)
  /-- DBG_MODULE_RESET (R686) -/
  | dbgModuleReset (t key : Nat) (bad : List Nat) (bursts : List (Nat × Burst))
  /-- DBG_HALT (R682) -/
  | dbgHalt (t : Nat)
  /-- DBG_RESUME (R682) -/
  | dbgResume (t : Nat)
  /-- DBG_STEP (R682) -/
  | dbgStep (t : Nat)
  /-- DBG_HALT_AT_BLOCK (R683) -/
  | dbgHaltAtBlock (t : Nat)
  /-- BREAKPOINT_HIT (R682) -/
  | breakpointHit (t u b : Nat)
  /-- DBG_MEM_GO (R687) -/
  | dbgMemGo (t value : Nat)
  /-- DBG_MEM_DONE (R687) -/
  | dbgMemDone (t : Nat) (bad : List Nat)
  /-- DOMAIN_START_FAIL (R705) -/
  | domainStartFail (t d : Nat)
  /-- SENSOR_UPDATE (R709) -/
  | sensorUpdate (t : Nat) (temps : List Int)
  /-- THERMAL_WARNING_HELD (R710) -/
  | thermalWarningHeld (t : Nat)
  /-- FEED_MEASURE (R708) -/
  | feedMeasure (t dv dw : Nat)
  /-- MON_CLR_MAX (R722) -/
  | monClrMax
  /-- MON_CLR_CNT (R722) -/
  | monClrCnt
  /-- DOMAIN_REACHES_ON (R704) -/
  | domainReachesOn (t d : Nat)
  /-- PLL_LOCKED (R79) -/
  | pllLocked (t : Nat) (dir : Dir) (n : Nat)
  /-- CDR_LOCK_ACQUIRED (R65) -/
  | cdrLockAcquired (t n : Nat)
  /-- FORWARDED_CLOCK_ACTIVITY (R59) -/
  | forwardedClockActivity (t g : Nat) (active : Bool)
  /-- SRAM_UNCORRECTABLE_ERROR (R505) -/
  | sramUncorrectableError (t k : Nat) (access : Option (Nat × Burst))
  /-- KENNEL_STACK_FAILURE (R505) -/
  | kennelStackFailure (t k : Nat)
  /-- CLOCK_MONITOR_FAILURE (R505) -/
  | clockMonitorFailure (t : Nat)
  /-- LEAD_FRAME_DECISION (R509) -/
  | leadFrameDecision (t : Nat) (layer : Bool) (a p : Nat) (endAt : Option Nat)
  /-- DELAY_REQ_TX (R461) -/
  | delayReqTx (t k : Nat)
  /-- HOST_PERST_N_DEASSERT (R595) -/
  | hostPerstNDeassert (t : Nat)
  /-- CONFIGURATION_SPACE_READY (R595) -/
  | configurationSpaceReady (t : Nat)
  /-- MSIX_MASK_WRITE (R555) -/
  | msixMaskWrite (v : Nat) (masked : Bool)
  /-- LATCHED_READ (R14) -/
  | latchedRead (t off : Nat)
  deriving DecidableEq, Repr

end Sys2Proof
end

