-- ==== Sys2Proof/Decode.lean ====
section
/-! DEFINITION. The command a word spells by the table's bits. The table gives no bits to any row (the module takes commands
and events, not instruction words), so no word spells one. -/

namespace Sys2Proof

/-- No row of the table carries an encoding. -/
def decodeTableWord (_nbits _w : Nat) : Option Instr := none

end Sys2Proof
end

