-- ==== Sys2Proof/Config.lean ====
section
/-! DEFINITION. What an implementation of the module fixes and what the manual leaves open. Every `opaque` here is a free value:
it has no body, nothing can be proved of what it returns, and a statement about the model holds whatever it is. -/

namespace Sys2Proof.Config

/-- A fresh unconstrained natural for each draw: the model applies it to the counter `State.freeCtr` and takes it modulo the
width it needs. Used for results that the manual states no value for (log entry 4). -/
opaque freeNat : Nat → Nat

/-- Result of an ECDSA P-384 verification over SHA-384 (R253, R567 ff.): key bytes, signed bytes, signature bytes. The manual
names the algorithm and does not restate it (log entry 5). -/
opaque ecdsaVerify : List Byte → List Byte → List Byte → Bool

/-- Signature by the DEVICE private key (R640). -/
opaque deviceSign : List Byte → List Byte

/-- Signature that Tvedair made at manufacture over the identity and the DEVICE public key (R640): byte by byte. -/
opaque deviceCert : Nat → Byte

/-- SHA-384 digest, 48 bytes (log entry 5). -/
opaque sha384 : List Byte → List Byte

/-- Contents of the boot ROM, and of the rows of the persistent store whose layout the manual does not give (R623): byte by byte (log
entry 41). -/
opaque romByte : Nat → Byte
opaque storeByte : Nat → Nat → Byte

/-- What a byte of kennel or SRAM that nothing of the model holds reads as: draw number and address (log entry 32). -/
opaque memByte : Nat → Nat → Byte

/-- Public key that a slot holds when the module is made (R634): VENDOR_ROOT in slot 0, on a WX2048-A the reference image key in
slot 8. The manual does not print them. -/
opaque factoryKey : Nat → List Byte

/-- An inexact quotient is rounded up: dividend, divisor (R223, R228, R245, R290). The rules that divide state no rounding (log entries
24 and 25). -/
opaque roundsUp : Int → Nat → Bool

/-- Coefficients of scaler sets SOFT, NORMAL and SHARP (0 to 2; R229): set, the ratio that remains after decimation as numerator and
denominator, vertical, phase (log entry 24). -/
opaque filterCoef : Nat → Nat → Nat → Bool → Nat → List Int

/-- Source positions that the filter's taps read for an output position, and the phase; for NEAREST the one position (R228, R229): vertical,
a chroma component, start and size of crop and destination, output position (log entry 24). -/
opaque tapAt : Bool → Bool → List Int → Nat → List Nat × Nat
opaque nearestAt : Bool → Bool → List Int → Nat → Nat

/-- The text of a label covers a pixel of its bar: text, height of the bar, pixel and line (R223; log entry 24). -/
opaque glyph : List Byte → Nat → Nat → Nat → Bool

/-- Where border and label bar meet, the bar lies above (log entry 24). -/
opaque barOverBorder : Bool

/-- The colourimetry that a payload identifier names is not that of a head of this format (R225; log entry 24). -/
opaque otherColour : Nat → Nat → Bool

/-- Words of one SDI frame that a reader regenerates (R190): format, picture samples in the order of transmission, ancillary packets,
payload identifier. The
SMPTE interface standards give blanking, TRS, line numbers and CRCs; the manual names them and does not restate them (log
entry 5). -/
opaque sdiFrame : Nat → List Word10 → List (List Word10) → Option Nat → List Word10

/-- Ancillary packets of a frame whose ancillary area host software has written: the packets stored, and the bytes written by offset.
The manual gives packets no layout in the area (R179, R200; log entry 17). -/
opaque ancPackets : List (List Word10) → List (Nat × Byte) → List (List Word10)

/-- A packet is an audio data packet of SMPTE ST 299-1 or ST 299-2, which a repeated frame leaves out (R187). -/
opaque isAudioData : List Word10 → Bool

/-- Bit of a generated AES3 channel-status block for linear PCM of 24 bits (R288): at 96 kHz, position in the block of 192 (log
entry 25). -/
opaque csBit : Bool → Nat → Bool

/-- True peak magnitude of a block (R334): a 96 kHz pair, earlier samples the filter of ITU-R BS.1770 Annex 2 still uses, newest
first, and the block's samples, as 24-bit patterns (log entry 26). -/
opaque truePeak : Bool → List Nat → List Nat → Nat

/-- K-weighting of ITU-R BS.1770 (R335): a 96 kHz pair, filter state, the block's samples; the next filter state and the block's
energy, the unit of which is not the manual's (log entry 26). -/
opaque kWeight : Bool → List Nat → List Nat → List Nat × Nat

/-- -0.691 + 10 log10 of a weighted energy (hundredths of the weights 1.0 and 1.41) over a number of blocks, in 0.01 LU, rounded to
nearest, as a 16-bit pattern (R335; log entry 26). -/
opaque loudness : Nat → Nat → Nat

/-- Gating blocks that pass the gates of EBU R 128 (R335): of the energies of all, those included (log entry 26). -/
opaque gated : List Nat → List Nat

/-- The word of an audio packet that the embedder writes at a position of a frame, if it writes one there (R288): format, frame of the
five-frame sequence, position, the samples of each RINGS group. ST 299-1 and ST 299-2 are named and not restated (log entry 5). -/
opaque audioWord : Nat → Nat → Nat → List (Nat × List (List Nat)) → Option Word10

/-- The audio group of whose data or control packet word `k` of a slot's words is a part (R287; log entry 5). -/
opaque audioGroup : List Word10 → Nat → Option Nat

/-- The word of blanking at a position of a frame of a format (log entry 5). -/
opaque blankWord : Nat → Nat → Word10

/-- Ring word of a sample of an audio data packet: words of the packet, channel, number of the sample among those of its channel
(R275, R286; log entry 5). -/
opaque audioSample : List Word10 → Nat → Nat → Nat

/-- Payload identifier generated for a format (R399; SMPTE ST 352, log entry 5). -/
opaque vpidOf : Nat → Nat

/-- The default TR_OFFSET of ST 2110-21 for a format, in time units (R409; named and not restated, log entry 28). -/
opaque trOffset : Nat → Nat

/-- RTP payload of packet `j` of a video frame (R409): format, bytes of samples a packet, packet number, extended sequence number,
picture. ST 2110-20's payload header and pgroup are named and not restated (log entry 28). -/
opaque rtpVideo : Nat → Nat → Nat → Nat → List Word10 → List Byte

/-- RTP payload of an ancillary packet, or of none, at a line number and horizontal offset (R410; RFC 8331, log entry 28). -/
opaque rtpAnc : Nat → Nat → Option (List Word10) → List Byte

/-- A packet is an audio data or audio control packet of ST 299-1 or ST 299-2; is the ST 352 packet (R410). -/
opaque isAudioPacket : List Word10 → Bool
opaque isVpidPacket : List Word10 → Bool

/-- The AM824 word of a ring word (R411; ST 2110-31, log entry 28). -/
opaque am824 : Nat → List Byte

end Sys2Proof.Config
end

