-- ==== Sys2Proof/Machine/Maps.lean ====
section
/-! DEFINITION. Sparse tables: lists of (key, value) pairs in one canonical form, strictly rising keys and no entry that
holds the value an unlisted key reads as. Every large array of the module (register fields of 16,384 slots, 262,144 rings,
kennel pages) is held so. -/

namespace Sys2Proof.Machine

/-- What a table holds at key `i`; `d` where no entry is listed. -/
def mget {α : Type} (d : α) : List (Nat × α) → Nat → α
  | [], _ => d
  | (k, v) :: m, i => if k = i then v else mget d m i

/-- Put an entry at its place in rising order, replacing one with the same key. -/
def minsert {α : Type} (i : Nat) (v : α) : List (Nat × α) → List (Nat × α)
  | [] => [(i, v)]
  | (k, w) :: m => if i < k then (i, v) :: (k, w) :: m else if i = k then (i, v) :: m else (k, w) :: minsert i v m

/-- Remove every entry with key `i`. -/
def mdrop {α : Type} (i : Nat) (m : List (Nat × α)) : List (Nat × α) := m.filter (fun p => p.1 != i)

/-- Write `v` at key `i`: writing the value an unlisted key reads as removes the entry. -/
def mput {α : Type} [DecidableEq α] (d : α) (m : List (Nat × α)) (i : Nat) (v : α) : List (Nat × α) :=
  if v = d then mdrop i m else minsert i v m

/-- Change the entry at key `i` by a function. -/
def mmod {α : Type} [DecidableEq α] (d : α) (m : List (Nat × α)) (i : Nat) (f : α → α) : List (Nat × α) :=
  mput d m i (f (mget d m i))

/-- Keys strictly rising, every key above `lo` (`none`: no bound yet). -/
def risingFrom {α : Type} : Option Nat → List (Nat × α) → Bool
  | _, [] => true
  | none, (k, _) :: m => risingFrom (some k) m
  | some b, (k, _) :: m => decide (b < k) && risingFrom (some k) m

/-- The canonical form of a table whose unlisted keys read `d`. -/
def canon {α : Type} [DecidableEq α] (d : α) (m : List (Nat × α)) : Bool :=
  risingFrom none m && m.all (fun p => p.2 != d)

end Sys2Proof.Machine
end

