-- ==== Sys2Proof/Machine/Fld.lean ====
section
/-! DEFINITION. What a register field is (R8 to R20): where it stands in BAR0, its width, its access type (R15), its reset
domain (R16, R17), its reset value, and whether setting it posts an event record (R549). The fields themselves are the
constants of the files Registers*.lean, each named as the manual names it: LNI_CTL.TARGET_STATE, SYS_STATUS.READY. -/

namespace Sys2Proof.Machine

/-- Access types of R15. -/
inductive Acc where
  | ro | rw | w1c | w1s | wo | rwp
  deriving DecidableEq, Repr

/-- Reset domains of R16; `persist` is the "P" of R17. -/
inductive Dom where
  | por | module | image | persist
  deriving DecidableEq, Repr

/-- One register field, with its instances. Instance `i` of the register lies at BAR0 offset `base + stride * i`; a field
wider than 32 bits spans that register and the next (R14). `stride = 0` with `count > 1` marks a field shown through a
window: the instance is the one the window's select register names. -/
structure Fld where
  /-- number of the field, its place in `allFields` -/
  id : Nat
  base : Nat
  stride : Nat
  count : Nat
  lo : Nat
  width : Nat
  acc : Acc
  dom : Dom
  /-- reset value of instance 0; instance i resets to `reset + step * i` -/
  reset : Nat
  /-- source code of the event record that setting the field posts (R550); 0 where it posts none -/
  evt : Nat
  /-- the field is a counter or a meter, which a snapshot copies (R20, R35) -/
  ctr : Bool
  step : Nat
  deriving DecidableEq, Repr

/-- The value instance `i` resets to. -/
def Fld.resetAt (f : Fld) (i : Nat) : Nat := f.reset + f.step * i

end Sys2Proof.Machine
end

