-- ==== Sys2Proof/Machine/RegistersCore.lean ====
section
/-! DEFINITION. The register fields of the PST, SEC, FAB, DBG and MON blocks, from the register tables of the spec (the rule of each register
is named in its docstring). The columns are those of `Fld`: id, base, stride, count, lowest bit, width, access type, reset
domain, reset value, event source, counter or meter, reset step. A field whose Reset column shows "I" or "P" (R17, R18) holds
0 until an image or the store gives its value. Reserved bits (R13) are no field. -/

namespace Sys2Proof.Machine

/-- R652 -/
def PST_INFO.ROWS : Fld := ⟨785, 0x2600000, 0, 1, 16, 16, .ro, .por, 1024, 0, false, 0⟩
/-- R652 -/
def PST_INFO.ROW_KIB : Fld := ⟨786, 0x2600000, 0, 1, 8, 8, .ro, .por, 4, 0, false, 0⟩
/-- R652 -/
def PST_INFO.SPARES : Fld := ⟨787, 0x2600000, 0, 1, 0, 8, .ro, .por, 16, 0, false, 0⟩
/-- R653 -/
def PST_STATUS.LAST_ROLE : Fld := ⟨788, 0x2600004, 0, 1, 30, 2, .ro, .persist, 0, 0, false, 0⟩
/-- R653 -/
def PST_STATUS.STORE_FAIL : Fld := ⟨789, 0x2600004, 0, 1, 29, 1, .ro, .module, 0, 0, false, 0⟩
/-- R653 -/
def PST_STATUS.LABEL_BUSY : Fld := ⟨790, 0x2600004, 0, 1, 28, 1, .ro, .module, 0, 0, false, 0⟩
/-- R653 -/
def PST_STATUS.SPARES_LEFT : Fld := ⟨791, 0x2600004, 0, 1, 15, 5, .ro, .module, 16, 0, false, 0⟩
/-- R653 -/
def PST_STATUS.WARN_ROWS : Fld := ⟨792, 0x2600004, 0, 1, 0, 11, .ro, .module, 0, 0, false, 0⟩
/-- R654 -/
def PST_EVT.CORR_OVF : Fld := ⟨793, 0x2600008, 0, 1, 8, 1, .w1c, .module, 0, 0, false, 0⟩
/-- R654 -/
def PST_EVT.LABEL_REFUSED : Fld := ⟨794, 0x2600008, 0, 1, 6, 1, .w1c, .module, 0, 28, false, 0⟩
/-- R654 -/
def PST_EVT.LABEL_DONE : Fld := ⟨795, 0x2600008, 0, 1, 5, 1, .w1c, .module, 0, 28, false, 0⟩
/-- R654 -/
def PST_EVT.ROW_ERR : Fld := ⟨796, 0x2600008, 0, 1, 4, 1, .w1c, .module, 0, 28, false, 0⟩
/-- R654 -/
def PST_EVT.STORE_FAIL : Fld := ⟨797, 0x2600008, 0, 1, 3, 1, .w1c, .module, 0, 28, false, 0⟩
/-- R654 -/
def PST_EVT.REMAP : Fld := ⟨798, 0x2600008, 0, 1, 2, 1, .w1c, .module, 0, 28, false, 0⟩
/-- R654 -/
def PST_EVT.WEAR_LIMIT : Fld := ⟨799, 0x2600008, 0, 1, 1, 1, .w1c, .module, 0, 28, false, 0⟩
/-- R654 -/
def PST_EVT.WEAR_WARN : Fld := ⟨800, 0x2600008, 0, 1, 0, 1, .w1c, .module, 0, 28, false, 0⟩
/-- R654 -/
def PST_CORR.COUNT : Fld := ⟨801, 0x260000c, 0, 1, 0, 32, .ro, .module, 0, 0, true, 0⟩
/-- R655 -/
def PST_WEAR_SEL.ROW : Fld := ⟨802, 0x2600010, 0, 1, 0, 10, .rw, .module, 0, 0, false, 0⟩
/-- R655 -/
def PST_WEAR.COUNT : Fld := ⟨803, 0x2600014, 0, 1, 0, 64, .ro, .persist, 0, 0, false, 0⟩
/-- R655 -/
def PST_WEAR_FIRST.VALID : Fld := ⟨804, 0x260001c, 0, 1, 31, 1, .ro, .persist, 0, 0, false, 0⟩
/-- R655 -/
def PST_WEAR_FIRST.ROW : Fld := ⟨805, 0x260001c, 0, 1, 0, 10, .ro, .persist, 0, 0, false, 0⟩
/-- R656 -/
def PST_LABEL_STAGE.WORD : Fld := ⟨806, 0x2600040, 4, 8, 0, 32, .rw, .module, 0, 0, false, 0⟩
/-- R656 -/
def PST_LABEL_CTL.COMMIT : Fld := ⟨807, 0x2600060, 0, 1, 31, 1, .wo, .module, 0, 0, false, 0⟩
/-- R656 -/
def PST_LABEL_CTL.BUSY : Fld := ⟨808, 0x2600060, 0, 1, 30, 1, .ro, .module, 0, 0, false, 0⟩
/-- R656 -/
def PST_LABEL_CTL.INDEX : Fld := ⟨809, 0x2600060, 0, 1, 0, 16, .rw, .module, 0, 0, false, 0⟩
/-- R657 -/
def PST_ROUTE.SOURCE : Fld := ⟨810, 0x2610000, 4, 16384, 0, 32, .ro, .persist, 0, 0, false, 0⟩
/-- R657 -/
def PST_LABEL.WORD : Fld := ⟨811, 0x2620000, 4, 262144, 0, 32, .ro, .persist, 0, 0, false, 0⟩
/-- R658 -/
def SEC_STATUS.LIFECYCLE : Fld := ⟨812, 0x2800000, 0, 1, 30, 2, .ro, .persist, 1, 0, false, 0⟩
/-- R658 -/
def SEC_STATUS.EVAL_FIXED : Fld := ⟨813, 0x2800000, 0, 1, 29, 1, .ro, .persist, 0, 0, false, 0⟩
/-- R658 -/
def SEC_STATUS.AE : Fld := ⟨814, 0x2800000, 0, 1, 28, 1, .ro, .persist, 0, 0, false, 0⟩
/-- R658 -/
def SEC_STATUS.DEBUG_LEVEL : Fld := ⟨815, 0x2800000, 0, 1, 26, 2, .ro, .module, 0, 0, false, 0⟩
/-- R658 -/
def SEC_STATUS.CLASS_REQ : Fld := ⟨816, 0x2800000, 0, 1, 16, 7, .ro, .persist, 0, 0, false, 0⟩
/-- R658 -/
def SEC_KEYS.SLOTS : Fld := ⟨817, 0x2800004, 0, 1, 0, 22, .ro, .persist, 65541, 0, false, 0⟩
/-- R659 -/
def SEC_SEQ.SEQ : Fld := ⟨818, 0x2800008, 0, 1, 0, 64, .ro, .persist, 0, 0, false, 0⟩
/-- R660 -/
def SEC_GRANT_A.VALID : Fld := ⟨819, 0x2800010, 8, 4, 31, 1, .ro, .module, 0, 0, false, 0⟩
/-- R660 -/
def SEC_GRANT_A.SIGNER : Fld := ⟨820, 0x2800010, 8, 4, 24, 4, .ro, .module, 0, 0, false, 0⟩
/-- R660 -/
def SEC_GRANT_A.CLASSES : Fld := ⟨821, 0x2800010, 8, 4, 16, 7, .ro, .module, 0, 0, false, 0⟩
/-- R660 -/
def SEC_GRANT_A.NOT_AFTER_HI : Fld := ⟨822, 0x2800010, 8, 4, 0, 16, .ro, .module, 0, 0, false, 0⟩
/-- R660 -/
def SEC_GRANT_B.NOT_AFTER_LO : Fld := ⟨823, 0x2800014, 8, 4, 0, 32, .ro, .module, 0, 0, false, 0⟩
/-- R661 -/
def SEC_AUDIT_NEW.ASEQ : Fld := ⟨824, 0x2800030, 0, 1, 0, 64, .ro, .persist, 0, 0, false, 0⟩
/-- R661 -/
def SEC_AUDIT_OLD.ASEQ : Fld := ⟨825, 0x2800038, 0, 1, 0, 64, .ro, .persist, 0, 0, false, 0⟩
/-- R662 -/
def SEC_REQ_CTL.GO : Fld := ⟨826, 0x2800100, 0, 1, 31, 1, .wo, .module, 0, 0, false, 0⟩
/-- R662 -/
def SEC_REQ_CTL.BUSY : Fld := ⟨827, 0x2800100, 0, 1, 30, 1, .ro, .module, 0, 0, false, 0⟩
/-- R662 -/
def SEC_REQ_CTL.OP_LAST : Fld := ⟨828, 0x2800100, 0, 1, 16, 8, .ro, .module, 0, 0, false, 0⟩
/-- R662 -/
def SEC_REQ_CTL.STATUS : Fld := ⟨829, 0x2800100, 0, 1, 0, 8, .ro, .module, 255, 0, false, 0⟩
/-- R662 -/
def SEC_REQ_DATA.WORD : Fld := ⟨830, 0x2800200, 4, 88, 0, 32, .rw, .module, 0, 0, false, 0⟩
/-- R662 -/
def SEC_REQ_RESP.WORD : Fld := ⟨831, 0x2800400, 4, 64, 0, 32, .ro, .module, 0, 0, false, 0⟩
/-- R663 -/
def SEC_CHAL_CTL.GET : Fld := ⟨832, 0x2800500, 0, 1, 31, 1, .wo, .module, 0, 0, false, 0⟩
/-- R663 -/
def SEC_CHAL_CTL.ANSWER : Fld := ⟨833, 0x2800500, 0, 1, 30, 1, .wo, .module, 0, 0, false, 0⟩
/-- R663 -/
def SEC_CHAL_CTL.LEVEL : Fld := ⟨834, 0x2800500, 0, 1, 28, 2, .rw, .module, 1, 0, false, 0⟩
/-- R663 -/
def SEC_CHAL_CTL.NONCE_VALID : Fld := ⟨835, 0x2800500, 0, 1, 27, 1, .ro, .module, 0, 0, false, 0⟩
/-- R663 -/
def SEC_CHAL_CTL.BUSY : Fld := ⟨836, 0x2800500, 0, 1, 26, 1, .ro, .module, 0, 0, false, 0⟩
/-- R663 -/
def SEC_CHAL_CTL.LOCKOUT_S : Fld := ⟨837, 0x2800500, 0, 1, 16, 10, .ro, .persist, 0, 0, false, 0⟩
/-- R663 -/
def SEC_CHAL_CTL.STATUS : Fld := ⟨838, 0x2800500, 0, 1, 0, 8, .ro, .module, 255, 0, false, 0⟩
/-- R663 -/
def SEC_CHAL_NONCE.WORD : Fld := ⟨839, 0x2800540, 4, 12, 0, 32, .ro, .module, 0, 0, false, 0⟩
/-- R663 -/
def SEC_CHAL_DATA.WORD : Fld := ⟨840, 0x2800580, 4, 24, 0, 32, .rw, .module, 0, 0, false, 0⟩
/-- R664 -/
def SEC_AUTH_FAIL.COUNT : Fld := ⟨841, 0x2800600, 0, 1, 0, 32, .ro, .module, 0, 0, true, 0⟩
/-- R664 -/
def SEC_DENIED.COUNT : Fld := ⟨842, 0x2800604, 0, 1, 0, 32, .ro, .module, 0, 0, true, 0⟩
/-- R664 -/
def SEC_CHAL_FAIL.COUNT : Fld := ⟨843, 0x2800608, 0, 1, 0, 32, .ro, .module, 0, 0, true, 0⟩
/-- R664 -/
def SEC_CNT_FLAGS.CHAL_FAIL_OVF : Fld := ⟨844, 0x280060c, 0, 1, 2, 1, .ro, .module, 0, 0, false, 0⟩
/-- R664 -/
def SEC_CNT_FLAGS.DENIED_OVF : Fld := ⟨845, 0x280060c, 0, 1, 1, 1, .ro, .module, 0, 0, false, 0⟩
/-- R664 -/
def SEC_CNT_FLAGS.AUTH_FAIL_OVF : Fld := ⟨846, 0x280060c, 0, 1, 0, 1, .ro, .module, 0, 0, false, 0⟩
/-- R688 -/
def FAB_INFO.MASTERS : Fld := ⟨847, 0x2a00000, 0, 1, 24, 8, .ro, .por, 6, 0, false, 0⟩
/-- R688 -/
def FAB_INFO.TARGETS : Fld := ⟨848, 0x2a00000, 0, 1, 16, 8, .ro, .por, 6, 0, false, 0⟩
/-- R688 -/
def FAB_INFO.BEAT_B : Fld := ⟨849, 0x2a00000, 0, 1, 8, 8, .ro, .por, 32, 0, false, 0⟩
/-- R688 -/
def FAB_INFO.MAX_BEATS : Fld := ⟨850, 0x2a00000, 0, 1, 0, 8, .ro, .por, 16, 0, false, 0⟩
/-- R689 -/
def FAB_QOS.DMA : Fld := ⟨851, 0x2a00004, 0, 1, 20, 4, .rw, .module, 8, 0, false, 0⟩
/-- R689 -/
def FAB_QOS.DBG : Fld := ⟨852, 0x2a00004, 0, 1, 16, 4, .rw, .module, 2, 0, false, 0⟩
/-- R689 -/
def FAB_QOS.PCIE : Fld := ⟨853, 0x2a00004, 0, 1, 12, 4, .rw, .module, 4, 0, false, 0⟩
/-- R689 -/
def FAB_QOS.PRINEL : Fld := ⟨854, 0x2a00004, 0, 1, 8, 4, .ro, .module, 15, 0, false, 0⟩
/-- R689 -/
def FAB_QOS.CP1 : Fld := ⟨855, 0x2a00004, 0, 1, 4, 4, .ro, .module, 14, 0, false, 0⟩
/-- R689 -/
def FAB_QOS.CP0 : Fld := ⟨856, 0x2a00004, 0, 1, 0, 4, .ro, .module, 12, 0, false, 0⟩
/-- R690 -/
def FAB_ERR_CNT.COUNT : Fld := ⟨857, 0x2a00008, 0, 1, 0, 32, .ro, .module, 0, 0, true, 0⟩
/-- R690 -/
def FAB_EVT.ERR_OVF : Fld := ⟨858, 0x2a0000c, 0, 1, 8, 1, .w1c, .module, 0, 0, false, 0⟩
/-- R690 -/
def FAB_EVT.TARGET_ERR : Fld := ⟨859, 0x2a0000c, 0, 1, 3, 1, .w1c, .module, 0, 30, false, 0⟩
/-- R690 -/
def FAB_EVT.ABORT : Fld := ⟨860, 0x2a0000c, 0, 1, 2, 1, .w1c, .module, 0, 30, false, 0⟩
/-- R690 -/
def FAB_EVT.DENIED : Fld := ⟨861, 0x2a0000c, 0, 1, 1, 1, .w1c, .module, 0, 30, false, 0⟩
/-- R690 -/
def FAB_EVT.DECODE : Fld := ⟨862, 0x2a0000c, 0, 1, 0, 1, .w1c, .module, 0, 30, false, 0⟩
/-- R690 -/
def FAB_ERR_HEAD.VALID : Fld := ⟨863, 0x2a00010, 0, 1, 4, 1, .ro, .module, 0, 0, false, 0⟩
/-- R690 -/
def FAB_ERR_HEAD.SLOT : Fld := ⟨864, 0x2a00010, 0, 1, 0, 4, .ro, .module, 0, 0, false, 0⟩
/-- R691 -/
def FAB_ERR_LOG.KIND : Fld := ⟨865, 0x2a00100, 16, 16, 28, 4, .ro, .module, 0, 0, false, 0⟩
/-- R691 -/
def FAB_ERR_LOG.MASTER : Fld := ⟨866, 0x2a00100, 16, 16, 24, 4, .ro, .module, 0, 0, false, 0⟩
/-- R691 -/
def FAB_ERR_LOG.TARGET : Fld := ⟨867, 0x2a00100, 16, 16, 20, 4, .ro, .module, 0, 0, false, 0⟩
/-- R691 -/
def FAB_ERR_LOG.BEATS : Fld := ⟨868, 0x2a00100, 16, 16, 15, 5, .ro, .module, 0, 0, false, 0⟩
/-- R691 -/
def FAB_ERR_LOG.WRITE : Fld := ⟨869, 0x2a00100, 16, 16, 14, 1, .ro, .module, 0, 0, false, 0⟩
/-- R691 -/
def FAB_ERR_LOG.ADDR_LO : Fld := ⟨870, 0x2a00104, 16, 16, 0, 32, .ro, .module, 0, 0, false, 0⟩
/-- R691 -/
def FAB_ERR_LOG.ADDR_HI : Fld := ⟨871, 0x2a00108, 16, 16, 0, 8, .ro, .module, 0, 0, false, 0⟩
/-- R691 -/
def FAB_ERR_LOG.SEC : Fld := ⟨872, 0x2a0010c, 16, 16, 0, 32, .ro, .module, 0, 0, false, 0⟩
/-- R692 -/
def DBG_IDCODE.IDCODE : Fld := ⟨873, 0x2c00000, 0, 1, 0, 32, .ro, .por, 0, 0, false, 0⟩
/-- R692 -/
def DBG_STATUS.EFF_LEVEL : Fld := ⟨874, 0x2c00004, 0, 1, 30, 2, .ro, .module, 0, 0, false, 0⟩
/-- R692 -/
def DBG_STATUS.TAP_TEST : Fld := ⟨875, 0x2c00004, 0, 1, 29, 1, .ro, .module, 0, 0, false, 0⟩
/-- R692 -/
def DBG_STATUS.HALTED_N : Fld := ⟨876, 0x2c00004, 0, 1, 0, 8, .ro, .module, 0, 0, false, 0⟩
/-- R693 -/
def DBG_CTL.RELOCK : Fld := ⟨877, 0x2c00008, 0, 1, 31, 1, .wo, .module, 0, 0, false, 0⟩
/-- R693 -/
def DBG_CTL.MODULE_RESET : Fld := ⟨878, 0x2c00008, 0, 1, 30, 1, .wo, .module, 0, 0, false, 0⟩
/-- R693 -/
def DBG_CTL.KEY : Fld := ⟨879, 0x2c00008, 0, 1, 8, 8, .wo, .module, 0, 0, false, 0⟩
/-- R694 -/
def DBG_ENG_SEL.UNIT : Fld := ⟨880, 0x2c00010, 0, 1, 0, 8, .rw, .module, 0, 0, false, 0⟩
/-- R694 -/
def DBG_ENG_CTL.HALT_AT_BLOCK : Fld := ⟨881, 0x2c00014, 0, 162, 3, 1, .wo, .module, 0, 0, false, 0⟩
/-- R694 -/
def DBG_ENG_CTL.STEP : Fld := ⟨882, 0x2c00014, 0, 162, 2, 1, .wo, .module, 0, 0, false, 0⟩
/-- R694 -/
def DBG_ENG_CTL.RESUME : Fld := ⟨883, 0x2c00014, 0, 162, 1, 1, .wo, .module, 0, 0, false, 0⟩
/-- R694 -/
def DBG_ENG_CTL.HALT : Fld := ⟨884, 0x2c00014, 0, 162, 0, 1, .wo, .module, 0, 0, false, 0⟩
/-- R694 -/
def DBG_ENG_STATUS.HALTED : Fld := ⟨885, 0x2c00018, 0, 162, 31, 1, .ro, .module, 0, 0, false, 0⟩
/-- R694 -/
def DBG_ENG_STATUS.CAUSE : Fld := ⟨886, 0x2c00018, 0, 162, 28, 3, .ro, .module, 0, 0, false, 0⟩
/-- R694 -/
def DBG_ENG_STATUS.BP_HIT : Fld := ⟨887, 0x2c00018, 0, 162, 26, 2, .ro, .module, 0, 0, false, 0⟩
/-- R694 -/
def DBG_ENG_STATUS.PC : Fld := ⟨888, 0x2c00018, 0, 162, 0, 16, .ro, .module, 0, 0, false, 0⟩
/-- R695 -/
def DBG_BP.EN : Fld := ⟨889, 0x2c00020, 4, 648, 31, 1, .rw, .module, 0, 0, false, 0⟩
/-- R695 -/
def DBG_BP.ADDR : Fld := ⟨890, 0x2c00020, 4, 648, 0, 16, .rw, .module, 0, 0, false, 0⟩
/-- R697 -/
def DBG_MEM_ADDR.ADDR : Fld := ⟨891, 0x2c00040, 0, 1, 0, 40, .rw, .module, 0, 0, false, 0⟩
/-- R697 -/
def DBG_MEM_CTL.GO : Fld := ⟨892, 0x2c00048, 0, 1, 31, 1, .wo, .module, 0, 0, false, 0⟩
/-- R697 -/
def DBG_MEM_CTL.WRITE : Fld := ⟨893, 0x2c00048, 0, 1, 30, 1, .rw, .module, 0, 0, false, 0⟩
/-- R697 -/
def DBG_MEM_CTL.BUSY : Fld := ⟨894, 0x2c00048, 0, 1, 29, 1, .ro, .module, 0, 0, false, 0⟩
/-- R697 -/
def DBG_MEM_CTL.DONE : Fld := ⟨895, 0x2c00048, 0, 1, 28, 1, .w1c, .module, 0, 0, false, 0⟩
/-- R697 -/
def DBG_MEM_CTL.RESP : Fld := ⟨896, 0x2c00048, 0, 1, 27, 1, .ro, .module, 0, 0, false, 0⟩
/-- R697 -/
def DBG_MEM_CTL.SIZE : Fld := ⟨897, 0x2c00048, 0, 1, 0, 3, .rw, .module, 2, 0, false, 0⟩
/-- R698 -/
def DBG_EVT.TAP_REFUSED : Fld := ⟨898, 0x2c0004c, 0, 1, 2, 1, .w1c, .module, 0, 30, false, 0⟩
/-- R698 -/
def DBG_EVT.REFUSED : Fld := ⟨899, 0x2c0004c, 0, 1, 1, 1, .w1c, .module, 0, 30, false, 0⟩
/-- R698 -/
def DBG_EVT.HALT : Fld := ⟨900, 0x2c0004c, 0, 1, 0, 1, .w1c, .module, 0, 30, false, 0⟩
/-- R697 -/
def DBG_MEM_DATA.WORD : Fld := ⟨901, 0x2c00080, 4, 16, 0, 32, .rw, .module, 0, 0, false, 0⟩
/-- R696 -/
def DBG_ENG_WIN.WORD : Fld := ⟨902, 0x2c10000, 4, 2654208, 0, 32, .rw, .module, 0, 0, false, 0⟩
/-- R721 -/
def MON_INFO.SENSORS : Fld := ⟨903, 0x2e00000, 0, 1, 0, 8, .ro, .por, 40, 0, false, 0⟩
/-- R722 -/
def MON_THERM_CFG.CLR_MAX : Fld := ⟨904, 0x2e00004, 0, 1, 31, 1, .wo, .module, 0, 0, false, 0⟩
/-- R722 -/
def MON_THERM_CFG.CLR_CNT : Fld := ⟨905, 0x2e00004, 0, 1, 30, 1, .wo, .module, 0, 0, false, 0⟩
/-- R722 -/
def MON_THERM_CFG.WARN_C : Fld := ⟨906, 0x2e00004, 0, 1, 0, 7, .rw, .module, 100, 0, false, 0⟩
/-- R723 -/
def MON_THERM_STATUS.WARN : Fld := ⟨907, 0x2e00008, 0, 1, 31, 1, .ro, .module, 0, 0, false, 0⟩
/-- R723 -/
def MON_THERM_STATUS.STACK_HOT : Fld := ⟨908, 0x2e00008, 0, 1, 30, 1, .ro, .module, 0, 0, false, 0⟩
/-- R723 -/
def MON_THERM_STATUS.HOT_SENSOR : Fld := ⟨909, 0x2e00008, 0, 1, 16, 6, .ro, .module, 0, 0, false, 0⟩
/-- R723 -/
def MON_THERM_STATUS.MAX_C : Fld := ⟨910, 0x2e00008, 0, 1, 0, 8, .ro, .module, 0, 0, false, 0⟩
/-- R724 -/
def MON_EVT.WARN_OVF : Fld := ⟨911, 0x2e0000c, 0, 1, 8, 1, .w1c, .module, 0, 0, false, 0⟩
/-- R724 -/
def MON_EVT.FEED_LOW : Fld := ⟨912, 0x2e0000c, 0, 1, 3, 1, .w1c, .module, 0, 26, false, 0⟩
/-- R724 -/
def MON_EVT.STACK_HOT : Fld := ⟨913, 0x2e0000c, 0, 1, 2, 1, .w1c, .module, 0, 26, false, 0⟩
/-- R724 -/
def MON_EVT.WARN_CLEAR : Fld := ⟨914, 0x2e0000c, 0, 1, 1, 1, .w1c, .module, 0, 26, false, 0⟩
/-- R724 -/
def MON_EVT.WARN : Fld := ⟨915, 0x2e0000c, 0, 1, 0, 1, .w1c, .module, 0, 26, false, 0⟩
/-- R724 -/
def MON_WARN_CNT.COUNT : Fld := ⟨916, 0x2e00010, 0, 1, 0, 32, .ro, .module, 0, 0, true, 0⟩
/-- R725 -/
def MON_FEED.VOLT_DV : Fld := ⟨917, 0x2e00020, 0, 1, 16, 10, .ro, .module, 0, 0, true, 0⟩
/-- R725 -/
def MON_FEED.POWER_DW : Fld := ⟨918, 0x2e00020, 0, 1, 0, 13, .ro, .module, 0, 0, true, 0⟩
/-- R725 -/
def MON_FEED_MAX.POWER_MAX_DW : Fld := ⟨919, 0x2e00024, 0, 1, 0, 13, .ro, .module, 0, 0, true, 0⟩
/-- R378 -/
def MON_SNAP_CTL.HOLD : Fld := ⟨920, 0x2e00100, 0, 1, 1, 1, .rw, .module, 0, 0, false, 0⟩
/-- R378 -/
def MON_SNAP_CTL.ARM : Fld := ⟨921, 0x2e00100, 0, 1, 0, 1, .wo, .module, 0, 0, false, 0⟩
/-- R379 -/
def MON_SNAP_STATUS.NO_PLANE : Fld := ⟨922, 0x2e00104, 0, 1, 7, 1, .ro, .module, 0, 0, false, 0⟩
/-- R379 -/
def MON_SNAP_STATUS.PLANE : Fld := ⟨923, 0x2e00104, 0, 1, 4, 3, .ro, .module, 0, 0, false, 0⟩
/-- R379 -/
def MON_SNAP_STATUS.COPYING : Fld := ⟨924, 0x2e00104, 0, 1, 1, 1, .ro, .module, 0, 0, false, 0⟩
/-- R379 -/
def MON_SNAP_STATUS.ARMED : Fld := ⟨925, 0x2e00104, 0, 1, 0, 1, .ro, .module, 0, 0, false, 0⟩
/-- R379 -/
def MON_SNAP_SEQ.SEQ : Fld := ⟨926, 0x2e00108, 0, 1, 0, 32, .ro, .module, 0, 0, false, 0⟩
/-- R380 -/
def MON_SNAP_SEC.SEC : Fld := ⟨927, 0x2e0010c, 0, 1, 0, 48, .ro, .module, 0, 0, false, 0⟩
/-- R380 -/
def MON_SNAP_NS.NS : Fld := ⟨928, 0x2e00114, 0, 1, 0, 30, .ro, .module, 0, 0, false, 0⟩
/-- R726 -/
def MON_TEMP.MAX_C : Fld := ⟨929, 0x2e00200, 4, 40, 8, 8, .ro, .module, 128, 0, true, 0⟩
/-- R726 -/
def MON_TEMP.TEMP_C : Fld := ⟨930, 0x2e00200, 4, 40, 0, 8, .ro, .module, 0, 0, true, 0⟩

/-- Every field of this file, in order of its number. -/
def fieldsCore : List Fld :=
  [PST_INFO.ROWS, PST_INFO.ROW_KIB, PST_INFO.SPARES, PST_STATUS.LAST_ROLE, PST_STATUS.STORE_FAIL,
   PST_STATUS.LABEL_BUSY, PST_STATUS.SPARES_LEFT, PST_STATUS.WARN_ROWS, PST_EVT.CORR_OVF, PST_EVT.LABEL_REFUSED,
   PST_EVT.LABEL_DONE, PST_EVT.ROW_ERR, PST_EVT.STORE_FAIL, PST_EVT.REMAP, PST_EVT.WEAR_LIMIT, PST_EVT.WEAR_WARN,
   PST_CORR.COUNT, PST_WEAR_SEL.ROW, PST_WEAR.COUNT, PST_WEAR_FIRST.VALID, PST_WEAR_FIRST.ROW, PST_LABEL_STAGE.WORD,
   PST_LABEL_CTL.COMMIT, PST_LABEL_CTL.BUSY, PST_LABEL_CTL.INDEX, PST_ROUTE.SOURCE, PST_LABEL.WORD,
   SEC_STATUS.LIFECYCLE, SEC_STATUS.EVAL_FIXED, SEC_STATUS.AE, SEC_STATUS.DEBUG_LEVEL, SEC_STATUS.CLASS_REQ,
   SEC_KEYS.SLOTS, SEC_SEQ.SEQ, SEC_GRANT_A.VALID, SEC_GRANT_A.SIGNER, SEC_GRANT_A.CLASSES, SEC_GRANT_A.NOT_AFTER_HI,
   SEC_GRANT_B.NOT_AFTER_LO, SEC_AUDIT_NEW.ASEQ, SEC_AUDIT_OLD.ASEQ, SEC_REQ_CTL.GO, SEC_REQ_CTL.BUSY,
   SEC_REQ_CTL.OP_LAST, SEC_REQ_CTL.STATUS, SEC_REQ_DATA.WORD, SEC_REQ_RESP.WORD, SEC_CHAL_CTL.GET,
   SEC_CHAL_CTL.ANSWER, SEC_CHAL_CTL.LEVEL, SEC_CHAL_CTL.NONCE_VALID, SEC_CHAL_CTL.BUSY, SEC_CHAL_CTL.LOCKOUT_S,
   SEC_CHAL_CTL.STATUS, SEC_CHAL_NONCE.WORD, SEC_CHAL_DATA.WORD, SEC_AUTH_FAIL.COUNT, SEC_DENIED.COUNT,
   SEC_CHAL_FAIL.COUNT, SEC_CNT_FLAGS.CHAL_FAIL_OVF] ++
  [SEC_CNT_FLAGS.DENIED_OVF, SEC_CNT_FLAGS.AUTH_FAIL_OVF, FAB_INFO.MASTERS, FAB_INFO.TARGETS, FAB_INFO.BEAT_B,
   FAB_INFO.MAX_BEATS, FAB_QOS.DMA, FAB_QOS.DBG, FAB_QOS.PCIE, FAB_QOS.PRINEL, FAB_QOS.CP1, FAB_QOS.CP0,
   FAB_ERR_CNT.COUNT, FAB_EVT.ERR_OVF, FAB_EVT.TARGET_ERR, FAB_EVT.ABORT, FAB_EVT.DENIED, FAB_EVT.DECODE,
   FAB_ERR_HEAD.VALID, FAB_ERR_HEAD.SLOT, FAB_ERR_LOG.KIND, FAB_ERR_LOG.MASTER, FAB_ERR_LOG.TARGET,
   FAB_ERR_LOG.BEATS, FAB_ERR_LOG.WRITE, FAB_ERR_LOG.ADDR_LO, FAB_ERR_LOG.ADDR_HI, FAB_ERR_LOG.SEC,
   DBG_IDCODE.IDCODE, DBG_STATUS.EFF_LEVEL, DBG_STATUS.TAP_TEST, DBG_STATUS.HALTED_N, DBG_CTL.RELOCK,
   DBG_CTL.MODULE_RESET, DBG_CTL.KEY, DBG_ENG_SEL.UNIT, DBG_ENG_CTL.HALT_AT_BLOCK, DBG_ENG_CTL.STEP,
   DBG_ENG_CTL.RESUME, DBG_ENG_CTL.HALT, DBG_ENG_STATUS.HALTED, DBG_ENG_STATUS.CAUSE, DBG_ENG_STATUS.BP_HIT,
   DBG_ENG_STATUS.PC, DBG_BP.EN, DBG_BP.ADDR, DBG_MEM_ADDR.ADDR, DBG_MEM_CTL.GO, DBG_MEM_CTL.WRITE, DBG_MEM_CTL.BUSY,
   DBG_MEM_CTL.DONE, DBG_MEM_CTL.RESP, DBG_MEM_CTL.SIZE, DBG_EVT.TAP_REFUSED, DBG_EVT.REFUSED, DBG_EVT.HALT,
   DBG_MEM_DATA.WORD, DBG_ENG_WIN.WORD, MON_INFO.SENSORS, MON_THERM_CFG.CLR_MAX] ++
  [MON_THERM_CFG.CLR_CNT, MON_THERM_CFG.WARN_C, MON_THERM_STATUS.WARN, MON_THERM_STATUS.STACK_HOT,
   MON_THERM_STATUS.HOT_SENSOR, MON_THERM_STATUS.MAX_C, MON_EVT.WARN_OVF, MON_EVT.FEED_LOW, MON_EVT.STACK_HOT,
   MON_EVT.WARN_CLEAR, MON_EVT.WARN, MON_WARN_CNT.COUNT, MON_FEED.VOLT_DV, MON_FEED.POWER_DW,
   MON_FEED_MAX.POWER_MAX_DW, MON_SNAP_CTL.HOLD, MON_SNAP_CTL.ARM, MON_SNAP_STATUS.NO_PLANE, MON_SNAP_STATUS.PLANE,
   MON_SNAP_STATUS.COPYING, MON_SNAP_STATUS.ARMED, MON_SNAP_SEQ.SEQ, MON_SNAP_SEC.SEC, MON_SNAP_NS.NS,
   MON_TEMP.MAX_C, MON_TEMP.TEMP_C]

end Sys2Proof.Machine
end

