-- ==== Sys2Proof/Machine/RegistersLane.lean ====
section
/-! DEFINITION. The register fields of the LNI and LNO blocks, from the register tables of the spec (the rule of each register
is named in its docstring). The columns are those of `Fld`: id, base, stride, count, lowest bit, width, access type, reset
domain, reset value, event source, counter or meter, reset step. A field whose Reset column shows "I" or "P" (R17, R18) holds
0 until an image or the store gives its value. Reserved bits (R13) are no field. -/

namespace Sys2Proof.Machine

/-- R84 -/
def LNI_GRP_CFG.CLK_MODE_ACT : Fld := ⟨116, 0x400000, 64, 128, 8, 2, .ro, .image, 0, 0, false, 0⟩
/-- R84 -/
def LNI_GRP_CFG.CLK_MODE : Fld := ⟨117, 0x400000, 64, 128, 6, 2, .ro, .image, 0, 0, false, 0⟩
/-- R84 -/
def LNI_GRP_CFG.FC_ACTIVE : Fld := ⟨118, 0x400000, 64, 128, 5, 1, .ro, .image, 0, 0, false, 0⟩
/-- R84 -/
def LNI_GRP_CFG.ONE_WAY : Fld := ⟨119, 0x400000, 64, 128, 4, 1, .ro, .image, 0, 0, false, 0⟩
/-- R84 -/
def LNI_GRP_CFG.ENABLED : Fld := ⟨120, 0x400000, 64, 128, 0, 1, .ro, .image, 0, 0, false, 0⟩
/-- R85 -/
def LNI_GRP_STATUS.ACTIVE_MAP : Fld := ⟨121, 0x400004, 64, 128, 16, 16, .ro, .module, 0, 0, false, 0⟩
/-- R85 -/
def LNI_GRP_STATUS.NO_PARTNER_MAP : Fld := ⟨122, 0x400004, 64, 128, 0, 16, .ro, .module, 0, 0, false, 0⟩
/-- R86 -/
def LNI_CTL.IDLE_LIMIT : Fld := ⟨123, 0x410000, 128, 2048, 6, 10, .rw, .module, 100, 0, false, 0⟩
/-- R86 -/
def LNI_CTL.AUTO_IDLE : Fld := ⟨124, 0x410000, 128, 2048, 5, 1, .rw, .module, 1, 0, false, 0⟩
/-- R86 -/
def LNI_CTL.WAKE_SIGDET : Fld := ⟨125, 0x410000, 128, 2048, 4, 1, .rw, .module, 1, 0, false, 0⟩
/-- R86 -/
def LNI_CTL.CLR_CNT : Fld := ⟨126, 0x410000, 128, 2048, 3, 1, .wo, .module, 0, 0, false, 0⟩
/-- R86 -/
def LNI_CTL.RETRAIN : Fld := ⟨127, 0x410000, 128, 2048, 2, 1, .wo, .module, 0, 0, false, 0⟩
/-- R86 -/
def LNI_CTL.TARGET_STATE : Fld := ⟨128, 0x410000, 128, 2048, 0, 2, .rw, .module, 0, 0, false, 0⟩
/-- R87 -/
def LNI_STATUS.LAST_FAIL : Fld := ⟨129, 0x410004, 128, 2048, 16, 4, .ro, .module, 0, 0, false, 0⟩
/-- R87 -/
def LNI_STATUS.ATTEMPT : Fld := ⟨130, 0x410004, 128, 2048, 12, 4, .ro, .module, 0, 0, false, 0⟩
/-- R87 -/
def LNI_STATUS.ONE_WAY_ACT : Fld := ⟨131, 0x410004, 128, 2048, 11, 1, .ro, .module, 0, 0, false, 0⟩
/-- R87 -/
def LNI_STATUS.CLK_FWD : Fld := ⟨132, 0x410004, 128, 2048, 9, 1, .ro, .module, 0, 0, false, 0⟩
/-- R87 -/
def LNI_STATUS.ADAPT_FROZEN : Fld := ⟨133, 0x410004, 128, 2048, 8, 1, .ro, .module, 0, 0, false, 0⟩
/-- R87 -/
def LNI_STATUS.POL_INV : Fld := ⟨134, 0x410004, 128, 2048, 7, 1, .ro, .module, 0, 0, false, 0⟩
/-- R87 -/
def LNI_STATUS.ALIGNED : Fld := ⟨135, 0x410004, 128, 2048, 6, 1, .ro, .module, 0, 0, false, 0⟩
/-- R87 -/
def LNI_STATUS.CDR_LOCK : Fld := ⟨136, 0x410004, 128, 2048, 5, 1, .ro, .module, 0, 0, false, 0⟩
/-- R87 -/
def LNI_STATUS.SIGDET : Fld := ⟨137, 0x410004, 128, 2048, 4, 1, .ro, .module, 0, 0, false, 0⟩
/-- R87 -/
def LNI_STATUS.STATE : Fld := ⟨138, 0x410004, 128, 2048, 0, 4, .ro, .module, 0, 0, false, 0⟩
/-- R88 -/
def LNI_EQ.PARTNER_PRESET : Fld := ⟨139, 0x410008, 128, 2048, 20, 4, .ro, .module, 15, 0, false, 0⟩
/-- R88 -/
def LNI_EQ.PRESET_REQ : Fld := ⟨140, 0x410008, 128, 2048, 16, 4, .ro, .module, 15, 0, false, 0⟩
/-- R88 -/
def LNI_EQ.CTLE : Fld := ⟨141, 0x410008, 128, 2048, 12, 4, .ro, .module, 0, 0, false, 0⟩
/-- R88 -/
def LNI_EQ.DFE1 : Fld := ⟨142, 0x410008, 128, 2048, 0, 8, .ro, .module, 0, 0, false, 0⟩
/-- R89 -/
def LNI_ADAPT_CFG.ADAPT_EN : Fld := ⟨143, 0x41000c, 128, 2048, 14, 1, .rw, .module, 1, 0, false, 0⟩
/-- R89 -/
def LNI_ADAPT_CFG.DENSITY_MIN : Fld := ⟨144, 0x41000c, 128, 2048, 0, 14, .rw, .module, 3584, 0, false, 0⟩
/-- R90 -/
def LNI_PARTNER_LO.ID_LO : Fld := ⟨145, 0x410010, 128, 2048, 0, 32, .ro, .module, 0, 0, false, 0⟩
/-- R90 -/
def LNI_PARTNER_HI.PARTNER_LANE : Fld := ⟨146, 0x410014, 128, 2048, 16, 11, .ro, .module, 0, 0, false, 0⟩
/-- R90 -/
def LNI_PARTNER_HI.ID_HI : Fld := ⟨147, 0x410014, 128, 2048, 0, 16, .ro, .module, 0, 0, false, 0⟩
/-- R91 -/
def LNI_EVT.IDLE_TIMEOUT : Fld := ⟨148, 0x410018, 128, 2048, 8, 1, .w1c, .module, 0, 1, false, 0⟩
/-- R91 -/
def LNI_EVT.FALLBACK_FWD : Fld := ⟨149, 0x410018, 128, 2048, 7, 1, .w1c, .module, 0, 1, false, 0⟩
/-- R91 -/
def LNI_EVT.LOCK_LOSS : Fld := ⟨150, 0x410018, 128, 2048, 6, 1, .w1c, .module, 0, 1, false, 0⟩
/-- R91 -/
def LNI_EVT.REALIGN : Fld := ⟨151, 0x410018, 128, 2048, 5, 1, .w1c, .module, 0, 1, false, 0⟩
/-- R91 -/
def LNI_EVT.MODE_MISMATCH : Fld := ⟨152, 0x410018, 128, 2048, 4, 1, .w1c, .module, 0, 1, false, 0⟩
/-- R91 -/
def LNI_EVT.MISWIRE : Fld := ⟨153, 0x410018, 128, 2048, 3, 1, .w1c, .module, 0, 1, false, 0⟩
/-- R91 -/
def LNI_EVT.NO_PARTNER : Fld := ⟨154, 0x410018, 128, 2048, 2, 1, .w1c, .module, 0, 1, false, 0⟩
/-- R91 -/
def LNI_EVT.DOWN : Fld := ⟨155, 0x410018, 128, 2048, 1, 1, .w1c, .module, 0, 1, false, 0⟩
/-- R91 -/
def LNI_EVT.UP : Fld := ⟨156, 0x410018, 128, 2048, 0, 1, .w1c, .module, 0, 1, false, 0⟩
/-- R92 -/
def LNI_CNT_FLAGS.GATED_OVF : Fld := ⟨157, 0x41001c, 128, 2048, 15, 1, .w1c, .module, 0, 0, false, 0⟩
/-- R92 -/
def LNI_CNT_FLAGS.PROBE_OVF : Fld := ⟨158, 0x41001c, 128, 2048, 14, 1, .w1c, .module, 0, 0, false, 0⟩
/-- R92 -/
def LNI_CNT_FLAGS.TRAIN_FAIL_OVF : Fld := ⟨159, 0x41001c, 128, 2048, 13, 1, .w1c, .module, 0, 0, false, 0⟩
/-- R92 -/
def LNI_CNT_FLAGS.LOCK_LOSS_OVF : Fld := ⟨160, 0x41001c, 128, 2048, 12, 1, .w1c, .module, 0, 0, false, 0⟩
/-- R92 -/
def LNI_CNT_FLAGS.REALIGN_OVF : Fld := ⟨161, 0x41001c, 128, 2048, 11, 1, .w1c, .module, 0, 0, false, 0⟩
/-- R92 -/
def LNI_CNT_FLAGS.CRC_OVF : Fld := ⟨162, 0x41001c, 128, 2048, 10, 1, .w1c, .module, 0, 0, false, 0⟩
/-- R92 -/
def LNI_CNT_FLAGS.DISP_OVF : Fld := ⟨163, 0x41001c, 128, 2048, 9, 1, .w1c, .module, 0, 0, false, 0⟩
/-- R92 -/
def LNI_CNT_FLAGS.CODE_OVF : Fld := ⟨164, 0x41001c, 128, 2048, 8, 1, .w1c, .module, 0, 0, false, 0⟩
/-- R92 -/
def LNI_CNT_FLAGS.BLOCKS_WRAP : Fld := ⟨165, 0x41001c, 128, 2048, 0, 1, .w1c, .module, 0, 0, false, 0⟩
/-- R93 -/
def LNI_BLOCKS.COUNT : Fld := ⟨166, 0x410020, 128, 2048, 0, 64, .ro, .module, 0, 0, true, 0⟩
/-- R93 -/
def LNI_CODE_ERR.COUNT : Fld := ⟨167, 0x410028, 128, 2048, 0, 32, .ro, .module, 0, 0, true, 0⟩
/-- R93 -/
def LNI_DISP_ERR.COUNT : Fld := ⟨168, 0x41002c, 128, 2048, 0, 32, .ro, .module, 0, 0, true, 0⟩
/-- R93 -/
def LNI_CRC_ERR.COUNT : Fld := ⟨169, 0x410030, 128, 2048, 0, 32, .ro, .module, 0, 0, true, 0⟩
/-- R93 -/
def LNI_REALIGN_CNT.COUNT : Fld := ⟨170, 0x410034, 128, 2048, 0, 32, .ro, .module, 0, 0, true, 0⟩
/-- R93 -/
def LNI_LOCK_LOSS_CNT.COUNT : Fld := ⟨171, 0x410038, 128, 2048, 0, 32, .ro, .module, 0, 0, true, 0⟩
/-- R93 -/
def LNI_TRAIN_FAIL_CNT.COUNT : Fld := ⟨172, 0x41003c, 128, 2048, 0, 32, .ro, .module, 0, 0, true, 0⟩
/-- R93 -/
def LNI_PROBE_CNT.COUNT : Fld := ⟨173, 0x410040, 128, 2048, 0, 32, .ro, .module, 0, 0, true, 0⟩
/-- R93 -/
def LNI_GATED_CNT.COUNT : Fld := ⟨174, 0x410044, 128, 2048, 0, 32, .ro, .module, 0, 0, true, 0⟩
/-- R127 -/
def LNI_PAY_CFG.SLOT_MODE : Fld := ⟨175, 0x410048, 128, 2048, 1, 2, .ro, .image, 0, 0, false, 0⟩
/-- R127 -/
def LNI_PAY_CFG.SCR_DIS : Fld := ⟨176, 0x410048, 128, 2048, 0, 1, .rw, .image, 0, 0, false, 0⟩
/-- R128 -/
def LNI_PAY_STATUS.PAY_LOSS : Fld := ⟨177, 0x41004c, 128, 2048, 9, 1, .ro, .module, 0, 0, false, 0⟩
/-- R128 -/
def LNI_PAY_STATUS.SIDE_A : Fld := ⟨178, 0x41004c, 128, 2048, 8, 1, .ro, .module, 0, 0, false, 0⟩
/-- R128 -/
def LNI_PAY_STATUS.TYPE_LAST : Fld := ⟨179, 0x41004c, 128, 2048, 4, 4, .ro, .module, 0, 0, false, 0⟩
/-- R128 -/
def LNI_PAY_STATUS.SEQ_LAST : Fld := ⟨180, 0x41004c, 128, 2048, 0, 4, .ro, .module, 0, 0, false, 0⟩
/-- R129 -/
def LNI_CAD_LO.CAD3 : Fld := ⟨181, 0x410050, 128, 2048, 24, 5, .ro, .module, 0, 0, false, 0⟩
/-- R129 -/
def LNI_CAD_LO.CAD2 : Fld := ⟨182, 0x410050, 128, 2048, 16, 5, .ro, .module, 0, 0, false, 0⟩
/-- R129 -/
def LNI_CAD_LO.CAD1 : Fld := ⟨183, 0x410050, 128, 2048, 8, 5, .ro, .module, 0, 0, false, 0⟩
/-- R129 -/
def LNI_CAD_LO.CAD0 : Fld := ⟨184, 0x410050, 128, 2048, 0, 5, .ro, .module, 0, 0, false, 0⟩
/-- R129 -/
def LNI_CAD_HI.CAD7 : Fld := ⟨185, 0x410054, 128, 2048, 24, 5, .ro, .module, 0, 0, false, 0⟩
/-- R129 -/
def LNI_CAD_HI.CAD6 : Fld := ⟨186, 0x410054, 128, 2048, 16, 5, .ro, .module, 0, 0, false, 0⟩
/-- R129 -/
def LNI_CAD_HI.CAD5 : Fld := ⟨187, 0x410054, 128, 2048, 8, 5, .ro, .module, 0, 0, false, 0⟩
/-- R129 -/
def LNI_CAD_HI.CAD4 : Fld := ⟨188, 0x410054, 128, 2048, 0, 5, .ro, .module, 0, 0, false, 0⟩
/-- R130 -/
def LNI_PAY_EVT.MODE_ERR : Fld := ⟨189, 0x410058, 128, 2048, 3, 1, .w1c, .module, 0, 2, false, 0⟩
/-- R130 -/
def LNI_PAY_EVT.SIDE_CHANGE : Fld := ⟨190, 0x410058, 128, 2048, 2, 1, .w1c, .module, 0, 2, false, 0⟩
/-- R130 -/
def LNI_PAY_EVT.PAY_RESTORE : Fld := ⟨191, 0x410058, 128, 2048, 1, 1, .w1c, .module, 0, 2, false, 0⟩
/-- R130 -/
def LNI_PAY_EVT.PAY_LOSS : Fld := ⟨192, 0x410058, 128, 2048, 0, 1, .w1c, .module, 0, 2, false, 0⟩
/-- R131 -/
def LNI_PAY_FLAGS.PAY_LOSS_OVF : Fld := ⟨193, 0x41005c, 128, 2048, 5, 1, .w1c, .module, 0, 0, false, 0⟩
/-- R131 -/
def LNI_PAY_FLAGS.TEST_OVF : Fld := ⟨194, 0x41005c, 128, 2048, 4, 1, .w1c, .module, 0, 0, false, 0⟩
/-- R131 -/
def LNI_PAY_FLAGS.ILLEGAL_OVF : Fld := ⟨195, 0x41005c, 128, 2048, 3, 1, .w1c, .module, 0, 0, false, 0⟩
/-- R131 -/
def LNI_PAY_FLAGS.MODE_OVF : Fld := ⟨196, 0x41005c, 128, 2048, 2, 1, .w1c, .module, 0, 0, false, 0⟩
/-- R131 -/
def LNI_PAY_FLAGS.HDR_OVF : Fld := ⟨197, 0x41005c, 128, 2048, 1, 1, .w1c, .module, 0, 0, false, 0⟩
/-- R131 -/
def LNI_PAY_FLAGS.SEQ_OVF : Fld := ⟨198, 0x41005c, 128, 2048, 0, 1, .w1c, .module, 0, 0, false, 0⟩
/-- R132 -/
def LNI_SEQ_ERR.COUNT : Fld := ⟨199, 0x410060, 128, 2048, 0, 32, .ro, .module, 0, 0, true, 0⟩
/-- R132 -/
def LNI_HDR_ERR.COUNT : Fld := ⟨200, 0x410064, 128, 2048, 0, 32, .ro, .module, 0, 0, true, 0⟩
/-- R132 -/
def LNI_MODE_ERR.COUNT : Fld := ⟨201, 0x410068, 128, 2048, 0, 32, .ro, .module, 0, 0, true, 0⟩
/-- R132 -/
def LNI_ILLEGAL_WORD.COUNT : Fld := ⟨202, 0x41006c, 128, 2048, 0, 32, .ro, .module, 0, 0, true, 0⟩
/-- R132 -/
def LNI_TEST_ERR.COUNT : Fld := ⟨203, 0x410070, 128, 2048, 0, 32, .ro, .module, 0, 0, true, 0⟩
/-- R132 -/
def LNI_PAY_LOSS_CNT.COUNT : Fld := ⟨204, 0x410074, 128, 2048, 0, 32, .ro, .module, 0, 0, true, 0⟩
/-- R94 -/
def LNO_GRP_CFG.CLK_MODE_ACT : Fld := ⟨205, 0x600000, 64, 128, 8, 2, .ro, .image, 0, 0, false, 0⟩
/-- R94 -/
def LNO_GRP_CFG.CLK_MODE : Fld := ⟨206, 0x600000, 64, 128, 6, 2, .ro, .image, 0, 0, false, 0⟩
/-- R94 -/
def LNO_GRP_CFG.FC_OUT_ON : Fld := ⟨207, 0x600000, 64, 128, 5, 1, .ro, .image, 0, 0, false, 0⟩
/-- R94 -/
def LNO_GRP_CFG.ONE_WAY : Fld := ⟨208, 0x600000, 64, 128, 4, 1, .ro, .image, 0, 0, false, 0⟩
/-- R94 -/
def LNO_GRP_CFG.ENABLED : Fld := ⟨209, 0x600000, 64, 128, 0, 1, .ro, .image, 0, 0, false, 0⟩
/-- R94 -/
def LNO_GRP_STATUS.ACTIVE_MAP : Fld := ⟨210, 0x600004, 64, 128, 16, 16, .ro, .module, 0, 0, false, 0⟩
/-- R94 -/
def LNO_GRP_STATUS.NO_PARTNER_MAP : Fld := ⟨211, 0x600004, 64, 128, 0, 16, .ro, .module, 0, 0, false, 0⟩
/-- R95 -/
def LNO_CTL.CLR_CNT : Fld := ⟨212, 0x610000, 128, 2048, 3, 1, .wo, .module, 0, 0, false, 0⟩
/-- R95 -/
def LNO_CTL.RETRAIN : Fld := ⟨213, 0x610000, 128, 2048, 2, 1, .wo, .module, 0, 0, false, 0⟩
/-- R95 -/
def LNO_CTL.TARGET_STATE : Fld := ⟨214, 0x610000, 128, 2048, 0, 2, .rw, .module, 0, 0, false, 0⟩
/-- R96 -/
def LNO_STATUS.REFUSED : Fld := ⟨215, 0x610004, 128, 2048, 20, 1, .w1c, .module, 0, 0, false, 0⟩
/-- R96 -/
def LNO_STATUS.LAST_FAIL : Fld := ⟨216, 0x610004, 128, 2048, 16, 4, .ro, .module, 0, 0, false, 0⟩
/-- R96 -/
def LNO_STATUS.ATTEMPT : Fld := ⟨217, 0x610004, 128, 2048, 12, 4, .ro, .module, 0, 0, false, 0⟩
/-- R96 -/
def LNO_STATUS.ONE_WAY_ACT : Fld := ⟨218, 0x610004, 128, 2048, 11, 1, .ro, .module, 0, 0, false, 0⟩
/-- R96 -/
def LNO_STATUS.CLK_FWD : Fld := ⟨219, 0x610004, 128, 2048, 9, 1, .ro, .module, 0, 0, false, 0⟩
/-- R96 -/
def LNO_STATUS.STATE : Fld := ⟨220, 0x610004, 128, 2048, 0, 4, .ro, .module, 0, 0, false, 0⟩
/-- R97 -/
def LNO_TX_CFG.HONOUR_REQ : Fld := ⟨221, 0x610008, 128, 2048, 12, 1, .rw, .image, 1, 0, false, 0⟩
/-- R97 -/
def LNO_TX_CFG.PRESET_ACT : Fld := ⟨222, 0x610008, 128, 2048, 8, 4, .ro, .image, 0, 0, false, 0⟩
/-- R97 -/
def LNO_TX_CFG.AMPLITUDE : Fld := ⟨223, 0x610008, 128, 2048, 4, 4, .rw, .image, 0, 0, false, 0⟩
/-- R97 -/
def LNO_TX_CFG.PRESET : Fld := ⟨224, 0x610008, 128, 2048, 0, 4, .rw, .image, 0, 0, false, 0⟩
/-- R98 -/
def LNO_EVT.FALLBACK_FWD : Fld := ⟨225, 0x61000c, 128, 2048, 7, 1, .w1c, .module, 0, 3, false, 0⟩
/-- R98 -/
def LNO_EVT.MODE_MISMATCH : Fld := ⟨226, 0x61000c, 128, 2048, 4, 1, .w1c, .module, 0, 3, false, 0⟩
/-- R98 -/
def LNO_EVT.MISWIRE : Fld := ⟨227, 0x61000c, 128, 2048, 3, 1, .w1c, .module, 0, 3, false, 0⟩
/-- R98 -/
def LNO_EVT.NO_PARTNER : Fld := ⟨228, 0x61000c, 128, 2048, 2, 1, .w1c, .module, 0, 3, false, 0⟩
/-- R98 -/
def LNO_EVT.DOWN : Fld := ⟨229, 0x61000c, 128, 2048, 1, 1, .w1c, .module, 0, 3, false, 0⟩
/-- R98 -/
def LNO_EVT.UP : Fld := ⟨230, 0x61000c, 128, 2048, 0, 1, .w1c, .module, 0, 3, false, 0⟩
/-- R98 -/
def LNO_CNT_FLAGS.PROBE_OVF : Fld := ⟨231, 0x610010, 128, 2048, 14, 1, .w1c, .module, 0, 0, false, 0⟩
/-- R98 -/
def LNO_CNT_FLAGS.TRAIN_FAIL_OVF : Fld := ⟨232, 0x610010, 128, 2048, 13, 1, .w1c, .module, 0, 0, false, 0⟩
/-- R98 -/
def LNO_CNT_FLAGS.FILL_WRAP : Fld := ⟨233, 0x610010, 128, 2048, 1, 1, .w1c, .module, 0, 0, false, 0⟩
/-- R98 -/
def LNO_CNT_FLAGS.BLOCKS_WRAP : Fld := ⟨234, 0x610010, 128, 2048, 0, 1, .w1c, .module, 0, 0, false, 0⟩
/-- R133 -/
def LNO_PAY_CFG.CLAIM : Fld := ⟨235, 0x610014, 128, 2048, 5, 1, .ro, .image, 0, 0, false, 0⟩
/-- R133 -/
def LNO_PAY_CFG.TEST_REFUSED : Fld := ⟨236, 0x610014, 128, 2048, 4, 1, .w1c, .image, 0, 0, false, 0⟩
/-- R133 -/
def LNO_PAY_CFG.SLOT_MODE : Fld := ⟨237, 0x610014, 128, 2048, 2, 2, .ro, .image, 0, 0, false, 0⟩
/-- R133 -/
def LNO_PAY_CFG.TEST : Fld := ⟨238, 0x610014, 128, 2048, 1, 1, .rw, .image, 0, 0, false, 0⟩
/-- R133 -/
def LNO_PAY_CFG.SCR_DIS : Fld := ⟨239, 0x610014, 128, 2048, 0, 1, .rw, .image, 0, 0, false, 0⟩
/-- R99 -/
def LNO_BLOCKS.COUNT : Fld := ⟨240, 0x610020, 128, 2048, 0, 64, .ro, .module, 0, 0, true, 0⟩
/-- R99 -/
def LNO_FILL_BLOCKS.COUNT : Fld := ⟨241, 0x610028, 128, 2048, 0, 64, .ro, .module, 0, 0, true, 0⟩
/-- R99 -/
def LNO_TRAIN_FAIL_CNT.COUNT : Fld := ⟨242, 0x610030, 128, 2048, 0, 32, .ro, .module, 0, 0, true, 0⟩
/-- R99 -/
def LNO_PROBE_CNT.COUNT : Fld := ⟨243, 0x610034, 128, 2048, 0, 32, .ro, .module, 0, 0, true, 0⟩

/-- Every field of this file, in order of its number. -/
def fieldsLane : List Fld :=
  [LNI_GRP_CFG.CLK_MODE_ACT, LNI_GRP_CFG.CLK_MODE, LNI_GRP_CFG.FC_ACTIVE, LNI_GRP_CFG.ONE_WAY, LNI_GRP_CFG.ENABLED,
   LNI_GRP_STATUS.ACTIVE_MAP, LNI_GRP_STATUS.NO_PARTNER_MAP, LNI_CTL.IDLE_LIMIT, LNI_CTL.AUTO_IDLE,
   LNI_CTL.WAKE_SIGDET, LNI_CTL.CLR_CNT, LNI_CTL.RETRAIN, LNI_CTL.TARGET_STATE, LNI_STATUS.LAST_FAIL,
   LNI_STATUS.ATTEMPT, LNI_STATUS.ONE_WAY_ACT, LNI_STATUS.CLK_FWD, LNI_STATUS.ADAPT_FROZEN, LNI_STATUS.POL_INV,
   LNI_STATUS.ALIGNED, LNI_STATUS.CDR_LOCK, LNI_STATUS.SIGDET, LNI_STATUS.STATE, LNI_EQ.PARTNER_PRESET,
   LNI_EQ.PRESET_REQ, LNI_EQ.CTLE, LNI_EQ.DFE1, LNI_ADAPT_CFG.ADAPT_EN, LNI_ADAPT_CFG.DENSITY_MIN,
   LNI_PARTNER_LO.ID_LO, LNI_PARTNER_HI.PARTNER_LANE, LNI_PARTNER_HI.ID_HI, LNI_EVT.IDLE_TIMEOUT,
   LNI_EVT.FALLBACK_FWD, LNI_EVT.LOCK_LOSS, LNI_EVT.REALIGN, LNI_EVT.MODE_MISMATCH, LNI_EVT.MISWIRE,
   LNI_EVT.NO_PARTNER, LNI_EVT.DOWN, LNI_EVT.UP, LNI_CNT_FLAGS.GATED_OVF, LNI_CNT_FLAGS.PROBE_OVF,
   LNI_CNT_FLAGS.TRAIN_FAIL_OVF, LNI_CNT_FLAGS.LOCK_LOSS_OVF, LNI_CNT_FLAGS.REALIGN_OVF, LNI_CNT_FLAGS.CRC_OVF,
   LNI_CNT_FLAGS.DISP_OVF, LNI_CNT_FLAGS.CODE_OVF, LNI_CNT_FLAGS.BLOCKS_WRAP, LNI_BLOCKS.COUNT, LNI_CODE_ERR.COUNT,
   LNI_DISP_ERR.COUNT, LNI_CRC_ERR.COUNT, LNI_REALIGN_CNT.COUNT, LNI_LOCK_LOSS_CNT.COUNT, LNI_TRAIN_FAIL_CNT.COUNT,
   LNI_PROBE_CNT.COUNT, LNI_GATED_CNT.COUNT, LNI_PAY_CFG.SLOT_MODE] ++
  [LNI_PAY_CFG.SCR_DIS, LNI_PAY_STATUS.PAY_LOSS, LNI_PAY_STATUS.SIDE_A, LNI_PAY_STATUS.TYPE_LAST,
   LNI_PAY_STATUS.SEQ_LAST, LNI_CAD_LO.CAD3, LNI_CAD_LO.CAD2, LNI_CAD_LO.CAD1, LNI_CAD_LO.CAD0, LNI_CAD_HI.CAD7,
   LNI_CAD_HI.CAD6, LNI_CAD_HI.CAD5, LNI_CAD_HI.CAD4, LNI_PAY_EVT.MODE_ERR, LNI_PAY_EVT.SIDE_CHANGE,
   LNI_PAY_EVT.PAY_RESTORE, LNI_PAY_EVT.PAY_LOSS, LNI_PAY_FLAGS.PAY_LOSS_OVF, LNI_PAY_FLAGS.TEST_OVF,
   LNI_PAY_FLAGS.ILLEGAL_OVF, LNI_PAY_FLAGS.MODE_OVF, LNI_PAY_FLAGS.HDR_OVF, LNI_PAY_FLAGS.SEQ_OVF,
   LNI_SEQ_ERR.COUNT, LNI_HDR_ERR.COUNT, LNI_MODE_ERR.COUNT, LNI_ILLEGAL_WORD.COUNT, LNI_TEST_ERR.COUNT,
   LNI_PAY_LOSS_CNT.COUNT, LNO_GRP_CFG.CLK_MODE_ACT, LNO_GRP_CFG.CLK_MODE, LNO_GRP_CFG.FC_OUT_ON,
   LNO_GRP_CFG.ONE_WAY, LNO_GRP_CFG.ENABLED, LNO_GRP_STATUS.ACTIVE_MAP, LNO_GRP_STATUS.NO_PARTNER_MAP,
   LNO_CTL.CLR_CNT, LNO_CTL.RETRAIN, LNO_CTL.TARGET_STATE, LNO_STATUS.REFUSED, LNO_STATUS.LAST_FAIL,
   LNO_STATUS.ATTEMPT, LNO_STATUS.ONE_WAY_ACT, LNO_STATUS.CLK_FWD, LNO_STATUS.STATE, LNO_TX_CFG.HONOUR_REQ,
   LNO_TX_CFG.PRESET_ACT, LNO_TX_CFG.AMPLITUDE, LNO_TX_CFG.PRESET, LNO_EVT.FALLBACK_FWD, LNO_EVT.MODE_MISMATCH,
   LNO_EVT.MISWIRE, LNO_EVT.NO_PARTNER, LNO_EVT.DOWN, LNO_EVT.UP, LNO_CNT_FLAGS.PROBE_OVF,
   LNO_CNT_FLAGS.TRAIN_FAIL_OVF, LNO_CNT_FLAGS.FILL_WRAP, LNO_CNT_FLAGS.BLOCKS_WRAP, LNO_PAY_CFG.CLAIM] ++
  [LNO_PAY_CFG.TEST_REFUSED, LNO_PAY_CFG.SLOT_MODE, LNO_PAY_CFG.TEST, LNO_PAY_CFG.SCR_DIS, LNO_BLOCKS.COUNT,
   LNO_FILL_BLOCKS.COUNT, LNO_TRAIN_FAIL_CNT.COUNT, LNO_PROBE_CNT.COUNT]

end Sys2Proof.Machine
end

