-- ==== Sys2Proof/Machine/RegistersMedia.lean ====
section
/-! DEFINITION. The register fields of the AUD, REE, ETH and FLW blocks, from the register tables of the spec (the rule of each register
is named in its docstring). The columns are those of `Fld`: id, base, stride, count, lowest bit, width, access type, reset
domain, reset value, event source, counter or meter, reset step. A field whose Reset column shows "I" or "P" (R17, R18) holds
0 until an image or the store gives its value. Reserved bits (R13) are no field. -/

namespace Sys2Proof.Machine

/-- R300 -/
def AUD_INFO.POOL_WORDS : Fld := ⟨403, 0x1000000, 0, 1, 0, 25, .ro, .por, 25165824, 0, false, 0⟩
/-- R301 -/
def AUD_CFG.CLR_CNT : Fld := ⟨404, 0x1000004, 0, 1, 31, 1, .wo, .image, 0, 0, false, 0⟩
/-- R301 -/
def AUD_CFG.AUDIO_PLANE : Fld := ⟨405, 0x1000004, 0, 1, 0, 3, .ro, .image, 0, 0, false, 0⟩
/-- R302 -/
def AUD_BLOCK.COUNT : Fld := ⟨406, 0x1000008, 0, 1, 0, 64, .ro, .image, 0, 0, true, 0⟩
/-- R303 -/
def AUD_POOL.USED : Fld := ⟨407, 0x1000010, 0, 1, 0, 25, .ro, .image, 0, 0, false, 0⟩
/-- R304 -/
def AUD_IN_MASK.GROUPS : Fld := ⟨408, 0x1010000, 16, 16384, 0, 32, .ro, .image, 0, 0, false, 0⟩
/-- R304 -/
def AUD_IN_PRESENT.GROUPS : Fld := ⟨409, 0x1010004, 16, 16384, 0, 32, .ro, .module, 0, 0, false, 0⟩
/-- R305 -/
def AUD_IN_STATUS.PKT_OVF : Fld := ⟨410, 0x1010008, 16, 16384, 9, 1, .w1c, .module, 0, 0, false, 0⟩
/-- R305 -/
def AUD_IN_STATUS.SLIP_OVF : Fld := ⟨411, 0x1010008, 16, 16384, 8, 1, .w1c, .module, 0, 0, false, 0⟩
/-- R305 -/
def AUD_IN_STATUS.PKT_ERR : Fld := ⟨412, 0x1010008, 16, 16384, 3, 1, .w1c, .module, 0, 11, false, 0⟩
/-- R305 -/
def AUD_IN_STATUS.RATE_MISMATCH : Fld := ⟨413, 0x1010008, 16, 16384, 2, 1, .w1c, .module, 0, 11, false, 0⟩
/-- R305 -/
def AUD_IN_STATUS.LOSS : Fld := ⟨414, 0x1010008, 16, 16384, 1, 1, .w1c, .module, 0, 11, false, 0⟩
/-- R305 -/
def AUD_IN_STATUS.SLIP : Fld := ⟨415, 0x1010008, 16, 16384, 0, 1, .w1c, .module, 0, 11, false, 0⟩
/-- R306 -/
def AUD_IN_SLIP_CNT.COUNT : Fld := ⟨416, 0x1050000, 4, 16384, 0, 32, .ro, .module, 0, 0, true, 0⟩
/-- R306 -/
def AUD_IN_PKT_ERR_CNT.COUNT : Fld := ⟨417, 0x1060000, 4, 16384, 0, 32, .ro, .module, 0, 0, true, 0⟩
/-- R307 -/
def AUD_OUT_RINGS.GROUPS : Fld := ⟨418, 0x1070000, 16, 16384, 0, 32, .ro, .image, 0, 0, false, 0⟩
/-- R307 -/
def AUD_OUT_MUTE.GROUPS : Fld := ⟨419, 0x1070004, 16, 16384, 0, 32, .ro, .image, 0, 0, false, 0⟩
/-- R308 -/
def AUD_OUT_STATUS.NOVIDEO : Fld := ⟨420, 0x1070008, 16, 16384, 8, 1, .ro, .module, 1, 0, false, 0⟩
/-- R308 -/
def AUD_OUT_STATUS.INACTIVE : Fld := ⟨421, 0x1070008, 16, 16384, 0, 1, .w1c, .module, 0, 12, false, 0⟩
/-- R309 -/
def AUD_RING_CFG.WKIND : Fld := ⟨422, 0x1200000, 4, 262144, 30, 2, .ro, .image, 0, 0, false, 0⟩
/-- R309 -/
def AUD_RING_CFG.R96 : Fld := ⟨423, 0x1200000, 4, 262144, 29, 1, .ro, .image, 0, 0, false, 0⟩
/-- R309 -/
def AUD_RING_CFG.CAP_LOG2 : Fld := ⟨424, 0x1200000, 4, 262144, 24, 4, .ro, .image, 0, 0, false, 0⟩
/-- R309 -/
def AUD_RING_CFG.LEN_LOG2 : Fld := ⟨425, 0x1200000, 4, 262144, 20, 4, .ro, .image, 0, 0, false, 0⟩
/-- R309 -/
def AUD_RING_CFG.PEND_LOG2 : Fld := ⟨426, 0x1200000, 4, 262144, 16, 4, .ro, .image, 0, 0, false, 0⟩
/-- R309 -/
def AUD_RING_CFG.WRITER : Fld := ⟨427, 0x1200000, 4, 262144, 0, 16, .ro, .image, 0, 0, false, 0⟩
/-- R310 -/
def AUD_RING_STATUS.NONPCM_FILL : Fld := ⟨428, 0x1300000, 4, 262144, 6, 1, .w1c, .image, 0, 13, false, 0⟩
/-- R310 -/
def AUD_RING_STATUS.LAT_CLAMP : Fld := ⟨429, 0x1300000, 4, 262144, 5, 1, .w1c, .image, 0, 13, false, 0⟩
/-- R310 -/
def AUD_RING_STATUS.LEN_APPLIED : Fld := ⟨430, 0x1300000, 4, 262144, 4, 1, .w1c, .image, 0, 13, false, 0⟩
/-- R310 -/
def AUD_RING_STATUS.PEND : Fld := ⟨431, 0x1300000, 4, 262144, 2, 1, .ro, .image, 0, 0, false, 0⟩
/-- R310 -/
def AUD_RING_STATUS.DATA : Fld := ⟨432, 0x1300000, 4, 262144, 1, 1, .ro, .image, 0, 0, false, 0⟩
/-- R310 -/
def AUD_RING_STATUS.MUTE : Fld := ⟨433, 0x1300000, 4, 262144, 0, 1, .ro, .image, 1, 0, false, 0⟩
/-- R337 -/
def REE_INFO.ENGINES : Fld := ⟨434, 0x1400000, 0, 1, 24, 8, .ro, .por, 128, 0, false, 0⟩
/-- R337 -/
def REE_INFO.MAC_LANES : Fld := ⟨435, 0x1400000, 0, 1, 16, 8, .ro, .por, 8, 0, false, 0⟩
/-- R337 -/
def REE_INFO.PMEM : Fld := ⟨436, 0x1400000, 0, 1, 0, 16, .ro, .por, 8192, 0, false, 0⟩
/-- R338 -/
def REE_CFG.CLR_CNT : Fld := ⟨437, 0x1400004, 0, 1, 31, 1, .wo, .module, 0, 0, false, 0⟩
/-- R338 -/
def REE_CFG.CYCLE_LIMIT : Fld := ⟨438, 0x1400004, 0, 1, 0, 19, .ro, .module, 320000, 0, false, 0⟩
/-- R339 -/
def REE_ENG_CFG.ENABLED : Fld := ⟨439, 0x1410000, 64, 128, 0, 1, .ro, .image, 0, 0, false, 0⟩
/-- R340 -/
def REE_ENG_PROG.PROG_LEN : Fld := ⟨440, 0x1410004, 64, 128, 19, 13, .ro, .image, 0, 0, false, 0⟩
/-- R340 -/
def REE_ENG_PROG.STATIC_CYCLES : Fld := ⟨441, 0x1410004, 64, 128, 0, 19, .ro, .image, 0, 0, false, 0⟩
/-- R341 -/
def REE_ENG_STATUS.STATE : Fld := ⟨442, 0x1410008, 64, 128, 30, 2, .ro, .image, 0, 0, false, 0⟩
/-- R341 -/
def REE_ENG_STATUS.LAST_CYCLES : Fld := ⟨443, 0x1410008, 64, 128, 0, 19, .ro, .image, 0, 0, false, 0⟩
/-- R342 -/
def REE_ENG_EVT.BLOCKS_WRAP : Fld := ⟨444, 0x141000c, 64, 128, 11, 1, .w1c, .module, 0, 0, false, 0⟩
/-- R342 -/
def REE_ENG_EVT.OVERRUN_OVF : Fld := ⟨445, 0x141000c, 64, 128, 10, 1, .w1c, .module, 0, 0, false, 0⟩
/-- R342 -/
def REE_ENG_EVT.SAT_OVF : Fld := ⟨446, 0x141000c, 64, 128, 9, 1, .w1c, .module, 0, 0, false, 0⟩
/-- R342 -/
def REE_ENG_EVT.ACCOV_OVF : Fld := ⟨447, 0x141000c, 64, 128, 8, 1, .w1c, .module, 0, 0, false, 0⟩
/-- R342 -/
def REE_ENG_EVT.OVERRUN : Fld := ⟨448, 0x141000c, 64, 128, 2, 1, .w1c, .module, 0, 14, false, 0⟩
/-- R342 -/
def REE_ENG_EVT.SAT : Fld := ⟨449, 0x141000c, 64, 128, 1, 1, .w1c, .module, 0, 14, false, 0⟩
/-- R342 -/
def REE_ENG_EVT.ACCOV : Fld := ⟨450, 0x141000c, 64, 128, 0, 1, .w1c, .module, 0, 14, false, 0⟩
/-- R343 -/
def REE_ENG_ACCOV_PC.VALID : Fld := ⟨451, 0x1410010, 64, 128, 31, 1, .ro, .module, 0, 0, false, 0⟩
/-- R343 -/
def REE_ENG_ACCOV_PC.ACC : Fld := ⟨452, 0x1410010, 64, 128, 16, 2, .ro, .module, 0, 0, false, 0⟩
/-- R343 -/
def REE_ENG_ACCOV_PC.PC : Fld := ⟨453, 0x1410010, 64, 128, 0, 13, .ro, .module, 0, 0, false, 0⟩
/-- R344 -/
def REE_ENG_ACCOV_CNT.COUNT : Fld := ⟨454, 0x1410014, 64, 128, 0, 32, .ro, .module, 0, 0, true, 0⟩
/-- R344 -/
def REE_ENG_SAT_CNT.COUNT : Fld := ⟨455, 0x1410018, 64, 128, 0, 32, .ro, .module, 0, 0, true, 0⟩
/-- R344 -/
def REE_ENG_OVERRUN_CNT.COUNT : Fld := ⟨456, 0x141001c, 64, 128, 0, 32, .ro, .module, 0, 0, true, 0⟩
/-- R344 -/
def REE_ENG_BLOCKS.COUNT : Fld := ⟨457, 0x1410020, 64, 128, 0, 64, .ro, .module, 0, 0, true, 0⟩
/-- R345 -/
def REE_PK_CFG.CLR_MAX : Fld := ⟨458, 0x1420000, 16, 8192, 31, 1, .wo, .module, 0, 0, false, 0⟩
/-- R345 -/
def REE_PK_CFG.EN : Fld := ⟨459, 0x1420000, 16, 8192, 30, 1, .rw, .module, 0, 0, false, 0⟩
/-- R345 -/
def REE_PK_CFG.PAIR96 : Fld := ⟨460, 0x1420000, 16, 8192, 29, 1, .rw, .module, 0, 0, false, 0⟩
/-- R345 -/
def REE_PK_CFG.RING : Fld := ⟨461, 0x1420000, 16, 8192, 0, 18, .rw, .module, 0, 0, false, 0⟩
/-- R346 -/
def REE_PK_MAX.PEAK_MAX : Fld := ⟨462, 0x1420004, 16, 8192, 0, 24, .ro, .module, 0, 0, true, 0⟩
/-- R346 -/
def REE_PK_TP_MAX.TP_MAX : Fld := ⟨463, 0x1420008, 16, 8192, 0, 26, .ro, .module, 0, 0, true, 0⟩
/-- R346 -/
def REE_PK_100.PEAK_100 : Fld := ⟨464, 0x142000c, 16, 8192, 0, 24, .ro, .module, 0, 0, true, 0⟩
/-- R347 -/
def REE_LD_CH0.WEIGHT : Fld := ⟨465, 0x1440000, 64, 1024, 30, 2, .rw, .module, 0, 0, false, 0⟩
/-- R347 -/
def REE_LD_CH0.PAIR96 : Fld := ⟨466, 0x1440000, 64, 1024, 29, 1, .rw, .module, 0, 0, false, 0⟩
/-- R347 -/
def REE_LD_CH0.RING : Fld := ⟨467, 0x1440000, 64, 1024, 0, 18, .rw, .module, 0, 0, false, 0⟩
/-- R347 -/
def REE_LD_CH1.WEIGHT : Fld := ⟨468, 0x1440004, 64, 1024, 30, 2, .rw, .module, 0, 0, false, 0⟩
/-- R347 -/
def REE_LD_CH1.PAIR96 : Fld := ⟨469, 0x1440004, 64, 1024, 29, 1, .rw, .module, 0, 0, false, 0⟩
/-- R347 -/
def REE_LD_CH1.RING : Fld := ⟨470, 0x1440004, 64, 1024, 0, 18, .rw, .module, 0, 0, false, 0⟩
/-- R347 -/
def REE_LD_CH2.WEIGHT : Fld := ⟨471, 0x1440008, 64, 1024, 30, 2, .rw, .module, 0, 0, false, 0⟩
/-- R347 -/
def REE_LD_CH2.PAIR96 : Fld := ⟨472, 0x1440008, 64, 1024, 29, 1, .rw, .module, 0, 0, false, 0⟩
/-- R347 -/
def REE_LD_CH2.RING : Fld := ⟨473, 0x1440008, 64, 1024, 0, 18, .rw, .module, 0, 0, false, 0⟩
/-- R347 -/
def REE_LD_CH3.WEIGHT : Fld := ⟨474, 0x144000c, 64, 1024, 30, 2, .rw, .module, 0, 0, false, 0⟩
/-- R347 -/
def REE_LD_CH3.PAIR96 : Fld := ⟨475, 0x144000c, 64, 1024, 29, 1, .rw, .module, 0, 0, false, 0⟩
/-- R347 -/
def REE_LD_CH3.RING : Fld := ⟨476, 0x144000c, 64, 1024, 0, 18, .rw, .module, 0, 0, false, 0⟩
/-- R347 -/
def REE_LD_CH4.WEIGHT : Fld := ⟨477, 0x1440010, 64, 1024, 30, 2, .rw, .module, 0, 0, false, 0⟩
/-- R347 -/
def REE_LD_CH4.PAIR96 : Fld := ⟨478, 0x1440010, 64, 1024, 29, 1, .rw, .module, 0, 0, false, 0⟩
/-- R347 -/
def REE_LD_CH4.RING : Fld := ⟨479, 0x1440010, 64, 1024, 0, 18, .rw, .module, 0, 0, false, 0⟩
/-- R347 -/
def REE_LD_CH5.WEIGHT : Fld := ⟨480, 0x1440014, 64, 1024, 30, 2, .rw, .module, 0, 0, false, 0⟩
/-- R347 -/
def REE_LD_CH5.PAIR96 : Fld := ⟨481, 0x1440014, 64, 1024, 29, 1, .rw, .module, 0, 0, false, 0⟩
/-- R347 -/
def REE_LD_CH5.RING : Fld := ⟨482, 0x1440014, 64, 1024, 0, 18, .rw, .module, 0, 0, false, 0⟩
/-- R347 -/
def REE_LD_CH6.WEIGHT : Fld := ⟨483, 0x1440018, 64, 1024, 30, 2, .rw, .module, 0, 0, false, 0⟩
/-- R347 -/
def REE_LD_CH6.PAIR96 : Fld := ⟨484, 0x1440018, 64, 1024, 29, 1, .rw, .module, 0, 0, false, 0⟩
/-- R347 -/
def REE_LD_CH6.RING : Fld := ⟨485, 0x1440018, 64, 1024, 0, 18, .rw, .module, 0, 0, false, 0⟩
/-- R347 -/
def REE_LD_CH7.WEIGHT : Fld := ⟨486, 0x144001c, 64, 1024, 30, 2, .rw, .module, 0, 0, false, 0⟩
/-- R347 -/
def REE_LD_CH7.PAIR96 : Fld := ⟨487, 0x144001c, 64, 1024, 29, 1, .rw, .module, 0, 0, false, 0⟩
/-- R347 -/
def REE_LD_CH7.RING : Fld := ⟨488, 0x144001c, 64, 1024, 0, 18, .rw, .module, 0, 0, false, 0⟩
/-- R348 -/
def REE_LD_CTL.CLR_MAX : Fld := ⟨489, 0x1440020, 64, 1024, 31, 1, .wo, .module, 0, 0, false, 0⟩
/-- R348 -/
def REE_LD_CTL.RESET_INT : Fld := ⟨490, 0x1440020, 64, 1024, 30, 1, .wo, .module, 0, 0, false, 0⟩
/-- R348 -/
def REE_LD_CTL.EN : Fld := ⟨491, 0x1440020, 64, 1024, 29, 1, .rw, .module, 0, 0, false, 0⟩
/-- R348 -/
def REE_LD_CTL.GATED_OVF : Fld := ⟨492, 0x1440020, 64, 1024, 28, 1, .w1c, .module, 0, 0, false, 0⟩
/-- R349 -/
def REE_LD_MS.MOMENTARY : Fld := ⟨493, 0x1440024, 64, 1024, 16, 16, .ro, .module, 32768, 0, true, 0⟩
/-- R349 -/
def REE_LD_MS.SHORT : Fld := ⟨494, 0x1440024, 64, 1024, 0, 16, .ro, .module, 32768, 0, true, 0⟩
/-- R349 -/
def REE_LD_INT.INTEGRATED : Fld := ⟨495, 0x1440028, 64, 1024, 16, 16, .ro, .module, 32768, 0, true, 0⟩
/-- R349 -/
def REE_LD_MAX.M_MAX : Fld := ⟨496, 0x144002c, 64, 1024, 16, 16, .ro, .module, 32768, 0, true, 0⟩
/-- R349 -/
def REE_LD_MAX.S_MAX : Fld := ⟨497, 0x144002c, 64, 1024, 0, 16, .ro, .module, 32768, 0, true, 0⟩
/-- R350 -/
def REE_LD_GATED.COUNT : Fld := ⟨498, 0x1440030, 64, 1024, 0, 32, .ro, .module, 0, 0, true, 0⟩
/-- R351 -/
def REE_COEF.COEF : Fld := ⟨499, 0x1600000, 4, 524288, 0, 32, .ro, .image, 0, 0, false, 0⟩
/-- R381 -/
def ETH_INFO.PORTS : Fld := ⟨500, 0x1800000, 0, 1, 24, 8, .ro, .por, 16, 0, false, 0⟩
/-- R381 -/
def ETH_INFO.LANES : Fld := ⟨501, 0x1800000, 0, 1, 16, 8, .ro, .por, 128, 0, false, 0⟩
/-- R381 -/
def ETH_INFO.LPORTS : Fld := ⟨502, 0x1800000, 0, 1, 8, 8, .ro, .por, 64, 0, false, 0⟩
/-- R381 -/
def ETH_INFO.MGMT : Fld := ⟨503, 0x1800000, 0, 1, 0, 8, .ro, .por, 2, 0, false, 0⟩
/-- R382 -/
def ETH_CFG.CLR_CNT : Fld := ⟨504, 0x1800004, 0, 1, 31, 1, .wo, .module, 0, 0, false, 0⟩
/-- R383 -/
def ETH_PORT_CFG.ENABLED : Fld := ⟨505, 0x1810000, 256, 16, 8, 1, .ro, .image, 0, 0, false, 0⟩
/-- R383 -/
def ETH_PORT_CFG.SPLIT : Fld := ⟨506, 0x1810000, 256, 16, 6, 2, .ro, .image, 0, 0, false, 0⟩
/-- R383 -/
def ETH_PORT_CFG.LANE_RATE : Fld := ⟨507, 0x1810000, 256, 16, 5, 1, .ro, .image, 0, 0, false, 0⟩
/-- R383 -/
def ETH_PORT_CFG.NET_MAP : Fld := ⟨508, 0x1810000, 256, 16, 0, 4, .ro, .image, 0, 0, false, 0⟩
/-- R384 -/
def ETH_PORT_STATUS.PAUSED : Fld := ⟨509, 0x1810004, 256, 16, 16, 4, .ro, .module, 0, 0, false, 0⟩
/-- R384 -/
def ETH_PORT_STATUS.LINK : Fld := ⟨510, 0x1810004, 256, 16, 12, 4, .ro, .module, 0, 0, false, 0⟩
/-- R384 -/
def ETH_PORT_STATUS.RFAULT : Fld := ⟨511, 0x1810004, 256, 16, 8, 4, .ro, .module, 0, 0, false, 0⟩
/-- R384 -/
def ETH_PORT_STATUS.LFAULT : Fld := ⟨512, 0x1810004, 256, 16, 4, 4, .ro, .module, 0, 0, false, 0⟩
/-- R384 -/
def ETH_PORT_STATUS.STEP : Fld := ⟨513, 0x1810004, 256, 16, 0, 2, .ro, .module, 0, 0, false, 0⟩
/-- R385 -/
def ETH_PORT_STEP.RISE1 : Fld := ⟨514, 0x1810008, 256, 16, 25, 7, .rw, .module, 38, 0, false, 0⟩
/-- R385 -/
def ETH_PORT_STEP.FALL1 : Fld := ⟨515, 0x1810008, 256, 16, 18, 7, .rw, .module, 25, 0, false, 0⟩
/-- R385 -/
def ETH_PORT_STEP.RISE2 : Fld := ⟨516, 0x1810008, 256, 16, 11, 7, .rw, .module, 10, 0, false, 0⟩
/-- R385 -/
def ETH_PORT_STEP.FALL2 : Fld := ⟨517, 0x1810008, 256, 16, 4, 7, .rw, .module, 5, 0, false, 0⟩
/-- R385 -/
def ETH_PORT_STEP.STEP_FLOOR : Fld := ⟨518, 0x1810008, 256, 16, 2, 2, .rw, .module, 2, 0, false, 0⟩
/-- R386 -/
def ETH_PORT_EVT.STEP_OVF : Fld := ⟨519, 0x181000c, 256, 16, 8, 1, .w1c, .module, 0, 0, false, 0⟩
/-- R386 -/
def ETH_PORT_EVT.FLUSH_DONE : Fld := ⟨520, 0x181000c, 256, 16, 4, 1, .w1c, .module, 0, 15, false, 0⟩
/-- R386 -/
def ETH_PORT_EVT.RX_NOBUF : Fld := ⟨521, 0x181000c, 256, 16, 3, 1, .w1c, .module, 0, 15, false, 0⟩
/-- R386 -/
def ETH_PORT_EVT.STEP : Fld := ⟨522, 0x181000c, 256, 16, 2, 1, .w1c, .module, 0, 0, false, 0⟩
/-- R386 -/
def ETH_PORT_EVT.LINK_DOWN : Fld := ⟨523, 0x181000c, 256, 16, 1, 1, .w1c, .module, 0, 15, false, 0⟩
/-- R386 -/
def ETH_PORT_EVT.LINK_UP : Fld := ⟨524, 0x181000c, 256, 16, 0, 1, .w1c, .module, 0, 15, false, 0⟩
/-- R387 -/
def ETH_PORT_STEP_CHG_CNT.COUNT : Fld := ⟨525, 0x1810010, 256, 16, 0, 32, .ro, .module, 0, 0, true, 0⟩
/-- R388 -/
def ETH_LP_CFG.PROMISC : Fld := ⟨526, 0x1820000, 256, 64, 31, 1, .rw, .module, 0, 0, false, 0⟩
/-- R388 -/
def ETH_LP_CFG.MEDIA_PAUSE : Fld := ⟨527, 0x1820000, 256, 64, 30, 1, .rw, .module, 0, 0, false, 0⟩
/-- R388 -/
def ETH_LP_CFG.UDP_CSUM : Fld := ⟨528, 0x1820000, 256, 64, 29, 1, .rw, .module, 1, 0, false, 0⟩
/-- R388 -/
def ETH_LP_CFG.MAX_FRAME : Fld := ⟨529, 0x1820000, 256, 64, 0, 14, .rw, .module, 1522, 0, false, 0⟩
/-- R389 -/
def ETH_LP_CTL.CTL_TX_BUSY : Fld := ⟨530, 0x1820004, 256, 64, 10, 1, .ro, .module, 0, 0, false, 0⟩
/-- R389 -/
def ETH_LP_CTL.CTL_RX_BUSY : Fld := ⟨531, 0x1820004, 256, 64, 9, 1, .ro, .module, 0, 0, false, 0⟩
/-- R389 -/
def ETH_LP_CTL.MEDIA_RX_BUSY : Fld := ⟨532, 0x1820004, 256, 64, 8, 1, .ro, .module, 0, 0, false, 0⟩
/-- R389 -/
def ETH_LP_CTL.FLUSH_CTL_TX : Fld := ⟨533, 0x1820004, 256, 64, 2, 1, .wo, .module, 0, 0, false, 0⟩
/-- R389 -/
def ETH_LP_CTL.FLUSH_CTL_RX : Fld := ⟨534, 0x1820004, 256, 64, 1, 1, .wo, .module, 0, 0, false, 0⟩
/-- R389 -/
def ETH_LP_CTL.FLUSH_MEDIA_RX : Fld := ⟨535, 0x1820004, 256, 64, 0, 1, .wo, .module, 0, 0, false, 0⟩
/-- R390 -/
def ETH_LP_MAC_LO.ADDR_LO : Fld := ⟨536, 0x1820008, 256, 64, 0, 32, .ro, .image, 0, 0, false, 0⟩
/-- R390 -/
def ETH_LP_MAC_HI.ADDR_HI : Fld := ⟨537, 0x182000c, 256, 64, 0, 16, .ro, .image, 0, 0, false, 0⟩
/-- R391 -/
def ETH_LP_PTP_DELAY.TX_DELAY : Fld := ⟨538, 0x1820010, 256, 64, 16, 16, .rw, .image, 0, 0, false, 0⟩
/-- R391 -/
def ETH_LP_PTP_DELAY.RX_DELAY : Fld := ⟨539, 0x1820010, 256, 64, 0, 16, .rw, .image, 0, 0, false, 0⟩
/-- R392 -/
def ETH_LP_CNT_FLAGS.OVF : Fld := ⟨540, 0x1820014, 256, 64, 8, 16, .w1c, .module, 0, 0, false, 0⟩
/-- R392 -/
def ETH_LP_CNT_FLAGS.WRAP : Fld := ⟨541, 0x1820014, 256, 64, 0, 6, .w1c, .module, 0, 0, false, 0⟩
/-- R376 -/
def ETH_LP_RX_OCTETS.COUNT : Fld := ⟨542, 0x1820020, 256, 64, 0, 64, .ro, .module, 0, 0, true, 0⟩
/-- R376 -/
def ETH_LP_RX_FRAMES.COUNT : Fld := ⟨543, 0x1820028, 256, 64, 0, 64, .ro, .module, 0, 0, true, 0⟩
/-- R376 -/
def ETH_LP_TX_OCTETS.COUNT : Fld := ⟨544, 0x1820030, 256, 64, 0, 64, .ro, .module, 0, 0, true, 0⟩
/-- R376 -/
def ETH_LP_TX_FRAMES.COUNT : Fld := ⟨545, 0x1820038, 256, 64, 0, 64, .ro, .module, 0, 0, true, 0⟩
/-- R376 -/
def ETH_LP_RX_MEDIA.COUNT : Fld := ⟨546, 0x1820040, 256, 64, 0, 64, .ro, .module, 0, 0, true, 0⟩
/-- R376 -/
def ETH_LP_RX_CTL.COUNT : Fld := ⟨547, 0x1820048, 256, 64, 0, 64, .ro, .module, 0, 0, true, 0⟩
/-- R376 -/
def ETH_LP_RUNT.COUNT : Fld := ⟨548, 0x1820050, 256, 64, 0, 32, .ro, .module, 0, 0, true, 0⟩
/-- R376 -/
def ETH_LP_OVERSIZE.COUNT : Fld := ⟨549, 0x1820054, 256, 64, 0, 32, .ro, .module, 0, 0, true, 0⟩
/-- R376 -/
def ETH_LP_FCS_ERR.COUNT : Fld := ⟨550, 0x1820058, 256, 64, 0, 32, .ro, .module, 0, 0, true, 0⟩
/-- R376 -/
def ETH_LP_ADDR_DROP.COUNT : Fld := ⟨551, 0x182005c, 256, 64, 0, 32, .ro, .module, 0, 0, true, 0⟩
/-- R376 -/
def ETH_LP_IP_HDR_ERR.COUNT : Fld := ⟨552, 0x1820060, 256, 64, 0, 32, .ro, .module, 0, 0, true, 0⟩
/-- R376 -/
def ETH_LP_UDP_CSUM_ERR.COUNT : Fld := ⟨553, 0x1820064, 256, 64, 0, 32, .ro, .module, 0, 0, true, 0⟩
/-- R376 -/
def ETH_LP_RX_NOBUF.COUNT : Fld := ⟨554, 0x1820068, 256, 64, 0, 32, .ro, .module, 0, 0, true, 0⟩
/-- R376 -/
def ETH_LP_FLUSH_DROP.COUNT : Fld := ⟨555, 0x182006c, 256, 64, 0, 32, .ro, .module, 0, 0, true, 0⟩
/-- R376 -/
def ETH_LP_PAUSE_RX.COUNT : Fld := ⟨556, 0x1820070, 256, 64, 0, 32, .ro, .module, 0, 0, true, 0⟩
/-- R376 -/
def ETH_LP_MEDIA_PAUSE_IGN.COUNT : Fld := ⟨557, 0x1820074, 256, 64, 0, 32, .ro, .module, 0, 0, true, 0⟩
/-- R376 -/
def ETH_LP_MEDIA_PAUSE_DROP.COUNT : Fld := ⟨558, 0x1820078, 256, 64, 0, 32, .ro, .module, 0, 0, true, 0⟩
/-- R376 -/
def ETH_LP_UNSUP_CTL.COUNT : Fld := ⟨559, 0x182007c, 256, 64, 0, 32, .ro, .module, 0, 0, true, 0⟩
/-- R376 -/
def ETH_LP_TX_LINK_DROP.COUNT : Fld := ⟨560, 0x1820080, 256, 64, 0, 32, .ro, .module, 0, 0, true, 0⟩
/-- R376 -/
def ETH_LP_FEC_CORR.COUNT : Fld := ⟨561, 0x1820084, 256, 64, 0, 32, .ro, .module, 0, 0, true, 0⟩
/-- R376 -/
def ETH_LP_FEC_UNCORR.COUNT : Fld := ⟨562, 0x1820088, 256, 64, 0, 32, .ro, .module, 0, 0, true, 0⟩
/-- R376 -/
def ETH_LP_LINK_DOWN_CNT.COUNT : Fld := ⟨563, 0x182008c, 256, 64, 0, 32, .ro, .module, 0, 0, true, 0⟩
/-- R393 -/
def ETH_MGMT_RX_DROP.COUNT : Fld := ⟨564, 0x1830000, 16, 2, 0, 32, .ro, .module, 0, 0, true, 0⟩
/-- R393 -/
def ETH_MGMT_FLAGS.RX_DROP_OVF : Fld := ⟨565, 0x1830004, 16, 2, 0, 1, .w1c, .module, 0, 0, false, 0⟩
/-- R745 -/
def ETH_LANE_TXEQ.C_M2 : Fld := ⟨566, 0x1840000, 4, 128, 16, 2, .rw, .module, 0, 0, false, 0⟩
/-- R745 -/
def ETH_LANE_TXEQ.C_M1 : Fld := ⟨567, 0x1840000, 4, 128, 8, 4, .rw, .module, 2, 0, false, 0⟩
/-- R745 -/
def ETH_LANE_TXEQ.C_P1 : Fld := ⟨568, 0x1840000, 4, 128, 0, 4, .rw, .module, 0, 0, false, 0⟩
/-- R423 -/
def FLW_INFO.PROCESSORS : Fld := ⟨569, 0x1c00000, 0, 1, 16, 8, .ro, .por, 16, 0, false, 0⟩
/-- R423 -/
def FLW_INFO.TX_LOG2 : Fld := ⟨570, 0x1c00000, 0, 1, 8, 8, .ro, .por, 16, 0, false, 0⟩
/-- R423 -/
def FLW_INFO.RX_LOG2 : Fld := ⟨571, 0x1c00000, 0, 1, 0, 8, .ro, .por, 16, 0, false, 0⟩
/-- R424 -/
def FLW_CFG.CLR_CNT : Fld := ⟨572, 0x1c00004, 0, 1, 31, 1, .wo, .module, 0, 0, false, 0⟩
/-- R425 -/
def FLW_LP_IP.ADDR : Fld := ⟨573, 0x1c00100, 4, 64, 0, 32, .ro, .image, 0, 0, false, 0⟩
/-- R426 -/
def FLW_PORT_NOFLOW.COUNT : Fld := ⟨574, 0x1c00200, 4, 16, 0, 32, .ro, .module, 0, 0, true, 0⟩
/-- R426 -/
def FLW_PORT_FLAGS.NOFLOW_OVF : Fld := ⟨575, 0x1c00240, 4, 16, 0, 1, .w1c, .module, 0, 0, false, 0⟩
/-- R427 -/
def FLW_RX_SEL.SNAP : Fld := ⟨576, 0x1c10000, 0, 1, 31, 1, .rw, .module, 0, 0, false, 0⟩
/-- R427 -/
def FLW_RX_SEL.CTX : Fld := ⟨577, 0x1c10000, 0, 1, 0, 16, .rw, .module, 0, 0, false, 0⟩
/-- R428 -/
def FLW_RX_CFG.KIND : Fld := ⟨578, 0x1c10004, 0, 65536, 29, 3, .ro, .image, 0, 0, false, 0⟩
/-- R428 -/
def FLW_RX_CFG.R96 : Fld := ⟨579, 0x1c10004, 0, 65536, 28, 1, .ro, .image, 0, 0, false, 0⟩
/-- R428 -/
def FLW_RX_CFG.N_CH_M1 : Fld := ⟨580, 0x1c10004, 0, 65536, 22, 6, .ro, .image, 0, 0, false, 0⟩
/-- R428 -/
def FLW_RX_CFG.BIND : Fld := ⟨581, 0x1c10004, 0, 65536, 0, 18, .ro, .image, 0, 0, false, 0⟩
/-- R429 -/
def FLW_RX_STATUS.EN : Fld := ⟨582, 0x1c10008, 0, 65536, 31, 1, .ro, .module, 0, 0, false, 0⟩
/-- R429 -/
def FLW_RX_STATUS.PAIRED : Fld := ⟨583, 0x1c10008, 0, 65536, 30, 1, .ro, .module, 0, 0, false, 0⟩
/-- R429 -/
def FLW_RX_STATUS.HOLD_WORDS : Fld := ⟨584, 0x1c10008, 0, 65536, 3, 16, .ro, .module, 0, 0, false, 0⟩
/-- R429 -/
def FLW_RX_STATUS.PATH_B_UP : Fld := ⟨585, 0x1c10008, 0, 65536, 2, 1, .ro, .module, 0, 0, false, 0⟩
/-- R429 -/
def FLW_RX_STATUS.PATH_A_UP : Fld := ⟨586, 0x1c10008, 0, 65536, 1, 1, .ro, .module, 0, 0, false, 0⟩
/-- R429 -/
def FLW_RX_STATUS.LOSS : Fld := ⟨587, 0x1c10008, 0, 65536, 0, 1, .ro, .module, 0, 0, false, 0⟩
/-- R430 -/
def FLW_RX_EVT.DAMAGED : Fld := ⟨588, 0x1c1000c, 0, 65536, 7, 1, .w1c, .module, 0, 16, false, 0⟩
/-- R430 -/
def FLW_RX_EVT.SLIP : Fld := ⟨589, 0x1c1000c, 0, 65536, 6, 1, .w1c, .module, 0, 16, false, 0⟩
/-- R430 -/
def FLW_RX_EVT.RESYNC : Fld := ⟨590, 0x1c1000c, 0, 65536, 5, 1, .w1c, .module, 0, 16, false, 0⟩
/-- R430 -/
def FLW_RX_EVT.RESTART : Fld := ⟨591, 0x1c1000c, 0, 65536, 4, 1, .w1c, .module, 0, 16, false, 0⟩
/-- R430 -/
def FLW_RX_EVT.PATH_UP : Fld := ⟨592, 0x1c1000c, 0, 65536, 3, 1, .w1c, .module, 0, 16, false, 0⟩
/-- R430 -/
def FLW_RX_EVT.PATH_DOWN : Fld := ⟨593, 0x1c1000c, 0, 65536, 2, 1, .w1c, .module, 0, 16, false, 0⟩
/-- R430 -/
def FLW_RX_EVT.RESTORE : Fld := ⟨594, 0x1c1000c, 0, 65536, 1, 1, .w1c, .module, 0, 16, false, 0⟩
/-- R430 -/
def FLW_RX_EVT.LOSS : Fld := ⟨595, 0x1c1000c, 0, 65536, 0, 1, .w1c, .module, 0, 16, false, 0⟩
/-- R431 -/
def FLW_RX_FLAGS.OVF : Fld := ⟨596, 0x1c10010, 0, 65536, 8, 9, .w1c, .module, 0, 0, false, 0⟩
/-- R431 -/
def FLW_RX_FLAGS.WRAP : Fld := ⟨597, 0x1c10010, 0, 65536, 0, 5, .w1c, .module, 0, 0, false, 0⟩
/-- R431 -/
def FLW_RX_REC.WORD : Fld := ⟨598, 0x1c10020, 4, 524288, 0, 32, .ro, .image, 0, 0, false, 0⟩
/-- R432 -/
def FLW_RX_PKTS.COUNT : Fld := ⟨599, 0x1c10040, 0, 65536, 0, 64, .ro, .module, 0, 0, true, 0⟩
/-- R432 -/
def FLW_RX_OCTETS.COUNT : Fld := ⟨600, 0x1c10048, 0, 65536, 0, 64, .ro, .module, 0, 0, true, 0⟩
/-- R432 -/
def FLW_RX_PKTS_A.COUNT : Fld := ⟨601, 0x1c10050, 0, 65536, 0, 64, .ro, .module, 0, 0, true, 0⟩
/-- R432 -/
def FLW_RX_PKTS_B.COUNT : Fld := ⟨602, 0x1c10058, 0, 65536, 0, 64, .ro, .module, 0, 0, true, 0⟩
/-- R432 -/
def FLW_RX_DUP.COUNT : Fld := ⟨603, 0x1c10060, 0, 65536, 0, 64, .ro, .module, 0, 0, true, 0⟩
/-- R432 -/
def FLW_RX_LOST.COUNT : Fld := ⟨604, 0x1c10068, 0, 65536, 0, 32, .ro, .module, 0, 0, true, 0⟩
/-- R432 -/
def FLW_RX_LATE.COUNT : Fld := ⟨605, 0x1c1006c, 0, 65536, 0, 32, .ro, .module, 0, 0, true, 0⟩
/-- R432 -/
def FLW_RX_BAD_HDR.COUNT : Fld := ⟨606, 0x1c10070, 0, 65536, 0, 32, .ro, .module, 0, 0, true, 0⟩
/-- R432 -/
def FLW_RX_GAP_A.COUNT : Fld := ⟨607, 0x1c10074, 0, 65536, 0, 32, .ro, .module, 0, 0, true, 0⟩
/-- R432 -/
def FLW_RX_GAP_B.COUNT : Fld := ⟨608, 0x1c10078, 0, 65536, 0, 32, .ro, .module, 0, 0, true, 0⟩
/-- R432 -/
def FLW_RX_RESTART.COUNT : Fld := ⟨609, 0x1c1007c, 0, 65536, 0, 32, .ro, .module, 0, 0, true, 0⟩
/-- R432 -/
def FLW_RX_DAMAGED.COUNT : Fld := ⟨610, 0x1c10080, 0, 65536, 0, 32, .ro, .module, 0, 0, true, 0⟩
/-- R432 -/
def FLW_RX_SLIP.COUNT : Fld := ⟨611, 0x1c10084, 0, 65536, 0, 32, .ro, .module, 0, 0, true, 0⟩
/-- R432 -/
def FLW_RX_CONCEAL.COUNT : Fld := ⟨612, 0x1c10088, 0, 65536, 0, 32, .ro, .module, 0, 0, true, 0⟩
/-- R427 -/
def FLW_TX_SEL.SNAP : Fld := ⟨613, 0x1c20000, 0, 1, 31, 1, .rw, .module, 0, 0, false, 0⟩
/-- R427 -/
def FLW_TX_SEL.CTX : Fld := ⟨614, 0x1c20000, 0, 1, 0, 16, .rw, .module, 0, 0, false, 0⟩
/-- R433 -/
def FLW_TX_CFG.KIND : Fld := ⟨615, 0x1c20004, 0, 65536, 29, 3, .ro, .image, 0, 0, false, 0⟩
/-- R433 -/
def FLW_TX_CFG.PLANE : Fld := ⟨616, 0x1c20004, 0, 65536, 26, 3, .ro, .image, 0, 0, false, 0⟩
/-- R433 -/
def FLW_TX_STATUS.EN : Fld := ⟨617, 0x1c20008, 0, 65536, 31, 1, .ro, .module, 0, 0, false, 0⟩
/-- R433 -/
def FLW_TX_STATUS.SENDING : Fld := ⟨618, 0x1c20008, 0, 65536, 30, 1, .ro, .module, 0, 0, false, 0⟩
/-- R433 -/
def FLW_TX_STATUS.RATE_MBPS : Fld := ⟨619, 0x1c20008, 0, 65536, 0, 19, .ro, .module, 0, 0, false, 0⟩
/-- R434 -/
def FLW_TX_EVT.STAGE_DROP : Fld := ⟨620, 0x1c2000c, 0, 65536, 2, 1, .w1c, .module, 0, 17, false, 0⟩
/-- R434 -/
def FLW_TX_EVT.SKIP : Fld := ⟨621, 0x1c2000c, 0, 65536, 1, 1, .w1c, .module, 0, 17, false, 0⟩
/-- R434 -/
def FLW_TX_EVT.TS_STEP : Fld := ⟨622, 0x1c2000c, 0, 65536, 0, 1, .w1c, .module, 0, 17, false, 0⟩
/-- R434 -/
def FLW_TX_FLAGS.OVF : Fld := ⟨623, 0x1c20010, 0, 65536, 8, 2, .w1c, .module, 0, 0, false, 0⟩
/-- R434 -/
def FLW_TX_FLAGS.WRAP : Fld := ⟨624, 0x1c20010, 0, 65536, 0, 3, .w1c, .module, 0, 0, false, 0⟩
/-- R434 -/
def FLW_TX_REC.WORD : Fld := ⟨625, 0x1c20020, 4, 524288, 0, 32, .ro, .image, 0, 0, false, 0⟩
/-- R435 -/
def FLW_TX_PKTS.COUNT : Fld := ⟨626, 0x1c20040, 0, 65536, 0, 64, .ro, .module, 0, 0, true, 0⟩
/-- R435 -/
def FLW_TX_OCTETS.COUNT : Fld := ⟨627, 0x1c20048, 0, 65536, 0, 64, .ro, .module, 0, 0, true, 0⟩
/-- R435 -/
def FLW_TX_STANDBY.COUNT : Fld := ⟨628, 0x1c20050, 0, 65536, 0, 64, .ro, .module, 0, 0, true, 0⟩
/-- R435 -/
def FLW_TX_SKIP.COUNT : Fld := ⟨629, 0x1c20058, 0, 65536, 0, 32, .ro, .module, 0, 0, true, 0⟩
/-- R435 -/
def FLW_TX_STAGE_DROP.COUNT : Fld := ⟨630, 0x1c2005c, 0, 65536, 0, 32, .ro, .module, 0, 0, true, 0⟩

/-- Every field of this file, in order of its number. -/
def fieldsMedia : List Fld :=
  [AUD_INFO.POOL_WORDS, AUD_CFG.CLR_CNT, AUD_CFG.AUDIO_PLANE, AUD_BLOCK.COUNT, AUD_POOL.USED, AUD_IN_MASK.GROUPS,
   AUD_IN_PRESENT.GROUPS, AUD_IN_STATUS.PKT_OVF, AUD_IN_STATUS.SLIP_OVF, AUD_IN_STATUS.PKT_ERR,
   AUD_IN_STATUS.RATE_MISMATCH, AUD_IN_STATUS.LOSS, AUD_IN_STATUS.SLIP, AUD_IN_SLIP_CNT.COUNT,
   AUD_IN_PKT_ERR_CNT.COUNT, AUD_OUT_RINGS.GROUPS, AUD_OUT_MUTE.GROUPS, AUD_OUT_STATUS.NOVIDEO,
   AUD_OUT_STATUS.INACTIVE, AUD_RING_CFG.WKIND, AUD_RING_CFG.R96, AUD_RING_CFG.CAP_LOG2, AUD_RING_CFG.LEN_LOG2,
   AUD_RING_CFG.PEND_LOG2, AUD_RING_CFG.WRITER, AUD_RING_STATUS.NONPCM_FILL, AUD_RING_STATUS.LAT_CLAMP,
   AUD_RING_STATUS.LEN_APPLIED, AUD_RING_STATUS.PEND, AUD_RING_STATUS.DATA, AUD_RING_STATUS.MUTE, REE_INFO.ENGINES,
   REE_INFO.MAC_LANES, REE_INFO.PMEM, REE_CFG.CLR_CNT, REE_CFG.CYCLE_LIMIT, REE_ENG_CFG.ENABLED,
   REE_ENG_PROG.PROG_LEN, REE_ENG_PROG.STATIC_CYCLES, REE_ENG_STATUS.STATE, REE_ENG_STATUS.LAST_CYCLES,
   REE_ENG_EVT.BLOCKS_WRAP, REE_ENG_EVT.OVERRUN_OVF, REE_ENG_EVT.SAT_OVF, REE_ENG_EVT.ACCOV_OVF, REE_ENG_EVT.OVERRUN,
   REE_ENG_EVT.SAT, REE_ENG_EVT.ACCOV, REE_ENG_ACCOV_PC.VALID, REE_ENG_ACCOV_PC.ACC, REE_ENG_ACCOV_PC.PC,
   REE_ENG_ACCOV_CNT.COUNT, REE_ENG_SAT_CNT.COUNT, REE_ENG_OVERRUN_CNT.COUNT, REE_ENG_BLOCKS.COUNT,
   REE_PK_CFG.CLR_MAX, REE_PK_CFG.EN, REE_PK_CFG.PAIR96, REE_PK_CFG.RING, REE_PK_MAX.PEAK_MAX] ++
  [REE_PK_TP_MAX.TP_MAX, REE_PK_100.PEAK_100, REE_LD_CH0.WEIGHT, REE_LD_CH0.PAIR96, REE_LD_CH0.RING,
   REE_LD_CH1.WEIGHT, REE_LD_CH1.PAIR96, REE_LD_CH1.RING, REE_LD_CH2.WEIGHT, REE_LD_CH2.PAIR96, REE_LD_CH2.RING,
   REE_LD_CH3.WEIGHT, REE_LD_CH3.PAIR96, REE_LD_CH3.RING, REE_LD_CH4.WEIGHT, REE_LD_CH4.PAIR96, REE_LD_CH4.RING,
   REE_LD_CH5.WEIGHT, REE_LD_CH5.PAIR96, REE_LD_CH5.RING, REE_LD_CH6.WEIGHT, REE_LD_CH6.PAIR96, REE_LD_CH6.RING,
   REE_LD_CH7.WEIGHT, REE_LD_CH7.PAIR96, REE_LD_CH7.RING, REE_LD_CTL.CLR_MAX, REE_LD_CTL.RESET_INT, REE_LD_CTL.EN,
   REE_LD_CTL.GATED_OVF, REE_LD_MS.MOMENTARY, REE_LD_MS.SHORT, REE_LD_INT.INTEGRATED, REE_LD_MAX.M_MAX,
   REE_LD_MAX.S_MAX, REE_LD_GATED.COUNT, REE_COEF.COEF, ETH_INFO.PORTS, ETH_INFO.LANES, ETH_INFO.LPORTS,
   ETH_INFO.MGMT, ETH_CFG.CLR_CNT, ETH_PORT_CFG.ENABLED, ETH_PORT_CFG.SPLIT, ETH_PORT_CFG.LANE_RATE,
   ETH_PORT_CFG.NET_MAP, ETH_PORT_STATUS.PAUSED, ETH_PORT_STATUS.LINK, ETH_PORT_STATUS.RFAULT,
   ETH_PORT_STATUS.LFAULT, ETH_PORT_STATUS.STEP, ETH_PORT_STEP.RISE1, ETH_PORT_STEP.FALL1, ETH_PORT_STEP.RISE2,
   ETH_PORT_STEP.FALL2, ETH_PORT_STEP.STEP_FLOOR, ETH_PORT_EVT.STEP_OVF, ETH_PORT_EVT.FLUSH_DONE,
   ETH_PORT_EVT.RX_NOBUF, ETH_PORT_EVT.STEP] ++
  [ETH_PORT_EVT.LINK_DOWN, ETH_PORT_EVT.LINK_UP, ETH_PORT_STEP_CHG_CNT.COUNT, ETH_LP_CFG.PROMISC,
   ETH_LP_CFG.MEDIA_PAUSE, ETH_LP_CFG.UDP_CSUM, ETH_LP_CFG.MAX_FRAME, ETH_LP_CTL.CTL_TX_BUSY, ETH_LP_CTL.CTL_RX_BUSY,
   ETH_LP_CTL.MEDIA_RX_BUSY, ETH_LP_CTL.FLUSH_CTL_TX, ETH_LP_CTL.FLUSH_CTL_RX, ETH_LP_CTL.FLUSH_MEDIA_RX,
   ETH_LP_MAC_LO.ADDR_LO, ETH_LP_MAC_HI.ADDR_HI, ETH_LP_PTP_DELAY.TX_DELAY, ETH_LP_PTP_DELAY.RX_DELAY,
   ETH_LP_CNT_FLAGS.OVF, ETH_LP_CNT_FLAGS.WRAP, ETH_LP_RX_OCTETS.COUNT, ETH_LP_RX_FRAMES.COUNT,
   ETH_LP_TX_OCTETS.COUNT, ETH_LP_TX_FRAMES.COUNT, ETH_LP_RX_MEDIA.COUNT, ETH_LP_RX_CTL.COUNT, ETH_LP_RUNT.COUNT,
   ETH_LP_OVERSIZE.COUNT, ETH_LP_FCS_ERR.COUNT, ETH_LP_ADDR_DROP.COUNT, ETH_LP_IP_HDR_ERR.COUNT,
   ETH_LP_UDP_CSUM_ERR.COUNT, ETH_LP_RX_NOBUF.COUNT, ETH_LP_FLUSH_DROP.COUNT, ETH_LP_PAUSE_RX.COUNT,
   ETH_LP_MEDIA_PAUSE_IGN.COUNT, ETH_LP_MEDIA_PAUSE_DROP.COUNT, ETH_LP_UNSUP_CTL.COUNT, ETH_LP_TX_LINK_DROP.COUNT,
   ETH_LP_FEC_CORR.COUNT, ETH_LP_FEC_UNCORR.COUNT, ETH_LP_LINK_DOWN_CNT.COUNT, ETH_MGMT_RX_DROP.COUNT,
   ETH_MGMT_FLAGS.RX_DROP_OVF, ETH_LANE_TXEQ.C_M2, ETH_LANE_TXEQ.C_M1, ETH_LANE_TXEQ.C_P1, FLW_INFO.PROCESSORS,
   FLW_INFO.TX_LOG2, FLW_INFO.RX_LOG2, FLW_CFG.CLR_CNT, FLW_LP_IP.ADDR, FLW_PORT_NOFLOW.COUNT,
   FLW_PORT_FLAGS.NOFLOW_OVF, FLW_RX_SEL.SNAP, FLW_RX_SEL.CTX, FLW_RX_CFG.KIND, FLW_RX_CFG.R96, FLW_RX_CFG.N_CH_M1,
   FLW_RX_CFG.BIND, FLW_RX_STATUS.EN] ++
  [FLW_RX_STATUS.PAIRED, FLW_RX_STATUS.HOLD_WORDS, FLW_RX_STATUS.PATH_B_UP, FLW_RX_STATUS.PATH_A_UP,
   FLW_RX_STATUS.LOSS, FLW_RX_EVT.DAMAGED, FLW_RX_EVT.SLIP, FLW_RX_EVT.RESYNC, FLW_RX_EVT.RESTART,
   FLW_RX_EVT.PATH_UP, FLW_RX_EVT.PATH_DOWN, FLW_RX_EVT.RESTORE, FLW_RX_EVT.LOSS, FLW_RX_FLAGS.OVF,
   FLW_RX_FLAGS.WRAP, FLW_RX_REC.WORD, FLW_RX_PKTS.COUNT, FLW_RX_OCTETS.COUNT, FLW_RX_PKTS_A.COUNT,
   FLW_RX_PKTS_B.COUNT, FLW_RX_DUP.COUNT, FLW_RX_LOST.COUNT, FLW_RX_LATE.COUNT, FLW_RX_BAD_HDR.COUNT,
   FLW_RX_GAP_A.COUNT, FLW_RX_GAP_B.COUNT, FLW_RX_RESTART.COUNT, FLW_RX_DAMAGED.COUNT, FLW_RX_SLIP.COUNT,
   FLW_RX_CONCEAL.COUNT, FLW_TX_SEL.SNAP, FLW_TX_SEL.CTX, FLW_TX_CFG.KIND, FLW_TX_CFG.PLANE, FLW_TX_STATUS.EN,
   FLW_TX_STATUS.SENDING, FLW_TX_STATUS.RATE_MBPS, FLW_TX_EVT.STAGE_DROP, FLW_TX_EVT.SKIP, FLW_TX_EVT.TS_STEP,
   FLW_TX_FLAGS.OVF, FLW_TX_FLAGS.WRAP, FLW_TX_REC.WORD, FLW_TX_PKTS.COUNT, FLW_TX_OCTETS.COUNT,
   FLW_TX_STANDBY.COUNT, FLW_TX_SKIP.COUNT, FLW_TX_STAGE_DROP.COUNT]

end Sys2Proof.Machine
end

