-- ==== Sys2Proof/Machine/RegistersSys.lean ====
section
/-! DEFINITION. The register fields of the SYS, PWR and HIF blocks, from the register tables of the spec (the rule of each register
is named in its docstring). The columns are those of `Fld`: id, base, stride, count, lowest bit, width, access type, reset
domain, reset value, event source, counter or meter, reset step. A field whose Reset column shows "I" or "P" (R17, R18) holds
0 until an image or the store gives its value. Reserved bits (R13) are no field. -/

namespace Sys2Proof.Machine

/-- R612 -/
def SYS_ID.ID : Fld := ⟨0, 0x0, 0, 1, 0, 64, .ro, .por, 0, 0, false, 0⟩
/-- R613 -/
def SYS_INFO.PART : Fld := ⟨1, 0x8, 0, 1, 16, 16, .ro, .por, 8264, 0, false, 0⟩
/-- R613 -/
def SYS_INFO.AE : Fld := ⟨2, 0x8, 0, 1, 8, 1, .ro, .por, 0, 0, false, 0⟩
/-- R613 -/
def SYS_INFO.STEP_MAJ : Fld := ⟨3, 0x8, 0, 1, 4, 4, .ro, .por, 0, 0, false, 0⟩
/-- R613 -/
def SYS_INFO.STEP_MIN : Fld := ⟨4, 0x8, 0, 1, 0, 4, .ro, .por, 0, 0, false, 0⟩
/-- R614 -/
def SYS_STATUS.READY : Fld := ⟨5, 0x10, 0, 1, 31, 1, .ro, .module, 0, 0, false, 0⟩
/-- R614 -/
def SYS_STATUS.HALTED : Fld := ⟨6, 0x10, 0, 1, 30, 1, .ro, .por, 0, 0, false, 0⟩
/-- R614 -/
def SYS_STATUS.DEGRADED : Fld := ⟨7, 0x10, 0, 1, 29, 1, .ro, .module, 0, 0, false, 0⟩
/-- R614 -/
def SYS_STATUS.STEP : Fld := ⟨8, 0x10, 0, 1, 0, 4, .ro, .module, 1, 0, false, 0⟩
/-- R615 -/
def SYS_BOOT_FAIL.CODE : Fld := ⟨9, 0x14, 0, 1, 24, 8, .ro, .por, 0, 0, false, 0⟩
/-- R615 -/
def SYS_BOOT_FAIL.STEP : Fld := ⟨10, 0x14, 0, 1, 20, 4, .ro, .por, 0, 0, false, 0⟩
/-- R615 -/
def SYS_BOOT_FAIL.UNIT : Fld := ⟨11, 0x14, 0, 1, 0, 16, .ro, .por, 0, 0, false, 0⟩
/-- R616 -/
def SYS_BOOT_TIME.TIME_US : Fld := ⟨12, 0x18, 0, 1, 0, 32, .ro, .por, 0, 0, false, 0⟩
/-- R617 -/
def SYS_FAIL_LGI.MAP : Fld := ⟨13, 0x20, 4, 4, 0, 32, .ro, .por, 0, 0, false, 0⟩
/-- R617 -/
def SYS_FAIL_LGO.MAP : Fld := ⟨14, 0x30, 4, 4, 0, 32, .ro, .por, 0, 0, false, 0⟩
/-- R618 -/
def SYS_FAIL_MISC.PST : Fld := ⟨15, 0x40, 0, 1, 29, 1, .ro, .por, 0, 0, false, 0⟩
/-- R618 -/
def SYS_FAIL_MISC.PST_ROW : Fld := ⟨16, 0x40, 0, 1, 28, 1, .ro, .por, 0, 0, false, 0⟩
/-- R618 -/
def SYS_FAIL_MISC.WATCH : Fld := ⟨17, 0x40, 0, 1, 27, 1, .ro, .por, 0, 0, false, 0⟩
/-- R618 -/
def SYS_FAIL_MISC.TWIN : Fld := ⟨18, 0x40, 0, 1, 26, 1, .ro, .por, 0, 0, false, 0⟩
/-- R618 -/
def SYS_FAIL_MISC.STACK : Fld := ⟨19, 0x40, 0, 1, 16, 8, .ro, .por, 0, 0, false, 0⟩
/-- R618 -/
def SYS_FAIL_MISC.ETH : Fld := ⟨20, 0x40, 0, 1, 0, 16, .ro, .por, 0, 0, false, 0⟩
/-- R618 -/
def SYS_FAIL_BANK.MAP : Fld := ⟨21, 0x44, 4, 3, 0, 32, .ro, .por, 0, 0, false, 0⟩
/-- R619 -/
def SYS_CTL.KEY : Fld := ⟨22, 0x50, 0, 1, 8, 8, .wo, .module, 0, 0, false, 0⟩
/-- R619 -/
def SYS_CTL.SOFT_RESET : Fld := ⟨23, 0x50, 0, 1, 0, 1, .wo, .module, 0, 0, false, 0⟩
/-- R620 -/
def SYS_REMAP.REMAP : Fld := ⟨24, 0x54, 0, 1, 0, 1, .ro, .module, 0, 0, false, 0⟩
/-- R621 -/
def SYS_EVT.KEY_REFUSED : Fld := ⟨25, 0x58, 0, 1, 3, 1, .w1c, .module, 0, 31, false, 0⟩
/-- R621 -/
def SYS_EVT.PST_REPAIR : Fld := ⟨26, 0x58, 0, 1, 2, 1, .w1c, .module, 0, 31, false, 0⟩
/-- R621 -/
def SYS_EVT.DEGRADED : Fld := ⟨27, 0x58, 0, 1, 1, 1, .w1c, .module, 0, 31, false, 0⟩
/-- R621 -/
def SYS_EVT.READY : Fld := ⟨28, 0x58, 0, 1, 0, 1, .w1c, .module, 0, 31, false, 0⟩
/-- R622 -/
def SYS_RESET_CAUSE.CAUSE : Fld := ⟨29, 0x5c, 0, 1, 0, 2, .ro, .por, 0, 0, false, 0⟩
/-- R584 -/
def SYS_IMG_STATUS.SOURCE : Fld := ⟨30, 0x400, 0, 1, 30, 2, .ro, .image, 0, 0, false, 0⟩
/-- R584 -/
def SYS_IMG_STATUS.FALLBACK : Fld := ⟨31, 0x400, 0, 1, 29, 1, .ro, .image, 0, 0, false, 0⟩
/-- R584 -/
def SYS_IMG_STATUS.EVAL_CFG : Fld := ⟨32, 0x400, 0, 1, 28, 1, .ro, .image, 0, 0, false, 0⟩
/-- R584 -/
def SYS_IMG_STATUS.BUSY : Fld := ⟨33, 0x400, 0, 1, 27, 1, .ro, .image, 0, 0, false, 0⟩
/-- R585 -/
def SYS_IMG_ROLLBACK.VALUE : Fld := ⟨34, 0x404, 0, 1, 0, 32, .ro, .image, 0, 0, false, 0⟩
/-- R585 -/
def SYS_IMG_RB_STORED.VALUE : Fld := ⟨35, 0x408, 0, 1, 0, 32, .ro, .persist, 0, 0, false, 0⟩
/-- R586 -/
def SYS_IMG_SLOT_A.STATE : Fld := ⟨36, 0x40c, 0, 1, 30, 2, .ro, .persist, 0, 0, false, 0⟩
/-- R586 -/
def SYS_IMG_SLOT_A.DIGEST16 : Fld := ⟨37, 0x40c, 0, 1, 0, 16, .ro, .persist, 0, 0, false, 0⟩
/-- R586 -/
def SYS_IMG_SLOT_B.STATE : Fld := ⟨38, 0x410, 0, 1, 30, 2, .ro, .persist, 0, 0, false, 0⟩
/-- R586 -/
def SYS_IMG_SLOT_B.DIGEST16 : Fld := ⟨39, 0x410, 0, 1, 0, 16, .ro, .persist, 0, 0, false, 0⟩
/-- R587 -/
def SYS_IMG_SLOT_RB_A.VALUE : Fld := ⟨40, 0x414, 0, 1, 0, 32, .ro, .persist, 0, 0, false, 0⟩
/-- R587 -/
def SYS_IMG_SLOT_RB_B.VALUE : Fld := ⟨41, 0x418, 0, 1, 0, 32, .ro, .persist, 0, 0, false, 0⟩
/-- R588 -/
def SYS_IMG_BOOT.PREFER : Fld := ⟨42, 0x41c, 0, 1, 0, 1, .rwp, .persist, 0, 0, false, 0⟩
/-- R589 -/
def SYS_IMG_CTL.RB_COMMIT : Fld := ⟨43, 0x420, 0, 1, 0, 1, .wo, .module, 0, 0, false, 0⟩
/-- R590 -/
def SYS_IMG_REFUSE.REASON : Fld := ⟨44, 0x424, 0, 1, 0, 8, .ro, .module, 0, 0, false, 0⟩
/-- R590 -/
def SYS_IMG_REFUSE_SECT.SECTION : Fld := ⟨45, 0x428, 0, 1, 0, 32, .ro, .module, 0, 0, false, 0⟩
/-- R591 -/
def SYS_IMG_EVT.RB_NOCHANGE : Fld := ⟨46, 0x42c, 0, 1, 4, 1, .w1c, .module, 0, 31, false, 0⟩
/-- R591 -/
def SYS_IMG_EVT.SLOT_STALE : Fld := ⟨47, 0x42c, 0, 1, 3, 1, .w1c, .module, 0, 31, false, 0⟩
/-- R591 -/
def SYS_IMG_EVT.REFUSED : Fld := ⟨48, 0x42c, 0, 1, 2, 1, .w1c, .module, 0, 31, false, 0⟩
/-- R591 -/
def SYS_IMG_EVT.FALLBACK : Fld := ⟨49, 0x42c, 0, 1, 1, 1, .w1c, .module, 0, 31, false, 0⟩
/-- R591 -/
def SYS_IMG_EVT.LOADED : Fld := ⟨50, 0x42c, 0, 1, 0, 1, .w1c, .module, 0, 31, false, 0⟩
/-- R592 -/
def SYS_IMG_DIGEST.WORD : Fld := ⟨51, 0x440, 4, 12, 0, 32, .ro, .image, 0, 0, false, 0⟩
/-- R715 -/
def PWR_INFO.DOMAINS : Fld := ⟨52, 0x100000, 0, 1, 0, 10, .ro, .por, 545, 0, false, 0⟩
/-- R716 -/
def PWR_CTL.SLEEP : Fld := ⟨53, 0x100004, 0, 1, 31, 1, .wo, .module, 0, 0, false, 0⟩
/-- R716 -/
def PWR_CTL.KEY : Fld := ⟨54, 0x100004, 0, 1, 8, 8, .wo, .module, 0, 0, false, 0⟩
/-- R716 -/
def PWR_CTL.WAKE_YIELD : Fld := ⟨55, 0x100004, 0, 1, 1, 1, .rw, .module, 0, 0, false, 0⟩
/-- R716 -/
def PWR_CTL.WAKE_ALARM : Fld := ⟨56, 0x100004, 0, 1, 0, 1, .rw, .module, 0, 0, false, 0⟩
/-- R717 -/
def PWR_STATUS.N_ON : Fld := ⟨57, 0x100008, 0, 1, 20, 10, .ro, .module, 0, 0, false, 0⟩
/-- R717 -/
def PWR_STATUS.N_ASLEEP : Fld := ⟨58, 0x100008, 0, 1, 10, 10, .ro, .module, 0, 0, false, 0⟩
/-- R717 -/
def PWR_STATUS.N_GATED : Fld := ⟨59, 0x100008, 0, 1, 0, 10, .ro, .module, 0, 0, false, 0⟩
/-- R718 -/
def PWR_EVT.START_FAIL_OVF : Fld := ⟨60, 0x10000c, 0, 1, 8, 1, .w1c, .module, 0, 0, false, 0⟩
/-- R718 -/
def PWR_EVT.WOKE : Fld := ⟨61, 0x10000c, 0, 1, 2, 1, .w1c, .module, 0, 27, false, 0⟩
/-- R718 -/
def PWR_EVT.SLEEP_REFUSED : Fld := ⟨62, 0x10000c, 0, 1, 1, 1, .w1c, .module, 0, 27, false, 0⟩
/-- R718 -/
def PWR_EVT.START_FAIL : Fld := ⟨63, 0x10000c, 0, 1, 0, 1, .w1c, .module, 0, 27, false, 0⟩
/-- R718 -/
def PWR_START_FAIL_CNT.COUNT : Fld := ⟨64, 0x100010, 0, 1, 0, 32, .ro, .module, 0, 0, true, 0⟩
/-- R719 -/
def PWR_WAKE.SLEPT : Fld := ⟨65, 0x100014, 0, 1, 31, 1, .ro, .por, 0, 0, false, 0⟩
/-- R719 -/
def PWR_WAKE.CAUSE : Fld := ⟨66, 0x100014, 0, 1, 0, 3, .ro, .por, 0, 0, false, 0⟩
/-- R720 -/
def PWR_DOM.ASSIGNED : Fld := ⟨67, 0x101000, 4, 545, 31, 1, .ro, .module, 0, 0, false, 0⟩
/-- R720 -/
def PWR_DOM.SNIFF : Fld := ⟨68, 0x101000, 4, 545, 30, 1, .ro, .module, 0, 0, false, 0⟩
/-- R720 -/
def PWR_DOM.STATE : Fld := ⟨69, 0x101000, 4, 545, 0, 3, .ro, .module, 0, 0, false, 0⟩
/-- R558 -/
def HIF_INFO.SLOTS : Fld := ⟨70, 0x200000, 0, 1, 8, 12, .ro, .por, 1024, 0, false, 0⟩
/-- R558 -/
def HIF_INFO.VEC_LOG2 : Fld := ⟨71, 0x200000, 0, 1, 4, 4, .ro, .por, 6, 0, false, 0⟩
/-- R558 -/
def HIF_INFO.RINGS_M1 : Fld := ⟨72, 0x200000, 0, 1, 0, 4, .ro, .por, 15, 0, false, 0⟩
/-- R559 -/
def HIF_CFG.CLR_CNT : Fld := ⟨73, 0x200004, 0, 1, 31, 1, .wo, .module, 0, 0, false, 0⟩
/-- R559 -/
def HIF_STATUS.SLOTS_FULL : Fld := ⟨74, 0x200008, 0, 1, 11, 1, .ro, .module, 0, 0, false, 0⟩
/-- R559 -/
def HIF_STATUS.OPEN : Fld := ⟨75, 0x200008, 0, 1, 0, 11, .ro, .module, 0, 0, false, 0⟩
/-- R560 -/
def HIF_ACCESS_ERR.COUNT : Fld := ⟨76, 0x20000c, 0, 1, 0, 32, .ro, .module, 0, 0, true, 0⟩
/-- R560 -/
def HIF_DROP_CPL.COUNT : Fld := ⟨77, 0x200010, 0, 1, 0, 32, .ro, .module, 0, 0, true, 0⟩
/-- R560 -/
def HIF_EVT_LOST.COUNT : Fld := ⟨78, 0x200014, 0, 1, 0, 32, .ro, .module, 0, 0, true, 0⟩
/-- R560 -/
def HIF_CNT_FLAGS.LOST_OVF : Fld := ⟨79, 0x200018, 0, 1, 2, 1, .w1c, .module, 0, 0, false, 0⟩
/-- R560 -/
def HIF_CNT_FLAGS.DROP_OVF : Fld := ⟨80, 0x200018, 0, 1, 1, 1, .w1c, .module, 0, 0, false, 0⟩
/-- R560 -/
def HIF_CNT_FLAGS.ACCESS_OVF : Fld := ⟨81, 0x200018, 0, 1, 0, 1, .w1c, .module, 0, 0, false, 0⟩
/-- R561 -/
def HIF_ACCESS_LAST.WRITE : Fld := ⟨82, 0x20001c, 0, 1, 31, 1, .ro, .module, 0, 0, false, 0⟩
/-- R561 -/
def HIF_ACCESS_LAST.BAR2 : Fld := ⟨83, 0x20001c, 0, 1, 30, 1, .ro, .module, 0, 0, false, 0⟩
/-- R561 -/
def HIF_ACCESS_LAST.OFFSET : Fld := ⟨84, 0x20001c, 0, 1, 0, 30, .ro, .module, 0, 0, false, 0⟩
/-- R563 -/
def HIF_EVT_STATUS.ARM : Fld := ⟨85, 0x200030, 0, 1, 31, 1, .w1s, .module, 0, 0, false, 0⟩
/-- R563 -/
def HIF_EVT_STATUS.ARMED : Fld := ⟨86, 0x200030, 0, 1, 30, 1, .ro, .module, 0, 0, false, 0⟩
/-- R563 -/
def HIF_EVT_STATUS.UNDERRUN : Fld := ⟨87, 0x200030, 0, 1, 29, 1, .w1c, .module, 0, 0, false, 0⟩
/-- R563 -/
def HIF_EVT_STATUS.LEVEL : Fld := ⟨88, 0x200030, 0, 1, 0, 17, .ro, .module, 0, 0, false, 0⟩
/-- R563 -/
def HIF_EVT_MASK.MASK : Fld := ⟨89, 0x200034, 0, 1, 1, 31, .rw, .module, 0, 0, false, 0⟩
/-- R564 -/
def HIF_BAR2_KBASE.BASE : Fld := ⟨90, 0x200040, 0, 1, 0, 9, .rw, .module, 0, 0, false, 0⟩
/-- R565 -/
def HIF_MSIX_MAP.VECTOR : Fld := ⟨91, 0x200080, 4, 22, 0, 6, .rw, .module, 0, 0, false, 1⟩
/-- R566 -/
def HIF_SQ_BASE.ADDR : Fld := ⟨92, 0x210000, 64, 16, 0, 64, .rw, .module, 0, 0, false, 0⟩
/-- R566 -/
def HIF_SQ_CFG.EN : Fld := ⟨93, 0x210008, 64, 16, 31, 1, .rw, .module, 0, 0, false, 0⟩
/-- R566 -/
def HIF_SQ_CFG.SIZE_LOG2 : Fld := ⟨94, 0x210008, 64, 16, 0, 4, .rw, .module, 4, 0, false, 0⟩
/-- R566 -/
def HIF_SQ_TAIL.TAIL : Fld := ⟨95, 0x21000c, 64, 16, 0, 32, .rw, .module, 0, 0, false, 0⟩
/-- R566 -/
def HIF_SQ_HEAD.HEAD : Fld := ⟨96, 0x210010, 64, 16, 0, 32, .ro, .module, 0, 0, false, 0⟩
/-- R566 -/
def HIF_SQ_STATUS.FAULT : Fld := ⟨97, 0x210014, 64, 16, 31, 1, .w1c, .module, 0, 0, false, 0⟩
/-- R566 -/
def HIF_SQ_STATUS.OPEN : Fld := ⟨98, 0x210014, 64, 16, 0, 11, .ro, .module, 0, 0, false, 0⟩
/-- R566 -/
def HIF_CQ_BASE.ADDR : Fld := ⟨99, 0x210018, 64, 16, 0, 64, .rw, .module, 0, 0, false, 0⟩
/-- R566 -/
def HIF_CQ_CFG.COAL_N : Fld := ⟨100, 0x210020, 64, 16, 24, 8, .rw, .module, 1, 0, false, 0⟩
/-- R566 -/
def HIF_CQ_CFG.COAL_US : Fld := ⟨101, 0x210020, 64, 16, 14, 10, .rw, .module, 0, 0, false, 0⟩
/-- R566 -/
def HIF_CQ_CFG.SIZE_LOG2 : Fld := ⟨102, 0x210020, 64, 16, 0, 4, .rw, .module, 4, 0, false, 0⟩
/-- R566 -/
def HIF_CQ_TAIL.PHASE : Fld := ⟨103, 0x210024, 64, 16, 31, 1, .ro, .module, 1, 0, false, 0⟩
/-- R566 -/
def HIF_CQ_TAIL.TAIL : Fld := ⟨104, 0x210024, 64, 16, 0, 31, .ro, .module, 0, 0, false, 0⟩
/-- R566 -/
def HIF_CQ_HEAD.HEAD : Fld := ⟨105, 0x210028, 64, 16, 0, 32, .rw, .module, 0, 0, false, 0⟩
/-- R567 -/
def HIF_NET_TX_BASE.ADDR : Fld := ⟨106, 0x220000, 64, 2, 0, 64, .rw, .module, 0, 0, false, 0⟩
/-- R567 -/
def HIF_NET_TX_CFG.EN : Fld := ⟨107, 0x220008, 64, 2, 31, 1, .rw, .module, 0, 0, false, 0⟩
/-- R567 -/
def HIF_NET_TX_CFG.SIZE_LOG2 : Fld := ⟨108, 0x220008, 64, 2, 0, 4, .rw, .module, 4, 0, false, 0⟩
/-- R567 -/
def HIF_NET_TX_TAIL.TAIL : Fld := ⟨109, 0x22000c, 64, 2, 0, 32, .rw, .module, 0, 0, false, 0⟩
/-- R567 -/
def HIF_NET_TX_HEAD.HEAD : Fld := ⟨110, 0x220010, 64, 2, 0, 32, .ro, .module, 0, 0, false, 0⟩
/-- R567 -/
def HIF_NET_RX_BASE.ADDR : Fld := ⟨111, 0x220018, 64, 2, 0, 64, .rw, .module, 0, 0, false, 0⟩
/-- R567 -/
def HIF_NET_RX_CFG.EN : Fld := ⟨112, 0x220020, 64, 2, 31, 1, .rw, .module, 0, 0, false, 0⟩
/-- R567 -/
def HIF_NET_RX_CFG.SIZE_LOG2 : Fld := ⟨113, 0x220020, 64, 2, 0, 4, .rw, .module, 4, 0, false, 0⟩
/-- R567 -/
def HIF_NET_RX_TAIL.TAIL : Fld := ⟨114, 0x220024, 64, 2, 0, 32, .rw, .module, 0, 0, false, 0⟩
/-- R567 -/
def HIF_NET_RX_HEAD.HEAD : Fld := ⟨115, 0x220028, 64, 2, 0, 32, .ro, .module, 0, 0, false, 0⟩

/-- Every field of this file, in order of its number. -/
def fieldsSys : List Fld :=
  [SYS_ID.ID, SYS_INFO.PART, SYS_INFO.AE, SYS_INFO.STEP_MAJ, SYS_INFO.STEP_MIN, SYS_STATUS.READY, SYS_STATUS.HALTED,
   SYS_STATUS.DEGRADED, SYS_STATUS.STEP, SYS_BOOT_FAIL.CODE, SYS_BOOT_FAIL.STEP, SYS_BOOT_FAIL.UNIT,
   SYS_BOOT_TIME.TIME_US, SYS_FAIL_LGI.MAP, SYS_FAIL_LGO.MAP, SYS_FAIL_MISC.PST, SYS_FAIL_MISC.PST_ROW,
   SYS_FAIL_MISC.WATCH, SYS_FAIL_MISC.TWIN, SYS_FAIL_MISC.STACK, SYS_FAIL_MISC.ETH, SYS_FAIL_BANK.MAP, SYS_CTL.KEY,
   SYS_CTL.SOFT_RESET, SYS_REMAP.REMAP, SYS_EVT.KEY_REFUSED, SYS_EVT.PST_REPAIR, SYS_EVT.DEGRADED, SYS_EVT.READY,
   SYS_RESET_CAUSE.CAUSE, SYS_IMG_STATUS.SOURCE, SYS_IMG_STATUS.FALLBACK, SYS_IMG_STATUS.EVAL_CFG,
   SYS_IMG_STATUS.BUSY, SYS_IMG_ROLLBACK.VALUE, SYS_IMG_RB_STORED.VALUE, SYS_IMG_SLOT_A.STATE,
   SYS_IMG_SLOT_A.DIGEST16, SYS_IMG_SLOT_B.STATE, SYS_IMG_SLOT_B.DIGEST16, SYS_IMG_SLOT_RB_A.VALUE,
   SYS_IMG_SLOT_RB_B.VALUE, SYS_IMG_BOOT.PREFER, SYS_IMG_CTL.RB_COMMIT, SYS_IMG_REFUSE.REASON,
   SYS_IMG_REFUSE_SECT.SECTION, SYS_IMG_EVT.RB_NOCHANGE, SYS_IMG_EVT.SLOT_STALE, SYS_IMG_EVT.REFUSED,
   SYS_IMG_EVT.FALLBACK, SYS_IMG_EVT.LOADED, SYS_IMG_DIGEST.WORD, PWR_INFO.DOMAINS, PWR_CTL.SLEEP, PWR_CTL.KEY,
   PWR_CTL.WAKE_YIELD, PWR_CTL.WAKE_ALARM, PWR_STATUS.N_ON, PWR_STATUS.N_ASLEEP, PWR_STATUS.N_GATED] ++
  [PWR_EVT.START_FAIL_OVF, PWR_EVT.WOKE, PWR_EVT.SLEEP_REFUSED, PWR_EVT.START_FAIL, PWR_START_FAIL_CNT.COUNT,
   PWR_WAKE.SLEPT, PWR_WAKE.CAUSE, PWR_DOM.ASSIGNED, PWR_DOM.SNIFF, PWR_DOM.STATE, HIF_INFO.SLOTS, HIF_INFO.VEC_LOG2,
   HIF_INFO.RINGS_M1, HIF_CFG.CLR_CNT, HIF_STATUS.SLOTS_FULL, HIF_STATUS.OPEN, HIF_ACCESS_ERR.COUNT,
   HIF_DROP_CPL.COUNT, HIF_EVT_LOST.COUNT, HIF_CNT_FLAGS.LOST_OVF, HIF_CNT_FLAGS.DROP_OVF, HIF_CNT_FLAGS.ACCESS_OVF,
   HIF_ACCESS_LAST.WRITE, HIF_ACCESS_LAST.BAR2, HIF_ACCESS_LAST.OFFSET, HIF_EVT_STATUS.ARM, HIF_EVT_STATUS.ARMED,
   HIF_EVT_STATUS.UNDERRUN, HIF_EVT_STATUS.LEVEL, HIF_EVT_MASK.MASK, HIF_BAR2_KBASE.BASE, HIF_MSIX_MAP.VECTOR,
   HIF_SQ_BASE.ADDR, HIF_SQ_CFG.EN, HIF_SQ_CFG.SIZE_LOG2, HIF_SQ_TAIL.TAIL, HIF_SQ_HEAD.HEAD, HIF_SQ_STATUS.FAULT,
   HIF_SQ_STATUS.OPEN, HIF_CQ_BASE.ADDR, HIF_CQ_CFG.COAL_N, HIF_CQ_CFG.COAL_US, HIF_CQ_CFG.SIZE_LOG2,
   HIF_CQ_TAIL.PHASE, HIF_CQ_TAIL.TAIL, HIF_CQ_HEAD.HEAD, HIF_NET_TX_BASE.ADDR, HIF_NET_TX_CFG.EN,
   HIF_NET_TX_CFG.SIZE_LOG2, HIF_NET_TX_TAIL.TAIL, HIF_NET_TX_HEAD.HEAD, HIF_NET_RX_BASE.ADDR, HIF_NET_RX_CFG.EN,
   HIF_NET_RX_CFG.SIZE_LOG2, HIF_NET_RX_TAIL.TAIL, HIF_NET_RX_HEAD.HEAD]

end Sys2Proof.Machine
end

