-- ==== Sys2Proof/Machine/RegistersTime.lean ====
section
/-! DEFINITION. The register fields of the PIP, TIM and TWN blocks, from the register tables of the spec (the rule of each register
is named in its docstring). The columns are those of `Fld`: id, base, stride, count, lowest bit, width, access type, reset
domain, reset value, event source, counter or meter, reset step. A field whose Reset column shows "I" or "P" (R17, R18) holds
0 until an image or the store gives its value. Reserved bits (R13) are no field. -/

namespace Sys2Proof.Machine

/-- R463 -/
def PIP_CFG.CLR_CNT : Fld := ⟨631, 0x2000000, 0, 1, 31, 1, .wo, .image, 0, 0, false, 0⟩
/-- R463 -/
def PIP_CFG.REVERT : Fld := ⟨632, 0x2000000, 0, 1, 8, 1, .ro, .image, 0, 0, false, 0⟩
/-- R463 -/
def PIP_CFG.SPREAD : Fld := ⟨633, 0x2000000, 0, 1, 0, 3, .ro, .image, 0, 0, false, 0⟩
/-- R464 -/
def PIP_CTL.FORCE_HOLD : Fld := ⟨634, 0x2000004, 0, 1, 9, 1, .rw, .module, 0, 0, false, 0⟩
/-- R464 -/
def PIP_CTL.FORCE_EN : Fld := ⟨635, 0x2000004, 0, 1, 8, 1, .rw, .module, 0, 0, false, 0⟩
/-- R464 -/
def PIP_CTL.FORCE_REF : Fld := ⟨636, 0x2000004, 0, 1, 0, 4, .rw, .module, 0, 0, false, 0⟩
/-- R465 -/
def PIP_STATUS.TARGET : Fld := ⟨637, 0x2000008, 0, 1, 8, 4, .ro, .module, 15, 0, false, 0⟩
/-- R465 -/
def PIP_STATUS.SELECTED : Fld := ⟨638, 0x2000008, 0, 1, 4, 4, .ro, .module, 15, 0, false, 0⟩
/-- R465 -/
def PIP_STATUS.STATE : Fld := ⟨639, 0x2000008, 0, 1, 0, 2, .ro, .module, 0, 0, false, 0⟩
/-- R465 -/
def PIP_EVT.HOLD_OVF : Fld := ⟨640, 0x200000c, 0, 1, 9, 1, .w1c, .module, 0, 0, false, 0⟩
/-- R465 -/
def PIP_EVT.SWITCH_OVF : Fld := ⟨641, 0x200000c, 0, 1, 8, 1, .w1c, .module, 0, 0, false, 0⟩
/-- R465 -/
def PIP_EVT.FORCE_IGNORED : Fld := ⟨642, 0x200000c, 0, 1, 3, 1, .w1c, .module, 0, 18, false, 0⟩
/-- R465 -/
def PIP_EVT.LOCKED : Fld := ⟨643, 0x200000c, 0, 1, 2, 1, .w1c, .module, 0, 18, false, 0⟩
/-- R465 -/
def PIP_EVT.HOLDOVER : Fld := ⟨644, 0x200000c, 0, 1, 1, 1, .w1c, .module, 0, 18, false, 0⟩
/-- R465 -/
def PIP_EVT.SWITCH : Fld := ⟨645, 0x200000c, 0, 1, 0, 1, .w1c, .module, 0, 18, false, 0⟩
/-- R466 -/
def PIP_SWITCH_CNT.COUNT : Fld := ⟨646, 0x2000010, 0, 1, 0, 32, .ro, .module, 0, 0, true, 0⟩
/-- R466 -/
def PIP_HOLD_CNT.COUNT : Fld := ⟨647, 0x2000014, 0, 1, 0, 32, .ro, .module, 0, 0, true, 0⟩
/-- R467 -/
def PIP_REF_CFG.USED : Fld := ⟨648, 0x2010000, 32, 11, 31, 1, .ro, .image, 0, 0, false, 0⟩
/-- R467 -/
def PIP_REF_CFG.MODE : Fld := ⟨649, 0x2010000, 32, 11, 30, 1, .ro, .image, 0, 0, false, 0⟩
/-- R467 -/
def PIP_REF_CFG.WTR_S : Fld := ⟨650, 0x2010000, 32, 11, 8, 9, .ro, .image, 0, 0, false, 0⟩
/-- R467 -/
def PIP_REF_CFG.LOCKOUT : Fld := ⟨651, 0x2010000, 32, 11, 3, 1, .rwp, .persist, 0, 0, false, 0⟩
/-- R467 -/
def PIP_REF_CFG.PRIO : Fld := ⟨652, 0x2010000, 32, 11, 0, 3, .rwp, .persist, 0, 0, false, 0⟩
/-- R468 -/
def PIP_REF_STATUS.RATE : Fld := ⟨653, 0x2010004, 32, 11, 24, 8, .ro, .module, 0, 0, false, 0⟩
/-- R468 -/
def PIP_REF_STATUS.WTR_LEFT : Fld := ⟨654, 0x2010004, 32, 11, 7, 9, .ro, .module, 0, 0, false, 0⟩
/-- R468 -/
def PIP_REF_STATUS.WARN : Fld := ⟨655, 0x2010004, 32, 11, 6, 1, .ro, .module, 0, 0, false, 0⟩
/-- R468 -/
def PIP_REF_STATUS.NOISE : Fld := ⟨656, 0x2010004, 32, 11, 5, 1, .ro, .module, 0, 0, false, 0⟩
/-- R468 -/
def PIP_REF_STATUS.DRIFT : Fld := ⟨657, 0x2010004, 32, 11, 4, 1, .ro, .module, 0, 0, false, 0⟩
/-- R468 -/
def PIP_REF_STATUS.FREQ : Fld := ⟨658, 0x2010004, 32, 11, 3, 1, .ro, .module, 0, 0, false, 0⟩
/-- R468 -/
def PIP_REF_STATUS.QUAL : Fld := ⟨659, 0x2010004, 32, 11, 0, 3, .ro, .module, 0, 0, false, 0⟩
/-- R469 -/
def PIP_REF_FREQ.FREQ_PPB : Fld := ⟨660, 0x2010008, 32, 11, 0, 32, .ro, .module, 2147483648, 0, false, 0⟩
/-- R469 -/
def PIP_REF_DRIFT.DRIFT_PPB_S : Fld := ⟨661, 0x201000c, 32, 11, 0, 32, .ro, .module, 2147483648, 0, false, 0⟩
/-- R470 -/
def PIP_REF_EVT.DISQ_OVF : Fld := ⟨662, 0x2010010, 32, 11, 8, 1, .w1c, .module, 0, 0, false, 0⟩
/-- R470 -/
def PIP_REF_EVT.WARN : Fld := ⟨663, 0x2010010, 32, 11, 3, 1, .w1c, .module, 0, 19, false, 0⟩
/-- R470 -/
def PIP_REF_EVT.ABSENT : Fld := ⟨664, 0x2010010, 32, 11, 2, 1, .w1c, .module, 0, 19, false, 0⟩
/-- R470 -/
def PIP_REF_EVT.DISQUAL : Fld := ⟨665, 0x2010010, 32, 11, 1, 1, .w1c, .module, 0, 19, false, 0⟩
/-- R470 -/
def PIP_REF_EVT.QUALIFY : Fld := ⟨666, 0x2010010, 32, 11, 0, 1, .w1c, .module, 0, 19, false, 0⟩
/-- R470 -/
def PIP_REF_DISQ_CNT.COUNT : Fld := ⟨667, 0x2010014, 32, 11, 0, 32, .ro, .module, 0, 0, true, 0⟩
/-- R471 -/
def PIP_PLANE_CFG.ENABLED : Fld := ⟨668, 0x2020000, 64, 8, 31, 1, .ro, .image, 0, 0, false, 0⟩
/-- R471 -/
def PIP_PLANE_CFG.ALIGN : Fld := ⟨669, 0x2020000, 64, 8, 30, 1, .ro, .image, 0, 0, false, 0⟩
/-- R471 -/
def PIP_PLANE_CFG.RATE : Fld := ⟨670, 0x2020000, 64, 8, 0, 8, .ro, .image, 0, 0, false, 0⟩
/-- R471 -/
def PIP_PLANE_OFFSET.OFFSET_NS : Fld := ⟨671, 0x2020004, 64, 8, 0, 30, .ro, .image, 0, 0, false, 0⟩
/-- R472 -/
def PIP_PLANE_CTL.HARD_REALIGN : Fld := ⟨672, 0x2020008, 64, 8, 31, 1, .wo, .module, 0, 0, false, 0⟩
/-- R472 -/
def PIP_PLANE_CTL.SLEW : Fld := ⟨673, 0x2020008, 64, 8, 0, 5, .rw, .module, 16, 0, false, 0⟩
/-- R473 -/
def PIP_PLANE_STATUS.MISMATCH : Fld := ⟨674, 0x202000c, 64, 8, 2, 1, .ro, .image, 0, 0, false, 0⟩
/-- R473 -/
def PIP_PLANE_STATUS.STATE : Fld := ⟨675, 0x202000c, 64, 8, 0, 2, .ro, .image, 0, 0, false, 0⟩
/-- R473 -/
def PIP_PLANE_ERR.ERR_NS : Fld := ⟨676, 0x2020010, 64, 8, 0, 32, .ro, .image, 0, 0, false, 0⟩
/-- R474 -/
def PIP_PLANE_COUNT.COUNT : Fld := ⟨677, 0x2020014, 64, 8, 0, 64, .ro, .por, 0, 0, true, 0⟩
/-- R474 -/
def PIP_PLANE_DEV.DEV : Fld := ⟨678, 0x202001c, 64, 8, 0, 32, .ro, .por, 0, 0, false, 0⟩
/-- R475 -/
def PIP_PLANE_EVT.MISMATCH : Fld := ⟨679, 0x2020020, 64, 8, 3, 1, .w1c, .module, 0, 20, false, 0⟩
/-- R475 -/
def PIP_PLANE_EVT.HARD : Fld := ⟨680, 0x2020020, 64, 8, 2, 1, .w1c, .module, 0, 20, false, 0⟩
/-- R475 -/
def PIP_PLANE_EVT.ALIGNED : Fld := ⟨681, 0x2020020, 64, 8, 1, 1, .w1c, .module, 0, 20, false, 0⟩
/-- R475 -/
def PIP_PLANE_EVT.SLEW_START : Fld := ⟨682, 0x2020020, 64, 8, 0, 1, .w1c, .module, 0, 20, false, 0⟩
/-- R476 -/
def PIP_PULSE_CFG.EN : Fld := ⟨683, 0x2030000, 16, 4, 31, 1, .rw, .module, 0, 0, false, 0⟩
/-- R476 -/
def PIP_PULSE_CFG.POL : Fld := ⟨684, 0x2030000, 16, 4, 30, 1, .rw, .module, 0, 0, false, 0⟩
/-- R476 -/
def PIP_PULSE_CFG.WIDTH : Fld := ⟨685, 0x2030000, 16, 4, 16, 8, .rw, .module, 10, 0, false, 0⟩
/-- R476 -/
def PIP_PULSE_CFG.SRC : Fld := ⟨686, 0x2030000, 16, 4, 0, 4, .rw, .module, 15, 0, false, 0⟩
/-- R476 -/
def PIP_PULSE_OFFSET.OFFSET_NS : Fld := ⟨687, 0x2030004, 16, 4, 0, 30, .rw, .module, 0, 0, false, 0⟩
/-- R477 -/
def TIM_NOW_SEC.SEC : Fld := ⟨688, 0x2200000, 0, 1, 0, 48, .ro, .por, 0, 0, false, 0⟩
/-- R477 -/
def TIM_NOW_NS.NS : Fld := ⟨689, 0x2200008, 0, 1, 0, 30, .ro, .por, 0, 0, false, 0⟩
/-- R477 -/
def TIM_NOW_FRAC.FRAC : Fld := ⟨690, 0x220000c, 0, 1, 0, 16, .ro, .por, 0, 0, false, 0⟩
/-- R478 -/
def TIM_CFG.CLR_CNT : Fld := ⟨691, 0x2200010, 0, 1, 31, 1, .wo, .module, 0, 0, false, 0⟩
/-- R478 -/
def TIM_CFG.TIME_SLEW : Fld := ⟨692, 0x2200010, 0, 1, 0, 9, .rw, .module, 100, 0, false, 0⟩
/-- R478 -/
def TIM_STATUS.SOURCE : Fld := ⟨693, 0x2200014, 0, 1, 28, 4, .ro, .module, 15, 0, false, 0⟩
/-- R478 -/
def TIM_STATUS.UTC_VALID : Fld := ⟨694, 0x2200014, 0, 1, 25, 1, .ro, .module, 0, 0, false, 0⟩
/-- R478 -/
def TIM_STATUS.SET_PEND : Fld := ⟨695, 0x2200014, 0, 1, 24, 1, .ro, .module, 0, 0, false, 0⟩
/-- R478 -/
def TIM_STATUS.UTC_OFFSET : Fld := ⟨696, 0x2200014, 0, 1, 0, 16, .ro, .module, 0, 0, false, 0⟩
/-- R479 -/
def TIM_EVT.STEP_OVF : Fld := ⟨697, 0x2200018, 0, 1, 8, 1, .w1c, .module, 0, 0, false, 0⟩
/-- R479 -/
def TIM_EVT.SET_REFUSED : Fld := ⟨698, 0x2200018, 0, 1, 4, 1, .w1c, .module, 0, 21, false, 0⟩
/-- R479 -/
def TIM_EVT.SET_DONE : Fld := ⟨699, 0x2200018, 0, 1, 3, 1, .w1c, .module, 0, 21, false, 0⟩
/-- R479 -/
def TIM_EVT.SOURCE : Fld := ⟨700, 0x2200018, 0, 1, 2, 1, .w1c, .module, 0, 21, false, 0⟩
/-- R479 -/
def TIM_EVT.STEP_BACK : Fld := ⟨701, 0x2200018, 0, 1, 1, 1, .w1c, .module, 0, 21, false, 0⟩
/-- R479 -/
def TIM_EVT.STEP : Fld := ⟨702, 0x2200018, 0, 1, 0, 1, .w1c, .module, 0, 21, false, 0⟩
/-- R479 -/
def TIM_STEP_CNT.COUNT : Fld := ⟨703, 0x220001c, 0, 1, 0, 32, .ro, .module, 0, 0, true, 0⟩
/-- R480 -/
def TIM_LAST_STEP.STEP : Fld := ⟨704, 0x2200020, 0, 1, 0, 64, .ro, .module, 0, 0, false, 0⟩
/-- R481 -/
def TIM_SET_SEC.SEC : Fld := ⟨705, 0x2200028, 0, 1, 0, 48, .rw, .module, 0, 0, false, 0⟩
/-- R481 -/
def TIM_SET_CTL.APPLY : Fld := ⟨706, 0x2200030, 0, 1, 0, 1, .wo, .module, 0, 0, false, 0⟩
/-- R482 -/
def TIM_PTP_CFG.ENABLED : Fld := ⟨707, 0x2210000, 64, 2, 31, 1, .ro, .image, 0, 0, false, 0⟩
/-- R482 -/
def TIM_PTP_CFG.TRANSPORT : Fld := ⟨708, 0x2210000, 64, 2, 30, 1, .ro, .image, 0, 0, false, 0⟩
/-- R482 -/
def TIM_PTP_CFG.DELAY_UC : Fld := ⟨709, 0x2210000, 64, 2, 29, 1, .rw, .image, 0, 0, false, 0⟩
/-- R482 -/
def TIM_PTP_CFG.PCP : Fld := ⟨710, 0x2210000, 64, 2, 26, 3, .rw, .image, 0, 0, false, 0⟩
/-- R482 -/
def TIM_PTP_CFG.TAG : Fld := ⟨711, 0x2210000, 64, 2, 25, 1, .rw, .image, 0, 0, false, 0⟩
/-- R482 -/
def TIM_PTP_CFG.VID : Fld := ⟨712, 0x2210000, 64, 2, 13, 12, .rw, .image, 0, 0, false, 0⟩
/-- R482 -/
def TIM_PTP_CFG.LP : Fld := ⟨713, 0x2210000, 64, 2, 7, 6, .rw, .image, 0, 0, false, 0⟩
/-- R482 -/
def TIM_PTP_CFG.DOMAIN : Fld := ⟨714, 0x2210000, 64, 2, 0, 7, .rw, .image, 0, 0, false, 0⟩
/-- R483 -/
def TIM_PTP_STATUS.PORT_STATE : Fld := ⟨715, 0x2210004, 64, 2, 29, 3, .ro, .module, 0, 0, false, 0⟩
/-- R483 -/
def TIM_PTP_STATUS.UTC_VALID : Fld := ⟨716, 0x2210004, 64, 2, 24, 1, .ro, .module, 0, 0, false, 0⟩
/-- R483 -/
def TIM_PTP_STATUS.STEPS_REMOVED : Fld := ⟨717, 0x2210004, 64, 2, 16, 8, .ro, .module, 0, 0, false, 0⟩
/-- R483 -/
def TIM_PTP_STATUS.UTC_OFFSET : Fld := ⟨718, 0x2210004, 64, 2, 0, 16, .ro, .module, 0, 0, false, 0⟩
/-- R483 -/
def TIM_PTP_GM.GM_ID : Fld := ⟨719, 0x2210008, 64, 2, 0, 64, .ro, .module, 0, 0, false, 0⟩
/-- R484 -/
def TIM_PTP_OFFS_SEC.OFFS_SEC : Fld := ⟨720, 0x2210010, 64, 2, 0, 32, .ro, .module, 2147483648, 0, false, 0⟩
/-- R484 -/
def TIM_PTP_OFFS_NS.OFFS_NS : Fld := ⟨721, 0x2210014, 64, 2, 0, 32, .ro, .module, 2147483648, 0, false, 0⟩
/-- R484 -/
def TIM_PTP_MPD.MPD_NS : Fld := ⟨722, 0x2210018, 64, 2, 0, 32, .ro, .module, 0, 0, false, 0⟩
/-- R485 -/
def TIM_PTP_EVT.TIMEOUT_OVF : Fld := ⟨723, 0x221001c, 64, 2, 8, 1, .w1c, .module, 0, 0, false, 0⟩
/-- R485 -/
def TIM_PTP_EVT.TIMEOUT : Fld := ⟨724, 0x221001c, 64, 2, 2, 1, .w1c, .module, 0, 22, false, 0⟩
/-- R485 -/
def TIM_PTP_EVT.GM_CHANGE : Fld := ⟨725, 0x221001c, 64, 2, 1, 1, .w1c, .module, 0, 22, false, 0⟩
/-- R485 -/
def TIM_PTP_EVT.STATE : Fld := ⟨726, 0x221001c, 64, 2, 0, 1, .w1c, .module, 0, 22, false, 0⟩
/-- R485 -/
def TIM_PTP_TIMEOUT_CNT.COUNT : Fld := ⟨727, 0x2210020, 64, 2, 0, 32, .ro, .module, 0, 0, true, 0⟩
/-- R516 -/
def TWN_CFG.SOLO : Fld := ⟨728, 0x2400000, 0, 1, 31, 1, .ro, .image, 0, 0, false, 0⟩
/-- R516 -/
def TWN_CFG.HANDSHAKE_MS : Fld := ⟨729, 0x2400000, 0, 1, 0, 16, .ro, .image, 0, 0, false, 0⟩
/-- R517 -/
def TWN_PAIR_ID.ID : Fld := ⟨730, 0x2400004, 0, 1, 0, 48, .ro, .image, 0, 0, false, 0⟩
/-- R518 -/
def TWN_CTL.CLR_CNT : Fld := ⟨731, 0x240000c, 0, 1, 31, 1, .wo, .module, 0, 0, false, 0⟩
/-- R518 -/
def TWN_CTL.RESYNC : Fld := ⟨732, 0x240000c, 0, 1, 4, 1, .wo, .module, 0, 0, false, 0⟩
/-- R518 -/
def TWN_CTL.TAKE : Fld := ⟨733, 0x240000c, 0, 1, 3, 1, .wo, .module, 0, 0, false, 0⟩
/-- R518 -/
def TWN_CTL.YIELD : Fld := ⟨734, 0x240000c, 0, 1, 2, 1, .wo, .module, 0, 0, false, 0⟩
/-- R518 -/
def TWN_CTL.FEED_BOTH : Fld := ⟨735, 0x240000c, 0, 1, 1, 1, .rw, .module, 0, 0, false, 0⟩
/-- R519 -/
def TWN_STATUS.SIDE_B : Fld := ⟨736, 0x2400010, 0, 1, 31, 1, .ro, .module, 0, 0, false, 0⟩
/-- R519 -/
def TWN_STATUS.ROLE : Fld := ⟨737, 0x2400010, 0, 1, 28, 3, .ro, .module, 0, 0, false, 0⟩
/-- R519 -/
def TWN_STATUS.SYNC : Fld := ⟨738, 0x2400010, 0, 1, 26, 2, .ro, .module, 0, 0, false, 0⟩
/-- R519 -/
def TWN_STATUS.CLAIM : Fld := ⟨739, 0x2400010, 0, 1, 25, 1, .ro, .module, 0, 0, false, 0⟩
/-- R519 -/
def TWN_STATUS.FIT : Fld := ⟨740, 0x2400010, 0, 1, 24, 1, .ro, .module, 0, 0, false, 0⟩
/-- R519 -/
def TWN_STATUS.STALE : Fld := ⟨741, 0x2400010, 0, 1, 23, 1, .ro, .module, 0, 0, false, 0⟩
/-- R519 -/
def TWN_STATUS.TWIN_PRESENT : Fld := ⟨742, 0x2400010, 0, 1, 22, 1, .ro, .module, 0, 0, false, 0⟩
/-- R519 -/
def TWN_STATUS.TWIN_ROLE : Fld := ⟨743, 0x2400010, 0, 1, 19, 3, .ro, .module, 0, 0, false, 0⟩
/-- R519 -/
def TWN_STATUS.TWIN_CLAIM : Fld := ⟨744, 0x2400010, 0, 1, 18, 1, .ro, .module, 0, 0, false, 0⟩
/-- R519 -/
def TWN_STATUS.TWIN_FIT : Fld := ⟨745, 0x2400010, 0, 1, 17, 1, .ro, .module, 0, 0, false, 0⟩
/-- R519 -/
def TWN_STATUS.LINK_UP : Fld := ⟨746, 0x2400010, 0, 1, 16, 1, .ro, .module, 0, 0, false, 0⟩
/-- R519 -/
def TWN_STATUS.WATCH_UP : Fld := ⟨747, 0x2400010, 0, 1, 15, 1, .ro, .module, 0, 0, false, 0⟩
/-- R519 -/
def TWN_STATUS.LINK_FWD : Fld := ⟨748, 0x2400010, 0, 1, 14, 1, .ro, .module, 0, 0, false, 0⟩
/-- R519 -/
def TWN_STATUS.ALIGNED : Fld := ⟨749, 0x2400010, 0, 1, 13, 1, .ro, .module, 0, 0, false, 0⟩
/-- R519 -/
def TWN_STATUS.WITHDRAWN : Fld := ⟨750, 0x2400010, 0, 1, 12, 1, .ro, .module, 0, 0, false, 0⟩
/-- R519 -/
def TWN_STATUS.LINK_LANES : Fld := ⟨751, 0x2400010, 0, 1, 8, 4, .ro, .module, 0, 0, false, 0⟩
/-- R519 -/
def TWN_STATUS.DIGEST_OK : Fld := ⟨752, 0x2400010, 0, 1, 7, 1, .ro, .module, 0, 0, false, 0⟩
/-- R520 -/
def TWN_EVID.OWN : Fld := ⟨753, 0x2400014, 0, 1, 16, 12, .ro, .module, 0, 0, false, 0⟩
/-- R520 -/
def TWN_EVID.ELIG : Fld := ⟨754, 0x2400014, 0, 1, 0, 12, .ro, .module, 0, 0, false, 0⟩
/-- R521 -/
def TWN_PHASE.PHASE_NS : Fld := ⟨755, 0x2400018, 0, 1, 0, 32, .ro, .module, 2147483648, 0, false, 0⟩
/-- R521 -/
def TWN_LINK_DELAY.DELAY_NS : Fld := ⟨756, 0x240001c, 0, 1, 0, 32, .ro, .module, 0, 0, false, 0⟩
/-- R521 -/
def TWN_EPOCH.EPOCH : Fld := ⟨757, 0x2400020, 0, 1, 0, 32, .ro, .persist, 0, 0, false, 0⟩
/-- R522 -/
def TWN_MSEQ.MSEQ : Fld := ⟨758, 0x2400024, 0, 1, 0, 64, .ro, .module, 0, 0, false, 0⟩
/-- R523 -/
def TWN_EVT.SOLO : Fld := ⟨759, 0x240002c, 0, 1, 11, 1, .w1c, .module, 0, 23, false, 0⟩
/-- R523 -/
def TWN_EVT.TAKE_REFUSED : Fld := ⟨760, 0x240002c, 0, 1, 10, 1, .w1c, .module, 0, 23, false, 0⟩
/-- R523 -/
def TWN_EVT.DECIDE_LATE : Fld := ⟨761, 0x240002c, 0, 1, 9, 1, .w1c, .module, 0, 23, false, 0⟩
/-- R523 -/
def TWN_EVT.PAIR_MISMATCH : Fld := ⟨762, 0x240002c, 0, 1, 8, 1, .w1c, .module, 0, 23, false, 0⟩
/-- R523 -/
def TWN_EVT.SNIFF_FAIL : Fld := ⟨763, 0x240002c, 0, 1, 7, 1, .w1c, .module, 0, 23, false, 0⟩
/-- R523 -/
def TWN_EVT.DIAG_FAIL : Fld := ⟨764, 0x240002c, 0, 1, 6, 1, .w1c, .module, 0, 23, false, 0⟩
/-- R523 -/
def TWN_EVT.SYNCED : Fld := ⟨765, 0x240002c, 0, 1, 5, 1, .w1c, .module, 0, 23, false, 0⟩
/-- R523 -/
def TWN_EVT.STALE : Fld := ⟨766, 0x240002c, 0, 1, 4, 1, .w1c, .module, 0, 23, false, 0⟩
/-- R523 -/
def TWN_EVT.DOUBLE_CLAIM : Fld := ⟨767, 0x240002c, 0, 1, 3, 1, .w1c, .module, 0, 23, false, 0⟩
/-- R523 -/
def TWN_EVT.PATH : Fld := ⟨768, 0x240002c, 0, 1, 2, 1, .w1c, .module, 0, 23, false, 0⟩
/-- R523 -/
def TWN_EVT.TWIN_LOST : Fld := ⟨769, 0x240002c, 0, 1, 1, 1, .w1c, .module, 0, 23, false, 0⟩
/-- R523 -/
def TWN_EVT.ROLE : Fld := ⟨770, 0x240002c, 0, 1, 0, 1, .w1c, .module, 0, 23, false, 0⟩
/-- R524 -/
def TWN_CNT_FLAGS.OVF : Fld := ⟨771, 0x2400030, 0, 1, 0, 9, .w1c, .module, 0, 0, false, 0⟩
/-- R524 -/
def TWN_LINK_MISS_CNT.COUNT : Fld := ⟨772, 0x2400040, 0, 1, 0, 32, .ro, .module, 0, 0, true, 0⟩
/-- R524 -/
def TWN_WATCH_MISS_CNT.COUNT : Fld := ⟨773, 0x2400044, 0, 1, 0, 32, .ro, .module, 0, 0, true, 0⟩
/-- R524 -/
def TWN_TAKEOVER_CNT.COUNT : Fld := ⟨774, 0x2400048, 0, 1, 0, 32, .ro, .module, 0, 0, true, 0⟩
/-- R524 -/
def TWN_YIELD_CNT.COUNT : Fld := ⟨775, 0x240004c, 0, 1, 0, 32, .ro, .module, 0, 0, true, 0⟩
/-- R524 -/
def TWN_DOUBLE_CLAIM_CNT.COUNT : Fld := ⟨776, 0x2400050, 0, 1, 0, 32, .ro, .module, 0, 0, true, 0⟩
/-- R524 -/
def TWN_SOLO_CNT.COUNT : Fld := ⟨777, 0x2400054, 0, 1, 0, 32, .ro, .module, 0, 0, true, 0⟩
/-- R524 -/
def TWN_DECIDE_LATE_CNT.COUNT : Fld := ⟨778, 0x2400058, 0, 1, 0, 32, .ro, .module, 0, 0, true, 0⟩
/-- R524 -/
def TWN_RESYNC_CNT.COUNT : Fld := ⟨779, 0x240005c, 0, 1, 0, 32, .ro, .module, 0, 0, true, 0⟩
/-- R524 -/
def TWN_SNIFF_FAIL_CNT.COUNT : Fld := ⟨780, 0x2400060, 0, 1, 0, 32, .ro, .module, 0, 0, true, 0⟩
/-- R525 -/
def TWN_RING_LAST.VALID : Fld := ⟨781, 0x2400080, 4, 16, 31, 1, .ro, .module, 0, 0, false, 0⟩
/-- R525 -/
def TWN_RING_LAST.INDEX : Fld := ⟨782, 0x2400080, 4, 16, 0, 12, .ro, .module, 0, 0, false, 0⟩
/-- R526 -/
def TWN_HEALTH_OWN.WORD : Fld := ⟨783, 0x2400100, 4, 16, 0, 32, .ro, .module, 0, 0, false, 0⟩
/-- R526 -/
def TWN_HEALTH_TWIN.WORD : Fld := ⟨784, 0x2400140, 4, 16, 0, 32, .ro, .module, 0, 0, false, 0⟩

/-- Every field of this file, in order of its number. -/
def fieldsTime : List Fld :=
  [PIP_CFG.CLR_CNT, PIP_CFG.REVERT, PIP_CFG.SPREAD, PIP_CTL.FORCE_HOLD, PIP_CTL.FORCE_EN, PIP_CTL.FORCE_REF,
   PIP_STATUS.TARGET, PIP_STATUS.SELECTED, PIP_STATUS.STATE, PIP_EVT.HOLD_OVF, PIP_EVT.SWITCH_OVF,
   PIP_EVT.FORCE_IGNORED, PIP_EVT.LOCKED, PIP_EVT.HOLDOVER, PIP_EVT.SWITCH, PIP_SWITCH_CNT.COUNT, PIP_HOLD_CNT.COUNT,
   PIP_REF_CFG.USED, PIP_REF_CFG.MODE, PIP_REF_CFG.WTR_S, PIP_REF_CFG.LOCKOUT, PIP_REF_CFG.PRIO, PIP_REF_STATUS.RATE,
   PIP_REF_STATUS.WTR_LEFT, PIP_REF_STATUS.WARN, PIP_REF_STATUS.NOISE, PIP_REF_STATUS.DRIFT, PIP_REF_STATUS.FREQ,
   PIP_REF_STATUS.QUAL, PIP_REF_FREQ.FREQ_PPB, PIP_REF_DRIFT.DRIFT_PPB_S, PIP_REF_EVT.DISQ_OVF, PIP_REF_EVT.WARN,
   PIP_REF_EVT.ABSENT, PIP_REF_EVT.DISQUAL, PIP_REF_EVT.QUALIFY, PIP_REF_DISQ_CNT.COUNT, PIP_PLANE_CFG.ENABLED,
   PIP_PLANE_CFG.ALIGN, PIP_PLANE_CFG.RATE, PIP_PLANE_OFFSET.OFFSET_NS, PIP_PLANE_CTL.HARD_REALIGN,
   PIP_PLANE_CTL.SLEW, PIP_PLANE_STATUS.MISMATCH, PIP_PLANE_STATUS.STATE, PIP_PLANE_ERR.ERR_NS,
   PIP_PLANE_COUNT.COUNT, PIP_PLANE_DEV.DEV, PIP_PLANE_EVT.MISMATCH, PIP_PLANE_EVT.HARD, PIP_PLANE_EVT.ALIGNED,
   PIP_PLANE_EVT.SLEW_START, PIP_PULSE_CFG.EN, PIP_PULSE_CFG.POL, PIP_PULSE_CFG.WIDTH, PIP_PULSE_CFG.SRC,
   PIP_PULSE_OFFSET.OFFSET_NS, TIM_NOW_SEC.SEC, TIM_NOW_NS.NS, TIM_NOW_FRAC.FRAC] ++
  [TIM_CFG.CLR_CNT, TIM_CFG.TIME_SLEW, TIM_STATUS.SOURCE, TIM_STATUS.UTC_VALID, TIM_STATUS.SET_PEND,
   TIM_STATUS.UTC_OFFSET, TIM_EVT.STEP_OVF, TIM_EVT.SET_REFUSED, TIM_EVT.SET_DONE, TIM_EVT.SOURCE, TIM_EVT.STEP_BACK,
   TIM_EVT.STEP, TIM_STEP_CNT.COUNT, TIM_LAST_STEP.STEP, TIM_SET_SEC.SEC, TIM_SET_CTL.APPLY, TIM_PTP_CFG.ENABLED,
   TIM_PTP_CFG.TRANSPORT, TIM_PTP_CFG.DELAY_UC, TIM_PTP_CFG.PCP, TIM_PTP_CFG.TAG, TIM_PTP_CFG.VID, TIM_PTP_CFG.LP,
   TIM_PTP_CFG.DOMAIN, TIM_PTP_STATUS.PORT_STATE, TIM_PTP_STATUS.UTC_VALID, TIM_PTP_STATUS.STEPS_REMOVED,
   TIM_PTP_STATUS.UTC_OFFSET, TIM_PTP_GM.GM_ID, TIM_PTP_OFFS_SEC.OFFS_SEC, TIM_PTP_OFFS_NS.OFFS_NS,
   TIM_PTP_MPD.MPD_NS, TIM_PTP_EVT.TIMEOUT_OVF, TIM_PTP_EVT.TIMEOUT, TIM_PTP_EVT.GM_CHANGE, TIM_PTP_EVT.STATE,
   TIM_PTP_TIMEOUT_CNT.COUNT, TWN_CFG.SOLO, TWN_CFG.HANDSHAKE_MS, TWN_PAIR_ID.ID, TWN_CTL.CLR_CNT, TWN_CTL.RESYNC,
   TWN_CTL.TAKE, TWN_CTL.YIELD, TWN_CTL.FEED_BOTH, TWN_STATUS.SIDE_B, TWN_STATUS.ROLE, TWN_STATUS.SYNC,
   TWN_STATUS.CLAIM, TWN_STATUS.FIT, TWN_STATUS.STALE, TWN_STATUS.TWIN_PRESENT, TWN_STATUS.TWIN_ROLE,
   TWN_STATUS.TWIN_CLAIM, TWN_STATUS.TWIN_FIT, TWN_STATUS.LINK_UP, TWN_STATUS.WATCH_UP, TWN_STATUS.LINK_FWD,
   TWN_STATUS.ALIGNED, TWN_STATUS.WITHDRAWN] ++
  [TWN_STATUS.LINK_LANES, TWN_STATUS.DIGEST_OK, TWN_EVID.OWN, TWN_EVID.ELIG, TWN_PHASE.PHASE_NS,
   TWN_LINK_DELAY.DELAY_NS, TWN_EPOCH.EPOCH, TWN_MSEQ.MSEQ, TWN_EVT.SOLO, TWN_EVT.TAKE_REFUSED, TWN_EVT.DECIDE_LATE,
   TWN_EVT.PAIR_MISMATCH, TWN_EVT.SNIFF_FAIL, TWN_EVT.DIAG_FAIL, TWN_EVT.SYNCED, TWN_EVT.STALE, TWN_EVT.DOUBLE_CLAIM,
   TWN_EVT.PATH, TWN_EVT.TWIN_LOST, TWN_EVT.ROLE, TWN_CNT_FLAGS.OVF, TWN_LINK_MISS_CNT.COUNT,
   TWN_WATCH_MISS_CNT.COUNT, TWN_TAKEOVER_CNT.COUNT, TWN_YIELD_CNT.COUNT, TWN_DOUBLE_CLAIM_CNT.COUNT,
   TWN_SOLO_CNT.COUNT, TWN_DECIDE_LATE_CNT.COUNT, TWN_RESYNC_CNT.COUNT, TWN_SNIFF_FAIL_CNT.COUNT,
   TWN_RING_LAST.VALID, TWN_RING_LAST.INDEX, TWN_HEALTH_OWN.WORD, TWN_HEALTH_TWIN.WORD]

end Sys2Proof.Machine
end

