-- ==== Sys2Proof/Machine/RegistersVideo.lean ====
section
/-! DEFINITION. The register fields of the XPT, KNL, CMP and SHF blocks, from the register tables of the spec (the rule of each register
is named in its docstring). The columns are those of `Fld`: id, base, stride, count, lowest bit, width, access type, reset
domain, reset value, event source, counter or meter, reset step. A field whose Reset column shows "I" or "P" (R17, R18) holds
0 until an image or the store gives its value. Reserved bits (R13) are no field. -/

namespace Sys2Proof.Machine

/-- R166 -/
def XPT_INFO.PIPE_NS : Fld := ⟨244, 0x800000, 0, 1, 0, 11, .ro, .por, 1200, 0, false, 0⟩
/-- R167 -/
def XPT_CFG.CLR_CNT : Fld := ⟨245, 0x800004, 0, 1, 31, 1, .wo, .module, 0, 0, false, 0⟩
/-- R167 -/
def XPT_CFG.REACQ_FRAMES : Fld := ⟨246, 0x800004, 0, 1, 16, 8, .rw, .module, 25, 0, false, 0⟩
/-- R167 -/
def XPT_CFG.AUTO_REALIGN : Fld := ⟨247, 0x800004, 0, 1, 13, 1, .rw, .module, 1, 0, false, 0⟩
/-- R167 -/
def XPT_CFG.GUARD_NS : Fld := ⟨248, 0x800004, 0, 1, 0, 13, .rw, .module, 6000, 0, false, 0⟩
/-- R168 -/
def XPT_TAKE_CNT.COUNT : Fld := ⟨249, 0x800010, 0, 1, 0, 64, .ro, .module, 0, 0, true, 0⟩
/-- R168 -/
def XPT_REFUSE_CNT.COUNT : Fld := ⟨250, 0x800018, 0, 1, 0, 32, .ro, .module, 0, 0, true, 0⟩
/-- R169 -/
def XPT_CNT_FLAGS.REFUSE_OVF : Fld := ⟨251, 0x80001c, 0, 1, 1, 1, .w1c, .module, 0, 0, false, 0⟩
/-- R169 -/
def XPT_CNT_FLAGS.TAKE_WRAP : Fld := ⟨252, 0x80001c, 0, 1, 0, 1, .w1c, .module, 0, 0, false, 0⟩
/-- R170 -/
def XPT_IN_CFG.KNL_FSYNC : Fld := ⟨253, 0x810000, 16, 16384, 7, 1, .ro, .image, 0, 0, false, 0⟩
/-- R170 -/
def XPT_IN_CFG.KNL_ANY : Fld := ⟨254, 0x810000, 16, 16384, 6, 1, .ro, .image, 0, 0, false, 0⟩
/-- R170 -/
def XPT_IN_CFG.PLANE : Fld := ⟨255, 0x810000, 16, 16384, 0, 3, .ro, .image, 0, 0, false, 0⟩
/-- R171 -/
def XPT_IN_STATUS.FORMAT : Fld := ⟨256, 0x810004, 16, 16384, 24, 8, .ro, .module, 0, 0, false, 0⟩
/-- R171 -/
def XPT_IN_STATUS.WIN : Fld := ⟨257, 0x810004, 16, 16384, 16, 4, .ro, .module, 0, 0, false, 0⟩
/-- R171 -/
def XPT_IN_STATUS.FANOUT : Fld := ⟨258, 0x810004, 16, 16384, 0, 15, .ro, .module, 0, 0, false, 0⟩
/-- R172 -/
def XPT_IN_PHASE.PHASE_NS : Fld := ⟨259, 0x810008, 16, 16384, 0, 32, .ro, .module, 2147483648, 0, false, 0⟩
/-- R173 -/
def XPT_IN_EVT.EXIT_OVF : Fld := ⟨260, 0x81000c, 16, 16384, 4, 1, .w1c, .module, 0, 0, false, 0⟩
/-- R173 -/
def XPT_IN_EVT.FMT_CHANGE : Fld := ⟨261, 0x81000c, 16, 16384, 3, 1, .w1c, .module, 0, 4, false, 0⟩
/-- R173 -/
def XPT_IN_EVT.GUARD : Fld := ⟨262, 0x81000c, 16, 16384, 2, 1, .w1c, .module, 0, 4, false, 0⟩
/-- R173 -/
def XPT_IN_EVT.WIN_ENTER : Fld := ⟨263, 0x81000c, 16, 16384, 1, 1, .w1c, .module, 0, 4, false, 0⟩
/-- R173 -/
def XPT_IN_EVT.WIN_EXIT : Fld := ⟨264, 0x81000c, 16, 16384, 0, 1, .w1c, .module, 0, 4, false, 0⟩
/-- R174 -/
def XPT_OUT_CFG.SAFETY : Fld := ⟨265, 0x850000, 16, 16384, 7, 1, .ro, .image, 0, 0, false, 0⟩
/-- R174 -/
def XPT_OUT_CFG.FALLBACK_EN : Fld := ⟨266, 0x850000, 16, 16384, 6, 1, .ro, .image, 0, 0, false, 0⟩
/-- R174 -/
def XPT_OUT_CFG.LOSS_FALLBACK : Fld := ⟨267, 0x850000, 16, 16384, 5, 1, .ro, .image, 0, 0, false, 0⟩
/-- R174 -/
def XPT_OUT_CFG.RETURN : Fld := ⟨268, 0x850000, 16, 16384, 4, 1, .ro, .image, 0, 0, false, 0⟩
/-- R174 -/
def XPT_OUT_CFG.PLANE : Fld := ⟨269, 0x850000, 16, 16384, 0, 3, .ro, .image, 0, 0, false, 0⟩
/-- R175 -/
def XPT_OUT_SRC.SOURCE : Fld := ⟨270, 0x850004, 16, 16384, 0, 32, .ro, .image, 0, 0, false, 0⟩
/-- R176 -/
def XPT_OUT_STATE.FORMAT : Fld := ⟨271, 0x850008, 16, 16384, 24, 8, .ro, .image, 0, 0, false, 0⟩
/-- R176 -/
def XPT_OUT_STATE.MODE : Fld := ⟨272, 0x850008, 16, 16384, 16, 4, .ro, .image, 0, 0, false, 0⟩
/-- R176 -/
def XPT_OUT_STATE.PEND : Fld := ⟨273, 0x850008, 16, 16384, 8, 1, .ro, .image, 0, 0, false, 0⟩
/-- R177 -/
def XPT_OUT_EVT.FALLBACK_OVF : Fld := ⟨274, 0x85000c, 16, 16384, 10, 1, .w1c, .module, 0, 0, false, 0⟩
/-- R177 -/
def XPT_OUT_EVT.UNSYNC_OVF : Fld := ⟨275, 0x85000c, 16, 16384, 9, 1, .w1c, .module, 0, 0, false, 0⟩
/-- R177 -/
def XPT_OUT_EVT.SWITCH_OVF : Fld := ⟨276, 0x85000c, 16, 16384, 8, 1, .w1c, .module, 0, 0, false, 0⟩
/-- R177 -/
def XPT_OUT_EVT.RESTORE_INVALID : Fld := ⟨277, 0x85000c, 16, 16384, 6, 1, .w1c, .module, 0, 5, false, 0⟩
/-- R177 -/
def XPT_OUT_EVT.OVERRATE : Fld := ⟨278, 0x85000c, 16, 16384, 5, 1, .w1c, .module, 0, 5, false, 0⟩
/-- R177 -/
def XPT_OUT_EVT.FMT : Fld := ⟨279, 0x85000c, 16, 16384, 4, 1, .w1c, .module, 0, 5, false, 0⟩
/-- R177 -/
def XPT_OUT_EVT.RETURN : Fld := ⟨280, 0x85000c, 16, 16384, 3, 1, .w1c, .module, 0, 5, false, 0⟩
/-- R177 -/
def XPT_OUT_EVT.FALLBACK : Fld := ⟨281, 0x85000c, 16, 16384, 2, 1, .w1c, .module, 0, 5, false, 0⟩
/-- R177 -/
def XPT_OUT_EVT.UNSYNC : Fld := ⟨282, 0x85000c, 16, 16384, 1, 1, .w1c, .module, 0, 5, false, 0⟩
/-- R177 -/
def XPT_OUT_EVT.SWITCH : Fld := ⟨283, 0x85000c, 16, 16384, 0, 1, .w1c, .module, 0, 0, false, 0⟩
/-- R178 -/
def XPT_IN_EXIT_CNT.COUNT : Fld := ⟨284, 0x890000, 4, 16384, 0, 32, .ro, .module, 0, 0, true, 0⟩
/-- R178 -/
def XPT_OUT_SWITCH_CNT.COUNT : Fld := ⟨285, 0x8a0000, 4, 16384, 0, 32, .ro, .module, 0, 0, true, 0⟩
/-- R178 -/
def XPT_OUT_UNSYNC_CNT.COUNT : Fld := ⟨286, 0x8b0000, 4, 16384, 0, 32, .ro, .module, 0, 0, true, 0⟩
/-- R178 -/
def XPT_OUT_FALLBACK_CNT.COUNT : Fld := ⟨287, 0x8c0000, 4, 16384, 0, 32, .ro, .module, 0, 0, true, 0⟩
/-- R202 -/
def KNL_INFO.PAGES_TOTAL : Fld := ⟨288, 0xa00000, 0, 1, 0, 22, .ro, .por, 3145728, 0, false, 0⟩
/-- R203 -/
def KNL_BUDGET_CAP.N_P : Fld := ⟨289, 0xa00004, 0, 1, 29, 3, .ro, .image, 0, 0, false, 0⟩
/-- R203 -/
def KNL_BUDGET_CAP.N_P8 : Fld := ⟨290, 0xa00004, 0, 1, 28, 1, .ro, .image, 0, 0, false, 0⟩
/-- R203 -/
def KNL_BUDGET_CAP.PAGES : Fld := ⟨291, 0xa00004, 0, 1, 0, 22, .ro, .image, 0, 0, false, 0⟩
/-- R203 -/
def KNL_BUDGET_BW.CHARGE : Fld := ⟨292, 0xa00008, 0, 1, 0, 27, .ro, .image, 0, 0, false, 0⟩
/-- R204 -/
def KNL_CFG.CLR_CNT : Fld := ⟨293, 0xa0000c, 0, 1, 31, 1, .wo, .module, 0, 0, false, 0⟩
/-- R205 -/
def KNL_MEAS_CFG0.BLACK_LEVEL : Fld := ⟨294, 0xa00010, 0, 1, 12, 10, .rw, .module, 80, 0, false, 0⟩
/-- R205 -/
def KNL_MEAS_CFG0.BLACK_FRAC : Fld := ⟨295, 0xa00010, 0, 1, 0, 8, .rw, .module, 4, 0, false, 0⟩
/-- R206 -/
def KNL_MEAS_CFG1.FREEZE_THR : Fld := ⟨296, 0xa00014, 0, 1, 24, 8, .rw, .module, 16, 0, false, 0⟩
/-- R206 -/
def KNL_MEAS_CFG1.BLACK_SET : Fld := ⟨297, 0xa00014, 0, 1, 16, 8, .rw, .module, 50, 0, false, 0⟩
/-- R206 -/
def KNL_MEAS_CFG1.FREEZE_SET : Fld := ⟨298, 0xa00014, 0, 1, 8, 8, .rw, .module, 50, 0, false, 0⟩
/-- R206 -/
def KNL_MEAS_CFG1.CLEAR : Fld := ⟨299, 0xa00014, 0, 1, 0, 8, .rw, .module, 5, 0, false, 0⟩
/-- R207 -/
def KNL_MEAS_CFG2.LOSS_MS : Fld := ⟨300, 0xa00018, 0, 1, 0, 16, .rw, .module, 20, 0, false, 0⟩
/-- R208 -/
def KNL_ALLOC_CFG.CLASS : Fld := ⟨301, 0xa10000, 32, 8192, 29, 3, .ro, .image, 0, 0, false, 0⟩
/-- R208 -/
def KNL_ALLOC_CFG.N_F : Fld := ⟨302, 0xa10000, 32, 8192, 24, 5, .ro, .image, 0, 0, false, 0⟩
/-- R208 -/
def KNL_ALLOC_CFG.FMT_MAX : Fld := ⟨303, 0xa10000, 32, 8192, 16, 8, .ro, .image, 0, 0, false, 0⟩
/-- R208 -/
def KNL_ALLOC_CFG.WRITER : Fld := ⟨304, 0xa10000, 32, 8192, 0, 16, .ro, .image, 0, 0, false, 0⟩
/-- R209 -/
def KNL_ALLOC_PAGES.PAGES : Fld := ⟨305, 0xa10004, 32, 8192, 0, 22, .ro, .image, 0, 0, false, 0⟩
/-- R209 -/
def KNL_ALLOC_BW.CHARGE : Fld := ⟨306, 0xa10008, 32, 8192, 0, 27, .ro, .image, 0, 0, false, 0⟩
/-- R210 -/
def KNL_ALLOC_CTL.LOSS_ACTION : Fld := ⟨307, 0xa1000c, 32, 8192, 8, 2, .rw, .module, 1, 0, false, 0⟩
/-- R210 -/
def KNL_ALLOC_CTL.LOSS_FRAMES : Fld := ⟨308, 0xa1000c, 32, 8192, 0, 8, .rw, .module, 25, 0, false, 0⟩
/-- R211 -/
def KNL_ALLOC_STATUS.FORMAT : Fld := ⟨309, 0xa10010, 32, 8192, 24, 8, .ro, .image, 0, 0, false, 0⟩
/-- R211 -/
def KNL_ALLOC_STATUS.SELECT : Fld := ⟨310, 0xa10010, 32, 8192, 8, 5, .ro, .image, 0, 0, false, 0⟩
/-- R211 -/
def KNL_ALLOC_STATUS.SIZE : Fld := ⟨311, 0xa10010, 32, 8192, 4, 1, .ro, .image, 0, 0, false, 0⟩
/-- R211 -/
def KNL_ALLOC_STATUS.FROZEN : Fld := ⟨312, 0xa10010, 32, 8192, 3, 1, .ro, .image, 0, 0, false, 0⟩
/-- R211 -/
def KNL_ALLOC_STATUS.BLACK_OUT : Fld := ⟨313, 0xa10010, 32, 8192, 2, 1, .ro, .image, 0, 0, false, 0⟩
/-- R211 -/
def KNL_ALLOC_STATUS.LOSS : Fld := ⟨314, 0xa10010, 32, 8192, 1, 1, .ro, .image, 0, 0, false, 0⟩
/-- R211 -/
def KNL_ALLOC_STATUS.VALID : Fld := ⟨315, 0xa10010, 32, 8192, 0, 1, .ro, .image, 0, 0, false, 0⟩
/-- R212 -/
def KNL_ALLOC_EVT.ANC_OVF : Fld := ⟨316, 0xa10014, 32, 8192, 10, 1, .w1c, .module, 0, 0, false, 0⟩
/-- R212 -/
def KNL_ALLOC_EVT.REPEAT_OVF : Fld := ⟨317, 0xa10014, 32, 8192, 9, 1, .w1c, .module, 0, 0, false, 0⟩
/-- R212 -/
def KNL_ALLOC_EVT.DROP_OVF : Fld := ⟨318, 0xa10014, 32, 8192, 8, 1, .w1c, .module, 0, 0, false, 0⟩
/-- R212 -/
def KNL_ALLOC_EVT.ANC_DROP : Fld := ⟨319, 0xa10014, 32, 8192, 5, 1, .w1c, .module, 0, 6, false, 0⟩
/-- R212 -/
def KNL_ALLOC_EVT.SIZE : Fld := ⟨320, 0xa10014, 32, 8192, 4, 1, .w1c, .module, 0, 6, false, 0⟩
/-- R212 -/
def KNL_ALLOC_EVT.FMT : Fld := ⟨321, 0xa10014, 32, 8192, 3, 1, .w1c, .module, 0, 6, false, 0⟩
/-- R212 -/
def KNL_ALLOC_EVT.RESTORE : Fld := ⟨322, 0xa10014, 32, 8192, 2, 1, .w1c, .module, 0, 6, false, 0⟩
/-- R212 -/
def KNL_ALLOC_EVT.LOSS : Fld := ⟨323, 0xa10014, 32, 8192, 1, 1, .w1c, .module, 0, 6, false, 0⟩
/-- R212 -/
def KNL_ALLOC_EVT.SLIP : Fld := ⟨324, 0xa10014, 32, 8192, 0, 1, .w1c, .module, 0, 6, false, 0⟩
/-- R213 -/
def KNL_ALLOC_DROP_CNT.COUNT : Fld := ⟨325, 0xa10018, 32, 8192, 0, 32, .ro, .module, 0, 0, true, 0⟩
/-- R213 -/
def KNL_ALLOC_REPEAT_CNT.COUNT : Fld := ⟨326, 0xa1001c, 32, 8192, 0, 32, .ro, .module, 0, 0, true, 0⟩
/-- R214 -/
def KNL_MEAS_STATUS.VPID_MISMATCH : Fld := ⟨327, 0xa80000, 16, 16384, 4, 1, .ro, .module, 0, 0, false, 0⟩
/-- R214 -/
def KNL_MEAS_STATUS.VPID_PRESENT : Fld := ⟨328, 0xa80000, 16, 16384, 3, 1, .ro, .module, 0, 0, false, 0⟩
/-- R214 -/
def KNL_MEAS_STATUS.FREEZE : Fld := ⟨329, 0xa80000, 16, 16384, 2, 1, .ro, .module, 0, 0, false, 0⟩
/-- R214 -/
def KNL_MEAS_STATUS.BLACK : Fld := ⟨330, 0xa80000, 16, 16384, 1, 1, .ro, .module, 0, 0, false, 0⟩
/-- R214 -/
def KNL_MEAS_STATUS.LOSS : Fld := ⟨331, 0xa80000, 16, 16384, 0, 1, .ro, .module, 1, 0, false, 0⟩
/-- R215 -/
def KNL_MEAS_VPID.BYTE1 : Fld := ⟨332, 0xa80004, 16, 16384, 24, 8, .ro, .module, 0, 0, false, 0⟩
/-- R215 -/
def KNL_MEAS_VPID.BYTE2 : Fld := ⟨333, 0xa80004, 16, 16384, 16, 8, .ro, .module, 0, 0, false, 0⟩
/-- R215 -/
def KNL_MEAS_VPID.BYTE3 : Fld := ⟨334, 0xa80004, 16, 16384, 8, 8, .ro, .module, 0, 0, false, 0⟩
/-- R215 -/
def KNL_MEAS_VPID.BYTE4 : Fld := ⟨335, 0xa80004, 16, 16384, 0, 8, .ro, .module, 0, 0, false, 0⟩
/-- R216 -/
def KNL_MEAS_EVT.ERRF_OVF : Fld := ⟨336, 0xa80008, 16, 16384, 5, 1, .w1c, .module, 0, 0, false, 0⟩
/-- R216 -/
def KNL_MEAS_EVT.CRC_OVF : Fld := ⟨337, 0xa80008, 16, 16384, 4, 1, .w1c, .module, 0, 0, false, 0⟩
/-- R216 -/
def KNL_MEAS_EVT.VPID_CHANGE : Fld := ⟨338, 0xa80008, 16, 16384, 3, 1, .w1c, .module, 0, 7, false, 0⟩
/-- R216 -/
def KNL_MEAS_EVT.FREEZE : Fld := ⟨339, 0xa80008, 16, 16384, 2, 1, .w1c, .module, 0, 7, false, 0⟩
/-- R216 -/
def KNL_MEAS_EVT.BLACK : Fld := ⟨340, 0xa80008, 16, 16384, 1, 1, .w1c, .module, 0, 7, false, 0⟩
/-- R216 -/
def KNL_MEAS_EVT.LOSS : Fld := ⟨341, 0xa80008, 16, 16384, 0, 1, .w1c, .module, 0, 7, false, 0⟩
/-- R217 -/
def KNL_MEAS_CRC_LINES.COUNT : Fld := ⟨342, 0xac0000, 4, 16384, 0, 32, .ro, .module, 0, 0, true, 0⟩
/-- R217 -/
def KNL_MEAS_ERR_FRAMES.COUNT : Fld := ⟨343, 0xad0000, 4, 16384, 0, 32, .ro, .module, 0, 0, true, 0⟩
/-- R217 -/
def KNL_ALLOC_ANC_DROP.COUNT : Fld := ⟨344, 0xae0000, 4, 8192, 0, 32, .ro, .module, 0, 0, true, 0⟩
/-- R255 -/
def CMP_INFO.LB_KIB : Fld := ⟨345, 0xc00000, 0, 1, 24, 8, .ro, .por, 0, 0, false, 0⟩
/-- R255 -/
def CMP_INFO.HEADS : Fld := ⟨346, 0xc00000, 0, 1, 16, 8, .ro, .por, 128, 0, false, 0⟩
/-- R255 -/
def CMP_INFO.LAYERS : Fld := ⟨347, 0xc00000, 0, 1, 8, 8, .ro, .por, 32, 0, false, 0⟩
/-- R255 -/
def CMP_INFO.ENGINES : Fld := ⟨348, 0xc00000, 0, 1, 0, 8, .ro, .por, 32, 0, false, 0⟩
/-- R256 -/
def CMP_CFG.CLR_CNT : Fld := ⟨349, 0xc00004, 0, 1, 31, 1, .wo, .module, 0, 0, false, 0⟩
/-- R257 -/
def CMP_ENG_CFG.COMPREAD : Fld := ⟨350, 0xc10000, 64, 32, 16, 16, .ro, .image, 0, 0, false, 0⟩
/-- R257 -/
def CMP_ENG_CFG.LOAD_Q : Fld := ⟨351, 0xc10000, 64, 32, 10, 6, .ro, .image, 0, 0, false, 0⟩
/-- R257 -/
def CMP_ENG_CFG.PLANE : Fld := ⟨352, 0xc10000, 64, 32, 7, 3, .ro, .image, 0, 0, false, 0⟩
/-- R257 -/
def CMP_ENG_CFG.N_HEADS : Fld := ⟨353, 0xc10000, 64, 32, 1, 3, .ro, .image, 0, 0, false, 0⟩
/-- R257 -/
def CMP_ENG_CFG.ENABLED : Fld := ⟨354, 0xc10000, 64, 32, 0, 1, .ro, .image, 0, 0, false, 0⟩
/-- R258 -/
def CMP_ENG_STATUS.LB_USED : Fld := ⟨355, 0xc10004, 64, 32, 0, 19, .ro, .image, 0, 0, false, 0⟩
/-- R258 -/
def CMP_ENG_LOAD.READ_KPPS : Fld := ⟨356, 0xc10008, 64, 32, 0, 23, .ro, .image, 0, 0, false, 0⟩
/-- R259 -/
def CMP_ENG_EVT.REFUSE_OVF : Fld := ⟨357, 0xc1000c, 64, 32, 9, 1, .w1c, .module, 0, 0, false, 0⟩
/-- R259 -/
def CMP_ENG_EVT.COMMIT_OVF : Fld := ⟨358, 0xc1000c, 64, 32, 8, 1, .w1c, .module, 0, 0, false, 0⟩
/-- R259 -/
def CMP_ENG_EVT.REFUSED : Fld := ⟨359, 0xc1000c, 64, 32, 1, 1, .w1c, .module, 0, 8, false, 0⟩
/-- R259 -/
def CMP_ENG_EVT.COMMIT : Fld := ⟨360, 0xc1000c, 64, 32, 0, 1, .w1c, .module, 0, 8, false, 0⟩
/-- R260 -/
def CMP_ENG_COMMIT_CNT.COUNT : Fld := ⟨361, 0xc10010, 64, 32, 0, 32, .ro, .module, 0, 0, true, 0⟩
/-- R260 -/
def CMP_ENG_REFUSE_CNT.COUNT : Fld := ⟨362, 0xc10014, 64, 32, 0, 32, .ro, .module, 0, 0, true, 0⟩
/-- R261 -/
def CMP_HEAD_CFG.FORMAT : Fld := ⟨363, 0xc20000, 32, 128, 24, 8, .ro, .image, 0, 0, false, 0⟩
/-- R261 -/
def CMP_HEAD_CFG.SAFETY : Fld := ⟨364, 0xc20000, 32, 128, 23, 1, .ro, .image, 0, 0, false, 0⟩
/-- R261 -/
def CMP_HEAD_CFG.ENABLED : Fld := ⟨365, 0xc20000, 32, 128, 22, 1, .ro, .image, 0, 0, false, 0⟩
/-- R261 -/
def CMP_HEAD_CFG.BASE_LAYER : Fld := ⟨366, 0xc20000, 32, 128, 16, 5, .ro, .image, 0, 0, false, 0⟩
/-- R261 -/
def CMP_HEAD_CFG.LOCAL : Fld := ⟨367, 0xc20000, 32, 128, 12, 2, .ro, .image, 0, 0, false, 0⟩
/-- R261 -/
def CMP_HEAD_CFG.ENGINE : Fld := ⟨368, 0xc20000, 32, 128, 0, 5, .ro, .image, 0, 0, false, 0⟩
/-- R262 -/
def CMP_HEAD_ACT1.WORD : Fld := ⟨369, 0xc20004, 32, 128, 0, 32, .ro, .image, 0, 0, false, 0⟩
/-- R262 -/
def CMP_HEAD_ACT2.WORD : Fld := ⟨370, 0xc20008, 32, 128, 0, 32, .ro, .image, 0, 0, false, 0⟩
/-- R262 -/
def CMP_HEAD_SHD1.WORD : Fld := ⟨371, 0xc2000c, 32, 128, 0, 32, .ro, .image, 0, 0, false, 0⟩
/-- R262 -/
def CMP_HEAD_SHD2.WORD : Fld := ⟨372, 0xc20010, 32, 128, 0, 32, .ro, .image, 0, 0, false, 0⟩
/-- R263 -/
def CMP_LAYER.WORD : Fld := ⟨373, 0xc40000, 4, 16384, 0, 32, .ro, .image, 0, 0, false, 0⟩
/-- R264 -/
def CMP_LAYER_STATUS.SRC_FORMAT : Fld := ⟨374, 0xc60000, 16, 1024, 24, 8, .ro, .image, 0, 0, false, 0⟩
/-- R264 -/
def CMP_LAYER_STATUS.STATE : Fld := ⟨375, 0xc60000, 16, 1024, 0, 2, .ro, .image, 0, 0, false, 0⟩
/-- R265 -/
def CMP_LAYER_EVT.FB_OVF : Fld := ⟨376, 0xc60004, 16, 1024, 9, 1, .w1c, .module, 0, 0, false, 0⟩
/-- R265 -/
def CMP_LAYER_EVT.NOT_READY_OVF : Fld := ⟨377, 0xc60004, 16, 1024, 8, 1, .w1c, .module, 0, 0, false, 0⟩
/-- R265 -/
def CMP_LAYER_EVT.COLOUR : Fld := ⟨378, 0xc60004, 16, 1024, 3, 1, .w1c, .module, 0, 9, false, 0⟩
/-- R265 -/
def CMP_LAYER_EVT.RECOVER : Fld := ⟨379, 0xc60004, 16, 1024, 2, 1, .w1c, .module, 0, 9, false, 0⟩
/-- R265 -/
def CMP_LAYER_EVT.FALLBACK : Fld := ⟨380, 0xc60004, 16, 1024, 1, 1, .w1c, .module, 0, 9, false, 0⟩
/-- R265 -/
def CMP_LAYER_EVT.NOT_READY : Fld := ⟨381, 0xc60004, 16, 1024, 0, 1, .w1c, .module, 0, 9, false, 0⟩
/-- R266 -/
def CMP_LAYER_NOT_READY_CNT.COUNT : Fld := ⟨382, 0xc60008, 16, 1024, 0, 32, .ro, .module, 0, 0, true, 0⟩
/-- R266 -/
def CMP_LAYER_FB_CNT.COUNT : Fld := ⟨383, 0xc6000c, 16, 1024, 0, 32, .ro, .module, 0, 0, true, 0⟩
/-- R267 -/
def SHF_BUNDLE.N_MSG_M1 : Fld := ⟨384, 0xe00000, 0, 1, 24, 4, .ro, .persist, 0, 0, false, 0⟩
/-- R267 -/
def SHF_BUNDLE.BUILTIN : Fld := ⟨385, 0xe00000, 0, 1, 17, 1, .ro, .persist, 0, 0, false, 0⟩
/-- R267 -/
def SHF_BUNDLE.VALID : Fld := ⟨386, 0xe00000, 0, 1, 16, 1, .ro, .persist, 0, 0, false, 0⟩
/-- R267 -/
def SHF_BUNDLE.BCOUNTER_LO : Fld := ⟨387, 0xe00000, 0, 1, 0, 16, .ro, .persist, 0, 0, false, 0⟩
/-- R268 -/
def SHF_CONTACT.B_TWIN : Fld := ⟨388, 0xe00004, 0, 1, 6, 2, .ro, .por, 0, 0, false, 0⟩
/-- R268 -/
def SHF_CONTACT.A_TWIN : Fld := ⟨389, 0xe00004, 0, 1, 4, 2, .ro, .por, 0, 0, false, 0⟩
/-- R268 -/
def SHF_CONTACT.B_OWN : Fld := ⟨390, 0xe00004, 0, 1, 2, 2, .ro, .por, 0, 0, false, 0⟩
/-- R268 -/
def SHF_CONTACT.A_OWN : Fld := ⟨391, 0xe00004, 0, 1, 0, 2, .ro, .por, 0, 0, false, 0⟩
/-- R269 -/
def SHF_RAISED.BY_CMD : Fld := ⟨392, 0xe00008, 0, 1, 16, 16, .ro, .persist, 0, 0, false, 0⟩
/-- R269 -/
def SHF_RAISED.RAISED : Fld := ⟨393, 0xe00008, 0, 1, 0, 16, .ro, .persist, 0, 0, false, 0⟩
/-- R270 -/
def SHF_SEQ.SEQ : Fld := ⟨394, 0xe0000c, 0, 1, 0, 64, .ro, .persist, 0, 0, false, 0⟩
/-- R271 -/
def SHF_RAISE_CNT.COUNT : Fld := ⟨395, 0xe00014, 0, 1, 0, 32, .ro, .module, 0, 0, true, 0⟩
/-- R271 -/
def SHF_AUTH_FAIL_CNT.COUNT : Fld := ⟨396, 0xe00018, 0, 1, 0, 32, .ro, .module, 0, 0, true, 0⟩
/-- R271 -/
def SHF_FAULT_CNT.COUNT : Fld := ⟨397, 0xe0001c, 0, 1, 0, 32, .ro, .module, 0, 0, true, 0⟩
/-- R271 -/
def SHF_CNT_FLAGS.FAULT_OVF : Fld := ⟨398, 0xe00020, 0, 1, 2, 1, .ro, .module, 0, 0, false, 0⟩
/-- R271 -/
def SHF_CNT_FLAGS.AUTH_FAIL_OVF : Fld := ⟨399, 0xe00020, 0, 1, 1, 1, .ro, .module, 0, 0, false, 0⟩
/-- R271 -/
def SHF_CNT_FLAGS.RAISE_OVF : Fld := ⟨400, 0xe00020, 0, 1, 0, 1, .ro, .module, 0, 0, false, 0⟩
/-- R272 -/
def SHF_HEAD.VISIBLE : Fld := ⟨401, 0xe01000, 4, 128, 5, 1, .ro, .persist, 0, 0, false, 0⟩
/-- R272 -/
def SHF_HEAD.MSG : Fld := ⟨402, 0xe01000, 4, 128, 0, 5, .ro, .persist, 31, 0, false, 0⟩

/-- Every field of this file, in order of its number. -/
def fieldsVideo : List Fld :=
  [XPT_INFO.PIPE_NS, XPT_CFG.CLR_CNT, XPT_CFG.REACQ_FRAMES, XPT_CFG.AUTO_REALIGN, XPT_CFG.GUARD_NS,
   XPT_TAKE_CNT.COUNT, XPT_REFUSE_CNT.COUNT, XPT_CNT_FLAGS.REFUSE_OVF, XPT_CNT_FLAGS.TAKE_WRAP, XPT_IN_CFG.KNL_FSYNC,
   XPT_IN_CFG.KNL_ANY, XPT_IN_CFG.PLANE, XPT_IN_STATUS.FORMAT, XPT_IN_STATUS.WIN, XPT_IN_STATUS.FANOUT,
   XPT_IN_PHASE.PHASE_NS, XPT_IN_EVT.EXIT_OVF, XPT_IN_EVT.FMT_CHANGE, XPT_IN_EVT.GUARD, XPT_IN_EVT.WIN_ENTER,
   XPT_IN_EVT.WIN_EXIT, XPT_OUT_CFG.SAFETY, XPT_OUT_CFG.FALLBACK_EN, XPT_OUT_CFG.LOSS_FALLBACK, XPT_OUT_CFG.RETURN,
   XPT_OUT_CFG.PLANE, XPT_OUT_SRC.SOURCE, XPT_OUT_STATE.FORMAT, XPT_OUT_STATE.MODE, XPT_OUT_STATE.PEND,
   XPT_OUT_EVT.FALLBACK_OVF, XPT_OUT_EVT.UNSYNC_OVF, XPT_OUT_EVT.SWITCH_OVF, XPT_OUT_EVT.RESTORE_INVALID,
   XPT_OUT_EVT.OVERRATE, XPT_OUT_EVT.FMT, XPT_OUT_EVT.RETURN, XPT_OUT_EVT.FALLBACK, XPT_OUT_EVT.UNSYNC,
   XPT_OUT_EVT.SWITCH, XPT_IN_EXIT_CNT.COUNT, XPT_OUT_SWITCH_CNT.COUNT, XPT_OUT_UNSYNC_CNT.COUNT,
   XPT_OUT_FALLBACK_CNT.COUNT, KNL_INFO.PAGES_TOTAL, KNL_BUDGET_CAP.N_P, KNL_BUDGET_CAP.N_P8, KNL_BUDGET_CAP.PAGES,
   KNL_BUDGET_BW.CHARGE, KNL_CFG.CLR_CNT, KNL_MEAS_CFG0.BLACK_LEVEL, KNL_MEAS_CFG0.BLACK_FRAC,
   KNL_MEAS_CFG1.FREEZE_THR, KNL_MEAS_CFG1.BLACK_SET, KNL_MEAS_CFG1.FREEZE_SET, KNL_MEAS_CFG1.CLEAR,
   KNL_MEAS_CFG2.LOSS_MS, KNL_ALLOC_CFG.CLASS, KNL_ALLOC_CFG.N_F, KNL_ALLOC_CFG.FMT_MAX] ++
  [KNL_ALLOC_CFG.WRITER, KNL_ALLOC_PAGES.PAGES, KNL_ALLOC_BW.CHARGE, KNL_ALLOC_CTL.LOSS_ACTION,
   KNL_ALLOC_CTL.LOSS_FRAMES, KNL_ALLOC_STATUS.FORMAT, KNL_ALLOC_STATUS.SELECT, KNL_ALLOC_STATUS.SIZE,
   KNL_ALLOC_STATUS.FROZEN, KNL_ALLOC_STATUS.BLACK_OUT, KNL_ALLOC_STATUS.LOSS, KNL_ALLOC_STATUS.VALID,
   KNL_ALLOC_EVT.ANC_OVF, KNL_ALLOC_EVT.REPEAT_OVF, KNL_ALLOC_EVT.DROP_OVF, KNL_ALLOC_EVT.ANC_DROP,
   KNL_ALLOC_EVT.SIZE, KNL_ALLOC_EVT.FMT, KNL_ALLOC_EVT.RESTORE, KNL_ALLOC_EVT.LOSS, KNL_ALLOC_EVT.SLIP,
   KNL_ALLOC_DROP_CNT.COUNT, KNL_ALLOC_REPEAT_CNT.COUNT, KNL_MEAS_STATUS.VPID_MISMATCH, KNL_MEAS_STATUS.VPID_PRESENT,
   KNL_MEAS_STATUS.FREEZE, KNL_MEAS_STATUS.BLACK, KNL_MEAS_STATUS.LOSS, KNL_MEAS_VPID.BYTE1, KNL_MEAS_VPID.BYTE2,
   KNL_MEAS_VPID.BYTE3, KNL_MEAS_VPID.BYTE4, KNL_MEAS_EVT.ERRF_OVF, KNL_MEAS_EVT.CRC_OVF, KNL_MEAS_EVT.VPID_CHANGE,
   KNL_MEAS_EVT.FREEZE, KNL_MEAS_EVT.BLACK, KNL_MEAS_EVT.LOSS, KNL_MEAS_CRC_LINES.COUNT, KNL_MEAS_ERR_FRAMES.COUNT,
   KNL_ALLOC_ANC_DROP.COUNT, CMP_INFO.LB_KIB, CMP_INFO.HEADS, CMP_INFO.LAYERS, CMP_INFO.ENGINES, CMP_CFG.CLR_CNT,
   CMP_ENG_CFG.COMPREAD, CMP_ENG_CFG.LOAD_Q, CMP_ENG_CFG.PLANE, CMP_ENG_CFG.N_HEADS, CMP_ENG_CFG.ENABLED,
   CMP_ENG_STATUS.LB_USED, CMP_ENG_LOAD.READ_KPPS, CMP_ENG_EVT.REFUSE_OVF, CMP_ENG_EVT.COMMIT_OVF,
   CMP_ENG_EVT.REFUSED, CMP_ENG_EVT.COMMIT, CMP_ENG_COMMIT_CNT.COUNT, CMP_ENG_REFUSE_CNT.COUNT, CMP_HEAD_CFG.FORMAT] ++
  [CMP_HEAD_CFG.SAFETY, CMP_HEAD_CFG.ENABLED, CMP_HEAD_CFG.BASE_LAYER, CMP_HEAD_CFG.LOCAL, CMP_HEAD_CFG.ENGINE,
   CMP_HEAD_ACT1.WORD, CMP_HEAD_ACT2.WORD, CMP_HEAD_SHD1.WORD, CMP_HEAD_SHD2.WORD, CMP_LAYER.WORD,
   CMP_LAYER_STATUS.SRC_FORMAT, CMP_LAYER_STATUS.STATE, CMP_LAYER_EVT.FB_OVF, CMP_LAYER_EVT.NOT_READY_OVF,
   CMP_LAYER_EVT.COLOUR, CMP_LAYER_EVT.RECOVER, CMP_LAYER_EVT.FALLBACK, CMP_LAYER_EVT.NOT_READY,
   CMP_LAYER_NOT_READY_CNT.COUNT, CMP_LAYER_FB_CNT.COUNT, SHF_BUNDLE.N_MSG_M1, SHF_BUNDLE.BUILTIN, SHF_BUNDLE.VALID,
   SHF_BUNDLE.BCOUNTER_LO, SHF_CONTACT.B_TWIN, SHF_CONTACT.A_TWIN, SHF_CONTACT.B_OWN, SHF_CONTACT.A_OWN,
   SHF_RAISED.BY_CMD, SHF_RAISED.RAISED, SHF_SEQ.SEQ, SHF_RAISE_CNT.COUNT, SHF_AUTH_FAIL_CNT.COUNT,
   SHF_FAULT_CNT.COUNT, SHF_CNT_FLAGS.FAULT_OVF, SHF_CNT_FLAGS.AUTH_FAIL_OVF, SHF_CNT_FLAGS.RAISE_OVF,
   SHF_HEAD.VISIBLE, SHF_HEAD.MSG]

end Sys2Proof.Machine
end

