-- ==== Sys2Proof/Machine/Registers.lean ====
section
/-! DEFINITION. The whole register map: every field of every block, and the registers an offset of BAR0 holds (R11, R43). -/

namespace Sys2Proof.Machine

/-- Every register field, the field numbered n at place n. -/
def allFields : List Fld :=
  fieldsSys ++ fieldsLane ++ fieldsVideo ++ fieldsMedia ++ fieldsTime ++ fieldsCore

/-- The field with a given number. -/
def fieldOf (id : Nat) : Option Fld := allFields[id]?

end Sys2Proof.Machine
end

