-- ==== Sys2Proof/Machine/StateCmp.lean ====
section
/-! DEFINITION. What the composition engines hold beside the CMP registers (R218 to R242). The active and shadow records of layers
and heads are registers; the rest is here. -/

namespace Sys2Proof.Machine

/-- A layer's progress (R226, R227). -/
structure LayerSt where
  /-- number of the frame shown last; none since the layer was enabled or its source changed -/
  shown : Option Nat := none
  /-- not ready at the last head frame boundary -/
  notReady : Bool := false
  /-- consecutive frames repeated while not ready -/
  repeats : Nat := 0
  /-- paints FB_C -/
  fallback : Bool := false
  /-- the frame shown is a repeat -/
  again : Bool := false
  deriving DecidableEq, Repr

/-- A copy of an engine's shadows, taken at acceptance (R235): words 0 to 7 of each layer of the pool, words 1 and 2 of each head,
label text of each layer. -/
structure CmpCopy where
  layers : List (Nat × List Nat) := []
  heads : List (Nat × Nat × Nat) := []
  labels : List (Nat × List Byte) := []
  deriving DecidableEq, Repr

structure PendCommit where
  uid : Nat := 0
  engine : Nat := 0
  copy : CmpCopy := {}
  due : Due := {}
  deriving DecidableEq, Repr

structure CmpState where
  layers : List (Nat × LayerSt) := []
  /-- label texts per layer, active and shadow (R232) -/
  labels : List (Nat × List Byte) := []
  shadowLabels : List (Nat × List Byte) := []
  /-- frames of head h since the IMAGE reset (R240) -/
  frames : List (Nat × Nat) := []
  /-- the stream of head h (R137) -/
  streams : List (Nat × Stream) := []
  pend : List PendCommit := []
  /-- coefficient sets that the image loads into every engine: 64 phases of 14 (R229) -/
  coefs : List (Nat × List Int) := []
  deriving DecidableEq, Repr

end Sys2Proof.Machine
end

