-- ==== Sys2Proof/Machine/StateEth.lean ====
section
/-! DEFINITION. What the Ethernet ports and the network rings hold beside their registers (chapter "Ethernet ports", R552 to R554),
and the flow contexts' progress (chapter "Media flows"). -/

namespace Sys2Proof.Machine

/-- A control-class frame in a receive queue: without FCS and tag, the removed tag's TCI, the receive timestamp (local time). -/
structure CtlFrame where
  frame : List Byte := []
  tci : Option Nat := none
  ts : Option Nat := none
  deriving DecidableEq, Repr

/-- A control-class frame in the transmit staging: its network, the index of its EOF descriptor and that descriptor, the frame, the
tag to insert, and whether a timestamp is asked for. -/
structure TxCtl where
  net : Nat := 0
  eof : Nat := 0
  desc : List Byte := []
  frame : List Byte := []
  tag : Option Nat := none
  tsReq : Bool := false
  deriving DecidableEq, Repr

/-- A logical port (R361 to R370). -/
structure EthLp where
  /-- media receive queue: frames without FCS, with the module time of their end -/
  mediaRx : List (Nat × List Byte) := []
  ctlRx : List CtlFrame := []
  ctlTx : List TxCtl := []
  /-- media transmit staging: frames without FCS -/
  mediaTx : List (List Byte) := []
  /-- end of the pause in force (module time), and the pause_time of a PAUSE that has not taken effect -/
  pauseEnd : Option Nat := none
  pausePend : Option Nat := none
  /-- module times of the last flush of the media and control receive queues -/
  flushMedia : Option Nat := none
  flushCtl : Option Nat := none
  deriving DecidableEq, Repr

/-- A physical port's occupancy window (R371, R372). -/
structure EthPort where
  rxBytes : Nat := 0
  txBytes : Nat := 0
  winStart : Nat := 0
  lastRise : Nat := 0
  deriving DecidableEq, Repr

/-- A network's rings: transmit descriptors fetched and not yet staged with the bytes read of their buffers (none while the read is
outstanding), the index of the first of them, frames not yet written back (index after the frame, and whether it is done),
receive descriptors posted and not used, and write-backs that wait for D0 (R529): EOF index and descriptor, TXSTAT, timestamp. -/
structure NetRing where
  txPend : List (List Byte × Option (List Byte)) := []
  txNext : Nat := 0
  txOpen : List (Nat × Bool) := []
  rxDescs : List (List Byte) := []
  held : List (Nat × List Byte × Nat × Option Nat) := []
  deriving DecidableEq, Repr

/-- A receive context's merge state (R404 to R407) and the frame it is writing (R398, R399). -/
structure RxCtx where
  /-- highest sequence number accepted -/
  high : Option Nat := none
  /-- accepted sequence numbers within 8192 of it, and those declared lost -/
  seen : List Nat := []
  lost : List Nat := []
  /-- missing positions, with the module time at which each is declared lost -/
  waits : List (Nat × Nat) := []
  /-- next sequence number that each path is expected to bring -/
  nextA : Option Nat := none
  nextB : Option Nat := none
  /-- consecutive stray packets, and consecutive stale ones, on each path -/
  strayA : Nat := 0
  strayB : Nat := 0
  staleA : Nat := 0
  staleB : Nat := 0
  /-- module time of the last packet on each path -/
  lastA : Option Nat := none
  lastB : Option Nat := none
  /-- frame in progress: RTP timestamp of each field (true: the second) of which a packet has come, none where no frame is in progress;
  least position it can begin at, and its first position, once the packet with its first pixel has come; (marker) last position,
  samples written by row, positions lost since it may have begun -/
  ts : List (Bool × Nat) := []
  least : Nat := 0
  start : Option Nat := none
  last : Option Nat := none
  rows : List (Nat × Nat × List Word10) := []
  hurt : List Nat := []
  /-- last position of the frame before -/
  before : Option Nat := none
  /-- timestamps of the last frames that have completed or been damaged, newest first -/
  closed : List Nat := []
  /-- OPAQUE packets waiting for RELAY_US: module time at which each goes to staging, words of the transmit record in force at its
  acceptance (none where the context was disabled), RTP header and payload (R403, R420) -/
  relay : List (Nat × List Nat × List Byte) := []
  deriving DecidableEq, Repr

/-- A frame that a transmit context sends: the plane frame boundary at which it starts (module time) and the record words under
which it is sent (R409, R420). -/
structure TxFrame where
  frame : KFrame := {}
  at_ : Nat := 0
  words : List Nat := []
  deriving DecidableEq, Repr

/-- A transmit context's packet sequence (R408 to R413). -/
structure TxCtx where
  seq : Nat := 0
  /-- the frame in progress and those that its plane's reader has chosen since, and the packets sent of the first -/
  queue : List TxFrame := []
  sent : Nat := 0
  /-- audio samples read and not yet sent, one list of channel words per sample period, and the instant of the first -/
  audio : List (List Nat) := []
  audioAt : Nat := 0
  deriving DecidableEq, Repr

/-- A record of FLW_CTX that waits for its commit point: command, direction (true transmit), context, words. -/
structure PendRec where
  uid : Nat := 0
  tx : Bool := false
  ctx : Nat := 0
  words : List Nat := []
  due : Due := {}
  deriving DecidableEq, Repr

structure EthState where
  lps : List (Nat × EthLp) := []
  ports : List (Nat × EthPort) := []
  nets : List (Nat × NetRing) := []
  rx : List (Nat × RxCtx) := []
  tx : List (Nat × TxCtx) := []
  recs : List PendRec := []
  /-- snapshot boundary's local time while the copy runs (R377) -/
  snapAt : Option Nat := none
  deriving DecidableEq, Repr

end Sys2Proof.Machine
end

