-- ==== Sys2Proof/Machine/StateHost.lean ====
section
/-! DEFINITION. What the host interface holds beside its registers (chapter "Host link and commands"), and what the module sends
out of its lands, buses and rings. -/

namespace Sys2Proof.Machine

/-- One record of the event FIFO (R550). -/
structure EvtRec where
  source : Nat := 0
  index : Nat := 0
  bits : Nat := 0
  sec : Nat := 0
  ns : Nat := 0
  /-- records were discarded under R551 before this one -/
  lost : Bool := false
  /-- module time of the event: bits of one register that change in the same instant share a record (R549) -/
  stamp : Nat := 0
  deriving DecidableEq, Repr

/-- A record that waits to be posted. -/
structure HeldEvt where
  source : Nat := 0
  index : Nat := 0
  bits : Nat := 0
  stamp : Nat := 0
  deriving DecidableEq, Repr

/-- One completion entry (R546), before it is written with the ring's phase bit. -/
structure Cpl where
  ring : Nat
  tag : Nat
  /-- submission entry index -/
  entry : Nat
  status : Nat
  qual : Nat := 0
  opcode : Nat := 0
  detail0 : Nat := 0
  detail1 : Nat := 0
  sec : Nat := 0
  ns : Nat := 0
  mseq : Nat := 0
  deriving DecidableEq, Repr

/-- One vector of the MSI-X table and pending-bit array of BAR4 (R528, R555). -/
structure MsixVec where
  /-- PCIe rules: every vector is masked after reset -/
  masked : Bool := true
  pending : Bool := false
  deriving DecidableEq, Repr

/-- Power state and link state of the PCIe function (R527, R529, R595). -/
structure PcieFn where
  d3hot : Bool := false
  /-- HOST_PERST_N is asserted -/
  perst : Bool := false
  /-- the function still answers with Configuration Request Retry Status (R595) -/
  crs : Bool := true
  /-- the ACCESS event has posted and HIF_ACCESS_ERR has not been read since (R550) -/
  accessSet : Bool := false
  /-- upper words latched by a read of the lower register, by the offset of the upper (R14, R477) -/
  latch : List (Nat × Nat) := []
  deriving DecidableEq, Repr

/-- What leaves the module: the port log, newest first. It is the model's own record of outputs, no register. -/
inductive Out where
  /-- a lane block on an output lane: header bytes 1 and 2, CRC, scrambled payload (R100) -/
  | laneBlock (lane b1 b2 crc : Nat) (payload : List Byte)
  /-- a transmitter of an output lane begins to repeat a training set, whose sequence number then rises set by set: symbols 2 to 15 of
  the first (R63) -/
  | trainingSet (lane : Nat) (body : List Byte)
  /-- a write to host memory (R533) -/
  | hostWrite (addr : Nat) (bytes : List Byte)
  /-- an MSI-X message of a vector -/
  | msix (vector : Nat)
  /-- an Ethernet frame without preamble and FCS -/
  | macFrame (lp : Nat) (frame : List Byte)
  /-- what a logical port begins to send between frames: 0 frames as they come, 1 remote fault, 2 idle in place of frames (R354) -/
  | lineSignal (lp what : Nat)
  /-- a Delay_Req of a PTP instance on its logical port, with its sequenceId, by unicast or not, over Ethernet or UDP, with the tag it
  carries (R461, R482) -/
  | delayReq (inst lp seq : Nat) (unicast ethernet : Bool) (tag : Option Nat)
  /-- a bark on a path: its 64 bytes in a BARK block of every ACTIVE twin lane (0), or the frame on WATCH (1) -/
  | bark (path : Nat) (bytes : List Byte)
  /-- a message on the twin link: the 16-byte header of R491 and what the body carries -/
  | twin (header : List Byte) (m : TwinMsg)
  /-- a pulse on PULSE_k: active-low or not, start (module time) and width in ns -/
  | pulse (k : Nat) (low : Bool) (at_ widthNs : Nat)
  /-- what a register or window read returns to the host -/
  | readData (addr : Nat) (bytes : List Byte)
  /-- a bit pattern on TDO -/
  | tdo (value : Nat)
  deriving DecidableEq, Repr

end Sys2Proof.Machine
end

