-- ==== Sys2Proof/Machine/StateSec.lean ====
section
/-! DEFINITION. What the Prinel core holds beside the SEC and SHF registers (chapters "Persistent state and security functions"
and "Composition heads and the shofar layer"). -/

namespace Sys2Proof.Machine

/-- An audit record (R649). -/
structure AuditRec where
  aseq : Nat := 0
  sec : Nat := 0
  ns : Nat := 0
  code : Nat := 0
  status : Nat := 0
  /-- bytes 21 to 31 -/
  arg : List Byte := []
  chain : List Byte := []
  deriving DecidableEq, Repr

structure SecState where
  /-- public key bytes per slot (R634) -/
  keys : List (Nat × List Byte) := []
  /-- the audit records held, newest first, at most 16,384 (R651) -/
  audit : List AuditRec := []
  /-- consecutive failed debug answers, counted across POR (R645) -/
  fails : Nat := 0
  /-- module time at which the debug lockout ends (R645) -/
  lockEnd : Option Nat := none
  /-- module time at which the nonce held was issued (R644) -/
  nonceAt : Option Nat := none
  deriving DecidableEq, Repr

/-- What the shofar layer and the alarm contacts hold beside the SHF registers. Contacts are numbered 0 for A and 1 for B. -/
structure ShofarState where
  /-- the bundle in force, whole; empty none (R246) -/
  bundle : List Byte := []
  /-- the two copies of the bundle area, and the one selected (R625) -/
  copies : List (Nat × List Byte) := []
  copy : Nat := 0
  /-- the stored bundle counter (R246) -/
  bcounter : Nat := 0
  /-- per message (16: the built-in one), the causes that hold it raised: bit 0 command, bit 1 contact A, bit 2 contact B, bit 3
  wiring fault A, bit 4 wiring fault B (R248, R249) -/
  causes : List (Nat × Nat) := []
  /-- restore timers: 0 and 1 contacts out of ALARM, 2 and 3 contacts out of FAULT, to the module time of expiry (R249) -/
  restore : List (Nat × Nat) := []
  /-- class of each loop, 0 CLOSED, 1 OPEN, 2 BROKEN, once measured; module time since which it has lain in a gap (R751) -/
  loops : List (Nat × Nat) := []
  gaps : List (Nat × Nat) := []
  /-- class of each loop that has held for 20 ms (R248) -/
  steady : List (Nat × Nat) := []
  /-- class being debounced, and the module time since which the contact state that it gives has held (R248) -/
  cand : List (Nat × Nat × Nat) := []
  /-- the raised state has been restored since POR, so that contacts act (R254) -/
  live : Bool := false
  /-- the raised messages after each change, bit m for message m, with the module time of the change, newest first (R251) -/
  hist : List (Nat × Nat) := []
  /-- bundles that Prinel is checking: command and bytes -/
  pendBundle : List (Nat × List Byte) := []
  /-- requests that Prinel is checking: command and bytes -/
  pendReq : List (Nat × List Byte) := []
  /-- frames of head h since the frame in which its message first showed (R250) -/
  flash : List (Nat × Nat) := []
  deriving DecidableEq, Repr

end Sys2Proof.Machine
end

