-- ==== Sys2Proof/Machine/StateSys.lean ====
section
/-! DEFINITION. What the debug module, the TAP, the control fabric and the power sequencer hold beside their registers (chapters
"Control fabric and debug access" and "Power, clocks and sleep"). -/

namespace Sys2Proof.Machine

/-- A debug fabric transaction: direction, bytes, fabric address, and the bytes of a write (R687). -/
structure MemOp where
  write : Bool := false
  size : Nat := 4
  addr : Nat := 0
  data : List Byte := []
  deriving DecidableEq, Repr

structure DbgState where
  /-- reed engines that HALT_AT_BLOCK stops at their next block (R683) -/
  haltBlock : List Nat := []
  /-- EXTEST, HIGHZ or CLAMP drives the lands (R677) -/
  tapTest : Bool := false
  /-- instruction register of the TAP, IDCODE after Test-Logic-Reset (R675) -/
  ir : Nat := 2
  /-- boundary-scan cells as last shifted in (R677) -/
  scan : Nat := 0
  /-- result of the last DBG_ACCESS and DBG_CHAL operation: STATUS, OFFSET, data (R678) -/
  access : Nat × Nat × Nat := (0, 0, 0)
  chal : Nat × Nat × Nat := (0, 0, 0)
  /-- the debug transaction in progress (R687) -/
  mem : Option MemOp := none
  deriving DecidableEq, Repr

/-- Bring-up, resets and sleep (chapter "Power-up, calibration and readiness", R713, R714, R738, R755). -/
structure BootState where
  /-- module time of power-good, of the MODULE reset or of the wake event -/
  t0 : Nat := 0
  /-- module time from which the bounds of R597 run -/
  base : Nat := 0
  /-- 0 POR, 1 MODULE reset, 2 wake from SLEEP -/
  kind : Nat := 0
  /-- a sensor reads below 0 °C: held in step 1 (R755) -/
  cold : Bool := false
  /-- SLEEP (R713) -/
  asleep : Bool := false
  /-- the electronic fuse has opened (R738) -/
  fuse : Bool := false
  /-- a degrading fault has been found since POR (R603) -/
  degraded : Bool := false
  /-- step 7 has read PST_PREF since POR (R599) -/
  prefRead : Bool := false
  /-- switched domains of units that bring-up found unusable (R600) -/
  deadDoms : List Nat := []
  /-- module times at which Crumhorn ordered the start of domains that have not reached ON since (R703 to R705) -/
  domAt : List (Nat × Nat) := []
  /-- reference inputs whose front end failed its calibration (R600) -/
  refBad : List Nat := []
  /-- SYS_RESET_CAUSE of a MODULE reset that waits under R609 -/
  cause : Nat := 1
  deriving DecidableEq, Repr

/-- What the module does to an open-drain land. -/
inductive LandDrive where
  | undriven | low | released
  deriving DecidableEq, Repr

/-- What the cells hold while the store cannot be read (R600): the rows that the windows of R601 show, kept for the next POR. -/
structure Vault where
  regs : List (Nat × List (Nat × Nat)) := []
  prefValid : Bool := false
  refDigest : Nat := 0
  prefPrio : List (Nat × Nat) := []
  prefLockout : List (Nat × Nat) := []
  pairId : Nat := 0
  journal : Option (Nat × List Nat) := none
  copies : List (Nat × List Byte) := []
  copy : Nat := 0
  bcounter : Nat := 0
  causes : List (Nat × Nat) := []
  deriving DecidableEq, Repr

/-- The thermal and feed monitors (R708 to R712). Times are module times. -/
structure MonState where
  /-- the warning set, and since when; since when every logic sensor has read below WARN_C − 5 °C -/
  warnAt : Option Nat := none
  coolAt : Option Nat := none
  /-- since when the warning has been cleared, while row 8 of R505 is in force -/
  clearAt : Option Nat := none
  /-- stacks at double refresh rate, each with the time since which it has read below 80 °C -/
  hot : List (Nat × Option Nat) := []
  /-- since when a trip reading holds -/
  tripAt : Option Nat := none
  /-- the feed has fallen below 42.0 V and not risen above 43.0 V since -/
  feedLow : Bool := false
  deriving DecidableEq, Repr

/-- An image on its way into the module: its command (0 at bring-up), where it comes from (1 slot A, 2 slot B, 3 host), its bytes,
whether the slot was not the preferred one (R578), and whether it has passed validation. -/
structure ImgLoad where
  uid : Nat := 0
  source : Nat := 0
  bytes : List Byte := []
  fallback : Bool := false
  valid : Bool := false
  deriving DecidableEq, Repr

/-- Image slots and loads (chapter "The Ilisk structure image"). -/
structure ImgState where
  /-- bytes stored in slot A (0) and slot B (1); empty none -/
  slots : List (Nat × List Byte) := []
  /-- IMAGE_WRITE in progress: its command, slot and bytes -/
  writing : Option (Nat × Nat × List Byte) := none
  /-- the boot load of R578 has been made since READY was set -/
  bootDone : Bool := false
  /-- image chosen at bring-up, waiting for its IMAGE reset -/
  boot : Option ImgLoad := none
  /-- IMAGE_RELOAD in progress -/
  load : Option ImgLoad := none
  /-- IMAGE_RELOAD that waits for the last restore take (R579) -/
  restoring : Option Nat := none
  /-- default transmit presets of the image in force, by lane (R81) -/
  presets : List (Nat × Nat) := []
  deriving DecidableEq, Repr

end Sys2Proof.Machine
end

