-- ==== Sys2Proof/Machine/StateTime.lean ====
section
/-! DEFINITION. What the Pitch Pipe holds beside its registers (chapter "The Pitch Pipe: references, timing planes and time"). -/

namespace Sys2Proof.Machine

/-- A timing plane (R447 to R452). Times are module times (see `State.now`). -/
structure PlaneSt where
  /-- module time of the last plane frame boundary -/
  boundary : Nat := 0
  /-- module time at which the next one falls -/
  next : Nat := 0
  /-- a HARD_REALIGN has been written and waits for the next boundary (R451) -/
  hard : Bool := false
  deriving DecidableEq, Repr

/-- Configuration of a pulse output (R454, R476). -/
structure PulseCfg where
  en : Bool := false
  low : Bool := false
  width : Nat := 10
  src : Nat := 15
  offsetNs : Nat := 0
  deriving DecidableEq, Repr

/-- One pulse output: the configuration that drives it, and one written since, with the module time of the write. -/
structure PulseSt where
  cfg : PulseCfg := {}
  written : Option (Nat × PulseCfg) := none
  deriving DecidableEq, Repr

/-- A PTP instance's progress (R461, R462). Times are in units of local time. -/
structure PtpSt where
  /-- the chosen master: clockIdentity and port number, and the data set it announces -/
  master : Option ((Nat × Nat) × List Nat) := none
  /-- other announcing ports: identity, Announce messages seen, last data set -/
  foreign : List ((Nat × Nat) × Nat × List Nat) := []
  /-- Sync and Delay_Resp exchanges measured with no step of more than 1 µs between them -/
  exchanges : Nat := 0
  /-- the master's time minus local time at the last exchange, in ns -/
  lastOffset : Int := 0
  /-- t1 and t2 of the last Sync completed -/
  sync : Option (Nat × Nat) := none
  /-- sequenceId and t2 of a two-step Sync whose Follow_Up is awaited -/
  await : Option (Nat × Nat) := none
  /-- sequenceId and t3 of the Delay_Req in flight -/
  req : Option (Nat × Nat) := none
  /-- sequenceId of the next Delay_Req -/
  delaySeq : Nat := 0
  /-- module time of the master's last Announce, and the logarithm of the interval that it gives -/
  annAt : Nat := 0
  annLog : Int := 0
  /-- module time of the last Delay_Req, and the logarithm of the interval that the master's Delay_Resp gives -/
  reqAt : Nat := 0
  reqLog : Option Int := none
  deriving DecidableEq, Repr

/-- Wait-to-restore of a reference: module time at which it ends (R438). -/
structure RefSt where
  wtrEnd : Option Nat := none
  deriving DecidableEq, Repr

structure TimeState where
  planes : List (Nat × PlaneSt) := []
  pulses : List (Nat × PulseSt) := []
  ptp : List (Nat × PtpSt) := []
  refs : List (Nat × RefSt) := []
  /-- module time at which the transition in progress began, and whether it left FREE_RUN or HOLDOVER (R442) -/
  transAt : Nat := 0
  transFree : Bool := false
  /-- module time of the time servo's last evaluation (R458) -/
  servoAt : Nat := 0
  /-- digest of the reference section of the image in force (R439, R628) -/
  refDigest : Nat := 0
  /-- an input has been selected since POR (R440) -/
  everSelected : Bool := false
  /-- seconds captured by the last APPLY (R460) -/
  setSec : Nat := 0
  deriving DecidableEq, Repr

end Sys2Proof.Machine
end

