-- ==== Sys2Proof/Machine/State.lean ====
section
/-! DEFINITION. The state of the module, the reasons a step can stop, and the state after reset. -/

namespace Sys2Proof.Machine

/-- Whether the register fields of blocks that keep running through a MODULE reset show what the blocks run on (R610). -/
inductive RunView where
  /-- they do -/
  | plain
  /-- since a MODULE reset they show their reset values, and the blocks run on these -/
  | hidden (live : List (Nat × List (Nat × Nat)))
  /-- within a step: the running values stand in the registers until its end; `vis` is what the fields show -/
  | shown (vis : List (Nat × List (Nat × Nat)))
  /-- within a step: a MODULE reset has been made -/
  | reset
  deriving DecidableEq, Repr

structure State where
  /-- every register field, by field number and instance; an unlisted one reads its reset value -/
  regs : List (Nat × List (Nat × Nat)) := []
  /-- what the fields of the running blocks show after a MODULE reset (R610) -/
  hold : RunView := .plain
  /-- the snapshot bank (R20, R35), laid out as `regs` -/
  snap : List (Nat × List (Nat × Nat)) := []
  /-- module time in units of 2^-16 ns since power-good -/
  now : Nat := 0
  /-- local time minus module time (R455) -/
  timeOff : Int := 0
  /-- power-good is high (R593) -/
  powered : Bool := true
  lane : LaneState := {}
  time : TimeState := {}
  xpt : XptState := {}
  cmp : CmpState := {}
  aud : AudState := {}
  reed : ReedState := {}
  eth : EthState := {}
  dbg : DbgState := {}
  cmd : CmdState := {}
  twin : TwinState := {}
  pst : PstState := {}
  sec : SecState := {}
  shf : ShofarState := {}
  img : ImgState := {}
  boot : BootState := {}
  mon : MonState := {}
  /-- the cells that a store that cannot be read keeps (R600) -/
  vault : Option Vault := none
  /-- event FIFO, oldest first (R549) -/
  evtFifo : List EvtRec := []
  /-- records that wait for READY or for D0 (R529, R596), oldest first -/
  evtHeld : List HeldEvt := []
  /-- records were discarded since the last one posted (R551) -/
  evtLost : Bool := false
  /-- the record read last (R550) -/
  evtLast : EvtRec := {}
  /-- completions held back per ring, in the order in which they arose (R529, R537) -/
  cplHeld : List Cpl := []
  /-- completions of a ring waiting since its last signal, and the module time of the first (R556) -/
  coal : List (Nat × Nat × Nat) := []
  msix : List (Nat × MsixVec) := []
  pcie : PcieFn := {}
  /-- what the module has sent out, newest first: the model's own log -/
  out : List Out := []
  /-- number of free values drawn so far: the model's own counter -/
  freeCtr : Nat := 0
  /-- commands that are waiting, first in, first out -/
  pending : List Instr := []
  deriving DecidableEq, Repr

/-- Reasons for which a step stops the machine. There are none: whatever arrives, the manual has the module go on (a fatal fault of
bring-up is the state HALTED, R602). -/
inductive Fault where
  deriving DecidableEq, Repr

/-- Reasons for which a command is refused. -/
inductive Refusal where
  /-- raised by `exec` for a command whose meaning is not written yet; safe -/
  | notModelled (mnemonic : String)
  deriving DecidableEq, Repr

/-- The state right after reset. -/
def State.reset : State := {}

end Sys2Proof.Machine
end

