-- ==== Sys2Proof/Machine/Ops.lean ====
section
/-! DEFINITION. The named operations every meaning is written with: reading and writing register fields, counters, event bits
and the event FIFO, local time, free values, output. The state is the last argument, so that meanings read as pipelines. -/

namespace Sys2Proof.Machine

/-! ### Register fields -/

/-- The value of field `f`, instance `i`. -/
def getF (f : Fld) (i : Nat) (s : State) : Nat := mget (f.resetAt i) (mget [] s.regs f.id) i

/-- A field as a truth value. -/
def getB (f : Fld) (i : Nat) (s : State) : Bool := getF f i s != 0

/-- Write field `f`, instance `i`; bits beyond the field's width are dropped. -/
def setF (f : Fld) (i v : Nat) (s : State) : State :=
  { s with regs := mput [] s.regs f.id (mput (f.resetAt i) (mget [] s.regs f.id) i (v % 2 ^ f.width)) }

def setB (f : Fld) (i : Nat) (b : Bool) (s : State) : State := setF f i (b2n b) s

/-- Return field `f`, every instance, to its reset value. -/
def clearFld (f : Fld) (s : State) : State := { s with regs := mput [] s.regs f.id [] }

/-- Return instance `i` of field `f` to its reset value. -/
def resetF (f : Fld) (i : Nat) (s : State) : State := setF f i (f.resetAt i) s

def resetFs (fs : List Fld) (i : Nat) (s : State) : State := fs.foldl (fun s f => resetF f i s) s

def clearFlds (fs : List Fld) (s : State) : State := fs.foldl (fun s f => clearFld f s) s

/-- The instances of a field that are listed with a value `p` accepts. -/
def indicesWhere (f : Fld) (p : Nat → Bool) (s : State) : List Nat :=
  ((mget [] s.regs f.id).filter (fun e => p e.2)).map (·.1)

/-- Drop every field that the given reset domains return to its reset value (R16). -/
def resetDomains (ds : List Dom) (s : State) : State :=
  { s with regs := s.regs.filter (fun e => match fieldOf e.1 with | some f => !(ds.contains f.dom) | none => true) }

/-- Apply `f` to each index in turn. -/
def forEach {α : Type} (l : List α) (f : α → State → State) (s : State) : State := l.foldl (fun s a => f a s) s

/-- Apply `f` when the condition holds. -/
def when_ (c : Bool) (f : State → State) (s : State) : State := if c then f s else s

/-! ### Time (R455)

Module time is the model's own clock: units of 2^-16 ns since power-good, at the module clock's rate, which no servo
corrects. Local time is module time plus `timeOff`, which steps and slews change (log entry 2). -/

/-- Units of time in a nanosecond, a microsecond, a millisecond and a second. -/
def nsUnit : Nat := 65536
def usUnit : Nat := 1000 * 65536
def msUnit : Nat := 1000000 * 65536
def secUnit : Nat := 1000000000 * 65536

def timeSec (t : Nat) : Nat := t / secUnit
def timeNs (t : Nat) : Nat := t % secUnit / nsUnit

/-- A time from whole seconds and nanoseconds. -/
def mkTime (sec ns : Nat) : Nat := sec * secUnit + ns * nsUnit

/-- Local time at a module time. -/
def toLocal (t : Nat) (s : State) : Nat := (t + s.timeOff).toNat

/-- Local time now. -/
def localTime (s : State) : Nat := toLocal s.now s

/-- Module time runs on to `t`; it never runs back (log entry 2). -/
def advance (t : Nat) (s : State) : State := { s with now := max s.now t }

/-! ### Free values and outputs -/

/-- Draw a free value below `2 ^ width`. -/
def freeBits (width : Nat) (s : State) : Nat := Config.freeNat s.freeCtr % 2 ^ width

/-- The step has used one free value. -/
def drawn (s : State) : State := { s with freeCtr := s.freeCtr + 1 }

def emit (o : Out) (s : State) : State := { s with out := o :: s.out }

/-! ### Counters (R19) -/

/-- A 32-bit error or event counter: it sticks at 0xFFFF_FFFF, and an event that then arrives sets its OVF flag. -/
def bump32 (c ovf : Fld) (i : Nat) (s : State) : State :=
  if getF c i s = 0xFFFFFFFF then setF ovf i 1 s else setF c i (getF c i s + 1) s

/-- `n` events at once. -/
def bump32By (c ovf : Fld) (i n : Nat) (s : State) : State :=
  if getF c i s + n ≤ 0xFFFFFFFF then setF c i (getF c i s + n) s else s |> setF c i 0xFFFFFFFF |> setF ovf i 1

/-- A 64-bit byte or packet counter: it wraps, and sets its WRAP flag when it does. -/
def bump64 (c wrap : Fld) (i n : Nat) (s : State) : State :=
  if getF c i s + n < 2 ^ 64 then setF c i (getF c i s + n) s
  else s |> setF c i (getF c i s + n - 2 ^ 64) |> setF wrap i 1

/-- A quotient that the spec gives no rounding for: exact where it is whole, and otherwise one of its two neighbours (log entry 24). -/
def quotient (n : Int) (d : Nat) : Int := if n % d = 0 || !Config.roundsUp n d then n / d else n / d + 1

/-- Set bit `b` of a field that holds one flag a bit. -/
def setBit (f : Fld) (b i : Nat) (s : State) : State := setF f i (getF f i s ||| 2 ^ b) s

/-- As `bump32`, the flag being bit `b` of a flag field. -/
def bump32F (c flags : Fld) (b i n : Nat) (s : State) : State :=
  if getF c i s + n ≤ 0xFFFFFFFF then setF c i (getF c i s + n) s else s |> setF c i 0xFFFFFFFF |> setBit flags b i

/-- As `bump64`, the flag being bit `b` of a flag field. -/
def bump64F (c flags : Fld) (b i n : Nat) (s : State) : State :=
  if getF c i s + n < 2 ^ 64 then setF c i (getF c i s + n) s
  else s |> setF c i (getF c i s + n - 2 ^ 64) |> setBit flags b i

/-! ### Switched domains (R699, R700, R705) -/

/-- Codes of PWR_DOM.STATE. -/
def dGated : Nat := 0
def dStarting : Nat := 1
def dAsleep : Nat := 2
def dOn : Nat := 3
def dSelfRefresh : Nat := 4
def dFailed : Nat := 5

/-- State that domain `d` holds. -/
def domState (d : Nat) (s : State) : Nat := getF PWR_DOM.STATE d s

def setDom (d st : Nat) (s : State) : State := setF PWR_DOM.STATE d st s

/-- The domain has no running clocks: its unit does nothing. -/
def domDown (d : Nat) (s : State) : Bool := domState d s == dGated || domState d s == dStarting || domState d s == dFailed

/-- Bring-up found the domain's unit unusable, which holds until POR, or the domain did not start, which holds until a MODULE reset
(R600, R705). -/
def domDead (d : Nat) (s : State) : Bool := s.boot.deadDoms.contains d || domState d s == dFailed

/-- A kennel stack has failed, so that every kennel writer acts as on loss (R191, R600). -/
def stacksBad (s : State) : Bool := s.twin.stackBad != 0 || (List.range 8).any (fun k => domDead (432 + k) s)

/-! ### MSI-X (R555) -/

/-- The function may send memory writes and messages: it is in D0 and out of reset (R529, R595). -/
def hostUp (s : State) : Bool := !s.pcie.d3hot && !s.pcie.perst && !s.pcie.crs

/-- Signal an interrupt source: the vector HIF_MSIX_MAP names sends its message, or becomes pending while masked. -/
def signal (src : Nat) (s : State) : State :=
  let v := getF HIF_MSIX_MAP.VECTOR src s
  let e := mget ({} : MsixVec) s.msix v
  if e.masked || !hostUp s then { s with msix := mput ({} : MsixVec) s.msix v { e with pending := true } }
  else emit (.msix v) s

/-! ### Events (R549 to R551) -/

/-- Capacity of the event FIFO (R549). -/
def evtFifoCap : Nat := 65536

/-- Record `r` may carry the bits `h`: the same register in the same instant, a bit at most once; records of the shofar and of the
snapshot are no register's (R549, R550). -/
def joins (h : HeldEvt) (r : EvtRec) : Bool :=
  r.stamp == h.stamp && r.source == h.source && r.index == h.index % 2 ^ 24 && r.bits &&& h.bits == 0 && h.source != 0x0A && h.source != 0x18

/-- Add the bits to the first record that may carry them. -/
def joinBits (h : HeldEvt) : List EvtRec → List EvtRec
  | [] => []
  | r :: l => if joins h r then { r with bits := r.bits ||| h.bits } :: l else r :: joinBits h l

/-- Put one record into the FIFO: a masked source posts none, bits of a register that change with others share their record, a full FIFO
discards it and counts it lost; an armed FIFO signals (R556). -/
def postNow (h : HeldEvt) (s : State) : State :=
  if (getF HIF_EVT_MASK.MASK 0 s).testBit (h.source - 1) then s
  else if s.evtFifo.any (joins h) then { s with evtFifo := joinBits h s.evtFifo }
  else if evtFifoCap ≤ s.evtFifo.length then
    { s with evtLost := true } |> bump32 HIF_EVT_LOST.COUNT HIF_CNT_FLAGS.LOST_OVF 0
  else
    let r : EvtRec := { source := h.source, index := h.index % 2 ^ 24, bits := h.bits, sec := timeSec (localTime s) % 2 ^ 32,
                        ns := timeNs (localTime s), lost := s.evtLost, stamp := h.stamp }
    let s := { s with evtFifo := s.evtFifo ++ [r], evtLost := false }
    let s := if h.source = 0x19 then signal 21 s else s
    if getB HIF_EVT_STATUS.ARMED 0 s then s |> setF HIF_EVT_STATUS.ARMED 0 0 |> signal 16 else s

/-- Records and completions are posted while READY is set and the function is in D0 (R529, R596). -/
def canPost (s : State) : Bool := getB SYS_STATUS.READY 0 s && !s.pcie.d3hot

/-- Post one record, or keep it until it can be posted (R529, R596). -/
def post (source index bits : Nat) (s : State) : State :=
  let h : HeldEvt := { source := source, index := index, bits := bits, stamp := s.now }
  if canPost s then postNow h s else { s with evtHeld := s.evtHeld ++ [h] }

/-- Post what was kept, SYS records first (R604). -/
def flushEvents (s : State) : State :=
  let hs := s.evtHeld.filter (fun h => h.source == 0x1F) ++ s.evtHeld.filter (fun h => h.source != 0x1F)
  forEach hs postNow { s with evtHeld := [] }

/-- Set sticky event bits of a register instance whose record names `index`; the bits that change from 0 to 1 and post go
into one record (R549). -/
def raiseAs (index : Nat) (fs : List Fld) (i : Nat) (s : State) : State :=
  let new := fs.filter (fun f => getF f i s == 0)
  let s := new.foldl (fun s f => setF f i 1 s) s
  let posting := new.filter (fun f => f.evt != 0)
  match posting with
  | [] => s
  | f :: _ => post f.evt index (posting.foldl (fun b g => b ||| 2 ^ g.lo) 0) s

/-- `raiseAs` where the record's index is the register instance. -/
def raise (fs : List Fld) (i : Nat) (s : State) : State := raiseAs i fs i s

end Sys2Proof.Machine
end

