-- ==== Sys2Proof/Machine/Blocks.lean ====
section
/-! DEFINITION. The lane block: CRC, scrambler, word packing, slots and fill (R100 to R120), and the training set (R63). -/

namespace Sys2Proof.Machine

/-! ### The CRC (R105) -/

/-- One bit of the CRC-8 of polynomial x^8 + x^2 + x + 1. -/
def crcBit (c : Byte) : Byte := if c.getMsbD 0 then (c <<< 1) ^^^ 0x07#8 else c <<< 1

/-- One byte, MSB first. -/
def crcByte (c d : Byte) : Byte := crcBit (crcBit (crcBit (crcBit (crcBit (crcBit (crcBit (crcBit (c ^^^ d))))))))

/-- Initial value 0xFF, no final inversion, over the previous payload, byte 1 and byte 2. -/
def laneCrc (prevPayload : List Byte) (b1 b2 : Byte) : Byte :=
  (prevPayload ++ [b1, b2]).foldl crcByte 0xFF#8

/-- Payload bytes of a block. -/
def payloadLen : Nat := 1020

/-- The previous payload that the first block counts as sent (R105). -/
def zeroPayload : List Byte := List.replicate payloadLen 0#8

/-! ### The scrambler (R115) -/

/-- One keystream bit and the next register. -/
def scrStep (s : BitVec 16) : Bool × BitVec 16 :=
  let fb := ((s >>> 15) ^^^ (s >>> 4) ^^^ (s >>> 3) ^^^ (s >>> 2)) &&& 1#16
  (s.getLsbD 15, (s <<< 1) ||| fb)

/-- `n` keystream bits, most significant first, as a byte being built in `k`. -/
def scrBits : Nat → Byte → BitVec 16 → Byte × BitVec 16
  | 0, k, s => (k, s)
  | n + 1, k, s => scrBits n ((k <<< 1) ||| (if (scrStep s).1 then 1#8 else 0#8)) (scrStep s).2

/-- Exclusive-or the keystream onto the bytes. -/
def scrRun : BitVec 16 → List Byte → List Byte
  | _, [] => []
  | s, b :: bs => (b ^^^ (scrBits 8 0#8 s).1) :: scrRun (scrBits 8 0#8 s).2 bs

/-- The register is reseeded from SEQ at payload byte 0 of every block. -/
def scramble (seq : Nat) (payload : List Byte) : List Byte :=
  scrRun (0x8000#16 ||| BitVec.ofNat 16 (seq * 0x0111)) payload

/-! ### Words, groups and slots (R110 to R114) -/

/-- Fill word (R113). -/
def fillWord : Word10 := 0x001#10

/-- Pack words four to five bytes, most significant byte first (R110). -/
def packWords : List Word10 → List Byte
  | w0 :: w1 :: w2 :: w3 :: ws => beBytes 5 (w0.toNat * 2 ^ 30 + w1.toNat * 2 ^ 20 + w2.toNat * 2 ^ 10 + w3.toNat) ++ packWords ws
  | _ => []

/-- The words of a payload: five bytes give four (R110). -/
def unpackWords : List Byte → List Word10
  | b0 :: b1 :: b2 :: b3 :: b4 :: bs =>
    let g := beVal [b0, b1, b2, b3, b4]
    [BitVec.ofNat 10 (g / 2 ^ 30), BitVec.ofNat 10 (g / 2 ^ 20), BitVec.ofNat 10 (g / 2 ^ 10), BitVec.ofNat 10 g] ++ unpackWords bs
  | _ => []

/-- Every `n`th word, from word `k` on: slot k's positions in n-slot mode (R111). -/
def slotWordsOf (n k : Nat) (ws : List Word10) : List Word10 :=
  ((List.range ws.length).zip ws).filterMap (fun p => if p.1 % n = k then some p.2 else none)

/-- Clipping of data words: 0x001 to 0x003 become 0x004, 0x3FC to 0x3FE become 0x3FB (R113). -/
def clipWord (w : Word10) : Word10 :=
  if 1 ≤ w.toNat ∧ w.toNat ≤ 3 then 0x004#10 else if 0x3FC ≤ w.toNat ∧ w.toNat ≤ 0x3FE then 0x3FB#10 else w

/-- Word positions of a block. -/
def blockWords : Nat := 816

/-- Interleave the slots' words: position p takes word p div n of slot p mod n, fill where the slot has none (R111, R114). -/
def interleave (n : Nat) (slots : List (List Word10)) : List Word10 :=
  (List.range blockWords).map (fun p => ((slots.getD (p % n) []).getD (p / n) fillWord))

/-! ### Header (R100, R118) -/

def typePayload : Nat := 0x5
def typeTest : Nat := 0xA

/-- Slots of a lane in a SLOT_MODE (R104). -/
def slotsOf (mode : Nat) : Nat := 2 ^ mode

/-- The words of a run (R180, R201). -/
def runWords (r : Run) (ws : List Word10) : List Word10 := (List.range r.len).map (fun k => ws.getD (r.first + r.step * k) 0)

/-! ### Training sets (R63) -/

/-- Check symbol: ones' complement of the sum of symbols 2 to 14; `body` is symbols 2 to 15. -/
def setCheck (body : List Byte) : Bool :=
  body.length == 14 && byteAt body 13 == (255 - ((body.take 13).foldl (fun a b => a + b.toNat) 0) % 256)

def setType (body : List Byte) : Nat := byteAt body 0
/-- Sending lane number (symbols 3 and 4). -/
def setLane (body : List Byte) : Nat := byteAt body 1 + 256 * bits (byteAt body 2) 0 3
def setDirOut (body : List Byte) : Bool := (byteAt body 2).testBit 3
def setClkMode (body : List Byte) : Nat := bits (byteAt body 2) 5 2
def setPreset (body : List Byte) : Nat := bits (byteAt body 3) 0 4
def setRequest (body : List Byte) : Nat := bits (byteAt body 3) 4 4
def setReady (body : List Byte) : Bool := (byteAt body 4).testBit 0
/-- Sender identity, 48 bits, least significant byte first (symbols 8 to 13). -/
def setIdentity (body : List Byte) : Nat := leAt body 6 6

def typeTA : Nat := 0x1A
def typeTB : Nat := 0x2B

/-- The training marker, symbol 1 of a set. -/
def trainMark : Byte := 0x7C#8

/-- Check symbol of symbols 2 to 14. -/
def checkOf (b : List Byte) : Byte := BitVec.ofNat 8 (255 - b.foldl (fun a x => a + x.toNat) 0 % 256)

/-- What a set announces. -/
structure SetInfo where
  tb : Bool
  lane : Nat
  dirOut : Bool
  sideB : Bool
  fwd : Bool
  oneWay : Bool
  preset : Nat
  /-- preset requested for the other lane of the pair; 0xF none -/
  request : Nat
  fast : Bool
  identity : Nat
  deriving DecidableEq, Repr

/-- Symbols 2 to 14 of a set with sequence number `seq` (R63). A TB set carries READY, and EQ_DONE where an equaliser of the pair has
converged (R65, R67). -/
def setBody (x : SetInfo) (seq : Nat) : List Byte :=
  leBytes 1 (if x.tb then typeTB else typeTA) ++ leBytes 1 x.lane
    ++ leBytes 1 (x.lane / 256 % 8 + 8 * b2n x.dirOut + 16 * b2n x.sideB + 32 * b2n x.fwd + 128 * b2n x.oneWay)
    ++ leBytes 1 (x.preset % 16 + 16 * x.request) ++ leBytes 1 (b2n x.tb + 2 * b2n (x.tb && !x.oneWay) + 4 * b2n x.fast)
    ++ leBytes 1 seq ++ leBytes 6 x.identity ++ leBytes 1 0

/-- Sets of 16 symbols of 2/3 ns each that are sent in a time. -/
def setsIn (d : Nat) : Nat := d * 3 / (32 * 65536)

/-- Time of `n` lane blocks of 1024 symbols. -/
def blocksTime (n : Nat) : Nat := (n * 2048 * 65536 + 2) / 3

/-! ### Transmit presets (R73) -/

/-- Pre-cursor and post-cursor of a preset, in tenths of a dB. -/
def presetCursors (p : Nat) : Int × Int :=
  match p with
  | 0 => (0, 0)
  | 1 => (0, -25)
  | 2 => (0, -35)
  | 3 => (0, -60)
  | 4 => (-15, -35)
  | 5 => (-25, -35)
  | 6 => (-15, -60)
  | _ => (-35, 0)

end Sys2Proof.Machine
end

