-- ==== Sys2Proof/Machine/Running.lean ====
section
/-! DEFINITION. The register fields whose blocks keep running through a MODULE reset (R16, R610): between the reset and the IMAGE reset
that follows it, what such a field shows and what its block runs on differ (log entry 14). -/

namespace Sys2Proof.Machine

/-! ### Whole columns of a field -/

def colOf (f : Fld) (s : State) : List (Nat × Nat) := mget [] s.regs f.id
def putCol (f : Fld) (c : List (Nat × Nat)) (s : State) : State := { s with regs := mput [] s.regs f.id c }

/-- Fields on which a block that keeps running depends: lanes with their training and equalisers, Ethernet PCS, Pitch Pipe loop and
local time, twin link, and the switched domains of all of these (R610). -/
def runningFields : List Fld :=
  [LNI_GRP_CFG.CLK_MODE_ACT, LNI_GRP_CFG.CLK_MODE, LNI_GRP_CFG.FC_ACTIVE, LNI_GRP_CFG.ONE_WAY, LNI_GRP_CFG.ENABLED, LNI_PAY_CFG.SLOT_MODE,
   LNI_STATUS.ATTEMPT, LNI_STATUS.ONE_WAY_ACT, LNI_STATUS.CLK_FWD, LNI_STATUS.ADAPT_FROZEN, LNI_STATUS.POL_INV,
   LNI_STATUS.ALIGNED, LNI_STATUS.CDR_LOCK, LNI_STATUS.SIGDET, LNI_STATUS.STATE, LNI_EQ.PARTNER_PRESET, LNI_EQ.PRESET_REQ, LNI_EQ.CTLE,
   LNI_EQ.DFE1, LNI_PARTNER_LO.ID_LO, LNI_PARTNER_HI.PARTNER_LANE, LNI_PARTNER_HI.ID_HI, LNI_PAY_STATUS.PAY_LOSS]
  ++ [LNO_GRP_CFG.CLK_MODE_ACT, LNO_GRP_CFG.CLK_MODE, LNO_GRP_CFG.FC_OUT_ON, LNO_GRP_CFG.ONE_WAY, LNO_GRP_CFG.ENABLED, LNO_PAY_CFG.SLOT_MODE,
      LNO_TX_CFG.PRESET_ACT, LNO_TX_CFG.PRESET, LNO_TX_CFG.AMPLITUDE, LNO_STATUS.ATTEMPT, LNO_STATUS.ONE_WAY_ACT, LNO_STATUS.CLK_FWD, LNO_STATUS.STATE]
  ++ [ETH_PORT_CFG.ENABLED, ETH_PORT_CFG.SPLIT, ETH_PORT_CFG.LANE_RATE, ETH_PORT_CFG.NET_MAP, ETH_LP_MAC_LO.ADDR_LO, ETH_LP_MAC_HI.ADDR_HI,
      ETH_PORT_STATUS.PAUSED, ETH_PORT_STATUS.LINK, ETH_PORT_STATUS.RFAULT, ETH_PORT_STATUS.LFAULT, ETH_PORT_STATUS.STEP]
  ++ [PIP_CFG.REVERT, PIP_CFG.SPREAD, PIP_REF_CFG.USED, PIP_REF_CFG.MODE, PIP_REF_CFG.WTR_S, PIP_STATUS.TARGET, PIP_STATUS.SELECTED,
      PIP_STATUS.STATE, PIP_REF_STATUS.RATE, PIP_REF_STATUS.WTR_LEFT, PIP_REF_STATUS.WARN, PIP_REF_STATUS.NOISE, PIP_REF_STATUS.DRIFT,
      PIP_REF_STATUS.FREQ, PIP_REF_STATUS.QUAL, PIP_REF_FREQ.FREQ_PPB, PIP_REF_DRIFT.DRIFT_PPB_S, PIP_PLANE_CFG.ENABLED, PIP_PLANE_CFG.ALIGN,
      PIP_PLANE_CFG.RATE, PIP_PLANE_OFFSET.OFFSET_NS, PIP_PLANE_STATUS.MISMATCH, PIP_PLANE_STATUS.STATE, PIP_PLANE_ERR.ERR_NS]
  ++ [TIM_STATUS.SOURCE, TIM_STATUS.UTC_VALID, TIM_STATUS.UTC_OFFSET, TIM_PTP_STATUS.PORT_STATE, TIM_PTP_STATUS.UTC_VALID,
      TIM_PTP_STATUS.STEPS_REMOVED, TIM_PTP_STATUS.UTC_OFFSET, TIM_PTP_GM.GM_ID, TIM_PTP_OFFS_SEC.OFFS_SEC, TIM_PTP_OFFS_NS.OFFS_NS,
      TIM_PTP_MPD.MPD_NS, TIM_PTP_CFG.ENABLED, TIM_PTP_CFG.TRANSPORT, TIM_PTP_CFG.DELAY_UC, TIM_PTP_CFG.PCP, TIM_PTP_CFG.TAG,
      TIM_PTP_CFG.VID, TIM_PTP_CFG.LP, TIM_PTP_CFG.DOMAIN]
  ++ [TWN_STATUS.SIDE_B, TWN_STATUS.LINK_FWD, TWN_STATUS.ALIGNED, PWR_DOM.STATE, PWR_DOM.ASSIGNED]

/-- The columns of the running fields. -/
def runningCols (s : State) : List (Nat × List (Nat × Nat)) := runningFields.map (fun f => (f.id, colOf f s))

/-- Put such columns in the registers. -/
def putCols (m : List (Nat × List (Nat × Nat))) (s : State) : State := forEach runningFields (fun f s => putCol f (mget [] m f.id) s) s

/-- What field `f` shows after its running values went from `old` to `new`: an instance whose value changed shows it, and the others
show what they did. -/
def shownCol (f : Fld) (old new vis : List (Nat × Nat)) : List (Nat × Nat) :=
  ((new ++ old).map (·.1)).foldl (fun c i =>
    if mget (f.resetAt i) new i = mget (f.resetAt i) old i then c else mput (f.resetAt i) c i (mget (f.resetAt i) new i)) vis

/-- The state in which the work of the running blocks is done: their values `live` in the registers. -/
def runningFrom (live : List (Nat × List (Nat × Nat))) (s : State) : State := { putCols live s with hold := .shown (runningCols s) }

/-- The state after work that began with the values `live` and left `s`: the running values set aside again, and the fields that
showed `vis` showing what changed. -/
def runningTo (live vis : List (Nat × List (Nat × Nat))) (s : State) : State :=
  let new := runningCols s
  let cols := runningFields.map (fun g => (g.id, shownCol g (mget [] live g.id) (mget [] new g.id) (mget [] vis g.id)))
  { putCols cols s with hold := .hidden new }

/-- Run `f` with the running values in the registers. A step that ends in a MODULE or an IMAGE reset settles for itself what they show. -/
def running (f : State → State) (s : State) : State :=
  match s.hold with
  | .hidden live =>
    let u := f (runningFrom live s)
    match u.hold with
    | .shown vis => runningTo live vis u
    | _ => u
  | _ => f s

/-- What a read meets: the fields of the running blocks as they show. -/
def asShown (s : State) : State := match s.hold with | .shown vis => putCols vis s | _ => s

/-- Return every field of the domains to its reset value, but for those of `keep` (R16). -/
def resetExcept (ds : List Dom) (keep : List Fld) (s : State) : State :=
  let old := s
  forEach keep (fun f s => putCol f (colOf f old) s) (resetDomains ds s)

/-- A MODULE reset has been made in this step: the fields of the running blocks show their reset values from its end on. -/
def hideRunning (s : State) : State :=
  match s.hold with
  | .reset => { putCols [] s with hold := .hidden (runningCols s) }
  | _ => s

end Sys2Proof.Machine
end

