-- ==== Sys2Proof/Machine/Formats.lean ====
section
/-! DEFINITION. Formats, rates, frame periods and timing planes: the codes of R141, the table of R142, membership of a plane
(R139), sizes of frames (R179), and the points that follow from a plane (R137, R142, R448, R452). -/

namespace Sys2Proof.Machine

/-! ### Rates -/

/-- A frame rate code of R141 as a fraction of frames per second. -/
def rateFrac (code : Nat) : Nat × Nat :=
  match code with
  | 0x01 => (24000, 1001)
  | 0x02 => (24, 1)
  | 0x03 => (25, 1)
  | 0x04 => (30000, 1001)
  | 0x05 => (30, 1)
  | 0x06 => (50, 1)
  | 0x07 => (60000, 1001)
  | 0x08 => (60, 1)
  | 0x09 => (100, 1)
  | 0x0A => (120000, 1001)
  | 0x0B => (120, 1)
  | _ => (25, 1)

/-- The rate belongs to the 1000/1001 family (R447). -/
def rate1001 (code : Nat) : Bool := (rateFrac code).2 != 1

/-- A frame period in units of 2^-16 ns, rounded down. -/
def framePeriod (code : Nat) : Nat := secUnit * (rateFrac code).2 / (rateFrac code).1

/-- `a` frames per second are `k` times `b` frames per second, for k = 1, 2 or 4; 0 for none of these. -/
def rateRatio (a b : Nat) : Nat :=
  let (an, ad) := rateFrac a
  let (bn, bd) := rateFrac b
  if an * bd = bn * ad then 1 else if an * bd = 2 * (bn * ad) then 2 else if an * bd = 4 * (bn * ad) then 4 else 0

/-! ### Formats (R141, R142) -/

def fmtFamily (f : Nat) : Nat := f / 32
def fmtRate (f : Nat) : Nat := f % 32

/-- The format code is a row of the table of R142. -/
def fmtValid (f : Nat) : Bool :=
  let r := fmtRate f
  match fmtFamily f with
  | 1 => 1 ≤ r && r ≤ 0x0B
  | 2 => r == 3 || r == 4 || r == 5
  | 3 => 1 ≤ r && r ≤ 5
  | 4 => 1 ≤ r && r ≤ 0x0B
  | 5 => 1 ≤ r && r ≤ 8
  | _ => false

/-- Slot rate that carries a format (R142): 0 1.5G, 1 3G, 2 6G, 3 12G. -/
def slotRate (f : Nat) : Nat :=
  let r := fmtRate f
  match fmtFamily f with
  | 1 => if r ≤ 5 then 0 else if r ≤ 8 then 1 else 2
  | 4 => if r ≤ 8 then 0 else 1
  | 5 => if r ≤ 5 then 2 else 3
  | _ => 0

/-- Interface lines per frame (R142). -/
def fmtLines (f : Nat) : Nat := if fmtFamily f = 4 then 750 else 1125

def fmtWidth (f : Nat) : Nat := match fmtFamily f with | 4 => 1280 | 5 => 3840 | _ => 1920
def fmtHeight (f : Nat) : Nat := match fmtFamily f with | 4 => 720 | 5 => 2160 | _ => 1080

/-- 1080i and 1080PsF: two fields or segments a frame. -/
def isInterlaced (f : Nat) : Bool := fmtFamily f = 2 || fmtFamily f = 3

/-- A rate is allowed in a slot of a slot mode (R112): mode m carries slot rates up to 3 - m. -/
def rateAllowed (rate mode : Nat) : Bool := rate + mode ≤ 3

/-- Nominal interface byte rate of a slot rate, in units of 0.000625 GB/s (R184): 0.185625 GB/s is 297. -/
def byteRate (f : Nat) : Nat := 297 * 2 ^ slotRate f

/-- Total samples per line and total lines of a head's raster (R219). -/
def fmtTotals (f : Nat) : Nat × Nat :=
  let r := fmtRate f
  match fmtFamily f with
  | 4 =>
    (if r ≤ 2 then 4125 else if r = 3 then 3960 else if r ≤ 5 then 3300 else if r = 6 || r = 9 then 1980 else 1650, 750)
  | 5 => (if r ≤ 2 then 5500 else if r = 3 || r = 6 then 5280 else 4400, 2250)
  | _ => (if r ≤ 2 then 2750 else if r = 3 || r = 6 || r = 9 then 2640 else 2200, 1125)

/-- Pixels per frame period, blanking included (R219); the pixel rate is this times the frame rate. -/
def fmtPixels (f : Nat) : Nat := (fmtTotals f).1 * (fmtTotals f).2

/-- Pages a frame slot of a format occupies (R179). -/
def ceilDiv (a b : Nat) : Nat := (a + b - 1) / b

def picturePages (f : Nat) : Nat := ceilDiv (fmtWidth f * fmtHeight f * 2 * 10 / 8) 65536

/-- Bytes per second of the ancillary area. -/
def ancRate (f : Nat) : Nat := if slotRate f = 0 then 3200000 else 6400000

def ancBytes (f : Nat) : Nat := ancRate f * (rateFrac (fmtRate f)).2 / (rateFrac (fmtRate f)).1

def ancPages (f : Nat) : Nat := ceilDiv (ancRate f * (rateFrac (fmtRate f)).2) (65536 * (rateFrac (fmtRate f)).1)

def framePages (f : Nat) : Nat := picturePages f + ancPages f

/-! ### Timing planes -/

def planeEnabled (p : Nat) (s : State) : Bool := getB PIP_PLANE_CFG.ENABLED p s
def planeRate (p : Nat) (s : State) : Nat := getF PIP_PLANE_CFG.RATE p s
def planePeriod (p : Nat) (s : State) : Nat := framePeriod (planeRate p s)
def planeSt (p : Nat) (s : State) : PlaneSt := mget {} s.time.planes p
def setPlane (p : Nat) (f : PlaneSt → PlaneSt) (s : State) : State :=
  { s with time := { s.time with planes := mmod {} s.time.planes p f } }

/-- Enabled planes in rising order. -/
def planesOn (s : State) : List Nat := (List.range 8).filter (fun p => planeEnabled p s)

/-- A format belongs to a plane (R139). -/
def belongs (f p : Nat) (s : State) : Bool := fmtValid f && rateRatio (fmtRate f) (planeRate p s) != 0

/-- ST 2059-1 count at a local time: the number of whole frame periods since the epoch, at the plane's offset (R448, R452). -/
def countSt2059 (rate offNs localT : Nat) : Nat :=
  (localT - offNs * nsUnit) * (rateFrac rate).1 / ((rateFrac rate).2 * secUnit)

/-- Local time of the ST 2059-1 boundary number `n`, rounded up to a unit. -/
def timeSt2059 (rate offNs n : Nat) : Nat :=
  offNs * nsUnit + ceilDiv (n * (rateFrac rate).2 * secUnit) (rateFrac rate).1

/-- Frame count that plane `p` will have reached at module time `x`, as its boundaries run now. -/
def countAt (p x : Nat) (s : State) : Nat :=
  getF PIP_PLANE_COUNT.COUNT p s + (x - (planeSt p s).boundary) / max 1 (planePeriod p s)

/-- Module time (may lie in the past) of the boundary at which the frame count of `p` becomes `n`. -/
def boundaryOf (p n : Nat) (s : State) : Int :=
  (planeSt p s).boundary + ((n : Int) - getF PIP_PLANE_COUNT.COUNT p s) * planePeriod p s

/-- The first time at or after `x` that is `base` plus whole periods. -/
def firstAt (base period : Nat) (x : Int) : Int := base + ((x - base + period - 1) / period) * period

/-- An instant that the planes or local time give is now: times of commands are taken to the nanosecond (log entry 2). -/
def atInstant (x : Nat) (s : State) : Bool := x ≤ s.now && s.now < x + nsUnit

/-- Frames and audio blocks of a sequence at a plane rate (R453). -/
def audioSeq (rate : Nat) : Nat × Nat :=
  match rate with
  | 0x01 => (8, 1001)
  | 0x02 => (1, 125)
  | 0x03 => (1, 120)
  | 0x04 => (10, 1001)
  | 0x05 => (1, 100)
  | 0x06 => (1, 60)
  | 0x07 => (20, 1001)
  | _ => (1, 50)

/-- A block boundary of the audio plane is now: the blocks divide each frame as it runs, slewing or not, and a sequence starts where the
frame count is a multiple of its length (R453). -/
def planeBlock (p : Nat) (s : State) : Bool :=
  let (l, b) := audioSeq (planeRate p s)
  let x := planeSt p s
  let f := getF PIP_PLANE_COUNT.COUNT p s % l
  (List.range 127).any (fun j =>
    let k := ceilDiv (f * b) l + j
    k * l < (f + 1) * b && atInstant (x.boundary + ceilDiv ((k * l - f * b) * (x.next - x.boundary)) b) s)

/-- A boundary of the 1/3000 s grid of local time, of which one falls at each whole millisecond, is now (R29). -/
def gridBlock (s : State) : Bool :=
  let x := localTime s
  x - ceilDiv (x * 3000 / secUnit * secUnit) 3000 < nsUnit

/-- An audio block boundary is now: on the audio plane, or on the grid where no image enables a plane (R29, R453). -/
def blockFallsNow (s : State) : Bool :=
  let v := asShown s
  if planesOn v = [] then gridBlock s else planeBlock (getF AUD_CFG.AUDIO_PLANE 0 v) s

/-- T_out of R137: 8 µs plus the fixed pipeline delay. -/
def tOut (s : State) : Nat := (8000 + getF XPT_INFO.PIPE_NS 0 s) * nsUnit

/-- A second of local time begins. -/
def secondInstant (s : State) : Bool := localTime s % secUnit < nsUnit

/-- A lane block of 1024 symbols at 15.0 GBd lasts 682.67 ns. -/
def blockUnits : Nat := ceilDiv (2048 * nsUnit) 3

/-- Arm deadlines lie 100 µs before their point (R46). -/
def armLead : Nat := 100 * usUnit

/-! ### When commit points fall due (R46, R160, R543, R544) -/

/-- Untimed: the first point whose arm deadline lies at least 50 µs after acceptance. -/
def dueUntimed (now : Nat) : Due := { notBefore := now + armLead + 50 * usUnit }

/-- A point at module time `x` qualifies. -/
def Due.reached (d : Due) (x : Nat) (s : State) : Bool :=
  d.notBefore ≤ x
  && (match d.at_ with | some a => a ≤ toLocal x s | none => true)
  && (match d.frame with | some (p, n) => n ≤ countAt p x s | none => true)

/-- The module time from which a timed command's points count, before the arm deadline is looked at. -/
def Due.execAt (d : Due) (s : State) : Option Int :=
  match d.at_, d.frame with
  | some a, _ => some ((a : Int) - s.timeOff)
  | none, some (p, n) => some (boundaryOf p n s)
  | none, none => none

/-- A timed command is late at `now` when the first of its points at or after its execute-at point has an arm deadline that has
passed (R544); the points run at `base` plus whole periods. -/
def Due.late (d : Due) (base period now : Nat) (s : State) : Bool :=
  match d.execAt s with
  | some x => firstAt base period x - armLead < now
  | none => false

end Sys2Proof.Machine
end

