-- ==== Sys2Proof/Machine/Store.lean ====
section
/-! DEFINITION. Self-diagnosis (R505), the persistent store's wear, spare rows and failures (R624, R630, R631), and the audit log
(R649 to R651). -/

namespace Sys2Proof.Machine

def setTwin (f : TwinState → TwinState) (s : State) : State := { s with twin := f s.twin }
def setPst (f : PstState → PstState) (s : State) : State := { s with pst := f s.pst }
def setSec (f : SecState → SecState) (s : State) : State := { s with sec := f s.sec }
def setCmd (f : CmdState → CmdState) (s : State) : State := { s with cmd := f s.cmd }
def setBoot (f : BootState → BootState) (s : State) : State := { s with boot := f s.boot }
def setXpt (f : XptState → XptState) (s : State) : State := { s with xpt := f s.xpt }

/-! ### Self-diagnosis (R505) -/

/-- Rows of the table of R505. -/
def diagLockstep : Nat := 0
def diagWatchdog : Nat := 1
def diagSram : Nat := 2
def diagStack : Nat := 3
def diagStore : Nat := 4
def diagClock : Nat := 5
def diagLanes : Nat := 6
def diagThermal : Nat := 7
def diagSniff : Nat := 8

/-- A self-diagnosis failure: FIT falls and the event sets. Whether a LEAD yields is judged by `settle`. -/
def setDiag (k : Nat) (s : State) : State :=
  s |> setTwin (fun w => { w with diag := w.diag ||| 2 ^ k }) |> setF TWN_STATUS.FIT 0 0 |> raise [TWN_EVT.DIAG_FAIL] 0

/-- The condition of row k is restored; FIT returns when no row is in force. -/
def clearDiag (k : Nat) (s : State) : State :=
  let s := setTwin (fun w => { w with diag := if w.diag.testBit k then w.diag - 2 ^ k else w.diag }) s
  if s.twin.diag = 0 && getB SYS_STATUS.READY 0 s then setF TWN_STATUS.FIT 0 1 s else s

/-! ### Rows of the store (R623) -/

def rowRoute (o : Nat) : Nat := o / 512
def rowLabel (x : Nat) : Nat := 32 + x / 128
def rowPref : Nat := 288
def rowJournal : Nat := 289
def rowShofarState : Nat := 354
def rowSecurity : Nat := 355
def rowAudit (aseq : Nat) : Nat := 363 + (aseq - 1) % 16384 / 64
def rowSpare (k : Nat) : Nat := 621 + k
def spareRows : Nat := 16

def wearWarn : Nat := 9000000000
def wearLimit : Nat := 10000000000

/-- The row of cells that holds row `r` (R631). -/
def cellRow (r : Nat) (s : State) : Nat := mget r s.pst.map r

/-- `n` stores into the cells of row `p`, which hold row `r`; each threshold is reported once (R630). -/
def wearBy (r p n : Nat) (s : State) : State :=
  let c := mget 0 s.pst.wear p
  let s := setPst (fun t => { t with wear := mput 0 t.wear p (c + n) }) s
  let s := if c < wearWarn && wearWarn ≤ c + n then
      let s := s |> raiseAs r [PST_EVT.WEAR_WARN] 0 |> setF PST_STATUS.WARN_ROWS 0 (getF PST_STATUS.WARN_ROWS 0 s + 1)
      if getB PST_WEAR_FIRST.VALID 0 s then s else s |> setF PST_WEAR_FIRST.VALID 0 1 |> setF PST_WEAR_FIRST.ROW 0 r
    else s
  if c < wearLimit && wearLimit ≤ c + n then raiseAs r [PST_EVT.WEAR_LIMIT] 0 s else s

def withBad (bad : List Nat) (f : State → State) (s : State) : State := f (setPst (fun p => { p with failing := bad }) s)

/-- The failure of a store: the word keeps its value (R631). -/
def storeFail (r : Nat) (s : State) : State :=
  s |> setF PST_STATUS.STORE_FAIL 0 1 |> raiseAs r [PST_EVT.STORE_FAIL] 0 |> setDiag diagStore

/-- Store `n` words of row `r`, whose new value `put` writes: the row is programmed and verified, a row that does not verify is
written into a spare row, and with no good spare row the store fails (R624, R630, R631). -/
def storeRow (r n : Nat) (put : State → State) (s : State) : State :=
  if n = 0 || s.pst.dead then s
  else
    let p := cellRow r s
    let s := wearBy r p n s
    if !s.pst.failing.contains p then put s
    else if s.pst.spares < spareRows && !s.pst.failing.contains (rowSpare s.pst.spares) then
      let q := rowSpare s.pst.spares
      s |> setPst (fun t => { t with map := mput r t.map r q, spares := t.spares + 1,
                                     wear := mput 0 t.wear q (mget 0 t.wear p) })
        |> setF PST_STATUS.SPARES_LEFT 0 (spareRows - (s.pst.spares + 1))
        |> raiseAs r [PST_EVT.REMAP] 0
        |> put
    else
      s |> setPst (fun t => { t with spares := if t.spares < spareRows then t.spares + 1 else t.spares })
        |> (fun s => setF PST_STATUS.SPARES_LEFT 0 (spareRows - s.pst.spares) s)
        |> storeFail r

/-- Store the descriptor of output slot `o` in PST_ROUTE when it differs (R164, R624). -/
def storeRoute (o src : Nat) (s : State) : State :=
  if getF PST_ROUTE.SOURCE o s = src then s else storeRow (rowRoute o) 1 (setF PST_ROUTE.SOURCE o src) s

/-- What the PREF row holds (R628). -/
def prefRow (s : State) : List (List (Nat × Nat)) :=
  [PIP_REF_CFG.PRIO, PIP_REF_CFG.LOCKOUT, TWN_EPOCH.EPOCH, PST_STATUS.LAST_ROLE, SYS_IMG_BOOT.PREFER].map (fun f => mget [] s.regs f.id)
    ++ [[(b2n s.pst.prefValid, s.pst.refDigest), (s.pst.pairId, 0)], s.pst.prefPrio, s.pst.prefLockout]

/-- Store something of the PREF row; a write that leaves it as it is makes no store (R624, R628). -/
def storePref (put : State → State) (s : State) : State := if prefRow (put s) = prefRow s then put s else storeRow rowPref 1 put s

/-- Words of row `r` that a read corrects are rewritten and counted (R632). -/
def correctedReads (r n : Nat) (s : State) : State :=
  s |> storeRow r n id |> bump32By PST_CORR.COUNT PST_EVT.CORR_OVF 0 n

/-- An uncorrectable word of row `r`, met by a sniff cycle: the next bring-up repairs the row (R632). -/
def rowError (r : Nat) (s : State) : State :=
  s |> raiseAs r [PST_EVT.ROW_ERR] 0 |> setPst (fun p => { p with errRows := if p.errRows.contains r then p.errRows else r :: p.errRows })

/-! ### The key store (R634) -/

/-- State of a key slot: 0 EMPTY, 1 ACTIVE, 2 REVOKED. -/
def keyState (k : Nat) (s : State) : Nat := getF SEC_KEYS.SLOTS 0 s / 4 ^ k % 4
def keyActive (k : Nat) (s : State) : Bool := keyState k s == 1

/-- The public key in a slot: one that KEY_SET installed, or one the module was made with. -/
def keyBytes (k : Nat) (s : State) : List Byte := mget (Config.factoryKey k) s.sec.keys k

/-- A signature verifies with the key of an ACTIVE slot. -/
def signedBy (k : Nat) (body sig : List Byte) (s : State) : Bool := keyActive k s && Config.ecdsaVerify (keyBytes k s) body sig

/-- The evaluated configuration is fixed: always on a WX2048-AE (R6, R646). -/
def evalFixed (s : State) : Bool := getB SEC_STATUS.EVAL_FIXED 0 s || getB SYS_INFO.AE 0 s

def setShf (f : ShofarState → ShofarState) (s : State) : State := { s with shf := f s.shf }
def setCmp (f : CmpState → CmpState) (s : State) : State := { s with cmp := f s.cmp }

/-! ### The audit log (R649 to R651) -/

/-- Bytes 0 to 31 of a record. -/
def AuditRec.head (r : AuditRec) : List Byte :=
  leBytes 8 r.aseq ++ leBytes 6 r.sec ++ leBytes 4 r.ns ++ leBytes 2 r.code ++ leBytes 1 r.status
    ++ (r.arg ++ List.replicate (11 - r.arg.length) 0#8).take 11

def AuditRec.bytes (r : AuditRec) : List Byte := r.head ++ r.chain

/-- CHAIN before record 1. -/
def zeroChain : List Byte := List.replicate 32 0#8

def auditCap : Nat := 16384

/-- Append a chained record and post its event (R650, R651). -/
def audit (code status : Nat) (arg : List Byte) (s : State) : State :=
  let n := getF SEC_AUDIT_NEW.ASEQ 0 s + 1
  let prev := match s.sec.audit with | r :: _ => r.chain | [] => zeroChain
  let r : AuditRec := { aseq := n, sec := timeSec (localTime s), ns := timeNs (localTime s), code := code, status := status,
                        arg := arg.take 11 }
  let r := { r with chain := (Config.sha384 (prev ++ r.head)).take 32 }
  let put (s : State) : State :=
    s |> setSec (fun c => { c with audit := (r :: c.audit).take auditCap })
      |> setF SEC_AUDIT_NEW.ASEQ 0 n
      |> setF SEC_AUDIT_OLD.ASEQ 0 (if n ≤ auditCap then 1 else n - auditCap + 1)
  s |> storeRow (rowAudit n) 8 put |> post 0x1D code (n % 2 ^ 32)

end Sys2Proof.Machine
end

