-- ==== Sys2Proof/Machine/TwinMsgs.lean ====
section
/-! DEFINITION. CRC-32, the header of twin messages (R491), sending them, and the bark a module sends (R490, R493, R495). -/

namespace Sys2Proof.Machine

/-! ### CRC-32 of IEEE 802.3 -/

def crc32Bit (c : Word32) : Word32 := if c.getLsbD 0 then (c >>> 1) ^^^ 0xEDB88320#32 else c >>> 1

def crc32Byte (c : Word32) (b : Byte) : Word32 :=
  crc32Bit (crc32Bit (crc32Bit (crc32Bit (crc32Bit (crc32Bit (crc32Bit (crc32Bit (c ^^^ b.setWidth 32))))))))

def crc32 (bs : List Byte) : Nat := (~~~ (bs.foldl crc32Byte 0xFFFFFFFF#32)).toNat

/-! ### Messages (R491) -/

def TwinMsg.kind : TwinMsg → Nat
  | .mirror _ => 1
  | .mirrorAck _ => 2
  | .commitRpt _ _ => 3
  | .decision _ => 4
  | .health _ => 5
  | .resyncReq _ => 6
  | .state _ _ => 7
  | .stateAck _ => 8
  | .resyncAck _ => 9

def TwinMsg.mseq : TwinMsg → Nat
  | .mirror m => m.mseq
  | .mirrorAck n => n
  | .commitRpt n _ => n
  | .decision _ => 0
  | .health _ => 0
  | .resyncReq n => n
  | .state n _ => n
  | .stateAck n => n
  | .resyncAck n => n

/-- Body length as far as the manual lays the body down: a MIRROR carries at least the 64-byte entry and what the DMA read, a
HEALTH message the 64-byte record; the other bodies' layouts are not given (log entry 7). -/
def TwinMsg.bodyLen : TwinMsg → Nat
  | .mirror m => m.raw.length + m.data.length
  | .health r => r.length
  | _ => 0

/-- The 16-byte header. -/
def TwinMsg.header (m : TwinMsg) : List Byte :=
  let h := leBytes 1 m.kind ++ leBytes 3 m.bodyLen ++ leBytes 8 m.mseq
  h ++ leBytes 4 (crc32 h)

/-! ### Lane states (R87) -/

def stGated : Nat := 0
def stDeep : Nat := 1
def stWake : Nat := 2
def stFast : Nat := 3
def stLock : Nat := 4
def stAlign : Nat := 5
def stEq : Nat := 6
def stConfirm : Nat := 7
def stBackoff : Nat := 8
def stNoPartner : Nat := 9
def stProbe : Nat := 10
def stActive : Nat := 11
def stIdle : Nat := 12

/-- First of the eight twin-link lanes in the lane tables. -/
def twinLane0 : Nat := 2048
def twinLanes : List Nat := (List.range 8).map (· + twinLane0)

/-- Twin lanes whose transmitter is ACTIVE. -/
def twinTxLanes (s : State) : List Nat := twinLanes.filter (fun n => getF LNO_STATUS.STATE n s == stActive)

/-- Send a message on the twin link; without an ACTIVE twin lane, or while the watchdog's hardware yield lasts, nothing is
sent (R491, R506). -/
def sendTwin (m : TwinMsg) (s : State) : State :=
  if twinTxLanes s = [] || s.twin.hardware then s else emit (.twin m.header m) s

/-- Send a message that is retransmitted until it is acknowledged (R492). -/
def sendAcked (m : TwinMsg) (s : State) : State :=
  s |> setTwin (fun w => { w with unacked := w.unacked ++ [(m, s.now)] }) |> sendTwin m

/-! ### Barks -/

def roleInit : Nat := 0
def roleLead : Nat := 1
def roleHeel : Nat := 2
def roleYielded : Nat := 3

def kindBark : Nat := 1
def kindYield : Nat := 2
def kindBoot : Nat := 3

def role (s : State) : Nat := getF TWN_STATUS.ROLE 0 s

/-- Seconds (48 bits) and nanoseconds (32 bits) of a time in ns, 10 bytes. -/
def timeBytes (ns : Nat) : List Byte := leBytes 6 (ns / 1000000000) ++ leBytes 4 (ns % 1000000000)

def localNs (s : State) : Nat := localTime s / nsUnit

/-- Bytes 0 to 59 of a bark sent now on a path (0 twin link, 1 WATCH), with its kind. ECHO fields are 0 on WATCH (R493). -/
def barkBody (kind path : Nat) (s : State) : List Byte :=
  let st (f : Fld) := getF f 0 s
  let boot := kind == kindBoot
  let flags := (if boot then 0 else st TWN_STATUS.CLAIM) + 2 * st TWN_STATUS.FIT + 4 * st TWN_STATUS.STALE
    + 8 * st TWN_CTL.FEED_BOTH + 16 * st TWN_STATUS.LINK_UP + 32 * st TWN_STATUS.WATCH_UP + 64 * st TWN_STATUS.SIDE_B
  leBytes 1 1 ++ leBytes 1 kind ++ leBytes 1 (if boot then roleInit else role s) ++ leBytes 1 flags
    ++ leBytes 4 s.twin.bseq
    ++ leBytes 6 (if boot then (if s.boot.prefRead then s.pst.pairId else 0) else st TWN_PAIR_ID.ID)
    ++ leBytes 1 (st SHF_CONTACT.A_OWN + 4 * st SHF_CONTACT.B_OWN)
    ++ leBytes 1 (st TWN_STATUS.SYNC)
    ++ leBytes 4 (if boot && !s.boot.prefRead then 0 else st TWN_EPOCH.EPOCH)
    ++ leBytes 2 (st TWN_EVID.ELIG) ++ leBytes 2 (st TWN_EVID.OWN)
    ++ timeBytes (localNs s)
    ++ (if path = 0 then timeBytes s.twin.echoTx ++ timeBytes s.twin.echoRx else List.replicate 20 0#8)
    ++ leBytes 6 (st TWN_MSEQ.MSEQ)

/-- A whole bark (R495). -/
def barkBytes (kind path : Nat) (s : State) : List Byte :=
  let b := barkBody kind path s
  b ++ leBytes 4 (crc32 b)

/-- What goes out on a path: on WATCH a frame of 7 bytes of 0x55, then 0xD5, then the bark (R493). -/
def barkFrame (kind path : Nat) (s : State) : List Byte :=
  (if path = 1 then List.replicate 7 0x55#8 ++ [0xD5#8] else []) ++ barkBytes kind path s

/-- The bark that 64 bytes carry, when its version and CRC are right. -/
def parseBark (b : List Byte) : Option Bark :=
  if b.length = 64 && leAt b 60 4 == crc32 (b.take 60) && leAt b 0 1 == 1 then
    let ns (off : Nat) := leAt b off 6 * 1000000000 + leAt b (off + 6) 4
    some { kind := leAt b 1 1, role := leAt b 2 1, claim := bit (leAt b 3 1) 0, fit := bit (leAt b 3 1) 1,
           feedBoth := bit (leAt b 3 1) 3, bseq := leAt b 4 4, pairId := leAt b 8 6, contacts := leAt b 14 1 % 16,
           sync := leAt b 15 1, epoch := leAt b 16 4, elig := leAt b 20 2, own := leAt b 22 2,
           txTime := ns 24, echoTx := ns 34, echoRx := ns 44, mseq := leAt b 54 6 }
  else none

end Sys2Proof.Machine
end

