-- ==== Sys2Proof/Machine/Complete.lean ====
section
/-! DEFINITION. Completions: their layout, the completion rings, open commands and when they complete (R47, R52, R537, R541,
R542, R546 to R548, R556, R557). -/

namespace Sys2Proof.Machine

/-- Status codes (R547). -/
def stOk : Nat := 0x00
def stSolo : Nat := 0x01
def stLate : Nat := 0x02
def stSuperseded : Nat := 0x03
def stAborted : Nat := 0x04
def stBadOpcode : Nat := 0x10
def stBadEntry : Nat := 0x11
def stTagInUse : Nat := 0x12
def stNotLead : Nat := 0x13
def stDenied : Nat := 0x14
def stTooLate : Nat := 0x15
def stCount : Nat := 0x16
def stListFault : Nat := 0x17
def stDuplicate : Nat := 0x18
def stBadOutput : Nat := 0x20
def stBadSource : Nat := 0x21
def stSafetySource : Nat := 0x22
def stNoKennel : Nat := 0x23
def stRate : Nat := 0x24
def stBadAlloc : Nat := 0x28
def stClass : Nat := 0x29
def stBadIndex : Nat := 0x2A
def stFormat : Nat := 0x2B
def stBusy : Nat := 0x2C
def stNoFrame : Nat := 0x2D
def stBadEngine : Nat := 0x30
def stBadRecord : Nat := 0x31
def stSafetyLayer : Nat := 0x32
def stGeometry : Nat := 0x33
def stScale : Nat := 0x34
def stLinebuf : Nat := 0x35
def stLoad : Nat := 0x36
def stSize : Nat := 0x38
def stAuth : Nat := 0x39
def stIdentity : Nat := 0x3A
def stRollback : Nat := 0x3B
def stShofarActive : Nat := 0x3C
def stReplay : Nat := 0x3D
def stExpired : Nat := 0x3E
def stNoBundle : Nat := 0x3F
def stBadMessage : Nat := 0x40
def stBadSlot : Nat := 0x44
def stBadRing : Nat := 0x45
def stWriter : Nat := 0x46
def stLatency : Nat := 0x47
def stLength : Nat := 0x48
def stBadContext : Nat := 0x4C
def stBadPort : Nat := 0x4D
def stConflict : Nat := 0x4E
def stHold : Nat := 0x4F
def stImage : Nat := 0x50

/-- Qualifier bits (R546). -/
def qFallback : Nat := 1
def qUnsync : Nat := 2
def qFmt : Nat := 4
def qWake : Nat := 8
def qLate : Nat := 16

/-! ### Completion rings -/

/-- Entries of a ring whose SIZE_LOG2 is `n`: 4 to 12, other values act as 12 (R566). -/
def ringSize (n : Nat) : Nat := 2 ^ (if 4 ≤ n ∧ n ≤ 12 then n else 12)

def cqSize (r : Nat) (s : State) : Nat := ringSize (getF HIF_CQ_CFG.SIZE_LOG2 r s)
def sqSize (r : Nat) (s : State) : Nat := ringSize (getF HIF_SQ_CFG.SIZE_LOG2 r s)

/-- One entry stays free, so that a full ring differs from an empty one (R537; log entry 8). -/
def cqFull (r : Nat) (s : State) : Bool :=
  (getF HIF_CQ_TAIL.TAIL r s + 1) % cqSize r s == getF HIF_CQ_HEAD.HEAD r s % cqSize r s

/-- The 32 bytes of a completion entry (R546). -/
def Cpl.bytes (c : Cpl) (phase : Nat) : List Byte :=
  leBytes 2 c.tag ++ leBytes 2 (c.entry % 4096 + 32768 * phase) ++ leBytes 1 c.status ++ leBytes 1 c.qual
    ++ leBytes 1 c.opcode ++ leBytes 1 0 ++ leBytes 4 c.detail0 ++ leBytes 4 c.detail1 ++ leBytes 6 c.sec ++ leBytes 2 0
    ++ leBytes 4 c.ns ++ leBytes 4 c.mseq

/-- A completion of ring `r` is waiting: signal at COAL_N of them, or at each when COAL_US is 0 (R556). -/
def coalesce (r : Nat) (s : State) : State :=
  let w := mget (0, 0) s.coal r
  let n := w.1 + 1
  if getF HIF_CQ_CFG.COAL_US r s = 0 || max 1 (getF HIF_CQ_CFG.COAL_N r s) ≤ n then
    signal r { s with coal := mput (0, 0) s.coal r (0, 0) }
  else { s with coal := mput (0, 0) s.coal r (n, if w.1 = 0 then s.now else w.2) }

/-- Write a completion at the tail with the phase bit, which inverts when the tail wraps (R537). -/
def writeCpl (c : Cpl) (s : State) : State :=
  let t := getF HIF_CQ_TAIL.TAIL c.ring s
  let ph := getF HIF_CQ_TAIL.PHASE c.ring s
  let t' := (t + 1) % cqSize c.ring s
  s |> emit (.hostWrite (getF HIF_CQ_BASE.ADDR c.ring s + 32 * t) (c.bytes ph))
    |> setF HIF_CQ_TAIL.TAIL c.ring t'
    |> setF HIF_CQ_TAIL.PHASE c.ring (if t' = 0 then 1 - ph else ph)
    |> coalesce c.ring

/-- Post a completion, or hold it back behind the ring's held ones, a full ring, D3hot or the wait for READY. -/
def postCpl (c : Cpl) (s : State) : State :=
  if canPost s && !cqFull c.ring s && !s.cplHeld.any (fun h => h.ring == c.ring) then writeCpl c s
  else { s with cplHeld := s.cplHeld ++ [c] }

/-- Post the first held completion of ring `r` when there is room. -/
def releaseOne (r : Nat) (s : State) : State :=
  match s.cplHeld.find? (fun h => h.ring == r) with
  | none => s
  | some c => if canPost s && !cqFull r s then writeCpl c { s with cplHeld := s.cplHeld.erase c } else s

/-- Post the held completions of ring `r`, in the order in which they arose, while there is room (R537). -/
def releaseHeld (r : Nat) (s : State) : State := (List.range s.cplHeld.length).foldl (fun s _ => releaseOne r s) s

/-! ### Open commands -/

/-- Commands that hold an open slot: those not completed and those whose completion is held back (R542). A mirror holds none. -/
def openSlots (s : State) : Nat := (s.cmd.opens.filter (fun c => !c.mirror)).length + s.cplHeld.length

def openSlotsOf (r : Nat) (s : State) : Nat :=
  (s.cmd.opens.filter (fun c => !c.mirror && c.ring == r)).length + (s.cplHeld.filter (fun c => c.ring == r)).length

def findCmd (uid : Nat) (s : State) : Option OpenCmd := s.cmd.opens.find? (fun c => c.uid == uid)

def modCmd (uid : Nat) (f : OpenCmd → OpenCmd) (s : State) : State :=
  setCmd (fun m => { m with opens := m.opens.map (fun c => if c.uid = uid then f c else c) }) s

/-- The status of a command that ends now (R547, R548). -/
def OpenCmd.status (c : OpenCmd) : Nat :=
  if c.failed != 0 then c.failed else if c.aborted then stAborted else if c.superseded then stSuperseded
  else if c.solo && !c.feedBoth then stSolo else if c.late then stLate else stOk

/-- Every condition of its completion holds: its members have committed or been superseded, and HEEL has reported or the SOLO condition
has arisen (R52). -/
def OpenCmd.ready (c : OpenCmd) : Bool :=
  c.left == 0 && c.waits == [] && (c.mirror || !c.mirrored || c.reported || c.solo || c.aborted || c.failed != 0)

def OpenCmd.cpl (c : OpenCmd) : Cpl :=
  { ring := c.ring, tag := c.tag, entry := c.entry, status := c.status,
    qual := c.qual ||| (if c.late then qLate else 0), opcode := c.opcode, detail0 := c.detail0, detail1 := c.detail1,
    sec := timeSec (c.commitAt.getD 0), ns := timeNs (c.commitAt.getD 0), mseq := c.mseq % 2 ^ 32 }

/-- A command of opcode 0x10 or 0x11 that ends with a status of 0x10 or above counts in XPT_REFUSE_CNT (R168). -/
def countRefused (opcode status : Nat) (s : State) : State :=
  if (opcode == 0x10 || opcode == 0x11) && 0x10 ≤ status then bump32 XPT_REFUSE_CNT.COUNT XPT_CNT_FLAGS.REFUSE_OVF 0 s else s

/-- A completed command: its slot closes, fences that waited for it no longer do, and the completion is posted, or on HEEL the
commit is reported. -/
def finishCmd (c : OpenCmd) (s : State) : State :=
  let s := setCmd (fun m => { m with opens := (m.opens.filter (fun d => d.uid != c.uid)).map
                                       (fun d => { d with waits := d.waits.erase c.uid }) }) s
  let s := setTwin (fun w => { w with unacked := w.unacked.filter (fun u => match u.1 with | .mirror m => m.mseq != c.mseq | _ => true) }) s
  if c.mirror then
    if role s = roleHeel then
      s |> setF TWN_MSEQ.MSEQ 0 (max (getF TWN_MSEQ.MSEQ 0 s) c.mseq) |> sendTwin (.commitRpt c.mseq true)
    else s
  else
    let s := countRefused c.opcode c.status s
    let s := if c.status = stSolo then
        s |> bump32F TWN_SOLO_CNT.COUNT TWN_CNT_FLAGS.OVF 5 0 1 |> raise [TWN_EVT.SOLO] 0
      else s
    if c.drop then bump32 HIF_DROP_CPL.COUNT HIF_CNT_FLAGS.DROP_OVF 0 s else postCpl c.cpl s

def finishOne (s : State) : State :=
  match s.cmd.opens.find? OpenCmd.ready with
  | some c => finishCmd c s
  | none => s

/-- Complete every command whose conditions hold. -/
def finishReady (s : State) : State := (List.range s.cmd.opens.length).foldl (fun s _ => finishOne s) s

/-- A member of command `uid` has committed at module time `t`, with qualifiers `q`. For a SALVO the members that committed
with FALLBACK and with UNSYNC are counted (R161). -/
def memberDone (uid t q : Nat) (s : State) : State :=
  modCmd uid (fun c => { c with
    left := c.left - 1, qual := c.qual ||| q, commitAt := some (toLocal t s),
    solo := c.solo || (c.mirrored && (match c.acked with | none => true | some a => t < a + armLead)),
    detail0 := if c.opcode = 0x11 && bit q 0 then c.detail0 + 1 else c.detail0,
    detail1 := if c.opcode = 0x11 && bit q 1 then c.detail1 + 1 else c.detail1 }) s

/-- A member of a command that has no commit point has ended: SOLO is not judged by an acknowledgement, and the completion shows no
time (R546). -/
def memberEnd (uid : Nat) (s : State) : State := modCmd uid (fun c => { c with left := c.left - 1 }) s

/-- A command ends with a failure status, having changed nothing more. -/
def failCmd (uid status : Nat) (s : State) : State :=
  s |> modCmd uid (fun c => { c with failed := status, left := 0 }) |> finishReady

end Sys2Proof.Machine
end

