-- ==== Sys2Proof/Machine/Evidence.lean ====
section
/-! DEFINITION. Lanes and their slots as the evidence rules see them: state, assignment, sources of output slots, eligible lanes
(R54, R104, R135, R501, R502). -/

namespace Sys2Proof.Machine

def inLane (n : Nat) (s : State) : InLane := mget {} s.lane.inp n
def outLane (n : Nat) (s : State) : OutLane := mget {} s.lane.out n
def setIn (n : Nat) (f : InLane → InLane) (s : State) : State := { s with lane := { s.lane with inp := mmod {} s.lane.inp n f } }
def setOut (n : Nat) (f : OutLane → OutLane) (s : State) : State := { s with lane := { s.lane with out := mmod {} s.lane.out n f } }

def inState (n : Nat) (s : State) : Nat := getF LNI_STATUS.STATE n s
def outState (n : Nat) (s : State) : Nat := getF LNO_STATUS.STATE n s

/-- Lane of the twin link. -/
def isTwinLane (n : Nat) : Bool := twinLane0 ≤ n

def groupOf (n : Nat) : Nat := n / 16
def inAssigned (n : Nat) (s : State) : Bool := if isTwinLane n then n < twinLane0 + 8 else getB LNI_GRP_CFG.ENABLED (groupOf n) s
def outAssigned (n : Nat) (s : State) : Bool := if isTwinLane n then n < twinLane0 + 8 else getB LNO_GRP_CFG.ENABLED (groupOf n) s

/-- Raise lane events; the twin link's lanes have no event registers. -/
def raiseLane (fs : List Fld) (n : Nat) (s : State) : State := if isTwinLane n then s else raise fs n s

/-- An input or output slot that the lane's group and slot mode give (R104, R156). -/
def inUsed (i : Nat) (s : State) : Bool :=
  i / 8 < 2048 && getB LNI_GRP_CFG.ENABLED (i / 8 / 16) s && i % 8 < slotsOf (getF LNI_PAY_CFG.SLOT_MODE (i / 8) s)
def outUsed (o : Nat) (s : State) : Bool :=
  o / 8 < 2048 && getB LNO_GRP_CFG.ENABLED (o / 8 / 16) s && o % 8 < slotsOf (getF LNO_PAY_CFG.SLOT_MODE (o / 8) s)

/-! ### Sources of output slots (R135) -/

def srcKind (d : Nat) : Nat := d / 2 ^ 30
def outSrc (o : Nat) (s : State) : Nat := getF XPT_OUT_SRC.SOURCE o s
def isSafety (o : Nat) (s : State) : Bool := getB XPT_OUT_CFG.SAFETY o s
/-- The slot has a source other than NONE; a safety output always has (R27). -/
def outSourced (o : Nat) (s : State) : Bool := srcKind (outSrc o s) != 0 || isSafety o s

/-- Some slot of output lane `n` has a source other than NONE (R77, R117). -/
def laneSourced (n : Nat) (s : State) : Bool := (List.range 8).any (fun k => outUsed (8 * n + k) s && outSourced (8 * n + k) s)

/-! ### Evidence (R501, R502) -/

/-- Input lane `n` is eligible: it is ACTIVE and receiving valid blocks, the output lane of the same number is ACTIVE, and a slot
of that lane has a source. -/
def eligible (n : Nat) (s : State) : Bool :=
  n < 2048 && inState n s == stActive && !getB LNI_PAY_STATUS.PAY_LOSS n s && !(inLane n s).fresh && outState n s == stActive
    && laneSourced n s

def eligibleLanes (s : State) : List Nat := (indicesWhere LNI_STATUS.STATE (· == stActive) s).filter (fun n => eligible n s)

/-- The lane's last SIDE selects this module. -/
def selectsUs (n : Nat) (s : State) : Bool := getB LNI_PAY_STATUS.SIDE_A n s != getB TWN_STATUS.SIDE_B 0 s

def selectOwn (s : State) : Bool := getF TWN_EVID.ELIG 0 s < 2 * getF TWN_EVID.OWN 0 s
def selectTwin (s : State) : Bool := getF TWN_EVID.ELIG 0 s < 2 * (getF TWN_EVID.ELIG 0 s - getF TWN_EVID.OWN 0 s)

/-- Since when a condition has held without a break. -/
def since (c : Bool) (now : Nat) (old : Option Nat) : Option Nat := if c then (match old with | some x => some x | none => some now) else none

/-- Every assigned output lane is ACTIVE. -/
def assignedActive (s : State) : Bool :=
  (indicesWhere LNO_GRP_CFG.ENABLED (· == 1) s).all (fun g => (List.range 16).all (fun j => outState (16 * g + j) s == stActive))

/-- EVID_ELIG, EVID_OWN, the two times of R502 and the one of row 7 of R505 follow the lanes. -/
def updateEvidence (s : State) : State :=
  let ls := eligibleLanes s
  let s := s |> setF TWN_EVID.ELIG 0 ls.length |> setF TWN_EVID.OWN 0 (ls.filter (fun n => selectsUs n s)).length
  setTwin (fun w => { w with
    ownSince := since (selectOwn s) s.now w.ownSince, twinSince := since (selectTwin s) s.now w.twinSince,
    lanesSince := since (w.diag.testBit diagLanes && assignedActive s) s.now w.lanesSince }) s

end Sys2Proof.Machine
end

