-- ==== Sys2Proof/Machine/PitchSel.lean ====
section
/-! DEFINITION. The Pitch Pipe's choices: which reference the module clock follows, and which source local time follows (R438 to R445,
R456, R511). -/

namespace Sys2Proof.Machine

/-- QUAL codes (R468). The field holds the state that the monitors give; LOCKED_OUT is shown over it (log entry 29). -/
def qUnused : Nat := 0
def qAbsent : Nat := 1
def qDisqual : Nat := 2
def qWait : Nat := 3
def qQualified : Nat := 4
def qLockedOut : Nat := 5

def refTwin : Nat := 10
def refNone : Nat := 15

/-- STATE codes of PIP_STATUS (R465). -/
def pipFreeRun : Nat := 0
def pipLocked : Nat := 1
def pipTransition : Nat := 2
def pipHoldover : Nat := 3

def pipState (s : State) : Nat := getF PIP_STATUS.STATE 0 s
def selected (s : State) : Nat := getF PIP_STATUS.SELECTED 0 s

def setTime (f : TimeState → TimeState) (s : State) : State := { s with time := f s.time }

/-- A twin-link bark of the last 10 ms showed LEAD: the time code that TWIN needs (R437). -/
def leadCode (s : State) : Bool := s.twin.leadAt.any (fun x => s.now < x + 10 * msUnit)

/-- A module in LEAD, or with no twin, never selects TWIN (R440). -/
def twinAllowed (s : State) : Bool := role s != roleLead && getB TWN_STATUS.TWIN_PRESENT 0 s

/-- Input `n` is QUALIFIED, not locked out, and may be selected. -/
def refOk (n : Nat) (s : State) : Bool :=
  n < 11 && getB PIP_REF_CFG.USED n s && getF PIP_REF_STATUS.QUAL n s == qQualified && !getB PIP_REF_CFG.LOCKOUT n s
    && (n != refTwin || twinAllowed s)

/-- The input of lowest PRIO among some, the lower index winning a tie. -/
def bestOf (ns : List Nat) (s : State) : Option Nat :=
  ns.foldl (fun b n => match b with
    | none => some n
    | some m => if getF PIP_REF_CFG.PRIO n s < getF PIP_REF_CFG.PRIO m s then some n else some m) none

/-- The input that the normal rule takes (R440). -/
def normalRef (s : State) : Option Nat :=
  if role s = roleHeel && refOk refTwin s then some refTwin else bestOf ((List.range 11).filter (fun n => refOk n s)) s

/-- The input that FORCE_EN takes. -/
def forcedRef (s : State) : Option Nat :=
  if getB PIP_CTL.FORCE_EN 0 s && refOk (getF PIP_CTL.FORCE_REF 0 s) s then some (getF PIP_CTL.FORCE_REF 0 s) else none

/-- The input that R440 takes; a force stands before the rule for HEEL (log entry 29). -/
def chosenRef (s : State) : Option Nat := match forcedRef s with | some n => some n | none => normalRef s

/-- A choice that REVERT does not hold back: a forced input, or TWIN on a HEEL (R440, R441). -/
def mustMove (y : Nat) (s : State) : Bool := forcedRef s == some y || (role s == roleHeel && y == refTwin)

/-- Holdover, or FREE_RUN while no input has ever been selected and none is forced out (R440, R445). -/
def toHoldover (s : State) : State :=
  if !s.time.everSelected && !getB PIP_CTL.FORCE_HOLD 0 s then
    s |> setF PIP_STATUS.STATE 0 pipFreeRun |> setF PIP_STATUS.SELECTED 0 refNone |> setF PIP_STATUS.TARGET 0 refNone
  else if pipState s = pipHoldover then s
  else
    s |> setF PIP_STATUS.STATE 0 pipHoldover |> setF PIP_STATUS.SELECTED 0 refNone |> setF PIP_STATUS.TARGET 0 refNone
      |> raise [PIP_EVT.HOLDOVER] 0 |> bump32 PIP_HOLD_CNT.COUNT PIP_EVT.HOLD_OVF 0

/-- A transition to input `y` begins (R442). -/
def toTransition (y : Nat) (s : State) : State :=
  let free := pipState s == pipFreeRun || pipState s == pipHoldover || (pipState s == pipTransition && s.time.transFree)
  s |> setTime (fun x => { x with transAt := s.now, transFree := free })
    |> setF PIP_STATUS.STATE 0 pipTransition |> setF PIP_STATUS.TARGET 0 y
    |> (fun s => if refOk (selected s) s then s else setF PIP_STATUS.SELECTED 0 refNone s)

/-- The selector applies its rule (R440 to R443); `host` after a host write of PRIO, LOCKOUT or a FORCE field. -/
def reselect (host : Bool) (s : State) : State :=
  if getB PIP_CTL.FORCE_HOLD 0 s then toHoldover s
  else if pipState s = pipTransition && refOk (getF PIP_STATUS.TARGET 0 s) s then s
  else match chosenRef s with
    | none => toHoldover s
    | some y =>
      let x := selected s
      if pipState s = pipLocked && refOk x s then
        if y != x && (host || getB PIP_CFG.REVERT 0 s || mustMove y s) then toTransition y s else s
      else if pipState s = pipTransition && x = y then
        s |> setF PIP_STATUS.STATE 0 pipLocked |> setF PIP_STATUS.TARGET 0 refNone
      else toTransition y s

/-! ### Time source (R456) -/

def timeCapable : List Nat := [4, 5, 8, 9]

def timeSource (s : State) : Nat :=
  let x := selected s
  if timeCapable.contains x || x = refTwin then x
  else (bestOf (timeCapable.filter (fun n => refOk n s)) s).getD refNone

/-- TIM_STATUS follows the time source; its currentUtcOffset is that of a PTP source's master (R461, R478). -/
def updateSource (s : State) : State :=
  let n := timeSource s
  let s := if getF TIM_STATUS.SOURCE 0 s = n then s else s |> setF TIM_STATUS.SOURCE 0 n |> raise [TIM_EVT.SOURCE] 0
  if n = 8 || n = 9 then
    s |> setF TIM_STATUS.UTC_VALID 0 (getF TIM_PTP_STATUS.UTC_VALID (n - 8) s)
      |> setF TIM_STATUS.UTC_OFFSET 0 (getF TIM_PTP_STATUS.UTC_OFFSET (n - 8) s)
  else s |> setF TIM_STATUS.UTC_VALID 0 0 |> setF TIM_STATUS.UTC_OFFSET 0 0

/-- HEEL follows LEAD's clock (R511). -/
def onTwin (s : State) : Bool := role s == roleHeel && pipState s == pipLocked && selected s == refTwin

/-- What the Pitch Pipe judges anew at the end of a step. -/
def settlePitch (s : State) : State := s |> reselect false |> updateSource |> (fun s => setB TWN_STATUS.ALIGNED 0 (onTwin s) s)

end Sys2Proof.Machine
end

