-- ==== Sys2Proof/Machine/Role.lean ====
section
/-! DEFINITION. Roles: entering a role (R498 to R500), what a module does on leaving LEAD (R52), staleness and the start of a
resynchronisation (R487, R507, R510, R514), and what is judged at the end of each step (R505). -/

namespace Sys2Proof.Machine

def pathUp (s : State) : Bool := getB TWN_STATUS.LINK_UP 0 s || getB TWN_STATUS.WATCH_UP 0 s

/-- The twin is silent while both paths are lost (R496). -/
def twinSilent (s : State) : Bool := !pathUp s

/-- YIELD barks: three on each path that is up (R506). -/
def yieldBarks (s : State) : State :=
  let on (p : Nat) (s : State) : State :=
    s |> emit (.bark p (barkFrame kindYield p s)) |> emit (.bark p (barkFrame kindYield p s))
      |> emit (.bark p (barkFrame kindYield p s))
  let s := if getB TWN_STATUS.LINK_UP 0 s && !s.twin.hardware then on 0 s else s
  if getB TWN_STATUS.WATCH_UP 0 s then on 1 s else s

/-- Commands accepted as LEAD wait for no further report (R52). -/
def leaveLead (s : State) : State :=
  s |> setCmd (fun m => { m with opens := m.opens.map (fun c => if c.mirrored && !c.reported then { c with solo := true } else c) })
    |> finishReady

/-- A new LEAD's epoch: 1 more than the larger of its own and the twin's (R499). -/
def newEpoch (s : State) : Nat := max (getF TWN_EPOCH.EPOCH 0 s) s.twin.last.epoch + 1

/-- Enter a role (R499, R500). -/
def enterRole (r : Nat) (s : State) : State :=
  let old := role s
  if old = r then s
  else
    let s := s |> setF TWN_STATUS.ROLE 0 r |> setF TWN_STATUS.CLAIM 0 (b2n (r == roleLead)) |> raise [TWN_EVT.ROLE] 0
               |> setTwin (fun w => { w with roleAt := s.now, handshakeAt := none, twinSince := none, ownSince := none })
    let s := if r = roleLead then
        let e := newEpoch s
        let s := if old = roleHeel then bump32F TWN_TAKEOVER_CNT.COUNT TWN_CNT_FLAGS.OVF 2 0 1 s else s
        s |> storePref (setF TWN_EPOCH.EPOCH 0 e)
          |> setF TWN_MSEQ.MSEQ 0 0 |> setF TWN_STATUS.SYNC 0 0 |> setF TWN_STATUS.STALE 0 0
          |> setTwin (fun w => { w with mseqNext := 1, resync := .idle, wantResync := false, queued := [] })
      else s
    let s := if r = roleYielded then
        s |> bump32F TWN_YIELD_CNT.COUNT TWN_CNT_FLAGS.OVF 3 0 1 |> yieldBarks
      else s
    let s := if r = roleHeel then
        s |> setF TWN_STATUS.SYNC 0 0 |> setF TWN_MSEQ.MSEQ 0 0
          |> setTwin (fun w => { w with wantResync := true, resync := .idle, mseqWant := none, queued := [] })
      else s
    let s := storePref (setF PST_STATUS.LAST_ROLE 0 r) s
    let s := setTwin (fun w => { w with serving := none, served := false, doubled := false, unacked := w.unacked.filter (fun u => match u.1 with | .mirror _ => true | _ => false) }) s
    if old = roleLead then leaveLead s else s

/-- HEEL marks itself STALE (R487, R507, R510); `again` says that this cause starts a resynchronisation. -/
def markStale (again : Bool) (s : State) : State :=
  let s := if getB TWN_STATUS.STALE 0 s then s else s |> setF TWN_STATUS.STALE 0 1 |> raise [TWN_EVT.STALE] 0
  s |> setF TWN_STATUS.SYNC 0 0 |> setTwin (fun w => { w with wantResync := w.wantResync || again, resync := .idle })

/-- A HEEL for which a resynchronisation is due starts it once the twin link is up, the twin's digest is confirmed and neither
module has FEED_BOTH set (R487, R510, R514). -/
def tryResync (s : State) : State :=
  if role s = roleHeel && s.twin.wantResync && getB TWN_STATUS.LINK_UP 0 s && getB TWN_STATUS.DIGEST_OK 0 s
      && !getB TWN_CTL.FEED_BOTH 0 s && !s.twin.last.feedBoth && !s.twin.hardware then
    let m := s.twin.reqMseq + 1
    s |> setTwin (fun w => { w with wantResync := false, resync := .requested, reqMseq := m, queued := [], shofarRefused := false })
      |> setF TWN_STATUS.SYNC 0 1
      |> bump32F TWN_RESYNC_CNT.COUNT TWN_CNT_FLAGS.OVF 7 0 1
      |> sendAcked (.resyncReq m)
  else s

/-- A HEEL whose twin's digest is not confirmed is STALE (R487). -/
def staleDigest (s : State) : State :=
  if role s = roleHeel && !getB TWN_STATUS.DIGEST_OK 0 s && !getB TWN_STATUS.STALE 0 s && !s.twin.hardware then markStale true s else s

/-- Something of the state taken at a resynchronisation has not been applied yet. -/
def copyPending (s : State) : Bool :=
  s.twin.audCopy.isSome || s.xpt.pend.any (fun p => p.uid == 0) || s.xpt.allocs.any (fun a => a.2.pend.any (fun p => p.uid == 0))
    || s.cmp.pend.any (fun p => p.uid == 0) || s.eth.recs.any (fun p => p.uid == 0)

/-- The end of a resynchronisation (R514): SYNCED, unless the shofar state was refused or a new cause of STALE has arisen. -/
def resyncDone (s : State) : State :=
  if s.twin.resync = .applying && !copyPending s then
    let s' := setTwin (fun w => { w with resync := .idle }) s
    if s.twin.shofarRefused then markStale false s'
    else if s.twin.wantResync then setF TWN_STATUS.SYNC 0 0 s'
    else s' |> setF TWN_STATUS.SYNC 0 2 |> setF TWN_STATUS.STALE 0 0 |> raise [TWN_EVT.SYNCED] 0
  else s

/-- A LEAD with FIT = 0 yields as soon as its twin is FIT and a bark path is up; a module whose image sets SOLO never does
(R488, R505). -/
def mustYield (s : State) : Bool :=
  role s == roleLead && !getB TWN_STATUS.FIT 0 s && getB TWN_STATUS.TWIN_FIT 0 s && pathUp s && !getB TWN_CFG.SOLO 0 s
    && !s.twin.hardware

/-- A restore take has not committed (R165, R579). -/
def restorePending (s : State) : Bool := s.xpt.pend.any (fun p => p.uid == 0)

/-- IMAGE_RELOAD completes after the last restore take has committed (R579). -/
def reloadDone (s : State) : State :=
  match s.img.restoring with
  | some u =>
    if restorePending s then s
    else finishReady (modCmd u (fun c => { c with left := 0 }) { s with img := { s.img with restoring := none } })
  | none => s

/-- What holds at the end of every step that can touch the role's conditions. -/
def settle (s : State) : State :=
  let s := updateEvidence s
  let s := if mustYield s then enterRole roleYielded s else s
  s |> settlePitch |> reloadDone |> staleDigest |> resyncDone |> tryResync

/-! ### Which steps run -/

/-- A step of a powered module (R593). -/
def whenPowered (f : State → State) (s : State) : State := if s.powered then f s else s

/-- Crumhorn runs: the module is powered and not halted (R602, R714). -/
def crumhornRuns (s : State) : Bool := s.powered && !getB SYS_STATUS.HALTED 0 s

/-- The module is powered, not halted and not asleep: its control cores run (R602, R713). -/
def inService (s : State) : Bool := crumhornRuns s && !s.boot.asleep

/-- The READY land: undriven while power-good is low, else held low until READY and while HALTED (R594). -/
def readyLand (s : State) : LandDrive :=
  if !s.powered then .undriven
  else if getB SYS_STATUS.READY 0 s && !getB SYS_STATUS.HALTED 0 s then .released else .low

/-- A step of a module in service. -/
def whenService (f : State → State) (s : State) : State := if inService s then running f s else s

/-- A step at module time `t` of a module in service, after which commands complete and the role is judged. -/
def onService (t : Nat) (f : State → State) (s : State) : State :=
  if inService s then running (fun s => settle (finishReady (f (advance t s)))) s else s

/-- READY is set as well. -/
def whenReady (f : State → State) (s : State) : State := if inService s && getB SYS_STATUS.READY 0 s then f s else s

/-! ### Which host accesses reach the module -/

/-- Host accesses reach a register outside SYS: after READY, in service, the function in D0 and out of reset (R529, R595, R596). -/
def hostReaches (s : State) : Bool := inService s && getB SYS_STATUS.READY 0 s && hostUp s

/-- A host access at module time `t` to a block other than SYS. -/
def onHost (t : Nat) (f : State → State) (s : State) : State :=
  if hostReaches s then running (fun s => settle (finishReady (f (advance t s)))) s else s

/-- As `onHost` where time does not matter. -/
def whenHost (f : State → State) (s : State) : State := if hostReaches s then f s else s

/-- A host access at module time `t` to the SYS block, which is served before READY and while HALTED too (R596, R602). -/
def onSys (t : Nat) (f : State → State) (s : State) : State :=
  if !s.powered || s.boot.asleep || !hostUp s then s
  else if inService s then running (fun s => settle (finishReady (f (advance t s)))) s
  else f (advance t s)

end Sys2Proof.Machine
end

