-- ==== Sys2Proof/Machine/Accept.lean ====
section
/-! DEFINITION. Ring entries: fetching, the checks of R540, acceptance, refusal and mirroring (R47, R507, R533 to R544). -/

namespace Sys2Proof.Machine

/-! ### The entry (R538) -/

def eOpcode (raw : List Byte) : Nat := leAt raw 0 1
def eFlags (raw : List Byte) : Nat := leAt raw 1 1
def eWhen (raw : List Byte) : Nat := eFlags raw % 4
def eReject (raw : List Byte) : Bool := bit (eFlags raw) 2
def eTag (raw : List Byte) : Nat := leAt raw 2 2
def ePlane (raw : List Byte) : Nat := leAt raw 4 1
def eAt (raw : List Byte) : Nat := leAt raw 8 8
def eNs (raw : List Byte) : Nat := leAt raw 16 4
def eList (raw : List Byte) : Nat := leAt raw 24 8

/-- Commands of R539: operand bytes named, timed, mirrored, class. -/
def opcodeRow (op : Nat) : Option (List Nat × Bool × Bool × Nat) :=
  let b (lo n : Nat) := (List.range n).map (· + lo)
  match op with
  | 0x00 => some ([], false, false, 0)
  | 0x01 => some ([], false, false, 0)
  | 0x10 => some (b 24 8, true, true, 1)
  | 0x11 => some (b 24 13, true, true, 1)
  | 0x18 => some (b 24 8, true, true, 1)
  | 0x19 => some (b 24 8, false, true, 1)
  | 0x1A => some (b 24 8, true, true, 1)
  | 0x20 => some (b 24 12, true, true, 2)
  | 0x21 => some ([32], true, true, 2)
  | 0x28 => some (b 24 12, false, true, 3)
  | 0x29 => some (b 24 8, false, true, 3)
  | 0x30 => some (b 24 12, true, true, 4)
  | 0x31 => some (b 24 14, true, true, 4)
  | 0x38 => some (b 24 12, true, true, 5)
  | 0x40 => some (b 24 13, false, false, 6)
  | 0x41 => some (b 24 13, false, false, 6)
  | _ => none

def opTimed (op : Nat) : Bool := match opcodeRow op with | some (_, t, _, _) => t | none => false
def opMirrored (op : Nat) : Bool := match opcodeRow op with | some (_, _, m, _) => m | none => false
def opClass (op : Nat) : Nat := match opcodeRow op with | some (_, _, _, c) => c | none => 0

/-- Bytes that must be 0 are 0, and so are the reserved bits of named operand bytes that no other status covers. -/
def entryZero (raw : List Byte) : Bool :=
  let op := eOpcode raw
  let named := match opcodeRow op with | some (l, _, _, _) => l | none => []
  let z (i : Nat) := leAt raw i 1 == 0
  eFlags raw < 8 && ePlane raw < 8
    && (eWhen raw == 2 || ePlane raw == 0)
    && [5, 6, 7, 20, 21, 22, 23].all z
    && (match eWhen raw with
        | 0 => eAt raw == 0 && eNs raw == 0
        | 1 => eAt raw < 2 ^ 48
        | _ => eNs raw == 0)
    && ((List.range 40).map (· + 24)).all (fun i => named.contains i || z i)
    && (match op with
        | 0x11 => leAt raw 36 1 < 4
        | 0x20 => leAt raw 33 1 < 2
        | 0x31 => leAt raw 33 1 < 4
        | 0x40 => leAt raw 36 1 < 2
        | 0x41 => leAt raw 36 1 < 3 && (leAt raw 36 1 == 2 || (eList raw == 0 && leAt raw 32 4 == 0))
        | _ => true)

/-- The execute-at point is allowed (R540 check 2). -/
def entryTime (raw : List Byte) (s : State) : Bool :=
  match eWhen raw with
  | 0 => true
  | 1 => opTimed (eOpcode raw) && eNs raw < 1000000000
         && mkTime (eAt raw) (eNs raw) ≤ localTime s + 86400 * secUnit
  | 2 => opTimed (eOpcode raw) && planeEnabled (ePlane raw) s
         && eAt raw ≤ getF PIP_PLANE_COUNT.COUNT (ePlane raw) s + 2 ^ 32
  | _ => false

/-- A grant in force for a class: VALID, includes the class, local time not past NOT_AFTER (R642). -/
def granted (c : Nat) (s : State) : Bool :=
  (List.range 4).any (fun g =>
    getB SEC_GRANT_A.VALID g s && (getF SEC_GRANT_A.CLASSES g s).testBit c
      && timeSec (localTime s) ≤ getF SEC_GRANT_A.NOT_AFTER_HI g s * 2 ^ 32 + getF SEC_GRANT_B.NOT_AFTER_LO g s)

def classAllowed (c : Nat) (s : State) : Bool := !(getF SEC_STATUS.CLASS_REQ 0 s).testBit c || granted c s

/-- Commands that pass the role check in every role (R540). -/
def anyRole (op : Nat) : Bool := op == 0x00 || op == 0x01 || op == 0x40 || op == 0x41

def feedBothHeel (s : State) : Bool := role s == roleHeel && getB TWN_CTL.FEED_BOTH 0 s

def tagInUse (r tag : Nat) (s : State) : Bool :=
  s.cmd.opens.any (fun c => !c.mirror && c.ring == r && c.tag == tag) || s.cplHeld.any (fun c => c.ring == r && c.tag == tag)

/-- The checks of R540 in order; none when all pass. -/
def checkEntry (r : Nat) (raw : List Byte) (s : State) : Option Nat :=
  let op := eOpcode raw
  if (opcodeRow op).isNone then some stBadOpcode
  else if !entryZero raw || !entryTime raw s then some stBadEntry
  else if tagInUse r (eTag raw) s then some stTagInUse
  else if !(anyRole op || role s == roleLead || feedBothHeel s) then some stNotLead
  else if !classAllowed (opClass op) s then some stDenied
  else none

/-! ### Fetch -/

/-- The ring has an entry that may be fetched: enabled, not stopped, entries between head and tail, completions not held back
(R535, R537). -/
def ringWaits (r : Nat) (s : State) : Bool :=
  r < 16 && getB HIF_SQ_CFG.EN r s && !s.cmd.stopped.contains r
    && getF HIF_SQ_HEAD.HEAD r s != getF HIF_SQ_TAIL.TAIL r s && getF HIF_SQ_TAIL.TAIL r s < sqSize r s
    && !cqFull r s && !s.cplHeld.any (fun h => h.ring == r)

/-- The ring whose turn it is: rounds in ascending ring number (R541). -/
def nextRing (s : State) : Option Nat :=
  let ws := (List.range 16).filter (fun r => ringWaits r s)
  match ws.find? (fun r => s.cmd.lastRing < r) with
  | some r => some r
  | none => ws.head?

/-- Command fetch is running: READY, D0 with the link up, fewer than 1024 open slots, not paused, the command pair not
halted (R529, R542, R579, R596, R685). -/
def fetchRuns (s : State) : Bool :=
  getB SYS_STATUS.READY 0 s && hostUp s && openSlots s < 1024 && !s.cmd.paused && !getB DBG_ENG_STATUS.HALTED 160 s

def fetchable (r : Nat) (s : State) : Bool := inService s && fetchRuns s && nextRing s == some r

/-- The head moves past the entry just read (R535). -/
def pastEntry (r : Nat) (s : State) : State :=
  s |> setF HIF_SQ_HEAD.HEAD r ((getF HIF_SQ_HEAD.HEAD r s + 1) % sqSize r s) |> setCmd (fun m => { m with lastRing := r })

/-! ### Refusal -/

/-- A refusal at check 5 counts, and one audit record covers the refusals of 100 ms (R650; log entry 9). -/
def noteDenied (op : Nat) (s : State) : State :=
  let s := bump32 SEC_DENIED.COUNT SEC_CNT_FLAGS.DENIED_OVF 0 s
  match s.cmd.deniedAt with
  | some t => if s.now < t + 100 * msUnit then setCmd (fun m => { m with deniedCount := m.deniedCount + 1 }) s
              else s |> setCmd (fun m => { m with deniedAt := some s.now, deniedCount := 1 })
                     |> audit 0x0036 stDenied (leBytes 1 op ++ leBytes 4 1)
  | none => s |> setCmd (fun m => { m with deniedAt := some s.now, deniedCount := 1 })
              |> audit 0x0036 stDenied (leBytes 1 op ++ leBytes 4 1)

/-- Complete an entry that is refused: it holds no slot and changes nothing (R540, R542, R547). -/
def refuse (r entry : Nat) (raw : List Byte) (status d0 d1 : Nat) (s : State) : State :=
  let s := countRefused (eOpcode raw) status s
  let s := if status = stDenied then noteDenied (eOpcode raw) s else s
  postCpl { ring := r, tag := eTag raw, entry := entry, status := status, opcode := eOpcode raw, detail0 := d0, detail1 := d1 } s

/-! ### Acceptance -/

/-- The commit points an entry asks for, accepted now (R46, R543). -/
def entryDue (raw : List Byte) (now : Nat) : Due :=
  match eWhen raw with
  | 1 => { notBefore := now + armLead, at_ := some (mkTime (eAt raw) (eNs raw)) }
  | 2 => { notBefore := now + armLead, frame := some (ePlane raw, eAt raw) }
  | _ => dueUntimed now

/-- The twin takes mirrors and shows SYNCED: otherwise every command completes with SOLO, as on a module whose image sets SOLO, which
never waits for a twin (R47, R488, R510). -/
def twinSynced (s : State) : Bool := s.twin.last.sync == 2 && getB TWN_STATUS.LINK_UP 0 s && !getB TWN_CFG.SOLO 0 s

/-- Accept an entry: open its slot, number and mirror it (R507, R542). The answer is its uid. -/
def openEntry (r entry : Nat) (raw data : List Byte) (members : Nat) (due : Due) (late : Bool) (deadline : Option Nat)
    (s : State) : Nat × State :=
  let lead := role s == roleLead
  let can := opMirrored (eOpcode raw) && lead
  let mir := can && !getB TWN_CTL.FEED_BOTH 0 s
  let uid := s.cmd.uid
  let mseq := if mir then s.twin.mseqNext else 0
  let c : OpenCmd := { uid := uid, ring := r, tag := eTag raw, entry := entry, opcode := eOpcode raw, mseq := mseq, due := due,
                       reject := eReject raw, left := members, mirrored := mir, solo := can && (!mir || !twinSynced s),
                       late := late, feedBoth := feedBothHeel s }
  let s := setCmd (fun m => { m with opens := m.opens ++ [c], uid := uid + 1 }) s
  let s := if mir then
      s |> setTwin (fun w => { w with mseqNext := w.mseqNext + 1 })
        |> setF TWN_MSEQ.MSEQ 0 mseq
        |> sendAcked (.mirror { mseq := mseq, ring := r, entry := entry, raw := raw, data := data,
                                acceptedAt := localTime s, due := due, deadline := deadline })
    else s
  (uid, s)

/-- Open a mirror that HEEL applies (R507). -/
def openMirror (m : Mirror) (members : Nat) (due : Due) (s : State) : Nat × State :=
  let uid := s.cmd.uid
  let c : OpenCmd := { uid := uid, mirror := true, ring := m.ring, tag := eTag m.raw, entry := m.entry, opcode := eOpcode m.raw,
                       mseq := m.mseq, due := due, left := members }
  (uid, setCmd (fun x => { x with opens := x.opens ++ [c], uid := uid + 1 }) s)

/-- An entry is read past and checked; one that passes goes on to its command's own checks and acceptance, `body`. -/
def readEntry (r : Nat) (raw : List Byte) (body : Nat → State → State) (s : State) : State :=
  let entry := getF HIF_SQ_HEAD.HEAD r s
  let s := pastEntry r s
  match checkEntry r raw s with
  | some st => refuse r entry raw st 0 0 s
  | none => settle (finishReady (body entry s))

/-- The steps every ring command shares: fetch the entry, check it, then go on with the command's own checks. An entry of
another command's opcode is not this row's; one of no command's opcode is refused by whichever row reads it. -/
def ringCmdIf (own : Bool) (r : Nat) (raw : List Byte) (t : Nat) (body : Nat → State → State) (s : State) : State :=
  if !fetchable r (advance t s) || ((opcodeRow (eOpcode raw)).isSome && !own) then s
  else running (fun s => readEntry r raw body (advance t s)) s

/-- `ringCmdIf` of the row whose opcode is `op`. -/
def ringCmd (op r : Nat) (raw : List Byte) (t : Nat) (body : Nat → State → State) (s : State) : State :=
  ringCmdIf (eOpcode raw == op) r raw t body s

/-- How a command is timed at acceptance (R544): its points, or late. -/
inductive Timing where
  | on (due : Due) (late : Bool)
  | tooLate
  deriving DecidableEq, Repr

/-- Timing of an entry whose points are late when `isLate`. -/
def timingOf (raw : List Byte) (isLate : Bool) (s : State) : Timing :=
  if eWhen raw = 0 then .on (dueUntimed s.now) false
  else if !isLate then .on (entryDue raw s.now) false
  else if eReject raw then .tooLate
  else .on (dueUntimed s.now) true

/-- Module time of the first point that a command's points at `base` plus whole periods give it. -/
def duePoint (d : Due) (base period : Nat) (s : State) : Int :=
  firstAt base period (match d.execAt s with | some x => max x (d.notBefore : Int) | none => d.notBefore)

/-- Earliest arm deadline of the points, in local time (R47, R160). -/
def earliestDeadline (d : Due) (pts : List (Nat × Nat)) (s : State) : Option Nat :=
  pts.foldl (fun m p =>
    let x := (duePoint d p.1 p.2 s - armLead + s.timeOff).toNat
    match m with | some y => some (min x y) | none => some x) none

/-- Accept a command of `members` members whose points of commit lie at the given bases plus whole periods, unless the
scheduling check of R544 refuses it; `apply` gets its uid and its points. -/
def acceptTimed (r entry : Nat) (raw data : List Byte) (members : Nat) (pts : List (Nat × Nat)) (apply : Nat → Due → State → State)
    (s : State) : State :=
  match timingOf raw (pts.any (fun p => (entryDue raw s.now).late p.1 p.2 s.now s)) s with
  | .tooLate => refuse r entry raw stTooLate 0 0 s
  | .on due late =>
    let (uid, s) := openEntry r entry raw data members due late (earliestDeadline due pts s) s
    apply uid due s

/-- Accept a command that has no commit point of its own: it ends when its work ends. -/
def acceptNow (r entry : Nat) (raw data : List Byte) (members : Nat) (apply : Nat → State → State) (s : State) : State :=
  let (uid, s) := openEntry r entry raw data members {} false none s
  apply uid s

end Sys2Proof.Machine
end

