-- ==== Sys2Proof/Machine/LaneOps.lean ====
section
/-! DEFINITION. Lane states as the other blocks need them: assignment, slot modes, reaching ACTIVE, starting a series, and the
wake-up of an output lane by a take (R54, R65, R66, R68, R77 to R80, R104, R162). -/

namespace Sys2Proof.Machine

/-! ### MODE codes of R176 -/

def mNone : Nat := 0
def mDirect : Nat := 1
def mFallback : Nat := 2
def mKennel : Nat := 3
def mHead : Nat := 4
def mFree : Nat := 5
def mJoin : Nat := 6
def mOverrate : Nat := 7
def mWake : Nat := 8

def outMode (o : Nat) (s : State) : Nat := getF XPT_OUT_STATE.MODE o s

/-- From the lane's first block after ACTIVE its slots in WAKE carry fill and join their source (R162). -/
def wakeSlots (n : Nat) (s : State) : State :=
  forEach (List.range 8) (fun k s => if outMode (8 * n + k) s = mWake then setF XPT_OUT_STATE.MODE (8 * n + k) mJoin s else s) s

/-! ### Training sets sent (R63) -/

/-- What the sets of output lane `n` announce. A lane of the twin link bears its number in the link, and the link's lanes are output
lanes at their sender (log entry 85). -/
def setInfo (n : Nat) (s : State) : SetInfo :=
  let l := outLane n s
  let two := isTwinLane n
  let one := !two && getB LNO_GRP_CFG.ONE_WAY (groupOf n) s
  { tb := l.phase == .confirm || l.phase == .ready, lane := if two then n - twinLane0 else n, dirOut := true,
    sideB := getB TWN_STATUS.SIDE_B 0 s, fwd := getB LNO_STATUS.CLK_FWD n s, oneWay := one,
    preset := getF LNO_TX_CFG.PRESET_ACT n s, request := if one then 0xF else getF LNI_EQ.PRESET_REQ n s,
    fast := outState n s == stFast, identity := getF SYS_ID.ID 0 s % 2 ^ 48 }

/-- The transmitter sends training sets: in an attempt, a probe, a back-off and a fast retrain. -/
def sendsSets (n : Nat) (s : State) : Bool :=
  [stFast, stLock, stAlign, stEq, stConfirm, stBackoff, stProbe].contains (outState n s)

/-- The transmitter of output lane `n` begins to repeat the set that its state calls for, or ends its sets. -/
def sendSets (n : Nat) (s : State) : State :=
  let l := outLane n s
  let b := if sendsSets n s then setBody (setInfo n s) 0 else []
  if b = l.sending then s
  else
    let q := if l.sending = [] then 0 else (l.setSeq + setsIn (s.now - l.setAt) + 1) % 256
    let s := setOut n (fun l => { l with sending := b, setSeq := q, setAt := s.now }) s
    if b = [] then s else let x := setBody (setInfo n s) q; emit (.trainingSet n (x ++ [checkOf x])) s

/-- An output lane becomes ACTIVE: UP sets, ATTEMPT returns to 0, and the CRC of its first block counts a zero payload (R66,
R105). A target of IDLE ordered meanwhile takes effect now (R80). -/
def outActive (n : Nat) (s : State) : State :=
  s |> setF LNO_STATUS.STATE n stActive |> setF LNO_STATUS.ATTEMPT n 0
    |> setOut n (fun l => { l with phase := .none, wasActive := true, noPartner := false, prevPayload := zeroPayload })
    |> sendSets n |> raiseLane [LNO_EVT.UP] n |> wakeSlots n
    |> (fun s => if getF LNO_CTL.TARGET_STATE n s = 1 then setF LNO_STATUS.STATE n stIdle s else s)

/-- The preset at the start of a series: 8 to 15 act as 7 (R97). A lane of the twin link starts at P2 (R743). -/
def startPreset (n : Nat) (s : State) : Nat := if isTwinLane n then 2 else min 7 (getF LNO_TX_CFG.PRESET n s)

/-- What transmitter `n` launches: the amplitude of preset P0 in mV, at AMPLITUDE 10 on the twin link, and the pre- and post-cursor of the
preset in force (R73, R740, R743). -/
def launch (n : Nat) (s : State) : Nat × Int × Int :=
  (400 + 40 * (if isTwinLane n then 10 else getF LNO_TX_CFG.AMPLITUDE n s), presetCursors (getF LNO_TX_CFG.PRESET_ACT n s))

/-- First attempt of a new series on a transmitter (R65, R97). -/
def seriesOut (n : Nat) (s : State) : State :=
  if !outAssigned n s then s
  else
    s |> setF LNO_STATUS.STATE n stLock |> setF LNO_STATUS.ATTEMPT n 1 |> setF LNO_TX_CFG.PRESET_ACT n (startPreset n s)
      |> setOut n (fun l => { l with phase := .lock, noPartner := false, startAt := s.now, phaseAt := s.now })

/-- First attempt of a new series on a receiver. -/
def seriesIn (n : Nat) (s : State) : State :=
  if !inAssigned n s then s
  else
    s |> setF LNI_STATUS.STATE n stLock |> setF LNI_STATUS.ATTEMPT n 1
      |> setF LNI_EQ.PARTNER_PRESET n 0xF |> setF LNI_EQ.PRESET_REQ n 0xF
      |> setIn n (fun l => { l with phase := .lock, sets := 0, ready := 0, noPartner := false, startAt := s.now })

/-- The lane is in NO_PARTNER, resting or in a probe (R69, R85). -/
def outNoPartner (n : Nat) (s : State) : Bool := (outLane n s).noPartner
def inNoPartner (n : Nat) (s : State) : Bool := (inLane n s).noPartner

/-- The clock mode that a lane runs in: its group's; a lane of the twin link begins each series in common-reference mode (R72). -/
def takeClock (n : Nat) (s : State) : State :=
  if isTwinLane n then s
  else
    let m := getF LNI_GRP_CFG.CLK_MODE_ACT (groupOf n) s
    s |> setF LNI_STATUS.CLK_FWD n (if inAssigned n s then m else 0) |> setF LNO_STATUS.CLK_FWD n (if outAssigned n s then m else 0)

/-- The pair of a lane in NO_PARTNER starts a new series (R80). -/
def leaveNoPartner (n : Nat) (s : State) : State :=
  let s := s |> takeClock n |> seriesOut n
  (if inNoPartner n s then seriesIn n s else s) |> sendSets n

/-- An output lane in IDLE or DEEP, the rest state of NO_PARTNER included, is ordered to ACTIVE (R75, R78 to R80): from IDLE it is ACTIVE
within 2 µs (not while the module has withdrawn its lanes, R506); from DEEP its PLL starts, and a fast retrain follows PLL lock; from
NO_PARTNER a new series starts on the pair. -/
def exitOut (n : Nat) (s : State) : State :=
  let st := outState n s
  if getB TWN_STATUS.WITHDRAWN 0 s && !isTwinLane n then s
  else if st = stIdle then outActive n s
  else if st = stDeep then s |> setF LNO_STATUS.STATE n stWake |> setOut n (fun l => { l with startAt := s.now })
  else if outNoPartner n s then leaveNoPartner n s
  else s

/-- The output lane rests in IDLE or DEEP (R77, R162). -/
def outResting (n : Nat) (s : State) : Bool := outState n s == stIdle || outState n s == stDeep || outNoPartner n s

/-- An accepted take on a slot of a resting lane sets the lane's TARGET_STATE to ACTIVE (R78), and clears TEST (R117). -/
def takeWakes (n : Nat) (s : State) : State :=
  let s := setF LNO_PAY_CFG.TEST n 0 s
  if outResting n s then s |> setF LNO_CTL.TARGET_STATE n 0 |> exitOut n else s


/-- The last cadence description of slot k (R129). -/
def cadFld (k : Nat) : Fld :=
  match k with
  | 0 => LNI_CAD_LO.CAD0
  | 1 => LNI_CAD_LO.CAD1
  | 2 => LNI_CAD_LO.CAD2
  | 3 => LNI_CAD_LO.CAD3
  | 4 => LNI_CAD_HI.CAD4
  | 5 => LNI_CAD_HI.CAD5
  | 6 => LNI_CAD_HI.CAD6
  | _ => LNI_CAD_HI.CAD7

end Sys2Proof.Machine
end

