-- ==== Sys2Proof/Machine/XptOps.lean ====
section
/-! DEFINITION. The crosspoint's operations: source descriptors, path choice, switches, joins and automatic moves, window states
(R135 to R165). -/

namespace Sys2Proof.Machine

/-! ### Sources (R135) -/

/-- Input slot i of an INPUT descriptor; allocation of a KENNEL one; head of a HEAD one. -/
def srcIndex (d : Nat) : Nat := d % 2 ^ 30
def srcInput (i : Nat) : Nat := 2 ^ 30 + i
def kindNone : Nat := 0
def kindInput : Nat := 1
def kindKennel : Nat := 2
def kindHead : Nat := 3

/-- No reserved KIND and no bit outside its fields. -/
def srcValid (d : Nat) : Bool :=
  match srcKind d with
  | 0 => srcIndex d == 0
  | 1 => srcIndex d < 2 ^ 14
  | 2 => srcIndex d < 2 ^ 16
  | 3 => srcIndex d < 2 ^ 7
  | _ => false

/-! ### Allocations (R181, R208) -/

def clAbsent : Nat := 0
def clFsync : Nat := 1
def clDelay : Nat := 2
def clFlowRx : Nat := 3
def clStill : Nat := 4
def clCompRead : Nat := 5

def allocClass (a : Nat) (s : State) : Nat := if a < 8192 then getF KNL_ALLOC_CFG.CLASS a s else clAbsent

/-- The allocation of a class that a writer writes. -/
def allocOf (cls writer : Nat) (s : State) : Option Nat :=
  (indicesWhere KNL_ALLOC_CFG.CLASS (· == cls) s).find? (fun a => getF KNL_ALLOC_CFG.WRITER a s == writer)

def fsyncOf (i : Nat) (s : State) : Option Nat := allocOf clFsync i s
def delayOf (i : Nat) (s : State) : Option Nat := allocOf clDelay i s

/-- Allocation that carries an input slot to a base layer: FSYNC, or DELAY when there is none (R157). -/
def baseAllocOf (i : Nat) (s : State) : Option Nat :=
  match fsyncOf i s with
  | some a => some a
  | none => delayOf i s

/-! ### Outputs -/

def xout (o : Nat) (s : State) : XOut := mget {} s.xpt.outs o
def setXOut (o : Nat) (f : XOut → XOut) (s : State) : State := setXpt (fun x => { x with outs := mmod {} x.outs o f }) s
def xin (i : Nat) (s : State) : XIn := mget {} s.xpt.ins i
def setXIn (i : Nat) (f : XIn → XIn) (s : State) : State := setXpt (fun x => { x with ins := mmod {} x.ins i f }) s

def outFmt (o : Nat) (s : State) : Nat := getF XPT_OUT_STATE.FORMAT o s
def outPlane (o : Nat) (s : State) : Nat := getF XPT_OUT_CFG.PLANE o s
def inWin (i : Nat) (s : State) : Nat := getF XPT_IN_STATUS.WIN i s
def inFmt (i : Nat) (s : State) : Nat := getF XPT_IN_STATUS.FORMAT i s

/-- WIN codes of R140. -/
def wNoSig : Nat := 0
def wNoFmt : Nat := 1
def wIn : Nat := 2
def wGuard : Nat := 3
def wOut : Nat := 4
def wOffPlane : Nat := 5

/-- Slot mode of an output's lane. -/
def outSlotMode (o : Nat) (s : State) : Nat := getF LNO_PAY_CFG.SLOT_MODE (o / 8) s

/-! ### Checks (R156) -/

/-- The 8-byte operand of R158, at byte `off` of a list. -/
structure TakeOp where
  lane : Nat
  slot : Nat
  flags : Nat
  src : Nat
  deriving DecidableEq, Repr

def takeOpAt (bs : List Byte) (off : Nat) : TakeOp :=
  { lane := leAt bs off 2, slot := leAt bs (off + 2) 1, flags := leAt bs (off + 3) 1, src := leAt bs (off + 4) 4 }

def TakeOp.out (x : TakeOp) : Nat := 8 * x.lane + x.slot

/-- The rate of a source, where it has declared or configured one: a slot rate of R142. -/
def srcRate (d : Nat) (s : State) : Option Nat :=
  let rate (f : Nat) := if fmtValid f then some (slotRate f) else none
  match srcKind d with
  | 1 => if inWin (srcIndex d) s = wNoSig then none else rate (inFmt (srcIndex d) s)
  | 2 => rate (getF KNL_ALLOC_CFG.FMT_MAX (srcIndex d) s)
  | 3 => rate (getF CMP_HEAD_CFG.FORMAT (srcIndex d) s)
  | _ => none

def srcExists (d : Nat) (s : State) : Bool :=
  srcValid d &&
  match srcKind d with
  | 1 => inUsed (srcIndex d) s
  | 2 => allocClass (srcIndex d) s != clAbsent && allocClass (srcIndex d) s < clCompRead
  | 3 => getB CMP_HEAD_CFG.ENABLED (srcIndex d) s
  | _ => true

def takeCheck (x : TakeOp) (s : State) : Option Nat :=
  if 2048 ≤ x.lane || 8 ≤ x.slot || 4 ≤ x.flags || !outUsed x.out s then some stBadOutput
  else if !srcExists x.src s then some stBadSource
  else if isSafety x.out s && (srcKind x.src = kindNone || srcKind x.src = kindHead) then some stSafetySource
  else if isSafety x.out s && srcKind x.src = kindInput && (baseAllocOf (srcIndex x.src) s).isNone then some stNoKennel
  else if !isSafety x.out s && (match srcRate x.src s with | some r => !rateAllowed r (outSlotMode x.out s) | none => false) then
    some stRate
  else none

/-! ### Switching points (R137, R142, R143) -/

/-- First switching point after the plane's last boundary, and the time between them, as output `o` carries now. -/
def switchPoints (o : Nat) (s : State) : Nat × Nat :=
  let p := outPlane o s
  let base := (planeSt p s).boundary + tOut s
  let f := outFmt o s
  if belongs f p s then (base + 6 * framePeriod (fmtRate f) / fmtLines f, framePeriod (fmtRate f)) else (base, planePeriod p s)

/-- The head of a safety output. -/
def safetyHead (o : Nat) (s : State) : Option Nat := (s.xpt.safety.find? (fun p => p.1 == o)).map (·.2)

/-- Commit points of a take on `o`: switching points, or the head's frame boundaries for a safety output (R157). -/
def takePoints (o : Nat) (s : State) : Nat × Nat :=
  match safetyHead o s with
  | some h => ((planeSt (outPlane o s) s).boundary, framePeriod (fmtRate (getF CMP_HEAD_CFG.FORMAT h s)))
  | none => switchPoints o s

/-! ### Path choice (R151) -/

/-- A kennel fall-back path from input slot `i` to output `o`. -/
def fallbackPath (o i : Nat) (noFb : Bool) (s : State) : Bool :=
  getB XPT_OUT_CFG.FALLBACK_EN o s && getB XPT_IN_CFG.KNL_FSYNC i s && !noFb

/-- MODE of the path, and for JOIN the MODE in which the wait ends. An input in NOFMT takes FREE also on another plane (log entry 92). -/
def choosePath (o src : Nat) (noFb : Bool) (s : State) : Nat × Nat :=
  match srcKind src with
  | 0 => (mNone, mNone)
  | 2 => (mKennel, mKennel)
  | 3 => (mHead, mHead)
  | _ =>
    let i := srcIndex src
    let fb := fallbackPath o i noFb s
    let same := getF XPT_IN_CFG.PLANE i s == outPlane o s
    let w := inWin i s
    if w = wNoSig then
      if same then (mJoin, mDirect) else if fb then (mFallback, mFallback) else (mJoin, mFree)
    else if w = wNoFmt then (mFree, mFree)
    else if !same || w = wOut || w = wOffPlane then (if fb then (mFallback, mFallback) else (mFree, mFree))
    else if w = wGuard && fb then (mFallback, mFallback)
    else (mDirect, mDirect)

/-! ### Word streams (R23, R24, R137, R138) -/

/-- Words of a frame of a format on its interface, and of one of its lines (R112, R142). -/
def frameLen (f : Nat) : Nat := 2 * fmtPixels f
def lineLen (f : Nat) : Nat := frameLen f / fmtLines f

/-- Time of word `k` of a segment. -/
def Seg.timeOf (g : Seg) (k : Nat) : Nat := g.start + g.per * k / g.words.length

/-- A word of a stream, its number and the time at which it comes, or falls due. -/
structure TimedWord where
  num : Nat
  time : Nat
  word : Word10
  deriving DecidableEq, Repr

/-- The words of segments, the first of which bears number `k`. -/
def timedWords : Nat → List Seg → List TimedWord
  | _, [] => []
  | k, g :: gs => ((List.range g.words.length).zip g.words).map (fun p => ⟨k + p.1, g.timeOf p.1, p.2⟩) ++ timedWords (k + g.words.length) gs

def segLen (gs : List Seg) : Nat := gs.foldl (fun n g => n + g.words.length) 0

/-- Number of the next word of the stream. -/
def Stream.count (x : Stream) : Nat := x.base + segLen x.segs

/-- Forget the first `n` words. -/
def dropWords : Nat → List Seg → List Seg
  | _, [] => []
  | n, g :: gs => if g.words.length ≤ n then dropWords (n - g.words.length) gs else { g with words := g.words.drop n } :: gs

/-- Words arrive at module time `t`; the newest `cap` are held. -/
def Stream.arrive (x : Stream) (cap t : Nat) (ws : List Word10) : Stream :=
  let gs := x.segs ++ [{ start := t, words := ws }]
  let n := segLen gs - cap
  { x with base := x.base + n, segs := dropWords n gs }

/-- A frame of format `f` begins at module time `t`; the frame before it is still held. -/
def Stream.begin (x : Stream) (f t : Nat) (ws : List Word10) : Stream :=
  let old := x.segs.dropLast
  { base := x.base + segLen old, segs := x.segs.drop old.length ++ [{ start := t, per := framePeriod (fmtRate f), words := ws }], frameAt := x.count }

/-! ### The stream of a path -/

def alloc (a : Nat) (s : State) : Alloc := mget {} s.xpt.allocs a
def setAlloc (a : Nat) (f : Alloc → Alloc) (s : State) : State := setXpt (fun x => { x with allocs := mmod {} x.allocs a f }) s
def reader (a p : Nat) (s : State) : Reader := mget {} (alloc a s).readers p
def setReader (a p : Nat) (f : Reader → Reader) (s : State) : State :=
  setAlloc a (fun x => { x with readers := mmod {} x.readers p f }) s

/-- The reader that output `o` reads on the path `mode` of source `src`: allocation and plane (R151, R184). -/
def pathReader (o src mode : Nat) (s : State) : Option (Nat × Nat) :=
  if mode = mFallback then (fsyncOf (srcIndex src) s).map (fun a => (a, outPlane o s))
  else if mode = mKennel then some (srcIndex src, outPlane o s)
  else none

/-- Format of what a reader sends, 0 while it sends nothing. -/
def readerFmt (a p : Nat) (s : State) : Nat := match (reader a p s).frame with | some k => k.fmt | none => 0

/-- Format of what output `o` would carry on a path. -/
def pathFormat (o src mode : Nat) (s : State) : Nat :=
  match pathReader o src mode s with
  | some (a, p) => readerFmt a p s
  | none =>
    if mode = mHead then getF CMP_HEAD_CFG.FORMAT (srcIndex src) s
    else if mode = mFree && !belongs (inFmt (srcIndex src) s) (outPlane o s) s then 0
    else if srcKind src = kindInput then inFmt (srcIndex src) s
    else 0

def pathStream (o src mode : Nat) (s : State) : Stream :=
  match pathReader o src mode s with
  | some (a, p) => (reader a p s).stream
  | none =>
    if mode = mDirect || mode = mFree then mget {} s.lane.rx (srcIndex src)
    else if mode = mHead then mget {} s.cmp.streams ((safetyHead o s).getD (srcIndex src))
    else {}

/-- What the whippet path adds to the time at which a word has arrived: the alignment delay, 8 µs - e in DIRECT and 8 µs in FREE, and
the pipeline delay (R138, R153, R758). Readers and heads time their words to the output lands themselves (R137). -/
def pathDelay (src mode : Nat) (s : State) : Nat :=
  if mode = mFree then tOut s
  else if mode = mDirect then ((8000 - (xin (srcIndex src) s).e).toNat + getF XPT_INFO.PIPE_NS 0 s) * nsUnit
  else 0

/-- A mode in which a stream of the source runs. -/
def runsStream (mode : Nat) : Bool := mode == mDirect || mode == mFallback || mode == mKennel || mode == mHead || mode == mFree

/-- The words that output `o` has still to send of its stream, with the times at which they fall due. -/
def ahead (o : Nat) (s : State) : List TimedWord :=
  let m := outMode o s
  if runsStream m then
    let x := pathStream o (outSrc o s) m s
    let d := pathDelay (outSrc o s) m s
    ((timedWords x.base x.segs).filter (fun w => (xout o s).next ≤ w.num)).map (fun w => { w with time := w.time + d })
  else []

/-- A switch of a stream of format `f` falls at the EAV of its switching line (R142, R143). -/
def byLine (o mode f : Nat) (s : State) : Bool := mode != mFree && belongs f (outPlane o s) s

/-- Number of the first word of the switching line of the frame in progress (R142). -/
def lineWord (x : Stream) (f : Nat) : Nat := x.frameAt + 6 * lineLen f

/-- The stream of output `o` ends: of the words still to send, those that `keep` accepts are sent. -/
def endWith (o : Nat) (keep : TimedWord → Bool) (s : State) : State :=
  let ws := ((ahead o s).filter keep).map (fun w => (w.time, w.word))
  setXOut o (fun x => { x with tail := x.tail ++ ws }) s

/-- The stream of output `o` ends at its switching point, which is now (R145, R147, R148). -/
def endStream (o : Nat) (s : State) : State :=
  let m := outMode o s
  let f := outFmt o s
  if !runsStream m then s
  else if byLine o m f s then
    let k := lineWord (pathStream o (outSrc o s) m s) f
    endWith o (fun w => w.num < k) s
  else endWith o (fun w => w.time ≤ s.now) s

/-- The stream of output `o` ends at the last whole line (R149). -/
def endLine (o : Nat) (s : State) : State :=
  let m := outMode o s
  let f := outFmt o s
  if !runsStream m then s
  else
    let x := pathStream o (outSrc o s) m s
    let n := ((ahead o s).filter (fun w => w.time ≤ s.now)).length + (xout o s).next
    let k := if fmtValid f then x.frameAt + (n - x.frameAt) / lineLen f * lineLen f else n
    endWith o (fun w => w.num < k) s

/-- The stream of output `o` begins on a path of format `f`: at the EAV of the switching line, or at the word that falls due now. -/
def beginStream (o src mode f : Nat) (s : State) : State :=
  let x := pathStream o src mode s
  let d := pathDelay src mode s
  let k := if byLine o mode f s then lineWord x f
    else x.base + ((timedWords x.base x.segs).filter (fun w => w.time + d ≤ s.now)).length
  setXOut o (fun y => { y with next := k }) s

/-! ### Switches -/

def pend (o : Nat) (s : State) : Bool := s.xpt.pend.any (fun p => p.out == o)

/-- The output's MODE and FORMAT. -/
def showOut (o mode fmt : Nat) (s : State) : State := s |> setF XPT_OUT_STATE.MODE o mode |> setF XPT_OUT_STATE.FORMAT o fmt

/-- Output `o` goes to a path of `src` of format `fmt`: its stream ends, and one of the new path begins where that path runs one. -/
def movePath (o src mode fmt : Nat) (s : State) : State :=
  let s := s |> endStream o |> showOut o mode fmt
  if runsStream mode then beginStream o src mode fmt s else s

/-- Count and flag an unsynchronised switch (R148). -/
def noteUnsync (o : Nat) (s : State) : State :=
  s |> bump32 XPT_OUT_UNSYNC_CNT.COUNT XPT_OUT_EVT.UNSYNC_OVF o |> raise [XPT_OUT_EVT.UNSYNC] o
    |> setXOut o (fun x => { x with sw := true })

/-- Count a switch: the output's source or path changed. The next cadence description carries SW where the source did (R119). -/
def noteSwitch (o : Nat) (source : Bool) (s : State) : State :=
  s |> bump32 XPT_OUT_SWITCH_CNT.COUNT XPT_OUT_EVT.SWITCH_OVF o |> setF XPT_OUT_EVT.SWITCH o 1
    |> setXOut o (fun x => { x with sw := x.sw || source })

/-- What a switch does besides the new MODE. -/
structure SwitchKind where
  mode : Nat
  fmt : Nat
  joinTo : Nat
  unsync : Bool
  fmtChange : Bool
  deriving DecidableEq, Repr

/-- How output `o` goes from its present path to `mode` of `src` (R145 to R148): into and out of FREE, or at the point of an
output whose running stream carries no identified format, unsynchronised; between equal formats clean; between different
formats by a format change; from fill by a join. -/
def switchKind (o src mode joinTo : Nat) (s : State) : SwitchKind :=
  let old := outMode o s
  let f := pathFormat o src mode s
  let running := runsStream old
  let blind := running && !belongs (outFmt o s) (outPlane o s) s
  if mode = mNone then { mode := mNone, fmt := 0, joinTo := mNone, unsync := blind || old == mFree, fmtChange := false }
  else if mode = mJoin then { mode := mJoin, fmt := 0, joinTo := joinTo, unsync := blind || old == mFree, fmtChange := false }
  else if mode = mFree || old = mFree then { mode := mode, fmt := f, joinTo := mode, unsync := true, fmtChange := false }
  else if !running then { mode := mJoin, fmt := 0, joinTo := mode, unsync := false, fmtChange := false }
  else if blind then { mode := mode, fmt := f, joinTo := mode, unsync := true, fmtChange := false }
  else if f = outFmt o s then { mode := mode, fmt := f, joinTo := mode, unsync := false, fmtChange := false }
  else { mode := mJoin, fmt := 0, joinTo := mode, unsync := false, fmtChange := true }

/-- The source's declared rate is not one the output slot allows (R149). -/
def overRate (o src : Nat) (s : State) : Bool :=
  !isSafety o s && srcKind src == kindInput && (match srcRate src s with | some r => !rateAllowed r (outSlotMode o s) | none => false)

/-- An output enters OVERRATE: its stream ends at the last whole line, fill follows, and the source stays selected (R149). -/
def enterOverrate (o : Nat) (s : State) : State :=
  s |> endLine o |> showOut o mOverrate 0 |> raise [XPT_OUT_EVT.OVERRATE] o |> setXOut o (fun x => { x with move := none, repath := none })

/-- The input feeds its own plane's output, and a return from FALLBACK or FREE is enabled (R151, R154). -/
def returns (o mode src : Nat) (s : State) : Bool :=
  srcKind src == kindInput && getF XPT_IN_CFG.PLANE (srcIndex src) s == outPlane o s
    && ((mode == mFallback && getB XPT_OUT_CFG.RETURN o s) || (mode == mFree && getB XPT_CFG.AUTO_REALIGN 0 s))

def orderMove (o mode : Nat) (s : State) : State := setXOut o (fun x => { x with move := some (mode, s.now + armLead) }) s

/-- An output that has come to FALLBACK or FREE while its input was already IN returns as the rule has it (R154). -/
def orderReturn (o mode src : Nat) (s : State) : State :=
  if returns o mode src s && inWin (srcIndex src) s = wIn then orderMove o mDirect s else s

/-- Make the switch of output `o` to `mode` of `src`; the answer is the qualifiers of a take that makes it. On a resting lane the slot
waits in WAKE, and counts an unsynchronised switch when it joins (R162). -/
def makeSwitch (o src mode joinTo : Nat) (wake : Bool) (s : State) : Nat × State :=
  let k := switchKind o src mode joinTo s
  let s := noteSwitch o (src != outSrc o s) s
  let s := setXOut o (fun x => { x with move := none, repath := none, joinTo := k.joinTo }) s
  if wake then
    ((if mode = mFallback then qFallback else 0) ||| qWake,
     s |> setXOut o (fun x => { x with joinTo := if mode = mJoin then joinTo else mode })
       |> movePath o src (if mode = mNone then mNone else if outState (o / 8) s = stActive then mJoin else mWake) 0)
  else
    let s := if k.unsync then noteUnsync o s else s
    let s := if k.fmtChange then raise [XPT_OUT_EVT.FMT] o s else s
    let q := (if mode = mFallback then qFallback else 0) ||| (if k.unsync then qUnsync else 0) ||| (if k.fmtChange then qFmt else 0)
    if mode != mNone && overRate o src s then (q, enterOverrate o s)
    else (q, s |> movePath o src k.mode k.fmt |> orderReturn o mode src)

/-! ### Points (R51, R142 to R144) -/

/-- The points at `base` plus whole periods include module time `x`. -/
def pointAt (pts : Nat × Nat) (x : Nat) : Bool := pts.1 ≤ x && (x - pts.1) % max 1 pts.2 < nsUnit

/-- Module time of the switching point of an armed take, where its plane stands now. -/
def Armed.point (a : Armed) (p : Nat) (s : State) : Int := boundaryOf p a.count s + a.after

/-- The armed take's point is at module time `x`. -/
def PendTake.at_ (p : PendTake) (x : Nat) (s : State) : Bool :=
  match p.armed with
  | some a => a.point (outPlane p.out s) s ≤ x && (x : Int) < a.point (outPlane p.out s) s + nsUnit
  | none => false

/-! ### Commits (R49, R150, R155, R164) -/

/-- A take that names the committed source of an output whose path needs no change (R150): in FALLBACK and FREE, where the path chosen is
the one it has. -/
def noSwitch (o src mode : Nat) (s : State) : Bool :=
  src == outSrc o s && (let m := outMode o s
    m == mDirect || m == mKennel || m == mHead || m == mJoin || m == mNone || ((m == mFallback || m == mFree) && m == mode))

/-- XPT_TAKE_CNT counts a committed take, member or restore take (R168). -/
def countTake (s : State) : State := bump64 XPT_TAKE_CNT.COUNT XPT_CNT_FLAGS.TAKE_WRAP 0 1 s

/-- Drop the pending takes that `p` names, and let PEND follow. -/
def dropPend (o : Nat) (p : PendTake → Bool) (s : State) : State :=
  let s := setXpt (fun x => { x with pend := x.pend.filter (fun q => !p q) }) s
  setB XPT_OUT_STATE.PEND o (pend o s) s

/-- An earlier take for the same point: a take completes with SUPERSEDED, a salvo member leaves its salvo's status and has not
committed (R49, R161, R163). -/
def supersede (t : Nat) (p : PendTake) (s : State) : State :=
  modCmd p.uid (fun c => { c with left := c.left - 1, superseded := c.superseded || c.opcode == 0x10,
                                  commitAt := if c.opcode = 0x10 then some (toLocal t s) else c.commitAt }) s

/-- Commit take `p` at module time `t` on a path (R164). One that needs no switch leaves a waiting automatic move as it is and keeps MODE,
also on a lane that rests; on a path of FALLBACK it has the qualifier FALLBACK (log entry 88). -/
def commitTake (t mode joinTo : Nat) (p : PendTake) (s : State) : State :=
  let o := p.out
  let stay := noSwitch o p.src mode s
  let (q, s) := if stay then ((if outMode o s = mFallback then qFallback else 0), s)
    else
      let s := setXOut o (fun x => { x with noFb := p.noFb }) s
      makeSwitch o p.src mode joinTo p.wake s
  let s := s |> setF XPT_OUT_SRC.SOURCE o p.src |> countTake
  let s := if p.noPst then s else storeRoute o p.src s
  if p.uid = 0 then s else memberDone p.uid t (if p.wake then q ||| qWake else q) s

/-- The takes of output `o` whose arm deadline has passed and whose point is at module time `t`, in acceptance order. -/
def dueTakes (o t : Nat) (s : State) : List PendTake := s.xpt.pend.filter (fun p => p.out == o && p.at_ t s)

/-- LEAD's choice of path for `o`, used by HEEL in place of its own (R509). -/
def leadPath (o : Nat) (s : State) : Option Nat :=
  s.twin.choices.findSome? (fun c => match c with | .path x m _ => if x = o then some m else none | _ => none)

def dropChoice (o : Nat) (s : State) : State :=
  setTwin (fun w => { w with choices := w.choices.filter (fun c => match c with | .path x _ _ => x != o | _ => true) }) s

/-- Apply the takes due on output `o` at `t`: the one accepted last commits, the others are superseded. -/
def applyTakes (o t : Nat) (s : State) : State :=
  let due := dueTakes o t s
  match due.getLast? with
  | none => s
  | some p =>
    let s := forEach due.dropLast (supersede t) s
    let own := choosePath o p.src p.noFb s
    let mode := match leadPath o s with | some m => m | none => (match p.armed with | some a => a.mode | none => own.1)
    let s := commitTake t mode (if mode = mJoin then own.2 else mode) p s
    dropPend o (fun q => due.contains q) (dropChoice o s)

/-! ### Automatic moves (R146, R152 to R154, R758) -/

/-- Outputs whose source is input slot `i`. -/
def fedBy (i : Nat) (s : State) : List Nat := indicesWhere XPT_OUT_SRC.SOURCE (· == srcInput i) s

/-- The path in use reads input slot's elastic buffer. -/
def isDirect (o : Nat) (s : State) : Bool := outMode o s == mDirect

/-- DIRECT or FREE outputs of an input that has left alignment, when a fall-back path exists, are moved to FALLBACK at the next
switching point whose arm deadline lies ahead (R152, R153). -/
def orderFallback (i : Nat) (o : Nat) (s : State) : State :=
  if fallbackPath o i (xout o s).noFb s then orderMove o mFallback s else s

/-- A window exit, or a format that is not declared in time: the output enters FREE at that word, and goes on with the next (R153,
R758). -/
def exitToFree (i o : Nat) (s : State) : State :=
  if isDirect o s then
    s |> noteSwitch o false |> noteUnsync o
      |> showOut o mFree (if belongs (inFmt i s) (outPlane o s) s then inFmt i s else 0)
      |> orderFallback i o
  else s

/-- Input loss: a DIRECT output is moved to FALLBACK where LOSS_FALLBACK and a path allow, and otherwise its stream ends where the input's
words end and it waits in JOIN at once (R152). The rule speaks of DIRECT outputs alone; one in FREE does the same (log entry 88). -/
def inputLoss (i o : Nat) (s : State) : State :=
  if isDirect o s || outMode o s = mFree then
    if isDirect o s && getB XPT_OUT_CFG.LOSS_FALLBACK o s && fallbackPath o i (xout o s).noFb s then orderMove o mFallback s
    else s |> endWith o (fun _ => true) |> showOut o mJoin 0 |> setXOut o (fun x => { x with joinTo := mDirect, move := none, repath := none })
  else s

/-- The input of a waiting output has left NOSIG: its path is taken again at the first switching point whose arm deadline lies
after the change (R146). -/
def inputReturn (o : Nat) (s : State) : State :=
  if outMode o s != mJoin then s
  else if overRate o (outSrc o s) s then enterOverrate o s
  else setXOut o (fun x => { x with repath := some (s.now + armLead) }) s

/-- The input has entered IN (R154). -/
def inputIn (o : Nat) (s : State) : State := if returns o (outMode o s) (outSrc o s) s then orderMove o mDirect s else s

/-- GUARD_NS as it acts (R167). -/
def guardNs (s : State) : Nat := clampNat 1000 7500 (getF XPT_CFG.GUARD_NS 0 s)
def reacqFrames (s : State) : Nat := max 1 (getF XPT_CFG.REACQ_FRAMES 0 s)

def setMeas (i : Nat) (f : Meas → Meas) (s : State) : State := setXpt (fun x => { x with meas := mmod {} x.meas i f }) s

/-- The loss measurement of R201 starts when the slot enters NOSIG or NOFMT, and ends when it leaves both. -/
def noteLoss (i : Nat) (was now : Bool) (s : State) : State :=
  if was = now then s else setMeas i (fun m => { m with lossSince := if now then some s.now else none }) s

/-- Enter a window state: the input's events and counter, and what its outputs do (R140, R152 to R154). -/
def enterWin (i w : Nat) (s : State) : State :=
  let old := inWin i s
  if old = w then s
  else
    let s := setF XPT_IN_STATUS.WIN i w s
    let s := if w = wNoSig || w = wNoFmt || w = wOffPlane then setF XPT_IN_PHASE.PHASE_NS i 0x80000000 s else s
    let s := noteLoss i (old = wNoSig || old = wNoFmt) (w = wNoSig || w = wNoFmt) s
    let s := if w = wNoSig then setXIn i (fun x => { x with measured := false }) s else s
    let s := if w = wIn || w = wGuard then s else setXIn i (fun x => { x with reacq := 0, settled := false }) s
    let s := if w = wGuard && old = wIn then raise [XPT_IN_EVT.GUARD] i s else s
    let s := if w = wOut || w = wOffPlane then
        s |> bump32 XPT_IN_EXIT_CNT.COUNT XPT_IN_EVT.EXIT_OVF i |> raise [XPT_IN_EVT.WIN_EXIT] i
      else s
    let s := if old = wNoSig then forEach (fedBy i s) inputReturn s else s
    if w = wNoSig then forEach (fedBy i s) (inputLoss i) s
    else if w = wGuard then forEach (fedBy i s) (fun o s => if isDirect o s then orderFallback i o s else s) s
    else if w = wOut || w = wOffPlane then forEach (fedBy i s) (exitToFree i) s
    else if w = wIn then forEach (fedBy i s) inputIn s
    else s

/-- The window state that a phase error in ns gives, GUARD and IN told apart by `settled` (R140). -/
def winOf (i : Nat) (e : Int) (s : State) : Nat :=
  if !belongs (inFmt i s) (getF XPT_IN_CFG.PLANE i s) s then wOffPlane
  else if 8000 < e.natAbs then wOut
  else if guardNs s < e.natAbs then wGuard
  else if (xin i s).settled then wIn
  else wGuard

/-- Record phase error `e` of an input with a declared format, and judge the window (R138, R140). -/
def judgeWin (i : Nat) (e : Int) (s : State) : State :=
  let s := setXIn i (fun x => { x with e := e, measured := true, beyond := x.beyond || guardNs s < e.natAbs }) s
  let w := winOf i e s
  let s := enterWin i w s
  if w = wOffPlane then s else setF XPT_IN_PHASE.PHASE_NS i (ofSigned 32 e) s

/-- At a plane frame boundary, inputs of the plane in GUARD count towards IN a plane frame in none of whose frames |e| exceeded GUARD_NS
(R140). -/
def reacquire (p i : Nat) (s : State) : State :=
  if getF XPT_IN_CFG.PLANE i s = p && inWin i s = wGuard && (xin i s).measured && !(xin i s).settled then
    let ok := !(xin i s).beyond && (xin i s).e.natAbs ≤ guardNs s
    let s := setXIn i (fun x => { x with beyond := false }) s
    if ok then
      let n := (xin i s).reacq + 1
      if reacqFrames s ≤ n then
        s |> setXIn i (fun x => { x with reacq := 0, settled := true }) |> raise [XPT_IN_EVT.WIN_ENTER] i |> enterWin i wIn
      else setXIn i (fun x => { x with reacq := n }) s
    else setXIn i (fun x => { x with reacq := 0 }) s
  else s

/-- FORMAT of an input changes (R141), and with it the format of its DIRECT and FREE outputs (R143, R149, R758). -/
def setInFmt (i f : Nat) (s : State) : State :=
  if inFmt i s = f then s
  else
    let s := s |> setF XPT_IN_STATUS.FORMAT i f |> raise [XPT_IN_EVT.FMT_CHANGE] i
    forEach (fedBy i s) (fun o s =>
      if isSafety o s then s
      else if (runsStream (outMode o s) || outMode o s = mJoin) && overRate o (outSrc o s) s then enterOverrate o s
      else if outMode o s = mOverrate && f != 0 && !overRate o (outSrc o s) s then
        s |> showOut o mJoin 0 |> setXOut o (fun x => { x with joinTo := mDirect, repath := some (s.now + armLead) })
      else if isDirect o s then setF XPT_OUT_STATE.FORMAT o f s
      else if outMode o s = mFree then setF XPT_OUT_STATE.FORMAT o (if belongs f (outPlane o s) s then f else 0) s
      else s) s

/-- Switching lines of the incoming stream of a waiting output, as points (R142, R146). -/
def joinPoints (o : Nat) (s : State) : Option (Nat × Nat) :=
  let f := pathFormat o (outSrc o s) (xout o s).joinTo s
  let p := outPlane o s
  if belongs f p s then some ((planeSt p s).boundary + tOut s + 6 * framePeriod (fmtRate f) / fmtLines f, framePeriod (fmtRate f)) else none

/-- The source of a waiting output gives a stream that is timed to the output reference point, whose switching line is at `t`; a source
for FREE is joined at the output's own point (R146). -/
def joinReady (o t : Nat) (s : State) : Bool :=
  let x := xout o s
  let i := srcIndex (outSrc o s)
  if isSafety o s then false
  else if x.joinTo = mFree then inWin i s != wNoSig && pointAt (switchPoints o s) t
  else
    (match joinPoints o s with | some pts => pointAt pts t | none => false)
      && (if x.joinTo = mDirect then inWin i s == wIn || inWin i s == wGuard else true)

/-- A waiting output joins its source. -/
def joinStream (o : Nat) (s : State) : State :=
  let m := (xout o s).joinTo
  let s := if m = mFree then noteUnsync o s else s
  movePath o (outSrc o s) m (pathFormat o (outSrc o s) m s) s

/-- An automatic move that waits is made at the output's switching point at `t` (R152 to R154). -/
def makeMove (o m : Nat) (s : State) : State :=
  let d := outSrc o s
  let s := setXOut o (fun y => { y with move := none }) s
  if m = mDirect then
    if inWin (srcIndex d) s = wIn then (makeSwitch o d mDirect mDirect false s).2 |> raise [XPT_OUT_EVT.RETURN] o else s
  else
    (makeSwitch o d mFallback mFallback false s).2
      |> bump32 XPT_OUT_FALLBACK_CNT.COUNT XPT_OUT_EVT.FALLBACK_OVF o |> raise [XPT_OUT_EVT.FALLBACK] o

/-- The path of a waiting output is taken again (R146). -/
def repathAt (o : Nat) (s : State) : State :=
  let c := choosePath o (outSrc o s) (xout o s).noFb s
  let s := setXOut o (fun y => { y with repath := none }) s
  if c.1 = mDirect || c.1 = mJoin then setXOut o (fun y => { y with joinTo := c.2 }) s
  else (makeSwitch o (outSrc o s) c.1 c.2 false s).2

/-- What output `o` does at its switching point at `t` where no take is due: its automatic move, or a new choice of path. -/
def autoMove (o t : Nat) (s : State) : State :=
  let x := xout o s
  match x.move with
  | some (m, nb) => if t < nb then s else makeMove o m s
  | none =>
    match x.repath with
    | some nb => if outMode o s = mJoin && nb ≤ t then repathAt o s else s
    | none => s

end Sys2Proof.Machine
end

