-- ==== Sys2Proof/Machine/KennelOps.lean ====
section
/-! DEFINITION. The kennel's operations: the writer of an allocation, its readers, loss and format change, freeze and stills
(R179 to R200). -/

namespace Sys2Proof.Machine

/-! ### Allocations -/

def allocFmtMax (a : Nat) (s : State) : Nat := getF KNL_ALLOC_CFG.FMT_MAX a s
def allocSlots (a : Nat) (s : State) : Nat := getF KNL_ALLOC_CFG.N_F a s
def allocWriter (a : Nat) (s : State) : Nat := getF KNL_ALLOC_CFG.WRITER a s

/-- A writer writes it. -/
def written (cls : Nat) : Bool := cls == clFsync || cls == clDelay || cls == clFlowRx

/-- FSYNC and DELAY allocations of an input slot, which its write channel writes (R182). -/
def allocsOf (i : Nat) (s : State) : List Nat := (fsyncOf i s).toList ++ (delayOf i s).toList

/-- A frame of format `f` fits the allocation's frame slots (R193, R194). -/
def fits (a f : Nat) (s : State) : Bool := framePages f ≤ framePages (allocFmtMax a s)

def frozen (a : Nat) (s : State) : Bool := getB KNL_ALLOC_STATUS.FROZEN a s

/-- The writer's input gives no frame ends or starts: it is in loss, or has not begun (log entry 16). In a format change it gives them. -/
def noFrames (a : Nat) (s : State) : Bool :=
  if allocClass a s = clFlowRx then getB KNL_ALLOC_STATUS.LOSS a s || !(alloc a s).started
  else inWin (allocWriter a s) s == wNoSig || (inWin (allocWriter a s) s == wNoFmt && !(alloc a s).changing)

/-! ### The writer -/

/-- The writer stops: the frame in progress is not completed. -/
def stopWriting (a : Nat) (s : State) : State :=
  setAlloc a (fun x => { x with writing := false, damaged := false, anc := [] }) s

/-- At a frame start of format `f` the writer begins to write, unless the allocation is frozen, a stack has failed or the format does not fit
(R192 to R194, R198). -/
def writerStart (a f : Nat) (s : State) : State :=
  if frozen a s || stacksBad s then stopWriting a s
  else if !fits a f s then
    s |> setF KNL_ALLOC_STATUS.SIZE a 1 |> raise [KNL_ALLOC_EVT.SIZE] a |> stopWriting a
      |> setAlloc a (fun x => { x with changing := false })
  else
    s |> setF KNL_ALLOC_STATUS.SIZE a 0
      |> setAlloc a (fun x => { x with writing := true, damaged := false, anc := [], changing := false, fmt := f })

/-- The writer is in loss (R191): one that has completed no frame shows none. -/
def writerLoss (a : Nat) (s : State) : State :=
  let s := s |> stopWriting a |> setAlloc a (fun x => { x with changing := false })
  if (alloc a s).started && !getB KNL_ALLOC_STATUS.LOSS a s then
    s |> setF KNL_ALLOC_STATUS.LOSS a 1 |> raise [KNL_ALLOC_EVT.LOSS] a
  else s

/-- A complete frame (R186, R192). -/
def frameComplete (a t : Nat) (picture : List Word10) (vpid : Option Nat) (s : State) : State :=
  let x := alloc a s
  let ps := x.anc.reverse
  let k : KFrame := { num := x.next, fmt := x.fmt, endAt := t, picture := picture, packets := ps.map (·.2), vpid := vpid,
                      second := (List.range ps.length).filter (fun i => (ps.map (·.1)).getD i false) }
  let s := setAlloc a (fun y => { y with frames := (k :: y.frames).take (allocSlots a s), next := y.next + 1, started := true }) s
  let s := s |> setF KNL_ALLOC_STATUS.VALID a 1 |> setF KNL_ALLOC_STATUS.FORMAT a x.fmt
  if getB KNL_ALLOC_STATUS.LOSS a s then s |> setF KNL_ALLOC_STATUS.LOSS a 0 |> raise [KNL_ALLOC_EVT.RESTORE] a else s

/-- The frame in progress ends at `t`: it is complete unless it is damaged. -/
def writerFrameEnd (a t : Nat) (picture : List Word10) (vpid : Option Nat) (s : State) : State :=
  let x := alloc a s
  let s := if x.writing && !x.damaged then frameComplete a t picture vpid s else s
  setAlloc a (fun y => { y with lastEnd := t, anc := [], damaged := false }) s

/-- Bytes of an ancillary area, and of a packet of words stored at 10 bits a word (R179, R180; log entry 17). -/
def ancAreaBits (f : Nat) : Nat := ancPages f * 65536 * 8
def packetBits (w : List Word10) : Nat := 10 * w.length
def storedBits (ps : List (List Word10)) : Nat := ps.foldl (fun n p => n + packetBits p) 0

/-- Store an ancillary packet in the frame in progress, in its second field where `second`, or drop and count it (R180). -/
def storePacket (a : Nat) (second : Bool) (p : List Word10) (s : State) : State :=
  let x := alloc a s
  if !x.writing then s
  else if storedBits (x.anc.map (·.2)) + packetBits p ≤ ancAreaBits x.fmt then setAlloc a (fun y => { y with anc := (second, p) :: y.anc }) s
  else s |> bump32 KNL_ALLOC_ANC_DROP.COUNT KNL_ALLOC_EVT.ANC_OVF a |> raise [KNL_ALLOC_EVT.ANC_DROP] a

/-- The input slot has entered NOSIG, or NOFMT other than in a format change: its writers are in loss (R191). -/
def inputWriterLoss (i : Nat) (s : State) : State := forEach (allocsOf i s) writerLoss s

/-! ### Freeze (R198, R199) -/

/-- Allocation commands of op `0` FREEZE and `1` UNFREEZE due at `t`. -/
def dueFreezes (a t : Nat) (s : State) : List PendKnl := (alloc a s).pend.filter (fun p => p.op != 2 && p.due.reached t s)

/-- Apply the FREEZE and UNFREEZE due at `t`: the one accepted last applies, the others are superseded. -/
def applyFreezes (a t : Nat) (restart : State → State) (s : State) : State :=
  let due := dueFreezes a t s
  match due.getLast? with
  | none => s
  | some p =>
    let s := forEach due.dropLast (fun q s => modCmd q.uid (fun c => { c with superseded := true, left := c.left - 1, commitAt := some (toLocal t s) }) s) s
    let s := setAlloc a (fun x => { x with pend := x.pend.filter (fun q => q.op == 2 || !q.due.reached t s) }) s
    let s := if p.op = 0 then s |> setF KNL_ALLOC_STATUS.FROZEN a 1 |> stopWriting a
      else s |> setF KNL_ALLOC_STATUS.FROZEN a 0 |> restart
    memberDone p.uid t 0 s

/-! ### Readers (R184, R186 to R192) -/

/-- Transmit VIDEO and ANC contexts that read allocation `a` on plane `p` (R184, R410). -/
def flowReads (a p : Nat) (s : State) : List Nat :=
  (indicesWhere FLW_TX_STATUS.EN (· == 1) s).filter (fun c =>
    (getF FLW_TX_CFG.KIND c s == 1 || getF FLW_TX_CFG.KIND c s == 2) && getF FLW_TX_CFG.PLANE c s == p && getF FLW_TX_REC.WORD (8 * c + 6) s % 8192 == a)

/-- Output slots of plane `p` that read allocation `a`. -/
def outReads (a p : Nat) (s : State) : List Nat :=
  let direct := (indicesWhere XPT_OUT_SRC.SOURCE (· == 2 ^ 31 + a) s).filter (fun o => outMode o s == mKennel)
  let fb := if allocClass a s = clFsync then (fedBy (allocWriter a s) s).filter (fun o => outMode o s == mFallback) else []
  (direct ++ fb).filter (fun o => outPlane o s == p)

/-- The reader serves an output slot or a transmit flow. -/
def serves (a p : Nat) (s : State) : Bool := outReads a p s != [] || flowReads a p s != []

/-- Delay of a DELAY allocation in frames (R181). -/
def delayFrames (a : Nat) (s : State) : Nat := if allocClass a s = clDelay then allocSlots a s - 3 else 0

def frameNo (a n : Nat) (s : State) : Option KFrame := (alloc a s).frames.find? (fun k => k.num == n)

/-- Frames the reader can move to at `t`: after `shown`, of a format of its plane, oldest first (R186, R189). -/
def candidates (a p t : Nat) (shown : Nat) (s : State) : List KFrame :=
  ((alloc a s).frames.filter (fun k => shown < k.num && k.endAt ≤ t && belongs k.fmt p s)).reverse

/-- What R186 chooses: the new `shown`, and whether the choice repeats or drops. -/
inductive ReadChoice where
  | none
  | first (n : Nat)
  | repeat (n : Nat)
  | next (n : Nat)
  | drop (n : Nat)
  deriving DecidableEq, Repr

def marginNs : Nat := 100 * nsUnit

/-- The choice of R186 at output reference point `t`. -/
def chooseFrame (a p t : Nat) (s : State) : ReadChoice :=
  match (reader a p s).shown with
  | none =>
    match (alloc a s).frames.find? (fun k => k.endAt + marginNs ≤ t && belongs k.fmt p s) with
    | some k => .first k.num
    | none => .none
  | some n =>
    match candidates a p t n s with
    | [] => .repeat n
    | [k] => .next k.num
    | k :: l :: _ => if l.endAt + marginNs ≤ t then .drop l.num else .next k.num

/-- LEAD's frame choice for the reader (R509). -/
def leadFrame (a p : Nat) (s : State) : Option Nat :=
  s.twin.choices.findSome? (fun c => match c with | .reader x q n _ => if x = a && q = p then some n else none | _ => none)

def dropReaderChoice (a p : Nat) (s : State) : State :=
  setTwin (fun w => { w with choices := w.choices.filter (fun c => match c with | .reader x q _ _ => !(x == a && q == p) | _ => true) }) s

/-- A choice of LEAD stands where the frame it names is held and complete; otherwise `shown` is repeated (R509). -/
def takeLead (a p t : Nat) (n : Nat) (s : State) : ReadChoice :=
  let ok := match frameNo a n s with | some k => decide (k.endAt ≤ t) && belongs k.fmt p s | none => false
  match (reader a p s).shown with
  | none => if ok then .first n else .none
  | some m => if !ok || n ≤ m then .repeat m else if n = m + 1 then .next n else .drop n

/-- Reader counters (R184, R213): only while it serves. -/
def countRepeat (a p : Nat) (s : State) : State :=
  if serves a p s then s |> bump32 KNL_ALLOC_REPEAT_CNT.COUNT KNL_ALLOC_EVT.REPEAT_OVF a |> raise [KNL_ALLOC_EVT.SLIP] a else s
def countDrop (a p : Nat) (s : State) : State :=
  if serves a p s then s |> bump32 KNL_ALLOC_DROP_CNT.COUNT KNL_ALLOC_EVT.DROP_OVF a |> raise [KNL_ALLOC_EVT.SLIP] a else s

/-- Ancillary packets of a frame: those stored, or what host software has written into its ancillary area (R179, R200). -/
def framePackets (k : KFrame) : List (List Word10) := if k.ancBytes = [] then k.packets else Config.ancPackets k.packets k.ancBytes

/-- Picture lines in the order of transmission: an interlaced or PsF frame sends its odd lines and then its even ones (R226, R239). -/
def transmitOrder (f : Nat) (picture : List Word10) : List Word10 :=
  if !isInterlaced f then picture
  else
    let line (y : Nat) : List Word10 := (picture.drop (2 * fmtWidth f * y)).take (2 * fmtWidth f)
    let n := fmtHeight f
    (List.range (n / 2)).flatMap (fun k => line (2 * k)) ++ (List.range (n / 2)).flatMap (fun k => line (2 * k + 1))

/-- Words the reader sends for a frame; a repeated frame leaves its audio data packets out (R187, R190). -/
def frameWords (k : KFrame) (again : Bool) : List Word10 :=
  Config.sdiFrame k.fmt (transmitOrder k.fmt k.picture) (if again then (framePackets k).filter (fun w => !Config.isAudioData w) else framePackets k) k.vpid

def blankPicture (f : Nat) : List Word10 := List.replicate (fmtWidth f * fmtHeight f * 2) 0#10

/-- The black frame of R191: luma 0x040, chroma 0x200, no packet but a regenerated payload identifier. -/
def blackFrame (f : Nat) : KFrame :=
  { fmt := f, picture := (List.range (fmtWidth f * fmtHeight f)).flatMap (fun _ => [0x200#10, 0x040#10]), vpid := some (Config.vpidOf f) }

/-- The outputs that read the allocation take on the reader's format; NONE is 0 (R191, R193). -/
def showReader (a p : Nat) (s : State) : State := forEach (outReads a p s) (fun o s => setF XPT_OUT_STATE.FORMAT o (readerFmt a p s) s) s

/-- BLACK_OUT shows whether a reader applies LOSS_ACTION (R211). -/
def showBlackOut (a : Nat) (s : State) : State :=
  setB KNL_ALLOC_STATUS.BLACK_OUT a ((alloc a s).readers.any (fun r => r.2.blackOut)) s

/-- The reader sends a frame, from its output reference point on. -/
def sendFrame (a p : Nat) (k : KFrame) (again : Bool) (s : State) : State :=
  let r := reader a p s
  let s := if r.fmt != 0 && r.fmt != k.fmt then raise [KNL_ALLOC_EVT.FMT] a s else s
  s |> setReader a p (fun x => { x with fmt := k.fmt, frame := some k, blackOut := false, stream := x.stream.begin k.fmt s.now (frameWords k again) })
    |> showReader a p |> showBlackOut a

/-- The reader sends nothing. -/
def sendNone (a p : Nat) (s : State) : State := s |> setReader a p (fun x => { x with frame := none }) |> showReader a p

/-- LOSS_ACTION: the reader sends black frames of the format it sent last, or nothing (R191). -/
def sendLoss (a p : Nat) (black : Bool) (s : State) : State :=
  let s := if black then sendFrame a p (blackFrame (reader a p s).fmt) false s else sendNone a p s
  s |> setReader a p (fun x => { x with blackOut := true }) |> showBlackOut a

/-- The reader has no frame to move to because the writer is in loss, stopped by size, or writes no format of its plane. -/
def readerLoss (a p : Nat) (s : State) : Bool :=
  getB KNL_ALLOC_STATUS.LOSS a s || getB KNL_ALLOC_STATUS.SIZE a s
    || (match (alloc a s).frames.head? with | some k => !belongs k.fmt p s | none => false)

/-- The frame a reader sends when `n` is its `shown`: a DELAY reader sends an earlier one (R188). -/
def sentNo (a n : Nat) (s : State) : Option KFrame := if n < delayFrames a s then none else frameNo a (n - delayFrames a s) s

/-- Send the frame that `shown` = `n` names. A DELAY reader that reaches a frame of a format not of its plane repeats what it sends
(R188, R189). -/
def sendShown (a p n : Nat) (again : Bool) (s : State) : State :=
  match sentNo a n s with
  | some k =>
    if belongs k.fmt p s then sendFrame a p k again s
    else match (reader a p s).frame with
      | some k => sendFrame a p k true s
      | none => sendNone a p s
  | none => sendNone a p s

/-- Repeat `shown`: without counting while frozen (R198); in loss LOSS_ACTION follows after LOSS_FRAMES repeats (R191), but not
while a freeze holds (R199). -/
def repeatShown (a p n : Nat) (s : State) : State :=
  if frozen a s then sendShown a p n true s
  else if !readerLoss a p s then s |> countRepeat a p |> sendShown a p n true
  else
    let r := reader a p s
    if getF KNL_ALLOC_CTL.LOSS_ACTION a s = 0 || r.lossRepeats < getF KNL_ALLOC_CTL.LOSS_FRAMES a s then
      s |> countRepeat a p |> setReader a p (fun x => { x with lossRepeats := x.lossRepeats + 1 }) |> sendShown a p n true
    else sendLoss a p (getF KNL_ALLOC_CTL.LOSS_ACTION a s = 1) s

/-- Carry out a choice. -/
def actOn (a p : Nat) (c : ReadChoice) (s : State) : State :=
  let moveTo (n : Nat) (s : State) : State :=
    s |> setReader a p (fun x => { x with shown := some n, lossRepeats := 0 }) |> sendShown a p n false
  match c with
  | .none => sendNone a p s
  | .first n => moveTo n s
  | .next n => moveTo n s
  | .drop n => s |> countDrop a p |> moveTo n
  | .repeat n => repeatShown a p n s

/-! ### Stills (R196, R200) -/

def stillFrame (a n : Nat) (s : State) : Option KFrame := ((alloc a s).stills.find? (fun x => x.1 == n)).map (·.2)

/-- Planes whose readers a STILL_SELECT waits for: those that output slots or transmit VIDEO contexts are assigned to
(R184). -/
def planesRead (s : State) : List Nat :=
  (planesOn s).filter (fun p =>
    indicesWhere LNO_GRP_CFG.ENABLED (· == 1) s != [] && (List.range 16384).any (fun o => outUsed o s && outPlane o s == p)
      || (indicesWhere FLW_TX_CFG.KIND (· == 1) s).any (fun c => getF FLW_TX_CFG.PLANE c s == p))

/-- A STILL reader takes the selections due at `t`, and a selection every reader has taken is committed. -/
def applySelect (a p t : Nat) (s : State) : State :=
  let due := (alloc a s).pend.filter (fun q => q.op == 2 && q.planes.contains p && q.due.reached t s)
  forEach due (fun q s =>
    let s := setF KNL_ALLOC_STATUS.SELECT a q.index s
    let left := q.planes.filter (· != p)
    let s := setReader a p (fun x => { x with shown := some q.index }) s
    if left = [] then
      s |> setAlloc a (fun x => { x with pend := x.pend.filter (fun y => y.uid != q.uid || y.op != 2) }) |> memberDone q.uid t 0
    else setAlloc a (fun x => { x with pend := x.pend.map (fun y => if y.uid = q.uid ∧ y.op = 2 then { y with planes := left } else y) }) s) s

/-- A STILL reader sends the frame selected for its plane, nothing where that frame holds none. -/
def sendStill (a p t : Nat) (s : State) : State :=
  let s := applySelect a p t s
  let n := (reader a p s).shown.getD (getF KNL_ALLOC_STATUS.SELECT a s)
  match stillFrame a n s with
  | some k => if belongs k.fmt p s then sendFrame a p k false s else sendNone a p s
  | none => sendNone a p s

/-- One output reference point of a reader. -/
def readerPoint (a p t : Nat) (s : State) : State :=
  let s := setReader a p (fun x => { x with at_ := t }) s
  if allocClass a s = clStill then sendStill a p t s
  else if !written (allocClass a s) then s
  else
    let s := if noFrames a s then applyFreezes a t id s else s
    let c := match leadFrame a p s with | some n => takeLead a p t n s | none => chooseFrame a p t s
    s |> dropReaderChoice a p |> actOn a p c

/-- Stop an allocation as at an IMAGE reset or restart: no frame, no reader has a `shown` frame (R191). -/
def restartAlloc (a : Nat) (s : State) : State :=
  s |> setAlloc a (fun x => { x with frames := [], next := 0, started := false, writing := false, damaged := false, anc := [],
                                     changing := false, readers := [] })
    |> resetFs [KNL_ALLOC_STATUS.FORMAT, KNL_ALLOC_STATUS.SIZE, KNL_ALLOC_STATUS.BLACK_OUT, KNL_ALLOC_STATUS.LOSS, KNL_ALLOC_STATUS.VALID] a

end Sys2Proof.Machine
end

