-- ==== Sys2Proof/Machine/AudOps.lean ====
section
/-! DEFINITION. Channel rings, their writers and readers, embedders and length changes (R273 to R292). -/

namespace Sys2Proof.Machine

def setAud (f : AudState → AudState) (s : State) : State := { s with aud := f s.aud }
def ring (r : Nat) (s : State) : Ring := mget {} s.aud.rings r
def setRing (r : Nat) (f : Ring → Ring) (s : State) : State := setAud (fun a => { a with rings := mmod {} a.rings r f }) s

/-! ### Where a ring belongs (R273, R277) -/

def wkNone : Nat := 0
def wkDeembed : Nat := 1
def wkFlow : Nat := 2
def wkReed : Nat := 3

def ringWriter (r : Nat) (s : State) : Nat := getF AUD_RING_CFG.WKIND r s
def ringExtent (r : Nat) (s : State) : Bool := r < 262144 && getF AUD_RING_CFG.CAP_LOG2 r s != 0
def ringLen (r : Nat) (s : State) : Nat := 2 ^ getF AUD_RING_CFG.LEN_LOG2 r s
def ring96 (r : Nat) (s : State) : Bool := getB AUD_RING_CFG.R96 r s

/-- Home ring of channel `c` of input slot `i` (8 * lane + slot) in `n`-slot mode (R273). -/
def homeRing (n i c : Nat) : Nat := 128 * (i / 8) + 16 * (i % 8 + n * (c / 16)) + c % 16

/-- Input slot and channel whose home ring `r` is, in `n`-slot mode. -/
def homeSlot (n r : Nat) : Nat := 8 * (r / 128) + r % 128 / 16 % n
def homeChannel (n r : Nat) : Nat := 16 * (r % 128 / 16 / n) + r % 16

def laneSlots (l : Nat) (s : State) : Nat := slotsOf (getF LNI_PAY_CFG.SLOT_MODE l s)
def ringSlot (r : Nat) (s : State) : Nat := homeSlot (laneSlots (r / 128) s) r
def ringGroup (r : Nat) (s : State) : Nat := homeChannel (laneSlots (r / 128) s) r / 4

/-- Rings that have an extent. -/
def ringsHere (s : State) : List Nat := indicesWhere AUD_RING_CFG.CAP_LOG2 (· != 0) s

/-! ### Reading (R279) -/

/-- Word at position W - k, for k from 1. -/
def ringWord (r k : Nat) (s : State) : Nat := (ring r s).words.getD (k - 1) (ring r s).blank

/-- The 16 samples that a reader of latency `lat` takes, oldest first. -/
def readRing (r lat : Nat) (s : State) : List Nat := (List.range 16).map (fun j => ringWord r (lat - j) s)

/-! ### Committing (R278, R280 to R282) -/

/-- Silence of R277: zero with V = 1. -/
def muteWord : Nat := 0x80

/-- Sample periods of 48 kHz in units of time, rounded down. -/
def samplePeriod : Nat := secUnit / 48000

/-- Put 16 words into a ring. -/
def pushWords (r : Nat) (ws : List Nat) (s : State) : State :=
  setRing r (fun x => { x with words := (ws.reverse ++ x.words).take (ringLen r s) }) s

/-- Pad a list to 16 by repeating its last word, or `w` where it is empty. -/
def padLast (w : Nat) (ws : List Nat) : List Nat := ws ++ List.replicate (16 - ws.length) (ws.getLastD w)

/-- Missing positions between samples `d` units apart. -/
def missing (d : Nat) : Nat := (d + samplePeriod / 2) / samplePeriod - 1

/-- Positions after a sample that no accepted sample fills take its word (R401). -/
def repeats (p : Nat × Nat) (n : Nat) : List (Nat × Nat) := (List.range n).map (fun k => (p.1 + (k + 1) * samplePeriod, p.2))

/-- A flow's due samples after the sample before them, with the positions filled that no accepted sample fills (R401); the answer says
whether there were any. `t` is the boundary. -/
def conceal (t : Nat) : Option (Nat × Nat) → List (Nat × Nat) → List (Nat × Nat) × Bool
  | none, [] => ([], false)
  | some p, [] =>
    let n := (t - 1 - p.1) / samplePeriod
    (repeats p n, n != 0)
  | none, x :: xs => let (ys, c) := conceal t (some x) xs; (x :: ys, c)
  | some p, x :: xs =>
    let n := missing (x.1 - p.1)
    let (ys, c) := conceal t (some x) xs
    (repeats p n ++ x :: ys, c || n != 0)

/-- Count a slip of ring `r`'s writer (R280). -/
def countSlip (r : Nat) (s : State) : State :=
  if ringWriter r s = wkDeembed then
    s |> bump32 AUD_IN_SLIP_CNT.COUNT AUD_IN_STATUS.SLIP_OVF (ringSlot r s) |> raise [AUD_IN_STATUS.SLIP] (ringSlot r s)
  else
    s |> bump32F FLW_RX_SLIP.COUNT FLW_RX_FLAGS.OVF 7 (getF AUD_RING_CFG.WRITER r s) 1
      |> raise [FLW_RX_EVT.SLIP] (getF AUD_RING_CFG.WRITER r s)

/-- A block of a context in which positions were filled counts once (R401). -/
def countConceal (c : Nat) (s : State) : State :=
  if s.aud.concealed.contains c then s
  else s |> setAud (fun a => { a with concealed := c :: a.concealed }) |> bump32F FLW_RX_CONCEAL.COUNT FLW_RX_FLAGS.OVF 8 c 1

/-- LEAD's slip for ring `r` at block `m` (R282). -/
def leadSlip (r m : Nat) (s : State) : Option Int :=
  s.twin.choices.findSome? (fun c => match c with | .slip q d n => if q = r && n = m then some d else none | _ => none)

/-- HEEL follows LEAD's slips while the twin link is up. -/
def followsSlips (s : State) : Bool := role s == roleHeel && getB TWN_STATUS.LINK_UP 0 s

/-- A slip is counted, and LEAD sends it. -/
def slipped (r m : Nat) (d : Int) (s : State) : State :=
  let s := countSlip r s
  if role s = roleLead then sendTwin (.decision (.slip r d m)) s else s

/-- The slip of a writer that holds `n` due samples: below 0 a repeat slip of so many, above a drop slip; LEAD's where HEEL follows it
(R280, R282). -/
def slipOf (r m n : Nat) (s : State) : Int :=
  match (if followsSlips s then leadSlip r m s else none) with
  | some d => d
  | none => if n < 16 then (n : Int) - 16 else if 18 < n && !followsSlips s then 1 else 0

/-- Rings that commit as one writer: a 96 kHz pair with one writer, or a single ring; empty for the odd ring of such a pair (R276). -/
def pairWith (r : Nat) (s : State) : List Nat :=
  let same (q : Nat) : Bool := ring96 r s && ringWriter q s == ringWriter r s
    && getF AUD_RING_CFG.WRITER q s == getF AUD_RING_CFG.WRITER r s
  if r % 2 = 0 && same (r + 1) then [r, r + 1]
  else if r % 2 = 1 && same (r - 1) then []
  else [r]

/-- Due samples of a ring at the boundary `t`, with a flow's missing positions filled, and the later ones it holds. -/
def dueOf (r t : Nat) (s : State) : List (Nat × Nat) × List (Nat × Nat) × Bool :=
  let x := ring r s
  let due := x.held.filter (fun p => p.1 < t)
  let later := x.held.filter (fun p => !(p.1 < t))
  if ringWriter r s = wkFlow then
    let (ws, c) := conceal t (if due.length ≤ x.left then none else x.last) due
    (ws, later, c)
  else (due, later, false)

/-- Commit 16 of a ring's due samples with the slip `d`; the rest of them stay held. -/
def writeDue (d : Int) (ws later : List (Nat × Nat)) (r : Nat) (s : State) : State :=
  let k := if d < 0 then 16 - (-d).toNat else 16
  let rest := (ws.drop k).drop d.toNat
  s |> pushWords r (padLast (ringWord r 1 s) ((ws.take k).map (·.2)))
    |> setRing r (fun x => { x with held := rest ++ later, left := rest.length, lost := false,
                                    last := match (ws.take k).getLast? with | some p => some p | none => x.last })
    |> setF AUD_RING_STATUS.MUTE r 0

/-- A block of silence (R277, R281). -/
def commitSilence (r : Nat) (s : State) : State :=
  s |> pushWords r (List.replicate 16 muteWord) |> setRing r (fun x => { x with last := none }) |> setF AUD_RING_STATUS.MUTE r 1

/-- The source has ceased to deliver to ring `r`: silence, and LOSS at the first such block (R281). -/
def commitLoss (r : Nat) (s : State) : State :=
  let first := !(ring r s).lost
  let s := s |> commitSilence r |> setRing r (fun x => { x with lost := true })
  if !first then s
  else if ringWriter r s = wkDeembed then raise [AUD_IN_STATUS.LOSS] (ringSlot r s) s
  else raise [FLW_RX_EVT.LOSS] (getF AUD_RING_CFG.WRITER r s) s

/-- The de-embedder writes the ring's group: it is enabled and its announced rate is the ring's (R286). -/
def groupLive (r : Nat) (s : State) : Bool :=
  (getF AUD_IN_MASK.GROUPS (ringSlot r s) s).testBit (ringGroup r s)
    && !((mget ({} : InAud) s.aud.ins (ringSlot r s)).bad).testBit (ringGroup r s)

/-- A word begins an AES3 channel-status block, and the bit that marks non-PCM data: the second of the block (R286; log entry 25). -/
def dataBit (a b : Nat) : Option Bool := if bit a 4 && !bit b 4 then some (bit b 5) else none

/-- What the channel status in `ws`, which follow the word `w`, says last of the data (R286). -/
def dataIn (w : Nat) (ws : List Nat) : Option Bool := (((w :: ws).zip ws).filterMap (fun p => dataBit p.1 p.2)).getLast?

/-- The writer takes channel status from its source: DEEMBED, or an ST 2110-31 flow (R286, R288). -/
def ownStatus (r : Nat) (s : State) : Bool :=
  ringWriter r s == wkDeembed || (ringWriter r s == wkFlow && getF FLW_RX_CFG.KIND (getF AUD_RING_CFG.WRITER r s) s == 4)

/-- DATA of rings that have committed a block: what their channel status marks, that of a pair in both rings in turn (R276, R310). -/
def noteData (rs : List Nat) (s : State) : State :=
  match rs with
  | [] => s
  | r :: _ =>
    let cols := rs.map (fun q => (ringWord q 17 s, readRing q 16 s))
    let seq := (List.range 16).flatMap (fun j => cols.map (fun c => c.2.getD j 0))
    let before := match cols.getLast? with | some c => c.1 | none => 0
    match (if ownStatus r s then dataIn before seq else none) with
    | some d => forEach rs (fun q s => setB AUD_RING_STATUS.DATA q d s) s
    | none => s

/-- The commit of a DEEMBED or FLOW writer into `rs` at the boundary `t` that begins block `m`. -/
def commitHeld (m t : Nat) (rs : List Nat) (s : State) : State :=
  match rs with
  | [] => s
  | r :: _ =>
    let x := ring r s
    let later := fun (q : Nat) (s : State) => setRing q (fun x => { x with held := x.held.filter (fun p => !(p.1 < t)), left := 0, lost := false }) s
    if ringWriter r s = wkDeembed && !groupLive r s then s |> forEach rs later |> forEach rs commitSilence
    else if (x.held.filter (fun p => p.1 < t)).length ≤ x.left then forEach rs commitLoss s
    else
      let d := slipOf r m (dueOf r t s).1.length s
      let s := if (dueOf r t s).2.2 then countConceal (getF AUD_RING_CFG.WRITER r s) s else s
      let s := forEach rs (fun q s => writeDue d (dueOf q t s).1 (dueOf q t s).2.1 q s) s
      let s := if d = 0 then s else slipped r m d s
      noteData rs s

/-! ### Write-back (R294) -/

/-- Q1.31 to a ring word: 24 bits by round half up, low byte 0. -/
def backWord (x : Nat) : Nat :=
  if 0x7FFFFF80 ≤ toSigned 32 x then 0x7FFFFF00 else (x + 0x80) % 2 ^ 32 / 256 * 256

def reed (e : Nat) (s : State) : Reed := mget {} s.reed.engines e
def setReedS (f : ReedState → ReedState) (s : State) : State := { s with reed := f s.reed }
def setReed (e : Nat) (f : Reed → Reed) (s : State) : State := setReedS (fun r => { r with engines := mmod {} r.engines e f }) s

/-- The commit of any ring. -/
def commitRing (m t r : Nat) (s : State) : State :=
  let k := ringWriter r s
  if k = wkReed then
    let w := getF AUD_RING_CFG.WRITER r s
    let b := (reed (w / 512) s).back
    s |> setF AUD_RING_STATUS.MUTE r 0 |> pushWords r ((List.range 16).map (fun j => backWord (mget 0 b (16 * (w % 512) + j))))
  else if k = wkNone then commitSilence r s
  else commitHeld m t (pairWith r s) s

/-! ### Length changes (R283, R284) -/

/-- Readers of rings `rs` get their latency reduced to `len`; the answer says whether any did. -/
def clampGroups (rs : List Nat) (len : Nat) (l : List (Nat × EmbGroup)) : List (Nat × EmbGroup) × Bool :=
  let hit (g : EmbGroup) : Bool := g.rings.any (fun x => match x with | some r => rs.contains r | none => false)
  (l.map (fun p => if hit p.2 then (p.1, { p.2 with lat := min len p.2.lat }) else p), l.any (fun p => hit p.2 && len < p.2.lat))

def clampFills (rs : List Nat) (len : Nat) (l : List (Nat × Nat × Nat)) : List (Nat × Nat × Nat) :=
  l.map (fun p => if rs.contains p.2.1 then (p.1, p.2.1, min len p.2.2) else p)

/-- Rings that an enabled transmit audio context reads (R411). -/
def txAudio (c : Nat) (s : State) : Bool := getF FLW_TX_CFG.KIND c s == 3 || getF FLW_TX_CFG.KIND c s == 4
def txWord (c k : Nat) (s : State) : Nat := getF FLW_TX_REC.WORD (8 * c + k) s
def txFirstRing (c : Nat) (s : State) : Nat := bits (txWord c 6 s) 0 18
def txLat (c : Nat) (s : State) : Nat := bits (txWord c 6 s) 18 11
def txChannels (c : Nat) (s : State) : Nat := bits (txWord c 7 s) 13 6 + 1
def txReads (c r : Nat) (s : State) : Bool :=
  txAudio c s && txFirstRing c s ≤ r && r < txFirstRing c s + txChannels c s * (if ring96 (txFirstRing c s) s then 2 else 1)

/-- Transmit contexts that read ring `r` with more than `len`. -/
def longFlows (r len : Nat) (s : State) : List Nat :=
  (indicesWhere FLW_TX_STATUS.EN (· == 1) s).filter (fun c => txReads c r s && len < txLat c s)

/-- Ring `r` takes the length 2^`n`. -/
def resizeRing (n r : Nat) (s : State) : State :=
  let old := ringLen r s
  let len := 2 ^ n
  s |> setRing r (fun x =>
      if len < old then { x with words := x.words.take len }
      else if old < len then { x with words := x.words ++ List.replicate (old - x.words.length) x.blank, blank := muteWord }
      else x)
    |> setF AUD_RING_CFG.LEN_LOG2 r n |> setF AUD_RING_CFG.PEND_LOG2 r 0 |> setF AUD_RING_STATUS.PEND r 0

/-- The change of a ring or of both rings of a 96 kHz pair to 2^`n` samples. An embedder group and a transmit flow have one latency for
all their rings, and so for both rings of a pair; a fill entry reads one ring (R276, R283, R293). -/
def applyLength (rs : List Nat) (n : Nat) (s : State) : State :=
  let len := 2 ^ n
  let (gs, c1) := clampGroups rs len s.aud.groups
  let cs := rs.flatMap (fun r => longFlows r len s)
  let filled := (s.aud.fills.filter (fun p => len < p.2.2)).map (fun p => p.2.1)
  let s := setAud (fun a => { a with groups := gs, fills := clampFills rs len a.fills }) s
  let s := forEach cs (fun c s => setF FLW_TX_REC.WORD (8 * c + 6) (txFirstRing c s + len * 2 ^ 18) s) s
  let s := forEach rs (resizeRing n) s
  forEach rs (fun r s =>
    raise (if c1 || cs != [] || filled.contains r then [AUD_RING_STATUS.LEN_APPLIED, AUD_RING_STATUS.LAT_CLAMP]
           else [AUD_RING_STATUS.LEN_APPLIED]) r s) s

/-- Rings whose length changes together. -/
def lengthPair (r : Nat) (s : State) : List Nat := if ring96 r s then [r / 2 * 2, r / 2 * 2 + 1] else [r]

/-- Pending changes due at the boundary that begins block `m`: W is a multiple of the longer length. -/
def dueLengths (m : Nat) (s : State) : State :=
  forEach (indicesWhere AUD_RING_STATUS.PEND (· == 1) s) (fun r s =>
    let n := getF AUD_RING_CFG.PEND_LOG2 r s
    if getB AUD_RING_STATUS.PEND r s && 16 * m % max (ringLen r s) (2 ^ n) = 0 then applyLength (lengthPair r s) n s else s) s

/-! ### The ring pool (R274) -/

/-- The extents, each at a word offset in the pool that is a multiple of its size: the larger before the smaller, and those of one size in
the order of their numbers (log entry 89). -/
def placeFrom : Nat → List (Nat × Nat) → List (Nat × Nat)
  | _, [] => []
  | w, (r, n) :: l => (r, w) :: placeFrom (w + n) l

def ringPlaces (s : State) : List (Nat × Nat) :=
  placeFrom 0 ([10, 9, 8, 7, 6, 5, 4].flatMap (fun c => (indicesWhere AUD_RING_CFG.CAP_LOG2 (· == c) s).map (fun r => (r, 2 ^ c))))

/-- The ring whose word stands at word `w` of the pool, and how far back from the write position: the ring occupies the top of its extent
(R283). -/
def poolWord (w : Nat) (s : State) : Option (Nat × Nat) :=
  (ringPlaces s).findSome? (fun p =>
    let top := p.2 + 2 ^ getF AUD_RING_CFG.CAP_LOG2 p.1 s
    let len := ringLen p.1 s
    if w < top && top - len ≤ w then
      let pos := w - (top - len)
      let front := 16 * getF AUD_BLOCK.COUNT 0 s % len
      some (p.1, (front + len - pos - 1) % len + 1)
    else none)

/-- Replace the word `k` places back from the write position. -/
def putRingWord (r k w : Nat) (s : State) : State :=
  setRing r (fun x => { x with words := (x.words ++ List.replicate (k - x.words.length) x.blank).set (k - 1) w }) s

/-! ### Embedders (R287 to R290) -/

/-- Groups that a stream of format `f` carries (R285). -/
def carriedGroups (f : Nat) : Nat := if fmtValid f then 4 * 2 ^ slotRate f else 0

def groupCarried (o g : Nat) (s : State) : Bool := g < carriedGroups (getF XPT_OUT_STATE.FORMAT o s)

/-- The output slot carries no video (R289). -/
def noVideo (o : Nat) (s : State) : Bool := [mNone, mJoin, mOverrate, mWake].contains (outMode o s)

/-- Words with the AES3 bits that the embedder or a transmit flow sends: those of the ring where its writer is DEEMBED or an
ST 2110-31 flow, otherwise V = U = 0 and generated channel status, whose block phase follows the ring positions (log entry 25). -/
def aesWord (r pos w : Nat) (s : State) : Nat :=
  if ownStatus r s then w
  else w / 256 * 256 + 32 * b2n (Config.csBit (ring96 r s) (pos % 192)) + 16 * b2n (pos % 192 == 0)

/-- Samples of a channel of a group: zero with V = 0 where it names no ring. -/
def channelSamples (r : Option Nat) (lat m : Nat) (s : State) : List Nat :=
  match r with
  | none => List.replicate 16 0
  | some r => ((List.range 16).zip (readRing r lat s)).map (fun p => aesWord r (16 * m + 15 + p.1 - lat) p.2 s)

/-- Sample part of a ring word as a signed number. -/
def sampleOf (w : Nat) : Int := toSigned 24 (w / 256)

/-- Sample j of a linear crossfade (R290); the rule states no rounding of the sixteenths (log entry 25). -/
def fade (j : Nat) (a b : Nat) : Nat :=
  ofSigned 24 (quotient (sampleOf a * (16 - j : Nat) + sampleOf b * j) 16) * 256 + b % 256

def fadeAll (old new : List Nat) : List Nat := ((List.range 16).zip (old.zip new)).map (fun p => fade p.1 p.2.1 p.2.2)

/-- A 96 kHz group's channels name the even ring of each pair; its samples are those of both rings. -/
def pairedRings (rs : List (Option Nat)) (s : State) : List (Option Nat) :=
  match rs with
  | a :: b :: rest =>
    let up (x : Option Nat) := x.map (· + 1)
    let is96 (x : Option Nat) : Bool := match x with | some r => ring96 r s | none => false
    if is96 a || is96 b then [a, up a, b, up b] else a :: b :: rest
  | l => l

/-- What a RINGS group takes at the boundary that begins block `m`. -/
def takeGroup (g : EmbGroup) (m : Nat) (s : State) : List (List Nat) :=
  let new := (pairedRings g.rings s).map (fun r => channelSamples r g.lat m s)
  match g.old with
  | none => new
  | some (rs, lat) => ((pairedRings rs s).map (fun r => channelSamples r lat m s)).zip new |>.map (fun p => fadeAll p.1 p.2)

/-- Every active RINGS group of a slot that carries video takes its 16 samples; what was taken at the last boundary goes into the
lines of this block (R289). -/
def embedTake (m : Nat) (s : State) : State :=
  let act := s.aud.groups.filter (fun p => !noVideo (p.1 / 32) s && groupCarried (p.1 / 32) (p.1 % 32) s)
  setAud (fun a => { a with
    placed := a.taken,
    taken := act.map (fun p => (p.1, takeGroup p.2 m s)),
    groups := a.groups.map (fun p => (p.1, { p.2 with old := none })) }) s

/-! ### De-embedding (R285, R286) -/

/-- Rate of an input slot's stream: that of its format, or while none is declared that of its cadence description (R118, R285). -/
def streamRate (i : Nat) (s : State) : Nat :=
  if fmtValid (inFmt i s) then slotRate (inFmt i s) else bits (getF (cadFld (i % 8)) (i / 8) s) 1 2

/-- The slot's group to which audio group `ag` of sub-stream `link` goes in a stream of a rate (R285). -/
def audGroupOf (rate link ag : Nat) : Option Nat :=
  if ag = 0 then none
  else if rate = 0 then (if link = 0 && ag ≤ 4 then some (ag - 1) else none)
  else if rate = 1 then
    (if link = 0 && ag ≤ 8 then some (ag - 1) else if link = 1 && ag ≤ 4 then some (3 + ag) else none)
  else if link < 2 ^ (rate - 1) && ag ≤ 8 then some (8 * link + ag - 1)
  else none

/-- The home rings of a group that a DEEMBED writer writes. -/
def groupRings (i g : Nat) (s : State) : List (Nat × Nat) :=
  let n := laneSlots (i / 8) s
  ((List.range 4).map (fun c => (c, homeRing n i (4 * g + c)))).filter (fun p => ringExtent p.2 s && ringWriter p.2 s == wkDeembed)

/-- The de-embedder holds a sample of ring `r` with its instant. -/
def holdSample (r i w : Nat) (s : State) : State := setRing r (fun q => { q with held := q.held ++ [(i, w)] }) s

/-- The sample that the ring's writer has received last. -/
def lastSample (r : Nat) (s : State) : Option Nat :=
  match (ring r s).held.getLast? with
  | some p => some p.2
  | none => (ring r s).last.map (·.2)

/-- The samples of a packet with words `ws`: word k of its channel c at the instant that the packet's clock phase gives. In place of a
dropped packet's samples the last one before them is held again (R286, R401). -/
def holdPacket (rs : List (Nat × Nat)) (ok : Bool) (ws : List Word10) : Nat → List (Nat × Nat) → State → State
  | _, [], s => s
  | k, x :: xs, s =>
    let s := match rs.find? (fun p => p.1 == x.1) with
      | none => s
      | some (c, r) =>
        if ok then holdSample r x.2 (Config.audioSample ws c k / 16 * 16 % 2 ^ 32) s
        else match lastSample r s with
          | some w => holdSample r x.2 w s
          | none => s
    holdPacket rs ok ws (k + 1) xs s

/-- An audio data packet of input slot `i`: samples of the channels of the group, each with its instant. One whose error check fails is
dropped and counted; a group that is not enabled is not taken. -/
def audioData (i group : Nat) (ok : Bool) (samples : List (Nat × Nat)) (ws : List Word10) (s : State) : State :=
  let s := setAud (fun a => { a with ins := mmod {} a.ins i (fun x => { x with seen := x.seen ||| 2 ^ group }) }) s
  if !(getF AUD_IN_MASK.GROUPS i s).testBit group then s
  else
    let s := if ok then s else s |> bump32 AUD_IN_PKT_ERR_CNT.COUNT AUD_IN_STATUS.PKT_OVF i |> raise [AUD_IN_STATUS.PKT_ERR] i
    holdPacket (groupRings i group s) ok ws 0 samples s

/-- An audio control packet announces a group's rate: 0 48 kHz, 1 96 kHz, anything else another. It agrees where it is the rate of all
the group's rings (R286). -/
def audioControl (i group rate : Nat) (s : State) : State :=
  let agrees := rate ≤ 1 && (groupRings i group s).all (fun p => rate == b2n (ring96 p.2 s))
  let on := (getF AUD_IN_MASK.GROUPS i s).testBit group
  let s := setAud (fun a => { a with ins := mmod {} a.ins i (fun x =>
    { x with bad := if agrees then x.bad &&& (2 ^ 32 - 1 - 2 ^ group) else x.bad ||| 2 ^ group }) }) s
  if on && !agrees then raise [AUD_IN_STATUS.RATE_MISMATCH] i s else s

/-- A group of the slot that its slot mode has channels for, where the table of R285 gives the packet one. -/
def packetGroup (i link ag : Nat) (s : State) : Option Nat :=
  (audGroupOf (streamRate i s) link ag).filter (fun g => 4 * g < 128 / laneSlots (i / 8) s)

/-- An audio packet with words `ws` has arrived at input slot `i`. -/
def audioPacket (i : Nat) (a : AudPkt) (ws : List Word10) (s : State) : State :=
  match a with
  | .data link ag ok xs => (match packetGroup i link ag s with | some g => audioData i g ok xs ws s | none => s)
  | .control link ag rate => (match packetGroup i link ag s with | some g => audioControl i g rate s | none => s)

/-- At the end of a frame AUD_IN_PRESENT shows the groups the frame carried (R304). -/
def audioFrameEnd (i : Nat) (s : State) : State :=
  s |> setF AUD_IN_PRESENT.GROUPS i (mget ({} : InAud) s.aud.ins i).seen
    |> setAud (fun a => { a with ins := mmod {} a.ins i (fun x => { x with seen := 0 }) })

end Sys2Proof.Machine
end

