-- ==== Sys2Proof/Machine/ReedOps.lean ====
section
/-! DEFINITION. The reed engine's datapath and instruction effects (R311 to R328). Each `reed<Name>` takes the engine and the
instruction word. -/

namespace Sys2Proof.Machine

/-! ### Instruction fields (R322) -/

def fOp (w : Nat) : Nat := bits w 27 5
def fXI (w : Nat) : Nat := bits w 25 2
def fXI2 (w : Nat) : Nat := bits w 21 2
def fXI3 (w : Nat) : Nat := bits w 22 2
def fImm (w : Nat) : Nat := bits w 0 13
def fVD (w : Nat) : Nat := bits w 23 4
def fA (w : Nat) : Nat := bits w 25 2

/-- Value of the index register XI selects; 0 adds none. -/
def xval (e xi : Nat) (s : State) : Nat := if xi = 0 then 0 else mget 0 (reed e s).x xi

def setX (e xi v : Nat) (s : State) : State := setReed e (fun r => { r with x := mput 0 r.x xi (v % 8192) }) s

/-! ### Vectors, memories, banks (32-bit patterns) -/

def word32 (x : Int) : Nat := ofSigned 32 x
def val32 (w : Nat) : Int := toSigned 32 w

def getV (e v j : Nat) (s : State) : Nat := mget 0 (reed e s).v (16 * (v % 16) + j)
def setV (e v j x : Nat) (s : State) : State := setReed e (fun r => { r with v := mput 0 r.v (16 * (v % 16) + j) x }) s
def getS (e k : Nat) (s : State) : Nat := mget 0 (reed e s).smem (k % 8192)
def setS (e k x : Nat) (s : State) : State := setReed e (fun r => { r with smem := mput 0 r.smem (k % 8192) x }) s
def getIn (e ch j : Nat) (s : State) : Nat := mget 0 (reed e s).inp (16 * (ch % 1024) + j)
def setOutBank (e ch j x : Nat) (s : State) : State := setReed e (fun r => { r with out := mput 0 r.out (16 * (ch % 512) + j) x }) s
def coef (e k : Nat) (s : State) : Nat := getF REE_COEF.COEF (4096 * e + k % 4096) s
def setCoef (e k x : Nat) (s : State) : State := setF REE_COEF.COEF (4096 * e + k % 4096) x s
def getAcc (e a j : Nat) (s : State) : Int := mget 0 (reed e s).acc (16 * a + j)

/-- For each of the 16 positions. -/
def each (f : Nat → State → State) (s : State) : State := forEach (List.range 16) f s

/-! ### Events of a block (R319, R321, R344) -/

def noteSat (e : Nat) (s : State) : State :=
  let s := raise [REE_ENG_EVT.SAT] e s
  if (reed e s).sat then s
  else s |> setReed e (fun r => { r with sat := true }) |> bump32 REE_ENG_SAT_CNT.COUNT REE_ENG_EVT.SAT_OVF e

def noteAccov (e a : Nat) (s : State) : State :=
  let s := if getB REE_ENG_EVT.ACCOV e s then s
    else s |> setF REE_ENG_ACCOV_PC.VALID e 1 |> setF REE_ENG_ACCOV_PC.ACC e a |> setF REE_ENG_ACCOV_PC.PC e (reed e s).pc
  let s := raise [REE_ENG_EVT.ACCOV] e s
  if (reed e s).accov then s
  else s |> setReed e (fun r => { r with accov := true }) |> bump32 REE_ENG_ACCOV_CNT.COUNT REE_ENG_EVT.ACCOV_OVF e

/-! ### Accumulators (R317 to R320) -/

def accMax : Int := 2 ^ 79 - 1
def accMin : Int := -(2 ^ 79)

/-- A new sum begins at a position. -/
def newSum (e a j : Nat) (x : Int) (s : State) : State :=
  setReed e (fun r => { r with acc := mput 0 r.acc (16 * a + j) x, clamped := r.clamped.filter (· != 16 * a + j) }) s

/-- Add to a position's sum: it clamps at the range of 80 bits and stays so until a new sum begins. -/
def addAcc (e a j : Nat) (p : Int) (s : State) : State :=
  if (reed e s).clamped.contains (16 * a + j) then s
  else
    let x := getAcc e a j s + p
    if accMin ≤ x ∧ x ≤ accMax then setReed e (fun r => { r with acc := mput 0 r.acc (16 * a + j) x }) s
    else s |> setReed e (fun r => { r with acc := mput 0 r.acc (16 * a + j) (clampInt accMin accMax x), clamped := (16 * a + j) :: r.clamped })
           |> noteAccov e a

/-- Shift right by `28 - sh` with round half up, before saturation (R320). -/
def storeShift (acc sh : Int) : Int :=
  let r := (28 - sh).toNat
  (acc + 2 ^ (r - 1)) / 2 ^ r

/-- Saturate to 32 bits; the answer says whether it did. -/
def sat32 (t : Int) : Int × Bool := (clampInt (-(2 ^ 31)) (2 ^ 31 - 1) t, decide (t < -(2 ^ 31) ∨ 2 ^ 31 - 1 < t))

def storeAcc (acc sh : Int) : Int × Bool := sat32 (storeShift acc sh)

/-- Write a saturated value with `put`. -/
def putSat (e : Nat) (v : Int × Bool) (put : Nat → State → State) (s : State) : State :=
  let s := put (word32 v.1) s
  if v.2 then noteSat e s else s

/-! ### Simple instructions -/

def reedSetx (e w : Nat) (s : State) : State := if fXI w = 0 then s else setX e (fXI w) (fImm w) s

def reedAddx (e w : Nat) (s : State) : State :=
  if fXI w = 0 then s else setX e (fXI w) (((xval e (fXI w) s : Int) + toSigned 13 (fImm w)) % 8192).toNat s

/-- LOOP pushes its body; the passes are counted where the instructions end (R328). -/
def reedLoop (e w : Nat) (s : State) : State :=
  setReed e (fun r => { r with loops := { first := r.pc + 1, last := r.pc + bits w 13 8, left := fImm w, step := bits w 21 4,
                                          xi := fXI w } :: r.loops }) s

def reedLdi (e w : Nat) (s : State) : State :=
  each (fun j s => setV e (fVD w) j (getIn e (bits w 0 10 + xval e (fXI2 w) s) j s) s) s

def reedSto (e w : Nat) (s : State) : State :=
  each (fun j s => setOutBank e (bits w 0 9 + xval e (fXI2 w) s) j (getV e (fVD w) j s) s) s

def reedLds (e w : Nat) (s : State) : State :=
  each (fun j s => setV e (fVD w) j (getS e (fImm w + xval e (fXI2 w) s + j) s) s) s

def reedSts (e w : Nat) (s : State) : State :=
  each (fun j s => setS e (fImm w + xval e (fXI2 w) s + j) (getV e (fVD w) j s) s) s

def reedLda (e w : Nat) (s : State) : State :=
  each (fun j s => newSum e (fA w) j (val32 (getV e (bits w 21 4) j s) * 2 ^ 28) s) s

def reedSta (e w : Nat) (s : State) : State :=
  each (fun j s =>
    putSat e (storeAcc (getAcc e (fA w) j s) (toSigned 5 (bits w 17 5)))
      (if bit w 24 then setOutBank e (bits w 0 9 + xval e (fXI3 w) s) j else setV e (bits w 0 4) j) s) s

def reedClr (e w : Nat) (s : State) : State := each (fun j s => newSum e (fA w) j 0 s) s

/-! ### Products -/

/-- s[j] of MUL, MAC, MSU and MACR. -/
def source (e w j : Nat) (s : State) : Int :=
  val32 (if bit w 24 then getV e (bits w 12 4) j s else getIn e (bits w 12 10 + xval e (fXI3 w) s) j s)

/-- Address of the coefficient. -/
def coefAt (e w : Nat) (s : State) : Nat := (bits w 0 12 + xval e (fXI3 w) s) % 4096

def product (e w j : Nat) (s : State) : Int := source e w j s * val32 (coef e (coefAt e w s) s)

def reedMul (e w : Nat) (s : State) : State := each (fun j s => newSum e (fA w) j (product e w j s) s) s
def reedMac (e w : Nat) (s : State) : State := each (fun j s => addAcc e (fA w) j (product e w j s) s) s
def reedMsu (e w : Nat) (s : State) : State := each (fun j s => addAcc e (fA w) j (-product e w j s) s) s

/-- c_j of R324. -/
def rampCoef (e k j : Nat) (s : State) : Int :=
  let c := val32 (coef e k s)
  c + ((j + 1 : Nat) * (val32 (coef e (k + 1) s) - c)) / 16

def reedMacr (e w : Nat) (s : State) : State :=
  let k := coefAt e w s
  s |> each (fun j s => addAcc e (fA w) j (source e w j s * rampCoef e k j s) s)
    |> setReed e (fun r => { r with ramps := if r.ramps.contains k then r.ramps else r.ramps ++ [k] })

/-- C[k] = C[k + 1] for every k that a MACR used: the values are those the words hold when the block ends (R324). -/
def rampWrites (e : Nat) (s : State) : State :=
  let ws := (reed e s).ramps.map (fun k => (k, coef e (k + 1) s))
  s |> forEach ws (fun p s => setCoef e p.1 p.2 s) |> setReed e (fun r => { r with ramps := [] })

def reedMacv (e w : Nat) (s : State) : State :=
  each (fun j s =>
    let p := val32 (getV e (bits w 21 4) j s) * val32 (getV e (bits w 17 4) j s)
    if bit w 16 then newSum e (fA w) j p s else addAcc e (fA w) j p s) s

/-! ### BIQ (R325) -/

/-- One sum of products with its own accumulator: it clamps as R319 lays down. The answer says whether it clamped. -/
def sumClamp : Int × Bool → List Int → Int × Bool
  | a, [] => a
  | (a, true), _ => (a, true)
  | (a, false), p :: ps =>
    if accMin ≤ a + p ∧ a + p ≤ accMax then sumClamp (a + p, false) ps else sumClamp (clampInt accMin accMax (a + p), true) ps

/-- Register and position of sample n. -/
def biqPos (w n : Nat) : Nat × Nat := if bit w 20 then (fVD w + n % 2, n / 2) else (fVD w, n)

/-- One sample of the section whose coefficients start at `c` and state at `z`. -/
def biqSample (e w c z n : Nat) (s : State) : State :=
  let (v, j) := biqPos w n
  let x := getV e v j s
  let k (i : Nat) : Int := val32 (coef e (c + i) s)
  let st (i : Nat) : Int := val32 (getS e (z + i) s)
  let (acc, cl) := sumClamp (0, false) [k 0 * val32 x, k 1 * st 0, k 2 * st 1, -(k 3 * st 2), -(k 4 * st 3)]
  let s := if cl then noteAccov e 0 s else s
  let y := storeAcc acc 0
  let s := s |> setS e (z + 1) (getS e z s) |> setS e z x |> setS e (z + 3) (getS e (z + 2) s) |> setS e (z + 2) (word32 y.1)
  putSat e y (setV e v j) s

def reedBiq (e w : Nat) (s : State) : State :=
  let c := 8 * ((bits w 11 9 + xval e (fXI2 w) s) % 512)
  let z := 4 * ((bits w 0 11 + xval e (fXI2 w) s) % 2048)
  forEach (List.range (if bit w 20 then 32 else 16)) (biqSample e w c z) s

/-! ### TLU (R327) -/

def tlu (e k x : Nat) (s : State) : Int × Bool :=
  let a := if x = 0x80000000 then 0x7FFFFFFF else (val32 x).natAbs
  let i := a / 2 ^ 24
  let t0 := val32 (coef e (k + i) s)
  let t1 := val32 (coef e (k + i + 1) s)
  sat32 (t0 + ((t1 - t0) * (a % 2 ^ 24 : Nat) + 0x800000) / 2 ^ 24)

def reedTlu (e w : Nat) (s : State) : State :=
  each (fun j s => putSat e (tlu e (bits w 0 12) (getV e (bits w 19 4) j s) s) (setV e (fVD w) j) s) s

/-! ### VALU (R326) -/

/-- Bits below bit `top`, from `top - 1` downwards, that equal it before the first that differs; `n` of them are looked at. -/
def signRun (x top : Nat) : Nat → Nat
  | 0 => 0
  | n + 1 => if x.testBit n = x.testBit top then 1 + signRun x top n else 0

def cls (x : Nat) : Nat := signRun x 31 31
def acls (a : Int) : Int := (signRun (ofSigned 80 a) 79 79 : Int) - 20

/-- SHV: shift `x` by `n` clipped to -31 to 31. -/
def shv (x n : Int) : Int :=
  let n := clampInt (-31) 31 n
  if 0 ≤ n then x * 2 ^ n.toNat else (x + 2 ^ ((-n).toNat - 1)) / 2 ^ (-n).toNat

/-- The function FN of the operands, before saturation; reserved codes are never fetched (R323). -/
def valu (e w j : Nat) (s : State) : Int :=
  let a := val32 (getV e (bits w 19 4) j s)
  let b := val32 (getV e (bits w 15 4) j s)
  let c := cls (getV e (bits w 19 4) j s)
  match bits w 0 4 with
  | 0 => a
  | 1 => a + b
  | 2 => a - b
  | 3 => if a < 0 then -a else a
  | 4 => -a
  | 5 => max a b
  | 6 => min a b
  | 7 => c
  | 8 => a * 2 ^ c
  | 9 => -c
  | 10 => shv a b
  | _ => acls (getAcc e (bits w 19 2) j s)

def reedValu (e w : Nat) (s : State) : State :=
  if 12 ≤ bits w 0 4 then s else each (fun j s => putSat e (sat32 (valu e w j s)) (setV e (fVD w) j) s) s

/-! ### Running an instruction (R313, R314, R324, R328, R682) -/

def reedGated : Nat := 0
def reedRun : Nat := 1
def reedHalted : Nat := 2

def engState (e : Nat) (s : State) : Nat := getF REE_ENG_STATUS.STATE e s

/-- Cycles of an instruction. -/
def opCycles (w : Nat) : Nat :=
  match fOp w with
  | 0x00 => 1
  | 0x01 => 1
  | 0x02 => 1
  | 0x03 => 1
  | 0x04 => 1
  | 0x18 => if bit w 20 then 168 else 84
  | 0x19 => 4
  | _ => 2

/-- END: the ramp write-backs, and the block is complete. -/
def reedEnd (e _w : Nat) (s : State) : State :=
  s |> rampWrites e |> setReed e (fun r => { r with ended := true })
    |> setF REE_ENG_STATUS.LAST_CYCLES e (reed e s).cycles |> bump64 REE_ENG_BLOCKS.COUNT REE_ENG_EVT.BLOCKS_WRAP e 1

/-- After the instruction at `p`: every loop whose body ends there ends a pass, the innermost first. -/
def loopBack (e p : Nat) : Nat → State → State
  | 0, s => s
  | n + 1, s =>
    match (reed e s).loops with
    | l :: ls =>
      if l.last = p then
        let s := if l.xi = 0 then s else setX e l.xi (xval e l.xi s + l.step) s
        if 1 < l.left then setReed e (fun r => { r with pc := l.first, loops := { l with left := l.left - 1 } :: ls }) s
        else loopBack e p n (setReed e (fun r => { r with loops := ls }) s)
      else s
    | [] => s

/-- A breakpoint of engine `e` is set at its program counter and it has not just been resumed there (R682). -/
def atBreak (e : Nat) (s : State) : Bool :=
  !(reed e s).past && (List.range 4).any (fun b => getB DBG_BP.EN (4 * e + b) s && getF DBG_BP.ADDR (4 * e + b) s == (reed e s).pc)

/-- The word that engine `e` executes next. -/
def nextWord (e : Nat) (s : State) : Nat := (reed e s).prog.getD (reed e s).pc 0x08000000

/-- Execute the next instruction with the effect `f`: cycles, the effect, then the next program counter. -/
def runWith (e : Nat) (f : Nat → Nat → State → State) (s : State) : State :=
  let w := nextWord e s
  let p := (reed e s).pc
  let s := s |> setReed e (fun r => { r with cycles := r.cycles + opCycles w, past := false }) |> f e w
  s |> setReed e (fun r => { r with pc := (p + 1) % 8192 }) |> loopBack e p 2

/-- The engine runs: assigned, in RUN, END not yet executed. -/
def engRuns (e : Nat) (s : State) : Bool := e < 128 && engState e s == reedRun && !(reed e s).ended

/-- A row of the instruction table: engine `e` executes its next instruction, when that is this row's. -/
def reedRow (op e : Nat) (f : Nat → Nat → State → State) (s : State) : State :=
  if inService s && engRuns e s && !atBreak e s && fOp (nextWord e s) == op then runWith e f s else s

def reedNop (_e _w : Nat) (s : State) : State := s

/-- Effect of any instruction, by its OP. -/
def reedEffect (op : Nat) : Nat → Nat → State → State :=
  match op with
  | 0x01 => reedEnd
  | 0x02 => reedSetx
  | 0x03 => reedAddx
  | 0x04 => reedLoop
  | 0x08 => reedLdi
  | 0x09 => reedSto
  | 0x0A => reedLds
  | 0x0B => reedSts
  | 0x0C => reedLda
  | 0x0D => reedSta
  | 0x0E => reedClr
  | 0x10 => reedMul
  | 0x11 => reedMac
  | 0x12 => reedMsu
  | 0x13 => reedMacr
  | 0x14 => reedMacv
  | 0x18 => reedBiq
  | 0x19 => reedTlu
  | 0x1C => reedValu
  | _ => reedNop

/-- One instruction of engine `e`, whatever it is (a single step). -/
def reedStep (e : Nat) (s : State) : State := runWith e (reedEffect (fOp (nextWord e s))) s

end Sys2Proof.Machine
end

