-- ==== Sys2Proof/Machine/Reed.lean ====
section
/-! DEFINITION. The reed engines' instructions, REE_WRITE and the meters' writes (R322 to R351). An instruction row is engine `e`
executing its next instruction; it has no effect where that is another row's (log entry 27). -/

namespace Sys2Proof.Machine

/-! ### REE_WRITE (R330 to R332) -/

def rwEngine (raw : List Byte) : Nat := byteAt raw 32
def rwState (raw : List Byte) : Bool := bit (byteAt raw 33) 0
def rwZero (raw : List Byte) : Bool := bit (byteAt raw 33) 1
def rwFirst (raw : List Byte) : Nat := leAt raw 34 2
def rwCount (raw : List Byte) : Nat := leAt raw 36 2

/-- Audio block boundaries as commit points: the last one and their period (R453). -/
def audPoints (s : State) : Nat × Nat := (s.aud.boundary, secUnit / 3000)

def rwWords (raw data : List Byte) : List Nat :=
  if rwZero raw then List.replicate (rwCount raw) 0 else (List.range (rwCount raw)).map (fun k => leAt data (4 * k) 4)

def reeWriteApply (raw data : List Byte) (uid : Nat) (due : Due) (s : State) : State :=
  setReedS (fun x => { x with pend := x.pend ++ [{ uid := uid, engine := rwEngine raw, state := rwState raw, first := rwFirst raw,
                                                   words := rwWords raw data, due := due }] }) s

def reeWriteBody (r : Nat) (raw : List Byte) (list : Option (List Byte)) (entry : Nat) (s : State) : State :=
  let e := rwEngine raw
  if !(e < 128 && getB REE_ENG_CFG.ENABLED e s) then refuse r entry raw stBadEngine 0 0 s
  else if rwCount raw = 0 || (if rwState raw then 8192 else 4096) < rwFirst raw + rwCount raw then refuse r entry raw stCount 0 0 s
  else if rwZero raw then acceptTimed r entry raw [] 1 [audPoints s] (reeWriteApply raw []) s
  else match list with
    | none => refuse r entry raw stListFault 0 0 s
    | some data =>
      if eList raw % 32 != 0 || data.length < 4 * rwCount raw then refuse r entry raw stListFault 0 0 s
      else acceptTimed r entry raw (data.take (4 * rwCount raw)) 1 [audPoints s] (reeWriteApply raw (data.take (4 * rwCount raw))) s

/-- Step 2 of R332: every REE_WRITE due at `t`, in order of acceptance. -/
def commitReeWrites (t : Nat) (s : State) : State :=
  let due := s.reed.pend.filter (fun p => p.due.reached t s)
  let s := setReedS (fun x => { x with pend := x.pend.filter (fun p => !p.due.reached t s) }) s
  forEach due (fun p s =>
    let s := forEach ((List.range p.words.length).zip p.words) (fun k s =>
      if p.state then setS p.engine (p.first + k.1) k.2 s else setCoef p.engine (p.first + k.1) k.2 s) s
    memberDone p.uid t 0 s) s

/-! ### Meters (R334 to R336) -/

def reeCounters : List Fld :=
  [REE_ENG_ACCOV_CNT.COUNT, REE_ENG_SAT_CNT.COUNT, REE_ENG_OVERRUN_CNT.COUNT, REE_ENG_BLOCKS.COUNT, REE_ENG_EVT.BLOCKS_WRAP,
   REE_ENG_EVT.OVERRUN_OVF, REE_ENG_EVT.SAT_OVF, REE_ENG_EVT.ACCOV_OVF]

def setPk (p : Nat) (f : PkSt → PkSt) (s : State) : State := setReedS (fun x => { x with pk := mmod {} x.pk p f }) s
def setLd (q : Nat) (f : LdSt → LdSt) (s : State) : State := setReedS (fun x => { x with ld := mmod {} x.ld q f }) s

/-- CLR_MAX of a peak meter waits for the next boundary. -/
def pkClear (p : Nat) (s : State) : State := if p < 8192 then setPk p (fun x => { x with clr := true }) s else s
def ldClear (q : Nat) (s : State) : State := if q < 1024 then setLd q (fun x => { x with clr := true }) s else s

/-- RESET_INT restarts INTEGRATED: the segment in progress no longer counts for it. -/
def ldRestart (q : Nat) (s : State) : State :=
  if q < 1024 then
    s |> setLd q (fun x => { x with gates := [], intSegs := 0, restart := x.blocks != 0 })
      |> setF REE_LD_INT.INTEGRATED q 0x8000 |> setF REE_LD_GATED.COUNT q 0
  else s

def ldChannel (k : Nat) : Fld × Fld × Fld :=
  match k with
  | 0 => (REE_LD_CH0.WEIGHT, REE_LD_CH0.PAIR96, REE_LD_CH0.RING)
  | 1 => (REE_LD_CH1.WEIGHT, REE_LD_CH1.PAIR96, REE_LD_CH1.RING)
  | 2 => (REE_LD_CH2.WEIGHT, REE_LD_CH2.PAIR96, REE_LD_CH2.RING)
  | 3 => (REE_LD_CH3.WEIGHT, REE_LD_CH3.PAIR96, REE_LD_CH3.RING)
  | 4 => (REE_LD_CH4.WEIGHT, REE_LD_CH4.PAIR96, REE_LD_CH4.RING)
  | 5 => (REE_LD_CH5.WEIGHT, REE_LD_CH5.PAIR96, REE_LD_CH5.RING)
  | 6 => (REE_LD_CH6.WEIGHT, REE_LD_CH6.PAIR96, REE_LD_CH6.RING)
  | _ => (REE_LD_CH7.WEIGHT, REE_LD_CH7.PAIR96, REE_LD_CH7.RING)

/-- The RW fields of a meter register take a write; they act from the next boundary on (R336). -/
def meterWrite (reg : MeterReg) (value : Nat) (s : State) : State :=
  match reg with
  | .pk p =>
    if p < 8192 then
      s |> setF REE_PK_CFG.EN p (bits value 30 1) |> setF REE_PK_CFG.PAIR96 p (bits value 29 1) |> setF REE_PK_CFG.RING p (bits value 0 18)
    else s
  | .ch q k =>
    if q < 1024 && k < 8 then
      s |> setF (ldChannel k).1 q (bits value 30 2) |> setF (ldChannel k).2.1 q (bits value 29 1) |> setF (ldChannel k).2.2 q (bits value 0 18)
    else s
  | .ctl q => if q < 1024 then setF REE_LD_CTL.EN q (bits value 29 1) s else s

/-- Samples of a ring or 96 kHz pair that a meter reads: L = 16 (R293), as 24-bit patterns. -/
def meterSamples (pair : Bool) (r : Nat) (s : State) : List Nat :=
  let a := (readRing r 16 s).map (· / 256)
  if pair then (a.zip ((readRing (r + 1) 16 s).map (· / 256))).flatMap (fun p => [p.1, p.2]) else a

def magnitude (x : Nat) : Nat := (toSigned 24 x).natAbs

def pkWord (p : Nat) (s : State) : Nat := 2 ^ 29 * getF REE_PK_CFG.PAIR96 p s + getF REE_PK_CFG.RING p s

def pkMaxima : List Fld := [REE_PK_MAX.PEAK_MAX, REE_PK_TP_MAX.TP_MAX]

/-- Samples that the true-peak filter may still use. -/
def tpTaps : Nat := 16

/-- A CLR_MAX is carried out; what it clears still shows in a snapshot taken at this boundary (R336). -/
def clearMaxima (fs : List Fld) (i : Nat) (s : State) : State :=
  s |> setReedS (fun x => { x with cleared := fs.map (fun f => (f.id, i, getF f i s)) ++ x.cleared, clearedAt := localTime s })
    |> resetFs fs i

/-- A peak meter at the boundary that begins block `m`. Its maxima hold while EN is 0, when they read 0 (R19, R334, R346). -/
def pkStep (m p : Nat) (s : State) : State :=
  let x := mget ({} : PkSt) s.reed.pk p
  let w := pkWord p s
  if !getB REE_PK_CFG.EN p s then
    let s := if x.clr then clearMaxima pkMaxima p s else s
    setPk p (fun x => { x with window := 0, hist := [], clr := false }) s
  else
    let s := if w != x.cfg then
        s |> resetFs (REE_PK_100.PEAK_100 :: pkMaxima) p |> setPk p (fun x => { x with cfg := w, window := 0, hist := [] })
      else s
    let x := mget ({} : PkSt) s.reed.pk p
    let xs := meterSamples (bit w 29) (bits w 0 18) s
    let pk := xs.foldl (fun a v => max a (magnitude v)) 0
    let tp := Config.truePeak (bit w 29) x.hist xs
    let win := max x.window pk
    let s := s |> setF REE_PK_MAX.PEAK_MAX p (max (getF REE_PK_MAX.PEAK_MAX p s) pk)
               |> setF REE_PK_TP_MAX.TP_MAX p (max (getF REE_PK_TP_MAX.TP_MAX p s) (min tp 0x2000000))
    let s := if m % 300 = 0 then setF REE_PK_100.PEAK_100 p win s else s
    let s := if x.clr then clearMaxima pkMaxima p s else s
    setPk p (fun x => { x with window := if m % 300 = 0 then 0 else win, hist := (xs.reverse ++ x.hist).take tpTaps, clr := false }) s

def ldConfig (q : Nat) (s : State) : List Nat :=
  (List.range 8).map (fun k =>
    let f := ldChannel k
    let w := getF f.1 q s
    2 ^ 30 * (if w = 3 then 0 else w) + 2 ^ 29 * getF f.2.1 q s + getF f.2.2 q s)

/-- Values that a start of the meter restarts (R335), and its maxima, which hold until CLR_MAX (R19). -/
def ldWindows : List Fld := [REE_LD_MS.MOMENTARY, REE_LD_MS.SHORT, REE_LD_INT.INTEGRATED, REE_LD_GATED.COUNT]
def ldMaxima : List Fld := [REE_LD_MAX.M_MAX, REE_LD_MAX.S_MAX]

/-- Energy of one channel of a block, in hundredths of its weight, and its next filter state. -/
def ldChan (w : Nat) (f : List Nat) (s : State) : Nat × List Nat :=
  if bits w 30 2 = 0 then (0, [])
  else
    let (f', e) := Config.kWeight (bit w 29) f (meterSamples (bit w 29) (bits w 0 18) s)
    ((if bits w 30 2 = 1 then 100 else 141) * e, f')

/-- Loudness of a window of `n` segments, once they have filled. -/
def ldWindow (n : Nat) (segs : List Nat) : Nat :=
  let e := (segs.take n).foldl (· + ·) 0
  if segs.length < n || e = 0 then 0x8000 else Config.loudness e (300 * n) % 2 ^ 16

def max16 (a b : Nat) : Nat := if toSigned 16 a < toSigned 16 b then b else a

/-- The 100 ms segment that ends now. -/
def ldSegment (q : Nat) (s : State) : State :=
  let x := mget ({} : LdSt) s.reed.ld q
  let full := x.blocks == 300
  let segs := if full then (x.acc :: x.segs).take 30 else x.segs
  let n := if full && !x.restart then x.intSegs + 1 else x.intSegs
  let gates := if full && !x.restart && 4 ≤ n then x.gates ++ [(segs.take 4).foldl (· + ·) 0] else x.gates
  let inc := Config.gated gates
  let mom := ldWindow 4 segs
  let sh := ldWindow 30 segs
  s |> setLd q (fun x => { x with acc := 0, blocks := 0, segs := segs, gates := gates, intSegs := n, restart := false })
    |> setF REE_LD_MS.MOMENTARY q mom |> setF REE_LD_MS.SHORT q sh
    |> setF REE_LD_INT.INTEGRATED q (if inc = [] then 0x8000 else Config.loudness (inc.foldl (· + ·) 0) (1200 * inc.length))
    |> setF REE_LD_MAX.M_MAX q (max16 (getF REE_LD_MAX.M_MAX q s) mom) |> setF REE_LD_MAX.S_MAX q (max16 (getF REE_LD_MAX.S_MAX q s) sh)
    |> (fun s => if 2 ^ 32 ≤ inc.length then s |> setF REE_LD_GATED.COUNT q 0xFFFFFFFF |> setF REE_LD_CTL.GATED_OVF q 1
                 else setF REE_LD_GATED.COUNT q inc.length s)

/-- A loudness meter at the boundary that begins block `m`. -/
def ldStep (m q : Nat) (s : State) : State :=
  let x := mget ({} : LdSt) s.reed.ld q
  let en := getB REE_LD_CTL.EN q s
  let cfg := ldConfig q s
  if !en then
    let s := if x.clr then clearMaxima ldMaxima q s else s
    setLd q (fun x => { x with en := false, clr := false }) s
  else
    let s := if !x.en || cfg != x.chans then
        s |> resetFs ldWindows q |> (fun s => if x.en then resetFs ldMaxima q s else s)
          |> setLd q (fun x => { ({} : LdSt) with en := true, chans := cfg, clr := x.clr })
      else s
    let x := mget ({} : LdSt) s.reed.ld q
    let cs := (List.range 8).map (fun k => ldChan (cfg.getD k 0) (mget [] x.filt k) s)
    let s := setLd q (fun x => { x with
      acc := x.acc + cs.foldl (fun a c => a + c.1) 0, blocks := x.blocks + 1,
      filt := ((List.range 8).zip cs).foldl (fun f p => mput [] f p.1 p.2.2) x.filt }) s
    let s := if m % 300 = 0 then ldSegment q s else s
    if x.clr then s |> clearMaxima ldMaxima q |> setLd q (fun x => { x with clr := false }) else s

/-- Every meter that is enabled, or was, at the boundary that begins block `m`. -/
def metersStep (m : Nat) (s : State) : State :=
  let ps := indicesWhere REE_PK_CFG.EN (· == 1) s ++ (s.reed.pk.map (·.1)).filter (fun p => !getB REE_PK_CFG.EN p s)
  let qs := indicesWhere REE_LD_CTL.EN (· == 1) s ++ (s.reed.ld.map (·.1)).filter (fun q => !getB REE_LD_CTL.EN q s)
  s |> setReedS (fun x => { x with cleared := [] }) |> forEach ps (pkStep m) |> forEach qs (ldStep m)

/-! ### Meanings -/

/-- REED_NOP -/
def execReedNop (e : Nat) (s : State) : Host.Outcome State Fault Refusal := .next (reedRow 0x00 e reedNop s)

/-- REED_END -/
def execReedEnd (e : Nat) (s : State) : Host.Outcome State Fault Refusal := .next (reedRow 0x01 e reedEnd s)

/-- SETX -/
def execSetx (e : Nat) (s : State) : Host.Outcome State Fault Refusal := .next (reedRow 0x02 e reedSetx s)

/-- ADDX -/
def execAddx (e : Nat) (s : State) : Host.Outcome State Fault Refusal := .next (reedRow 0x03 e reedAddx s)

/-- LOOP -/
def execLoop (e : Nat) (s : State) : Host.Outcome State Fault Refusal := .next (reedRow 0x04 e reedLoop s)

/-- LDI -/
def execLdi (e : Nat) (s : State) : Host.Outcome State Fault Refusal := .next (reedRow 0x08 e reedLdi s)

/-- STO -/
def execSto (e : Nat) (s : State) : Host.Outcome State Fault Refusal := .next (reedRow 0x09 e reedSto s)

/-- LDS -/
def execLds (e : Nat) (s : State) : Host.Outcome State Fault Refusal := .next (reedRow 0x0A e reedLds s)

/-- STS -/
def execSts (e : Nat) (s : State) : Host.Outcome State Fault Refusal := .next (reedRow 0x0B e reedSts s)

/-- LDA -/
def execLda (e : Nat) (s : State) : Host.Outcome State Fault Refusal := .next (reedRow 0x0C e reedLda s)

/-- STA -/
def execSta (e : Nat) (s : State) : Host.Outcome State Fault Refusal := .next (reedRow 0x0D e reedSta s)

/-- CLR -/
def execClr (e : Nat) (s : State) : Host.Outcome State Fault Refusal := .next (reedRow 0x0E e reedClr s)

/-- MUL -/
def execMul (e : Nat) (s : State) : Host.Outcome State Fault Refusal := .next (reedRow 0x10 e reedMul s)

/-- MAC -/
def execMac (e : Nat) (s : State) : Host.Outcome State Fault Refusal := .next (reedRow 0x11 e reedMac s)

/-- MSU -/
def execMsu (e : Nat) (s : State) : Host.Outcome State Fault Refusal := .next (reedRow 0x12 e reedMsu s)

/-- MACR -/
def execMacr (e : Nat) (s : State) : Host.Outcome State Fault Refusal := .next (reedRow 0x13 e reedMacr s)

/-- MACV -/
def execMacv (e : Nat) (s : State) : Host.Outcome State Fault Refusal := .next (reedRow 0x14 e reedMacv s)

/-- BIQ -/
def execBiq (e : Nat) (s : State) : Host.Outcome State Fault Refusal := .next (reedRow 0x18 e reedBiq s)

/-- TLU -/
def execTlu (e : Nat) (s : State) : Host.Outcome State Fault Refusal := .next (reedRow 0x19 e reedTlu s)

/-- VALU -/
def execValu (e : Nat) (s : State) : Host.Outcome State Fault Refusal := .next (reedRow 0x1C e reedValu s)

/-- REE_WRITE -/
def execReeWrite (t r : Nat) (raw : List Byte) (list : Option (List Byte)) (s : State) : Host.Outcome State Fault Refusal :=
  .next (ringCmd 0x31 r raw t (reeWriteBody r raw list) s)

/-- REE_CLR_CNT -/
def execReeClrCnt (s : State) : Host.Outcome State Fault Refusal := .next (whenHost (clearFlds reeCounters) s)

/-- PK_CLR_MAX -/
def execPkClrMax (p : Nat) (s : State) : Host.Outcome State Fault Refusal := .next (whenHost (pkClear p) s)

/-- LD_CLR_MAX -/
def execLdClrMax (q : Nat) (s : State) : Host.Outcome State Fault Refusal := .next (whenHost (ldClear q) s)

/-- LD_RESET_INT -/
def execLdResetInt (q : Nat) (s : State) : Host.Outcome State Fault Refusal := .next (whenHost (ldRestart q) s)

/-- METER_CONFIG_WRITE -/
def execMeterConfigWrite (reg : MeterReg) (value : Nat) (s : State) : Host.Outcome State Fault Refusal :=
  .next (whenHost (meterWrite reg value) s)

end Sys2Proof.Machine
end

