-- ==== Sys2Proof/Machine/Audio.lean ====
section
/-! DEFINITION. AUD_MAP: records, checks, commit (R296 to R298), and the AUD counters (R301). -/

namespace Sys2Proof.Machine

/-! ### Records (R296) -/

def mapCount (raw : List Byte) : Nat := leAt raw 32 4

/-- The eight words of record `k`. -/
def mapWords (data : List Byte) (k : Nat) : List Nat := (List.range 8).map (fun j => leAt data (32 * k + 4 * j) 4)

def wAt (ws : List Nat) (k : Nat) : Nat := ws.getD k 0

/-- A ring word: NONE, or a ring. -/
def ringOf (w : Nat) : Option Nat := if bit w 31 then none else some (bits w 0 18)

/-- A ring word of EMBED is laid out right. -/
def ringWordOk (w : Nat) : Bool := bits w 18 13 == 0 && (!bit w 31 || bits w 0 18 == 0)

/-- An entry of FILL is laid out right: bits 30:29 reserved, NONE without a ring. -/
def fillWordOk (w : Nat) : Bool := bits w 29 2 == 0 && (!bit w 31 || bits w 0 18 == 0)

def latOk (l : Nat) : Bool := 16 ≤ l && l ≤ 1024

def recKind (ws : List Nat) : Nat := bits (wAt ws 0) 28 4

def zeroFrom (ws : List Nat) (k : Nat) : Bool := (ws.drop k).all (· == 0)

/-- Groups of an output lane's slot mode: 32 / n. -/
def outGroups (lane : Nat) (s : State) : Nat := 32 / slotsOf (getF LNO_PAY_CFG.SLOT_MODE lane s)

/-- BAD_RECORD of R297 does not apply (log entry 25: the latency is judged in every EMBED record, and in a FILL entry that names a
ring). -/
def recordFormOk (ws : List Nat) (s : State) : Bool :=
  let w := wAt ws 0
  match recKind ws with
  | 1 => bits w 14 14 == 0 && zeroFrom ws 2
  | 2 =>
    bits w 21 4 == 0 && bits w 14 2 == 0 && zeroFrom ws 6 && bits (wAt ws 5) 11 21 == 0
      && bits w 26 2 != 3
      && ((ws.drop 1).take 4).all ringWordOk
      && (bits w 26 2 == 1 || ((ws.drop 1).take 4).all (fun x => bit x 31))
      && latOk (bits (wAt ws 5) 0 11)
      && bits w 16 5 < outGroups (bits w 3 11) s
  | 3 =>
    let n := bits w 18 3
    bits w 10 8 == 0 && 1 ≤ n && n ≤ 6 && zeroFrom ws (n + 1)
      && ((ws.drop 1).take n).all (fun x => fillWordOk x && (bit x 31 || latOk (bits x 18 11)))
  | 4 => bits w 18 10 == 0 && zeroFrom ws 2 && bits (wAt ws 1) 4 28 == 0 && 4 ≤ bits (wAt ws 1) 0 4 && bits (wAt ws 1) 0 4 ≤ 10
  | _ => false

def recordOf (ws : List Nat) : MapRec :=
  let w := wAt ws 0
  match recKind ws with
  | 1 => .deembed (bits w 0 14) (wAt ws 1)
  | 2 => .embed (bits w 0 14) (bits w 16 5) (bits w 26 2) (bit w 25) (((ws.drop 1).take 4).map ringOf) (bits (wAt ws 5) 0 11)
  | 3 => .fill (bits w 21 7) (bits w 0 10) (((ws.drop 1).take (bits w 18 3)).map (fun x => (ringOf x).map (fun r => (r, bits x 18 11))))
  | _ => .length (bits w 0 18) (bits (wAt ws 1) 0 4)

/-! ### Checks (R297): each answers that a record passes -/

def slotOk (x : MapRec) (s : State) : Bool :=
  match x with
  | .deembed i _ => inUsed i s
  | .embed o _ _ _ _ _ => outUsed o s
  | _ => true

def mapEngineOk (x : MapRec) (s : State) : Bool :=
  match x with
  | .fill e ch es => getB REE_ENG_CFG.ENABLED e s && ch + es.length ≤ 1024
  | _ => true

/-- A ring named singly in an EMBED record: with an extent, and not the odd ring of a pair; only two pairs make a group. -/
def embedRingOk (k : Nat) (r : Option Nat) (s : State) : Bool :=
  match r with
  | none => true
  | some r => ringExtent r s && !(ring96 r s && (r % 2 == 1 || 2 ≤ k))

def ringsOk (x : MapRec) (s : State) : Bool :=
  match x with
  | .embed _ _ _ _ rs _ => ((List.range rs.length).zip rs).all (fun p => embedRingOk p.1 p.2 s)
  | .fill _ _ es => es.all (fun e => match e with | some (r, _) => ringExtent r s | none => true)
  | .length r _ => ringExtent r s && !(ring96 r s && r % 2 == 1)
  | _ => true

/-- Home rings of the groups a DEEMBED record enables have the writer DEEMBED. -/
def writerOk (x : MapRec) (s : State) : Bool :=
  match x with
  | .deembed i mask =>
    let n := laneSlots (i / 8) s
    (List.range 32).all (fun g => !mask.testBit g
      || (g < 32 / n && (List.range 4).all (fun c => ringWriter (homeRing n i (4 * g + c)) s == wkDeembed)))
  | _ => true

def ratesOk (x : MapRec) (s : State) : Bool :=
  match x with
  | .embed _ _ _ _ rs _ =>
    let named := rs.filterMap id
    named.all (fun r => ring96 r s) || named.all (fun r => !ring96 r s)
  | _ => true

def latenciesOk (x : MapRec) (s : State) : Bool :=
  match x with
  | .embed _ _ _ _ rs l => (rs.filterMap id).all (fun r => l ≤ ringLen r s)
  | .fill _ _ es => es.all (fun e => match e with | some (r, l) => l ≤ ringLen r s | none => true)
  | _ => true

def lengthOk (x : MapRec) (s : State) : Bool :=
  match x with
  | .length r n => n ≤ getF AUD_RING_CFG.CAP_LOG2 r s
  | _ => true

/-- What a record acts on, as numbers that differ between kinds. -/
def mapTargets : MapRec → List (Nat × Nat)
  | .deembed i _ => [(1, i)]
  | .embed o g _ _ _ _ => [(2, 32 * o + g)]
  | .fill e ch es => (List.range es.length).map (fun k => (3, 1024 * e + ch + k))
  | .length r _ => [(4, r)]

/-- Index of the first element that fails a check. -/
def firstBad {α : Type} (p : α → Bool) (xs : List α) : Option Nat := xs.findIdx? (fun x => !p x)

/-- Index of the first record that names a target of an earlier one. -/
def firstDuplicate : Nat → List (Nat × Nat) → List MapRec → Option Nat
  | _, _, [] => none
  | k, seen, x :: xs => if (mapTargets x).any (fun t => seen.contains t) then some k else firstDuplicate (k + 1) (mapTargets x ++ seen) xs

/-- First failing check of R297 after COUNT and LIST_FAULT: status and record index. -/
def mapCheck (wss : List (List Nat)) (s : State) : Option (Nat × Nat) :=
  let xs := wss.map recordOf
  match firstBad (fun ws => recordFormOk ws s) wss with
  | some k => some (stBadRecord, k)
  | none =>
    let checks : List (Nat × Option Nat) :=
      [(stBadSlot, firstBad (fun x => slotOk x s) xs), (stBadEngine, firstBad (fun x => mapEngineOk x s) xs),
       (stBadRing, firstBad (fun x => ringsOk x s) xs), (stWriter, firstBad (fun x => writerOk x s) xs),
       (stRate, firstBad (fun x => ratesOk x s) xs), (stLatency, firstBad (fun x => latenciesOk x s) xs),
       (stLength, firstBad (fun x => lengthOk x s) xs), (stDuplicate, firstDuplicate 0 [] xs)]
    checks.findSome? (fun c => c.2.map (fun k => (c.1, k)))

/-! ### Acceptance and commit (R298) -/

def mapRecords (raw data : List Byte) : List (List Nat) := (List.range (mapCount raw)).map (mapWords data)

def audMapApply (raw data : List Byte) (uid : Nat) (due : Due) (s : State) : State :=
  setAud (fun a => { a with pend := a.pend ++ [{ uid := uid, recs := (mapRecords raw data).map recordOf, due := due }] }) s

def audMapBody (r : Nat) (raw : List Byte) (list : Option (List Byte)) (entry : Nat) (s : State) : State :=
  if mapCount raw = 0 || 4096 < mapCount raw then refuse r entry raw stCount 0 0 s
  else match list with
    | none => refuse r entry raw stListFault 0 0 s
    | some data =>
      if eList raw % 32 != 0 || data.length < 32 * mapCount raw then refuse r entry raw stListFault 0 0 s
      else match mapCheck (mapRecords raw data) s with
        | some (st, k) => refuse r entry raw st k 0 s
        | none => acceptTimed r entry raw (data.take (32 * mapCount raw)) 1 [audPoints s] (audMapApply raw (data.take (32 * mapCount raw))) s

/-- An EMBED record: the modes of R287; a crossfade only from RINGS to RINGS with another reading; a group that the stream does not
carry stays inactive (R290). -/
def applyEmbed (o g mode : Nat) (xfade : Bool) (rs : List (Option Nat)) (lat : Nat) (s : State) : State :=
  let key := 32 * o + g
  let was := (getF AUD_OUT_RINGS.GROUPS o s).testBit g
  let old := s.aud.groups.find? (fun p => p.1 == key)
  let clearBit (f : Fld) (s : State) : State := setF f o (getF f o s &&& (2 ^ 32 - 1 - 2 ^ g)) s
  let s := s |> clearBit AUD_OUT_RINGS.GROUPS |> clearBit AUD_OUT_MUTE.GROUPS
             |> setAud (fun a => { a with groups := mdrop key a.groups })
  let s :=
    if mode = 1 then
      let from_ := match old with
        | some (_, x) => if xfade && was && (x.rings != rs || x.lat != lat) then some (x.rings, x.lat) else none
        | none => none
      s |> setBit AUD_OUT_RINGS.GROUPS g o
        |> setAud (fun a => { a with groups := minsert key { rings := rs, lat := lat, old := from_ } a.groups })
    else if mode = 2 then setBit AUD_OUT_MUTE.GROUPS g o s
    else s
  if mode != 0 && !groupCarried o g s then raise [AUD_OUT_STATUS.INACTIVE] o s else s

def applyFill (e ch : Nat) (es : List (Option (Nat × Nat))) (s : State) : State :=
  forEach ((List.range es.length).zip es) (fun p s =>
    setAud (fun a => { a with fills := match p.2 with
      | some x => minsert (1024 * e + ch + p.1) x a.fills
      | none => mdrop (1024 * e + ch + p.1) a.fills }) s) s

def pendLength (r n : Nat) (s : State) : State := s |> setF AUD_RING_CFG.PEND_LOG2 r n |> setF AUD_RING_STATUS.PEND r 1

def applyRecord (x : MapRec) (s : State) : State :=
  match x with
  | .deembed i mask => setF AUD_IN_MASK.GROUPS i mask s
  | .embed o g mode xf rs lat => applyEmbed o g mode xf rs lat s
  | .fill e ch es => applyFill e ch es s
  | .length r n => let s := pendLength r n s; if ring96 r s then pendLength (r + 1) n s else s

/-- Every AUD_MAP due at the boundary `t`, in order of acceptance. -/
def commitMaps (t : Nat) (s : State) : State :=
  let due := s.aud.pend.filter (fun p => p.due.reached t s)
  let s := setAud (fun a => { a with pend := a.pend.filter (fun p => !p.due.reached t s) }) s
  forEach due (fun p s => s |> forEach p.recs applyRecord |> memberDone p.uid t 0) s

def audCounters : List Fld :=
  [AUD_IN_SLIP_CNT.COUNT, AUD_IN_PKT_ERR_CNT.COUNT, AUD_IN_STATUS.SLIP_OVF, AUD_IN_STATUS.PKT_OVF]

/-! ### Meanings -/

/-- AUD_MAP -/
def execAudMap (t r : Nat) (raw : List Byte) (list : Option (List Byte)) (s : State) : Host.Outcome State Fault Refusal :=
  .next (ringCmd 0x30 r raw t (audMapBody r raw list) s)

/-- AUD_CLR_CNT -/
def execAudClrCnt (s : State) : Host.Outcome State Fault Refusal := .next (whenHost (clearFlds audCounters) s)

end Sys2Proof.Machine
end

