-- ==== Sys2Proof/Machine/EthOps.lean ====
section
/-! DEFINITION. Ethernet ports: queues, frame checks and classes, the network rings, reserved rates and datapath steps (R352 to R376,
R414, R552 to R554). -/

namespace Sys2Proof.Machine

def setEth (f : EthState → EthState) (s : State) : State := { s with eth := f s.eth }
def lp (k : Nat) (s : State) : EthLp := mget {} s.eth.lps k
def setLp (k : Nat) (f : EthLp → EthLp) (s : State) : State := setEth (fun e => { e with lps := mmod {} e.lps k f }) s
def ethPort (p : Nat) (s : State) : EthPort := mget {} s.eth.ports p
def setPort (p : Nat) (f : EthPort → EthPort) (s : State) : State := setEth (fun e => { e with ports := mmod {} e.ports p f }) s
def netRing (n : Nat) (s : State) : NetRing := mget {} s.eth.nets n
def setNet (n : Nat) (f : NetRing → NetRing) (s : State) : State := setEth (fun e => { e with nets := mmod {} e.nets n f }) s

/-! ### Logical ports (R352, R361) -/

/-- Logical ports of a physical port. -/
def splitOf (p : Nat) (s : State) : Nat := match getF ETH_PORT_CFG.SPLIT p s with | 0 => 1 | 1 => 2 | _ => 4

/-- Logical port k = 4p + s exists under its port's split. -/
def lpUsed (k : Nat) (s : State) : Bool := k < 64 && getB ETH_PORT_CFG.ENABLED (k / 4) s && k % 4 < splitOf (k / 4) s

/-- Network of a logical port (R30). -/
def lpNet (k : Nat) (s : State) : Nat := b2n ((getF ETH_PORT_CFG.NET_MAP (k / 4) s).testBit (k % 4))

/-- Rate of a logical port in Gb/s. -/
def lpRate (k : Nat) (s : State) : Nat := 400 / splitOf (k / 4) s

def mediaRxSize (k : Nat) (s : State) : Nat := 3145728 / splitOf (k / 4) s
def ctlRxSize (k : Nat) (s : State) : Nat := 262144 / splitOf (k / 4) s
def ctlTxSize (k : Nat) (s : State) : Nat := 524288 / splitOf (k / 4) s
def mediaTxSize (k : Nat) (s : State) : Nat := 262144 / splitOf (k / 4) s

def bytesOf {α : Type} (f : α → List Byte) (xs : List α) : Nat := xs.foldl (fun n x => n + (f x).length) 0

def mediaRxBytes (k : Nat) (s : State) : Nat := bytesOf (·.2) (lp k s).mediaRx
def ctlRxBytes (k : Nat) (s : State) : Nat := bytesOf CtlFrame.frame (lp k s).ctlRx
def ctlTxBytes (k : Nat) (s : State) : Nat := bytesOf TxCtl.frame (lp k s).ctlTx
def mediaTxBytes (k : Nat) (s : State) : Nat := bytesOf id (lp k s).mediaTx

/-- Station address (R390). -/
def station (k : Nat) (s : State) : Nat := getF ETH_LP_MAC_HI.ADDR_HI k s * 2 ^ 32 + getF ETH_LP_MAC_LO.ADDR_LO k s

/-- MAX_FRAME in force (R388). -/
def maxFrame (k : Nat) (s : State) : Nat := clampNat 1518 9216 (getF ETH_LP_CFG.MAX_FRAME k s)

/-- Bit s of a four-bit status field of the physical port. -/
def portBit (f : Fld) (k : Nat) (s : State) : Bool := (getF f (k / 4) s).testBit (k % 4)
def setPortBit (f : Fld) (k : Nat) (b : Bool) (s : State) : State :=
  setF f (k / 4) (if b then getF f (k / 4) s ||| 2 ^ (k % 4) else getF f (k / 4) s &&& (15 - 2 ^ (k % 4))) s

def linkUp (k : Nat) (s : State) : Bool := portBit ETH_PORT_STATUS.LINK k s

/-! ### Counters (R376) -/

/-- Add to a 64-bit counter whose WRAP flag is bit `b`. -/
def ethCount64 (c : Fld) (b k n : Nat) (s : State) : State := bump64F c ETH_LP_CNT_FLAGS.WRAP b k n s
/-- Add one to a 32-bit counter whose OVF flag is bit `b` of the register. -/
def ethCount32 (c : Fld) (b k : Nat) (s : State) : State := bump32F c ETH_LP_CNT_FLAGS.OVF (b - 8) k 1 s
def ethCount32By (c : Fld) (b k n : Nat) (s : State) : State := bump32F c ETH_LP_CNT_FLAGS.OVF (b - 8) k n s

/-! ### Frames (R356 to R360) -/

def frameDst (f : List Byte) : Nat := beAt f 0 6
def isGroup (dst : Nat) : Bool := bit dst 40

/-- One tag with TPID 0x8100. -/
def frameTagged (f : List Byte) : Bool := beAt f 12 2 == 0x8100
def frameTci (f : List Byte) : Nat := beAt f 14 2
/-- Where the EtherType stands. -/
def typeAt (f : List Byte) : Nat := if frameTagged f then 16 else 12
def frameType (f : List Byte) : Nat := beAt f (typeAt f) 2
/-- Where the IPv4 header starts. -/
def ipAt (f : List Byte) : Nat := typeAt f + 2
def untag (f : List Byte) : List Byte := if frameTagged f then f.take 12 ++ f.drop 16 else f

/-- The media class (R358). -/
def isMedia (f : List Byte) : Bool :=
  let o := ipAt f
  frameType f == 0x0800 && byteAt f o % 16 == 5
    && beAt f (o + 6) 2 % 0x4000 == 0
    && byteAt f (o + 9) == 17
    && bits (byteAt f (o + 16)) 4 4 == 0xE && beAt f (o + 16) 3 != 0xE00000
    && beAt f (o + 22) 2 != 319 && beAt f (o + 22) 2 != 320

/-- Ones' complement sum of 16-bit words, an odd last byte padded with zero. -/
def onesAdd (a b : Nat) : Nat := if a + b < 65536 then a + b else a + b - 65535
def onesSum : List Byte → Nat
  | [] => 0
  | [a] => a.toNat * 256
  | a :: b :: r => onesAdd (a.toNat * 256 + b.toNat) (onesSum r)

/-- Row 6 of R357 for a frame without FCS. -/
def ipHeaderOk (f : List Byte) : Bool :=
  let o := ipAt f
  onesSum ((f.drop o).take 20) == 0xFFFF && o + beAt f (o + 2) 2 ≤ f.length

/-- UDP pseudo-header sum. -/
def udpSum (f : List Byte) : Nat :=
  let o := ipAt f
  let len := beAt f (o + 24) 2
  onesAdd (onesSum ((f.drop (o + 12)).take 8)) (onesAdd (17 + len) (onesSum ((f.drop (o + 20)).take len)))

/-- Row 7 of R357. -/
def udpOk (f : List Byte) : Bool := beAt f (ipAt f + 26) 2 == 0 || udpSum f == 0xFFFF

/-- A PAUSE frame (R368). -/
def isPause (k : Nat) (f : List Byte) (s : State) : Bool :=
  !frameTagged f && frameType f == 0x8808 && beAt f 14 2 == 1 && (frameDst f == 0x0180C2000001 || frameDst f == station k s)

/-- A PTP event message in a carriage that the MAC timestamps (R374). -/
def isPtpEvent (f : List Byte) : Bool :=
  let o := ipAt f
  let u := o + 4 * (byteAt f o % 16)
  (frameType f == 0x0800 && byteAt f (o + 9) == 17 && beAt f (o + 6) 2 % 0x2000 == 0 && beAt f (u + 2) 2 == 319 && byteAt f (u + 8) % 16 < 4)
    || (frameType f == 0x88F7 && byteAt f o % 16 < 4)

/-- Bytes a frame takes on the line: preamble, SFD, frame with FCS, gap (R371). -/
def wireBytes (len : Nat) : Nat := len + 20

/-- Receive timestamp at the lands (R375). -/
def rxStamp (k t : Nat) (s : State) : Nat := toLocal t s - getF ETH_LP_PTP_DELAY.RX_DELAY k s * 4096
def txStamp (k t : Nat) (s : State) : Nat := toLocal t s + getF ETH_LP_PTP_DELAY.TX_DELAY k s * 4096

/-! ### Datapath steps (R371 to R373) -/

def stepCapacity (st : Nat) : Nat := match st with | 0 => 512 | 1 => 192 | _ => 64

/-- Payload bytes of a VIDEO packet (R409). -/
def videoPayload (c : Nat) (s : State) : Nat := if bit (txWord c 7 s) 12 then 900 else bits (txWord c 7 s) 0 11 / 5 * 5

/-- Packets of a frame of format `f` with packets of `n` bytes (R414). -/
def videoPackets (f n : Nat) : Nat :=
  let b := fmtWidth f * fmtHeight f * 2 * 10 / 8
  if isInterlaced f then 2 * ceilDiv (b / 2) (max 1 n) else ceilDiv b (max 1 n)

/-- Sample rate and bytes of an audio context. -/
def txSampleRate (c : Nat) (s : State) : Nat := if ring96 (txFirstRing c s) s then 96000 else 48000
def txSampleBytes (c : Nat) (s : State) : Nat := if getF FLW_TX_CFG.KIND c s = 4 then 4 else if bit (txWord c 7 s) 19 then 2 else 3
/-- Packets per second of an audio context. -/
def txPacketRate (c : Nat) (s : State) : Nat := if bit (txWord c 7 s) 20 then 8000 else 1000

/-- Reserved rate of a transmit context in bit/s, rounded up (R414). -/
def txRate (c : Nat) (s : State) : Nat :=
  let tag := 4 * b2n (bit (txWord c 5 s) 31)
  match getF FLW_TX_CFG.KIND c s with
  | 1 =>
    let f := bits (txWord c 7 s) 24 8
    let n := videoPayload c s
    ceilDiv (videoPackets f n * (n + 92 + tag) * 8 * (rateFrac (fmtRate f)).1) (rateFrac (fmtRate f)).2
  | 2 => 16000000
  | 3 => txPacketRate c s * (txSampleRate c s / txPacketRate c s * txChannels c s * txSampleBytes c s + 78 + tag) * 8
  | 4 => txPacketRate c s * (txSampleRate c s / txPacketRate c s * txChannels c s * 4 + 78 + tag) * 8
  | 5 => bits (txWord c 7 s) 0 16 * 1000000
  | _ => 0

def txLpA (c : Nat) (s : State) : Nat := bits (txWord c 1 s) 24 6
def txLpB (c : Nat) (s : State) : Nat := bits (txWord c 1 s) 16 6
def txPaired (c : Nat) (s : State) : Bool := bit (txWord c 1 s) 31
def txLps (c : Nat) (s : State) : List Nat := if txPaired c s then [txLpA c s, txLpB c s] else [txLpA c s]

def txEnabled (s : State) : List Nat := indicesWhere FLW_TX_STATUS.EN (· == 1) s

/-- Cursors c(-2), c(-1), c(0) and c(1) of the transmit equaliser of lane `l` of port `p`, in thousandths: C_M1 above 6 and C_P1 above 10
act as those, C_M2 acts at 53.125 GBd alone, and the main cursor takes the remainder (R745). -/
def txCursors (p l : Nat) (s : State) : Int × Int × Int × Int :=
  let i := 8 * p + l
  let m2 := if getB ETH_PORT_CFG.LANE_RATE p s then getF ETH_LANE_TXEQ.C_M2 i s else 0
  let m1 := min 6 (getF ETH_LANE_TXEQ.C_M1 i s)
  let p1 := min 10 (getF ETH_LANE_TXEQ.C_P1 i s)
  (25 * (m2 : Int), -25 * (m1 : Int), 1000 - 25 * (m2 + m1 + p1 : Int), -25 * (p1 : Int))

/-- Reserved rates on physical port `p`, in bit/s. -/
def portReserved (p : Nat) (s : State) : Nat :=
  (txEnabled s).foldl (fun n c => n + ((txLps c s).filter (fun k => k / 4 == p)).length * txRate c s) 0

/-- A step is fast enough for the port's reservations (R373). -/
def stepAllowed (p st : Nat) (s : State) : Bool :=
  st ≤ getF ETH_PORT_STEP.STEP_FLOOR p s && portReserved p s * 125 ≤ stepCapacity st * 100 * 1000000000

def changeStep (p st : Nat) (s : State) : State :=
  let old := getF ETH_PORT_STATUS.STEP p s
  if old = st then s
  else
    let s := if st < old then setPort p (fun x => { x with lastRise := s.now }) s else s
    s |> setF ETH_PORT_STATUS.STEP p st |> raise [ETH_PORT_EVT.STEP] p |> bump32 ETH_PORT_STEP_CHG_CNT.COUNT ETH_PORT_EVT.STEP_OVF p

/-- A rise to S0 at once (R373). -/
def stepUp (p : Nat) (s : State) : State := changeStep p 0 s

/-- The step is not below the slowest that the port's reservations allow (R373). -/
def stepFor (p : Nat) (s : State) : State :=
  let ok (st : Nat) : Bool := portReserved p s * 125 ≤ stepCapacity st * 100 * 1000000000
  if ok (getF ETH_PORT_STATUS.STEP p s) then s else changeStep p (if ok 1 then 1 else 0) s

/-- Thresholds as they act (R385). -/
def stepRise (f : Fld) (p : Nat) (s : State) : Nat := min 100 (getF f p s)
def stepFall (f g : Fld) (p : Nat) (s : State) : Nat :=
  let r := stepRise g p s
  let x := min 100 (getF f p s)
  if x < r then x else r - 1

/-- Line bytes that 400 Gb/s carries in 1 ms. -/
def windowBytes : Nat := 50000000

/-- A millisecond of local time begins (to the nanosecond, log entry 2). -/
def msInstant (s : State) : Bool := localTime s % msUnit < nsUnit

/-- The end of a 1 ms window (R372). -/
def stepWindow (p : Nat) (s : State) : State :=
  let x := ethPort p s
  let u := max x.rxBytes x.txBytes * 100
  let more (n : Nat) : Bool := n * windowBytes < u
  let under (n : Nat) : Bool := u < n * windowBytes
  let mayFall := x.lastRise ≤ x.winStart
  let st := getF ETH_PORT_STATUS.STEP p s
  let next :=
    if st = 2 then (if more (stepRise ETH_PORT_STEP.RISE2 p s) then 1 else 2)
    else if st = 1 then
      (if more (stepRise ETH_PORT_STEP.RISE1 p s) then 0
       else if mayFall && under (stepFall ETH_PORT_STEP.FALL2 ETH_PORT_STEP.RISE2 p s) && stepAllowed p 2 s then 2 else 1)
    else if mayFall && under (stepFall ETH_PORT_STEP.FALL1 ETH_PORT_STEP.RISE1 p s) && stepAllowed p 1 s then 1 else st
  s |> changeStep p next |> setPort p (fun x => { x with rxBytes := 0, txBytes := 0, winStart := s.now })

/-! ### Network rings (R552 to R554) -/

def netTxSize (n : Nat) (s : State) : Nat := ringSize (getF HIF_NET_TX_CFG.SIZE_LOG2 n s)
def netRxSize (n : Nat) (s : State) : Nat := ringSize (getF HIF_NET_RX_CFG.SIZE_LOG2 n s)

/-- A timestamp as the descriptors hold it: seconds, two zero bytes, nanoseconds, fraction, two zero bytes. -/
def stampBytes (ts : Option Nat) : List Byte :=
  match ts with
  | none => List.replicate 16 0#8
  | some t => leBytes 6 (timeSec t) ++ leBytes 2 0 ++ leBytes 4 (timeNs t) ++ leBytes 2 (t % 65536) ++ leBytes 2 0

/-- A received frame goes into the next posted descriptor's buffer, or is dropped and counted (R364, R554). -/
def deliverCtl (k : Nat) (f : CtlFrame) (s : State) : State :=
  let n := lpNet k s
  let drop (s : State) : State := bump32 ETH_MGMT_RX_DROP.COUNT ETH_MGMT_FLAGS.RX_DROP_OVF n s
  if !getB HIF_NET_RX_CFG.EN n s then drop s
  else match (netRing n s).rxDescs with
    | [] => drop s
    | d :: ds =>
      if leAt d 8 2 < f.frame.length then drop s
      else
        let h := getF HIF_NET_RX_HEAD.HEAD n s
        let a := getF HIF_NET_RX_BASE.ADDR n s + 32 * h
        let flags := b2n f.tci.isSome + 2 * b2n f.ts.isSome
        s |> setNet n (fun x => { x with rxDescs := ds })
          |> emit (.hostWrite (leAt d 0 8) f.frame)
          |> emit (.hostWrite (a + 10) (leBytes 2 f.frame.length))
          |> emit (.hostWrite (a + 13) (leBytes 1 k ++ leBytes 2 (f.tci.getD 0) ++ stampBytes f.ts))
          |> emit (.hostWrite (a + 12) (leBytes 1 (128 + flags)))
          |> setF HIF_NET_RX_HEAD.HEAD n ((h + 1) % netRxSize n s)
          |> signal (17 + n)

/-- The management MAC passes the queued control frames on, while the module may write host memory (R529, R554). -/
def drainCtlRx (k : Nat) (s : State) : State :=
  if !hostUp s then s
  else
    let fs := (lp k s).ctlRx
    s |> setLp k (fun x => { x with ctlRx := [] }) |> forEach fs (deliverCtl k)

/-- HIF_NET_TX_HEAD moves past every frame at the front that has been written back. -/
def moveTxHead (n : Nat) (s : State) : State :=
  let l := (netRing n s).txOpen
  let done := l.takeWhile (·.2)
  match done.getLast? with
  | some (i, _) => s |> setF HIF_NET_TX_HEAD.HEAD n i |> setNet n (fun x => { x with txOpen := l.drop done.length })
  | none => s

/-- The write-back while the module may write host memory. -/
def writeBackNow (n eof : Nat) (desc : List Byte) (stat : Nat) (ts : Option Nat) (s : State) : State :=
  let a := getF HIF_NET_TX_BASE.ADDR n s + 32 * eof
  s |> emit (.hostWrite (a + 14) (leBytes 1 stat ++ leBytes 1 0 ++ stampBytes ts))
    |> emit (.hostWrite (a + 10) (leBytes 1 (byteAt desc 10 % 128 + 128)))
    |> setNet n (fun x => { x with txOpen := x.txOpen.map (fun p => if p.1 = (eof + 1) % netTxSize n s then (p.1, true) else p) })
    |> moveTxHead n
    |> (fun s => if bit (byteAt desc 10) 3 || stat != 0 || (netRing n s).txOpen = [] && (netRing n s).txPend = [] then signal (19 + n) s else s)

/-- Write TXSTAT and the timestamp back into the EOF descriptor, DONE last (R553); in D3hot it waits (R529). A frame of a ring that a
function reset has ended (net 2) has no descriptor any more. -/
def writeBack (n eof : Nat) (desc : List Byte) (stat : Nat) (ts : Option Nat) (s : State) : State :=
  if 2 ≤ n then s
  else if hostUp s then writeBackNow n eof desc stat ts s
  else setNet n (fun x => { x with held := x.held ++ [(eof, desc, stat, ts)] }) s

/-- Write-backs that waited. -/
def releaseBacks (n : Nat) (s : State) : State :=
  let hs := (netRing n s).held
  s |> setNet n (fun x => { x with held := [] }) |> forEach hs (fun h s => writeBackNow n h.1 h.2.1 h.2.2.1 h.2.2.2 s)

def txSent : Nat := 0
def txOversize : Nat := 1
def txUnsup : Nat := 2
def txLink : Nat := 3
def txFlush : Nat := 4
def txBadPort : Nat := 5
def txReadErr : Nat := 6

/-- Descriptors of the first frame that waits: up to and including the one with EOF. -/
def firstFrame (l : List (List Byte × Option (List Byte))) : Option (List (List Byte × Option (List Byte))) :=
  match l.findIdx? (fun d => bit (byteAt d.1 10) 1) with
  | some i => some (l.take (i + 1))
  | none => none

/-- Take `n` descriptors off the front, as a frame that is now open until it is written back. -/
def openFrame (net : Nat) (ds : List (List Byte × Option (List Byte))) (s : State) : Nat × State :=
  let x := netRing net s
  let next := (x.txNext + ds.length) % netTxSize net s
  ((x.txNext + ds.length - 1) % netTxSize net s,
   setNet net (fun x => { x with txPend := x.txPend.drop ds.length, txNext := next, txOpen := x.txOpen ++ [(next, false)] }) s)

/-- Bytes of a frame: LEN bytes of each buffer. -/
def frameBytes (ds : List (List Byte × Option (List Byte))) : List Byte :=
  ds.flatMap (fun d => (d.2.getD []).take (leAt d.1 8 2))

/-- The descriptor DMA places the next frame in its staging: a port that is not the ring's ends it with BAD_PORT; it waits while a
buffer read is outstanding or the staging has no room. -/
def placeOne (net : Nat) (s : State) : State :=
  match firstFrame (netRing net s).txPend with
  | none => s
  | some ds =>
    let d := (ds.head?.map (·.1)).getD []
    let last := (ds.getLast?.map (·.1)).getD []
    let k := byteAt d 11
    if ds.any (fun x => x.2.isNone) then s
    else if !lpUsed k s || lpNet k s != net then
      let (eof, s) := openFrame net ds s
      writeBack net eof last txBadPort none s
    else
      let f := frameBytes ds
      if ctlTxSize k s < ctlTxBytes k s + f.length then s
      else
        let (eof, s) := openFrame net ds s
        let x : TxCtl := { net := net, eof := eof, desc := last, frame := f,
                           tag := if bit (byteAt d 10) 2 then some (leAt d 12 2) else none, tsReq := bit (byteAt d 10) 3 }
        setLp k (fun l => { l with ctlTx := l.ctlTx ++ [x] }) s

/-- Place what can be placed, while the ring is enabled and DMA may run. -/
def placeFrames (net : Nat) (s : State) : State :=
  if hostUp s && getB HIF_NET_TX_CFG.EN net s then (List.range (netRing net s).txPend.length).foldl (fun s _ => placeOne net s) s else s

end Sys2Proof.Machine
end

