-- ==== Sys2Proof/Machine/FabOps.lean ====
section
/-! DEFINITION. The control fabric: address decoding, the error log, and a master reset mid-burst (R665 to R673, R690, R691). -/

namespace Sys2Proof.Machine

/-! ### Codes (R665) -/

def maCp0 : Nat := 0
def maCp1 : Nat := 1
def maPrinel : Nat := 2
def maPcie : Nat := 3
def maDebug : Nat := 4
def maDma : Nat := 5

def tgRom : Nat := 0
def tgCtlSram : Nat := 1
def tgRegs : Nat := 2
def tgStore : Nat := 3
def tgSram : Nat := 4
def tgKennel : Nat := 5
def tgNone : Nat := 0xF

/-- Target and offset within it of a fabric address (R666). Control SRAM and the SRAM window answer the byte offset in the 320 MiB of
SRAM; the kennel the byte offset in the kennel. -/
def fabDecode (remap : Bool) (a : Nat) : Nat × Nat :=
  let ctl : Nat := 70 * 0x400000
  if a < 0x00800000 then (if remap then (tgCtlSram, ctl + a) else (tgRom, a % 0x80000))
  else if 0x10000000 ≤ a && a < 0x10080000 then (tgRom, a - 0x10000000)
  else if 0x20000000 ≤ a && a < 0x20800000 then (tgCtlSram, ctl + (a - 0x20000000))
  else if 0x40000000 ≤ a && a < 0x44000000 then (tgRegs, a - 0x40000000)
  else if 0x50000000 ≤ a && a < 0x50400000 then (tgStore, a - 0x50000000)
  else if 0x80000000 ≤ a && a < 0x94000000 then
    let o := a - 0x80000000
    (if 70 ≤ o / 0x400000 && o / 0x400000 < 72 then tgCtlSram else tgSram, o)
  else if 0x1000000000 ≤ a && a < 0x4000000000 then (tgKennel, a - 0x1000000000)
  else (tgNone, 0)

/-! ### The error log (R669, R690, R691) -/

def fkDecode : Nat := 1
def fkDenied : Nat := 2
def fkAbort : Nat := 3
def fkTarget : Nat := 4

def fabEvt (kind : Nat) : Fld :=
  if kind = fkDecode then FAB_EVT.DECODE else if kind = fkDenied then FAB_EVT.DENIED
  else if kind = fkAbort then FAB_EVT.ABORT else FAB_EVT.TARGET_ERR

/-- Log an entry in the next slot, count it, and set its event. -/
def fabLog (kind master target beats : Nat) (write : Bool) (addr : Nat) (s : State) : State :=
  let e := if getB FAB_ERR_HEAD.VALID 0 s then (getF FAB_ERR_HEAD.SLOT 0 s + 1) % 16 else 0
  s |> setF FAB_ERR_LOG.KIND e kind |> setF FAB_ERR_LOG.MASTER e master |> setF FAB_ERR_LOG.TARGET e target
    |> setF FAB_ERR_LOG.BEATS e beats |> setB FAB_ERR_LOG.WRITE e write
    |> setF FAB_ERR_LOG.ADDR_LO e addr |> setF FAB_ERR_LOG.ADDR_HI e (addr / 2 ^ 32)
    |> setF FAB_ERR_LOG.SEC e (timeSec (localTime s))
    |> setF FAB_ERR_HEAD.VALID 0 1 |> setF FAB_ERR_HEAD.SLOT 0 e
    |> bump32 FAB_ERR_CNT.COUNT FAB_EVT.ERR_OVF 0 |> raise [fabEvt kind] 0

/-- A master is reset while one of its bursts holds a path: the burst ends masked, and an ABORT entry tells the beats that had been
transferred (R673). -/
def abortBurst (master : Nat) (b : Option Burst) (s : State) : State :=
  match b with
  | none => s
  | some b => fabLog fkAbort master b.target b.beats b.write b.addr s

/-- A MODULE reset resets both control pairs and, as R557 has it, inbound PCIe: the bursts that those of them hold end so. -/
def abortBursts (bs : List (Nat × Burst)) (s : State) : State :=
  forEach (bs.filter (fun p => [maCp0, maCp1, maPcie].contains p.1)) (fun p s => abortBurst p.1 (some p.2) s) s

end Sys2Proof.Machine
end

