-- ==== Sys2Proof/Machine/Ethernet.lean ====
section
/-! DEFINITION. The Ethernet ports' events, flushes and PAUSE (R352 to R376), the network rings' doorbells (R552 to R554), and the
module-wide snapshot (R35, R377). -/

namespace Sys2Proof.Machine

/-! ### Receive (R357 to R364) -/

/-- The frame's receive queue was flushed after its first word and before its end: the rest is discarded (R365). -/
def flushedWhile (began : Nat) (at_ : Option Nat) (s : State) : Bool := match at_ with | some x => began ≤ x && x ≤ s.now | none => false

/-- First failing row of R357 for frame `f` (with FCS); 0 where all pass. `uncorr`: a codeword of it was uncorrectable. -/
def rxRow (k : Nat) (f : List Byte) (uncorr : Bool) (s : State) : Nat :=
  let body := f.take (f.length - 4)
  let media := isMedia body
  let room := if media then mediaRxBytes k s + f.length ≤ mediaRxSize k s else ctlRxBytes k s + f.length ≤ ctlRxSize k s
  if f.length ≤ 63 then 1
  else if !isGroup (frameDst f) && frameDst f != station k s && !getB ETH_LP_CFG.PROMISC k s then 2
  else if maxFrame k s < f.length then 3
  else if !room then 4
  else if uncorr || leVal (f.drop (f.length - 4)) != crc32 body then 5
  else if media && !ipHeaderOk body then 6
  else if media && !udpOk body then 7
  else 0

/-- Count a dropped frame in its row's counter. -/
def countDrop_ (row k : Nat) (s : State) : State :=
  match row with
  | 1 => ethCount32 ETH_LP_RUNT.COUNT 8 k s
  | 2 => ethCount32 ETH_LP_ADDR_DROP.COUNT 11 k s
  | 3 => ethCount32 ETH_LP_OVERSIZE.COUNT 9 k s
  | 4 => s |> ethCount32 ETH_LP_RX_NOBUF.COUNT 14 k |> raise [ETH_PORT_EVT.RX_NOBUF] (k / 4)
  | 5 => ethCount32 ETH_LP_FCS_ERR.COUNT 10 k s
  | 6 => ethCount32 ETH_LP_IP_HDR_ERR.COUNT 12 k s
  | _ => ethCount32 ETH_LP_UDP_CSUM_ERR.COUNT 13 k s

/-- RX_OCTETS and RX_FRAMES: frames committed, or consumed as PAUSE. -/
def countRx (k n : Nat) (s : State) : State :=
  s |> ethCount64 ETH_LP_RX_OCTETS.COUNT 0 k n |> ethCount64 ETH_LP_RX_FRAMES.COUNT 1 k 1

/-- A PAUSE frame is consumed; it takes effect between frames (R360, R369, R370). -/
def pauseRx (k : Nat) (f : List Byte) (s : State) : State :=
  let s := s |> countRx k f.length |> ethCount32 ETH_LP_PAUSE_RX.COUNT 16 k |> setLp k (fun l => { l with pausePend := some (beAt f 16 2) })
  if getB ETH_LP_CFG.MEDIA_PAUSE k s then s else ethCount32 ETH_LP_MEDIA_PAUSE_IGN.COUNT 17 k s

/-- A frame that has passed every row is committed to its class's queue. -/
def commitFrame (k : Nat) (f : List Byte) (s : State) : State :=
  let body := f.take (f.length - 4)
  if isPause k f s then pauseRx k f s
  else if frameType f = 0x8808 then ethCount32 ETH_LP_UNSUP_CTL.COUNT 19 k s
  else if isMedia body then
    s |> countRx k f.length |> ethCount64 ETH_LP_RX_MEDIA.COUNT 4 k 1 |> setLp k (fun l => { l with mediaRx := l.mediaRx ++ [(s.now, body)] })
  else
    let c : CtlFrame := { frame := untag body, tci := if frameTagged body then some (frameTci body) else none,
                          ts := if isPtpEvent body then some (rxStamp k s.now s) else none }
    s |> countRx k f.length |> ethCount64 ETH_LP_RX_CTL.COUNT 5 k 1 |> setLp k (fun l => { l with ctlRx := l.ctlRx ++ [c] }) |> drainCtlRx k

/-- A frame ends on logical port `k`: `began` is the time of its first word, `fifo` the bytes that the receive rate-adaptation FIFO
held, `corr` and `bad` the codewords corrected and uncorrectable. -/
def macRx (k : Nat) (f : List Byte) (began fifo corr bad : Nat) (s : State) : State :=
  if !lpUsed k s then s
  else
    let p := k / 4
    let s := s |> setPort p (fun x => { x with rxBytes := x.rxBytes + wireBytes f.length })
               |> ethCount32By ETH_LP_FEC_CORR.COUNT 21 k corr |> ethCount32By ETH_LP_FEC_UNCORR.COUNT 22 k bad
    let s := if 65536 < fifo then stepUp p s else s
    let row := rxRow k f (bad != 0) s
    let flushAt := if isMedia (f.take (f.length - 4)) then (lp k s).flushMedia else (lp k s).flushCtl
    if row = 1 || row = 2 then countDrop_ row k s
    else if flushedWhile began flushAt s then ethCount32 ETH_LP_FLUSH_DROP.COUNT 15 k s
    else if row != 0 then countDrop_ row k s
    else commitFrame k f s

/-! ### PAUSE (R368 to R370) -/

/-- The pause time of `q` quanta of 512 bit times. -/
def pauseUnits (k q : Nat) (s : State) : Nat := q * 512 * nsUnit / lpRate k s

def pauseEffect (k : Nat) (s : State) : State :=
  match (lp k s).pausePend with
  | some q =>
    s |> setLp k (fun l => { l with pausePend := none, pauseEnd := if q = 0 then none else some (s.now + pauseUnits k q s) })
      |> setPortBit ETH_PORT_STATUS.PAUSED k (q != 0)
  | none => s

def pauseExpire (k : Nat) (s : State) : State :=
  match (lp k s).pauseEnd with
  | some e => if e ≤ s.now then s |> setLp k (fun l => { l with pauseEnd := none }) |> setPortBit ETH_PORT_STATUS.PAUSED k false else s
  | none => s

def paused (k : Nat) (s : State) : Bool := match (lp k s).pauseEnd with | some e => s.now < e | none => false

/-! ### Transmit (R366, R367) -/

def put16 (f : List Byte) (at_ v : Nat) : List Byte := f.take at_ ++ beBytes 2 v ++ f.drop (at_ + 2)

/-- Ones' complement. -/
def ones (x : Nat) : Nat := 0xFFFF - x

/-- A media packet with its IPv4 and UDP checksums (R366). -/
def withChecksums (f : List Byte) (udp : Bool) : List Byte :=
  let o := ipAt f
  let f := put16 (put16 f (o + 10) 0) (o + 26) 0
  let f := put16 f (o + 10) (ones (onesSum ((f.drop o).take 20)))
  if udp then put16 f (o + 26) (if udpSum f = 0xFFFF then 0xFFFF else ones (udpSum f)) else f

/-- Padding to 64 bytes with FCS, after tag insertion. -/
def padFrame (f : List Byte) : List Byte := f ++ List.replicate (60 - f.length) 0#8

def insertTag (f : List Byte) (tag : Option Nat) : List Byte :=
  match tag with
  | some t => f.take 12 ++ beBytes 2 0x8100 ++ beBytes 2 t ++ f.drop 12
  | none => f

/-- Count a frame sent, `n` bytes with FCS. -/
def countTx (k n : Nat) (s : State) : State :=
  s |> ethCount64 ETH_LP_TX_OCTETS.COUNT 2 k n |> ethCount64 ETH_LP_TX_FRAMES.COUNT 3 k 1
    |> setPort (k / 4) (fun x => { x with txBytes := x.txBytes + wireBytes n })

def sendMedia (k : Nat) (f : List Byte) (s : State) : State :=
  let g := padFrame (withChecksums f (getB ETH_LP_CFG.UDP_CSUM k s))
  s |> setLp k (fun l => { l with mediaTx := l.mediaTx.drop 1 }) |> emit (.macFrame k g) |> countTx k (g.length + 4)

/-- The control frame at the head of the staging is sent or dropped, and written back. -/
def sendCtl (k : Nat) (x : TxCtl) (s : State) : State :=
  let g := padFrame (insertTag x.frame x.tag)
  let s := setLp k (fun l => { l with ctlTx := l.ctlTx.drop 1 }) s
  let s :=
    if maxFrame k s < g.length + 4 then s |> ethCount32 ETH_LP_OVERSIZE.COUNT 9 k |> writeBack x.net x.eof x.desc txOversize none
    else if frameType x.frame = 0x8808 then s |> ethCount32 ETH_LP_UNSUP_CTL.COUNT 19 k |> writeBack x.net x.eof x.desc txUnsup none
    else
      s |> emit (.macFrame k g) |> countTx k (g.length + 4)
        |> writeBack x.net x.eof x.desc txSent (if x.tsReq && isPtpEvent g then some (txStamp k s.now s) else none)
  placeFrames x.net s

/-- What the link cannot carry is discarded (R367). -/
def linkDiscard (k : Nat) (s : State) : State :=
  let l := lp k s
  let s := s |> setLp k (fun l => { l with mediaTx := [] }) |> ethCount32By ETH_LP_TX_LINK_DROP.COUNT 20 k l.mediaTx.length
  match l.ctlTx with
  | x :: xs =>
    s |> setLp k (fun l => { l with ctlTx := xs }) |> ethCount32 ETH_LP_TX_LINK_DROP.COUNT 20 k
      |> writeBack x.net x.eof x.desc txLink none |> placeFrames x.net
  | [] => s

/-- The MAC takes the next frame: media first, then control (R366, R370). -/
def macNext (k : Nat) (s : State) : State :=
  if !linkUp k s || portBit ETH_PORT_STATUS.RFAULT k s then linkDiscard k s
  else
    let l := lp k s
    let hold := paused k s
    match l.mediaTx with
    | f :: fs => if hold && getB ETH_LP_CFG.MEDIA_PAUSE k s then
        s |> setLp k (fun l => { l with mediaTx := fs }) |> ethCount32 ETH_LP_MEDIA_PAUSE_DROP.COUNT 18 k
      else sendMedia k f s
    | [] => match l.ctlTx with
      | x :: _ => if hold then s else sendCtl k x s
      | [] => s

/-- A frame is sent, and a PAUSE that arrived during it takes effect with its last byte (R369). -/
def macTx (k : Nat) (s : State) : State := if lpUsed k s then s |> macNext k |> pauseEffect k else s

/-! ### Links (R354, R702, R703) -/

/-- What the port sends between frames: remote fault in local fault, idle alone while it receives remote fault (R354). -/
def lineSignal (k : Nat) (s : State) : Nat :=
  if portBit ETH_PORT_STATUS.LFAULT k s then 1 else if portBit ETH_PORT_STATUS.RFAULT k s then 2 else 0

/-- Show a change of it. -/
def showLine (k was : Nat) (s : State) : State := if lineSignal k s = was then s else emit (.lineSignal k (lineSignal k s)) s

/-- An ASLEEP domain wakes. -/
def wakeDom (d : Nat) (s : State) : State := if getF PWR_DOM.STATE d s = dAsleep then setF PWR_DOM.STATE d dOn s else s

def linkRise (k : Nat) (remote : Bool) (s : State) : State :=
  if !lpUsed k s || domDown (256 + k / 4) s then s
  else
    let s := s |> wakeDom (256 + k / 4) |> wakeDom (520 + k / 4)
               |> setPortBit ETH_PORT_STATUS.RFAULT k remote |> setPortBit ETH_PORT_STATUS.LFAULT k false |> showLine k (lineSignal k s)
    if linkUp k s then s else s |> setPortBit ETH_PORT_STATUS.LINK k true |> raise [ETH_PORT_EVT.LINK_UP] (k / 4)

def linkFall (k : Nat) (loc : Bool) (s : State) : State :=
  if !lpUsed k s then s
  else
    let s := s |> setPortBit ETH_PORT_STATUS.LFAULT k loc |> showLine k (lineSignal k s)
    if linkUp k s then
      s |> setPortBit ETH_PORT_STATUS.LINK k false |> raise [ETH_PORT_EVT.LINK_DOWN] (k / 4)
        |> ethCount32 ETH_LP_LINK_DOWN_CNT.COUNT 23 k
    else s

/-- A flow context that is enabled names a logical port of physical port `p`. -/
def flowNames (p : Nat) (s : State) : Bool :=
  let w (f : Fld) (c k : Nat) := getF f (8 * c + k) s
  let at_ (f : Fld) (c : Nat) : Bool := bits (w f c 1) 24 6 / 4 == p || (bit (w f c 1) 31 && bits (w f c 1) 16 6 / 4 == p)
  (txEnabled s).any (at_ FLW_TX_REC.WORD) || (indicesWhere FLW_RX_STATUS.EN (· == 1) s).any (at_ FLW_RX_REC.WORD)

/-- No receive lane of port `p` has shown signal for 10 ms: its SerDes and PCS clocks stop, the datapath stays at S2. -/
def portIdle (p : Nat) (s : State) : State :=
  if p < 16 && getB ETH_PORT_CFG.ENABLED p s && getF PWR_DOM.STATE (256 + p) s = dOn && !(List.range 4).any (fun k => linkUp (4 * p + k) s) then
    let s := s |> setF PWR_DOM.STATE (256 + p) dAsleep |> changeStep p 2
    if !flowNames p s && getF PWR_DOM.STATE (520 + p) s = dOn then setF PWR_DOM.STATE (520 + p) dAsleep s else s
  else s

/-! ### Flushes (R365) -/

def flushMediaRx (k : Nat) (s : State) : State :=
  if !lpUsed k s || getB ETH_LP_CTL.MEDIA_RX_BUSY k s then s
  else
    s |> ethCount32By ETH_LP_FLUSH_DROP.COUNT 15 k (lp k s).mediaRx.length
      |> setLp k (fun l => { l with mediaRx := [], flushMedia := some s.now }) |> setF ETH_LP_CTL.MEDIA_RX_BUSY k 1

def flushCtlRx (k : Nat) (s : State) : State :=
  if !lpUsed k s || getB ETH_LP_CTL.CTL_RX_BUSY k s then s
  else
    s |> ethCount32By ETH_LP_FLUSH_DROP.COUNT 15 k (lp k s).ctlRx.length
      |> setLp k (fun l => { l with ctlRx := [], flushCtl := some s.now }) |> setF ETH_LP_CTL.CTL_RX_BUSY k 1

/-- A frame that the descriptor DMA has begun to place on port `k` and cannot end, a buffer read being outstanding, is discarded
whole. -/
def flushPartial (k : Nat) (s : State) : State :=
  let n := lpNet k s
  match firstFrame (netRing n s).txPend with
  | some ds =>
    if (ds.head?.map (fun d => byteAt d.1 11 == k && d.2.isSome)).getD false && ds.any (fun d => d.2.isNone) then
      let last := (ds.getLast?.map (·.1)).getD []
      let (eof, s) := openFrame n ds s
      s |> ethCount32 ETH_LP_FLUSH_DROP.COUNT 15 k |> writeBack n eof last txFlush none
    else s
  | none => s

def flushCtlTx (k : Nat) (s : State) : State :=
  if !lpUsed k s || getB ETH_LP_CTL.CTL_TX_BUSY k s then s
  else
    let xs := (lp k s).ctlTx
    s |> setLp k (fun l => { l with ctlTx := [] }) |> ethCount32By ETH_LP_FLUSH_DROP.COUNT 15 k xs.length
      |> forEach xs (fun x s => writeBack x.net x.eof x.desc txFlush none s) |> flushPartial k |> setF ETH_LP_CTL.CTL_TX_BUSY k 1
      |> placeFrames (lpNet k s)

/-- A flush ends: of the media receive (0), control receive (1) or control transmit queue (2). -/
def flushEnd (k q : Nat) (s : State) : State :=
  let f := if q = 0 then ETH_LP_CTL.MEDIA_RX_BUSY else if q = 1 then ETH_LP_CTL.CTL_RX_BUSY else ETH_LP_CTL.CTL_TX_BUSY
  if k < 64 && getB f k s then s |> setF f k 0 |> raise [ETH_PORT_EVT.FLUSH_DONE] (k / 4) else s

/-! ### Counters -/

def ethCounters : List Fld :=
  [ETH_PORT_STEP_CHG_CNT.COUNT, ETH_PORT_EVT.STEP_OVF, ETH_LP_CNT_FLAGS.OVF, ETH_LP_CNT_FLAGS.WRAP, ETH_LP_RX_OCTETS.COUNT,
   ETH_LP_RX_FRAMES.COUNT, ETH_LP_TX_OCTETS.COUNT, ETH_LP_TX_FRAMES.COUNT, ETH_LP_RX_MEDIA.COUNT, ETH_LP_RX_CTL.COUNT,
   ETH_LP_RUNT.COUNT, ETH_LP_OVERSIZE.COUNT, ETH_LP_FCS_ERR.COUNT, ETH_LP_ADDR_DROP.COUNT, ETH_LP_IP_HDR_ERR.COUNT,
   ETH_LP_UDP_CSUM_ERR.COUNT, ETH_LP_RX_NOBUF.COUNT, ETH_LP_FLUSH_DROP.COUNT, ETH_LP_PAUSE_RX.COUNT, ETH_LP_MEDIA_PAUSE_IGN.COUNT,
   ETH_LP_MEDIA_PAUSE_DROP.COUNT, ETH_LP_UNSUP_CTL.COUNT, ETH_LP_TX_LINK_DROP.COUNT, ETH_LP_FEC_CORR.COUNT, ETH_LP_FEC_UNCORR.COUNT,
   ETH_LP_LINK_DOWN_CNT.COUNT, ETH_MGMT_RX_DROP.COUNT, ETH_MGMT_FLAGS.RX_DROP_OVF]

/-! ### Snapshot (R35, R377) -/

/-- Order a snapshot; orders that are armed already merge. -/
def snapArm (s : State) : State := setF MON_SNAP_STATUS.ARMED 0 1 s

def snapHold (on : Bool) (s : State) : State := setB MON_SNAP_CTL.HOLD 0 on s

/-- The column of a counter or meter as it reads: a disabled meter and a disabled plane read 0 (R334, R472). -/
def copied (e : Nat × List (Nat × Nat)) (s : State) : List (Nat × Nat) :=
  if e.1 = REE_PK_MAX.PEAK_MAX.id || e.1 = REE_PK_TP_MAX.TP_MAX.id || e.1 = REE_PK_100.PEAK_100.id then e.2.filter (fun p => getB REE_PK_CFG.EN p.1 s)
  else if e.1 = PIP_PLANE_COUNT.COUNT.id then e.2.filter (fun p => getB PIP_PLANE_CFG.ENABLED p.1 s)
  else e.2

/-- The column with the maxima that a CLR_MAX has cleared at the audio block boundary that falls now (R336). -/
def withCleared (e : Nat × List (Nat × Nat)) (s : State) : Nat × List (Nat × Nat) :=
  if s.reed.clearedAt ≤ localTime s && localTime s < s.reed.clearedAt + nsUnit then
    (e.1, (s.reed.cleared.filter (·.1 == e.1)).foldl (fun c p => minsert p.2.1 p.2.2 c) e.2)
  else e

/-- The snapshot falls now: a frame boundary of the lowest-numbered plane that the image enables, or, with no plane enabled or no image
loaded, an instant at which local time is a whole multiple of 40 ms (R35; to the nanosecond, log entry 2). -/
def snapInstant (s : State) : Bool :=
  match (List.range 8).filter (fun p => getB PIP_PLANE_CFG.ENABLED p (asShown s)) with
  | p :: _ => atInstant (planeSt p s).boundary s
  | [] => localTime s % (40 * msUnit) < nsUnit

/-- The snapshot boundary: an armed order copies every counter and meter, unless HOLD is set. -/
def snapBoundary (s : State) : State :=
  if getB MON_SNAP_STATUS.ARMED 0 s && !getB MON_SNAP_CTL.HOLD 0 s && snapInstant s then
    let v := asShown s
    let cols := (s.reed.cleared.map (·.1)).foldl (fun m f => if m.any (fun e => e.1 == f) then m else minsert f [] m) v.regs
    let counts := cols.filter (fun e => match fieldOf e.1 with | some f => f.ctr | none => false)
    { s with snap := (counts.map (fun e => (e.1, copied (withCleared e v) v))).filter (fun e => e.2 != []) }
      |> setF MON_SNAP_STATUS.ARMED 0 0 |> setF MON_SNAP_STATUS.COPYING 0 1 |> setEth (fun e => { e with snapAt := some (localTime s) })
  else s

def snapDone (s : State) : State :=
  match s.eth.snapAt with
  | some t =>
    s |> setF MON_SNAP_STATUS.COPYING 0 0 |> setEth (fun e => { e with snapAt := none })
      |> setF MON_SNAP_SEC.SEC 0 (timeSec t) |> setF MON_SNAP_NS.NS 0 (timeNs t)
      |> setF MON_SNAP_SEQ.SEQ 0 (getF MON_SNAP_SEQ.SEQ 0 s + 1)
      |> post 0x18 (getF MON_SNAP_SEQ.SEQ 0 s + 1) 1
  | none => s

/-! ### Network rings' doorbells (R553, R554) -/

/-- Host software moves the transmit tail; `ds` are the descriptors that the DMA reads and the bytes of their buffers, none where that
read is outstanding. -/
def netTxTail (n tail : Nat) (ds : List (List Byte × Option (List Byte))) (s : State) : State :=
  if 2 ≤ n then s
  else
    let fresh := (tail + netTxSize n s - getF HIF_NET_TX_TAIL.TAIL n s % netTxSize n s) % netTxSize n s
    s |> setF HIF_NET_TX_TAIL.TAIL n tail |> setNet n (fun x => { x with txPend := x.txPend ++ ds.take fresh }) |> placeFrames n

/-- A buffer read of the frame at the front has failed: a burst into the staging ends (R673), the frame ends with READ_ERR, and the ring
goes on. -/
def netTxReadError (n : Nat) (burst : Option Burst) (s : State) : State :=
  if 2 ≤ n then s
  else match firstFrame (netRing n s).txPend with
    | some ds =>
      if ds.any (fun d => d.2.isNone) then
        let last := (ds.getLast?.map (·.1)).getD []
        let (eof, s) := openFrame n ds s
        s |> abortBurst maDma burst |> writeBack n eof last txReadErr none |> placeFrames n
      else s
    | none => s

/-- Host software posts receive descriptors up to `tail`; `ds` are their bytes. -/
def netRxTail (n tail : Nat) (ds : List (List Byte)) (s : State) : State :=
  if 2 ≤ n then s
  else
    let fresh := (tail + netRxSize n s - getF HIF_NET_RX_TAIL.TAIL n s % netRxSize n s) % netRxSize n s
    s |> setF HIF_NET_RX_TAIL.TAIL n tail |> setNet n (fun x => { x with rxDescs := x.rxDescs ++ ds.take fresh })

/-! ### Meanings -/

/-- MAC_FRAME_RX -/
def execMacFrameRx (t k : Nat) (frame : List Byte) (began fifo corr uncorr : Nat) (s : State) : Host.Outcome State Fault Refusal :=
  .next (onService t (macRx k frame began fifo corr uncorr) s)

/-- PAUSE_TAKE_EFFECT -/
def execPauseTakeEffect (t k : Nat) (s : State) : Host.Outcome State Fault Refusal := .next (onService t (pauseEffect k) s)

/-- PAUSE_TIMER_EXPIRE -/
def execPauseTimerExpire (t k : Nat) (s : State) : Host.Outcome State Fault Refusal := .next (onService t (pauseExpire k) s)

/-- MAC_FRAME_TX -/
def execMacFrameTx (t k : Nat) (s : State) : Host.Outcome State Fault Refusal := .next (onService t (macTx k) s)

/-- LINK_UP; `remote`: the port receives remote fault -/
def execLinkUp (t k : Nat) (remote : Bool) (s : State) : Host.Outcome State Fault Refusal := .next (onService t (linkRise k remote) s)

/-- LINK_DOWN; `loc`: local fault -/
def execLinkDown (t k : Nat) (loc : Bool) (s : State) : Host.Outcome State Fault Refusal := .next (onService t (linkFall k loc) s)

/-- ETH_STEP_WINDOW -/
def execEthStepWindow (t p : Nat) (s : State) : Host.Outcome State Fault Refusal :=
  .next (onService t (fun s => if p < 16 && getB ETH_PORT_CFG.ENABLED p s && msInstant s then stepWindow p s else s) s)

/-- ETH_PORT_IDLE_TIMEOUT -/
def execEthPortIdleTimeout (t p : Nat) (s : State) : Host.Outcome State Fault Refusal := .next (onService t (portIdle p) s)

/-- FLUSH_MEDIA_RX -/
def execFlushMediaRx (t k : Nat) (s : State) : Host.Outcome State Fault Refusal := .next (onHost t (flushMediaRx k) s)

/-- FLUSH_CTL_RX -/
def execFlushCtlRx (t k : Nat) (s : State) : Host.Outcome State Fault Refusal := .next (onHost t (flushCtlRx k) s)

/-- FLUSH_CTL_TX -/
def execFlushCtlTx (t k : Nat) (s : State) : Host.Outcome State Fault Refusal := .next (onHost t (flushCtlTx k) s)

/-- FLUSH_DONE of queue `q`: 0 media receive, 1 control receive, 2 control transmit -/
def execFlushDone (t k q : Nat) (s : State) : Host.Outcome State Fault Refusal := .next (onService t (flushEnd k q) s)

/-- ETH_CLR_CNT -/
def execEthClrCnt (s : State) : Host.Outcome State Fault Refusal := .next (whenHost (clearFlds ethCounters) s)

/-- SNAP_ARM -/
def execSnapArm (s : State) : Host.Outcome State Fault Refusal := .next (whenHost snapArm s)

/-- SNAP_HOLD -/
def execSnapHold (on : Bool) (s : State) : Host.Outcome State Fault Refusal := .next (whenHost (snapHold on) s)

/-- SNAPSHOT_BOUNDARY -/
def execSnapshotBoundary (t : Nat) (s : State) : Host.Outcome State Fault Refusal := .next (onService t snapBoundary s)

/-- SNAPSHOT_COPY_DONE -/
def execSnapshotCopyDone (t : Nat) (s : State) : Host.Outcome State Fault Refusal := .next (onService t snapDone s)

/-- NET_TX_DOORBELL -/
def execNetTxDoorbell (t n tail : Nat) (descs : List (List Byte × Option (List Byte))) (s : State) : Host.Outcome State Fault Refusal :=
  .next (onHost t (netTxTail n tail descs) s)

/-- NET_TX_READ_ERROR -/
def execNetTxReadError (t n : Nat) (burst : Option Burst) (s : State) : Host.Outcome State Fault Refusal :=
  .next (onService t (netTxReadError n burst) s)

/-- NET_RX_TAIL -/
def execNetRxTail (t n tail : Nat) (descs : List (List Byte)) (s : State) : Host.Outcome State Fault Refusal :=
  .next (onHost t (netRxTail n tail descs) s)

end Sys2Proof.Machine
end

