-- ==== Sys2Proof/Machine/FlowOps.lean ====
section
/-! DEFINITION. Receive contexts: classification, ST 2022-7 merge, frames, held audio (R397 to R407); transmit contexts: headers,
staging (R403, R408 to R413). -/

namespace Sys2Proof.Machine

def rxCtx (c : Nat) (s : State) : RxCtx := mget {} s.eth.rx c
def setRx (c : Nat) (f : RxCtx → RxCtx) (s : State) : State := setEth (fun e => { e with rx := mmod {} e.rx c f }) s
def txCtx (c : Nat) (s : State) : TxCtx := mget {} s.eth.tx c
def setTx (c : Nat) (f : TxCtx → TxCtx) (s : State) : State := setEth (fun e => { e with tx := mmod {} e.tx c f }) s

/-- Words of the transmit record in force. -/
def txRecord (c : Nat) (s : State) : List Nat := (List.range 8).map (fun k => txWord c k s)

def kVideo : Nat := 1
def kAnc : Nat := 2
def kAudio30 : Nat := 3
def kAudio31 : Nat := 4
def kOpaque : Nat := 5

def rxKind (c : Nat) (s : State) : Nat := getF FLW_RX_CFG.KIND c s
def rxBind (c : Nat) (s : State) : Nat := getF FLW_RX_CFG.BIND c s
def rxWord (c k : Nat) (s : State) : Nat := getF FLW_RX_REC.WORD (8 * c + k) s
def rxEnabled (s : State) : List Nat := indicesWhere FLW_RX_STATUS.EN (· == 1) s
def rxPaired (c : Nat) (s : State) : Bool := bit (rxWord c 1 s) 31
def rxFormat (c : Nat) (s : State) : Nat := bits (rxWord c 7 s) 24 8
def rxPartial (c : Nat) (s : State) : Bool := bit (rxWord c 7 s) 8
def rxMerge (c : Nat) (s : State) : Nat := bits (rxWord c 1 s) 0 16 * usUnit

def rxCount64 (f : Fld) (b c n : Nat) (s : State) : State := bump64F f FLW_RX_FLAGS.WRAP b c n s
/-- A 32-bit counter whose flag is bit `b` of FLW_RX_FLAGS. -/
def rxCount32 (f : Fld) (b c n : Nat) (s : State) : State := if n = 0 then s else bump32F f FLW_RX_FLAGS.OVF (b - 8) c n s
def rxLate (c : Nat) (s : State) : State := rxCount32 FLW_RX_LATE.COUNT 9 c 1 s
def rxBadHdr (c : Nat) (s : State) : State := rxCount32 FLW_RX_BAD_HDR.COUNT 10 c 1 s

/-! ### RTP (log entry 28) -/

def rtpAt (f : List Byte) : Nat := ipAt f + 28
/-- UDP payload. -/
def rtpBytes (f : List Byte) : List Byte := (f.drop (rtpAt f)).take (beAt f (ipAt f + 24) 2 - 8)
def rtpVersion (b : List Byte) : Nat := bits (byteAt b 0) 6 2
def rtpMarker (b : List Byte) : Bool := bit (byteAt b 1) 7
def rtpType (b : List Byte) : Nat := bits (byteAt b 1) 0 7
def rtpSeq (b : List Byte) : Nat := beAt b 2 2
def rtpTs (b : List Byte) : Nat := beAt b 4 4
/-- Header with CSRC list and extension, which are skipped (R396). -/
def rtpHeader (b : List Byte) : Nat :=
  let h := 12 + 4 * bits (byteAt b 0) 0 4
  if bit (byteAt b 0) 4 then h + 4 + 4 * beAt b (h + 2) 2 else h
def rtpPayload (b : List Byte) : List Byte :=
  let p := b.drop (rtpHeader b)
  if bit (byteAt b 0) 5 then p.take (p.length - byteAt p (p.length - 1)) else p

/-! ### Classification (R397) -/

/-- Key of a context's path: logical port, destination, port, source; path B only where paired. -/
def rxKey (c : Nat) (b : Bool) (s : State) : Nat × Nat × Nat × Nat :=
  if b then (bits (rxWord c 1 s) 16 6, rxWord c 3 s, bits (rxWord c 6 s) 16 16, rxWord c 5 s)
  else (bits (rxWord c 1 s) 24 6, rxWord c 2 s, bits (rxWord c 6 s) 0 16, rxWord c 4 s)

def rxKeys (c : Nat) (s : State) : List (Bool × Nat × Nat × Nat × Nat) :=
  if rxPaired c s then [(false, rxKey c false s), (true, rxKey c true s)] else [(false, rxKey c false s)]

/-- The context and path (B where true) that a frame from source `src` matches, a specific source first. -/
def classify_ (k dst port src : Nat) (s : State) : Option (Nat × Bool) :=
  let find (x : Nat) : Option (Nat × Bool) :=
    (rxEnabled s).findSome? (fun c => (rxKeys c s).findSome? (fun y => if y.2 = (k, dst, port, x) then some (c, y.1) else none))
  match find src with
  | some x => some x
  | none => find 0

/-! ### Sequence numbers (R404) -/

/-- Extended number of a 16-bit sequence number next to `h`. -/
def unwrapSeq (h seq : Nat) : Nat :=
  let base := h / 65536 * 65536 + seq
  if base + 32768 < h then base + 65536 else if h + 32768 < base && 65536 ≤ base then base - 65536 else base

/-- Extended sequence number of a packet: for video the payload header's 16 bits stand above RTP's. The count of wraps starts at 1, so
that a number below the first can be named. -/
def extSeq (c : Nat) (b : List Byte) (s : State) : Nat :=
  if rxKind c s = kVideo then beAt (rtpPayload b) 0 2 * 65536 + rtpSeq b
  else match (rxCtx c s).high with
    | some h => unwrapSeq h (rtpSeq b)
    | none => 65536 + rtpSeq b

/-! ### Paths (R407) -/

def pathUpFld (b : Bool) : Fld := if b then FLW_RX_STATUS.PATH_B_UP else FLW_RX_STATUS.PATH_A_UP

def pathPacket (c : Nat) (b : Bool) (s : State) : State :=
  let s := setRx c (fun x => if b then { x with lastB := some s.now } else { x with lastA := some s.now }) s
  if getB (pathUpFld b) c s then s else s |> setF (pathUpFld b) c 1 |> raise [FLW_RX_EVT.PATH_UP] c

/-- The kennel's writer of a VIDEO context. -/
def rxAlloc (c : Nat) (s : State) : Nat := rxBind c s

def pathDown (c : Nat) (b : Bool) (s : State) : State :=
  let x := rxCtx c s
  let last := if b then x.lastB else x.lastA
  match last with
  | none => s
  | some l =>
    if c < 65536 && getB FLW_RX_STATUS.EN c s && (!b || rxPaired c s) && l + 10 * msUnit ≤ s.now then
      let s := if getB (pathUpFld b) c s then s |> setF (pathUpFld b) c 0 |> raise [FLW_RX_EVT.PATH_DOWN] c else s
      let upA := getB FLW_RX_STATUS.PATH_A_UP c s
      let upB := rxPaired c s && getB FLW_RX_STATUS.PATH_B_UP c s
      if !upA && !upB && !getB FLW_RX_STATUS.LOSS c s then s |> setF FLW_RX_STATUS.LOSS c 1 |> raise [FLW_RX_EVT.LOSS] c else s
    else s

/-! ### Video frames (R398, R399) -/

/-- Rows of a packet as frame rows. -/
def frameRows (f : Nat) (second : Bool) (rows : List (Nat × Nat × List Word10)) : List (Nat × Nat × List Word10) :=
  if isInterlaced f then rows.map (fun r => (2 * r.1 + b2n second, r.2)) else rows

/-- Every row and pixel lies inside the format. -/
def rowsFit (f : Nat) (rows : List (Nat × Nat × List Word10)) : Bool :=
  rows.all (fun r => decide (r.1 < fmtHeight f) && decide (2 * r.2.1 + r.2.2.length ≤ 2 * fmtWidth f))

/-- Write samples over a picture, two a pixel. -/
def paintRows (f : Nat) : List (Nat × Nat × List Word10) → List Word10 → List Word10
  | [], p => p
  | (y, x, ws) :: rs, p => paintRows f rs (p.take (2 * (y * fmtWidth f + x)) ++ ws ++ p.drop (2 * (y * fmtWidth f + x) + ws.length))

/-- What the frame slot to be written held before: the frame that leaves it, or nothing yet. -/
def slotBefore (a f : Nat) (s : State) : List Word10 :=
  let fs := (alloc a s).frames
  match (if fs.length < allocSlots a s then none else fs.getLast?) with
  | some k => if k.picture.length = fmtWidth f * fmtHeight f * 2 then k.picture else blankPicture f
  | none => blankPicture f

def closeFrame (c : Nat) (s : State) : State :=
  setRx c (fun x => { x with ts := [], start := none, last := none, rows := [], hurt := [],
                             before := match x.last with | some l => some l | none => x.before,
                             closed := (x.ts.map (·.2) ++ x.closed).take 32 }) s

/-- LEAD tells HEEL how a frame ended (R509). -/
def tellFrame (c : Nat) (ok : Bool) (s : State) : State :=
  if role s = roleLead then
    sendTwin (.decision (.rxFrame c ok ((rxCtx c s).lost.foldl max 0))) s else s

/-- A FREEZE or UNFREEZE of the flow's allocation that is due at this frame end commits; a released writer writes from the next frame start
(R198). -/
def flowFreezes (a : Nat) (s : State) : State := applyFreezes a s.now id s

/-- The frame being written is damaged: it is never complete (R399). -/
def damageFrame (c : Nat) (s : State) : State :=
  if (rxCtx c s).ts = [] then s
  else
    s |> tellFrame c false
      |> rxCount32 FLW_RX_DAMAGED.COUNT 14 c 1 |> raise [FLW_RX_EVT.DAMAGED] c
      |> setAlloc (rxAlloc c s) (fun x => { x with damaged := true }) |> writerFrameEnd (rxAlloc c s) s.now [] none
      |> flowFreezes (rxAlloc c s) |> closeFrame c

/-- A frame is complete: it is stored with a generated payload identifier. -/
def completeFrame (c : Nat) (s : State) : State :=
  let a := rxAlloc c s
  let f := rxFormat c s
  s |> tellFrame c true
    |> writerFrameEnd a s.now (paintRows f (rxCtx c s).rows (slotBefore a f s)) (some (Config.vpidOf f)) |> flowFreezes a |> closeFrame c

/-- First position of the frame in progress: that of its first pixel, or as early as it can be. -/
def frameFirst (x : RxCtx) : Nat := x.start.getD x.least

/-- The frame ends when its marker has been accepted and no position between its first and last packet is missing. -/
def judgeVideo (c : Nat) (s : State) : State :=
  let x := rxCtx c s
  let inside (l n : Nat) : Bool := decide (frameFirst x ≤ n) && decide (n ≤ l)
  match x.last with
  | some l =>
    if x.ts = [] || x.waits.any (fun w => inside l w.1) then s
    else if x.hurt.any (inside l) && !rxPartial c s then damageFrame c s
    else completeFrame c s
  | none => s

/-- A frame begins at position `seq`, or earlier: it can begin right after the frame before (R398). -/
def beginFrame (c seq : Nat) (s : State) : State :=
  s |> setRx c (fun x =>
         let least := match x.before with | some l => if l < seq then l + 1 else seq | none => seq
         { x with ts := [], least := least, start := none, last := none, rows := [], hurt := x.lost.filter (least ≤ ·) })
    |> writerStart (rxAlloc c s) (rxFormat c s)

/-- An accepted video packet. Each field of an interlaced or PsF frame has a timestamp of its own (R398, R409). -/
def videoPacket (c seq ts : Nat) (marker second : Bool) (rows : List (Nat × Nat × List Word10)) (s : State) : State :=
  let f := rxFormat c s
  let field := isInterlaced f && second
  let s := setAlloc (rxAlloc c s) (fun x => { x with lastPkt := s.now }) s
  let x := rxCtx c s
  if x.closed.contains ts then rxLate c s
  else
    let same := x.ts != [] && (match x.ts.find? (fun y => y.1 == field) with | some y => y.2 == ts | none => true)
    let s := if same then s else s |> damageFrame c |> beginFrame c seq
    s |> setRx c (fun x => { x with ts := if x.ts.contains (field, ts) then x.ts else (field, ts) :: x.ts,
                                    rows := x.rows ++ frameRows f second rows, least := min x.least seq,
                                    start := if !field && rows.any (fun r => r.1 == 0 && r.2.1 == 0) then some seq else x.start,
                                    last := if marker && (!isInterlaced f || second) then some seq else x.last })
      |> judgeVideo c

/-! ### Ancillary data (R400) -/

def ancPacket (c ts : Nat) (second : Bool) (ps : List (List Word10)) (s : State) : State :=
  let v := rxBind c s
  if getB FLW_RX_STATUS.EN v s && (rxCtx v s).ts.any (fun y => y.2 == ts) then forEach ps (storePacket (rxAlloc v s) second) s else rxLate c s

/-! ### Audio (R401, R402) -/

def rxRate (c : Nat) (s : State) : Nat := if getB FLW_RX_CFG.R96 c s then 96000 else 48000
def rxPeriods (c : Nat) (s : State) : Nat := if bit (rxWord c 7 s) 20 then 6 else 48
def rxLink (c : Nat) (s : State) : Nat := bits (rxWord c 7 s) 22 10

/-- Count that a media clock of `rate` reads at a local time. -/
def mediaClock (rate l : Nat) : Nat := l * rate / secUnit

/-- Module time of the sampling instant of RTP count `ts`: unwrapped to the present, link offset added. -/
def audioInstant (c ts : Nat) (s : State) : Int :=
  let r := rxRate c s
  let now := mediaClock r (localTime s)
  let n : Int := now + toSigned 32 (ofSigned 32 ((ts : Int) - now))
  (n * secUnit + r - 1) / r + rxLink c s * secUnit / 48000 - s.timeOff

/-- Insert a held sample in order of instants. -/
def insertHeld (x : Nat × Nat) : List (Nat × Nat) → List (Nat × Nat)
  | [] => [x]
  | y :: ys => if x.1 < y.1 then x :: y :: ys else y :: insertHeld x ys

/-- Ring that channel `k` of sample period count `n` goes to (R291). -/
def rxRing (c k n : Nat) (s : State) : Nat :=
  if getB FLW_RX_CFG.R96 c s then rxBind c s + 2 * k + n % 2 else rxBind c s + k

/-- Ring words that a flow writes (R275, R291): an ST 2110-30 flow with V, U, C and Z 0, and one of 16 bits with bits 15:8 at 0; an
ST 2110-31 flow all but bits 3:0. -/
def audioWords (c : Nat) (ws : List Nat) (s : State) : List Nat :=
  let low := if rxKind c s != kAudio30 then 16 else if bit (rxWord c 7 s) 19 then 65536 else 256
  ws.map (fun w => w % 2 ^ 32 / low * low)

def audioPacketRx (c ts : Nat) (periods : List (List Nat)) (s : State) : State :=
  let i0 := audioInstant c ts s
  let il := audioInstant c (ts + periods.length - 1) s
  if i0 < s.aud.boundary || s.now + (rxLink c s + rxPeriods c s + 16) * samplePeriod < il then rxLate c s
  else
    forEach ((List.range periods.length).zip periods) (fun p s =>
      let i := (audioInstant c (ts + p.1) s).toNat
      let ws := audioWords c p.2 s
      forEach ((List.range (getF FLW_RX_CFG.N_CH_M1 c s + 1)).zip ws) (fun q s =>
        setRing (rxRing c q.1 (ts + p.1) s) (fun r => { r with held := insertHeld (i, q.2) r.held }) s) s) s

/-! ### Merge (R403 to R406) -/

/-- Positions skipped between the highest number and a new one, each declared lost MERGE_US from now. -/
def newWaits (h seq due : Nat) : List (Nat × Nat) := (List.range (seq - h - 1)).map (fun k => (h + 1 + k, due))

/-- Accept a packet: counters, H, missing positions. -/
def acceptPacket (c : Nat) (b : Bool) (seq octets : Nat) (s : State) : State :=
  let s := s |> rxCount64 FLW_RX_PKTS.COUNT 0 c 1 |> rxCount64 FLW_RX_OCTETS.COUNT 1 c octets
             |> (if b then rxCount64 FLW_RX_PKTS_B.COUNT 3 c 1 else rxCount64 FLW_RX_PKTS_A.COUNT 2 c 1)
  let due := s.now + rxMerge c s
  let s := setRx c (fun x =>
    let x := { x with seen := seq :: x.seen, waits := x.waits.filter (fun w => w.1 != seq) }
    match x.high with
    | none => { x with high := some seq }
    | some h => if h < seq then { x with high := some seq, waits := x.waits ++ newWaits h seq due } else x) s
  if getB FLW_RX_STATUS.LOSS c s then s |> setF FLW_RX_STATUS.LOSS c 0 |> raise [FLW_RX_EVT.RESTORE] c else s

/-- What an accepted packet brings, by kind. -/
def usePacket (c seq : Nat) (b : List Byte) (pl : Payload) (s : State) : State :=
  match pl with
  | .video second rows => if rxKind c s = kVideo then videoPacket c seq (rtpTs b) (rtpMarker b) second rows s else s
  | .anc second ps => if rxKind c s = kAnc then ancPacket c (rtpTs b) second ps s else s
  | .audio ps => if rxKind c s = kAudio30 || rxKind c s = kAudio31 then audioPacketRx c (rtpTs b) ps s else s
  | .opaque_ =>
    if rxKind c s = kOpaque then
      let d := rxBind c s
      let e := (s.now + bits (rxWord c 7 s) 22 10 * usUnit, if getB FLW_TX_STATUS.EN d s then txRecord d s else [], b)
      setRx c (fun x => { x with relay := x.relay ++ [e] }) s
    else s

/-- The path expected `next`: positions it skips count in its GAP counter (R405). -/
def countGap (c : Nat) (b : Bool) (seq : Nat) (s : State) : State :=
  let x := rxCtx c s
  let next := if b then x.nextB else x.nextA
  let n := match next with | some m => seq - m | none => 0
  let s := if b then rxCount32 FLW_RX_GAP_B.COUNT 12 c n s else rxCount32 FLW_RX_GAP_A.COUNT 11 c n s
  let up (o : Option Nat) : Option Nat := match o with | some m => some (max m (seq + 1)) | none => some (seq + 1)
  setRx c (fun x => if b then { x with nextB := up x.nextB } else { x with nextA := up x.nextA }) s

def setRun (b stray : Bool) (n : Nat) (x : RxCtx) : RxCtx :=
  match b, stray with
  | false, true => { x with strayA := n }
  | true, true => { x with strayB := n }
  | false, false => { x with staleA := n }
  | true, false => { x with staleB := n }

def getRun (b stray : Bool) (x : RxCtx) : Nat :=
  match b, stray with
  | false, true => x.strayA
  | true, true => x.strayB
  | false, false => x.staleA
  | true, false => x.staleB

/-- The stream has restarted: the merge state is discarded and a video frame in progress is damaged (R406). -/
def restartStream (c : Nat) (s : State) : State :=
  let s := if rxKind c s = kVideo then damageFrame c s else s
  s |> setRx c (fun x => { x with high := none, seen := [], lost := [], waits := [], nextA := none, nextB := none, strayA := 0,
                                  strayB := 0, staleA := 0, staleB := 0 })
    |> rxCount32 FLW_RX_RESTART.COUNT 13 c 1 |> raise [FLW_RX_EVT.RESTART] c

/-- A packet of context `c` on a path. -/
def mergePacket (c : Nat) (b : Bool) (seq octets : Nat) (use : State → State) (s : State) : State :=
  let x := rxCtx c s
  let accept (s : State) : State := s |> countGap c b seq |> acceptPacket c b seq octets |> use
  match x.high with
  | none => accept s
  | some h =>
    let stray := decide (h + 8192 < seq)
    let stale := decide (seq + 8192 ≤ h)
    let n := getRun b true x + 1
    let m := getRun b false x + 1
    let s := setRx c (fun x => x |> setRun b true (if stray then n else 0) |> setRun b false (if stale then m else 0)) s
    if stray && 8 ≤ n || stale && 8 ≤ m then accept (restartStream c s)
    else if x.seen.contains seq then s |> countGap c b seq |> rxCount64 FLW_RX_DUP.COUNT 4 c 1
    else if stale || x.lost.contains seq then rxLate c s
    else if stray then s
    else accept s

/-- The flow processor reads the next frame of logical port `k`'s media queue. -/
def flowPacket (k : Nat) (pl : Payload) (s : State) : State :=
  if domDown (520 + k / 4) s then s
  else match (lp k s).mediaRx with
  | [] => s
  | (_, f) :: fs =>
    let s := setLp k (fun l => { l with mediaRx := fs }) s
    let o := ipAt f
    match classify_ k (beAt f (o + 16) 4) (beAt f (o + 22) 2) (beAt f (o + 12) 4) s with
    | none => bump32 FLW_PORT_NOFLOW.COUNT FLW_PORT_FLAGS.NOFLOW_OVF (k / 4) s
    | some (c, b) =>
      let r := rtpBytes f
      let badRows := match pl with
        | .video second rows => rxKind c s == kVideo && !rowsFit (rxFormat c s) (frameRows (rxFormat c s) second rows)
        | _ => false
      let s := pathPacket c b s
      if rtpVersion r != 2 || rtpType r != bits (rxWord c 7 s) 0 7 || badRows then rxBadHdr c s
      else
        let seq := extSeq c r s
        mergePacket c b seq (rtpPayload r).length (usePacket c seq r pl) s

/-- Missing positions whose MERGE_US has passed are declared lost, each counted once (R405). -/
def positionsLost (c : Nat) (s : State) : State :=
  let x := rxCtx c s
  let gone := x.waits.filter (fun w => w.2 ≤ s.now)
  if gone = [] then s
  else
    let s := s |> setRx c (fun x => { x with waits := x.waits.filter (fun w => !(w.2 ≤ s.now)), lost := x.lost ++ gone.map (·.1),
                                             hurt := if x.ts = [] then [] else x.hurt ++ (gone.map (·.1)).filter (x.least ≤ ·) })
               |> rxCount32 FLW_RX_LOST.COUNT 8 c gone.length
    if rxKind c s = kVideo then judgeVideo c s else s

/-- LEAD's word on a frame, on HEEL: the frame in progress ends as LEAD's did (R509). -/
def rxDecide (c : Nat) (ok : Bool) (lost : Nat) (s : State) : State :=
  if (rxCtx c s).ts = [] then s
  else
    let s := setRx c (fun x => { x with waits := x.waits.filter (fun w => lost < w.1), lost := x.lost ++ (x.waits.map (·.1)).filter (· ≤ lost) }) s
    if ok then completeFrame c s else damageFrame c s

/-! ### Transmit packets (R408, R412, R413) -/

/-- The Ethernet, IPv4 and UDP headers of a packet with payload `p` to `dst` from logical port `k`, checksums left to the MAC. -/
def flowHeaders (ws : List Nat) (k dst : Nat) (p : List Byte) (s : State) : List Byte :=
  let w (i : Nat) := ws.getD i 0
  beBytes 6 (0x01005E000000 + dst % 2 ^ 23) ++ beBytes 6 (station k s)
    ++ (if bit (w 5) 31 then beBytes 2 0x8100 ++ beBytes 2 (bits (w 5) 28 3 * 8192 + bits (w 5) 16 12) else [])
    ++ beBytes 2 0x0800
    ++ beBytes 1 0x45 ++ beBytes 1 (bits (w 5) 10 6 * 4) ++ beBytes 2 (28 + p.length) ++ beBytes 2 0 ++ beBytes 2 0x4000
    ++ beBytes 1 (bits (w 1) 8 8) ++ beBytes 1 17 ++ beBytes 2 0 ++ beBytes 4 (getF FLW_LP_IP.ADDR k s) ++ beBytes 4 dst
    ++ beBytes 2 (bits (w 4) 16 16) ++ beBytes 2 (bits (w 4) 0 16) ++ beBytes 2 (8 + p.length) ++ beBytes 2 0 ++ p

/-- The RTP header of R408. -/
def rtpHead (c : Nat) (ws : List Nat) (marker : Bool) (seq ts : Nat) (s : State) : List Byte :=
  beBytes 1 0x80 ++ beBytes 1 (128 * b2n marker + bits (ws.getD 1 0) 1 7) ++ beBytes 2 (seq % 65536) ++ beBytes 4 (ts % 2 ^ 32)
    ++ beBytes 4 (getF TWN_PAIR_ID.ID 0 s % 65536 * 65536 + c)

def txCount64 (f : Fld) (b c n : Nat) (s : State) : State := bump64F f FLW_TX_FLAGS.WRAP b c n s

/-- Place a packet in a port's media staging, or discard it as R364, R367 and R370 lay down. -/
def stagePacket (c k octets : Nat) (f : List Byte) (s : State) : State :=
  let counted (s : State) : State := s |> txCount64 FLW_TX_PKTS.COUNT 0 c 1 |> txCount64 FLW_TX_OCTETS.COUNT 1 c octets
  if domDown (520 + k / 4) s then s
  else if !linkUp k s || portBit ETH_PORT_STATUS.RFAULT k s then s |> counted |> ethCount32 ETH_LP_TX_LINK_DROP.COUNT 20 k
  else if paused k s && getB ETH_LP_CFG.MEDIA_PAUSE k s then s |> counted |> ethCount32 ETH_LP_MEDIA_PAUSE_DROP.COUNT 18 k
  else if mediaTxSize k s < mediaTxBytes k s + f.length then
    s |> bump32F FLW_TX_STAGE_DROP.COUNT FLW_TX_FLAGS.OVF 1 c 1 |> raise [FLW_TX_EVT.STAGE_DROP] c
  else
    let s := s |> counted |> setLp k (fun l => { l with mediaTx := l.mediaTx ++ [f] })
    if 16384 < mediaTxBytes k s then stepUp (k / 4) s else s

/-- Send one RTP packet under record `ws`: on both paths where paired; a module without a claim discards it (R412, R413). -/
def sendRtp (c : Nat) (ws : List Nat) (rtp : List Byte) (octets : Nat) (s : State) : State :=
  if !getB TWN_STATUS.CLAIM 0 s then txCount64 FLW_TX_STANDBY.COUNT 2 c 1 s
  else
    let a := bits (ws.getD 1 0) 24 6
    let b := bits (ws.getD 1 0) 16 6
    let s := stagePacket c a octets (flowHeaders ws a (ws.getD 2 0) rtp s) s
    if bit (ws.getD 1 0) 31 then stagePacket c b octets (flowHeaders ws b (ws.getD 3 0) rtp s) s else s

def txPlane (c : Nat) (s : State) : Nat := getF FLW_TX_CFG.PLANE c s

/-- 90 kHz media clock at module time `t`. -/
def videoClock (t : Nat) (s : State) : Nat := mediaClock 90000 (toLocal t s)

/-- One packet of the frame in progress has been sent; after the last of `n` the next frame is taken up. -/
def txAdvance (c n : Nat) (s : State) : State :=
  setTx c (fun x => if x.sent + 1 < n then { x with seq := x.seq + 1, sent := x.sent + 1 }
                    else { x with seq := x.seq + 1, sent := 0, queue := x.queue.drop 1 }) s

/-- Packets of a video frame, and of each of its fields, under word 7 of its record. -/
def videoSize (w7 : Nat) : Nat := if bit w7 12 then 900 else bits w7 0 11 / 5 * 5

/-- Module time at which packet `j` of a video frame leaves: TRO after the start of its frame or second field, TRS from packet to packet
(R409). -/
def videoDue (f : TxFrame) (j : Nat) : Nat :=
  let w7 := f.words.getD 7 0
  let fmt := f.frame.fmt
  let n := videoPackets fmt (videoSize w7)
  let period := framePeriod (fmtRate fmt)
  let tro := if bits w7 13 11 = 0 then Config.trOffset fmt else bits w7 13 11 * 10 * usUnit
  let active := if bit w7 11 then period else period * fmtHeight fmt / (fmtTotals fmt).2
  let half := isInterlaced fmt && n / 2 ≤ j
  f.at_ + tro + (if half then period / 2 else 0) + (if half then j - n / 2 else j) * active / n

/-- The next packet of a VIDEO context, once its time has come (R409). -/
def videoTx (c : Nat) (s : State) : State :=
  let x := txCtx c s
  match x.queue with
  | [] => s
  | f :: _ =>
    if getF FLW_TX_CFG.KIND c s != kVideo || s.now < videoDue f x.sent then s
    else
      let k := f.frame
      let size := videoSize (f.words.getD 7 0)
      let n := videoPackets k.fmt size
      let half := isInterlaced k.fmt && n / 2 ≤ x.sent
      let marker := x.sent + 1 == n || (isInterlaced k.fmt && x.sent + 1 == n / 2)
      let ts := videoClock (f.at_ + (if half then framePeriod (fmtRate k.fmt) / 2 else 0)) s
      let pay := Config.rtpVideo k.fmt size x.sent (x.seq / 65536 % 65536) k.picture
      s |> sendRtp c f.words (rtpHead c f.words marker x.seq ts s ++ pay) pay.length |> txAdvance c n

/-- Ancillary packets of a frame that an ANC context sends, those of the first field before those of the second, each with whether it is of
the second (R410). -/
def ancToSend (k : KFrame) (vpid : Bool) : List (Bool × List Word10) :=
  let ps := framePackets k
  let all := ((List.range ps.length).map (fun i => isInterlaced k.fmt && k.second.contains i)).zip ps
  let sent := all.filter (fun w => !Config.isAudioPacket w.2 && (vpid || !Config.isVpidPacket w.2))
  sent.filter (fun w => !w.1) ++ sent.filter (·.1)

/-- The next packet of an ANC context, once its time has come: the first 20 µs after the frame's start, the rest 1 µs apart. The last of
each field carries the marker (R410). The manual stores no position with a packet: `line` and `offset` are what the payload gives (log entry
28). -/
def ancTx (c line offset : Nat) (s : State) : State :=
  let x := txCtx c s
  match x.queue with
  | [] => s
  | f :: _ =>
    if getF FLW_TX_CFG.KIND c s != kAnc || s.now < f.at_ + (20 + x.sent) * usUnit then s
    else
      let k := f.frame
      let ps := ancToSend k (bit (f.words.getD 7 0) 0)
      let n := max 1 ps.length
      let second := (ps[x.sent]?.map (·.1)).getD false
      let marker := x.sent + 1 == n || (ps[x.sent + 1]?.map (·.1)).getD false != second
      let ts := videoClock (f.at_ + (if second then framePeriod (fmtRate k.fmt) / 2 else 0)) s
      let pay := Config.rtpAnc (line % 2048) (offset % 4096) (ps[x.sent]?.map (·.2))
      s |> sendRtp c f.words (rtpHead c f.words marker x.seq ts s ++ pay) pay.length |> txAdvance c n

/-- Bytes of a sample on the wire. -/
def sampleBytes (c w : Nat) (s : State) : List Byte :=
  if getF FLW_TX_CFG.KIND c s = kAudio31 then Config.am824 w
  else if bit (txWord c 7 s) 19 then beBytes 2 (w / 65536) else beBytes 3 (w / 256)

/-- The next packet of an audio context, once its samples have been read and its time has come: a sample period after the instant at which
its last sample leaves the rings, L periods behind (R411). -/
def audioTx (c : Nat) (s : State) : State :=
  if !(txAudio c s && getB FLW_TX_STATUS.EN c s) then s
  else
    let rate := txSampleRate c s
    let n := rate / txPacketRate c s
    let x := txCtx c s
    if x.audio.length < n || s.now < x.audioAt + n * secUnit / rate + txLat c s * secUnit / 48000 then s
    else
      let pay := (x.audio.take n).flatMap (fun ws => ws.flatMap (fun w => sampleBytes c w s))
      let ts := mediaClock rate (toLocal x.audioAt s)
      s |> sendRtp c (txRecord c s) (rtpHead c (txRecord c s) false x.seq ts s ++ pay) pay.length
        |> setTx c (fun x => { x with seq := x.seq + 1, audio := x.audio.drop n, audioAt := x.audioAt + n * secUnit / rate })

/-- The next packet of OPAQUE receive context `c`, RELAY_US after it was accepted (R403). -/
def relayTx (c : Nat) (s : State) : State :=
  match (rxCtx c s).relay with
  | [] => s
  | (t, ws, b) :: rest =>
    if s.now < t then s
    else
      let s := setRx c (fun x => { x with relay := rest }) s
      if ws = [] then s else sendRtp (rxBind c s) ws b (rtpPayload b).length s

/-- What the enabled audio contexts read at the boundary `t` (R411): sample j has the instant t - (L - j) periods. -/
def txAudioTake (m t : Nat) (s : State) : State :=
  forEach ((txEnabled s).filter (fun c => txAudio c s)) (fun c s =>
    let r0 := txFirstRing c s
    let n := txChannels c s
    let l := txLat c s
    let col (r : Nat) : List Nat := ((List.range 16).zip (readRing r l s)).map (fun p => aesWord r (16 * m + 15 + p.1 - l) p.2 s)
    let per : List (List Nat) :=
      if ring96 r0 s then
        (List.range 32).map (fun j => (List.range n).map (fun k => (col (r0 + 2 * k + j % 2)).getD (j / 2) 0))
      else (List.range 16).map (fun j => (List.range n).map (fun k => (col (r0 + k)).getD j 0))
    setTx c (fun x => if x.audio = [] then { x with audio := per, audioAt := t - l * secUnit / 48000 }
                      else { x with audio := x.audio ++ per }) s) s

end Sys2Proof.Machine
end

