-- ==== Sys2Proof/Machine/Flows.lean ====
section
/-! DEFINITION. FLW_CTX: records, checks, commit (R416 to R421), and the flow processors' events (R397 to R413, R424). -/

namespace Sys2Proof.Machine

/-! ### Records (R416 to R418) -/

def recIsTx (ws : List Nat) : Bool := bits (wAt ws 0) 30 2 == 2
def recOn (ws : List Nat) : Bool := bit (wAt ws 0) 29
def recCtx (ws : List Nat) : Nat := bits (wAt ws 0) 0 16
def recPaired (ws : List Nat) : Bool := bit (wAt ws 1) 31
def recLpA (ws : List Nat) : Nat := bits (wAt ws 1) 24 6
def recLpB (ws : List Nat) : Nat := bits (wAt ws 1) 16 6
def recLps (ws : List Nat) : List Nat := if recPaired ws then [recLpA ws, recLpB ws] else [recLpA ws]

def recCtxKind (ws : List Nat) (s : State) : Nat := getF (if recIsTx ws then FLW_TX_CFG.KIND else FLW_RX_CFG.KIND) (recCtx ws) s

/-- A destination in the range of R358. -/
def dstOk (a : Nat) : Bool := bits a 28 4 == 0xE && bits a 8 24 != 0xE00000

def isAudioKind (k : Nat) : Bool := k == kAudio30 || k == kAudio31

/-- Largest payload of an audio record: N_CH channels, sample rate, PTIME bit, bytes a sample. -/
def audioPayload (n rate : Nat) (short : Bool) (bytes : Nat) : Nat := rate / (if short then 8000 else 1000) * n * bytes

/-- Word 7 of a receive record. -/
def rxWord7Ok (ws : List Nat) (s : State) : Bool :=
  let w := wAt ws 7
  let c := recCtx ws
  match recCtxKind ws s with
  | 1 => bit w 7 == false && bits w 9 15 == 0 && fmtValid (bits w 24 8)
  | 2 => bits w 7 25 == 0
  | 3 => bit w 21 == false && bits w 7 12 == 0
         && audioPayload (getF FLW_RX_CFG.N_CH_M1 c s + 1) (rxRate c s) (bit w 20) (if bit w 19 then 2 else 3) ≤ 1440
  | 4 => bit w 21 == false && bits w 7 13 == 0
         && audioPayload (getF FLW_RX_CFG.N_CH_M1 c s + 1) (rxRate c s) (bit w 20) 4 ≤ 1440 && (getF FLW_RX_CFG.N_CH_M1 c s + 1) % 2 == 0
  | 5 => bits w 7 15 == 0 && bits w 22 10 ≤ 1000
  | _ => true

/-- Words 6 and 7 of a transmit record. -/
def txWords67Ok (ws : List Nat) (s : State) : Bool :=
  let v := wAt ws 6
  let w := wAt ws 7
  let n := bits w 13 6 + 1
  let rate := if ring96 (bits v 0 18) s then 96000 else 48000
  match recCtxKind ws s with
  | 1 => bits v 13 19 == 0 && fmtValid (bits w 24 8) && 200 ≤ bits w 0 11 && bits w 0 11 ≤ 1428
  | 2 => bits v 13 19 == 0 && bits w 1 31 == 0
  | 3 => bits v 29 3 == 0 && bits w 21 11 == 0 && bits w 0 13 == 0 && latOk (bits v 18 11)
         && audioPayload n rate (bit w 20) (if bit w 19 then 2 else 3) ≤ 1440
  | 4 => bits v 29 3 == 0 && bits w 21 11 == 0 && bits w 0 13 == 0 && latOk (bits v 18 11) && !bit w 19
         && audioPayload n rate (bit w 20) 4 ≤ 1440 && n % 2 == 0
  | 5 => v == 0 && bits w 16 16 == 0
  | _ => true

/-- BAD_RECORD of R419 does not apply. -/
def flowRecordOk (ws : List Nat) (s : State) : Bool :=
  let r := bits (wAt ws 0) 30 2
  (r == 1 || r == 2) && bits (wAt ws 0) 16 13 == 0
    && (!recOn ws
        || (bit (wAt ws 1) 30 == false && bits (wAt ws 1) 22 2 == 0
            && dstOk (wAt ws 2) && (!recPaired ws || dstOk (wAt ws 3))
            && (if recIsTx ws then bit (wAt ws 1) 0 == false && bits (wAt ws 5) 0 10 == 0 && txWords67Ok ws s
                else bits (wAt ws 1) 0 16 ≤ 50000 && rxWord7Ok ws s)))

def portsOk (ws : List Nat) (s : State) : Bool :=
  !recOn ws
    || ((recLps ws).all (fun k => lpUsed k s) && (!recPaired ws || lpNet (recLpA ws) s != lpNet (recLpB ws) s))

/-- Rings that a transmit audio record names. -/
def recRings (ws : List Nat) (s : State) : List Nat :=
  let r0 := bits (wAt ws 6) 0 18
  let n := bits (wAt ws 7) 13 6 + 1
  (List.range (if ring96 r0 s then 2 * n else n)).map (· + r0)

/-- BAD_SOURCE of R419 does not apply. -/
def sourceOk (ws : List Nat) (s : State) : Bool :=
  if !recOn ws then true
  else
    let k := recCtxKind ws s
    if recIsTx ws then
      if k = kVideo || k = kAnc then
        written (allocClass (bits (wAt ws 6) 0 13) s)
          && (k != kVideo || belongs (bits (wAt ws 7) 24 8) (txPlane (recCtx ws) s) s)
      else if isAudioKind k then
        let r0 := bits (wAt ws 6) 0 18
        let rs := recRings ws s
        rs.all (fun r => ringExtent r s && ring96 r s == ring96 r0 s && bits (wAt ws 6) 18 11 ≤ ringLen r s)
          && !(ring96 r0 s && r0 % 2 == 1)
      else true
    else k != kVideo || fits (getF FLW_RX_CFG.BIND (recCtx ws) s) (bits (wAt ws 7) 24 8) s

def firstDupCtx : Nat → List (Bool × Nat) → List (List Nat) → Option Nat
  | _, _, [] => none
  | k, seen, ws :: rest =>
    let x := (recIsTx ws, recCtx ws)
    if seen.contains x then some k else firstDupCtx (k + 1) (x :: seen) rest

/-! ### Registers of a record (R429, R431, R433, R434) -/

/-- Hold-store words of a receive audio context (R402). -/
def holdWords (c : Nat) (s : State) : Nat :=
  if isAudioKind (rxKind c s) && getB FLW_RX_STATUS.EN c s then
    (getF FLW_RX_CFG.N_CH_M1 c s + 1) * (if getB FLW_RX_CFG.R96 c s then 2 else 1) * (rxLink c s + rxPeriods c s + 16)
  else 0

def setWords (f : Fld) (c : Nat) (ws : List Nat) (s : State) : State :=
  forEach (List.range 8) (fun k s => setF f (8 * c + k) (wAt ws k) s) s

/-- The registers show the record. A record with EN = 0 leaves words 1 to 7 as zero. -/
def showRecord (ws : List Nat) (s : State) : State :=
  let c := recCtx ws
  let vs := if recOn ws then ws else [wAt ws 0]
  if recIsTx ws then
    let s := s |> setB FLW_TX_STATUS.EN c (recOn ws) |> setWords FLW_TX_REC.WORD c vs
    setF FLW_TX_STATUS.RATE_MBPS c (if recOn ws then ceilDiv (txRate c s) 1000000 else 0) s
  else
    let s := s |> setB FLW_RX_STATUS.EN c (recOn ws) |> setB FLW_RX_STATUS.PAIRED c (recOn ws && recPaired ws) |> setWords FLW_RX_REC.WORD c vs
    setF FLW_RX_STATUS.HOLD_WORDS c (ceilDiv (holdWords c s) 8) s

/-! ### Checks against other contexts (R419) -/

/-- State that every command already accepted leads to. -/
def projected (s : State) : State := forEach s.eth.recs (fun r s => showRecord r.words s) s

/-- Another enabled receive context has a key of context `c`. -/
def conflicts (c : Nat) (s : State) : Bool :=
  getB FLW_RX_STATUS.EN c s
    && (rxEnabled s).any (fun d => d != c && (rxKeys c s).any (fun x => (rxKeys d s).any (fun y => x.2 == y.2)))

/-- The hold store of the processor that serves context `c` is exceeded. -/
def holdExceeded (c : Nat) (s : State) : Bool :=
  let p := bits (rxWord c 1 s) 24 6 / 4
  262144 < ((rxEnabled s).filter (fun d => bits (rxWord d 1 s) 24 6 / 4 == p)).foldl (fun n d => n + holdWords d s) 0

/-- Reservations on logical port `k` exceed 90 % of its rate. -/
def rateExceeded (k : Nat) (s : State) : Bool :=
  lpRate k s * 900000000 <
    (txEnabled s).foldl (fun n c => n + ((txLps c s).filter (· == k)).length * txRate c s) 0

/-- First record for which `bad` holds in the state that the records up to it lead to. -/
def firstAfter (bad : List Nat → State → Bool) : Nat → List (List Nat) → State → Option Nat
  | _, [], _ => none
  | k, ws :: rest, s =>
    let s := showRecord ws s
    if bad ws s then some k else firstAfter bad (k + 1) rest s

/-- First failing check of R419 after COUNT and LIST_FAULT. -/
def flowCheck (wss : List (List Nat)) (s : State) : Option (Nat × Nat) :=
  let p := projected s
  let checks : List (Nat × Option Nat) :=
    [(stBadRecord, firstBad (fun ws => flowRecordOk ws s) wss), (stBadContext, firstBad (fun ws => recCtxKind ws s != 0) wss),
     (stBadPort, firstBad (fun ws => portsOk ws s) wss), (stBadSource, firstBad (fun ws => sourceOk ws s) wss),
     (stDuplicate, firstDupCtx 0 [] wss),
     (stConflict, firstAfter (fun ws s => !recIsTx ws && conflicts (recCtx ws) s) 0 wss p),
     (stHold, firstAfter (fun ws s => !recIsTx ws && recOn ws && holdExceeded (recCtx ws) s) 0 wss p),
     (stRate, firstAfter (fun ws s => recIsTx ws && recOn ws && (recLps ws).any (fun k => rateExceeded k s)) 0 wss p)]
  checks.findSome? (fun c => c.2.map (fun k => (c.1, k)))

/-! ### Acceptance (R420) -/

/-- How a record's commit point falls: at the anchor, at a plane's frame boundaries, or at audio block boundaries. -/
inductive RecPoint where
  | anchor
  | plane (p : Nat)
  | audio
  deriving DecidableEq, Repr

def recPoint (ws : List Nat) (s : State) : RecPoint :=
  if !recIsTx ws then .anchor
  else
    let k := recCtxKind ws s
    if k = kVideo || k = kAnc then .plane (txPlane (recCtx ws) s) else if isAudioKind k then .audio else .anchor

def pointOf (x : RecPoint) (s : State) : Option (Nat × Nat) :=
  match x with
  | .anchor => none
  | .plane p => some ((planeSt p s).boundary, planePeriod p s)
  | .audio => some (audPoints s)

/-- Points of an anchor: acceptance plus 50 µs, or the execute-at point. -/
def anchorDue (due : Due) (now : Nat) : Due :=
  { due with notBefore := if due.at_.isNone && due.frame.isNone then now + 50 * usUnit else now }

def flowRecords (raw data : List Byte) : List (List Nat) := (List.range (mapCount raw)).map (mapWords data)

def flwApply (raw data : List Byte) (uid : Nat) (due : Due) (s : State) : State :=
  let rs := (flowRecords raw data).map (fun ws =>
    ({ uid := uid, tx := recIsTx ws, ctx := recCtx ws, words := ws,
       due := if recPoint ws s = .anchor then anchorDue due s.now else due } : PendRec))
  setEth (fun e => { e with recs := e.recs ++ rs }) s

/-- An anchor that a timed command names has passed. -/
def anchorLate (raw : List Byte) (wss : List (List Nat)) (s : State) : Bool :=
  wss.any (fun ws => recPoint ws s == .anchor)
    && (match (entryDue raw s.now).execAt s with | some x => x < s.now | none => false)

/-- Deadline by which HEEL must hold the mirror: the anchor, where a record commits there. -/
def anchorDeadline (due : Due) (wss : List (List Nat)) (s : State) : Option Nat :=
  if wss.any (fun ws => recPoint ws s == .anchor) then
    match due.execAt s with
    | some x => some (x + s.timeOff).toNat
    | none => some (toLocal (s.now + 50 * usUnit) s)
  else none

def minOpt (a b : Option Nat) : Option Nat := match a, b with | some x, some y => some (min x y) | some x, none => some x | none, y => y

def flwBody (r : Nat) (raw : List Byte) (list : Option (List Byte)) (entry : Nat) (s : State) : State :=
  if mapCount raw = 0 || 4096 < mapCount raw then refuse r entry raw stCount 0 0 s
  else match list with
    | none => refuse r entry raw stListFault 0 0 s
    | some data =>
      if eList raw % 32 != 0 || data.length < 32 * mapCount raw then refuse r entry raw stListFault 0 0 s
      else
        let wss := flowRecords raw data
        match flowCheck wss s with
        | some (st, k) => refuse r entry raw st k 0 s
        | none =>
          let pts := wss.filterMap (fun ws => pointOf (recPoint ws s) s)
          let isLate := pts.any (fun p => (entryDue raw s.now).late p.1 p.2 s.now s) || anchorLate raw wss s
          match timingOf raw isLate s with
          | .tooLate => refuse r entry raw stTooLate 0 0 s
          | .on due late =>
            let dl := minOpt (earliestDeadline due pts s) (anchorDeadline due wss s)
            let (uid, s) := openEntry r entry raw (data.take (32 * mapCount raw)) wss.length due late dl s
            flwApply raw (data.take (32 * mapCount raw)) uid due s

/-! ### Commit (R420, R421, R703) -/

/-- A member that commits at an anchor: SOLO where HEEL had not acknowledged by it. -/
def anchorDone (uid t : Nat) (s : State) : State :=
  modCmd uid (fun c => { c with
    left := c.left - 1, commitAt := some (toLocal t s),
    solo := c.solo || (c.mirrored && (match c.acked with | none => true | some a => t < a)) }) s

/-- Held samples of an audio context are discarded. -/
def dropHeld (c : Nat) (s : State) : State :=
  if isAudioKind (rxKind c s) then
    forEach ((List.range ((getF FLW_RX_CFG.N_CH_M1 c s + 1) * (if getB FLW_RX_CFG.R96 c s then 2 else 1))).map (· + rxBind c s))
      (fun r s => setRing r (fun x => { x with held := [], left := 0 }) s) s
  else s

/-- A receive record comes into force. -/
def commitRx (ws : List Nat) (s : State) : State :=
  let c := recCtx ws
  let s := if rxKind c s = kVideo then damageFrame c s else s
  s |> dropHeld c |> setRx c (fun x => { lastA := some s.now, lastB := some s.now, relay := x.relay })
    |> resetFs [FLW_RX_STATUS.PATH_A_UP, FLW_RX_STATUS.PATH_B_UP, FLW_RX_STATUS.LOSS] c |> showRecord ws
    |> forEach (if recOn ws then recLps ws else []) (fun k s => wakeDom (520 + k / 4) s)

/-- A transmit record comes into force: the sequence starts at 0 where it enables the context, and goes on otherwise. -/
def commitTx (ws : List Nat) (s : State) : State :=
  let c := recCtx ws
  let s := if recOn ws && !getB FLW_TX_STATUS.EN c s then
      setTx c (fun _ => {}) s else s
  let s := if isAudioKind (getF FLW_TX_CFG.KIND c s) then setTx c (fun x => { x with audio := [] }) s else s
  s |> showRecord ws |> forEach (if recOn ws then recLps ws else []) (fun k s => s |> wakeDom (520 + k / 4) |> stepFor (k / 4))

def commitRec (t : Nat) (r : PendRec) (s : State) : State :=
  let anchor := recPoint r.words s == .anchor
  let s := if r.tx then commitTx r.words s else commitRx r.words s
  if anchor then anchorDone r.uid t s else memberDone r.uid t 0 s

/-- Records due at `t` whose point is of a kind `p` accepts, in order of acceptance. -/
def commitRecs (p : RecPoint → Bool) (t : Nat) (s : State) : State :=
  let due := s.eth.recs.filter (fun r => p (recPoint r.words s) && r.due.reached t s)
  let s := setEth (fun e => { e with recs := e.recs.filter (fun r => !due.contains r) }) s
  forEach due (commitRec t) s

def flwCounters : List Fld :=
  [FLW_PORT_NOFLOW.COUNT, FLW_PORT_FLAGS.NOFLOW_OVF, FLW_RX_FLAGS.OVF, FLW_RX_FLAGS.WRAP, FLW_RX_PKTS.COUNT, FLW_RX_OCTETS.COUNT,
   FLW_RX_PKTS_A.COUNT, FLW_RX_PKTS_B.COUNT, FLW_RX_DUP.COUNT, FLW_RX_LOST.COUNT, FLW_RX_LATE.COUNT, FLW_RX_BAD_HDR.COUNT,
   FLW_RX_GAP_A.COUNT, FLW_RX_GAP_B.COUNT, FLW_RX_RESTART.COUNT, FLW_RX_DAMAGED.COUNT, FLW_RX_SLIP.COUNT, FLW_RX_CONCEAL.COUNT,
   FLW_TX_FLAGS.OVF, FLW_TX_FLAGS.WRAP, FLW_TX_PKTS.COUNT, FLW_TX_OCTETS.COUNT, FLW_TX_STANDBY.COUNT, FLW_TX_SKIP.COUNT,
   FLW_TX_STAGE_DROP.COUNT]

/-! ### Meanings -/

/-- FLOW_PACKET_RX: the flow processor reads the next frame of logical port `k`; `pl` is what its payload carries -/
def execFlowPacketRx (t k : Nat) (pl : Payload) (s : State) : Host.Outcome State Fault Refusal := .next (onService t (flowPacket k pl) s)

/-- POSITION_LOST -/
def execPositionLost (t c : Nat) (s : State) : Host.Outcome State Fault Refusal := .next (onService t (positionsLost c) s)

/-- PATH_DOWN_TIMEOUT of path A, or B where `b` -/
def execPathDownTimeout (t c : Nat) (b : Bool) (s : State) : Host.Outcome State Fault Refusal := .next (onService t (pathDown c b) s)

/-- FLOW_VIDEO_PACKET_TX -/
def execFlowVideoPacketTx (t c : Nat) (s : State) : Host.Outcome State Fault Refusal := .next (onService t (videoTx c) s)

/-- FLOW_ANC_PACKET_TX -/
def execFlowAncPacketTx (t c line offset : Nat) (s : State) : Host.Outcome State Fault Refusal :=
  .next (onService t (ancTx c line offset) s)

/-- FLOW_AUDIO_PACKET_TX -/
def execFlowAudioPacketTx (t c : Nat) (s : State) : Host.Outcome State Fault Refusal := .next (onService t (audioTx c) s)

/-- OPAQUE_RELAY_TX -/
def execOpaqueRelayTx (t c : Nat) (s : State) : Host.Outcome State Fault Refusal := .next (onService t (relayTx c) s)

/-- FLW_CTX -/
def execFlwCtx (t r : Nat) (raw : List Byte) (list : Option (List Byte)) (s : State) : Host.Outcome State Fault Refusal :=
  .next (ringCmd 0x38 r raw t (flwBody r raw list) s)

/-- FLW_RX_RECORD_COMMIT: receive and OPAQUE records commit at their anchor -/
def execFlwRxRecordCommit (t : Nat) (s : State) : Host.Outcome State Fault Refusal :=
  .next (onService t (fun s => commitRecs (· == .anchor) s.now s) s)

/-- FLW_CLR_CNT -/
def execFlwClrCnt (s : State) : Host.Outcome State Fault Refusal := .next (whenHost (clearFlds flwCounters) s)

end Sys2Proof.Machine
end

