-- ==== Sys2Proof/Machine/Paint.lean ====
section
/-! DEFINITION. The arithmetic of composition: scaling, blending, borders and labels (R222 to R229). What the rules leave open of it are
the free values of log entry 24. -/

namespace Sys2Proof.Machine

/-! ### Layer records (R222) -/

/-- Fields of a layer record given as its words. -/
def rWord (r : List Nat) (w : Nat) : Nat := r.getD w 0
def rLayer (r : List Nat) : Nat := bits (rWord r 0) 25 5
def rHead (r : List Nat) : Nat := bits (rWord r 0) 23 2
def rEn (r : List Nat) : Bool := bit (rWord r 0) 22
def rZ (r : List Nat) : Nat := bits (rWord r 0) 17 5
def rFbFrames (r : List Nat) : Nat := bits (rWord r 0) 3 8
def rAlloc (r : List Nat) : Nat := bits (rWord r 1) 0 16
def rCropX (r : List Nat) : Nat := bits (rWord r 2) 0 13
def rCropY (r : List Nat) : Nat := bits (rWord r 2) 16 13
def rCropW (r : List Nat) : Nat := bits (rWord r 3) 0 13
def rCropH (r : List Nat) : Nat := bits (rWord r 3) 16 13
def rDstX (r : List Nat) : Int := toSigned 14 (bits (rWord r 4) 0 14)
def rDstW (r : List Nat) : Nat := bits (rWord r 5) 0 13
def rDstH (r : List Nat) : Nat := bits (rWord r 5) 16 13

def rAlpha (r : List Nat) : Nat := bits (rWord r 1) 24 8
def rBorderW (r : List Nat) : Nat := bits (rWord r 1) 20 4
def rCoef (r : List Nat) : Nat := bits (rWord r 0) 13 4
def rLabel (r : List Nat) : Nat := bits (rWord r 0) 11 2
def rDstY (r : List Nat) : Int := toSigned 14 (bits (rWord r 4) 16 14)

/-! ### Samples of a line (R225) -/

/-- Component of sample `j` of a line: 0 Cb, 1 Y', 2 Cr, and its place among the samples of that component. -/
def sampleComp (j : Nat) : Nat × Nat := if j % 2 = 1 then (1, j / 2) else if j % 4 = 0 then (0, j / 4) else (2, j / 4)

/-- Component `c` of a colour laid out as BORDER_C, 12 bits. -/
def colourComp (w c : Nat) : Int := 4 * bits w (if c = 1 then 20 else if c = 0 then 10 else 0) 10

/-- Component `c` at place `i` among its line's samples of that component, line `j` of a frame, 12 bits; none outside the frame. -/
def frameComp (k : KFrame) (c i j : Nat) : Option Int :=
  let w := fmtWidth k.fmt
  if (if c = 1 then i else 2 * i) < w && j < fmtHeight k.fmt then
    some (4 * (k.picture.getD (2 * w * j + (if c = 1 then 2 * i + 1 else 4 * i + c)) 0).toNat)
  else none

/-! ### Scaling (R228, R229) -/

/-- k of R228 for one axis: 0 where the ratio is at least 1/2. -/
def decimate (dst crop : Nat) : Nat :=
  if crop ≤ 2 * dst then 0 else if crop ≤ 4 * dst then 1 else if crop ≤ 8 * dst then 2 else 3

/-- One axis of a layer: crop and destination. -/
structure Axis where
  vertical : Bool
  start : Nat
  size : Nat
  dstStart : Int
  dst : Nat
  deriving DecidableEq, Repr

def Axis.params (a : Axis) : List Int := [a.start, a.size, a.dstStart, a.dst]

/-- A chroma component has half the samples along a line, and as many lines. -/
def Axis.halved (a : Axis) (chroma : Bool) : Bool := chroma && !a.vertical

/-- Where nothing is scaled, the source position of output position `x`: of a chroma component where that pixel has a sample of it. -/
def Axis.direct (a : Axis) (chroma : Bool) (x : Nat) : Option Nat :=
  if a.dst != a.size then none
  else if !a.halved chroma then some (a.start + x)
  else if (a.start + x) % 2 = 0 then some ((a.start + x) / 2)
  else none

/-- Group `g` of 2^`k` source positions from `base` on, averaged. -/
def boxed (k base : Nat) (f : Nat → Int) (g : Nat) : Int :=
  quotient ((List.range (2 ^ k)).foldl (fun n m => n + f (base + g * 2 ^ k + m)) 0) (2 ^ k)

/-- Coefficients of a phase of set `set`: those of sets 0 to 2 follow the remaining ratio where the layer scales down; a set that the image
has not loaded is NORMAL (R229). -/
def coefsOf (sets : List (Nat × List Int)) (set : Nat) (a : Axis) (phase : Nat) : List Int :=
  let n := a.dst * 2 ^ decimate a.dst a.size
  let (num, den) := if n < a.size then (n, a.size) else (1, 1)
  if set < 3 then Config.filterCoef set num den a.vertical phase
  else match sets.find? (fun p => p.1 == set) with
    | some p => if a.vertical then (p.2.drop (14 * (phase % 64) + 8)).take 6 else (p.2.drop (14 * (phase % 64))).take 8
    | none => Config.filterCoef 1 1 1 a.vertical phase

/-- Output position `x` of one axis of the samples `f`: as they are, or the box pre-decimator and then 8 taps along a line or 6 down the
lines, the sum of a phase's coefficients being 1024. -/
def scaled (sets : List (Nat × List Int)) (set : Nat) (chroma : Bool) (a : Axis) (x : Nat) (f : Nat → Int) : Int :=
  match a.direct chroma x with
  | some i => f i
  | none =>
    let k := decimate a.dst a.size
    let half := if a.halved chroma then 2 else 1
    let last := ceilDiv a.size (half * 2 ^ k) - 1
    let g (i : Nat) : Int := boxed k (a.start / half) f (min i last)
    if set = 3 then g (Config.nearestAt a.vertical chroma a.params x)
    else
      let (is, phase) := Config.tapAt a.vertical chroma a.params x
      let cs := coefsOf sets set a phase
      clampInt 0 4095 (quotient ((List.range (if a.vertical then 6 else 8)).foldl (fun n j => n + cs.getD j 0 * g (is.getD j 0)) 0) 1024)

/-! ### Layers (R223, R224, R227) -/

/-- A layer as it is painted: its record, the frame it shows (none where it paints FB_C) and its label text. -/
structure Painted where
  words : List Nat
  frame : Option KFrame
  label : List Byte
  deriving DecidableEq, Repr

/-- Component `c` of the layer's picture at pixel (x, y) of its rectangle. Of a crop larger than the frame, the rest is FB_C. -/
def picComp (sets : List (Nat × List Int)) (p : Painted) (c x y : Nat) : Int :=
  let r := p.words
  let fb := colourComp (rWord r 7) c
  match p.frame with
  | none => fb
  | some k =>
    let h : Axis := { vertical := false, start := rCropX r, size := rCropW r, dstStart := rDstX r, dst := rDstW r }
    let v : Axis := { vertical := true, start := rCropY r, size := rCropH r, dstStart := rDstY r, dst := rDstH r }
    scaled sets (rCoef r) (c != 1) v y (fun j => scaled sets (rCoef r) (c != 1) h x (fun i => (frameComp k c i j).getD fb))

/-- Height of a label bar on a head of format `f`. -/
def barHeight (f : Nat) : Nat := fmtHeight f / 24 / 2 * 2

/-- Line of the bar at line `y` of the rectangle. -/
def barLine (r : List Nat) (f y : Nat) : Option Nat :=
  let n := barHeight f
  match rLabel r with
  | 1 => if y < n then some y else none
  | 2 => if rDstH r - n ≤ y then some (y - (rDstH r - n)) else none
  | _ => none

/-- Text of a label, to its first byte 0. -/
def labelText (bs : List Byte) : List Byte := (bs.take 28).takeWhile (· != 0#8)

/-- White, and black, of a label: the legal range's ends, without chroma. -/
def labelColour (white : Bool) (c : Nat) : Int := 4 * (if c != 1 then 0x200 else if white then 940 else 64)

/-- Component `c` of pixel (x, y) of the layer's rectangle over `under`: the picture blended by ALPHA, the border at full opacity, the label
bar at 50 %. -/
def layerComp (sets : List (Nat × List Int)) (f : Nat) (p : Painted) (c x y : Nat) (under : Int) : Int :=
  let r := p.words
  let w := rBorderW r
  let pic := quotient (rAlpha r * picComp sets p c x y + (255 - rAlpha r : Nat) * under) 255
  let edge := x < w || y < w || rDstW r ≤ x + w || rDstH r ≤ y + w
  let border (v : Int) : Int := if edge then colourComp (rWord r 6) c else v
  let bar (v : Int) : Int := match barLine r f y with
    | some n => quotient (labelColour (Config.glyph (labelText p.label) (barHeight f) x n) c + v) 2
    | none => v
  if Config.barOverBorder then bar (border pic) else border (bar pic)

/-- Pixel (x, y) of the head, painted by a layer whose rectangle covers it. -/
def overPixel (sets : List (Nat × List Int)) (f c x y : Nat) (under : Int) (p : Painted) : Int :=
  let dx : Int := x - rDstX p.words
  let dy : Int := y - rDstY p.words
  if 0 ≤ dx && dx < rDstW p.words && 0 ≤ dy && dy < rDstH p.words then layerComp sets f p c dx.toNat dy.toNat under else under

/-- The picture of a head of format `f`, 12 bits a component, from its layers in painting order over the background. A chroma sample lies
at the even pixel of its pair. -/
def paint (sets : List (Nat × List Int)) (f bg : Nat) (ls : List Painted) : List Nat :=
  (List.range (fmtHeight f)).flatMap (fun y => (List.range (2 * fmtWidth f)).map (fun j =>
    let c := (sampleComp j).1
    (ls.foldl (overPixel sets f c (if c = 1 then j / 2 else j / 4 * 2) y) (colourComp bg c)).toNat))

end Sys2Proof.Machine
end

