-- ==== Sys2Proof/Machine/ShofarOps.lean ====
section
/-! DEFINITION. The shofar layer's operations: the bundle's fields and its decoding, contacts, raising and lowering, the message a
head shows (R243 to R251, R254). -/

namespace Sys2Proof.Machine

/-! ### The bundle (R243, R244) -/

def bundleValid (s : State) : Bool := getB SHF_BUNDLE.VALID 0 s
def bMsgs (b : List Byte) : Nat := leAt b 2 2
def bCounter (b : List Byte) : Nat := leAt b 4 4
def bPair (b : List Byte) : Nat := leAt b 8 6
/-- Palette entry `k`. -/
def bPalette (b : List Byte) (k : Nat) : Nat := leAt b (0x10 + 4 * k) 4
/-- CONTACT_x: ACTIVE, MSG, FAULT_MSG, LATCH, RESTORE_S. -/
def bContact (b : List Byte) (x field : Nat) : Nat := byteAt b (0x50 + 8 * x + field)
def bDesc (b : List Byte) (m off n : Nat) : Nat := leAt b (0x60 + 32 * m + off) n
def bPriority (b : List Byte) (m : Nat) : Nat := bDesc b m 0 1
def bFlash (b : List Byte) (m : Nat) : Nat := bDesc b m 1 1
def bImage (b : List Byte) (m : Nat) : List Byte := (b.drop (bDesc b m 4 4)).take (bDesc b m 8 4)
def bHead (b : List Byte) (m h : Nat) : Bool := bit (bDesc b m 16 16) h

/-- Runs of a message image: one line of 480 indices, and the bytes that follow it. -/
def decodeLine : Nat → List Byte → List Nat → Option (List Nat × List Byte)
  | 0, _, _ => none
  | fuel + 1, bs, acc =>
    if acc.length = 480 then some (acc, bs)
    else match bs with
      | [] => none
      | c :: cs =>
        let k := c.toNat / 16
        let r := c.toNat % 16
        if r < 15 then
          if acc.length + (r + 1) ≤ 480 then decodeLine fuel cs (acc ++ List.replicate (r + 1) k) else none
        else match cs with
          | [] => none
          | e :: es => if acc.length + (16 + e.toNat) ≤ 480 then decodeLine fuel es (acc ++ List.replicate (16 + e.toNat) k) else none

/-- `n` lines, which take every byte. -/
def decodeLines : Nat → List Byte → Option (List (List Nat))
  | 0, bs => if bs = [] then some [] else none
  | n + 1, bs =>
    match decodeLine 481 bs [] with
    | none => none
    | some (l, rest) => match decodeLines n rest with | none => none | some ls => some (l :: ls)

/-- The 480 × 270 grid of a message image. -/
def decodeMessage (bs : List Byte) : Option (List (List Nat)) := decodeLines 270 bs

def zeroAt (b : List Byte) (off n : Nat) : Bool := leAt b off n == 0

def contactOk (b : List Byte) (x : Nat) : Bool :=
  bContact b x 0 < 2 && bContact b x 1 < bMsgs b && (bContact b x 2 == 0xFF || bContact b x 2 < bMsgs b) && bContact b x 3 < 2
    && 1 ≤ bContact b x 4 && bContact b x 4 ≤ 60 && zeroAt b (0x50 + 8 * x + 5) 3

def descOk (b : List Byte) (m : Nat) : Bool :=
  bPriority b m < 16 && bFlash b m ≤ 8 && bDesc b m 2 2 == 0 && bDesc b m 12 4 == 0
    && 0x260 ≤ bDesc b m 4 4 && bDesc b m 4 4 + bDesc b m 8 4 ≤ b.length - 96 && (decodeMessage (bImage b m)).isSome

/-- The check FORMAT of R246. -/
def bundleFormat (b : List Byte) : Bool :=
  leAt b 0 2 == 1 && 1 ≤ bMsgs b && bMsgs b ≤ 16 && zeroAt b 0x0E 2 && contactOk b 0 && contactOk b 1
    && (List.range (bMsgs b)).all (fun m => descOk b m)
    && ((List.range 16).drop (bMsgs b)).all (fun m => zeroAt b (0x60 + 32 * m) 32)

/-! ### Storing (R246, R254, R625) -/

def rowBundle (copy k : Nat) : Nat := 290 + 32 * copy + k

/-- 8-byte words in which two areas differ. -/
def changedWords (old new : List Byte) : Nat :=
  ((List.range (ceilDiv new.length 8)).filter (fun w => (old.drop (8 * w)).take 8 != (new.drop (8 * w)).take 8)).length

/-- Write a bundle into the copy not selected, then flip the selector. -/
def storeBundle (b : List Byte) (s : State) : State :=
  let c := 1 - s.shf.copy
  let old := mget [] s.shf.copies c
  let s := forEach (List.range (ceilDiv b.length 4096)) (fun k s =>
    storeRow (rowBundle c k) (changedWords ((old.drop (4096 * k)).take 4096) ((b.drop (4096 * k)).take 4096)) id s) s
  s |> setShf (fun f => { f with copies := mput [] f.copies c b }) |> storeRow rowShofarState 1 (setShf (fun f => { f with copy := c }))

/-! ### Raising and lowering (R248, R249) -/

def builtinMsg : Nat := 16

/-- Causes that hold message `m` raised. -/
def causes (m : Nat) (s : State) : Nat := mget 0 s.shf.causes m
def causeCmd : Nat := 0
def causeContact (x : Nat) : Nat := 1 + x
def causeFault (x : Nat) : Nat := 3 + x

/-- The raised messages as a mask, bit 16 the built-in one. -/
def raisedMask (s : State) : Nat := s.shf.causes.foldl (fun a p => if p.2 != 0 then a ||| 2 ^ p.1 else a) 0
def cmdMask (s : State) : Nat := s.shf.causes.foldl (fun a p => if bit p.2 0 then a ||| 2 ^ p.1 else a) 0

/-- Changes kept: those that a frame can still need (R251). -/
def trimHist (now : Nat) : List (Nat × Nat) → List (Nat × Nat)
  | [] => []
  | p :: ps => if p.1 + 100 * msUnit < now then [p] else p :: trimHist now ps

/-- SHF_RAISED and SHF_BUNDLE.BUILTIN follow the causes, and the change is kept for the next head frame boundaries. -/
def showRaised (s : State) : State :=
  s |> setF SHF_RAISED.RAISED 0 (raisedMask s) |> setF SHF_RAISED.BY_CMD 0 (cmdMask s) |> setB SHF_BUNDLE.BUILTIN 0 (bit (raisedMask s) 16)
    |> setShf (fun f => { f with hist := trimHist s.now ((s.now, raisedMask s) :: f.hist) })

/-- Cause code of the audit log (R650). -/
def auditCause (c : Nat) : Nat := if c < 3 then c else 3

/-- Audit ARG of a raise or lower. -/
def raiseArg (m c : Nat) : List Byte := leBytes 1 m ++ leBytes 1 (auditCause c)

/-- Cause `c` raises message `m`. -/
def addCause (m c : Nat) (s : State) : State :=
  let old := causes m s
  if bit old c then s
  else
    let s := s |> setShf (fun f => { f with causes := mput 0 f.causes m (old ||| 2 ^ c) }) |> storeRow rowShofarState 1 id |> showRaised
    if old = 0 then
      s |> bump32 SHF_RAISE_CNT.COUNT SHF_CNT_FLAGS.RAISE_OVF 0 |> audit 0x0022 0 (raiseArg m c) |> post 0x0A m 1
    else s

/-- Cause `c` of message `m` ends. -/
def dropCause (m c : Nat) (s : State) : State :=
  let old := causes m s
  if !bit old c then s
  else
    let s := s |> setShf (fun f => { f with causes := mput 0 f.causes m (old - 2 ^ c) }) |> storeRow rowShofarState 1 id |> showRaised
    if old = 2 ^ c then s |> audit 0x0023 0 (raiseArg m c) |> post 0x0A m 2 else s

/-! ### Contacts -/

def stNormal : Nat := 0
def stAlarm : Nat := 1
def stFault : Nat := 2

def ownFld (x : Nat) : Fld := if x = 0 then SHF_CONTACT.A_OWN else SHF_CONTACT.B_OWN
def twinFld (x : Nat) : Fld := if x = 0 then SHF_CONTACT.A_TWIN else SHF_CONTACT.B_TWIN
def ownContact (x : Nat) (s : State) : Nat := getF (ownFld x) 0 s

def inAlarm (x : Nat) (s : State) : Bool := ownContact x s == stAlarm || getF (twinFld x) 0 s == stAlarm
def inFault (x : Nat) (s : State) : Bool := ownContact x s == stFault

/-- Message of contact `x`, its FAULT_MSG, LATCH and RESTORE_S; without a bundle those of R247. -/
def contactMsg (x : Nat) (s : State) : Nat := if bundleValid s then bContact s.shf.bundle x 1 else builtinMsg
def contactFaultMsg (x : Nat) (s : State) : Option Nat :=
  if bundleValid s && bContact s.shf.bundle x 2 != 0xFF then some (bContact s.shf.bundle x 2) else none
def contactLatch (x : Nat) (s : State) : Bool := bundleValid s && bContact s.shf.bundle x 3 == 1
def contactRestore (x : Nat) (s : State) : Nat := if bundleValid s then bContact s.shf.bundle x 4 else 10
/-- A closed contact is an alarm. -/
def closedAlarm (x : Nat) (s : State) : Bool := !(bundleValid s && bContact s.shf.bundle x 0 == 1)

/-- Contact state of a loop class (R247, R751). -/
def classState (x c : Nat) (s : State) : Nat :=
  if c = 2 then stFault else if (c == 0) == closedAlarm x s then stAlarm else stNormal

def startRestore (k sec : Nat) (s : State) : State := setShf (fun f => { f with restore := minsert k (s.now + sec * secUnit) f.restore }) s
def stopRestore (k : Nat) (s : State) : State := setShf (fun f => { f with restore := mdrop k f.restore }) s
def restoreAt (k : Nat) (s : State) : Option Nat := (s.shf.restore.find? (fun p => p.1 == k)).map (·.2)

/-- Judge contact `x` after a change of its own or the twin's state (R248, R249). -/
def judgeContact (x : Nat) (s : State) : State :=
  if !s.shf.live then s
  else
    let s := if inAlarm x s then s |> stopRestore x |> addCause (contactMsg x s) (causeContact x)
      else if inFault x s then stopRestore x s
      else if (restoreAt x s).isNone && !contactLatch x s && bit (causes (contactMsg x s) s) (causeContact x) then startRestore x (contactRestore x s) s
      else s
    match contactFaultMsg x s with
    | none => s
    | some m =>
      if inFault x s then s |> stopRestore (2 + x) |> addCause m (causeFault x)
      else if (restoreAt (2 + x) s).isNone && bit (causes m s) (causeFault x) then startRestore (2 + x) (contactRestore x s) s
      else s

/-- A debounced state of contact `x` takes effect. -/
def setContact (x st : Nat) (s : State) : State :=
  let old := ownContact x s
  if old = st then s
  else
    let s := s |> setF (ownFld x) 0 st |> post 0x0A x 4
    let s := if st = stFault then bump32 SHF_FAULT_CNT.COUNT SHF_CNT_FLAGS.FAULT_OVF 0 s else s
    judgeContact x s

/-- The twin reports contact `x` in a state (R248, R497). -/
def setTwinContact (x st : Nat) (s : State) : State :=
  if getF (twinFld x) 0 s = st then s else s |> setF (twinFld x) 0 st |> judgeContact x

/-! ### Requests (R249, R252) -/

/-- LOWER of message `m`: the latched causes of contacts that are NORMAL end, and then the command's cause, when no contact still
raises the message. -/
def lowerMsg (m : Nat) (s : State) : State :=
  let s := forEach [0, 1] (fun x s =>
    if contactMsg x s = m && contactLatch x s && !inAlarm x s && !inFault x s then dropCause m (causeContact x) s else s) s
  if causes m s / 2 = 0 then dropCause m causeCmd s else s

/-! ### The message of a head (R250) -/

/-- Raised messages whose change has reached the arm deadline of a boundary at `f` (R251). -/
def maskAt (f : Nat) (s : State) : Nat := match s.shf.hist.find? (fun p => p.1 + armLead ≤ f) with | some p => p.2 | none => 0

/-- Message that head `h` shows under a mask: the highest PRIORITY, then the lowest number; 0x1F none. -/
def headMsg (h mask : Nat) (s : State) : Nat :=
  let b := s.shf.bundle
  if !bundleValid s then (if bit mask 16 then builtinMsg else 0x1F)
  else
    let ms := (List.range (bMsgs b)).filter (fun m => bit mask m && (bHead b m h || getB CMP_HEAD_CFG.SAFETY h s))
    match ms.foldl (fun best m => match best with
        | none => some m
        | some x => if bPriority b x < bPriority b m then some m else some x) none with
    | some m => m
    | none => 0x1F

/-- FLASH of a message; the built-in one flashes with a period of 1 s. -/
def msgFlash (m : Nat) (s : State) : Nat := if m = builtinMsg then 2 else bFlash s.shf.bundle m

/-- Frame `k` since the message first showed is in the on half: (k × T_f) mod P < P/2 with P = n × 0.5 s. -/
def flashOn (n k rate : Nat) : Bool :=
  n == 0 || (4 * k * (rateFrac rate).2) % (2 * n * (rateFrac rate).1) < n * (rateFrac rate).1

/-- The shofar layer of head `h` for the frame that begins at `f`. Frames are counted from the first one that the head sends with the
message; after a POR or MODULE reset that is the first it sends again (R250, R254). -/
def shofarFrame (h f : Nat) (s : State) : State :=
  let m := headMsg h (maskAt f s) s
  let k := match s.shf.flash.find? (fun p => p.1 == h) with
    | some p => if getF SHF_HEAD.MSG h s = m then p.2 + 1 else 0
    | none => 0
  s |> setF SHF_HEAD.MSG h m
    |> setB SHF_HEAD.VISIBLE h (m != 0x1F && flashOn (msgFlash m s) k (fmtRate (getF CMP_HEAD_CFG.FORMAT h s)))
    |> setShf (fun g => { g with flash := mput 0 g.flash h k })

/-- Palette entry over pixel (x, y) of a W × H picture (R245): opacity in bits 31:30. -/
def shofarPixel (grid : List (List Nat)) (b : List Byte) (w hgt x y : Nat) : Nat :=
  bPalette b ((grid.getD (y * 270 / hgt) []).getD (x * 480 / w) 0)

/-- The built-in message's entry (R247): red at 75 %. -/
def builtinPixel : Nat := 2 * 2 ^ 30 + 0x0FA * 2 ^ 20 + 0x199 * 2 ^ 10 + 0x3C0

/-- One 12-bit component under a palette entry whose 10-bit component is `c`: transparent, 50 %, 75 % or opaque (R243, R245). -/
def overlay (entry c under : Nat) : Nat :=
  match entry / 2 ^ 30 with
  | 0 => under
  | 1 => (quotient (4 * c + under : Nat) 2).toNat
  | 2 => (quotient (3 * (4 * c) + under : Nat) 4).toNat
  | _ => 4 * c

end Sys2Proof.Machine
end

