-- ==== Sys2Proof/Machine/CmpOps.lean ====
section
/-! DEFINITION. The composition engines' operations: records, budgets, commits, layer frames, what a head sends (R218 to R242). -/

namespace Sys2Proof.Machine

/-! ### Records (R222, R232) -/

def layerWord (l w : Nat) (s : State) : Nat := getF CMP_LAYER.WORD (16 * l + w) s
def shadowWord (l w : Nat) (s : State) : Nat := getF CMP_LAYER.WORD (16 * l + 8 + w) s
def layerWords (l : Nat) (s : State) : List Nat := (List.range 8).map (fun w => layerWord l w s)
def shadowWords (l : Nat) (s : State) : List Nat := (List.range 8).map (fun w => shadowWord l w s)

/-- Bits of each word of a record that its table names. -/
def layerMask : List Nat := [0xFFFFFFF8, 0xFFF0FFFF, 0x1FFF1FFF, 0x1FFF1FFF, 0x3FFF3FFF, 0x1FFF1FFF, 0x3FFFFFFF, 0x3FFFFFFF]
def headMask : List Nat := [0xC000007F, 0x3FFFFFFF, 0x00003F37, 0, 0, 0, 0, 0]
def labelMask : List Nat := [0xFE000000, 0xFFFFFFFF, 0xFFFFFFFF, 0xFFFFFFFF, 0xFFFFFFFF, 0xFFFFFFFF, 0xFFFFFFFF, 0xFFFFFFFF]

/-- No bit outside the mask is set. -/
def inMask (mask r : List Nat) : Bool := (List.range 8).all (fun w => rWord r w &&& rWord mask w == rWord r w)

/-- Record `k` of a list, as eight words. -/
def recordAt (data : List Byte) (k : Nat) : List Nat := (List.range 8).map (fun w => leAt data (32 * k + 4 * w) 4)

/-! ### Heads of an engine -/

def headOf (e loc : Nat) (s : State) : Option Nat :=
  (indicesWhere CMP_HEAD_CFG.ENABLED (· == 1) s).find? (fun h => getF CMP_HEAD_CFG.ENGINE h s == e && getF CMP_HEAD_CFG.LOCAL h s == loc)
def headsOf (e : Nat) (s : State) : List Nat := (indicesWhere CMP_HEAD_CFG.ENABLED (· == 1) s).filter (fun h => getF CMP_HEAD_CFG.ENGINE h s == e)
def headFmt (h : Nat) (s : State) : Nat := getF CMP_HEAD_CFG.FORMAT h s

/-- Layers of the pool that are base layers of safety heads (R241). -/
def baseLayers (e : Nat) (s : State) : List Nat :=
  ((headsOf e s).filter (fun h => getB CMP_HEAD_CFG.SAFETY h s)).map (fun h => getF CMP_HEAD_CFG.BASE_LAYER h s)

/-- Frame rate of the engine's heads. -/
def engRate (e : Nat) (s : State) : Nat := match headsOf e s with | h :: _ => fmtRate (headFmt h s) | [] => 3
def engPlane (e : Nat) (s : State) : Nat := getF CMP_ENG_CFG.PLANE e s

/-! ### Budgets (R228, R230, R231) -/

/-- The ratio DST/CROP lies between 1/16 and 8. -/
def ratioOk (dst crop : Nat) : Bool := crop ≤ 16 * dst && dst ≤ 8 * crop

/-- Width of the destination after clipping to the head's active width. -/
def visibleWidth (r : List Nat) (w : Nat) : Nat := (min (rDstX r + rDstW r) (w : Int) - max (rDstX r) 0).toNat

/-- Line-buffer bytes of a layer on a head of active width `w` (R230). -/
def lineBytes (r : List Nat) (w : Nat) : Nat :=
  let v := visibleWidth r w
  let n := if v = 0 then 0 else if rDstH r = rCropH r then 2 else if decimate (rDstH r) (rCropH r) = 0 then 7 else 8
  ceilDiv (n * v * 4) 1024 * 1024

def linePool : Nat := 262144

/-- Pixels of the largest FMT_MAX among the image's FSYNC, DELAY, FLOWRX and STILL allocations (R231). -/
def largestPicture (s : State) : Nat :=
  (indicesWhere KNL_ALLOC_CFG.CLASS (fun c => 1 ≤ c && c ≤ 4) s).foldl
    (fun m a => max m (fmtWidth (allocFmtMax a s) * fmtHeight (allocFmtMax a s))) 0

/-- Pixels that a layer reads per frame. -/
def readPixels (e : Nat) (r : List Nat) (s : State) : Nat :=
  if (baseLayers e s).contains (rLayer r) then largestPicture s else rCropW r * rCropH r

/-- Enabled layers of a copy, in ascending layer number; a base layer is always enabled. -/
def enabledLayers (e : Nat) (c : CmpCopy) (s : State) : List (Nat × List Nat) :=
  c.layers.filter (fun p => rEn p.2 || (baseLayers e s).contains p.1)

/-- First layer at which the running sum of line buffers exceeds the pool, and the whole sum. -/
def lineSum (e : Nat) (s : State) : Nat → List (Nat × List Nat) → Option Nat × Nat
  | sum, [] => (none, sum)
  | sum, (l, r) :: rs =>
    let w := match headOf e (rHead r) s with | some h => fmtWidth (headFmt h s) | none => 0
    let sum' := sum + lineBytes r w
    let (first, total) := lineSum e s sum' rs
    (if linePool < sum' then some l else first, total)

/-- Numerator and denominator of the read rate in pixels per second. -/
def readRate (e : Nat) (ls : List (Nat × List Nat)) (s : State) : Nat × Nat :=
  ((ls.foldl (fun n p => n + readPixels e p.2 s) 0) * (rateFrac (engRate e s)).1, (rateFrac (engRate e s)).2)

/-- LOAD × 594,000,000; LOAD is in quarters. -/
def readLimit (e : Nat) (s : State) : Nat := getF CMP_ENG_CFG.LOAD_Q e s * 148500000

/-- A refusal of R235: status and details. -/
def commitCheck (e : Nat) (c : CmpCopy) (s : State) : Option (Nat × Nat × Nat) :=
  let ls := enabledLayers e c s
  let own := ls.filter (fun p => !(baseLayers e s).contains p.1)
  let badCrop (r : List Nat) := rCropW r == 0 || rCropH r == 0 || 4096 < rCropX r + rCropW r || 2160 < rCropY r + rCropH r
  match own.find? (fun p => badCrop p.2) with
  | some p => some (stGeometry, p.1, 0)
  | none =>
    match own.find? (fun p => !ratioOk (rDstW p.2) (rCropW p.2) || !ratioOk (rDstH p.2) (rCropH p.2)) with
    | some p => some (stScale, p.1, 0)
    | none =>
      match lineSum e s 0 ls with
      | (some l, total) => some (stLinebuf, l, total - linePool)
      | (none, _) =>
        let (n, d) := readRate e ls s
        if readLimit e s * d < n then some (stLoad, 0, ceilDiv (n - readLimit e s * d) d) else none

/-! ### Shadows and commits (R233 to R238) -/

/-- The engine's shadows as they stand. -/
def takeCopy (e : Nat) (s : State) : CmpCopy :=
  { layers := (List.range 32).map (fun l => (l, shadowWords (32 * e + l) s)),
    heads := (headsOf e s).map (fun h => (h, getF CMP_HEAD_SHD1.WORD h s, getF CMP_HEAD_SHD2.WORD h s)),
    labels := (List.range 32).map (fun l => (l, mget [] s.cmp.shadowLabels (32 * e + l))) }

/-- Write words of a layer's record at word offset `off`: 0 active, 8 shadow. -/
def putLayer (l off : Nat) (r : List Nat) (s : State) : State :=
  forEach (List.range 8) (fun w s => setF CMP_LAYER.WORD (16 * l + off + w) (rWord r w) s) s

/-- Write one record into the engine's shadows (R233). -/
def writeShadow (e : Nat) (r : List Nat) (s : State) : State :=
  match rWord r 0 / 2 ^ 30 with
  | 1 => putLayer (32 * e + rLayer r) 8 r s
  | 2 => let h := rWord r 0 % 128
         s |> setF CMP_HEAD_SHD1.WORD h (rWord r 1) |> setF CMP_HEAD_SHD2.WORD h (rWord r 2)
  | 3 => setCmp (fun c => { c with shadowLabels := mput [] c.shadowLabels (32 * e + rLayer r) ((r.drop 1).flatMap (leBytes 4)) }) s
  | _ => s

/-- Line buffers in use and the read rate follow the active layers (R258). -/
def showUsage (e : Nat) (s : State) : State :=
  let c : CmpCopy := { layers := (List.range 32).map (fun l => (l, layerWords (32 * e + l) s)) }
  let ls := enabledLayers e c s
  let (n, d) := readRate e ls s
  s |> setF CMP_ENG_STATUS.LB_USED e (lineSum e s 0 ls).2 |> setF CMP_ENG_LOAD.READ_KPPS e (n / (1000 * d))

def layerSt (l : Nat) (s : State) : LayerSt := mget {} s.cmp.layers l
def setLayer (l : Nat) (f : LayerSt → LayerSt) (s : State) : State := setCmp (fun c => { c with layers := mmod {} c.layers l f }) s

/-- An active layer record takes a new value: a changed ALLOC, or a layer newly enabled, has shown no frame (R236). -/
def activateLayer (l : Nat) (r : List Nat) (s : State) : State :=
  let old := layerWords l s
  let s := if rAlloc old != rAlloc r || !rEn old then setLayer l (fun x => { x with shown := none, repeats := 0 }) s else s
  putLayer l 0 r s

/-- Apply a commit: every active copy of the engine takes its shadow value; a base layer keeps its allocation (R236, R237). -/
def applyCopy (e : Nat) (c : CmpCopy) (s : State) : State :=
  s |> forEach c.layers (fun p s => if (baseLayers e s).contains p.1 then s else activateLayer (32 * e + p.1) p.2 s)
    |> forEach c.heads (fun p s => s |> setF CMP_HEAD_ACT1.WORD p.1 p.2.1 |> setF CMP_HEAD_ACT2.WORD p.1 p.2.2)
    |> setCmp (fun x => { x with labels := c.labels.foldl (fun m p => mput [] m (32 * e + p.1) p.2) x.labels })
    |> showUsage e

/-- Apply the commits of engine `e` due at `t`: the one accepted last applies, the others are superseded (R237). -/
def applyCommits (e t : Nat) (s : State) : State :=
  let due := s.cmp.pend.filter (fun p => p.engine == e && p.due.reached t s)
  match due.getLast? with
  | none => s
  | some p =>
    if getB DBG_ENG_STATUS.HALTED (128 + e) s then forEach due (fun q s => modCmd q.uid (fun c => { c with late := true }) s) s
    else
    s |> forEach due.dropLast (fun q s => modCmd q.uid (fun c => { c with superseded := true, left := c.left - 1, commitAt := some (toLocal t s) }) s)
      |> applyCopy e p.copy
      |> bump32 CMP_ENG_COMMIT_CNT.COUNT CMP_ENG_EVT.COMMIT_OVF e |> raise [CMP_ENG_EVT.COMMIT] e
      |> setCmp (fun c => { c with pend := c.pend.filter (fun q => !(due.contains q)) })
      |> memberDone p.uid t 0

/-! ### Safety outputs (R157, R241) -/

/-- The allocation by which a source reaches a base layer. -/
def baseAlloc (src : Nat) (s : State) : Option Nat :=
  match srcKind src with
  | 1 => baseAllocOf (srcIndex src) s
  | 2 => some (srcIndex src)
  | _ => none

/-- Global number of the base layer of head `h`. -/
def baseLayerOf (h : Nat) (s : State) : Nat := 32 * getF CMP_HEAD_CFG.ENGINE h s + getF CMP_HEAD_CFG.BASE_LAYER h s

/-- The base layer of a head reads another allocation. -/
def setBaseAlloc (h a : Nat) (s : State) : State :=
  let l := baseLayerOf h s
  let r := layerWords l s
  if rAlloc r = a then s
  else
    let w1 := rWord r 1 / 65536 * 65536 + a
    s |> setLayer l (fun x => { x with shown := none, repeats := 0 }) |> setF CMP_LAYER.WORD (16 * l + 1) w1
      |> setF CMP_LAYER.WORD (16 * l + 9) w1

/-- A take on a safety output commits. -/
def commitSafety (t h : Nat) (p : PendTake) (s : State) : State :=
  let o := p.out
  let s := match baseAlloc p.src s with | some a => setBaseAlloc h a s | none => s
  let s := if outSrc o s = p.src then s
    else s |> bump32 XPT_OUT_SWITCH_CNT.COUNT XPT_OUT_EVT.SWITCH_OVF o |> setF XPT_OUT_EVT.SWITCH o 1
  let s := s |> setF XPT_OUT_SRC.SOURCE o p.src |> countTake
  let s := if p.noPst then s else storeRoute o p.src s
  if p.uid = 0 then s else memberDone p.uid t (if p.wake then qWake else 0) s

/-- Takes on the safety outputs of head `h` due at `t`, in acceptance order: on each output the last commits (R237). -/
def applySafetyTakes (h t : Nat) (s : State) : State :=
  let due := s.xpt.pend.filter (fun p => safetyHead p.out s == some h && p.due.reached t s)
  let last (p : PendTake) : Bool := (due.filter (fun q => q.out == p.out)).getLast? == some p
  s |> forEach due (fun p s => if last p then commitSafety t h p s else supersede t p s)
    |> forEach due (fun p s => dropPend p.out (fun q => due.contains q && q.out == p.out) s)

/-! ### Layer frames (R226, R227) -/

/-- The source of a layer gives no frames: in loss, stopped by size, or no complete frame held. -/
def sourceDown (a : Nat) (s : State) : Bool :=
  if allocClass a s = clStill then (stillFrame a (getF KNL_ALLOC_STATUS.SELECT a s) s).isNone
  else getB KNL_ALLOC_STATUS.LOSS a s || getB KNL_ALLOC_STATUS.SIZE a s || (alloc a s).frames == []

/-- The choice of R186 with T replaced by F, any format and rate. -/
def layerChoice (a f : Nat) (shown : Option Nat) (s : State) : ReadChoice :=
  match shown with
  | none =>
    match (alloc a s).frames.find? (fun k => k.endAt + marginNs ≤ f) with
    | some k => .first k.num
    | none => .none
  | some n =>
    match ((alloc a s).frames.filter (fun k => n < k.num && k.endAt ≤ f)).reverse with
    | [] => .repeat n
    | [k] => .next k.num
    | k :: l :: _ => if l.endAt + marginNs ≤ f then .drop l.num else .next k.num

/-- LEAD's choice for a layer (R509). -/
def leadLayer (l : Nat) (s : State) : Option Nat :=
  s.twin.choices.findSome? (fun c => match c with | .layer x n _ => if x = l then some n else none | _ => none)
def dropLayerChoice (l : Nat) (s : State) : State :=
  setTwin (fun w => { w with choices := w.choices.filter (fun c => match c with | .layer x _ _ => x != l | _ => true) }) s

/-- LEAD's choice stands where the frame it names is held and complete. -/
def layerLead (a f n : Nat) (shown : Option Nat) (s : State) : ReadChoice :=
  let ok := match frameNo a n s with | some k => decide (k.endAt ≤ f) | none => false
  match shown with
  | none => if ok then .first n else .none
  | some m => if !ok || n ≤ m then .repeat m else if n = m + 1 then .next n else .drop n

/-- The newest frame is more than one of its frame periods and an eighth old at F. -/
def overdue (a f : Nat) (s : State) : Bool :=
  match (alloc a s).frames.head? with
  | some k => k.endAt + framePeriod (fmtRate k.fmt) * 9 / 8 < f
  | none => true

/-- The frame a layer shows now. -/
def layerFrame (l : Nat) (s : State) : Option KFrame :=
  let a := rAlloc (layerWords l s)
  match (layerSt l s).shown with
  | none => none
  | some n => if allocClass a s = clStill then stillFrame a n s else frameNo a n s

def showLayer (l st : Nat) (s : State) : State :=
  let s := setF CMP_LAYER_STATUS.STATE l st s
  match layerFrame l s with | some k => setF CMP_LAYER_STATUS.SRC_FORMAT l k.fmt s | none => s

/-- The layer is ready and shows frame `n`. -/
def layerReady (l n : Nat) (again : Bool) (s : State) : State :=
  let was := (layerSt l s).notReady
  let s := setLayer l (fun x => { x with shown := some n, notReady := false, repeats := 0, fallback := false, again := again }) s
  let s := if was then raise [CMP_LAYER_EVT.RECOVER] l s else s
  let s := match layerFrame l s with
    | some k => (match k.vpid, headOf (l / 32) (rHead (layerWords l s)) s with
        | some v, some h => if Config.otherColour v (headFmt h s) then raise [CMP_LAYER_EVT.COLOUR] l s else s
        | _, _ => s)
    | none => s
  showLayer l 1 s

/-- The layer is not ready (R227). -/
def layerNotReady (l : Nat) (s : State) : State :=
  let x := layerSt l s
  let limit := if x.shown.isNone then 0 else rFbFrames (layerWords l s)
  let s := bump32 CMP_LAYER_NOT_READY_CNT.COUNT CMP_LAYER_EVT.NOT_READY_OVF l s
  let enters := !x.fallback && limit ≤ x.repeats
  let evts := (if x.notReady then [] else [CMP_LAYER_EVT.NOT_READY]) ++ (if enters then [CMP_LAYER_EVT.FALLBACK] else [])
  let s := raise evts l s
  if x.fallback || enters then
    let s := if enters then bump32 CMP_LAYER_FB_CNT.COUNT CMP_LAYER_EVT.FB_OVF l s else s
    s |> setLayer l (fun y => { y with notReady := true, fallback := true, again := true }) |> setF CMP_LAYER_STATUS.STATE l 3
  else s |> setLayer l (fun y => { y with notReady := true, repeats := y.repeats + 1, again := true }) |> showLayer l 2

/-- One layer at head frame boundary `f`. -/
def layerPoint (l f : Nat) (s : State) : State :=
  let r := layerWords l s
  let base := (baseLayers (l / 32) s).contains (l % 32)
  let a := rAlloc r
  if !(rEn r || base) || (headOf (l / 32) (rHead r) s).isNone then
    s |> setF CMP_LAYER_STATUS.STATE l 0 |> setF CMP_LAYER_STATUS.SRC_FORMAT l 0 |> setLayer l (fun _ => {})
  else if sourceDown a s then s |> dropLayerChoice l |> layerNotReady l
  else if allocClass a s = clStill then layerReady l (getF KNL_ALLOC_STATUS.SELECT a s) false s
  else
    let shown := (layerSt l s).shown
    let c := match leadLayer l s with | some n => layerLead a f n shown s | none => layerChoice a f shown s
    let s := dropLayerChoice l s
    match c with
    | .none => layerNotReady l s
    | .first n => layerReady l n false s
    | .next n => layerReady l n false s
    | .drop n => layerReady l n false s
    | .repeat n => if overdue a f s then layerNotReady l s else layerReady l n true s

/-! ### What a head sends (R223, R239, R240, R245) -/

/-- The ordered-dither matrix of R240. -/
def bayer4 (y x : Nat) : Nat :=
  match y % 4, x % 4 with
  | 0, 0 => 0 | 0, 1 => 8 | 0, 2 => 2 | 0, _ => 10
  | 1, 0 => 12 | 1, 1 => 4 | 1, 2 => 14 | 1, _ => 6
  | 2, 0 => 3 | 2, 1 => 11 | 2, 2 => 1 | 2, _ => 9
  | _, 0 => 15 | _, 1 => 7 | _, 2 => 13 | _, _ => 5

/-- `reduce` of R240: component `v` of 12 bits to `d` bits, as a 10-bit word, and the error carried on along the line. -/
def reduce (v : Int) (d mode x y frame : Nat) (err : Int) : Nat × Int :=
  let s := 12 - d
  let two (n : Nat) : Int := (2 ^ n : Nat)
  let top := two d - 1
  let out (q : Int) : Nat := ((min q top) * two (10 - d)).toNat
  match mode with
  | 0 => (out (v / two s), err)
  | 2 => (out ((v + ((bayer4 y x * 2 ^ s) / 16 : Nat)) / two s), err)
  | 3 => (out ((v + ((bayer4 (y + frame) (x + frame / 4) * 2 ^ s) / 16 : Nat)) / two s), err)
  | 4 =>
    let t := v + err
    let q := clampInt 0 top ((t + two (s - 1)) / two s)
    (out q, t - q * two s)
  | _ => (out ((v + two (s - 1)) / two s), err)

/-- D of R240 from the field DEPTH. -/
def depthBits (w2 : Nat) : Nat := match bits w2 4 2 with | 1 => 8 | 2 => 6 | _ => 10

/-- The legal range (R240): 64 to the largest multiple of 2^(10 − D) not above 940 or 960. -/
def legal (luma : Bool) (d q : Nat) : Nat :=
  let m := 2 ^ (10 - d)
  clampNat 64 ((if luma then 940 else 960) / m * m) q

/-- One line of 12-bit samples reduced; the errors of Cb, Y' and Cr run separately from 0. -/
def reduceLine (w2 y frame : Nat) : Nat → Int × Int × Int → List Nat → List Word10
  | _, _, [] => []
  | j, (eb, ey, er), v :: vs =>
    let (c, x) := sampleComp j
    let d := depthBits w2
    let e := if c = 0 then eb else if c = 1 then ey else er
    let (q, e') := reduce v d (bits w2 0 3) x y frame e
    BitVec.ofNat 10 (legal (c == 1) d q)
      :: reduceLine w2 y frame (j + 1) (if c = 0 then (e', ey, er) else if c = 1 then (eb, e', er) else (eb, ey, e')) vs

/-- The picture line by line. -/
def chunks (n : Nat) : Nat → List Nat → List (List Nat)
  | 0, _ => []
  | k + 1, xs => xs.take n :: chunks n k (xs.drop n)

/-- The shofar message over line `y` of a W × H picture. -/
def shofarLine (entry : Nat → Nat) : Nat → List Nat → List Nat
  | _, [] => []
  | j, v :: vs =>
    let (c, _) := sampleComp j
    let p := entry (if c = 1 then j / 2 else j / 4 * 2)
    overlay p (bits p (if c = 1 then 20 else if c = 0 then 10 else 0) 10) v :: shofarLine entry (j + 1) vs

/-- Enabled layers of head `h` in painting order: ascending Z, then ascending layer number (R223). -/
def paintOrder (h : Nat) (s : State) : List Nat :=
  let e := getF CMP_HEAD_CFG.ENGINE h s
  let loc := getF CMP_HEAD_CFG.LOCAL h s
  let ls := ((List.range 32).map (· + 32 * e)).filter (fun l =>
    (rEn (layerWords l s) || (baseLayers e s).contains (l % 32)) && rHead (layerWords l s) == loc)
  (List.range 32).flatMap (fun z => ls.filter (fun l => rZ (layerWords l s) == z))

/-- The composed picture of head `h`, 12 bits a component. -/
def composed (h : Nat) (s : State) : List Nat :=
  paint s.cmp.coefs (headFmt h s) (bits (getF CMP_HEAD_ACT1.WORD h s) 0 30)
    ((paintOrder h s).map (fun l =>
      { words := layerWords l s, frame := if (layerSt l s).fallback then none else layerFrame l s, label := mget [] s.cmp.labels l }))

/-- The picture with the shofar message over it, reduced to what the head sends. -/
def headPicture (h : Nat) (s : State) : List Word10 :=
  let w := fmtWidth (headFmt h s)
  let n := fmtHeight (headFmt h s)
  let m := getF SHF_HEAD.MSG h s
  let grid := if m < 16 then (decodeMessage (bImage s.shf.bundle m)).getD [] else []
  let entry (y x : Nat) : Nat :=
    if !getB SHF_HEAD.VISIBLE h s then 0
    else if m = builtinMsg then builtinPixel else shofarPixel grid s.shf.bundle w n x y
  let w2 := getF CMP_HEAD_ACT2.WORD h s
  let frame := mget 0 s.cmp.frames h
  let ls := chunks (2 * w) n (composed h s)
  ((List.range n).zip ls).flatMap (fun p => reduceLine w2 p.1 frame 0 (0, 0, 0) (shofarLine (entry p.1) 0 p.2))

/-- Ancillary packets of the frame that ANC_LAYER shows; a repeat leaves out audio data (R239). -/
def headPackets (h : Nat) (s : State) : List (List Word10) :=
  let w2 := getF CMP_HEAD_ACT2.WORD h s
  let l := 32 * getF CMP_HEAD_CFG.ENGINE h s + bits w2 8 5
  if !bit w2 13 || (layerSt l s).fallback then []
  else match layerFrame l s with
    | some k => if (layerSt l s).again then (framePackets k).filter (fun p => !Config.isAudioData p) else framePackets k
    | none => []

/-- The head sends the frame that begins at this boundary, from the output reference point on (R137), with the payload identifier of its
format (R239). -/
def sendHead (h : Nat) (s : State) : State :=
  let f := headFmt h s
  let ws := Config.sdiFrame f (transmitOrder f (headPicture h s)) (headPackets h s) (some (Config.vpidOf f))
  setCmp (fun c => { c with frames := mput 0 c.frames h (mget 0 c.frames h + 1),
                            streams := mmod {} c.streams h (fun x => x.begin f (s.now + tOut s) ws) }) s

/-- The crop of a base layer is its source's full format, as the frame it shows has it (R231, R241); log entry 24. -/
def fitBase (h : Nat) (s : State) : State :=
  let l := baseLayerOf h s
  match (if getB CMP_HEAD_CFG.SAFETY h s then layerFrame l s else none) with
  | none => s
  | some k =>
    let size := fmtHeight k.fmt * 65536 + fmtWidth k.fmt
    if layerWord l 2 s = 0 && layerWord l 3 s = size then s
    else
      s |> setF CMP_LAYER.WORD (16 * l + 2) 0 |> setF CMP_LAYER.WORD (16 * l + 3) size
        |> setF CMP_LAYER.WORD (16 * l + 10) 0 |> setF CMP_LAYER.WORD (16 * l + 11) size |> showUsage (l / 32)

/-- A head frame boundary of engine `e` is now: a boundary of its plane, or a whole subdivision of the plane frame where its heads run at
2 or 4 times the plane's rate (R139, R220). -/
def headFallsNow (e : Nat) (s : State) : Bool :=
  let x := planeSt (engPlane e s) s
  let n := rateRatio (engRate e s) (planeRate (engPlane e s) s)
  (List.range (n + 1)).any (fun j => atInstant (x.boundary + ceilDiv (j * (x.next - x.boundary)) n) s)

/-- A head frame boundary of engine `e` at `f` (R220): commits, takes on safety outputs, layer frames, the shofar layer, and the
frames sent. -/
def headBoundary (e f : Nat) (s : State) : State :=
  if !getB CMP_ENG_CFG.ENABLED e s || domDown (400 + e) s || !headFallsNow e s then s
  else
    let hs := headsOf e s
    s |> applyCommits e f
      |> forEach hs (fun h s => applySafetyTakes h f s)
      |> forEach ((List.range 32).map (· + 32 * e)) (fun l s => layerPoint l f s)
      |> forEach hs fitBase
      |> forEach hs (fun h s => s |> shofarFrame h f |> sendHead h)

end Sys2Proof.Machine
end

