-- ==== Sys2Proof/Machine/Composition.lean ====
section
/-! DEFINITION. The composition commands and the head frame boundary (R220, R233 to R238). -/

namespace Sys2Proof.Machine

/-! ### CMP_SHADOW and CMP_COMMIT -/

def cmpEngine (raw : List Byte) : Nat := leAt raw 32 1
def cmpCommitFlag (raw : List Byte) : Bool := bit (leAt raw 33 1) 0
def cmpCount (raw : List Byte) : Nat := leAt raw 34 2

def engineOk (e : Nat) (s : State) : Bool := e < 32 && headsOf e s != []

/-- Check 4 of R234. -/
def recordOk (e : Nat) (r : List Nat) (s : State) : Bool :=
  match rWord r 0 / 2 ^ 30 with
  | 1 => inMask layerMask r && (headOf e (rHead r) s).isSome
  | 2 => inMask headMask r && (headsOf e s).contains (rWord r 0 % 128)
  | 3 => inMask labelMask r
  | _ => false

/-- First record that fails checks 4 to 6 of R234: each check over every record before the next check. -/
def shadowCheck (e : Nat) (rs : List (List Nat)) (s : State) : Option (Nat × Nat) :=
  let isLayer (r : List Nat) : Bool := rWord r 0 / 2 ^ 30 == 1
  match rs.findIdx? (fun r => !recordOk e r s) with
  | some k => some (stBadRecord, k)
  | none => match rs.findIdx? (fun r => isLayer r && (baseLayers e s).contains (rLayer r)) with
    | some k => some (stSafetyLayer, k)
    | none => match rs.findIdx? (fun r => isLayer r && (allocClass (rAlloc r) s == clAbsent || clCompRead ≤ allocClass (rAlloc r) s)) with
      | some k => some (stBadSource, k)
      | none => none

def shadowRecords (raw data : List Byte) : List (List Nat) := (List.range (cmpCount raw)).map (recordAt data)

def writeShadows (raw data : List Byte) (s : State) : State := forEach (shadowRecords raw data) (writeShadow (cmpEngine raw)) s

/-- Head frame boundaries of the engine. -/
def headPoints (e : Nat) (s : State) : Nat × Nat := ((planeSt (engPlane e s) s).boundary, framePeriod (engRate e s))

def addCommit (e uid : Nat) (due : Due) (s : State) : State :=
  setCmp (fun c => { c with pend := c.pend ++ [{ uid := uid, engine := e, copy := takeCopy e s, due := due }] }) s

/-- A refused commit of engine `e` (R235). -/
def noteRefused (e : Nat) (s : State) : State :=
  s |> bump32 CMP_ENG_REFUSE_CNT.COUNT CMP_ENG_EVT.REFUSE_OVF e |> raise [CMP_ENG_EVT.REFUSED] e

/-- Apply an accepted CMP_SHADOW: its records go into the shadows, and with COMMIT set a commit is pending. -/
def shadowApply (raw data : List Byte) (uid : Nat) (due : Due) (s : State) : State :=
  let s := writeShadows raw data s
  if cmpCommitFlag raw then addCommit (cmpEngine raw) uid due s else memberEnd uid s

def shadowBody (r : Nat) (raw : List Byte) (list : Option (List Byte)) (entry : Nat) (s : State) : State :=
  let e := cmpEngine raw
  if !engineOk e s then refuse r entry raw stBadEngine 0 0 s
  else if cmpCount raw = 0 || 256 < cmpCount raw then refuse r entry raw stCount 0 0 s
  else match list with
    | none => refuse r entry raw stListFault 0 0 s
    | some data =>
      if eList raw % 32 != 0 || data.length < 32 * cmpCount raw then refuse r entry raw stListFault 0 0 s
      else match shadowCheck e (shadowRecords raw data) s with
        | some (st, k) => refuse r entry raw st k 0 s
        | none =>
          let data := data.take (32 * cmpCount raw)
          if !cmpCommitFlag raw then acceptTimed r entry raw data 1 [] (shadowApply raw data) s
          else
            let w := writeShadows raw data s
            match commitCheck e (takeCopy e w) w with
            | some (st, d0, d1) => w |> noteRefused e |> refuse r entry raw st d0 d1
            | none => acceptTimed r entry raw data 1 [headPoints e s] (shadowApply raw data) s

/-- Apply an accepted CMP_COMMIT. -/
def commitApply (raw : List Byte) (uid : Nat) (due : Due) (s : State) : State := addCommit (cmpEngine raw) uid due s

def commitBody (r : Nat) (raw : List Byte) (entry : Nat) (s : State) : State :=
  let e := cmpEngine raw
  if !engineOk e s then refuse r entry raw stBadEngine 0 0 s
  else match commitCheck e (takeCopy e s) s with
    | some (st, d0, d1) => s |> noteRefused e |> refuse r entry raw st d0 d1
    | none => acceptTimed r entry raw [] 1 [headPoints e s] (commitApply raw) s

def cmpCounters : List Fld :=
  [CMP_ENG_COMMIT_CNT.COUNT, CMP_ENG_REFUSE_CNT.COUNT, CMP_ENG_EVT.COMMIT_OVF, CMP_ENG_EVT.REFUSE_OVF, CMP_LAYER_NOT_READY_CNT.COUNT,
   CMP_LAYER_FB_CNT.COUNT, CMP_LAYER_EVT.FB_OVF, CMP_LAYER_EVT.NOT_READY_OVF]

/-! ### Meanings -/

/-- HEAD_FRAME_BOUNDARY of engine `e` -/
def execHeadFrameBoundary (t e : Nat) (bad : List Nat) (s : State) : Host.Outcome State Fault Refusal :=
  .next (onService t (fun s => headBoundary e s.now (setPst (fun p => { p with failing := bad }) s)) s)

/-- CMP_SHADOW -/
def execCmpShadow (t r : Nat) (raw : List Byte) (list : Option (List Byte)) (s : State) : Host.Outcome State Fault Refusal :=
  .next (ringCmd 0x20 r raw t (shadowBody r raw list) s)

/-- CMP_COMMIT -/
def execCmpCommit (t r : Nat) (raw : List Byte) (s : State) : Host.Outcome State Fault Refusal :=
  .next (ringCmd 0x21 r raw t (commitBody r raw) s)

/-- CMP_CLR_CNT -/
def execCmpClrCnt (s : State) : Host.Outcome State Fault Refusal := .next (whenHost (clearFlds cmpCounters) s)

end Sys2Proof.Machine
end

