-- ==== Sys2Proof/Machine/LaneTrain.lean ====
section
/-! DEFINITION. Training, power states and loss of lanes: the operations of R59 to R80 and R109 that the lane events share. -/

namespace Sys2Proof.Machine

/-! ### Streams of an input lane (R109, R118, R140, R191) -/

def inSlots (n : Nat) (s : State) : Nat := slotsOf (getF LNI_PAY_CFG.SLOT_MODE n s)

/-- The slot carries no stream: NOSIG, and its writers are in loss (R140, R191). -/
def slotLoss (i : Nat) (s : State) : State := if inWin i s = wNoSig then s else s |> enterWin i wNoSig |> inputWriterLoss i

/-- The slot carries a stream again: NOFMT without a declared format; with the format it kept, GUARD, or OFFPLANE where that
format is not of its plane (R140, R141). -/
def slotGain (i : Nat) (s : State) : State :=
  if inWin i s != wNoSig then s
  else if inFmt i s = 0 then enterWin i wNoFmt s
  else s |> enterWin i (if belongs (inFmt i s) (getF XPT_IN_CFG.PLANE i s) s then wGuard else wOffPlane)

/-- The lane has lost valid blocks (R109); a further cause ends a run of valid blocks that would have ended the loss. -/
def payLoss (n : Nat) (s : State) : State :=
  if isTwinLane n then s
  else if getB LNI_PAY_STATUS.PAY_LOSS n s then setIn n (fun l => { l with validRun := 0 }) s
  else
    let s := s |> setF LNI_PAY_STATUS.PAY_LOSS n 1 |> raise [LNI_PAY_EVT.PAY_LOSS] n
               |> bump32 LNI_PAY_LOSS_CNT.COUNT LNI_PAY_FLAGS.PAY_LOSS_OVF n |> setIn n (fun l => { l with invalidRun := 0, validRun := 0 })
    forEach (List.range (inSlots n s)) (fun k s => slotLoss (8 * n + k) s) s

/-- Valid blocks are restored (R109): slots whose cadence shows a stream carry it again. -/
def payRestore (n : Nat) (s : State) : State :=
  let s := s |> setF LNI_PAY_STATUS.PAY_LOSS n 0 |> raise [LNI_PAY_EVT.PAY_RESTORE] n
  forEach (List.range (inSlots n s)) (fun k s => if bit (getF (cadFld k) n s) 4 then slotGain (8 * n + k) s else s) s

/-! ### Leaving ACTIVE (R62, R91, R109, R505) -/

/-- The input lane leaves ACTIVE; `ordered` when a host order puts it in IDLE. -/
def leaveIn (n : Nat) (ordered : Bool) (s : State) : State :=
  if inState n s = stActive then
    let s := if ordered then s else raiseLane [LNI_EVT.DOWN] n s
    s |> setF LNI_STATUS.ALIGNED n 0 |> setIn n (fun l => { l with fresh := true, noRef := true, searching := false, missed := 0, seenPos := [] }) |> payLoss n
  else s

/-- Assigned output lanes. -/
def assignedOut (s : State) : Nat := 16 * (indicesWhere LNO_GRP_CFG.ENABLED (· == 1) s).length

/-- Output lane `n` has left ACTIVE: more than 1/16 of the assigned output lanes within 100 ms is a self-diagnosis failure
(R505). -/
def noteDrop (n : Nat) (s : State) : State :=
  if isTwinLane n then s
  else
    let ds := (n, s.now) :: s.twin.laneDrops.filter (fun d => d.1 != n && s.now < d.2 + 100 * msUnit)
    let s := setTwin (fun w => { w with laneDrops := ds }) s
    if assignedOut s < 16 * ds.length then setDiag diagLanes s else s

def leaveOut (n : Nat) (ordered : Bool) (s : State) : State :=
  if outState n s = stActive then
    let s := if ordered then s else raiseLane [LNO_EVT.DOWN] n s
    noteDrop n s
  else s

/-- Put a lane in a state. -/
def enterIn (n st : Nat) (s : State) : State := s |> leaveIn n false |> setF LNI_STATUS.STATE n st
def enterOut (n st : Nat) (s : State) : State := s |> leaveOut n false |> setF LNO_STATUS.STATE n st

/-! ### Pairs (R53, R55, R67) -/

def oneWay (d : Dir) (n : Nat) (s : State) : Bool :=
  !isTwinLane n && (match d with | .inp => getB LNI_GRP_CFG.ONE_WAY (groupOf n) s | .out => getB LNO_GRP_CFG.ONE_WAY (groupOf n) s)

def laneState (d : Dir) (n : Nat) (s : State) : Nat := match d with | .inp => inState n s | .out => outState n s
def laneAssigned (d : Dir) (n : Nat) (s : State) : Bool := match d with | .inp => inAssigned n s | .out => outAssigned n s
def lanePhase (d : Dir) (n : Nat) (s : State) : Phase := match d with | .inp => (inLane n s).phase | .out => (outLane n s).phase
def restsNoPartner (d : Dir) (n : Nat) (s : State) : Bool :=
  match d with | .inp => (inLane n s).noPartner | .out => (outLane n s).noPartner

/-- The directions of pair `n` that train as a unit with direction `d`: that one alone one-way; otherwise both, but for a lane
that rests in DEEP (R53, R67; log entry 21). -/
def pairDirs (d : Dir) (n : Nat) (s : State) : List Dir :=
  if oneWay d n s then [d].filter (fun e => laneAssigned e n s)
  else [Dir.inp, Dir.out].filter (fun e => laneAssigned e n s && (e == d || laneState e n s != stDeep))

/-- The phase shown in STATE, unless a probe runs (R69). -/
def phaseState : Phase → Nat
  | .none => stLock
  | .lock => stLock
  | .align => stAlign
  | .eq => stEq
  | .confirm => stConfirm
  | .ready => stConfirm

def setPhase (d : Dir) (n : Nat) (ph : Phase) (s : State) : State :=
  match d with
  | .inp =>
    let s := setIn n (fun l => { l with phase := ph, ready := 0 }) s
    if (inLane n s).noPartner then s else setF LNI_STATUS.STATE n (phaseState ph) s
  | .out =>
    let s := setOut n (fun l => { l with phase := ph, phaseAt := s.now }) s
    (if (outLane n s).noPartner then s else setF LNO_STATUS.STATE n (phaseState ph) s) |> sendSets n

/-- Directions of the pair in an attempt. -/
def inAttempt (d : Dir) (n : Nat) (s : State) : Bool := lanePhase d n s != .none && laneState d n s != stFast

/-- An attempt begins at TRAIN_LOCK; a probe shows PROBE (R65, R69). -/
def startAttempt (d : Dir) (n : Nat) (s : State) : State :=
  match d with
  | .inp =>
    let st := if (inLane n s).noPartner then stProbe else stLock
    s |> takeClock n |> enterIn n st |> setF LNI_STATUS.CDR_LOCK n 0 |> setF LNI_STATUS.ALIGNED n 0 |> setF LNI_STATUS.ONE_WAY_ACT n (b2n (oneWay .inp n s))
      |> setIn n (fun l => { l with phase := .lock, sets := 0, ready := 0, startAt := s.now, probeAt := if l.noPartner then s.now else l.probeAt })
  | .out =>
    let st := if (outLane n s).noPartner then stProbe else stLock
    s |> takeClock n |> enterOut n st |> setF LNO_STATUS.ONE_WAY_ACT n (b2n (oneWay .out n s))
      |> setOut n (fun l => { l with phase := .lock, startAt := s.now, phaseAt := s.now, probeAt := if l.noPartner then s.now else l.probeAt })
      |> sendSets n

/-- LINK_FWD: the twin link runs in forwarded-clock mode (R72). -/
def showLinkFwd (s : State) : State :=
  let ns := (List.range 8).map (· + twinLane0)
  setB TWN_STATUS.LINK_FWD 0 (ns.any (fun n => getB LNI_STATUS.CLK_FWD n s || getB LNO_STATUS.CLK_FWD n s)) s

/-- A new series on a lane, from attempt 1; one of the twin link begins in common-reference mode (R72). -/
def startSeriesOn (d : Dir) (n : Nat) (s : State) : State :=
  match d with
  | .inp =>
    let s := if isTwinLane n then s |> setF LNI_STATUS.CLK_FWD n 0 |> showLinkFwd else s
    s |> leaveIn n false |> seriesIn n |> setIn n (fun l => { l with idleByLoss := false }) |> startAttempt .inp n
  | .out =>
    let s := if isTwinLane n then s |> setF LNO_STATUS.CLK_FWD n 0 |> showLinkFwd else s
    s |> leaveOut n false |> seriesOut n |> startAttempt .out n

/-- A new series on the pair of direction `d`. -/
def startSeries (d : Dir) (n : Nat) (s : State) : State := forEach (pairDirs d n s) (fun e s => startSeriesOn e n s) s

/-- A fast retrain with the retained equaliser on one lane (R79): its 4.0 ms run from the exit request of a lane that wakes. The
transmitter sends FAST TA sets. -/
def fastOn (d : Dir) (n : Nat) (s : State) : State :=
  match d with
  | .inp => s |> setIn n (fun l => { l with startAt := if inState n s = stWake then l.startAt else s.now }) |> enterIn n stFast |> setF LNI_STATUS.CDR_LOCK n 0 |> setF LNI_STATUS.ALIGNED n 0
              |> setIn n (fun l => { l with phase := .none, sets := 0, ready := 0, idleByLoss := false })
  | .out => s |> setOut n (fun l => { l with startAt := if outState n s = stWake then l.startAt else s.now }) |> enterOut n stFast
              |> setOut n (fun l => { l with phase := .lock }) |> sendSets n

/-- A lock loss: counted, LOCK_LOSS set, and a fast retrain on both lanes of the pair (R62, R76). -/
def lockLoss (n : Nat) (s : State) : State :=
  let s := if isTwinLane n then s else bump32 LNI_LOCK_LOSS_CNT.COUNT LNI_CNT_FLAGS.LOCK_LOSS_OVF n s
  let s := raiseLane [LNI_EVT.LOCK_LOSS] n s
  forEach (pairDirs .inp n s) (fun e s => fastOn e n s) s

/-- Training is complete: the receiver waits for its first block, the transmitter for the next block-phase boundary (R60, R66). -/
def laneReady (d : Dir) (n : Nat) (s : State) : State :=
  match d with
  | .inp => setIn n (fun l => { l with phase := .ready }) s
  | .out => s |> setOut n (fun l => { l with phase := .ready, phaseAt := s.now }) |> sendSets n

/-- A receiver becomes ACTIVE (R66); an IDLE order given meanwhile takes effect (R80). -/
def inActive (n : Nat) (s : State) : State :=
  let s := s |> setF LNI_STATUS.STATE n stActive |> setF LNI_STATUS.ATTEMPT n 0 |> setF LNI_STATUS.ALIGNED n 1 |> setF LNI_STATUS.CDR_LOCK n 1
    |> setIn n (fun l => { l with phase := .none, sets := 0, ready := 0, wasActive := true, noPartner := false, idleByLoss := false,
                                  fresh := true, noRef := true, searching := false, missed := 0, seenPos := [] })
    |> raiseLane [LNI_EVT.UP] n
  if getF LNI_CTL.TARGET_STATE n s = 1 then s |> leaveIn n true |> setF LNI_STATUS.STATE n stIdle else s

/-- The equaliser takes new settings: its CTLE setting and its ten taps are free values (R73). -/
def newEqualiser (n : Nat) (s : State) : State :=
  let s := s |> setF LNI_EQ.CTLE n (freeBits 4 s) |> drawn
  let s := s |> setF LNI_EQ.DFE1 n (freeBits 8 s) |> drawn
  let w := freeBits 72 s
  s |> setIn n (fun l => { l with dfe := (List.range 9).map (fun k => bits w (8 * k) 8) }) |> drawn

/-! ### Failure (R59, R68, R69, R72) -/

def failNoSignal : Nat := 1
def failNoLock : Nat := 2
def failNoComma : Nat := 3
def failNoEq : Nat := 4
def failNoReady : Nat := 5
def failMiswire : Nat := 6
def failModeMismatch : Nat := 7
def failSignalLost : Nat := 8
def failFast : Nat := 9

/-- Length of the back-off after attempt `a` (R68). -/
def backoffOf (a : Nat) : Nat := 10 * 2 ^ (a - 1) * msUnit

def clkFwd (n : Nat) (s : State) : Bool := getB LNI_STATUS.CLK_FWD n s

/-- After the third failed attempt of the twin link in common-reference mode, the rest of the series runs in forwarded-clock
mode (R72). -/
def twinFallback (d : Dir) (n a : Nat) (s : State) : State :=
  if isTwinLane n && a = 3 then (match d with | .inp => setF LNI_STATUS.CLK_FWD n 1 s | .out => setF LNO_STATUS.CLK_FWD n 1 s) |> showLinkFwd else s

/-- The attempt, or probe, in progress on a lane fails. -/
def failOn (why : Nat) (d : Dir) (n : Nat) (s : State) : State :=
  match d with
  | .inp =>
    let a := getF LNI_STATUS.ATTEMPT n s
    let s := setF LNI_STATUS.LAST_FAIL n why s
    if (inLane n s).noPartner then
      let s := if isTwinLane n then s else bump32 LNI_PROBE_CNT.COUNT LNI_CNT_FLAGS.PROBE_OVF n s
      s |> setF LNI_STATUS.STATE n stNoPartner |> setIn n (fun l => { l with phase := .none })
    else
      let s := if isTwinLane n then s else bump32 LNI_TRAIN_FAIL_CNT.COUNT LNI_CNT_FLAGS.TRAIN_FAIL_OVF n s
      if 9 ≤ a then
        s |> setF LNI_STATUS.STATE n stNoPartner |> setIn n (fun l => { l with phase := .none, noPartner := true, fails := l.fails + 1, probeAt := s.now })
          |> raiseLane [LNI_EVT.NO_PARTNER] n
      else
        s |> setF LNI_STATUS.STATE n stBackoff |> setIn n (fun l => { l with phase := .none, fails := l.fails + 1, backoffEnd := s.now + backoffOf a })
          |> twinFallback .inp n a
  | .out =>
    let a := getF LNO_STATUS.ATTEMPT n s
    let s := setF LNO_STATUS.LAST_FAIL n why s
    if (outLane n s).noPartner then
      let s := if isTwinLane n then s else bump32 LNO_PROBE_CNT.COUNT LNO_CNT_FLAGS.PROBE_OVF n s
      s |> setF LNO_STATUS.STATE n stNoPartner |> setOut n (fun l => { l with phase := .none }) |> sendSets n
    else
      let s := if isTwinLane n then s else bump32 LNO_TRAIN_FAIL_CNT.COUNT LNO_CNT_FLAGS.TRAIN_FAIL_OVF n s
      if 9 ≤ a then
        s |> setF LNO_STATUS.STATE n stNoPartner |> setOut n (fun l => { l with phase := .none, noPartner := true, fails := l.fails + 1, probeAt := s.now })
          |> sendSets n |> raiseLane [LNO_EVT.NO_PARTNER] n
      else
        s |> setF LNO_STATUS.STATE n stBackoff |> setOut n (fun l => { l with phase := .none, fails := l.fails + 1, backoffEnd := s.now + backoffOf a })
          |> twinFallback .out n a |> sendSets n

def groupLanes (g : Nat) : List Nat := (List.range 16).map (· + 16 * g)

/-- The fall-back condition of a group in AUTO (R59). -/
def autoFalls (g : Nat) (s : State) : Bool :=
  let sig (n : Nat) := getB LNI_STATUS.SIGDET n s
  getF LNI_GRP_CFG.CLK_MODE g s == 2 && getF LNI_GRP_CFG.CLK_MODE_ACT g s == 0 && getB LNI_GRP_CFG.FC_ACTIVE g s
    && (groupLanes g).all (fun n => !(inLane n s).wasActive && !(outLane n s).wasActive)
    && (groupLanes g).all (fun n => !sig n || 3 ≤ (inLane n s).fails)

/-- An AUTO group that meets the condition switches to forwarded-clock mode and trains anew (R59). -/
def autoFallback (g : Nat) (s : State) : State :=
  if 128 ≤ g || !autoFalls g s then s
  else
    let s := s |> setF LNI_GRP_CFG.CLK_MODE_ACT g 1 |> setF LNO_GRP_CFG.CLK_MODE_ACT g 1
               |> setF LNO_GRP_CFG.FC_OUT_ON g (getF LNO_GRP_CFG.ENABLED g s)
    forEach (groupLanes g) (fun n s =>
      let s := if inAssigned n s then s |> raise [LNI_EVT.FALLBACK_FWD] n |> startSeriesOn .inp n else s
      if outAssigned n s then s |> raise [LNO_EVT.FALLBACK_FWD] n |> startSeriesOn .out n else s) s

/-- The attempt in progress on the pair of direction `d` fails for a reason (R68 to R71). -/
def failAttempt (d : Dir) (n why : Nat) (s : State) : State :=
  let ds := (pairDirs d n s).filter (fun e => inAttempt e n s)
  s |> forEach ds (fun e s => failOn why e n s) |> autoFallback (groupOf n)

/-- Reason of an attempt that ran out of time, by its phase (R65, R87). -/
def timeoutReason (d : Dir) (n : Nat) (s : State) : Nat :=
  match lanePhase d n s with
  | .none => failNoLock
  | .lock => if getB LNI_STATUS.SIGDET n s then failNoLock else failNoSignal
  | .align => failNoComma
  | .eq => failNoEq
  | .confirm => failNoReady
  | .ready => failNoReady

end Sys2Proof.Machine
end

