-- ==== Sys2Proof/Machine/Crosspoint.lean ====
section
/-! DEFINITION. The crosspoint's commands and events (R135 to R168, R758): takes and salvos, arm deadlines, switching points,
window exits. -/

namespace Sys2Proof.Machine

/-! ### Takes and salvos -/

/-- Arm a take on its output: it is pending, and a resting lane is woken (R78, R156, R162). -/
def addTake (uid : Nat) (x : TakeOp) (due : Due) (s : State) : State :=
  let p : PendTake := { uid := uid, out := x.out, src := x.src, noPst := bit x.flags 0, noFb := bit x.flags 1,
                        wake := outResting x.lane s, due := due }
  s |> setXpt (fun y => { y with pend := y.pend ++ [p] }) |> setF XPT_OUT_STATE.PEND x.out 1 |> takeWakes x.lane

/-- Apply an accepted take (R156), here or from a mirror. -/
def takeApply (raw : List Byte) (uid : Nat) (due : Due) (s : State) : State := addTake uid (takeOpAt raw 24) due s

def takeBody (r : Nat) (raw : List Byte) (entry : Nat) (s : State) : State :=
  match takeCheck (takeOpAt raw 24) s with
  | some st => refuse r entry raw st 0 0 s
  | none => acceptTimed r entry raw [] 1 [takePoints (takeOpAt raw 24).out s] (takeApply raw) s

/-- Elements of a salvo list, each with the salvo's flags (R159). -/
def salvoOps (raw data : List Byte) : List TakeOp :=
  (List.range (leAt raw 32 4)).map (fun k => let x := takeOpAt data (8 * k); { x with flags := x.flags ||| leAt raw 36 1 })

/-- First element that fails a check, and its status (R159). -/
def salvoCheck : Nat → List Nat → List TakeOp → State → Option (Nat × Nat)
  | _, _, [], _ => none
  | k, seen, x :: xs, s =>
    match takeCheck x s with
    | some st => some (st, k)
    | none => if seen.contains x.out then some (stDuplicate, k) else salvoCheck (k + 1) (x.out :: seen) xs s

def salvoApply (raw data : List Byte) (uid : Nat) (due : Due) (s : State) : State :=
  forEach (salvoOps raw data) (fun x s => addTake uid x due s) s

def salvoBody (r : Nat) (raw : List Byte) (list : Option (List Byte)) (entry : Nat) (s : State) : State :=
  let n := leAt raw 32 4
  if n = 0 || 16384 < n then refuse r entry raw stCount 0 0 s
  else match list with
    | none => refuse r entry raw stListFault 0 0 s
    | some data =>
      if eList raw % 8 != 0 || data.length < 8 * n then refuse r entry raw stListFault 0 0 s
      else
        let xs := salvoOps raw data
        match salvoCheck 0 [] xs s with
        | some (st, k) => refuse r entry raw st k 0 s
        | none => acceptTimed r entry raw (data.take (8 * n)) n (xs.map (fun x => takePoints x.out s)) (salvoApply raw data) s

/-! ### Arm deadlines (R47, R151) -/

/-- What the arm deadline of the point at module time `x` gives the takes due there: their path, and that point (R51, R151). -/
def armTakes (o x : Nat) (s : State) : State :=
  let n := countAt (outPlane o s) x s
  let after := ((x : Int) - boundaryOf (outPlane o s) n s).toNat
  setXpt (fun y => { y with pend := y.pend.map (fun p =>
    if p.out = o && p.armed.isNone && p.due.reached x s then
      { p with armed := some { mode := (choosePath o p.src p.noFb s).1, count := n, after := after } }
    else p) }) s

/-- MODE that `o` will have from its next point, when something is due there. -/
def armedMode (o x : Nat) (s : State) : Option Nat :=
  match (dueTakes o x s).getLast? with
  | some p => p.armed.map (·.mode)
  | none =>
    match (xout o s).move with
    | some (m, nb) => if nb ≤ x then some m else none
    | none => match (xout o s).repath with
      | some nb => if nb ≤ x then some (choosePath o (outSrc o s) (xout o s).noFb s).1 else none
      | none => none

/-- The arm deadline of output `o`: takes due at its point choose their path, those whose mirrors HEEL has not acknowledged will
complete with SOLO, and LEAD sends its choice (R47, R509). -/
def armAt (o : Nat) (s : State) : State :=
  let x := s.now + armLead
  if !pointAt (takePoints o s) x then s
  else
  let s := armTakes o x s
  let s := forEach (dueTakes o x s) (fun p s =>
    modCmd p.uid (fun c => { c with solo := c.solo || (c.mirrored && c.acked.isNone) }) s) s
  match armedMode o x s with
  | some m => if role s = roleLead then sendTwin (.decision (.path o m (toLocal x s))) s else s
  | none => s

/-! ### Switching points -/

/-- A switching point of output `o`: the takes armed for it are applied, else at the output's own point an automatic move or a new choice
of path, and at the switching line of the source that it waits for the join (R142 to R155). A safety output's takes commit at its head's
frame boundary (R157). -/
def switchAt (o : Nat) (bad : List Nat) (s : State) : State :=
  let s := setPst (fun p => { p with failing := bad }) s
  if !outUsed o s || isSafety o s then s
  else if dueTakes o s.now s != [] then applyTakes o s.now s
  else
    let s := if pointAt (switchPoints o s) s.now then s |> autoMove o s.now |> dropChoice o else s
    if outMode o s = mJoin && (xout o s).repath = none && joinReady o s.now s then joinStream o s else s

/-- A word that the elastic buffer cannot align (R153). -/
def windowExit (i : Nat) (s : State) : State :=
  if inUsed i s && (inWin i s = wIn || inWin i s = wGuard) then enterWin i wOut s else s

/-- No format has been declared by the end of the frame after the disagreeing one: DIRECT outputs enter FREE, and the writers'
format change has failed (R193, R758). -/
def nofmtLate (i : Nat) (s : State) : State :=
  if inUsed i s && inWin i s = wNoFmt then
    s |> forEach ((fedBy i s).filter (fun o => !isSafety o s)) (exitToFree i) |> inputWriterLoss i
  else s

/-- Counters of XPT (R167). -/
def xptCounters : List Fld :=
  [XPT_TAKE_CNT.COUNT, XPT_REFUSE_CNT.COUNT, XPT_CNT_FLAGS.REFUSE_OVF, XPT_CNT_FLAGS.TAKE_WRAP, XPT_IN_EXIT_CNT.COUNT,
   XPT_IN_EVT.EXIT_OVF, XPT_OUT_SWITCH_CNT.COUNT, XPT_OUT_UNSYNC_CNT.COUNT, XPT_OUT_FALLBACK_CNT.COUNT, XPT_OUT_EVT.FALLBACK_OVF,
   XPT_OUT_EVT.UNSYNC_OVF, XPT_OUT_EVT.SWITCH_OVF]

/-! ### Meanings -/

/-- TAKE -/
def execTake (t r : Nat) (raw : List Byte) (s : State) : Host.Outcome State Fault Refusal := .next (ringCmd 0x10 r raw t (takeBody r raw) s)

/-- SALVO -/
def execSalvo (t r : Nat) (raw : List Byte) (list : Option (List Byte)) (s : State) : Host.Outcome State Fault Refusal :=
  .next (ringCmd 0x11 r raw t (salvoBody r raw list) s)

/-- ARM_DEADLINE -/
def execArmDeadline (t o : Nat) (s : State) : Host.Outcome State Fault Refusal := .next (onService t (armAt o) s)

/-- SWITCHING_POINT -/
def execSwitchingPoint (t o : Nat) (bad : List Nat) (s : State) : Host.Outcome State Fault Refusal := .next (onService t (switchAt o bad) s)

/-- WINDOW_EXIT -/
def execWindowExit (t i : Nat) (s : State) : Host.Outcome State Fault Refusal := .next (onService t (windowExit i) s)

/-- NOFMT_TIMEOUT -/
def execNofmtTimeout (t i : Nat) (s : State) : Host.Outcome State Fault Refusal := .next (onService t (nofmtLate i) s)

/-- XPT_CLR_CNT -/
def execXptClrCnt (s : State) : Host.Outcome State Fault Refusal := .next (whenHost (clearFlds xptCounters) s)

end Sys2Proof.Machine
end

