-- ==== Sys2Proof/Machine/Kennel.lean ====
section
/-! DEFINITION. Input frames, the measurements of inputs, and the kennel's commands and events (R138 to R141, R186 to R201). -/

namespace Sys2Proof.Machine

/-! ### The line tracker (R138, R141) -/

/-- The phase error folded into minus half to plus half of one frame (R138). -/
def foldPhase (e : Int) (period : Nat) : Int :=
  let p : Int := max 1 (period / nsUnit)
  let r := e % p
  if p < 2 * r then r - p else r

/-- The frame's structure agrees with its own payload identifier, or it carries none. -/
def frameOwn (fr : FrameIn) : Bool := fr.vpid.isNone || fr.vpidFmt == fr.fmt

def frameAgrees (fr : FrameIn) (f : Nat) : Bool := fr.fmt == f && frameOwn fr

/-- A writer whose input has a declared format writes, unless it already does or cannot. -/
def ensureWriting (a f : Nat) (s : State) : State :=
  if (alloc a s).writing || frozen a s || (getB KNL_ALLOC_STATUS.SIZE a s && !fits a f s) then s else writerStart a f s

/-- Phase of a frame of the declared format: from the input's plane, as it stands, to the arrival of the frame's first word (R138, R144). -/
def judgeFrame (i : Nat) (fr : FrameIn) (s : State) : State :=
  let e := ((fr.start : Int) - (planeSt (getF XPT_IN_CFG.PLANE i s) s).boundary) / nsUnit
  judgeWin i (foldPhase e (framePeriod (fmtRate (inFmt i s)))) s

/-- What the words of a frame give of it: the samples of its picture, and its payload identifier (R201). -/
structure FrameData where
  picture : List Word10
  vpid : Option Nat
  deriving DecidableEq, Repr

def frameData (fr : FrameIn) (ws : List Word10) : FrameData :=
  { picture := fr.picture.flatMap (fun r => runWords r ws),
    vpid := fr.vpid.map (fun r => (runWords r ws).foldl (fun n w => 256 * n + w.toNat % 256) 0) }

/-- A complete frame of an input slot: it agrees with the declared format, ends it, declares the next, or leaves none declared
(R141, R193). A candidate stands through NOSIG (log entry 91). -/
def trackFrame (i t : Nat) (fr : FrameIn) (x : FrameData) (s : State) : State :=
  let d := inFmt i s
  let old := xin i s
  let as := allocsOf i s
  let cand := if fmtValid fr.fmt && frameOwn fr then some fr.fmt else none
  let s := setXIn i (fun y => { y with lastEnd := t }) s
  if d != 0 then
    if frameAgrees fr d then
      s |> judgeFrame i fr |> forEach as (fun a s => s |> writerFrameEnd a t x.picture x.vpid |> ensureWriting a d)
    else
      s |> setInFmt i 0 |> enterWin i wNoFmt
        |> setXIn i (fun y => { y with cand := cand, ended := true, sinceEnd := 0 })
        |> forEach as (fun a s => s |> stopWriting a |> setAlloc a (fun y => { y with lastEnd := t, changing := true }))
  else if old.cand.isSome && old.cand == cand then
    s |> setInFmt i fr.fmt |> judgeFrame i fr
      |> setXIn i (fun y => { y with ended := false, cand := none })
      |> forEach as (fun a s => s |> setAlloc a (fun y => { y with lastEnd := t }) |> writerStart a fr.fmt)
  else
    let s := if old.ended && old.sinceEnd = 0 then forEach as (fun a s => if (alloc a s).changing then writerLoss a s else s) s else s
    s |> setXIn i (fun y => { y with cand := cand, sinceEnd := y.sinceEnd + 1 })
      |> forEach as (fun a s => setAlloc a (fun y => { y with lastEnd := t }) s)

/-! ### Measurement (R201) -/

def meas (i : Nat) (s : State) : Meas := mget {} s.xpt.meas i

/-- Luma samples: every second word of the picture. -/
def lumaOf : List Word10 → List Nat
  | _ :: y :: ws => y.toNat :: lumaOf ws
  | _ => []

/-- Every fourth sample of every fourth line. -/
def subsample (width : Nat) (ys : List Nat) : List Nat :=
  ((List.range ys.length).zip ys).filterMap (fun p => if p.1 / width % 4 = 0 ∧ p.1 % width % 4 = 0 then some p.2 else none)

/-- At most BLACK_FRAC/1024 of the luma samples lie above BLACK_LEVEL. -/
def isBlack (ys : List Nat) (s : State) : Bool :=
  (ys.filter (fun y => getF KNL_MEAS_CFG0.BLACK_LEVEL 0 s < y)).length * 1024 ≤ getF KNL_MEAS_CFG0.BLACK_FRAC 0 s * ys.length

def absDiff (a b : Nat) : Nat := (a - b) + (b - a)

/-- The mean absolute difference from the last frame is at most FREEZE_THR/16. -/
def isFrozen (old new : List Nat) (s : State) : Bool :=
  old.length == new.length && new != []
    && ((old.zip new).foldl (fun n p => n + absDiff p.1 p.2) 0) * 16 ≤ getF KNL_MEAS_CFG1.FREEZE_THR 0 s * new.length

/-- Since when a condition has held, or failed, in every frame. -/
def holdSince (c : Bool) (t : Nat) (old : Option Nat) : Option Nat := if c then (match old with | some x => some x | none => some t) else none

/-- The payload identifier of a frame (R201). -/
def measureVpid (i : Nat) (fr : FrameIn) (vpid : Option Nat) (s : State) : State :=
  match vpid with
  | none =>
    let n := (meas i s).noVpid + 1
    let s := setMeas i (fun m => { m with noVpid := n }) s
    if 2 ≤ n then setF KNL_MEAS_STATUS.VPID_PRESENT i 0 s else s
  | some v =>
    let b (k : Nat) := v / 256 ^ k % 256
    let same := getF KNL_MEAS_VPID.BYTE1 i s == b 3 && getF KNL_MEAS_VPID.BYTE2 i s == b 2 && getF KNL_MEAS_VPID.BYTE3 i s == b 1
                  && getF KNL_MEAS_VPID.BYTE4 i s == b 0
    let s := if same then s else raise [KNL_MEAS_EVT.VPID_CHANGE] i s
    let s := s |> setF KNL_MEAS_VPID.BYTE1 i (b 3) |> setF KNL_MEAS_VPID.BYTE2 i (b 2) |> setF KNL_MEAS_VPID.BYTE3 i (b 1)
               |> setF KNL_MEAS_VPID.BYTE4 i (b 0) |> setF KNL_MEAS_STATUS.VPID_PRESENT i 1
    let s := setMeas i (fun m => { m with noVpid := 0, disagree := if fr.vpidFmt = fr.fmt then 0 else m.disagree + 1,
                                          agree := if fr.vpidFmt = fr.fmt then m.agree + 1 else 0 }) s
    let s := if 2 ≤ (meas i s).disagree then setF KNL_MEAS_STATUS.VPID_MISMATCH i 1 s else s
    if 2 ≤ (meas i s).agree then setF KNL_MEAS_STATUS.VPID_MISMATCH i 0 s else s

/-- Line CRCs of a frame. -/
def measureCrc (i : Nat) (fr : FrameIn) (s : State) : State :=
  if fr.badLines = 0 then s
  else s |> bump32By KNL_MEAS_CRC_LINES.COUNT KNL_MEAS_EVT.CRC_OVF i fr.badLines
         |> bump32 KNL_MEAS_ERR_FRAMES.COUNT KNL_MEAS_EVT.ERRF_OVF i

/-- Black and freeze of a frame; not measured while LOSS is set. -/
def measurePicture (i t : Nat) (fr : FrameIn) (picture : List Word10) (s : State) : State :=
  if getB KNL_MEAS_STATUS.LOSS i s then s
  else
    let ys := lumaOf picture
    let sub := subsample (fmtWidth fr.fmt) ys
    let b := isBlack ys s
    let f := isFrozen (meas i s).luma sub s
    setMeas i (fun m => { m with blackSince := holdSince b t m.blackSince, blackClear := holdSince (!b) t m.blackClear,
                                 freezeSince := holdSince f t m.freezeSince, freezeClear := holdSince (!f) t m.freezeClear, luma := sub }) s

/-- LOSS ends when the tracker has a declared format at a frame's end. -/
def measureLossEnd (i : Nat) (s : State) : State := if inFmt i s = 0 then s else setF KNL_MEAS_STATUS.LOSS i 0 s

def measureFrame (i t : Nat) (fr : FrameIn) (x : FrameData) (s : State) : State :=
  s |> measureVpid i fr x.vpid |> measureCrc i fr |> measurePicture i t fr x.picture |> measureLossEnd i

/-- A frame of input slot `i` has ended: its words are taken, and those that have arrived since begin the next. -/
def endFrame (i : Nat) (fr : FrameIn) (s : State) : List Word10 × State :=
  let ws := (xin i s).seen
  let k := ws.length - fr.back
  (ws.take k,
   s |> setXIn i (fun x => { x with seen := ws.drop k })
     |> (fun s => { s with lane := { s.lane with rx := mmod {} s.lane.rx i (fun x => { x with frameAt := x.count - (ws.length - k) }) } }))

/-- INPUT_FRAME_END: tracker, writers and measurement; a freeze or release due at this frame end commits. -/
def inputFrame (i : Nat) (fr : FrameIn) (s : State) : State :=
  if !inUsed i s || inWin i s = wNoSig then s
  else
    let t := s.now
    let (ws, s) := endFrame i fr s
    let x := frameData fr ws
    s |> trackFrame i t fr x |> measureFrame i t fr x |> audioFrameEnd i
      |> forEach (allocsOf i s) (fun a s => applyFreezes a t (fun s => if fmtValid (inFmt i s) then writerStart a (inFmt i s) s else s) s)

/-- Hold times in units of time: 0 acts as 1 (R206, R207). -/
def holdUnits (n : Nat) : Nat := max 1 n * 100 * msUnit

def elapsed (old : Option Nat) (len t : Nat) : Bool := match old with | some x => x + len ≤ t | none => false

/-- A hold time of R201 has run. -/
def holdEnd (i : Nat) (hold : Hold) (s : State) : State :=
  let m := meas i s
  let t := s.now
  if !inUsed i s then s
  else match hold with
    | .loss =>
      if !getB KNL_MEAS_STATUS.LOSS i s && elapsed m.lossSince (max 1 (getF KNL_MEAS_CFG2.LOSS_MS 0 s) * msUnit) t then
        s |> setF KNL_MEAS_STATUS.LOSS i 1 |> raise [KNL_MEAS_EVT.LOSS] i
          |> setMeas i (fun m => { m with blackSince := none, blackClear := none, freezeSince := none, freezeClear := none, luma := [] })
      else s
    | .black =>
      if !getB KNL_MEAS_STATUS.BLACK i s && elapsed m.blackSince (holdUnits (getF KNL_MEAS_CFG1.BLACK_SET 0 s)) t then
        s |> setF KNL_MEAS_STATUS.BLACK i 1 |> raise [KNL_MEAS_EVT.BLACK] i
      else s
    | .blackClear =>
      if getB KNL_MEAS_STATUS.BLACK i s && elapsed m.blackClear (holdUnits (getF KNL_MEAS_CFG1.CLEAR 0 s)) t then
        setF KNL_MEAS_STATUS.BLACK i 0 s
      else s
    | .freeze =>
      if !getB KNL_MEAS_STATUS.FREEZE i s && elapsed m.freezeSince (holdUnits (getF KNL_MEAS_CFG1.FREEZE_SET 0 s)) t then
        s |> setF KNL_MEAS_STATUS.FREEZE i 1 |> raise [KNL_MEAS_EVT.FREEZE] i
      else s
    | .freezeClear =>
      if getB KNL_MEAS_STATUS.FREEZE i s && elapsed m.freezeClear (holdUnits (getF KNL_MEAS_CFG1.CLEAR 0 s)) t then
        setF KNL_MEAS_STATUS.FREEZE i 0 s
      else s

/-- A receive flow has delivered no packet for one frame period of FMT_MAX (R191). -/
def flowWriterLate (a : Nat) (s : State) : State :=
  if allocClass a s = clFlowRx && (alloc a s).lastPkt + framePeriod (fmtRate (allocFmtMax a s)) ≤ s.now then writerLoss a s else s

/-- Output reference points of a reader: those of the format it sends, else the plane's (R137, R186). -/
def readerPts (a p : Nat) (s : State) : Nat × Nat :=
  let f := (reader a p s).fmt
  ((planeSt p s).boundary + tOut s, framePeriod (if belongs f p s then fmtRate f else planeRate p s))

/-- The transmit contexts of a reader take the frame that it has chosen, a black one included (R191), for the frame that starts at
T - T_out (R137, R409). A VIDEO context skips a frame of another format, and a frame's time without one. -/
def flowsTake (a p : Nat) (s : State) : State :=
  let r := reader a p s
  let skip (c : Nat) (s : State) : State := s |> bump32F FLW_TX_SKIP.COUNT FLW_TX_FLAGS.OVF 0 c 1 |> raise [FLW_TX_EVT.SKIP] c
  forEach (flowReads a p s) (fun c s =>
    let video := getF FLW_TX_CFG.KIND c s == 1
    match r.frame with
    | some k =>
      if video && k.fmt != bits (txWord c 7 s) 24 8 then skip c s
      else
        let f : TxFrame := { frame := k, at_ := s.now - tOut s, words := (List.range 8).map (fun i => txWord c i s) }
        setEth (fun e => { e with tx := mmod {} e.tx c (fun x => { x with queue := x.queue ++ [f] }) }) s
    | none => if video then skip c s else s) s

def readerChoice (a p : Nat) (s : State) : State :=
  if a < 8192 && planeEnabled p s && pointAt (readerPts a p s) s.now then s |> readerPoint a p s.now |> flowsTake a p else s

/-! ### Commands (R196 to R200) -/

/-- The operand's reserved bytes and bits are 0. -/
def knlReserved (op : Nat) (raw : List Byte) : Bool :=
  match op with
  | 0x18 => leAt raw 26 1 < 2 && leAt raw 27 5 == 0
  | 0x19 => leAt raw 29 3 == 0
  | _ => leAt raw 27 5 == 0

def knlAlloc (raw : List Byte) : Nat := leAt raw 24 2
def allocExists (a : Nat) (s : State) : Bool := a < 8192 && allocClass a s != clAbsent

def freezeCheck (raw : List Byte) (s : State) : Option Nat :=
  let a := knlAlloc raw
  if !knlReserved 0x18 raw || !allocExists a s then some stBadAlloc
  else if !written (allocClass a s) then some stClass
  else none

/-- Frame ends of the allocation's writer. -/
def freezePoints (a : Nat) (s : State) : Nat × Nat :=
  let f := if allocClass a s = clFlowRx then (alloc a s).fmt else inFmt (allocWriter a s) s
  ((alloc a s).lastEnd, framePeriod (fmtRate (if fmtValid f then f else allocFmtMax a s)))

def addPendKnl (a : Nat) (p : PendKnl) (s : State) : State := setAlloc a (fun x => { x with pend := x.pend ++ [p] }) s

def freezeApply (raw : List Byte) (uid : Nat) (due : Due) (s : State) : State :=
  addPendKnl (knlAlloc raw) { uid := uid, op := leAt raw 26 1, due := due } s

def freezeBody (r : Nat) (raw : List Byte) (entry : Nat) (s : State) : State :=
  match freezeCheck raw s with
  | some st => refuse r entry raw st 0 0 s
  | none => acceptTimed r entry raw [] 1 [freezePoints (knlAlloc raw) s] (freezeApply raw) s

/-- The newest complete frame of a source. -/
def newestFrame (a : Nat) (s : State) : Option KFrame :=
  if allocClass a s = clStill then stillFrame a (getF KNL_ALLOC_STATUS.SELECT a s) s else (alloc a s).frames.head?

def captureCheck (raw : List Byte) (s : State) : Option Nat :=
  let a := knlAlloc raw
  let b := leAt raw 26 2
  let n := leAt raw 28 1
  if !knlReserved 0x19 raw || !allocExists a s || !allocExists b s then some stBadAlloc
  else if !written (allocClass a s) || allocClass b s != clStill then some stClass
  else if allocSlots b s ≤ n then some stBadIndex
  else if (newestFrame a s).isSome && !fits b (getF KNL_ALLOC_STATUS.FORMAT a s) s then some stFormat
  else if getF KNL_ALLOC_STATUS.SELECT b s = n then some stBusy
  else if (newestFrame a s).isNone then some stNoFrame
  else none

/-- The copy starts from the frame that is newest at acceptance. -/
def captureApply (raw : List Byte) (uid : Nat) (s : State) : State :=
  match newestFrame (knlAlloc raw) s with
  | some k => setAlloc (leAt raw 26 2) (fun x => { x with captures := x.captures ++ [(uid, leAt raw 28 1, k)] }) s
  | none => s

def captureBody (r : Nat) (raw : List Byte) (entry : Nat) (s : State) : State :=
  match captureCheck raw s with
  | some st => refuse r entry raw st 0 0 s
  | none => acceptNow r entry raw [] 1 (captureApply raw) s

/-- The copy of command `uid` ends: the target frame holds the picture, and the command completes (R200). -/
def captureEnd (uid : Nat) (s : State) : State :=
  match s.xpt.allocs.find? (fun p => p.2.captures.any (fun c => c.1 == uid)) with
  | none => s
  | some (b, x) =>
    match x.captures.find? (fun c => c.1 == uid) with
    | none => s
    | some (_, n, k) =>
      s |> setAlloc b (fun y => { y with captures := y.captures.filter (fun c => c.1 != uid), stills := mput {} y.stills n { k with num := n } })
        |> setF KNL_ALLOC_STATUS.VALID b 1 |> setF KNL_ALLOC_STATUS.FORMAT b k.fmt |> memberEnd uid

def selectCheck (raw : List Byte) (s : State) : Option Nat :=
  let a := knlAlloc raw
  if !knlReserved 0x1A raw || !allocExists a s then some stBadAlloc
  else if allocClass a s != clStill then some stClass
  else if allocSlots a s ≤ leAt raw 26 1 then some stBadIndex
  else none

def selectApply (raw : List Byte) (uid : Nat) (due : Due) (s : State) : State :=
  let p : PendKnl := { uid := uid, op := 2, index := leAt raw 26 1, due := due, planes := planesRead s }
  if p.planes = [] then s |> setF KNL_ALLOC_STATUS.SELECT (knlAlloc raw) p.index |> memberEnd uid
  else addPendKnl (knlAlloc raw) p s

/-- Output reference points of the planes whose readers run. -/
def readerPoints (a : Nat) (s : State) : List (Nat × Nat) :=
  (planesRead s).map (fun p => readerPts a p s)

def selectBody (r : Nat) (raw : List Byte) (entry : Nat) (s : State) : State :=
  match selectCheck raw s with
  | some st => refuse r entry raw st 0 0 s
  | none => acceptTimed r entry raw [] 1 (readerPoints (knlAlloc raw) s) (selectApply raw) s

def knlCounters : List Fld :=
  [KNL_ALLOC_DROP_CNT.COUNT, KNL_ALLOC_REPEAT_CNT.COUNT, KNL_ALLOC_ANC_DROP.COUNT, KNL_MEAS_CRC_LINES.COUNT, KNL_MEAS_ERR_FRAMES.COUNT,
   KNL_ALLOC_EVT.ANC_OVF, KNL_ALLOC_EVT.REPEAT_OVF, KNL_ALLOC_EVT.DROP_OVF, KNL_MEAS_EVT.ERRF_OVF, KNL_MEAS_EVT.CRC_OVF]

/-! ### Meanings -/

/-- INPUT_FRAME_END -/
def execInputFrameEnd (t i : Nat) (fr : FrameIn) (s : State) : Host.Outcome State Fault Refusal := .next (onService t (inputFrame i fr) s)

/-- MEASUREMENT_HOLD_EXPIRE -/
def execMeasurementHoldExpire (t i : Nat) (hold : Hold) (s : State) : Host.Outcome State Fault Refusal :=
  .next (onService t (holdEnd i hold) s)

/-- FLOW_WRITER_TIMEOUT -/
def execFlowWriterTimeout (t a : Nat) (s : State) : Host.Outcome State Fault Refusal := .next (onService t (flowWriterLate a) s)

/-- KENNEL_READER_CHOICE -/
def execKennelReaderChoice (t a p : Nat) (s : State) : Host.Outcome State Fault Refusal := .next (onService t (readerChoice a p) s)

/-- FREEZE: the entry's UNFREEZE bit is 0. -/
def execFreeze (t r : Nat) (raw : List Byte) (s : State) : Host.Outcome State Fault Refusal :=
  .next (ringCmdIf (eOpcode raw == 0x18 && !bit (leAt raw 26 1) 0) r raw t (freezeBody r raw) s)

/-- UNFREEZE: the FREEZE command with its UNFREEZE bit set. -/
def execUnfreeze (t r : Nat) (raw : List Byte) (s : State) : Host.Outcome State Fault Refusal :=
  .next (ringCmdIf (eOpcode raw == 0x18 && bit (leAt raw 26 1) 0) r raw t (freezeBody r raw) s)

/-- CAPTURE -/
def execCapture (t r : Nat) (raw : List Byte) (s : State) : Host.Outcome State Fault Refusal :=
  .next (ringCmd 0x19 r raw t (captureBody r raw) s)

/-- CAPTURE_DONE -/
def execCaptureDone (t uid : Nat) (s : State) : Host.Outcome State Fault Refusal := .next (onService t (captureEnd uid) s)

/-- STILL_SELECT -/
def execStillSelect (t r : Nat) (raw : List Byte) (s : State) : Host.Outcome State Fault Refusal :=
  .next (ringCmd 0x1A r raw t (selectBody r raw) s)

/-- KNL_CLR_CNT -/
def execKnlClrCnt (s : State) : Host.Outcome State Fault Refusal := .next (whenHost (clearFlds knlCounters) s)

end Sys2Proof.Machine
end

