-- ==== Sys2Proof/Machine/CmdOps.lean ====
section
/-! DEFINITION. The uncommitted members of accepted commands, whatever their family: when they commit, moving their points, dropping
them, and the re-evaluation of late commands (R459, R545, R557, R580, R609). -/

namespace Sys2Proof.Machine

/-- Bases and periods of the points of the members of command `uid` that have not committed. -/
def memberPoints (uid : Nat) (s : State) : List (Nat × Nat) :=
  (s.xpt.pend.filter (fun p => p.uid == uid)).map (fun p => takePoints p.out s)
    ++ s.xpt.allocs.flatMap (fun a => (a.2.pend.filter (fun p => p.uid == uid)).flatMap (fun p =>
         if p.op = 2 then readerPoints a.1 s else [freezePoints a.1 s]))
    ++ (s.cmp.pend.filter (fun p => p.uid == uid)).map (fun p => headPoints p.engine s)
    ++ (if s.reed.pend.any (fun p => p.uid == uid) || s.aud.pend.any (fun p => p.uid == uid) then [audPoints s] else [])
    ++ (s.eth.recs.filter (fun p => p.uid == uid)).filterMap (fun p => pointOf (recPoint p.words s) s)

/-- Change the points of the members of command `uid`. -/
def moveMembers (uid : Nat) (due : Due) (s : State) : State :=
  s |> modCmd uid (fun c => { c with due := due })
    |> setXpt (fun x => { x with
         pend := x.pend.map (fun p => if p.uid = uid then { p with due := due, armed := none } else p),
         allocs := x.allocs.map (fun a => (a.1, { a.2 with pend := a.2.pend.map (fun p => if p.uid = uid then { p with due := due } else p) })) })
    |> setCmp (fun c => { c with pend := c.pend.map (fun p => if p.uid = uid then { p with due := due } else p) })
    |> setReedS (fun r => { r with pend := r.pend.map (fun p => if p.uid = uid then { p with due := due } else p) })
    |> setAud (fun a => { a with pend := a.pend.map (fun p => if p.uid = uid then { p with due := due } else p) })
    |> setEth (fun e => { e with recs := e.recs.map (fun p => if p.uid = uid then
         { p with due := if recPoint p.words s = .anchor then anchorDue due s.now else due } else p) })

/-- Drop the members of the commands that `q` accepts; outputs' PEND follows. -/
def dropMembers (q : Nat → Bool) (s : State) : State :=
  let outs := (s.xpt.pend.filter (fun p => q p.uid)).map (·.out)
  s |> setXpt (fun x => { x with
         pend := x.pend.filter (fun p => !q p.uid),
         allocs := x.allocs.map (fun a => (a.1, { a.2 with pend := a.2.pend.filter (fun p => !q p.uid),
                                                           captures := a.2.captures.filter (fun p => !q p.1) })) })
    |> setCmp (fun c => { c with pend := c.pend.filter (fun p => !q p.uid) })
    |> setReedS (fun r => { r with pend := r.pend.filter (fun p => !q p.uid) })
    |> setAud (fun a => { a with pend := a.pend.filter (fun p => !q p.uid) })
    |> setEth (fun e => { e with recs := e.recs.filter (fun p => !q p.uid) })
    |> setShf (fun h => { h with pendBundle := h.pendBundle.filter (fun p => !q p.1), pendReq := h.pendReq.filter (fun p => !q p.1) })
    |> forEach outs (fun o s => setB XPT_OUT_STATE.PEND o (pend o s) s)

/-! ### Late re-evaluation (R545) -/

/-- Execute-at points of the timed commands that have not committed, by uid. -/
def execPoints (s : State) : List (Nat × Int) :=
  (s.cmd.opens.filter (fun c => !c.mirror && c.left != 0)).filterMap (fun c => (c.due.execAt s).map (fun x => (c.uid, x)))

/-- LEAD tells HEEL of new points. -/
def tellPoints (c : OpenCmd) (due : Option Due) (s : State) : State :=
  if c.mirrored && role s = roleLead then sendTwin (.decision (.points c.mseq due)) s else s

/-- One command whose execute-at point a step or a realign has put into the past. -/
def relate (uid : Nat) (s : State) : State :=
  match findCmd uid s with
  | none => s
  | some c =>
    if !(memberPoints uid s).any (fun p => c.due.late p.1 p.2 s.now s) then s
    else if c.reject then s |> dropMembers (· == uid) |> tellPoints c none |> failCmd uid stTooLate
    else
      let due := dueUntimed s.now
      s |> moveMembers uid due |> modCmd uid (fun c => { c with late := true }) |> tellPoints c (some due)

/-- After a step of local time or a hard realign: commands whose execute-at point lay ahead before (`old`) and has now passed. -/
def reevaluate (old : List (Nat × Int)) (s : State) : State :=
  let now := execPoints s
  let passed := old.filter (fun o => decide ((s.now : Int) < o.2) && now.any (fun n => n.1 == o.1 && decide (n.2 ≤ (s.now : Int))))
  forEach passed (fun o s => relate o.1 s) s

end Sys2Proof.Machine
end

