-- ==== Sys2Proof/Machine/Shofar.lean ====
section
/-! DEFINITION. The shofar commands and the alarm contacts' events (R246 to R254, R751). -/

namespace Sys2Proof.Machine

/-- The running image's pairing identity, when one runs. -/
def imageRuns (s : State) : Bool := getF SYS_IMG_STATUS.SOURCE 0 s != 0
def pairOk (id : Nat) (s : State) : Bool := id == 0 || (imageRuns s && id == getF TWN_PAIR_ID.ID 0 s)

/-! ### Bundles (R246) -/

def bundleLength (raw : List Byte) : Nat := leAt raw 32 4

def bundleApply (data : List Byte) (uid : Nat) (s : State) : State :=
  setShf (fun f => { f with pendBundle := f.pendBundle ++ [(uid, data)] }) s

def bundleBody (r : Nat) (raw : List Byte) (list : Option (List Byte)) (entry : Nat) (s : State) : State :=
  if bundleLength raw < 0x260 + 96 || 131072 < bundleLength raw then refuse r entry raw stSize 0 0 s
  else match list with
    | none => refuse r entry raw stListFault 0 0 s
    | some data =>
      if data.length < bundleLength raw then refuse r entry raw stListFault 0 0 s
      else acceptNow r entry raw (data.take (bundleLength raw)) 1 (bundleApply (data.take (bundleLength raw))) s

/-- Prinel's checks of a bundle, in order; none when all pass. -/
def bundleCheck (b : List Byte) (s : State) : Option Nat :=
  if !signedBy 9 (b.take (b.length - 96)) (b.drop (b.length - 96)) s then some stAuth
  else if !bundleFormat b then some stFormat
  else if !pairOk (bPair b) s then some stIdentity
  else if bCounter b < s.shf.bcounter then some stRollback
  else if raisedMask s != 0 then some stShofarActive
  else none

/-- The bundle comes into force: it is stored, and the SHF registers show it. Where it reverses ACTIVE of a contact, the state that the
contact's loop gives is a new one, which counts once it has held for 20 ms (R248). -/
def takeBundle (b : List Byte) (s : State) : State :=
  let old := s
  s |> storeBundle b
    |> setShf (fun f => { f with bundle := b, bcounter := bCounter b })
    |> setF SHF_BUNDLE.VALID 0 1 |> setF SHF_BUNDLE.N_MSG_M1 0 (bMsgs b - 1) |> setF SHF_BUNDLE.BCOUNTER_LO 0 (bCounter b)
    |> forEach [0, 1] (fun x s => if closedAlarm x old = closedAlarm x s then s
        else setShf (fun f => { f with cand := f.cand.map (fun p => if p.1 = x then (p.1, p.2.1, s.now) else p) }) s)

/-- A command of Prinel's on HEEL that it refuses is reported as not applied; on LEAD it completes with its status. -/
def prinelRefuses (uid status : Nat) (s : State) : State :=
  match findCmd uid s with
  | none => s
  | some c =>
    if c.mirror then
      s |> setCmd (fun m => { m with opens := m.opens.filter (fun d => d.uid != uid) }) |> sendTwin (.commitRpt c.mseq false)
    else failCmd uid status s

def bundleDone (uid : Nat) (bad : List Nat) (s : State) : State :=
  match s.shf.pendBundle.find? (fun p => p.1 == uid) with
  | none => s
  | some (_, b) =>
    let s := s |> setPst (fun p => { p with failing := bad }) |> setShf (fun f => { f with pendBundle := f.pendBundle.filter (fun p => p.1 != uid) })
    match bundleCheck b s with
    | some st =>
      let s := if st = stAuth then bump32 SHF_AUTH_FAIL_CNT.COUNT SHF_CNT_FLAGS.AUTH_FAIL_OVF 0 s else s
      s |> audit 0x0020 st (leBytes 4 (bCounter b)) |> prinelRefuses uid st
    | none =>
      s |> takeBundle b |> audit 0x0020 0 (leBytes 4 (bCounter b)) |> post 0x0A 0 8 |> judgeContact 0 |> judgeContact 1
        |> memberEnd uid

/-! ### Requests (R252, R253) -/

def reqAction (q : List Byte) : Nat := byteAt q 2
def reqMsg (q : List Byte) : Nat := byteAt q 3
def reqSeq (q : List Byte) : Nat := leAt q 4 8

def reqApply (data : List Byte) (uid : Nat) (s : State) : State := setShf (fun f => { f with pendReq := f.pendReq ++ [(uid, data)] }) s

def reqBody (r : Nat) (raw : List Byte) (list : Option (List Byte)) (entry : Nat) (s : State) : State :=
  match list with
  | none => refuse r entry raw stListFault 0 0 s
  | some data =>
    if data.length < 160 then refuse r entry raw stListFault 0 0 s
    else acceptNow r entry raw (data.take 160) 1 (reqApply (data.take 160)) s

/-- Prinel's checks of a request, in order. -/
def reqCheck (q : List Byte) (s : State) : Option Nat :=
  if leAt q 0 2 != 1 || reqAction q = 0 || 3 < reqAction q || (reqAction q = 3 && reqMsg q != 0) || leAt q 24 40 != 0 then some stFormat
  else if !signedBy 9 (q.take 64) ((q.drop 64).take 96) s then some stAuth
  else if !pairOk (leAt q 12 6) s then some stIdentity
  else if reqSeq q ≤ getF SHF_SEQ.SEQ 0 s then some stReplay
  else if mkTime (leAt q 18 6) 0 < localTime s then some stExpired
  else if !bundleValid s then some stNoBundle
  else if bMsgs s.shf.bundle ≤ reqMsg q then some stBadMessage
  else none

def reqAct (q : List Byte) (s : State) : State :=
  match reqAction q with
  | 1 => addCause (reqMsg q) causeCmd s
  | 2 => lowerMsg (reqMsg q) s
  | _ => forEach ((List.range 16).filter (fun m => bit (raisedMask s) m)) lowerMsg s

def reqArg (q : List Byte) : List Byte := leBytes 1 (reqAction q) ++ leBytes 1 (reqMsg q) ++ leBytes 4 (reqSeq q)

def reqDone (uid : Nat) (bad : List Nat) (s : State) : State :=
  match s.shf.pendReq.find? (fun p => p.1 == uid) with
  | none => s
  | some (_, q) =>
    let s := s |> setPst (fun p => { p with failing := bad }) |> setShf (fun f => { f with pendReq := f.pendReq.filter (fun p => p.1 != uid) })
    match reqCheck q s with
    | some st =>
      let s := if st = stAuth then bump32 SHF_AUTH_FAIL_CNT.COUNT SHF_CNT_FLAGS.AUTH_FAIL_OVF 0 s else s
      s |> audit 0x0021 st (reqArg q) |> prinelRefuses uid st
    | none =>
      s |> storeRow rowShofarState 1 (setF SHF_SEQ.SEQ 0 (reqSeq q)) |> audit 0x0021 0 (reqArg q) |> reqAct q |> memberEnd uid

/-! ### Contacts (R248, R249, R751) -/

def loopClass (ohms : Nat) : Option Nat :=
  if ohms ≤ 4000 then some 0 else if 7000 ≤ ohms && ohms ≤ 20000 then some 1 else if 50000 ≤ ohms then some 2 else none

def listedAt (l : List (Nat × Nat)) (k : Nat) : Option Nat := (l.find? (fun p => p.1 == k)).map (·.2)

/-- A class stands: it is debounced from the moment it changes. -/
def classify (x c : Nat) (s : State) : State :=
  let s := setShf (fun f => { f with loops := minsert x c f.loops }) s
  if (s.shf.cand.find? (fun p => p.1 == x)).any (fun p => p.2.1 == c) then s
  else setShf (fun f => { f with cand := minsert x (c, s.now) f.cand }) s

def loopSample (x ohms : Nat) (s : State) : State :=
  if 2 ≤ x then s
  else match loopClass ohms with
    | some c => s |> setShf (fun f => { f with gaps := mdrop x f.gaps }) |> classify x c
    | none =>
      let s := if (listedAt s.shf.gaps x).isNone then setShf (fun f => { f with gaps := minsert x s.now f.gaps }) s else s
      match listedAt s.shf.loops x with | some c => classify x c s | none => s

def gapTimeout (x : Nat) (s : State) : State :=
  match listedAt s.shf.gaps x with
  | some g => if x < 2 && g + secUnit ≤ s.now then classify x 2 s else s
  | none => s

def debounceNs : Nat := 20 * msUnit

/-- A loop's class has held for 20 ms: the contact state that it gives counts. -/
def debounced (x : Nat) (bad : List Nat) (s : State) : State :=
  match s.shf.cand.find? (fun p => p.1 == x) with
  | some (_, c, since) =>
    if x < 2 && since + debounceNs ≤ s.now then
      s |> setPst (fun p => { p with failing := bad }) |> setShf (fun f => { f with steady := minsert x c f.steady })
        |> setContact x (classState x c s)
    else s
  | none => s

/-- A restore timer has run: 0 and 1 for a contact out of ALARM, 2 and 3 for one out of FAULT. -/
def restoreEnd (k : Nat) (bad : List Nat) (s : State) : State :=
  match restoreAt k s with
  | some t =>
    if s.now < t then s
    else
      let s := s |> setPst (fun p => { p with failing := bad }) |> stopRestore k
      if k < 2 then dropCause (contactMsg k s) (causeContact k) s
      else match contactFaultMsg (k - 2) s with
        | some m => dropCause m (causeFault (k - 2)) s
        | none => s
  | none => s

/-! ### Meanings -/

/-- BUNDLE_LOAD -/
def execBundleLoad (t r : Nat) (raw : List Byte) (list : Option (List Byte)) (s : State) : Host.Outcome State Fault Refusal :=
  .next (ringCmd 0x28 r raw t (bundleBody r raw list) s)

/-- BUNDLE_IN_FORCE: Prinel ends its checks of command `uid`'s bundle -/
def execBundleInForce (t uid : Nat) (bad : List Nat) (s : State) : Host.Outcome State Fault Refusal :=
  .next (onService t (bundleDone uid bad) s)

/-- SHOFAR_REQ -/
def execShofarReq (t r : Nat) (raw : List Byte) (list : Option (List Byte)) (s : State) : Host.Outcome State Fault Refusal :=
  .next (ringCmd 0x29 r raw t (reqBody r raw list) s)

/-- SHOFAR_REQ_CHECKED -/
def execShofarReqChecked (t uid : Nat) (bad : List Nat) (s : State) : Host.Outcome State Fault Refusal :=
  .next (onService t (reqDone uid bad) s)

/-- ALARM_LOOP_SAMPLE: the always-on domain measures contact `x` -/
def execAlarmLoopSample (t x ohms : Nat) (s : State) : Host.Outcome State Fault Refusal :=
  .next (whenPowered (fun s => loopSample x ohms (advance t s)) s)

/-- ALARM_LOOP_GAP_TIMEOUT -/
def execAlarmLoopGapTimeout (t x : Nat) (s : State) : Host.Outcome State Fault Refusal :=
  .next (whenPowered (fun s => gapTimeout x (advance t s)) s)

/-- CONTACT_DEBOUNCE_DONE -/
def execContactDebounceDone (t x : Nat) (bad : List Nat) (s : State) : Host.Outcome State Fault Refusal :=
  .next (whenPowered (fun s => debounced x bad (advance t s)) s)

/-- CONTACT_RESTORE_EXPIRE -/
def execContactRestoreExpire (t k : Nat) (bad : List Nat) (s : State) : Host.Outcome State Fault Refusal :=
  .next (onService t (restoreEnd k bad) s)

end Sys2Proof.Machine
end

