-- ==== Sys2Proof/Machine/ResyncOps.lean ====
section
/-! DEFINITION. Routes applied outside a command (R165), and the state that a resynchronisation carries from LEAD to HEEL: capturing it
and taking it (R254, R333, R514). -/

namespace Sys2Proof.Machine

/-! ### Routes -/

/-- Points that have no acceptance: the first whose arm deadline has not passed (R165, R514). -/
def dueAhead (now : Nat) : Due := { notBefore := now + armLead }

/-- Apply a descriptor to output slot `o` as a take without a tag; `store`: its commit stores the route. One that fails a check of
R156 gives NONE and RESTORE_INVALID, and a safety output keeps its base layer then, as it does for NONE (R165). -/
def restoreTake (store : Bool) (o src : Nat) (s : State) : State :=
  let x : TakeOp := { lane := o / 8, slot := o % 8, src := src, flags := if store then 0 else 1 }
  if isSafety o s && srcKind src = kindNone then s
  else if (takeCheck x s).isNone then addTake 0 x (dueAhead s.now) s
  else
    let s := raise [XPT_OUT_EVT.RESTORE_INVALID] o s
    if isSafety o s then s else addTake 0 { x with src := 0, flags := 1 } (dueAhead s.now) s

/-! ### Capturing (R514) -/

/-- The listed instances of a field, with their values. -/
def listedOf (f : Fld) (s : State) : List (Nat × Nat) := mget [] s.regs f.id

def audImage (s : State) : AudCopy :=
  { masks := listedOf AUD_IN_MASK.GROUPS s, ringBits := listedOf AUD_OUT_RINGS.GROUPS s, muteBits := listedOf AUD_OUT_MUTE.GROUPS s,
    groups := s.aud.groups, fills := s.aud.fills, lengths := listedOf AUD_RING_CFG.LEN_LOG2 s }

def reedImage (e : Nat) (s : State) : ReedCopy :=
  { coef := ((listedOf REE_COEF.COEF s).filter (fun p => p.1 / 4096 == e)).map (fun p => (p.1 % 4096, p.2)),
    smem := (reed e s).smem, v := (reed e s).v, acc := (reed e s).acc, clamped := (reed e s).clamped }

def cmpImage (e : Nat) (s : State) : CmpImage :=
  { engine := e,
    layers := (List.range 32).map (fun l => (l, layerWords (32 * e + l) s, shadowWords (32 * e + l) s)),
    heads := (headsOf e s).map (fun h => (h, (getF CMP_HEAD_ACT1.WORD h s, getF CMP_HEAD_ACT2.WORD h s),
                                             (getF CMP_HEAD_SHD1.WORD h s, getF CMP_HEAD_SHD2.WORD h s))),
    labels := (List.range 32).map (fun l => (l, mget [] s.cmp.labels (32 * e + l), mget [] s.cmp.shadowLabels (32 * e + l))) }

def rxWords8 (c : Nat) (s : State) : List Nat := (List.range 8).map (fun k => rxWord c k s)
def txWords8 (c : Nat) (s : State) : List Nat := (List.range 8).map (fun k => txWord c k s)

/-- Flow records in force. -/
def recImage (s : State) : List (List Nat) :=
  (rxEnabled s).map (fun c => rxWords8 c s) ++ (txEnabled s).map (fun c => txWords8 c s)

/-- Allocations of class STILL. -/
def stillAllocs (s : State) : List Nat := indicesWhere KNL_ALLOC_CFG.CLASS (· == clStill) s

/-- Every command up to this MSEQ has been applied. -/
def appliedTo (s : State) : Nat :=
  let open_ := (s.cmd.opens.filter (fun c => c.mseq != 0 && c.left != 0)).map (fun c => c.mseq)
  open_.foldl min s.twin.mseqNext - 1

/-- The state that LEAD sends, as it stands now. -/
def captureState (s : State) : TwinCopy :=
  { m0 := appliedTo s,
    routes := (listedOf XPT_OUT_SRC.SOURCE s).filter (fun p => outUsed p.1 s),
    aud := audImage s,
    reeds := (indicesWhere REE_ENG_CFG.ENABLED (· == 1) s).map (fun e => (e, reedImage e s)),
    cmps := (indicesWhere CMP_ENG_CFG.ENABLED (· == 1) s).map (fun e => cmpImage e s),
    recs := recImage s,
    freezes := indicesWhere KNL_ALLOC_STATUS.FROZEN (· == 1) s,
    stills := (stillAllocs s).map (fun a => (a, getF KNL_ALLOC_STATUS.SELECT a s)),
    stillFrames := (stillAllocs s).flatMap (fun a => (alloc a s).stills.map (fun k => (a, k.1, k.2))),
    bundle := s.shf.bundle, raised := s.shf.causes, shofarSeq := getF SHF_SEQ.SEQ 0 s }

/-- LEAD sends STATE at the step: a boundary of the lowest enabled plane after TWIN is selected, 1.2 s or more after the request, or
the next one where HEEL has had TWIN selected since an earlier request (log entry 30). -/
def serveResync (s : State) : State :=
  match s.twin.serving with
  | none => s
  | some t0 =>
    if role s = roleLead && (s.twin.served || t0 + 1200 * msUnit ≤ s.now) then
      let c := captureState s
      s |> setTwin (fun w => { w with serving := none, served := true }) |> sendAcked (.state c.m0 c)
    else s

/-! ### Taking (R514) -/

/-- Every output slot of this module goes to the source that LEAD gives it. -/
def takeRoutes (rs : List (Nat × Nat)) (s : State) : State :=
  let lanes := (indicesWhere LNO_GRP_CFG.ENABLED (· == 1) s).flatMap (fun g => (List.range 16).map (· + 16 * g))
  let outs := (lanes.flatMap (fun n => (List.range 8).map (· + 8 * n))).filter (fun o => outUsed o s)
  forEach outs (fun o s => if outSrc o s = mget 0 rs o && !pend o s then s else restoreTake true o (mget 0 rs o) s) s

/-- A field's instances become those of a list. -/
def setAllF (f : Fld) (l : List (Nat × Nat)) (s : State) : State := forEach l (fun p s => setF f p.1 p.2 s) (clearFld f s)

/-- The audio map and the reed state, at one audio block boundary (R333). -/
def takeAudio (s : State) : State :=
  match s.twin.audCopy with
  | none => s
  | some (a, rs) =>
    let s := setTwin (fun w => { w with audCopy := none }) s
    let s := s |> setAllF AUD_IN_MASK.GROUPS a.masks |> setAllF AUD_OUT_RINGS.GROUPS a.ringBits |> setAllF AUD_OUT_MUTE.GROUPS a.muteBits
               |> setAud (fun x => { x with groups := a.groups, fills := a.fills })
    let s := forEach (a.lengths.filter (fun p => ringExtent p.1 s)) (fun p s =>
      if getF AUD_RING_CFG.LEN_LOG2 p.1 s = p.2 then s else applyLength [p.1] p.2 s) s
    forEach (rs.filter (fun p => getB REE_ENG_CFG.ENABLED p.1 s)) (fun p s =>
      let s := forEach ((listedOf REE_COEF.COEF s).filter (fun q => q.1 / 4096 == p.1)) (fun q s => setF REE_COEF.COEF q.1 0 s) s
      s |> forEach p.2.coef (fun q s => setCoef p.1 q.1 q.2 s)
        |> setReed p.1 (fun r => { r with smem := p.2.smem, v := p.2.v, acc := p.2.acc, clamped := p.2.clamped })) s

/-- A composition engine: the shadows at once, the active copies at its next head frame boundary. -/
def takeCmp (i : CmpImage) (s : State) : State :=
  if !getB CMP_ENG_CFG.ENABLED i.engine s then s
  else
    s |> forEach i.layers (fun p s => putLayer (32 * i.engine + p.1) 8 p.2.2 s)
      |> forEach i.heads (fun p s => s |> setF CMP_HEAD_SHD1.WORD p.1 p.2.2.1 |> setF CMP_HEAD_SHD2.WORD p.1 p.2.2.2)
      |> setCmp (fun c => { c with
           shadowLabels := i.labels.foldl (fun m p => mput [] m (32 * i.engine + p.1) p.2.2) c.shadowLabels,
           pend := c.pend ++ [{ uid := 0, engine := i.engine, due := dueAhead s.now,
                                copy := { layers := i.layers.map (fun p => (p.1, p.2.1)),
                                          heads := i.heads.map (fun p => (p.1, p.2.1)),
                                          labels := i.labels.map (fun p => (p.1, p.2.1)) } }] })

/-- A record in force here that LEAD has not, as one that disables its context. -/
def disabling (ws : List Nat) : List Nat := [wAt ws 0 - 2 ^ 29, 0, 0, 0, 0, 0, 0, 0]

/-- Flow records: those that differ come into force at their commit points, and a context that LEAD has not enabled ends. -/
def takeRecs (rs : List (List Nat)) (s : State) : State :=
  let own := recImage s
  let new := rs.filter (fun ws => !own.contains ws && recCtxKind ws s != 0)
  let gone := (own.filter (fun ws => rs.all (fun x => recIsTx x != recIsTx ws || recCtx x != recCtx ws))).map disabling
  setEth (fun e => { e with recs := e.recs ++ (gone ++ new).map (fun ws =>
    ({ uid := 0, tx := recIsTx ws, ctx := recCtx ws, words := ws, due := dueAhead s.now } : PendRec)) }) s

/-- Freezes and STILL selections. -/
def takeFreezes (c : TwinCopy) (s : State) : State :=
  let mine := indicesWhere KNL_ALLOC_STATUS.FROZEN (· == 1) s
  let due := dueAhead s.now
  s |> forEach ((c.freezes.filter (fun a => !mine.contains a)).filter (fun a => written (allocClass a s)))
         (fun a s => addPendKnl a { uid := 0, op := 0, due := due } s)
    |> forEach (mine.filter (fun a => !c.freezes.contains a)) (fun a s => addPendKnl a { uid := 0, op := 1, due := due } s)
    |> forEach (c.stills.filter (fun p => allocClass p.1 s == clStill)) (fun p s =>
         if getF KNL_ALLOC_STATUS.SELECT p.1 s = p.2 then s
         else if planesRead s = [] then setF KNL_ALLOC_STATUS.SELECT p.1 p.2 s
         else addPendKnl p.1 { uid := 0, op := 2, index := p.2, due := due, planes := planesRead s } s)

/-- STILL frames received. -/
def takeStills (c : TwinCopy) (s : State) : State :=
  forEach (c.stillFrames.filter (fun p => allocClass p.1 s == clStill)) (fun p s =>
    s |> setAlloc p.1 (fun x => { x with stills := mput {} x.stills p.2.1 p.2.2 })
      |> setF KNL_ALLOC_STATUS.VALID p.1 1 |> setF KNL_ALLOC_STATUS.FORMAT p.1 p.2.2.fmt) s

/-- Prinel verifies LEAD's bundle with its own key before it takes the bundle and the shofar state; a LEAD without a bundle has none to
verify. A bundle it cannot verify is refused, and this module keeps its own (R254, R514). -/
def takeShofar (c : TwinCopy) (s : State) : State :=
  let b := c.bundle
  if b != [] && !(signedBy 9 (b.take (b.length - 96)) (b.drop (b.length - 96)) s && bundleFormat b) then
    s |> setTwin (fun w => { w with shofarRefused := true }) |> audit 0x0020 stAuth (leBytes 4 (bCounter b))
  else
    let s := if b = s.shf.bundle || b = [] then s else takeBundle b s
    s |> setShf (fun f => { f with causes := c.raised }) |> storeRow rowShofarState 1 (setF SHF_SEQ.SEQ 0 c.shofarSeq) |> showRaised
      |> judgeContact 0 |> judgeContact 1

/-- HEEL takes LEAD's state. -/
def takeState (c : TwinCopy) (s : State) : State :=
  s |> takeRoutes c.routes |> setTwin (fun w => { w with audCopy := some (c.aud, c.reeds) })
    |> forEach c.cmps takeCmp |> takeRecs c.recs |> takeFreezes c |> takeStills c |> takeShofar c

/-! ### The step to LEAD's alignment (R511, R514) -/

/-- HEEL stands before the step, with LEAD's clock selected. -/
def stepDue (s : State) : Bool := s.twin.resync == .acked && onTwin s

/-- The block counter follows LEAD's; what it becomes is a free value, since no register shows LEAD's (log entry 30). -/
def stepBlocks (s : State) : State :=
  { drawn s with lane := { s.lane with blockCtr := freeBits 64 s } }

end Sys2Proof.Machine
end

