-- ==== Sys2Proof/Machine/AudioBlock.lean ====
section
/-! DEFINITION. The audio block boundary (R278 to R295, R312 to R316, R332, R334, R683). -/

namespace Sys2Proof.Machine

/-- Engines that the image assigns. -/
def engines (s : State) : List Nat := indicesWhere REE_ENG_CFG.ENABLED (· == 1) s

/-- An engine that has not executed END, or is halted, overruns: the block is counted, and one that is not halted is abandoned with
the ramp write-backs of the MACRs executed (R315, R316). A HALT_AT_BLOCK that waits halts without an overrun (R683). -/
def overrun (e : Nat) (s : State) : State :=
  let halted := engState e s == reedHalted
  if halted || !(reed e s).ended then
    let s := if halted then s else rampWrites e s
    s |> bump32 REE_ENG_OVERRUN_CNT.COUNT REE_ENG_EVT.OVERRUN_OVF e |> raise [REE_ENG_EVT.OVERRUN] e
  else s

/-- The banks swap and the new output bank is zero (R312); `fill` is what the shuffler has read for the next block. -/
def swapBanks (fill : List (Nat × Nat)) (r : Reed) : Reed :=
  { r with inp := r.fill, fill := fill, back := r.out, out := [] }

/-- The program starts at instruction 0 (R313). -/
def startBlock (r : Reed) : Reed :=
  { r with pc := 0, x := [], loops := [], cycles := 0, ended := false, ramps := [], accov := false, sat := false, past := false }

def haltCauseBlock : Nat := 4

/-- A running engine starts its program, or halts before instruction 0 where that was ordered. -/
def startEngine (e : Nat) (s : State) : State :=
  if engState e s = reedHalted then setReed e (fun r => { r with accov := false, sat := false }) s
  else
    let s := setReed e startBlock s
    if s.dbg.haltBlock.contains e then
      s |> setF REE_ENG_STATUS.STATE e reedHalted |> setF DBG_ENG_STATUS.HALTED e 1 |> setF DBG_ENG_STATUS.CAUSE e haltCauseBlock
        |> setF DBG_ENG_STATUS.PC e 0 |> raiseAs 1 [DBG_EVT.HALT] 0
        |> (fun s => { s with dbg := { s.dbg with haltBlock := s.dbg.haltBlock.erase e } })
    else s

/-- What the fill map of engine `e` reads (R293): ring words with bits 7:0 cleared; a ring with DATA fills zeros. -/
def fillBank (e : Nat) (s : State) : List (Nat × Nat) × List Nat :=
  let es := s.aud.fills.filter (fun p => p.1 / 1024 == e)
  let data := (es.filter (fun p => getB AUD_RING_STATUS.DATA p.2.1 s)).map (fun p => p.2.1)
  let bank := (es.filter (fun p => !getB AUD_RING_STATUS.DATA p.2.1 s)).foldl (fun b p =>
    ((List.range 16).zip (readRing p.2.1 p.2.2 s)).foldl (fun b q => mput 0 b (16 * (p.1 % 1024) + q.1) (q.2 / 256 * 256)) b) []
  (bank, data)

/-- One engine at a boundary: fill, swap, start. -/
def engineBlock (e : Nat) (s : State) : State :=
  if domDown (272 + e) s then s
  else
  let (bank, data) := fillBank e s
  s |> forEach data (fun r s => raise [AUD_RING_STATUS.NONPCM_FILL] r s) |> setReed e (swapBanks bank) |> startEngine e

/-- The boundary at module time `t`, which begins the next audio block. -/
def audioBoundary (t : Nat) (s : State) : State :=
  let m := getF AUD_BLOCK.COUNT 0 s + 1
  s |> setF AUD_BLOCK.COUNT 0 m
    |> setAud (fun a => { a with concealed := [] })
    |> (fun s => forEach (ringsHere s) (commitRing m t) s)
    |> dueLengths m
    |> takeAudio |> commitMaps t |> commitRecs (· == .audio) t
    |> (fun s => forEach (engines s) overrun s) |> commitReeWrites t
    |> (fun s => forEach (engines s) engineBlock s)
    |> embedTake m |> txAudioTake m t |> metersStep m
    |> setAud (fun a => { a with boundary := t })
    |> setTwin (fun w => { w with choices := w.choices.filter (fun c => match c with | .slip _ _ n => m < n | _ => true) })

/-- The boundary of now, if one falls and has not been acted on. -/
def audioStep (s : State) : State :=
  if blockFallsNow s && (s.aud.boundary < s.now || getF AUD_BLOCK.COUNT 0 s == 0) then audioBoundary s.now s else s

/-- AUDIO_BLOCK_BOUNDARY -/
def execAudioBlockBoundary (t : Nat) (s : State) : Host.Outcome State Fault Refusal :=
  .next (onService t audioStep s)

end Sys2Proof.Machine
end

