-- ==== Sys2Proof/Machine/PitchPipe.lean ====
section
/-! DEFINITION. The Pitch Pipe: references, timing planes, pulses, local time and PTP instances (R436 to R485). -/

namespace Sys2Proof.Machine

/-! ### Qualification (R437, R438) -/

def isPtp (n : Nat) : Bool := n == 8 || n == 9

/-- Accept and reject limits in ppb. -/
def refLimits (n : Nat) : Nat × Nat :=
  if n < 2 || n = 6 || n = 7 || n = refTwin then (5000, 10000) else if isPtp n then (1000, 5000) else (500, 1000)

/-- The image in force uses the input. -/
def refUsed (n : Nat) (s : State) : Bool := n < 11 && getB PIP_REF_CFG.USED n s

/-- The input is qualified: the image uses it, or no image has been loaded since POR and the Pitch Pipe runs (R599). -/
def refLive (n : Nat) (s : State) : Bool := n < 11 && (getB PIP_REF_CFG.USED n s || (s.time.refDigest == 0 && 4 ≤ getF SYS_STATUS.STEP 0 s))

/-- Default wait-to-restore of each type in s, which stands before an image gives one (R437). -/
def wtrDefault (n : Nat) : Nat :=
  if n = 2 || n = 3 || n = 8 || n = 9 then 60 else if n = 4 || n = 5 then 300 else if n = refTwin then 1 else 10

def refQual (n : Nat) (s : State) : Nat := getF PIP_REF_STATUS.QUAL n s

def setRef (n : Nat) (f : RefSt → RefSt) (s : State) : State := setTime (fun x => { x with refs := mmod {} x.refs n f }) s

/-- A force whose input is not to be had is ignored (R440). -/
def noteForce (s : State) : State :=
  if getB PIP_CTL.FORCE_EN 0 s && !getB PIP_CTL.FORCE_HOLD 0 s && (forcedRef s).isNone then raise [PIP_EVT.FORCE_IGNORED] 0 s else s

/-- An input leaves QUALIFIED (R438, R470). -/
def disqualify (n q : Nat) (s : State) : State :=
  let was := refQual n s == qQualified
  let s := s |> setF PIP_REF_STATUS.QUAL n q |> setF PIP_REF_STATUS.WTR_LEFT n 0 |> setF PIP_REF_STATUS.WARN n 0
             |> setRef n (fun _ => {})
  if was && refUsed n s then s |> bump32 PIP_REF_DISQ_CNT.COUNT PIP_REF_EVT.DISQ_OVF n |> raise [PIP_REF_EVT.DISQUAL] n |> reselect false |> noteForce
  else s

/-- Input `n` has lost its activity. -/
def refLoss (n : Nat) (s : State) : State :=
  if !refLive n s || refQual n s = qAbsent then s
  else
    s |> resetFs [PIP_REF_FREQ.FREQ_PPB, PIP_REF_DRIFT.DRIFT_PPB_S, PIP_REF_STATUS.FREQ, PIP_REF_STATUS.DRIFT, PIP_REF_STATUS.NOISE,
                  PIP_REF_STATUS.RATE] n
      |> disqualify n qAbsent |> (fun s => if refUsed n s then raise [PIP_REF_EVT.ABSENT] n s else s)

/-- The accept conditions, and the reject ones. -/
def refAccepts (n : Nat) (m : RefMeas) : Bool :=
  m.filled && m.freq.natAbs ≤ (refLimits n).1 && m.drift.natAbs ≤ 500 && (!isPtp n || m.trend ≤ 1000)

def refRejects (n : Nat) (m : RefMeas) : Bool :=
  m.filled && ((refLimits n).2 < m.freq.natAbs || 500 < m.drift.natAbs || (isPtp n && 10000 < m.trend))

/-- Enter WAIT with the timer at its WTR. -/
def startWait (n : Nat) (s : State) : State :=
  let w := if refUsed n s then getF PIP_REF_CFG.WTR_S n s else wtrDefault n
  s |> setF PIP_REF_STATUS.QUAL n qWait |> setF PIP_REF_STATUS.WTR_LEFT n w |> setRef n (fun _ => { wtrEnd := some (s.now + w * secUnit) })

/-- What REF_STATUS, FREQ and DRIFT show of a measurement (R468, R469). -/
def showMeas (n : Nat) (m : RefMeas) (s : State) : State :=
  s |> setF PIP_REF_FREQ.FREQ_PPB n (if m.filled then ofSigned 32 m.freq else 0x80000000)
    |> setF PIP_REF_DRIFT.DRIFT_PPB_S n (if m.filled then ofSigned 32 m.drift else 0x80000000)
    |> setB PIP_REF_STATUS.FREQ n (m.filled && (refLimits n).1 < m.freq.natAbs)
    |> setB PIP_REF_STATUS.DRIFT n (m.filled && 500 < m.drift.natAbs)
    |> setB PIP_REF_STATUS.NOISE n (isPtp n && 1000 < m.trend)
    |> setF PIP_REF_STATUS.RATE n (if n < 2 || n = refTwin then m.rate else 0)

/-- A frame rate that the mode of a video input accepts (R436): black burst 25 and 29.97 Hz, tri-level the plane rates. -/
def rateSeen (n : Nat) (m : RefMeas) (s : State) : Bool :=
  2 ≤ n || m.rate == 0 || (if getB PIP_REF_CFG.MODE n s then m.rate ≤ 8 else m.rate == 3 || m.rate == 4)

/-- What carries input `n` is there: its PTP instance is in SLAVE, or the twin link is up and carries LEAD's time code (R437). -/
def refCarried (n : Nat) (s : State) : Bool :=
  if n = 8 || n = 9 then getF TIM_PTP_STATUS.PORT_STATE (n - 8) s == 5 else n != refTwin || (getB TWN_STATUS.LINK_UP 0 s && leadCode s)

/-- The second's measurement of active input `n`. -/
def refWindow (n : Nat) (m : RefMeas) (s : State) : State :=
  if !refLive n s || s.boot.refBad.contains n || !refCarried n s then s
  else if !rateSeen n m s then refLoss n s
  else
    let s := showMeas n m s
    let q := refQual n s
    if q = qQualified then
      if refRejects n m then disqualify n qDisqual s
      else
        let warn := m.filled && (refLimits n).1 < m.freq.natAbs
        let was := getB PIP_REF_STATUS.WARN n s
        let s := setB PIP_REF_STATUS.WARN n warn s
        if warn && !was then raise [PIP_REF_EVT.WARN] n s else s
    else if q = qWait then
      if refAccepts n m then
        match (mget ({} : RefSt) s.time.refs n).wtrEnd with
        | some e => setF PIP_REF_STATUS.WTR_LEFT n (ceilDiv (e - s.now) secUnit) s
        | none => s
      else disqualify n qDisqual s
    else if refAccepts n m then startWait n s
    else setF PIP_REF_STATUS.QUAL n qDisqual s

def refWtr (n : Nat) (s : State) : State :=
  if refLive n s && refQual n s = qWait && ((mget ({} : RefSt) s.time.refs n).wtrEnd).any (fun e => e ≤ s.now) then
    s |> setF PIP_REF_STATUS.QUAL n qQualified |> setF PIP_REF_STATUS.WTR_LEFT n 0 |> setRef n (fun _ => {})
      |> (fun s => if refUsed n s then raise [PIP_REF_EVT.QUALIFY] n s else s) |> reselect false
  else s

/-! ### Transitions and host orders (R439 to R445) -/

/-- Time that the measurement of a transition lasts (R442). -/
def measureTime (s : State) : Nat := match planesOn s with | p :: _ => planePeriod p s | [] => 40 * msUnit

/-- The loop starts to follow the new input; a better one that has become QUALIFIED is next (R442, R443). -/
def transEnd (s : State) : State :=
  if pipState s = pipTransition && s.time.transAt + measureTime s ≤ s.now then
    let free := s.time.transFree
    s |> setF PIP_STATUS.STATE 0 pipLocked |> setF PIP_STATUS.SELECTED 0 (getF PIP_STATUS.TARGET 0 s) |> setF PIP_STATUS.TARGET 0 refNone
      |> setTime (fun x => { x with everSelected := true, transFree := false })
      |> raise (if free then [PIP_EVT.SWITCH, PIP_EVT.LOCKED] else [PIP_EVT.SWITCH]) 0
      |> bump32 PIP_SWITCH_CNT.COUNT PIP_EVT.SWITCH_OVF 0
      |> reselect false
  else s

def forceEn (en : Bool) (ref : Nat) (s : State) : State :=
  s |> setB PIP_CTL.FORCE_EN 0 en |> setF PIP_CTL.FORCE_REF 0 ref |> noteForce |> reselect true

def forceHold (on : Bool) (s : State) : State := s |> setB PIP_CTL.FORCE_HOLD 0 on |> reselect true

/-- PRIO and LOCKOUT are stored with the digest of the reference section in force (R439, R628). -/
def refPrio (n prio : Nat) (lockout : Bool) (bad : List Nat) (s : State) : State :=
  if 11 ≤ n then s
  else
    s |> setPst (fun p => { p with failing := bad })
      |> storePref (fun s => s |> setF PIP_REF_CFG.PRIO n prio |> setB PIP_REF_CFG.LOCKOUT n lockout
           |> setPst (fun p => { p with prefValid := true, refDigest := s.time.refDigest, prefPrio := mput 0 p.prefPrio n (prio % 8),
                                        prefLockout := mput 0 p.prefLockout n (b2n lockout) }))
      |> noteForce |> reselect true

def pipCounters : List Fld := [PIP_SWITCH_CNT.COUNT, PIP_EVT.SWITCH_OVF, PIP_HOLD_CNT.COUNT, PIP_EVT.HOLD_OVF, PIP_REF_DISQ_CNT.COUNT,
  PIP_REF_EVT.DISQ_OVF]

/-! ### Timing planes (R447 to R452) -/

def plAligned : Nat := 1
def plSlewing : Nat := 2
def plHeld : Nat := 3

/-- A difference folded into minus half to plus half a period. -/
def foldHalf (e : Int) (period : Nat) : Int := (e + period / 2) % period - period / 2

/-- ST 2059-1 count of the boundary nearest to a local time. -/
def nearest2059 (p localT : Nat) (s : State) : Nat :=
  countSt2059 (planeRate p s) (getF PIP_PLANE_OFFSET.OFFSET_NS p s) (localT + planePeriod p s / 2)

/-- Target minus boundary for a boundary at module time `b`, of a TIME plane (R448). -/
def timeError (p b : Nat) (s : State) : Int :=
  let l := toLocal b s
  (timeSt2059 (planeRate p s) (getF PIP_PLANE_OFFSET.OFFSET_NS p s) (nearest2059 p l s) : Int) - l

def isVideo (p : Nat) (s : State) : Bool := getB PIP_PLANE_CFG.ALIGN p s

/-- The selected analog video input fits the plane (R449). -/
def videoFits (p : Nat) (s : State) : Bool := rateRatio (planeRate p s) (getF PIP_REF_STATUS.RATE (selected s) s) != 0

/-- Error of plane `p` at `b`, where it has a target: on LEAD's boundaries while a HEEL follows them; the frame pulses of the selected
video input plus the offset; or local time. `pulse` is the module time of the reference's last boundary or frame pulse. -/
def planeError (p b : Nat) (pulse : Option Nat) (s : State) : Option Int :=
  if onTwin s then pulse.map (fun r => foldHalf ((r : Int) - b) (planePeriod p s))
  else if !isVideo p s then some (timeError p b s)
  else if selected s < 2 && videoFits p s then
    pulse.map (fun r => foldHalf ((r : Int) + getF PIP_PLANE_OFFSET.OFFSET_NS p s * nsUnit - b) (planePeriod p s))
  else none

/-- SLEW as it acts, and the limit per plane frame: SLEW/16 of a line (R450, R472). -/
def slewOf (p : Nat) (s : State) : Nat := clampNat 1 16 (getF PIP_PLANE_CTL.SLEW p s)
def slewLimit (p : Nat) (s : State) : Nat := slewOf p s * (planePeriod p s / 1125) / 16

/-- 10 ns. -/
def alignTol : Nat := 10 * nsUnit

/-- The selected video input's rate does not fit: MISMATCH (R449). -/
def noteMismatch (p : Nat) (s : State) : State :=
  let m := isVideo p s && selected s < 2 && !videoFits p s
  let was := getB PIP_PLANE_STATUS.MISMATCH p s
  let s := setB PIP_PLANE_STATUS.MISMATCH p m s
  if m && !was then raise [PIP_PLANE_EVT.MISMATCH] p s else s

/-- The plane is HELD when nothing but its own phase guides it; a VIDEO plane without its input shows HELD too. -/
def showHeld (p : Nat) (e : Option Int) (s : State) : Bool := e.isNone || (isVideo p s && !(selected s < 2 && videoFits p s))

/-- Slewing at a boundary: the state, its events, and the change to the frame that begins (R450). -/
def slewPlane (p : Nat) (err : Option Int) (s : State) : Int × State :=
  match err with
  | none => (0, s |> setF PIP_PLANE_STATUS.STATE p plHeld |> setF PIP_PLANE_ERR.ERR_NS p 0)
  | some e =>
    let lim : Int := slewLimit p s
    let near := e.natAbs ≤ alignTol
    let corr := if near then e else clampInt (-lim) lim e
    let s := setF PIP_PLANE_ERR.ERR_NS p (ofSigned 32 (e.tdiv nsUnit)) s
    let old := getF PIP_PLANE_STATUS.STATE p s
    if showHeld p err s then (corr, setF PIP_PLANE_STATUS.STATE p plHeld s)
    else if near then
      let s := setF PIP_PLANE_STATUS.STATE p plAligned s
      (corr, if old = plSlewing then raise [PIP_PLANE_EVT.ALIGNED] p s else s)
    else
      let s := setF PIP_PLANE_STATUS.STATE p plSlewing s
      (corr, if old = plSlewing then s else raise [PIP_PLANE_EVT.SLEW_START] p s)

/-- DEV at the boundary at `b` (R452, R474). -/
def showDev (p b : Nat) (s : State) : State :=
  setF PIP_PLANE_DEV.DEV p (ofSigned 32 ((getF PIP_PLANE_COUNT.COUNT p s : Int) - nearest2059 p (toLocal b s) s)) s

/-- Armed takes of plane `p`, whose points a hard realign has removed, move to the first point after it: in the frame that begins with
it (R451). -/
def rearm (p : Nat) (s : State) : State :=
  let n := getF PIP_PLANE_COUNT.COUNT p s
  setXpt (fun x => { x with pend := x.pend.map (fun q =>
    if outPlane q.out s = p then { q with armed := q.armed.map (fun a => { a with count := n }) } else q) }) s

/-- A hard realign at the boundary at `b`, `e` away from the target: the plane moves to it and takes its count from local time
(R451, R452). -/
def realign (p b : Nat) (e : Int) (s : State) : State :=
  let old := execPoints s
  let b' := ((b : Int) + e).toNat
  let s := s |> setPlane p (fun x => { x with boundary := b', next := b' + planePeriod p s, hard := false })
  s |> setF PIP_PLANE_COUNT.COUNT p (nearest2059 p (toLocal b' s) s) |> setF PIP_PLANE_STATUS.STATE p (if isVideo p s && !(selected s < 2) then plHeld else plAligned)
    |> setF PIP_PLANE_ERR.ERR_NS p 0 |> raise [PIP_PLANE_EVT.HARD] p |> rearm p |> reevaluate old

/-- A step of local time by `d` units: counted and recorded, transmit flows and receive audio flows flag it, and commands whose
time has passed are judged again (R415, R458, R459, R545). -/
def timeStep (d : Int) (s : State) : State :=
  let old := execPoints s
  { s with timeOff := s.timeOff + d }
    |> setF TIM_LAST_STEP.STEP 0 (ofSigned 64 (d.tdiv nsUnit))
    |> bump32 TIM_STEP_CNT.COUNT TIM_EVT.STEP_OVF 0
    |> raise (if d < 0 then [TIM_EVT.STEP, TIM_EVT.STEP_BACK] else [TIM_EVT.STEP]) 0
    |> (fun s => forEach (indicesWhere FLW_TX_STATUS.EN (· == 1) s) (fun c s => raise [FLW_TX_EVT.TS_STEP] c s) s)
    |> setTime (fun x => { x with ptp := x.ptp.map (fun p => (p.1, { p.2 with sync := none, await := none, req := none })) })
    |> (fun s => forEach ((indicesWhere FLW_RX_STATUS.EN (· == 1) s).filter (fun c => isAudioKind (rxKind c s)))
         (fun c s => raise [FLW_RX_EVT.RESYNC] c s) s)
    |> reevaluate old

/-- At a boundary of the lowest plane a HEEL that resynchronises steps its block counter, its planes and its local time to LEAD's, and
a LEAD sends STATE (R514): the other planes realign at their own next boundaries. -/
def twinStep (s : State) : State :=
  let s := if stepDue s then
      let s := s |> stepBlocks |> forEach (planesOn s) (fun q s => setPlane q (fun x => { x with hard := true }) s)
                 |> setTwin (fun w => { w with resync := .stepped })
      if s.twin.offset = 0 then s else timeStep (s.twin.offset * nsUnit) s
    else s
  serveResync s

/-- The boundary of plane `p`: the count advances, inputs in GUARD count towards IN, flow records commit, and the plane slews. -/
def planeFrame (p : Nat) (pulse : Option Nat) (s : State) : State :=
  let x := planeSt p s
  if !(p < 8) || !planeEnabled p s || s.now < x.next then s
  else
    let b := x.next
    let s := if (planesOn s).head? = some p then twinStep s else s
    let s := s |> noteMismatch p |> setF PIP_PLANE_COUNT.COUNT p (getF PIP_PLANE_COUNT.COUNT p s + 1)
    let err := planeError p b pulse s
    let s := match err with
      | some e => if (planeSt p s).hard && !showHeld p err s then realign p b e s
        else
          let (c, s) := slewPlane p err s
          setPlane p (fun y => { y with boundary := b, next := ((b : Int) + planePeriod p s + c).toNat, hard := false }) s
      | none =>
        let (_, s) := slewPlane p none s
        setPlane p (fun y => { y with boundary := b, next := b + planePeriod p s, hard := false }) s
    s |> showDev p (planeSt p s).boundary
      |> forEach (indicesWhere XPT_IN_STATUS.WIN (· == wGuard) s) (reacquire p)
      |> commitRecs (fun q => q == .plane p) s.now

/-- HARD_REALIGN waits for the plane's next boundary; a plane that shows HELD has no target (R449, R451). -/
def orderRealign (p : Nat) (s : State) : State :=
  if p < 8 && planeEnabled p s && getF PIP_PLANE_STATUS.STATE p s != plHeld then setPlane p (fun x => { x with hard := true }) s else s

/-! ### Pulse outputs (R454, R476) -/

def pulseSt (k : Nat) (s : State) : PulseSt := mget {} s.time.pulses k
def setPulse (k : Nat) (f : PulseSt → PulseSt) (s : State) : State := setTime (fun x => { x with pulses := mmod {} x.pulses k f }) s

/-- The source gives events. -/
def pulseSource (src : Nat) (s : State) : Bool :=
  let here (n : Nat) := refQual n s != qUnused && refQual n s != qAbsent
  if src < 8 then planeEnabled src s
  else match src with
    | 8 => true
    | 9 => true
    | 0xA => here 0
    | 0xB => here 1
    | 0xC => here 4
    | 0xD => here 5
    | _ => false

/-- Period of a source, in ns. -/
def pulsePeriodNs (src : Nat) (s : State) : Nat :=
  if src < 8 then planePeriod src s / nsUnit
  else match src with
    | 9 => 333333
    | 0xA => framePeriod (getF PIP_REF_STATUS.RATE 0 s) / nsUnit
    | 0xB => framePeriod (getF PIP_REF_STATUS.RATE 1 s) / nsUnit
    | _ => 1000000000

/-- An event of source `src` can be now: a plane's boundary, a second of local time, an audio block boundary; those of the external
inputs are at their lands. -/
def pulseFalls (src : Nat) (s : State) : Bool :=
  if src < 8 then atInstant (planeSt src s).boundary s || atInstant (planeSt src s).next s
  else if src = 8 then secondInstant s
  else if src = 9 then atInstant s.aud.boundary s || blockFallsNow s
  else true

/-- The PULSE lands are driven; else they are high-impedance (R748). -/
def pulsesDriven (s : State) : Bool := s.powered && domState 540 s == dOn

/-- An event of source `src`, as output `k` sees it: a configuration written at least 1 µs before takes effect, and the output emits
its pulse when the source drives it and the Pitch Pipe domain is ON (R748). -/
def pulse (k src : Nat) (s : State) : State :=
  if 4 ≤ k || !pulseSource src s || !pulseFalls src s || !pulsesDriven s then s
  else
    let p := pulseSt k s
    let s := match p.written with
      | some (w, c) => if w + usUnit ≤ s.now && (src = c.src || src = p.cfg.src) then setPulse k (fun _ => { cfg := c }) s else s
      | none => s
    let c := (pulseSt k s).cfg
    if c.en && c.src = src then
      emit (.pulse k c.low (s.now + min c.offsetNs (pulsePeriodNs src s - 1) * nsUnit) (max 1 c.width * 100)) s
    else s

/-- A write of PIP_PULSE_CFG and PIP_PULSE_OFFSET of output `k`. -/
def pulseWrite (k cfg offset : Nat) (s : State) : State :=
  if 4 ≤ k then s
  else
    let c : PulseCfg := { en := bit cfg 31, low := bit cfg 30, width := bits cfg 16 8, src := bits cfg 0 4, offsetNs := bits offset 0 30 }
    s |> setB PIP_PULSE_CFG.EN k c.en |> setB PIP_PULSE_CFG.POL k c.low |> setF PIP_PULSE_CFG.WIDTH k c.width
      |> setF PIP_PULSE_CFG.SRC k c.src |> setF PIP_PULSE_OFFSET.OFFSET_NS k c.offsetNs
      |> setPulse k (fun p => { p with written := some (s.now, c) })

/-! ### Local time (R455 to R460) -/

/-- TIME_SLEW as it acts, in ppm (R478). -/
def timeSlew (s : State) : Nat := clampNat 10 500 (getF TIM_CFG.TIME_SLEW 0 s)

/-- ALIGNED TIME planes move with their targets while local time slews by `d`, up to their own limit (R450). -/
def planesFollow (d : Int) (elapsed : Nat) (s : State) : State :=
  forEach ((planesOn s).filter (fun p => !isVideo p s && getF PIP_PLANE_STATUS.STATE p s = plAligned)) (fun p s =>
    let lim : Int := elapsed * slewOf p s / 18000
    setPlane p (fun x => { x with next := ((x.next : Int) - clampInt (-lim) lim d).toNat }) s) s

/-- The servo slews towards the source: by how much is the servo's own, within TIME_SLEW of the time since the last evaluation and
within the offset (log entry 29). -/
def slewTime (theta : Int) (s : State) : State :=
  let elapsed := s.now - s.time.servoAt
  let most := min theta.natAbs (elapsed * timeSlew s / 1000000)
  let m : Nat := Config.freeNat s.freeCtr % (most + 1)
  let d : Int := if theta < 0 then -(m : Int) else m
  { drawn s with timeOff := s.timeOff + d } |> planesFollow d elapsed

def msOffset : Nat := 1000000 * nsUnit

/-- The servo evaluates θ (R458); a 1PPS source supplies the phase of the second only (R456). -/
def servo (offset : Int) (s : State) : State :=
  let src := getF TIM_STATUS.SOURCE 0 s
  let theta := if src = 4 || src = 5 then foldHalf offset secUnit else offset
  let s := if getF TIM_STATUS.SOURCE 0 s = refNone then s
    else if theta.natAbs < msOffset then slewTime theta s else timeStep theta s
  setTime (fun x => { x with servoAt := s.now }) s

/-- A grant's VALID clears at the second after its NOT_AFTER (R643). -/
def lapseGrants (s : State) : State :=
  forEach (List.range 4) (fun g s =>
    if getF SEC_GRANT_A.NOT_AFTER_HI g s * 2 ^ 32 + getF SEC_GRANT_B.NOT_AFTER_LO g s < timeSec (localTime s) then setF SEC_GRANT_A.VALID g 0 s
    else s) s

/-- A local-time second: a captured TIM_SET is applied as a step (R460). -/
def second (s : State) : State :=
  if !secondInstant s then s
  else
  let s := if getB TIM_STATUS.SET_PEND 0 s then
      let d : Int := ((s.time.setSec : Int) - timeSec (localTime s)) * secUnit
      let s := if d = 0 then s else timeStep d s
      s |> setF TIM_STATUS.SET_PEND 0 0 |> raise [TIM_EVT.SET_DONE] 0
    else s
  lapseGrants s

def timApply (s : State) : State :=
  let src := getF TIM_STATUS.SOURCE 0 s
  if isPtp src || src = refTwin then raise [TIM_EVT.SET_REFUSED] 0 s
  else s |> setTime (fun x => { x with setSec := getF TIM_SET_SEC.SEC 0 s }) |> setF TIM_STATUS.SET_PEND 0 1

/-! ### PTP instances (R461, R462, R482 to R485) -/

def ptpDisabled : Nat := 0
def ptpInitializing : Nat := 1
def ptpListening : Nat := 3
def ptpUncalibrated : Nat := 4
def ptpSlave : Nat := 5

def ptp (i : Nat) (s : State) : PtpSt := mget {} s.time.ptp i
def setPtp (i : Nat) (f : PtpSt → PtpSt) (s : State) : State := setTime (fun x => { x with ptp := mmod {} x.ptp i f }) s
def portState (i : Nat) (s : State) : Nat := getF TIM_PTP_STATUS.PORT_STATE i s

/-- PORT_STATE changes: the offset reads as unmeasured outside SLAVE and UNCALIBRATED, and leaving SLAVE is the loss of the
reference's activity. -/
def setPtpState (i st : Nat) (s : State) : State :=
  let old := portState i s
  if old = st then s
  else
    let s := s |> setF TIM_PTP_STATUS.PORT_STATE i st |> raise [TIM_PTP_EVT.STATE] i
    let s := if st = ptpSlave || st = ptpUncalibrated then s else resetFs [TIM_PTP_OFFS_SEC.OFFS_SEC, TIM_PTP_OFFS_NS.OFFS_NS] i s
    if old = ptpSlave then refLoss (8 + i) s else s

/-- Instance `i` runs: enabled, on a logical port of its own network. -/
def ptpOn (i : Nat) (s : State) : Bool :=
  let k := getF TIM_PTP_CFG.LP i s
  i < 2 && getB TIM_PTP_CFG.ENABLED i s && lpUsed k s && lpNet k s == i

/-- A message interval of 2^l seconds. -/
def logTime (l : Int) : Nat := if 0 ≤ l then secUnit * 2 ^ l.toNat else secUnit / 2 ^ (-l).toNat

/-- The instance starts anew (R482). -/
def ptpRestart (i : Nat) (s : State) : State :=
  let seq := (ptp i s).delaySeq
  let s := s |> setPtp i (fun _ => { delaySeq := seq })
  if ptpOn i s then s |> setPtpState i ptpInitializing |> setPtpState i ptpListening else setPtpState i ptpDisabled s

def ptpCfg (i v : Nat) (s : State) : State :=
  if 2 ≤ i then s
  else
    s |> setF TIM_PTP_CFG.DELAY_UC i (bits v 29 1) |> setF TIM_PTP_CFG.PCP i (bits v 26 3) |> setF TIM_PTP_CFG.TAG i (bits v 25 1)
      |> setF TIM_PTP_CFG.VID i (bits v 13 12) |> setF TIM_PTP_CFG.LP i (bits v 7 6) |> setF TIM_PTP_CFG.DOMAIN i (bits v 0 7)
      |> ptpRestart i

/-- Order of data sets: the first differing member decides, the lower is better. -/
def betterDs : List Nat → List Nat → Bool
  | a :: as, b :: bs => if a < b then true else if b < a then false else betterDs as bs
  | _, _ => false

def gmOf (ds : List Nat) : Nat := ds.getD 5 0

/-- What an Announce of the master shows. -/
def showMaster (i : Nat) (ds : List Nat) (steps utc : Nat) (valid : Bool) (s : State) : State :=
  let s := s |> setF TIM_PTP_STATUS.STEPS_REMOVED i steps |> setF TIM_PTP_STATUS.UTC_OFFSET i utc |> setB TIM_PTP_STATUS.UTC_VALID i valid
  if getF TIM_PTP_GM.GM_ID i s = gmOf ds % 2 ^ 64 then s
  else s |> setF TIM_PTP_GM.GM_ID i (gmOf ds) |> raise [TIM_PTP_EVT.GM_CHANGE] i

/-- A master is chosen: its exchanges are measured anew. -/
def chooseMaster (i : Nat) (src : Nat × Nat) (ds : List Nat) (s : State) : State :=
  s |> setPtp i (fun x => { x with master := some (src, ds), foreign := x.foreign.filter (fun f => f.1 != src), exchanges := 0,
                                   sync := none, await := none, req := none })
    |> setPtpState i ptpUncalibrated

def announce (i : Nat) (src : Nat × Nat) (ds : List Nat) (steps utc : Nat) (valid : Bool) (interval : Int) (s : State) : State :=
  let x := ptp i s
  let heard (s : State) : State := s |> setPtp i (fun x => { x with annAt := s.now, annLog := interval }) |> showMaster i ds steps utc valid
  let take (s : State) : State := s |> chooseMaster i src ds |> heard
  let seen := ((x.foreign.find? (fun f => f.1 == src)).map (fun f => f.2.1)).getD 0 + 1
  let note (s : State) : State := setPtp i (fun x => { x with foreign := (src, seen, ds) :: x.foreign.filter (fun f => f.1 != src) }) s
  match x.master with
  | none => if 2 ≤ seen then take s else note s
  | some (m, md) =>
    if m = src then s |> setPtp i (fun x => { x with master := some (src, ds) }) |> heard
    else if 2 ≤ seen && betterDs ds md then take s
    else note s

/-- An exchange is measured (R462, R484): offset and mean path delay, and SLAVE after 16 without a step of more than 1 µs. -/
def measured (i : Nat) (off delay : Int) (s : State) : State :=
  let x := ptp i s
  let calm := x.exchanges = 0 || (off - x.lastOffset).natAbs ≤ 1000
  let n := if calm then x.exchanges + 1 else 1
  let s := s |> setPtp i (fun x => { x with exchanges := n, lastOffset := off, req := none })
    |> setF TIM_PTP_OFFS_SEC.OFFS_SEC i (ofSigned 32 (off.tdiv 1000000000)) |> setF TIM_PTP_OFFS_NS.OFFS_NS i (ofSigned 32 (off.tmod 1000000000))
    |> setF TIM_PTP_MPD.MPD_NS i (ofSigned 32 delay)
  if portState i s = ptpUncalibrated && 16 ≤ n then setPtpState i ptpSlave s else s

/-- A message of the instance's domain (R461). -/
def ptpMessage (i domain : Nat) (src : Nat × Nat) (msg : PtpMsg) (s : State) : State :=
  if !ptpOn i s || domain != getF TIM_PTP_CFG.DOMAIN i s then s
  else
    let x := ptp i s
    let k := getF TIM_PTP_CFG.LP i s
    let ours := (x.master.map (·.1)) == some src
    match msg with
    | .announce ds steps utc valid interval => announce i src ds steps utc valid interval s
    | .sync seq arrived t1 =>
      let t2 := rxStamp k (min arrived s.now) s
      if !ours then s
      else match t1 with
        | some t1 => setPtp i (fun x => { x with sync := some (t1, t2), await := none }) s
        | none => setPtp i (fun x => { x with await := some (seq, t2) }) s
    | .followUp seq t1 =>
      match ours, x.await with
      | true, some (q, t2) => if q = seq then setPtp i (fun x => { x with sync := some (t1, t2), await := none }) s else s
      | _, _ => s
    | .delayResp seq t4 interval =>
      match ours, x.req, x.sync with
      | true, some (q, t3), some (t1, t2) =>
        if q = seq then
          let a : Int := (t2 : Int) - t1
          let b : Int := (t4 : Int) - t3
          s |> setPtp i (fun x => { x with reqLog := some interval })
            |> measured i ((b - a).tdiv (2 * nsUnit)) ((a + b).tdiv (2 * nsUnit))
        else s
      | _, _, _ => s
    | .other => s

/-- Three Announce intervals have passed without an Announce of the master (R461). -/
def announceLate (i : Nat) (s : State) : State :=
  if ptpOn i s && (ptp i s).master.isSome && (ptp i s).annAt + 3 * logTime (ptp i s).annLog ≤ s.now then
    s |> bump32 TIM_PTP_TIMEOUT_CNT.COUNT TIM_PTP_EVT.TIMEOUT_OVF i |> raise [TIM_PTP_EVT.TIMEOUT] i
      |> setPtp i (fun x => { delaySeq := x.delaySeq }) |> setPtpState i ptpListening
  else s

/-- A Delay_Req, at the interval that the master's Delay_Resp gives; its timestamp is that of the port (R375, R461). -/
def sendDelayReq (i : Nat) (s : State) : State :=
  let x := ptp i s
  let k := getF TIM_PTP_CFG.LP i s
  let due := match x.reqLog with | some l => x.reqAt + logTime l ≤ s.now | none => true
  if ptpOn i s && due && (portState i s = ptpUncalibrated || portState i s = ptpSlave) then
    let tag := if getB TIM_PTP_CFG.TAG i s then some (getF TIM_PTP_CFG.PCP i s * 8192 + getF TIM_PTP_CFG.VID i s) else none
    s |> setPtp i (fun y => { y with req := some (x.delaySeq, txStamp k s.now s), delaySeq := (x.delaySeq + 1) % 65536, reqAt := s.now })
      |> emit (.delayReq i k x.delaySeq (getB TIM_PTP_CFG.DELAY_UC i s) (getB TIM_PTP_CFG.TRANSPORT i s) tag)
  else s

def timCounters : List Fld := [TIM_STEP_CNT.COUNT, TIM_EVT.STEP_OVF, TIM_PTP_TIMEOUT_CNT.COUNT, TIM_PTP_EVT.TIMEOUT_OVF]

/-! ### Meanings -/

/-- REF_ACTIVITY_LOSS -/
def execRefActivityLoss (t n : Nat) (s : State) : Host.Outcome State Fault Refusal := .next (onService t (refLoss n) s)

/-- REF_WINDOW_UPDATE -/
def execRefWindowUpdate (t n : Nat) (m : RefMeas) (s : State) : Host.Outcome State Fault Refusal := .next (onService t (refWindow n m) s)

/-- REF_WTR_EXPIRE -/
def execRefWtrExpire (t n : Nat) (s : State) : Host.Outcome State Fault Refusal := .next (onService t (refWtr n) s)

/-- TRANSITION_MEASURE_END -/
def execTransitionMeasureEnd (t : Nat) (s : State) : Host.Outcome State Fault Refusal := .next (onService t transEnd s)

/-- PIP_FORCE_EN -/
def execPipForceEn (t : Nat) (en : Bool) (ref : Nat) (s : State) : Host.Outcome State Fault Refusal := .next (onHost t (forceEn en ref) s)

/-- PIP_FORCE_HOLD -/
def execPipForceHold (t : Nat) (on : Bool) (s : State) : Host.Outcome State Fault Refusal := .next (onHost t (forceHold on) s)

/-- REF_PRIO_WRITE -/
def execRefPrioWrite (t n prio : Nat) (lockout : Bool) (bad : List Nat) (s : State) : Host.Outcome State Fault Refusal :=
  .next (onHost t (refPrio n prio lockout bad) s)

/-- PIP_CLR_CNT -/
def execPipClrCnt (s : State) : Host.Outcome State Fault Refusal := .next (whenHost (clearFlds pipCounters) s)

/-- PLANE_FRAME_BOUNDARY -/
def execPlaneFrameBoundary (t p : Nat) (pulse : Option Nat) (s : State) : Host.Outcome State Fault Refusal :=
  .next (onService t (planeFrame p pulse) s)

/-- HARD_REALIGN -/
def execHardRealign (t p : Nat) (s : State) : Host.Outcome State Fault Refusal := .next (onHost t (orderRealign p) s)

/-- PULSE_EVENT -/
def execPulseEvent (t k src : Nat) (s : State) : Host.Outcome State Fault Refusal := .next (onService t (pulse k src) s)

/-- PULSE_CONFIG_WRITE -/
def execPulseConfigWrite (t k cfg offset : Nat) (s : State) : Host.Outcome State Fault Refusal := .next (onHost t (pulseWrite k cfg offset) s)

/-- TIME_SERVO_UPDATE -/
def execTimeServoUpdate (t : Nat) (theta : Int) (s : State) : Host.Outcome State Fault Refusal := .next (onService t (servo theta) s)

/-- LOCAL_TIME_SECOND -/
def execLocalTimeSecond (t : Nat) (s : State) : Host.Outcome State Fault Refusal := .next (onService t second s)

/-- TIM_SET_APPLY -/
def execTimSetApply (t : Nat) (s : State) : Host.Outcome State Fault Refusal := .next (onHost t timApply s)

/-- TIM_CLR_CNT -/
def execTimClrCnt (s : State) : Host.Outcome State Fault Refusal := .next (whenHost (clearFlds timCounters) s)

/-- PTP_CFG_WRITE -/
def execPtpCfgWrite (t i value : Nat) (s : State) : Host.Outcome State Fault Refusal := .next (onHost t (ptpCfg i value) s)

/-- PTP_MESSAGE_RX -/
def execPtpMessageRx (t i domain : Nat) (src : Nat × Nat) (msg : PtpMsg) (s : State) : Host.Outcome State Fault Refusal :=
  .next (onService t (ptpMessage i domain src msg) s)

/-- ANNOUNCE_TIMEOUT -/
def execAnnounceTimeout (t i : Nat) (s : State) : Host.Outcome State Fault Refusal := .next (onService t (announceLate i) s)

/-- DELAY_REQ_TX -/
def execDelayReqTx (t i : Nat) (s : State) : Host.Outcome State Fault Refusal := .next (onService t (sendDelayReq i) s)

end Sys2Proof.Machine
end

