-- ==== Sys2Proof/Machine/TwinOps.lean ====
section
/-! DEFINITION. The twin's operations: paths and their loss, double claims, roles by barks, withdrawal, mirrors and decisions taken by
HEEL, health records (R487 to R514). -/

namespace Sys2Proof.Machine

def solo (s : State) : Bool := getB TWN_CFG.SOLO 0 s

/-- The twin's messages are heard: the link path is up, the digest is not known to differ, the service pair runs (R487, R506). -/
def hearsTwin (s : State) : Bool := getB TWN_STATUS.LINK_UP 0 s && !s.twin.digestBad && !s.twin.hardware

/-! ### Withdrawal (R506) -/

/-- The output lanes leave ACTIVE for electrical idle; in the watchdog's hardware yield no other rule of the chapter acts. -/
def withdraw (s : State) : State :=
  let ls := (indicesWhere LNO_STATUS.STATE (· == stActive) s).filter (fun n => n < 2048)
  s |> forEach ls (fun n s => s |> setF LNO_STATUS.STATE n stIdle |> raiseLane [LNO_EVT.DOWN] n
                                |> (fun s => if s.twin.hardware then s else noteDrop n s))
    |> setF TWN_STATUS.WITHDRAWN 0 1 |> setTwin (fun w => { w with withdrawn := ls, withdrawnAt := s.now })

/-- The lanes return to ACTIVE. -/
def returnLanes (s : State) : State :=
  let ls := s.twin.withdrawn
  s |> setF TWN_STATUS.WITHDRAWN 0 0 |> setTwin (fun w => { w with withdrawn := [] })
    |> forEach ls (fun n s => if outState n s = stIdle && getF LNO_CTL.TARGET_STATE n s != 1 then outActive n s else s)

/-- A YIELDED module becomes HEEL (R500, R506). -/
def yieldedToHeel (s : State) : State :=
  enterRole roleHeel (if getB TWN_STATUS.WITHDRAWN 0 s then returnLanes s else s)

/-! ### Paths (R496, R497) -/

def pathFld (p : Nat) : Fld := if p = 0 then TWN_STATUS.LINK_UP else TWN_STATUS.WATCH_UP
def pathSt (p : Nat) (s : State) : PathSt := if p = 0 then s.twin.link else s.twin.watch
def setPath (p : Nat) (f : PathSt → PathSt) (s : State) : State :=
  setTwin (fun w => if p = 0 then { w with link := f w.link } else { w with watch := f w.watch }) s

/-- The twin link is lost (R510). -/
def linkLost (s : State) : State :=
  let s := s |> setF TWN_PHASE.PHASE_NS 0 0x80000000 |> setF TWN_STATUS.SYNC 0 0
    |> setTwin (fun w => { w with
         resync := .idle, serving := none, served := false,
         unacked := w.unacked.filter (fun u => match u.1 with | .resyncReq _ => false | .state _ _ => false | _ => true) })
    |> refLoss refTwin
  let s := if role s = roleHeel then markStale true s else s
  if role s = roleLead then
    setCmd (fun m => { m with opens := m.opens.map (fun c => if c.mirrored && !c.reported then { c with solo := true } else c) }) s
  else s

/-- Eight bark periods have passed without a bark on path `p`: decided 8.5 ms after the last one. -/
def losePath (p : Nat) (s : State) : State :=
  if !getB (pathFld p) 0 s || s.now < (pathSt p s).at_ + 8500 * usUnit then s
  else
    let s := s |> setF (pathFld p) 0 0 |> setPath p (fun x => { x with good := 0 }) |> raise [TWN_EVT.PATH] 0
    let s := if p = 0 then linkLost s else s
    if twinSilent s then s |> raise [TWN_EVT.TWIN_LOST] 0 |> setTwin (fun w => { w with silentAt := some s.now }) else s

/-- One more bark on path `p`, of sequence `seq`; the third in a row makes it up. -/
def goodBark (p seq : Nat) (s : State) : State :=
  let n := min 3 ((pathSt p s).good + 1)
  let s := setPath p (fun x => { x with good := n, got := true, bseq := seq, at_ := s.now }) s
  if n = 3 && !getB (pathFld p) 0 s then
    let s := s |> setF (pathFld p) 0 1 |> raise [TWN_EVT.PATH] 0 |> setTwin (fun w => { w with silentAt := none })
    if solo s then s else setF TWN_STATUS.TWIN_PRESENT 0 1 s
  else s

/-- A bark period without a bark on path `p` is counted, and ends a run of barks. -/
def missBark (p : Nat) (s : State) : State :=
  if (pathSt p s).got then setPath p (fun x => { x with got := false }) s
  else
    let s := if p = 0 then bump32F TWN_LINK_MISS_CNT.COUNT TWN_CNT_FLAGS.OVF 0 0 1 s
             else bump32F TWN_WATCH_MISS_CNT.COUNT TWN_CNT_FLAGS.OVF 1 0 1 s
    if getB (pathFld p) 0 s then s else setPath p (fun x => { x with good := 0 }) s

/-- The report of a silent twin's contacts lapses 8.5 ms after it fell silent (R497). -/
def lapseContacts (s : State) : State :=
  match s.twin.silentAt with
  | some x => if x + 8500 * usUnit ≤ s.now then
      s |> setTwin (fun w => { w with silentAt := none }) |> setTwinContact 0 stNormal |> setTwinContact 1 stNormal
    else s
  | none => s

/-! ### Sending barks (R490, R493, R494, R506) -/

/-- The service pair runs: debug has not halted it (R685). -/
def serviceRuns (s : State) : Bool := !getB DBG_ENG_STATUS.HALTED 161 s && !s.twin.hardware

/-- The first block start after a millisecond of local time is now: less than a block, 682.67 ns, after it, and no bark of this
millisecond has been sent (R490, R493). -/
def barkInstant (s : State) : Bool :=
  localTime s % msUnit < blockUnits && s.twin.barkMs != some (localTime s / msUnit)

/-- TWIN has had no time code of LEAD for 10 ms (R437). -/
def loseCode (s : State) : State := if leadCode s then s else refLoss refTwin s

/-- Where the image enables no plane, the step of R514 falls at the next whole multiple of 40 ms of LEAD's time, on HEEL at the first
bark after it. -/
def stepNoPlane (s : State) : State :=
  if planesOn s != [] || s.twin.hardware then s
  else
    let k := ((((localNs s : Int) + (if stepDue s then s.twin.offset else 0)) / 40000000).toNat)
    match s.twin.stepFrom with
    | some j =>
      if !(stepDue s || s.twin.serving.isSome) then setTwin (fun w => { w with stepFrom := none }) s
      else if j < k then s |> setTwin (fun w => { w with stepFrom := some k }) |> twinStep else s
    | none => if stepDue s || s.twin.serving.isSome then setTwin (fun w => { w with stepFrom := some k }) s else s

/-- One bark period. The service pair refreshes the claim watchdog at each bark (R506). -/
def sendBarks (s : State) : State :=
  if !barkInstant s || (getB DBG_ENG_STATUS.HALTED 161 s && !s.twin.hardware) then s
  else
    let s := setTwin (fun w => { w with
      bseq := (w.bseq + 1) % 2 ^ 32, barked := true, barkMs := some (localTime s / msUnit), fedAt := s.now }) s
    let s := if s.twin.hardware || twinTxLanes s = [] then s else emit (.bark 0 (barkFrame kindBark 0 s)) s
    let s := if s.dbg.tapTest then s else emit (.bark 1 (barkFrame kindBark 1 s)) s
    if s.twin.hardware then s else s |> missBark 0 |> missBark 1 |> lapseContacts |> loseCode |> stepNoPlane

/-! ### Roles by barks (R500, R503) -/

/-- The twin wins a double claim. -/
def twinWins (b : Bark) (s : State) : Bool :=
  let own := getF TWN_EVID.OWN 0 s
  let ep := getF TWN_EPOCH.EPOCH 0 s
  decide (own < b.own) || (b.own == own && (decide (ep < b.epoch) || (b.epoch == ep && getB TWN_STATUS.SIDE_B 0 s)))

/-- Both claim: counted once for each double claim. -/
def noteDouble (b : Bark) (s : State) : State :=
  if b.claim && getB TWN_STATUS.CLAIM 0 s then
    if s.twin.doubled then s
    else s |> setTwin (fun w => { w with doubled := true }) |> bump32F TWN_DOUBLE_CLAIM_CNT.COUNT TWN_CNT_FLAGS.OVF 4 0 1
           |> raise [TWN_EVT.DOUBLE_CLAIM] 0
  else setTwin (fun w => { w with doubled := false }) s

/-- The move that a bark makes from a role. -/
def barkRole (b : Bark) (s : State) : State :=
  if solo s then s
  else if role s = roleInit then
    if s.twin.handshakeAt.isNone then s
    else if b.role = roleLead then enterRole roleHeel s
    else if b.role = roleInit then
      let ep := getF TWN_EPOCH.EPOCH 0 s
      if b.epoch < ep || (b.epoch = ep && !getB TWN_STATUS.SIDE_B 0 s) then enterRole roleLead s else enterRole roleHeel s
    else enterRole roleLead s
  else if role s = roleLead then
    if b.claim && twinWins b s then enterRole roleHeel s else s
  else if role s = roleHeel then
    if b.kind = kindYield then enterRole roleLead s else s
  else if b.claim then yieldedToHeel s
  else s

/-- Delay, offset and phase that a twin-link bark measures (R511, R521): half the round trip; LEAD's time less this module's; the
phase of the blocks, which is within 25 ns while HEEL is aligned and otherwise as the lanes are (log entry 30). -/
def linkMeasures (b : Bark) (s : State) : State :=
  let now := localNs s
  let d : Int := (((now : Int) - b.echoTx) - ((b.txTime : Int) - b.echoRx)) / 2
  let s := if b.echoTx = 0 then s else setF TWN_LINK_DELAY.DELAY_NS 0 (ofSigned 32 d) s
  let s := setTwin (fun w => { w with echoTx := b.txTime, echoRx := now, offset := (b.txTime : Int) + d - now }) s
  let v := freeBits 32 s
  drawn s |> setF TWN_PHASE.PHASE_NS 0 (if onTwin s then ofSigned 32 ((v % 51 : Nat) - 25) else v)

/-- A bark on path `p` has a BSEQ not before that of the other path's last one, the number wrapping, or the other path is down (R497). -/
def laterReport (p seq : Nat) (s : State) : Bool :=
  !getB (pathFld (1 - p)) 0 s || (seq + 2 ^ 32 - (pathSt (1 - p) s).bseq) % 2 ^ 32 < 2 ^ 31

/-- What a bark on path `p` says of the twin. -/
def noteTwin (p : Nat) (b : Bark) (s : State) : State :=
  let s := if b.role = s.twin.last.role then s
    else setTwin (fun w => { w with served := false, unacked := w.unacked.filter (fun u => match u.1 with | .resyncReq _ => false | .state _ _ => false | _ => true) }) s
  let s := if b.role = roleInit then s |> setF TWN_STATUS.DIGEST_OK 0 0 |> setTwin (fun w => { w with linkDeaf := false }) else s
  let s := s |> setTwin (fun w => { w with last := b }) |> setF TWN_STATUS.TWIN_ROLE 0 b.role |> setB TWN_STATUS.TWIN_CLAIM 0 b.claim
             |> setB TWN_STATUS.TWIN_FIT 0 b.fit
  if laterReport p b.bseq s then s |> setTwinContact 0 (bits b.contacts 0 2) |> setTwinContact 1 (bits b.contacts 2 2) else s

/-- The path's receiver failed its calibration (R600). -/
def pathDead (p : Nat) (s : State) : Bool := if p = 0 then getB SYS_FAIL_MISC.TWIN 0 s else getB SYS_FAIL_MISC.WATCH 0 s

/-- A bark arrives on path `p` (R487, R496, R506). One with another PAIR_ID, or after a health record with another digest, is
ignored; the latter on the twin link only, which is where health records travel, and until a bark shows INIT and so makes the digest
unconfirmed (log entry 30). -/
def rxBark (p : Nat) (bytes : List Byte) (s : State) : State :=
  match parseBark bytes with
  | none => s
  | some b =>
    if !imageRuns s || pathDead p s then s
    else if b.pairId != getF TWN_PAIR_ID.ID 0 s then raise [TWN_EVT.PAIR_MISMATCH] 0 s
    else if s.twin.hardware then
      if p = 1 && b.claim && role s = roleYielded then yieldedToHeel s else s
    else if s.twin.linkDeaf && p = 0 && b.role != roleInit then s
    else
      let s := s |> goodBark p b.bseq |> noteTwin p b
      let s := if p = 0 then linkMeasures b s else s
      let s := if p = 0 && b.role = roleLead then setTwin (fun w => { w with leadAt := some s.now }) s else s
      s |> noteDouble b |> barkRole b

/-! ### Timers -/

def handshakeEnd (s : State) : State :=
  match s.twin.handshakeAt with
  | some h => if role s = roleInit && h + getF TWN_CFG.HANDSHAKE_MS 0 s * msUnit ≤ s.now && !s.twin.hardware then
      enterRole roleLead (setF TWN_STATUS.TWIN_PRESENT 0 0 s) else s
  | none => s

def heldFor (since : Option Nat) (d : Nat) (s : State) : Bool := match since with | some x => decide (x + d ≤ s.now) | none => false

/-- The evidence rules of R502. -/
def evidence (s : State) : State :=
  let s := updateEvidence s
  if s.twin.hardware || solo s then s
  else if role s = roleHeel && twinSilent s && heldFor s.twin.ownSince (2 * msUnit) s then enterRole roleLead s
  else if role s = roleLead && heldFor s.twin.twinSince (20 * msUnit) s then enterRole roleYielded s
  else s

/-- The service pair has not refreshed the claim watchdog for 4 ms of the claim. -/
def watchdogDue (s : State) : Bool := getB TWN_STATUS.CLAIM 0 s && max s.twin.fedAt s.twin.roleAt + 4 * msUnit ≤ s.now

/-- The claim watchdog expires: a self-diagnosis failure, and the module yields in hardware; one whose image sets SOLO never yields
(R488, R505, R506). -/
def watchdog (s : State) : State :=
  if !watchdogDue s then s
  else
    let s := setDiag diagWatchdog s
    if solo s then s else s |> setTwin (fun w => { w with hardware := true }) |> enterRole roleYielded

/-- 20 ms in YIELDED without a claim of the twin. -/
def yieldEnd (s : State) : State :=
  if role s = roleYielded && !getB TWN_STATUS.WITHDRAWN 0 s && s.twin.roleAt + 20 * msUnit ≤ s.now then withdraw s else s

/-- 200 ms after the withdrawal. -/
def withdrawOver (s : State) : State :=
  if role s = roleYielded && getB TWN_STATUS.WITHDRAWN 0 s && s.twin.withdrawnAt + 200 * msUnit ≤ s.now then yieldedToHeel s else s

/-- A condition of R505 that a time restores: every lane ACTIVE again for 1 s, the warning cleared for 60 s (log entry 31). -/
def fitRestore (k : Nat) (s : State) : State :=
  if k = diagLanes then (if assignedActive s && heldFor s.twin.lanesSince secUnit s then clearDiag k s else s)
  else if k = diagThermal then
    (match s.mon.clearAt with | some x => if x + 60 * secUnit ≤ s.now then clearDiag k s else s | none => s)
  else s

/-! ### Mirrors on HEEL (R507, R514) -/

/-- First failing check under this module's own state; none when the command would be accepted. -/
def mirrorCheck (m : Mirror) (s : State) : Option Nat :=
  match eOpcode m.raw with
  | 0x10 => takeCheck (takeOpAt m.raw 24) s
  | 0x11 => (salvoCheck 0 [] (salvoOps m.raw m.data) s).map (·.1)
  | 0x18 => freezeCheck m.raw s
  | 0x19 => captureCheck m.raw s
  | 0x1A => selectCheck m.raw s
  | 0x20 =>
    if !engineOk (cmpEngine m.raw) s then some stBadEngine
    else match shadowCheck (cmpEngine m.raw) (shadowRecords m.raw m.data) s with
      | some (st, _) => some st
      | none =>
        let w := writeShadows m.raw m.data s
        if cmpCommitFlag m.raw then (commitCheck (cmpEngine m.raw) (takeCopy (cmpEngine m.raw) w) w).map (·.1) else none
  | 0x21 =>
    if !engineOk (cmpEngine m.raw) s then some stBadEngine
    else (commitCheck (cmpEngine m.raw) (takeCopy (cmpEngine m.raw) s) s).map (·.1)
  | 0x30 => (mapCheck (mapRecords m.raw m.data) s).map (·.1)
  | 0x31 => if rwEngine m.raw < 128 && getB REE_ENG_CFG.ENABLED (rwEngine m.raw) s then none else some stBadEngine
  | 0x38 => (flowCheck (flowRecords m.raw m.data) s).map (·.1)
  | _ => none

/-- Statuses that say the structure lacks what the command names. -/
def lacking (st : Nat) : Bool :=
  [stBadOutput, stBadSource, stBadAlloc, stBadEngine, stBadSlot, stBadRing, stBadContext, stBadPort].contains st

/-- A shadow record names a head or an allocation that the engine's structure lacks. -/
def shadowLacks (e : Nat) (r : List Nat) (s : State) : Bool :=
  match rWord r 0 / 2 ^ 30 with
  | 1 => (headOf e (rHead r) s).isNone || allocClass (rAlloc r) s == clAbsent
  | 2 => !(headsOf e s).contains (rWord r 0 % 128)
  | _ => false

/-- A mirror names something, in whichever of its members, that this module's structure lacks (R507). -/
def mirrorLacks (m : Mirror) (s : State) : Bool :=
  (match mirrorCheck m s with | some st => lacking st | none => false)
  || match eOpcode m.raw with
    | 0x11 => (salvoOps m.raw m.data).any (fun x => match takeCheck x s with | some st => lacking st | none => false)
    | 0x20 => (shadowRecords m.raw m.data).any (fun r => shadowLacks (cmpEngine m.raw) r s)
    | 0x30 => ((mapRecords m.raw m.data).map recordOf).any (fun x => !slotOk x s || !mapEngineOk x s || !ringsOk x s)
    | 0x38 => (flowRecords m.raw m.data).any (fun ws => recCtxKind ws s == 0 || !portsOk ws s || !sourceOk ws s)
    | _ => false

/-- Members of a command. -/
def mirrorMembers (raw : List Byte) : Nat :=
  if eOpcode raw = 0x11 then leAt raw 32 4 else if eOpcode raw = 0x38 then mapCount raw else 1

/-- Arm the effect of a mirrored command. -/
def mirrorApply (m : Mirror) (uid : Nat) (due : Due) (s : State) : State :=
  match eOpcode m.raw with
  | 0x10 => takeApply m.raw uid due s
  | 0x11 => salvoApply m.raw m.data uid due s
  | 0x18 => freezeApply m.raw uid due s
  | 0x19 => if (newestFrame (knlAlloc m.raw) s).isSome then captureApply m.raw uid s else memberEnd uid s
  | 0x1A => selectApply m.raw uid due s
  | 0x20 => shadowApply m.raw m.data uid due s
  | 0x21 => commitApply m.raw uid due s
  | 0x28 => bundleApply m.data uid s
  | 0x29 => reqApply m.data uid s
  | 0x30 => audMapApply m.raw m.data uid due s
  | 0x31 => reeWriteApply m.raw m.data uid due s
  | 0x38 => flwApply m.raw m.data uid due s
  | _ => memberEnd uid s

/-- HEEL takes a mirror: not one that came after its arm deadline (R48); no part of one whose object this module lacks, which is
reported as not applied; one that it would refuse is applied and marks it STALE. `queued`: a mirror that waited for the state, whose
points may have passed. -/
def takeMirror (queued : Bool) (m : Mirror) (s : State) : State :=
  let late := match m.deadline with | some d => decide (d < localTime s) | none => false
  let s := setTwin (fun w => { w with mseqWant := some (m.mseq + 1) }) s
  if late && !queued then markStale true s
  else
    if mirrorLacks m s then s |> markStale true |> sendTwin (.commitRpt m.mseq false)
    else
      let s := if (mirrorCheck m s).isSome then markStale true s else s
      let due := if late then dueAhead s.now else m.due
      let (uid, s) := openMirror m (mirrorMembers m.raw) due s
      s |> setF TWN_MSEQ.MSEQ 0 (max (getF TWN_MSEQ.MSEQ 0 s) m.mseq) |> mirrorApply m uid due

/-- Mirrors wait for the state. -/
def queueing (s : State) : Bool := s.twin.resync == .requested || s.twin.resync == .acked || s.twin.resync == .stepped

/-- A MIRROR message (R507). -/
def rxMirror (m : Mirror) (s : State) : State :=
  if role s != roleHeel || !hearsTwin s || getB TWN_CTL.FEED_BOTH 0 s then s
  else
    let s := s |> sendTwin (.mirrorAck m.mseq) |> setF TWN_RING_LAST.VALID m.ring 1 |> setF TWN_RING_LAST.INDEX m.ring m.entry
    if queueing s then
      if s.twin.queued.any (fun q => q.mseq == m.mseq) then s else setTwin (fun w => { w with queued := w.queued ++ [m] }) s
    else match s.twin.mseqWant with
      | some w => if m.mseq < w then s else takeMirror false m (if w < m.mseq then markStale true s else s)
      | none => takeMirror false m s

/-- Mirrors in rising MSEQ. -/
def insertMirror (m : Mirror) : List Mirror → List Mirror
  | [] => [m]
  | x :: xs => if m.mseq < x.mseq then m :: x :: xs else x :: insertMirror m xs

def sortMirrors (ms : List Mirror) : List Mirror := ms.foldl (fun l m => insertMirror m l) []

/-! ### Answers on LEAD -/

def modMirrored (mseq : Nat) (f : OpenCmd → OpenCmd) (s : State) : State :=
  setCmd (fun m => { m with opens := m.opens.map (fun c => if c.mirrored && c.mseq = mseq then f c else c) }) s

def rxMirrorAck (mseq : Nat) (s : State) : State :=
  if role s != roleLead || !hearsTwin s then s
  else
    s |> modMirrored mseq (fun c => { c with acked := match c.acked with | some a => some a | none => some s.now })
      |> setTwin (fun w => { w with unacked := w.unacked.filter (fun u => match u.1 with | .mirror m => m.mseq != mseq | _ => true) })

def rxCommitRpt (mseq : Nat) (applied : Bool) (s : State) : State :=
  if role s != roleLead || !hearsTwin s then s
  else modMirrored mseq (fun c => { c with reported := true, solo := c.solo || !applied }) s

/-! ### Decisions on HEEL (R509) -/

def putChoice (c : Choice) (s : State) : State := setTwin (fun w => { w with choices := w.choices ++ [c] }) s

def lateChoice (s : State) : State :=
  s |> bump32F TWN_DECIDE_LATE_CNT.COUNT TWN_CNT_FLAGS.OVF 6 0 1 |> raise [TWN_EVT.DECIDE_LATE] 0

/-- A frame that comes after the point it names: one more repeat or drop at the next point, none where both chose the same. -/
def catchUp (shown : Option Nat) (n : Nat) : Option Nat :=
  match shown with
  | some m => if n = m then none else if n < m then some m else some (n + 1)
  | none => some n

def rxDecision (c : Choice) (s : State) : State :=
  if role s != roleHeel || !hearsTwin s then s
  else match c with
  | .slip r d n =>
    if getF AUD_BLOCK.COUNT 0 s < n then putChoice c s else s |> lateChoice |> putChoice (.slip r d (getF AUD_BLOCK.COUNT 0 s + 1))
  | .path o m x =>
    if localTime s < x then putChoice c s
    else
      let s := lateChoice s
      if outMode o s != m && (m = mDirect || m = mFallback) then orderMove o m s else s
  | .reader a p n x =>
    if localTime s < x then putChoice c s
    else
      let s := lateChoice s
      match catchUp (reader a p s).shown n with | some k => putChoice (.reader a p k x) s | none => s
  | .layer l n x =>
    if localTime s < x then putChoice c s
    else
      let s := lateChoice s
      match catchUp (layerSt l s).shown n with | some k => putChoice (.layer l k x) s | none => s
  | .rxFrame c ok lost => rxDecide c ok lost s
  | .points m due =>
    match s.cmd.opens.find? (fun x => x.mirror && x.mseq == m) with
    | none => s
    | some x =>
      match due with
      | some d => moveMembers x.uid d s
      | none => s |> dropMembers (· == x.uid) |> setCmd (fun q => { q with opens := q.opens.filter (fun y => y.uid != x.uid) })

/-! ### Resynchronisation messages (R514) -/

def rxResyncReq (mseq : Nat) (s : State) : State :=
  if role s != roleLead || !hearsTwin s || getB TWN_CTL.FEED_BOTH 0 s then s
  else s |> sendTwin (.resyncAck mseq) |> setTwin (fun w => { w with serving := match w.serving with | some x => some x | none => some s.now })

def rxResyncAck (mseq : Nat) (s : State) : State :=
  if role s = roleHeel && hearsTwin s && s.twin.resync = .requested && mseq = s.twin.reqMseq then
    setTwin (fun w => { w with
      resync := .acked, unacked := w.unacked.filter (fun u => match u.1 with | .resyncReq _ => false | _ => true) }) s
  else s

/-- STATE: HEEL takes it once it has stepped, then the queued mirrors after m0. -/
def rxState (mseq : Nat) (c : TwinCopy) (s : State) : State :=
  if role s != roleHeel || !hearsTwin s then s
  else if s.twin.resync = .applying then sendTwin (.stateAck mseq) s
  else if s.twin.resync != .stepped then s
  else
    let qs := (sortMirrors s.twin.queued).filter (fun m => c.m0 < m.mseq)
    s |> sendTwin (.stateAck mseq) |> setF TWN_MSEQ.MSEQ 0 c.m0
      |> setTwin (fun w => { w with resync := .applying, queued := [], mseqWant := some (c.m0 + 1) })
      |> takeState c |> forEach qs (takeMirror true)

def rxStateAck (s : State) : State :=
  if role s = roleLead && hearsTwin s then
    setTwin (fun w => { w with unacked := w.unacked.filter (fun u => match u.1 with | .state _ _ => false | _ => true) }) s
  else s

/-- Messages that have waited 100 µs for their acknowledgement are sent again (R492). -/
def retransmit (s : State) : State :=
  let passed (m : Mirror) : Bool := s.cmd.opens.all (fun c => !(c.mirrored && c.mseq == m.mseq && c.left != 0))
  let keep := s.twin.unacked.filter (fun u => match u.1 with | .mirror m => !passed m && !getB TWN_CTL.FEED_BOTH 0 s | _ => true)
  let due := keep.filter (fun u => u.2 + 100 * usUnit ≤ s.now)
  s |> setTwin (fun w => { w with unacked := keep.map (fun u => if u.2 + 100 * usUnit ≤ s.now then (u.1, s.now) else u) })
    |> forEach due (fun u s => sendTwin u.1 s)

/-! ### Health (R487, R512, R513) -/

/-- The first 8 bytes of the image's digest. -/
def ownDigest (s : State) : List Byte := leBytes 4 (getF SYS_IMG_DIGEST.WORD 0 s) ++ leBytes 4 (getF SYS_IMG_DIGEST.WORD 1 s)

def assignedIn (s : State) : Nat := 16 * (indicesWhere LNI_GRP_CFG.ENABLED (· == 1) s).length
def activeBackplane (f : Fld) (s : State) : Nat := ((indicesWhere f (· == stActive) s).filter (fun n => n < 2048)).length

/-- Bytes 0 to 59 of the record. -/
def healthBody (s : State) : List Byte :=
  let st (f : Fld) := getF f 0 s
  leBytes 1 1 ++ leBytes 1 (role s) ++ leBytes 1 (st TWN_STATUS.SYNC)
    ++ leBytes 1 (st TWN_STATUS.FIT + 2 * st TWN_STATUS.STALE + 4 * b2n (!s.twin.diag.testBit diagLockstep)
                  + 8 * b2n (!s.twin.diag.testBit diagStore && !s.pst.dead) + 16 * b2n (pipState s == pipLocked) + 32 * st MON_THERM_STATUS.WARN)
    ++ leBytes 4 s.twin.hseq ++ ownDigest s ++ leBytes 4 s.twin.sniffSeq ++ leBytes 2 s.twin.sniffFail ++ leBytes 2 s.twin.sniffSkip
    ++ leBytes 2 (assignedOut s - activeBackplane LNO_STATUS.STATE s) ++ leBytes 2 (assignedIn s - activeBackplane LNI_STATUS.STATE s)
    ++ leBytes 1 (st SYS_FAIL_MISC.STACK ||| s.twin.stackBad) ++ leBytes 1 (st MON_THERM_STATUS.MAX_C) ++ leBytes 2 s.twin.diag
    ++ leBytes 8 (st TWN_MSEQ.MSEQ) ++ leBytes 6 (timeSec (localTime s)) ++ List.replicate 14 0#8

def healthRecord (s : State) : List Byte := healthBody s ++ leBytes 4 (crc32 (healthBody s))

def setHealth (f : Fld) (r : List Byte) (s : State) : State := forEach (List.range 16) (fun w s => setF f w (leAt r (4 * w) 4) s) s

/-- Every 100 ms the record is built and sent. -/
def sendHealth (s : State) : State :=
  if s.twin.hardware || s.twin.healthAt.any (fun x => s.now < x + 100 * msUnit) then s
  else
    let s := setTwin (fun w => { w with hseq := (w.hseq + 1) % 2 ^ 32, healthAt := some s.now }) s
    s |> setHealth TWN_HEALTH_OWN.WORD (healthRecord s) |> sendTwin (.health (healthRecord s))

def rxHealth (r : List Byte) (s : State) : State :=
  if s.twin.hardware || !(getB TWN_STATUS.LINK_UP 0 s || s.twin.digestBad) || r.length != 64 || leAt r 60 4 != crc32 (r.take 60) || leAt r 0 1 != 1 then s
  else
    let s := setHealth TWN_HEALTH_TWIN.WORD r s
    if (r.drop 8).take 8 = ownDigest s then s |> setTwin (fun w => { w with digestBad := false, linkDeaf := false }) |> setF TWN_STATUS.DIGEST_OK 0 1
    else s |> setTwin (fun w => { w with digestBad := true, linkDeaf := true }) |> setF TWN_STATUS.DIGEST_OK 0 0 |> raise [TWN_EVT.PAIR_MISMATCH] 0

/-- Steps of the sniff cycle that have nothing to test: no unassigned group gated (2), no stack on (3), no unassigned reed gated (4), no
bank gated (5); 2, 4 and 5 rest during the thermal warning (R512, R710). -/
def sniffSkips (s : State) : Nat :=
  let gatedIn (lo hi : Nat) : Bool := (List.range (hi - lo)).any (fun k => !getB PWR_DOM.ASSIGNED (lo + k) s && domState (lo + k) s == dGated)
  let warn := getB MON_THERM_STATUS.WARN 0 s
  let stackOn := (List.range 8).any (fun k => domState (432 + k) s != dGated)
  2 * b2n (warn || !gatedIn 0 256) + 4 * b2n (!stackOn) + 8 * b2n (warn || !gatedIn 272 400) + 16 * b2n (warn || !gatedIn 440 520)

/-- A sniff cycle of a HEEL, whose failing steps are `fails` (bit s - 1 for step s). Step 6 reads row `row` of the store, of which it
corrects `corr` words. -/
def sniff (fails row corr : Nat) (s : State) : State :=
  if role s != roleHeel || s.twin.hardware then s
  else
    let skip := sniffSkips s
    let bad := (List.range 6).filter (fun k => fails.testBit k && !skip.testBit k)
    let mask := bad.foldl (fun m k => m + 2 ^ k) 0
    let s := setTwin (fun w => { w with sniffSeq := (w.sniffSeq + 1) % 2 ^ 32, sniffFail := mask, sniffSkip := skip }) s
    let s := correctedReads row corr s
    let s := if bad.contains 5 then rowError row s else s
    let s := if bad = [] then s else
      s |> bump32F TWN_SNIFF_FAIL_CNT.COUNT TWN_CNT_FLAGS.OVF 8 0 bad.length |> raise [TWN_EVT.SNIFF_FAIL] 0
    if bad.any (fun k => k == 0 || k == 2 || k == 5) then setDiag diagSniff s else clearDiag diagSniff s

/-! ### LEAD's frame decisions (R509) -/

def decisionLead : Nat := 40 * usUnit

/-- The allocation's frames with the one in progress as ending at `endAt`. -/
def withFrameInProgress (a : Nat) (endAt : Option Nat) (s : State) : State :=
  match endAt with
  | some x => if (alloc a s).writing && !(alloc a s).damaged then
      setAlloc a (fun y => { y with frames := { num := y.next, fmt := y.fmt, endAt := x } :: y.frames }) s else s
  | none => s

def chosenNo : ReadChoice → Option Nat
  | .none => none
  | .first n => some n
  | .repeat n => some n
  | .next n => some n
  | .drop n => some n

/-- LEAD decides 40 µs before T or F what a reader or a layer will show, uses it, and sends it. -/
def leadDecides (layer : Bool) (a p : Nat) (endAt : Option Nat) (s : State) : State :=
  if role s != roleLead || !twinSynced s then s
  else
    let x := s.now + decisionLead
    let al := if layer then rAlloc (layerWords a s) else a
    if !written (allocClass al s) then s
    else
      let w := withFrameInProgress al endAt s
      let c := if layer then layerChoice al x (layerSt a s).shown w else chooseFrame al p x w
      match chosenNo c with
      | none => s
      | some n =>
        let d : Choice := if layer then .layer a n (toLocal x s) else .reader a p n (toLocal x s)
        s |> putChoice d |> sendTwin (.decision d)

end Sys2Proof.Machine
end

