-- ==== Sys2Proof/Machine/Access.lean ====
section
/-! DEFINITION. The register space: which fields a BAR0 offset holds, what a read returns, accesses that are refused and counted
(R11 to R16, R43, R44, R531, R596). -/

namespace Sys2Proof.Machine

/-! ### Where a field stands -/

/-- The field spans two registers (R14). -/
def Fld.spans (f : Fld) : Bool := 32 < f.lo + f.width

/-- A field in the window of a receive context, a transmit context, or a debug unit. -/
def rxWindow (f : Fld) : Bool := 0x1c10004 ≤ f.base && f.base < 0x1c20000
def txWindow (f : Fld) : Bool := 0x1c20004 ≤ f.base && f.base < 0x1c30000
def dbgWindow (f : Fld) : Bool := f.base = 0x2c00014 || f.base = 0x2c00018 || f.base = 0x2c00020 || f.base = 0x2c10000

/-- First instance and number of instances that the registers of `f` show: those of the selected context or unit in a window. -/
def shownInsts (f : Fld) (s : State) : Nat × Nat :=
  let w (n sel : Nat) : Nat × Nat := (n * sel, n)
  if rxWindow f then w (if f.stride = 4 then 8 else 1) (getF FLW_RX_SEL.CTX 0 s)
  else if txWindow f then w (if f.stride = 4 then 8 else 1) (getF FLW_TX_SEL.CTX 0 s)
  else if dbgWindow f then
    let u := getF DBG_ENG_SEL.UNIT 0 s
    if f.base = 0x2c00020 then w 4 u else if f.base = 0x2c10000 then w 16384 u else w 1 u
  else (0, f.count)

/-- Instance that the register at `off` shows of `f`, and whether it is the upper register of the two. -/
def instAt (f : Fld) (off : Nat) (s : State) : Option (Nat × Bool) :=
  if off < f.base then none
  else
    let (first, n) := shownInsts f s
    let d := off - f.base
    let k := if f.stride = 0 then 0 else d / f.stride
    let r := if f.stride = 0 then d else d % f.stride
    if n ≤ k then none
    else if r = 0 then some (first + k, false)
    else if r = 4 && f.spans then some (first + k, true)
    else none

/-- Fields of the register at `off`, each with its instance and whether its upper part stands there. -/
def fieldsAt (off : Nat) (s : State) : List (Fld × Nat × Bool) :=
  allFields.filterMap (fun f => (instAt f off s).map (fun p => (f, p)))

/-- HIF_EVT_POP0 to POP3 (R562). -/
def isPop (off : Nat) : Bool := 0x200020 ≤ off && off < 0x200030

/-- The snapshot copy of field `f` stands at the live offset plus 0x0010_0000: a block's chapter says so of LNI, LNO, XPT, KNL, CMP, AUD,
REE, ETH, PIP, TIM, TWN, HIF, SEC and MON and of FLW outside the context windows, whose copies the windows show (R422). -/
def Fld.snapShown (f : Fld) : Bool :=
  f.ctr && !rxWindow f && !txWindow f && 0x200000 ≤ f.base && !(0xe00000 ≤ f.base && f.base < 0x1000000)
    && !(0x2600000 ≤ f.base && f.base < 0x2800000) && !(0x2a00000 ≤ f.base && f.base < 0x2c00000)

/-- Offset of the live counters whose snapshot copies stand at `off` (R20). -/
def snapOf (off : Nat) : Nat := off - 0x100000
def snapFieldsAt (off : Nat) (s : State) : List (Fld × Nat × Bool) :=
  if off < 0x300000 then [] else (fieldsAt (snapOf off) s).filter (fun p => p.1.snapShown)

/-- Some register stands at `off`. -/
def occupied (off : Nat) (s : State) : Bool := isPop off || fieldsAt off s != [] || snapFieldsAt off s != []

/-! ### What a read returns -/

def mapOf (f : Fld) (p : Nat → Bool) (g : Nat) (s : State) : Nat :=
  (List.range 16).foldl (fun m k => if p (getF f (16 * g + k) s) then m + 2 ^ k else m) 0

/-- NO_PARTNER_MAP: the lane rests in NO_PARTNER, also through a probe (R69). -/
def restMap (inp : Bool) (g : Nat) (s : State) : Nat :=
  (List.range 16).foldl (fun m k =>
    if (if inp then (inLane (16 * g + k) s).noPartner else (outLane (16 * g + k) s).noPartner) then m + 2 ^ k else m) 0

/-- State of a domain: a lane group that is ON shows ASLEEP while every lane of it rests. -/
def domShown (d : Nat) (s : State) : Nat :=
  let st := domState d s
  if st = dOn && d < 256 then
    let f := if d < 128 then LNI_STATUS.STATE else LNO_STATUS.STATE
    let lanes := (List.range 16).map (· + 16 * (d % 128))
    if lanes.all (fun n => [stDeep, stNoPartner].contains (getF f n s)) then dAsleep else dOn
  else st

def countDoms (p : Nat → Bool) (s : State) : Nat := ((List.range 545).filter (fun d => p (domShown d s))).length

/-- Effective debug level (R679). -/
def lifecycleOpen (s : State) : Bool := let l := getF SEC_STATUS.LIFECYCLE 0 s; l == 0 || l == 3 || (l == 1 && !evalFixed s)
def effLevel (s : State) : Nat := max (getF SEC_STATUS.DEBUG_LEVEL 0 s) (if lifecycleOpen s then 1 else 0)

/-- The debug unit exists and the effective level opens it: reed engines and command processors at level 1, control pairs at level 2
(R681, R694). -/
def unitOk (u : Nat) (s : State) : Bool := u ≤ 161 && (if 160 ≤ u then 2 else 1) ≤ effLevel s

/-- The register at `off` belongs to the selected debug unit, which is refused (R681). -/
def unitRefused (off : Nat) (s : State) : Bool :=
  (off == 0x2c00014 || off == 0x2c00018 || (0x2c00020 ≤ off && off < 0x2c00030) || (0x2c10000 ≤ off && off < 0x2c20000))
    && !unitOk (getF DBG_ENG_SEL.UNIT 0 s) s

/-- Seconds of the debug lockout that remain (R645). -/
def lockoutLeft (s : State) : Nat := match s.sec.lockEnd with | some e => ceilDiv (e - s.now) secUnit | none => 0

/-- IDCODE (R676). -/
def idcodeVal (s : State) : Nat := getF SYS_INFO.STEP_MAJ 0 s % 16 * 2 ^ 28 + 0x2048 * 2 ^ 12 + 0x4E7 * 2 + 1

/-- Output slots whose path reads the elastic buffer of input slot `i`. -/
def fanout (i : Nat) (s : State) : Nat := ((fedBy i s).filter (fun o => outMode o s == mDirect || outMode o s == mFree)).length

/-- An IMAGE_WRITE or IMAGE_RELOAD is open (R577, R584). -/
def imageBusy (s : State) : Bool := s.cmd.opens.any (fun c => c.opcode == 0x40 || c.opcode == 0x41)

/-- The value that a field reads as: what it holds, or what the module derives at the read. -/
def readField (f : Fld) (i : Nat) (s : State) : Nat :=
  let is (g : Fld) : Bool := f.id == g.id
  if f.acc = .wo then 0
  else if is HIF_EVT_STATUS.LEVEL then s.evtFifo.length
  else if is HIF_EVT_STATUS.ARM then 0
  else if is HIF_STATUS.OPEN then openSlots s
  else if is HIF_STATUS.SLOTS_FULL then b2n (decide (1024 ≤ openSlots s))
  else if is HIF_SQ_STATUS.OPEN then openSlotsOf i s
  else if is LNI_GRP_STATUS.ACTIVE_MAP then mapOf LNI_STATUS.STATE (· == stActive) i s
  else if is LNI_GRP_STATUS.NO_PARTNER_MAP then restMap true i s
  else if is LNO_GRP_STATUS.ACTIVE_MAP then mapOf LNO_STATUS.STATE (· == stActive) i s
  else if is LNO_GRP_STATUS.NO_PARTNER_MAP then restMap false i s
  else if is LNO_PAY_CFG.CLAIM then getF TWN_STATUS.CLAIM 0 s
  else if is XPT_IN_STATUS.FANOUT then fanout i s
  else if is AUD_OUT_STATUS.NOVIDEO then b2n (noVideo i s)
  else if is FLW_TX_STATUS.SENDING then b2n (getB FLW_TX_STATUS.EN i s && getB TWN_STATUS.CLAIM 0 s)
  else if (is REE_PK_MAX.PEAK_MAX || is REE_PK_TP_MAX.TP_MAX || is REE_PK_100.PEAK_100) && !getB REE_PK_CFG.EN (i) s then 0
  else if is PIP_REF_STATUS.QUAL then
    (if !getB PIP_REF_CFG.USED i s then qUnused else if getB PIP_REF_CFG.LOCKOUT i s then qLockedOut else getF f i s)
  else if is PIP_PLANE_COUNT.COUNT || is PIP_PLANE_DEV.DEV then (if planeEnabled i s then getF f i s else 0)
  else if is TIM_NOW_SEC.SEC then timeSec (localTime s) % 2 ^ 48
  else if is TIM_NOW_NS.NS then timeNs (localTime s)
  else if is TIM_NOW_FRAC.FRAC then localTime s % nsUnit
  else if is TWN_STATUS.LINK_LANES then (twinTxLanes s).length
  else if is PST_WEAR.COUNT then mget 0 s.pst.wear (cellRow (getF PST_WEAR_SEL.ROW 0 s) s)
  else if is ETH_LANE_TXEQ.C_M2 then (if getB ETH_PORT_CFG.LANE_RATE (i / 8) s then getF f i s else 0)
  else if is MON_SNAP_STATUS.NO_PLANE then b2n (planesOn s == [])
  else if is MON_SNAP_STATUS.PLANE then (planesOn s).headD 0
  else if is PWR_DOM.STATE then domShown i s
  else if is PWR_STATUS.N_ON then countDoms (· == dOn) s
  else if is PWR_STATUS.N_ASLEEP then countDoms (fun d => d == dAsleep || d == dSelfRefresh) s
  else if is PWR_STATUS.N_GATED then countDoms (fun d => d == dGated || d == dFailed) s
  else if is SEC_CHAL_CTL.LOCKOUT_S then lockoutLeft s
  else if is SYS_IMG_STATUS.BUSY then b2n (imageBusy s)
  else if is DBG_IDCODE.IDCODE then idcodeVal s
  else if is DBG_STATUS.EFF_LEVEL then effLevel s
  else if is DBG_STATUS.TAP_TEST then b2n s.dbg.tapTest
  else if is DBG_STATUS.HALTED_N then (indicesWhere DBG_ENG_STATUS.HALTED (· == 1) s).length
  else getF f i s

/-- The part of a value that stands in the register. -/
def regPart (f : Fld) (upper : Bool) (v : Nat) : Nat := if upper then v / 2 ^ 32 else v * 2 ^ f.lo % 2 ^ 32

/-- Word of POP0 to POP3 for the record read last (R550). -/
def popWord (k : Nat) (empty : Bool) (r : EvtRec) : Nat :=
  match k with
  | 0 => 2 ^ 31 * b2n empty + 2 ^ 30 * b2n r.lost + 2 ^ 24 * r.source + r.index
  | 1 => r.bits
  | 2 => r.sec
  | _ => r.ns

/-- The context windows show the snapshot where their SNAP bit is set (R20). -/
def windowSnap (f : Fld) (s : State) : Bool :=
  f.ctr && ((rxWindow f && getB FLW_RX_SEL.SNAP 0 s) || (txWindow f && getB FLW_TX_SEL.SNAP 0 s))

/-- Snapshot value of a field. -/
def snapVal (f : Fld) (i : Nat) (s : State) : Nat := mget (f.resetAt i) (mget [] s.snap f.id) i

/-- What a read of the register at `off` returns, the latches of R14 apart. -/
def readWord (off : Nat) (s : State) : Nat :=
  if isPop off then popWord ((off - 0x200020) / 4) false s.evtLast
  else
    let live := fieldsAt off s
    if live != [] then
      live.foldl (fun n p => n + regPart p.1 p.2.2 (if windowSnap p.1 s then snapVal p.1 p.2.1 s else readField p.1 p.2.1 s)) 0
    else (snapFieldsAt off s).foldl (fun n p => n + regPart p.1 p.2.2 (snapVal p.1 p.2.1 s)) 0

/-! ### Refused accesses (R12, R44, R531) -/

/-- The host may access BAR0: the function is in D0 and out of reset (R529, R595). -/
def sysBlock (off : Nat) : Bool := off < 0x100000

/-- An access that is refused is counted and recorded; the ACCESS event posts once until HIF_ACCESS_ERR is read (R550). -/
def accessErr (write bar2 : Bool) (off : Nat) (s : State) : State :=
  let s := s |> bump32 HIF_ACCESS_ERR.COUNT HIF_CNT_FLAGS.ACCESS_OVF 0 |> setB HIF_ACCESS_LAST.WRITE 0 write
             |> setB HIF_ACCESS_LAST.BAR2 0 bar2 |> setF HIF_ACCESS_LAST.OFFSET 0 off
  if s.pcie.accessSet then s else { s with pcie := { s.pcie with accessSet := true } } |> post 0x19 0x10 2

/-- Challenge and request mailboxes, the only SEC registers that host software writes (R43). -/
def isMailbox (off : Nat) : Bool := 0x2800100 ≤ off && off < 0x2800900

/-- The host-access column of R43 forbids the write. -/
def writeForbidden (off value : Nat) (s : State) : Bool :=
  (0xe00000 ≤ off && off < 0x1000000)
    || (0x2800000 ≤ off && off < 0x2a00000 && !isMailbox off)
    || (0x2c00000 ≤ off && off < 0x2e00000 && effLevel s = 0 && !(off = 0x2c00008 && bit value 31))

/-- A BAR0 access of the host that the module refuses: wrong width or alignment, no register, or a forbidden write. -/
def bar0Refused (off size : Nat) (write : Option Nat) (s : State) : Bool :=
  size != 4 || off % 4 != 0 || 0x4000000 ≤ off || !occupied off s
    || (match write with | some v => writeForbidden off v s | none => false)

/-- Before READY every block but SYS reads 0, discards writes and counts nothing (R596); while HALTED only SYS is served (R602). -/
def silentBlock (off : Nat) (s : State) : Bool := !(getB SYS_STATUS.READY 0 s && inService s) && !sysBlock off

end Sys2Proof.Machine
end

