-- ==== Sys2Proof/Machine/HostOps.lean ====
section
/-! DEFINITION. The host's side of the host interface: ring pairs, the event window, function reset, D3hot, MSI-X masks, BAR2, latched
reads (R14, R200, R529 to R537, R549 to R557, R595). -/

namespace Sys2Proof.Machine

/-! ### Ring pairs (R534 to R537) -/

/-- The ring stops, and FAULT posts when it changes to 1. -/
def ringStop (r : Nat) (s : State) : State :=
  let s := setCmd (fun m => { m with stopped := if m.stopped.contains r then m.stopped else r :: m.stopped }) s
  if getB HIF_SQ_STATUS.FAULT r s then s else s |> setF HIF_SQ_STATUS.FAULT r 1 |> post 0x19 r 1

/-- HIF_SQ_TAIL. -/
def sqTail (r tail : Nat) (s : State) : State :=
  if 16 ≤ r then s
  else
    let s := setF HIF_SQ_TAIL.TAIL r tail s
    if sqSize r s ≤ tail % 2 ^ 32 then ringStop r s else s

/-- A read of the submission ring that the host completes with an error; a burst it feeds ends (R673). -/
def sqReadError (r : Nat) (burst : Option Burst) (s : State) : State :=
  if 16 ≤ r || !ringWaits r s then s else s |> ringStop r |> abortBurst maDma burst

/-- The ring pair may be configured (R534). -/
def ringIdle (r : Nat) (s : State) : Bool := !getB HIF_SQ_CFG.EN r s && openSlotsOf r s == 0

/-- HIF_SQ_CFG: on a ring that is idle, size and enable; on one that runs, EN = 0 stops fetch (R536), and anything else is refused. -/
def sqConfig (r value : Nat) (s : State) : State :=
  if 16 ≤ r then s
  else if ringIdle r s then
    let s := s |> setF HIF_SQ_CFG.SIZE_LOG2 r (bits value 0 4) |> setB HIF_SQ_CFG.EN r (bit value 31)
    if bit value 31 then
      { s with coal := mput (0, 0) s.coal r (0, 0) }
        |> setF HIF_SQ_HEAD.HEAD r 0 |> setF HIF_CQ_TAIL.TAIL r 0 |> setF HIF_CQ_TAIL.PHASE r 1
        |> setCmd (fun m => { m with stopped := m.stopped.filter (· != r) })
    else s
  else if getB HIF_SQ_CFG.EN r s && !bit value 31 then setF HIF_SQ_CFG.EN r 0 s
  else accessErr true false (HIF_SQ_CFG.EN.base + 64 * r) s

/-- HIF_CQ_HEAD: entries are free again. -/
def cqHead (r head : Nat) (s : State) : State := if 16 ≤ r then s else s |> setF HIF_CQ_HEAD.HEAD r head |> releaseHeld r

/-- FENCE waits for the commands of its ring accepted earlier (R541). -/
def fenceBody (r : Nat) (raw : List Byte) (entry : Nat) (s : State) : State :=
  let earlier := (s.cmd.opens.filter (fun c => !c.mirror && c.ring == r)).map (·.uid)
  acceptNow r entry raw [] 0 (fun uid s => modCmd uid (fun c => { c with waits := earlier }) s) s

/-! ### The event window (R550, R556) -/

/-- A read of HIF_EVT_POP0: its word, and the state after it. -/
def popEvent (s : State) : Nat × State :=
  match s.evtFifo with
  | r :: rs => (popWord 0 false r, { s with evtFifo := rs, evtLast := r })
  | [] => (popWord 0 true s.evtLast, setF HIF_EVT_STATUS.UNDERRUN 0 1 s)

/-- A write of ARM. -/
def armEvents (s : State) : State :=
  let s := setF HIF_EVT_STATUS.ARMED 0 1 s
  if s.evtFifo = [] then s else s |> setF HIF_EVT_STATUS.ARMED 0 0 |> signal 16

/-- A read of HIF_ACCESS_ERR re-arms the ACCESS bit. -/
def readAccessErr (s : State) : Nat × State :=
  (getF HIF_ACCESS_ERR.COUNT 0 s, { s with pcie := { s.pcie with accessSet := false } })

/-- The host receives what a read of the register at `off` answers. -/
def answerRead (off : Nat) (p : Nat × State) : State := emit (.readData off (leBytes 4 p.1)) p.2

def hifCounters : List Fld :=
  [HIF_ACCESS_ERR.COUNT, HIF_DROP_CPL.COUNT, HIF_EVT_LOST.COUNT, HIF_CNT_FLAGS.LOST_OVF, HIF_CNT_FLAGS.DROP_OVF, HIF_CNT_FLAGS.ACCESS_OVF]

/-! ### MSI-X masks (R555) -/

/-- An unmasked vector that is pending sends its message. -/
def sendPending (v : Nat) (s : State) : State :=
  let e := mget ({} : MsixVec) s.msix v
  if e.pending && !e.masked && hostUp s then
    { s with msix := mput ({} : MsixVec) s.msix v { e with pending := false } } |> emit (.msix v)
  else s

def maskVector (v : Nat) (masked : Bool) (s : State) : State :=
  if 64 ≤ v then s
  else
    let e := mget ({} : MsixVec) s.msix v
    { s with msix := mput ({} : MsixVec) s.msix v { e with masked := masked } } |> sendPending v

/-- COAL_US has passed since the first completion that waits (R556). -/
def coalesceEnd (r : Nat) (s : State) : State :=
  let w := mget (0, 0) s.coal r
  if r < 16 && w.1 != 0 && w.2 + getF HIF_CQ_CFG.COAL_US r s * usUnit ≤ s.now then
    signal r { s with coal := mput (0, 0) s.coal r (0, 0) }
  else s

/-! ### Function reset (R557, R595) -/

/-- HIF registers of reset domain MODULE. -/
def hifFields : List Fld := allFields.filter (fun f => 0x200000 ≤ f.base && f.base < 0x300000 && f.dom == .module)

/-- What belongs to the PCIe function alone. -/
def pcieReset (s : State) : State :=
  { s with msix := [], pcie := { s.pcie with d3hot := false, accessSet := false, latch := [] } }

/-- A function level reset, hot reset or loss of link: HIF registers and the event FIFO; completions of fetched commands are
discarded and counted (R557). -/
def fnReset (s : State) : State :=
  let held := s.cplHeld.length
  { clearFlds hifFields s with evtFifo := [], evtLost := false, evtLast := {}, cplHeld := [], coal := [] }
    |> pcieReset
    |> setCmd (fun m => { m with opens := m.opens.map (fun c => if c.mirror then c else { c with drop := true }), stopped := [], lastRing := 16 })
    |> bump32By HIF_DROP_CPL.COUNT HIF_CNT_FLAGS.DROP_OVF 0 held
    |> setEth (fun e => { e with nets := [], lps := e.lps.map (fun p => (p.1, { p.2 with ctlTx := p.2.ctlTx.map (fun x => { x with net := 2 }) })) })

/-- Such a reset leaves the function in D0: events that waited for that are posted (R529). -/
def fnDrop (burst : Option Burst) (s : State) : State :=
  let s := fnReset s
  (if canPost s then flushEvents s else s) |> abortBurst maPcie burst

/-- Assertion of HOST_PERST_N. -/
def perst (burst : Option Burst) (s : State) : State :=
  let s := if getB SYS_STATUS.READY 0 s then fnDrop burst s else pcieReset s
  { s with pcie := { s.pcie with perst := true, crs := true } }

def perstEnd (s : State) : State := { s with pcie := { s.pcie with perst := false } }

/-- The configuration space is ready: not before step 3 has ended (R595). -/
def configReady (s : State) : State :=
  if !s.pcie.perst && 4 ≤ getF SYS_STATUS.STEP 0 s then { s with pcie := { s.pcie with crs := false } } else s

/-! ### D3hot (R529) -/

def enterD3 (s : State) : State := if hostUp s then { s with pcie := { s.pcie with d3hot := true } } else s

/-- Completions, events, control frames and interrupts that waited. -/
def leaveD3 (s : State) : State :=
  if !s.pcie.d3hot then s
  else
    let s := { s with pcie := { s.pcie with d3hot := false } }
    let s := forEach (List.range 64) sendPending s
    let s := if canPost s then flushEvents s else s
    s |> forEach (List.range 16) releaseHeld |> forEach [0, 1] releaseBacks |> forEach (List.range 64) drainCtlRx |> forEach [0, 1] placeFrames

/-! ### BAR0 accesses that are refused, and latched reads -/

/-- Offset at which the log of outputs shows BAR2 data. -/
def bar2Log : Nat := 2 ^ 32

/-- A refused BAR0 access: a read returns 0; it is counted (R12, R44). Before READY nothing outside SYS counts (R596). -/
def refusedAccess (off size : Nat) (write : Option Nat) (s : State) : State :=
  if !s.powered || !hostUp s || !bar0Refused off size write s then s
  else
    let s := if silentBlock off s then s else accessErr write.isSome false off s
    match write with
    | some _ => s
    | none => emit (.readData off (List.replicate size 0#8)) s

/-- Counts and sequence numbers of 64 bits that are no counters of R19 and read as R14 lays down. -/
def liveCounts : List Fld :=
  [AUD_BLOCK.COUNT, PIP_PLANE_COUNT.COUNT, PST_WEAR.COUNT, TWN_MSEQ.MSEQ, TIM_LAST_STEP.STEP, SEC_SEQ.SEQ, SEC_AUDIT_NEW.ASEQ,
   SEC_AUDIT_OLD.ASEQ, SHF_SEQ.SEQ]

/-- A read of the lower register latches the upper word (R14). -/
def Fld.live64 (f : Fld) : Bool := f.spans && (f.ctr || liveCounts.any (fun g => g.id == f.id))

/-- The register at `off` is the lower of a live 64-bit counter, and its upper word. -/
def latched (off : Nat) (s : State) : List (Nat × Nat) :=
  if off = TIM_NOW_SEC.SEC.base then [off + 4, off + 8, off + 12].map (fun o => (o, readWord o s))
  else if (fieldsAt off s).any (fun p => p.1.live64 && !p.2.2) then [(off + 4, readWord (off + 4) s)]
  else []

/-- A read of a register that is served: its word and the state after it, with the latches of R14 and R477, the event window, the
access error counter, and the registers of a debug unit that is refused (R681). -/
def regRead (off : Nat) (s : State) : Nat × State :=
  if off = 0x200020 then popEvent s
  else if off = 0x20000c then readAccessErr s
  else if unitRefused off s then (0, raiseAs 1 [DBG_EVT.REFUSED] 0 s)
  else
    let v := match s.pcie.latch.find? (fun p => p.1 == off) with | some p => p.2 | none => readWord off (asShown s)
    let l := latched off (asShown s)
    let keep := s.pcie.latch.filter (fun p => p.1 != off && !l.any (fun q => q.1 == p.1))
    (v, { s with pcie := { s.pcie with latch := l ++ keep } })

/-- A 32-bit read of BAR0. -/
def hostRead (off : Nat) (s : State) : State :=
  if !s.powered || !hostUp s then s
  else if bar0Refused off 4 none s then refusedAccess off 4 none s
  else if silentBlock off s then emit (.readData off (leBytes 4 0)) s
  else answerRead off (regRead off s)

/-! ### Kennel and SRAM as bytes (R36, R38, R185, R532) -/

/-- Bytes of the kennel pages before allocation `a`, which lie in ascending number (log entry 32). -/
def allocBytes (a : Nat) (s : State) : Nat := allocSlots a s * framePages (allocFmtMax a s) * 65536

/-- The allocation, the frame slot and the byte of it that a kennel address falls into. -/
def kennelAt (addr : Nat) (s : State) : Option (Nat × Nat × Nat) :=
  let r := (indicesWhere KNL_ALLOC_CFG.N_F (· != 0) s).foldl (fun (r : Nat × Option (Nat × Nat × Nat)) a =>
    let n := allocBytes a s
    if r.2.isNone && r.1 ≤ addr && addr < r.1 + n then
      let size := framePages (allocFmtMax a s) * 65536
      (r.1 + n, some (a, (addr - r.1) / size, (addr - r.1) % size))
    else (r.1 + n, r.2)) (0, none)
  r.2

/-- The frame that a frame slot holds: frame n of a written allocation lies in slot n modulo N_F (log entry 32). -/
def slotHolds (a n : Nat) (s : State) : Option KFrame :=
  if allocClass a s = clStill then stillFrame a n s else (alloc a s).frames.find? (fun k => k.num % allocSlots a s == n)

/-- Byte `off` of a picture packed as R110 packs words (log entry 32). -/
def pictureByte (p : List Word10) (off : Nat) : Byte := (packWords ((p.drop (off / 5 * 4)).take 4)).getD (off % 5) 0#8

def putPictureByte (p : List Word10) (off : Nat) (b : Byte) : List Word10 :=
  let g := packWords ((p.drop (off / 5 * 4)).take 4)
  p.take (off / 5 * 4) ++ unpackWords (g.take (off % 5) ++ [b] ++ g.drop (off % 5 + 1)) ++ p.drop (off / 5 * 4 + 4)

def pictureBytes (k : KFrame) : Nat := k.picture.length / 4 * 5

/-- Offset of the ancillary area in a frame slot (R179). -/
def ancStart (k : KFrame) : Nat := picturePages k.fmt * 65536

/-- Write byte `off` of a frame slot: of its picture, or of its ancillary area; the bytes between belong to no part. -/
def putFrameByte (off : Nat) (b : Byte) (k : KFrame) : KFrame :=
  if off < pictureBytes k then { k with picture := putPictureByte k.picture off b }
  else { k with ancBytes := (off - ancStart k, b) :: k.ancBytes.filter (fun p => p.1 != off - ancStart k) }

def inFrame (k : KFrame) (off : Nat) : Bool := off < pictureBytes k || (ancStart k ≤ off && off < framePages k.fmt * 65536)

/-- A byte that nothing of the model holds: what was written there, or a free value. -/
def overlaid (m : List (Nat × Nat)) (addr : Nat) (s : State) : Byte :=
  match mget 0 m addr with
  | 0 => Config.memByte s.freeCtr addr
  | v + 1 => BitVec.ofNat 8 v

/-- The image gates the kennel stacks: the kennel reads 0 (R573). -/
def stacksGated (s : State) : Bool := (List.range 8).all (fun k => domState (432 + k) s == dGated)

def kennelByte (addr : Nat) (s : State) : Byte :=
  if stacksGated s then 0#8
  else match kennelAt addr s with
  | some (a, n, off) =>
    match slotHolds a n s with
    | some k =>
      if off < pictureBytes k then pictureByte k.picture off
      else match (k.ancBytes.find? (fun p => p.1 + ancStart k == off)) with
        | some p => p.2
        | none => overlaid s.xpt.kennel addr s
    | none => overlaid s.xpt.kennel addr s
  | none => overlaid s.xpt.kennel addr s

/-- A frame that host software writes into a STILL slot that holds none (R200). -/
def newStill (a n : Nat) (s : State) : KFrame :=
  { num := n, fmt := allocFmtMax a s, endAt := s.now, picture := List.replicate (fmtWidth (allocFmtMax a s) * fmtHeight (allocFmtMax a s) * 2) 0#10 }

def putKennel (addr : Nat) (b : Byte) (s : State) : State :=
  let plain (s : State) : State := setXpt (fun x => { x with kennel := mput 0 x.kennel addr (b.toNat + 1) }) s
  if stacksGated s then s
  else match kennelAt addr s with
  | none => plain s
  | some (a, n, off) =>
    if allocClass a s = clStill then
      let k := (stillFrame a n s).getD (newStill a n s)
      if inFrame k off then
        s |> setAlloc a (fun x => { x with stills := (n, putFrameByte off b k) :: x.stills.filter (fun y => y.1 != n) })
          |> setF KNL_ALLOC_STATUS.VALID a 1 |> setF KNL_ALLOC_STATUS.FORMAT a k.fmt
      else plain s
    else match slotHolds a n s with
      | none => plain s
      | some k =>
        if inFrame k off then
          setAlloc a (fun x => { x with frames := x.frames.map (fun y => if y.num = k.num then putFrameByte off b y else y) }) s
        else plain s

/-- The bank is gated: it reads 0 and discards writes (R37). -/
def bankGated (b : Nat) (s : State) : Bool := domState (440 + b) s == dGated

/-- The ring word of a byte of the audio ring pool, and which of its four bytes it is (R36, R274; log entry 89). -/
def ringByte (o : Nat) (s : State) : Option (Nat × Nat × Nat) :=
  if o < 24 * 0x400000 then (poolWord (o / 4) s).map (fun p => (p.1, p.2, o % 4)) else none

/-- A byte of SRAM: that of a ring in the ring pool, and elsewhere 0 where step 6 zeroed it and nothing has been written since. -/
def sramByte (o : Nat) (s : State) : Byte :=
  if bankGated (o / 0x400000) s then 0#8
  else match ringByte o s with
  | some (r, k, j) => BitVec.ofNat 8 (ringWord r k s / 256 ^ j)
  | none =>
  if s.xpt.zeroed.contains (o / 0x400000) && mget 0 s.xpt.sram o == 0 then 0#8
  else overlaid s.xpt.sram o s
def putSram (o : Nat) (b : Byte) (s : State) : State :=
  if bankGated (o / 0x400000) s then s
  else match ringByte o s with
  | some (r, k, j) =>
    let w := ringWord r k s
    putRingWord r k (w - w / 256 ^ j % 256 * 256 ^ j + b.toNat * 256 ^ j) s
  | none => setXpt (fun x => { x with sram := mput 0 x.sram o (b.toNat + 1) }) s

/-- Read and write `size` bytes of kennel (true) or SRAM. -/
def memRead (knl : Bool) (addr size : Nat) (s : State) : List Byte :=
  (List.range size).map (fun k => if knl then kennelByte (addr + k) s else sramByte (addr + k) s)
def memWrite (knl : Bool) (addr : Nat) (bs : List Byte) (s : State) : State :=
  forEach ((List.range bs.length).zip bs) (fun p s => if knl then putKennel (addr + p.1) p.2 s else putSram (addr + p.1) p.2 s) s

/-- Where a BAR2 offset lies: kennel or SRAM, and the byte offset in it; none where the BAR is unoccupied. -/
def bar2At (off : Nat) (s : State) : Option (Bool × Nat) :=
  if off < 0x20000000 then some (true, 512 * 2 ^ 20 * min 383 (getF HIF_BAR2_KBASE.BASE 0 s) + off)
  else if off < 0x34000000 then some (false, off - 0x20000000)
  else none

/-- Writes are served to pages of STILL allocations, and under an unlocked debug session to the rest (R532, R667). -/
def bar2Writable (knl : Bool) (addr : Nat) (s : State) : Bool :=
  if knl then
    1 ≤ effLevel s || (match kennelAt addr s with | some (a, _, _) => allocClass a s == clStill | none => false)
  else if 70 ≤ addr / 0x400000 && addr / 0x400000 < 72 then 2 ≤ effLevel s else 1 ≤ effLevel s

/-- A BAR2 access: `write` gives the bytes of a write. -/
def bar2 (off size : Nat) (write : Option (List Byte)) (s : State) : State :=
  let data (bs : List Byte) (s : State) : State := emit (.readData (bar2Log + off) bs) s
  let zeros := List.replicate size 0#8
  if silentBlock 0x200000 s then (if write.isNone then data zeros s else s)
  else
    let ok := [4, 8, 16, 32, 64].contains size && off % size == 0 && off < 2 ^ 30
    match (if ok then bar2At off s else none), write with
    | none, none => s |> accessErr false true off |> data zeros
    | none, some _ => accessErr true true off s
    | some (k, a), none => s |> drawn |> data (memRead k a size s)
    | some (k, a), some bs => if bar2Writable k a s then memWrite k a (bs.take size) s else accessErr true true off s

end Sys2Proof.Machine
end

