-- ==== Sys2Proof/Machine/ImageFmt.lean ====
section
/-! DEFINITION. The structure image as bytes: header, section table, sections and their records (R568 to R573), and the register values
that an image gives (R571, R583). -/

namespace Sys2Proof.Machine

/-! ### Header and section table (R568, R569) -/

def iMagic : List Byte := [0x49#8, 0x4C#8, 0x53#8, 0x4B#8]
def iFver (b : List Byte) : Nat := leAt b 4 2
def iSects (b : List Byte) : Nat := leAt b 6 2
def iLength (b : List Byte) : Nat := leAt b 8 4
def iRollback (b : List Byte) : Nat := leAt b 12 4
def iTarget (b : List Byte) : Nat := leAt b 16 4
def iKeyId (b : List Byte) : Nat := byteAt b 20
/-- Bytes that the signature and the digest cover. -/
def iSigned (b : List Byte) : List Byte := b.take (b.length - 96)
def iSignature (b : List Byte) : List Byte := b.drop (b.length - 96)
/-- The image digest (R570). -/
def iDigest (b : List Byte) : List Byte := Config.sha384 (iSigned b)

/-- An entry of the section table. -/
structure Sect where
  typ : Nat
  zero : Nat
  off : Nat
  len : Nat
  crc : Nat
  deriving DecidableEq, Repr

def sectAt (b : List Byte) (k : Nat) : Sect :=
  let o := 64 + 16 * k
  { typ := leAt b o 2, zero := leAt b (o + 2) 2, off := leAt b (o + 4) 4, len := leAt b (o + 8) 4, crc := leAt b (o + 12) 4 }

def sectTable (b : List Byte) : List Sect := (List.range (iSects b)).map (sectAt b)

/-- Types of R571. -/
def tyModule : Nat := 0x01
def tyPlanes : Nat := 0x02
def tyRefs : Nat := 0x03
def tyLanes : Nat := 0x04
def tyXpt : Nat := 0x05
def tyKennel : Nat := 0x06
def tyComp : Nat := 0x07
def tyAudio : Nat := 0x08
def tyReed : Nat := 0x09
def tyEth : Nat := 0x0A
def tyFlows : Nat := 0x0B
def tyPower : Nat := 0x0C

/-- Bytes of a section; none of an absent one. -/
def sectOf (ty : Nat) (b : List Byte) : List Byte :=
  match (sectTable b).find? (fun e => e.typ == ty) with
  | some e => (b.drop e.off).take e.len
  | none => []

/-- Index of a section in the table, as DETAIL1 gives it. -/
def sectIndex (ty : Nat) (b : List Byte) : Nat := ((sectTable b).findIdx? (fun e => e.typ == ty)).getD 0xFFFFFFFF

/-- Word `k` of a byte string. -/
def w32 (x : List Byte) (k : Nat) : Nat := leAt x (4 * k) 4

/-- A byte string as little-endian words; a rest of fewer than four bytes is left. -/
def words32 : List Byte → List Nat
  | a :: b :: c :: d :: x => (a.toNat + 256 * b.toNat + 65536 * c.toNat + 16777216 * d.toNat) :: words32 x
  | _ => []

/-! ### Records of the sections whose counts vary -/

/-- Kennel records: word 0 and word 1. -/
def kennelRecs (b : List Byte) : List (Nat × Nat) :=
  let x := sectOf tyKennel b
  (List.range (x.length / 8)).map (fun k => (w32 x (2 * k), w32 x (2 * k + 1)))

/-- Head records: four words. -/
def headRec (b : List Byte) (h k : Nat) : Nat := w32 (sectOf tyComp b) (4 * h + k)

/-- Safety records are those with bit 31 set that follow the heads (log entry 37). -/
def safetyCount (x : List Byte) : Nat :=
  ((List.range 129).find? (fun k => !bit (leAt x (2048 + 4 * k) 4) 31)).getD 129
def safetyRecs (b : List Byte) : List Nat := (List.range (safetyCount (sectOf tyComp b))).map (fun k => w32 (sectOf tyComp b) (512 + k))

/-- Coefficient sets: bytes of each. -/
def coefSets (b : List Byte) : List (List Byte) :=
  let x := (sectOf tyComp b).drop (2048 + 4 * safetyCount (sectOf tyComp b))
  (List.range (x.length / 1796)).map (fun k => (x.drop (1796 * k)).take 1796)

/-- Words of initial AUD_MAP records. -/
def initialMaps (b : List Byte) : List (List Nat) :=
  let x := (sectOf tyAudio b).drop 1048576
  (List.range (x.length / 32)).map (mapWords x)

/-- A reed program: engine, program, coefficients. -/
structure ReedProg where
  engine : Nat
  header : List Byte
  prog : List Nat
  coefs : List Nat
  deriving DecidableEq, Repr

/-- Programs of the REED section, by fuel; none where the bytes end within a record. -/
def reedRecs : Nat → List Byte → Option (List ReedProg)
  | 0, x => if x = [] then some [] else none
  | n + 1, x =>
    if x = [] then some []
    else
      let len := leAt x 2 2 + 1
      let size := 16 + 4 * len + 4 * 4096
      if x.length < size then none
      else
        (reedRecs n (x.drop size)).map (fun l =>
          { engine := leAt x 0 2, header := x.take 16, prog := (List.range len).map (fun k => leAt x (16 + 4 * k) 4),
            coefs := (List.range 4096).map (fun k => leAt x (16 + 4 * len + 4 * k) 4) } :: l)

def reedProgs (b : List Byte) : List ReedProg := (reedRecs 129 (sectOf tyReed b)).getD []

/-- Definition records of FLOWS are the 8-byte records at its front whose word 0 has nothing but direction and context (log entry 37). -/
def flowDefCount (x : List Byte) : Nat :=
  ((List.range (x.length / 8 + 1)).find? (fun k => bits (leAt x (8 * k) 4) 16 15 != 0 || x.length < 8 * k + 8)).getD 0
def flowDefs (b : List Byte) : List (Nat × Nat) :=
  let x := sectOf tyFlows b
  (List.range (flowDefCount x)).map (fun k => (w32 x (2 * k), w32 x (2 * k + 1)))
def initialFlows (b : List Byte) : List (List Nat) :=
  let x := (sectOf tyFlows b).drop (8 * flowDefCount (sectOf tyFlows b))
  (List.range (x.length / 32)).map (mapWords x)

/-! ### Register values of an image -/

/-- A field's instances from a list of values, instance 0 first. -/
def setColumn (f : Fld) (vs : List Nat) (s : State) : State :=
  let es := ((List.range vs.length).zip vs).map (fun p => (p.1, p.2 % 2 ^ f.width))
  { s with regs := mput [] s.regs f.id (es.filter (fun p => p.2 != f.resetAt p.1)) }

/-- Value of field `f` in a register word. -/
def fv (f : Fld) (w : Nat) : Nat := bits w f.lo f.width

/-- Several fields from the same column of register words. -/
def setWords32 (fs : List Fld) (ws : List Nat) (s : State) : State := fs.foldl (fun s f => setColumn f (ws.map (fv f)) s) s

def setSome (fs : List Fld) (i w : Nat) (s : State) : State := fs.foldl (fun s f => setF f i (fv f w) s) s

/-- MODULE (R572). -/
def regsModule (b : List Byte) (s : State) : State :=
  let x := sectOf tyModule b
  s |> setF TWN_CFG.SOLO 0 (byteAt x 0) |> setF AUD_CFG.AUDIO_PLANE 0 (byteAt x 1) |> setF TWN_CFG.HANDSHAKE_MS 0 (leAt x 2 2)
    |> setF TWN_PAIR_ID.ID 0 (leAt x 4 6) |> setF PIP_CFG.REVERT 0 (byteAt x 10) |> setF PIP_CFG.SPREAD 0 (byteAt x 11)
    |> setF SYS_IMG_STATUS.EVAL_CFG 0 (byteAt x 12)

/-- PLANES and REFERENCES; PRIO and LOCKOUT are taken under R439. -/
def regsTime (b : List Byte) (s : State) : State :=
  let x := sectOf tyPlanes b
  let r := sectOf tyRefs b
  s |> setWords32 [PIP_PLANE_CFG.ENABLED, PIP_PLANE_CFG.ALIGN, PIP_PLANE_CFG.RATE] ((List.range 8).map (fun p => w32 x (2 * p)))
    |> setWords32 [PIP_PLANE_OFFSET.OFFSET_NS] ((List.range 8).map (fun p => w32 x (2 * p + 1)))
    |> setWords32 [PIP_REF_CFG.USED, PIP_REF_CFG.MODE, PIP_REF_CFG.WTR_S] ((List.range 11).map (w32 r))
    |> setWords32 [TIM_PTP_CFG.ENABLED, TIM_PTP_CFG.TRANSPORT, TIM_PTP_CFG.DELAY_UC, TIM_PTP_CFG.PCP, TIM_PTP_CFG.TAG, TIM_PTP_CFG.VID,
                   TIM_PTP_CFG.LP, TIM_PTP_CFG.DOMAIN] ((List.range 2).map (fun i => w32 r (11 + i)))

/-- LANES, with ONE_WAY derived (R84, R94). -/
def regsLanes (b : List Byte) (s : State) : State :=
  let ws := words32 (sectOf tyLanes b)
  let gs := ws.take 128
  let ns := (ws.drop 128).take 2048
  s |> setColumn LNI_GRP_CFG.ENABLED (gs.map (fun w => bits w 0 1)) |> setColumn LNO_GRP_CFG.ENABLED (gs.map (fun w => bits w 1 1))
    |> setColumn LNI_GRP_CFG.CLK_MODE (gs.map (fun w => bits w 2 2)) |> setColumn LNO_GRP_CFG.CLK_MODE (gs.map (fun w => bits w 2 2))
    |> setColumn LNI_GRP_CFG.CLK_MODE_ACT (gs.map (fun w => b2n (bits w 2 2 == 1)))
    |> setColumn LNO_GRP_CFG.CLK_MODE_ACT (gs.map (fun w => b2n (bits w 2 2 == 1)))
    |> setColumn LNO_GRP_CFG.FC_OUT_ON (gs.map (fun w => b2n (bits w 2 2 == 1 && bit w 1)))
    |> setColumn LNI_GRP_CFG.ONE_WAY (gs.map (fun w => b2n (!bit w 1))) |> setColumn LNO_GRP_CFG.ONE_WAY (gs.map (fun w => b2n (!bit w 0)))
    |> setColumn LNO_TX_CFG.AMPLITUDE (ns.map (fun w => bits w 4 4)) |> setColumn LNO_TX_CFG.PRESET (ns.map (fun w => bits w 0 4))
    |> setColumn LNO_TX_CFG.PRESET_ACT (ns.map (fun w => min 7 (bits w 0 4)))
    |> setColumn LNI_PAY_CFG.SLOT_MODE (ns.map (fun w => bits w 8 2)) |> setColumn LNO_PAY_CFG.SLOT_MODE (ns.map (fun w => bits w 10 2))

/-- CROSSPOINT. -/
def regsXpt (b : List Byte) (s : State) : State :=
  let x := sectOf tyXpt b
  s |> setWords32 [XPT_IN_CFG.PLANE] ((x.take 16384).map BitVec.toNat)
    |> setWords32 [XPT_OUT_CFG.SAFETY, XPT_OUT_CFG.FALLBACK_EN, XPT_OUT_CFG.LOSS_FALLBACK, XPT_OUT_CFG.RETURN, XPT_OUT_CFG.PLANE]
         (((x.drop 16384).take 16384).map BitVec.toNat)

/-- Planes that output slots in use or transmit VIDEO contexts are assigned to (R184). -/
def chargedPlanes (s : State) : Nat :=
  ((List.range 8).filter (fun p =>
    (List.range 16384).any (fun o => outUsed o s && outPlane o s == p)
      || (indicesWhere FLW_TX_CFG.KIND (· == 1) s).any (fun c => getF FLW_TX_CFG.PLANE c s == p))).length

/-- Charge in units of 125 kB/s: 1485 units are B at the 1.5G slot rate, 2970 a quarter of LOAD (R184). -/
def chargeOf (cls fmt loadQ np : Nat) : Nat :=
  if cls = clCompRead then 2970 * loadQ
  else if cls = clStill then 1485 * 2 ^ slotRate fmt * np
  else 1485 * 2 ^ slotRate fmt * (1 + np)

/-- KENNEL, after LANES, CROSSPOINT and FLOWS: allocations, their capacity and charge, the totals, and the slots that have a writer. -/
def regsKennel (b : List Byte) (s : State) : State :=
  let rs := (kennelRecs b).filter (fun r => fv KNL_ALLOC_CFG.CLASS r.2 != clAbsent && bits r.1 0 16 < 8192)
  let np := chargedPlanes s
  let one (s : State) (r : Nat × Nat) : State :=
    let a := bits r.1 0 16
    let cls := fv KNL_ALLOC_CFG.CLASS r.2
    let fmt := fv KNL_ALLOC_CFG.FMT_MAX r.2
    let pages := if cls = clCompRead then 0 else fv KNL_ALLOC_CFG.N_F r.2 * framePages fmt
    let s := s |> setSome [KNL_ALLOC_CFG.CLASS, KNL_ALLOC_CFG.N_F, KNL_ALLOC_CFG.FMT_MAX, KNL_ALLOC_CFG.WRITER] a r.2
               |> setF KNL_ALLOC_PAGES.PAGES a pages |> setF KNL_ALLOC_BW.CHARGE a (chargeOf cls fmt (bits r.1 18 6) np)
    if cls = clFsync then s |> setF XPT_IN_CFG.KNL_FSYNC (fv KNL_ALLOC_CFG.WRITER r.2) 1 |> setF XPT_IN_CFG.KNL_ANY (fv KNL_ALLOC_CFG.WRITER r.2) 1
    else if cls = clDelay then setF XPT_IN_CFG.KNL_ANY (fv KNL_ALLOC_CFG.WRITER r.2) 1 s
    else s
  let s := rs.foldl one s
  let sum (f : Fld) : Nat := (rs.map (fun r => getF f (bits r.1 0 16) s)).sum
  s |> setF KNL_BUDGET_CAP.N_P 0 np |> setB KNL_BUDGET_CAP.N_P8 0 (np == 8) |> setF KNL_BUDGET_CAP.PAGES 0 (sum KNL_ALLOC_PAGES.PAGES)
    |> setF KNL_BUDGET_BW.CHARGE 0 (sum KNL_ALLOC_BW.CHARGE)

/-- Output slots and heads of the safety records. -/
def safetyPairs (b : List Byte) : List (Nat × Nat) := (safetyRecs b).map (fun w => (bits w 0 14, bits w 16 7))

/-- Plane of an engine: that of the safety outputs on its heads, else the lowest enabled plane to which its heads' format belongs
(R31, R218; log entry 36). -/
def planeOfEngine (b : List Byte) (e : Nat) (s : State) : Option Nat :=
  match (safetyPairs b).find? (fun p => getF CMP_HEAD_CFG.ENGINE p.2 s == e) with
  | some p => some (outPlane p.1 s)
  | none => (planesOn s).find? (fun p => (headsOf e s).any (fun h => belongs (headFmt h s) p s))

/-- A base layer's record as the image fixes it (R241): EN, Z 0, crop the full format of the allocation's largest format, destination
the head's full picture. -/
def baseRecord (b : List Byte) (h : Nat) (s : State) : List Nat :=
  let w1 := headRec b h 1
  let fmt := headFmt h s
  let src := getF KNL_ALLOC_CFG.FMT_MAX (bits w1 0 16) s
  let size (w hh : Nat) : Nat := hh * 65536 + w
  [2 ^ 30 + getF CMP_HEAD_CFG.BASE_LAYER h s * 2 ^ 25 + getF CMP_HEAD_CFG.LOCAL h s * 2 ^ 23 + 2 ^ 22 + bits w1 16 4 * 2 ^ 13 + bits w1 20 8 * 8,
   255 * 2 ^ 24 + bits w1 0 16, 0, size (fmtWidth src) (fmtHeight src), 0, size (fmtWidth fmt) (fmtHeight fmt), 0, bits (headRec b h 2) 0 30]

/-- Background black (R262). -/
def blackBg : Nat := 0x040 * 2 ^ 20 + 0x200 * 2 ^ 10 + 0x200

/-- An engine as the image has it, with or without heads: COMPREAD and LOAD from KENNEL, the rest from its heads (R257). -/
def regsEngine (b : List Byte) (hs : List Nat) (e : Nat) (s : State) : State :=
  let a := (indicesWhere KNL_ALLOC_CFG.CLASS (· == clCompRead) s).find? (fun a => getF KNL_ALLOC_CFG.WRITER a s == e)
  let load := match a with
    | some a => bits (((kennelRecs b).find? (fun r => bits r.1 0 16 == a)).getD (0, 0)).1 18 6
    | none => 0
  let n := (hs.filter (fun h => getF CMP_HEAD_CFG.ENGINE h s == e)).length
  let s := s |> setF CMP_ENG_CFG.COMPREAD e (a.getD 0xFFFF) |> setF CMP_ENG_CFG.LOAD_Q e load
  if n = 0 then s
  else s |> setF CMP_ENG_CFG.ENABLED e 1 |> setF CMP_ENG_CFG.N_HEADS e n |> setF CMP_ENG_CFG.PLANE e ((planeOfEngine b e s).getD 0)

/-- A safety head's ancillary layer and base layer (R241, R242). -/
def regsSafety (b : List Byte) (h : Nat) (s : State) : State :=
  if !getB CMP_HEAD_CFG.SAFETY h s then s
  else
    let w2 := 2 ^ 13 + getF CMP_HEAD_CFG.BASE_LAYER h s * 2 ^ 8
    s |> setF CMP_HEAD_ACT2.WORD h w2 |> setF CMP_HEAD_SHD2.WORD h w2
      |> putLayer (baseLayerOf h s) 0 (baseRecord b h s) |> putLayer (baseLayerOf h s) 8 (baseRecord b h s)

/-- COMPOSITION, after KENNEL: heads, engines, and every layer and head record at its IMAGE reset value (R241, R242, R257 to R263). -/
def regsComp (b : List Byte) (s : State) : State :=
  let given := if sectOf tyComp b = [] then [] else List.range 128
  let s := given.foldl (fun s h => setSome [CMP_HEAD_CFG.FORMAT, CMP_HEAD_CFG.SAFETY, CMP_HEAD_CFG.ENABLED, CMP_HEAD_CFG.BASE_LAYER,
                                            CMP_HEAD_CFG.LOCAL, CMP_HEAD_CFG.ENGINE] h (headRec b h 0) s) s
  let hs := given.filter (fun h => getB CMP_HEAD_CFG.ENABLED h s)
  let s := s |> forEach (List.range 32) (regsEngine b hs)
             |> setColumn CMP_LAYER.WORD ((List.range 16384).map (fun k => if k % 8 = 0 then 2 ^ 30 else 0))
             |> setColumn CMP_HEAD_ACT1.WORD (List.replicate 128 blackBg) |> setColumn CMP_HEAD_SHD1.WORD (List.replicate 128 blackBg)
             |> forEach hs (regsSafety b)
  forEach ((List.range 32).filter (fun e => getB CMP_ENG_CFG.ENABLED e s)) showUsage s

/-- AUDIO: the rings. -/
def regsAudio (b : List Byte) (s : State) : State :=
  let ws := words32 ((sectOf tyAudio b).take 1048576)
  s |> setWords32 [AUD_RING_CFG.WKIND, AUD_RING_CFG.R96, AUD_RING_CFG.CAP_LOG2, AUD_RING_CFG.LEN_LOG2, AUD_RING_CFG.WRITER] ws
    |> setF AUD_POOL.USED 0 ((ws.map (fun w => if fv AUD_RING_CFG.CAP_LOG2 w = 0 then 0 else 2 ^ fv AUD_RING_CFG.CAP_LOG2 w)).sum)

/-- Static cycle count of a program (R314): each instruction's cycles times the passes of the loops around it; loops are kept as last
address and passes. -/
def staticCycles : Nat → List (Nat × Nat) → List Nat → Nat
  | _, _, [] => 0
  | p, loops, w :: ws =>
    let open_ := loops.filter (fun l => p ≤ l.1)
    let times := (open_.map (·.2)).foldl (· * ·) 1
    let loops := if fOp w = 0x04 then (p + bits w 13 8, bits w 0 13) :: open_ else open_
    times * opCycles w + staticCycles (p + 1) loops ws

/-- The coefficients of every engine that has a program, engine by engine; the others read 0. -/
def setCoefs (ps : List ReedProg) (s : State) : State :=
  let col (e : Nat) : List (Nat × Nat) :=
    match ps.find? (fun p => p.engine == e) with
    | some p => ((List.range 4096).zip p.coefs).map (fun q => (4096 * e + q.1, q.2 % 2 ^ REE_COEF.COEF.width))
    | none => []
  { s with regs := mput [] s.regs REE_COEF.COEF.id (((List.range 128).flatMap col).filter (fun q => q.2 != 0)) }

/-- REED: engines, program lengths, coefficients. -/
def regsReed (b : List Byte) (s : State) : State :=
  let s := (reedProgs b).foldl (fun s p =>
    s |> setF REE_ENG_CFG.ENABLED p.engine 1 |> setF REE_ENG_PROG.PROG_LEN p.engine p.prog.length
      |> setF REE_ENG_PROG.STATIC_CYCLES p.engine (staticCycles 0 [] p.prog)) s
  setCoefs (reedProgs b) s

/-- ETHERNET. -/
def regsEth (b : List Byte) (s : State) : State :=
  if sectOf tyEth b = [] then s
  else
    let x := sectOf tyEth b
    let lp (j k : Nat) : Nat := w32 x (16 + 4 * k + j)
    s |> setWords32 [ETH_PORT_CFG.ENABLED, ETH_PORT_CFG.SPLIT, ETH_PORT_CFG.LANE_RATE, ETH_PORT_CFG.NET_MAP] ((List.range 16).map (w32 x))
      |> setWords32 [ETH_LP_MAC_LO.ADDR_LO] ((List.range 64).map (lp 0)) |> setWords32 [ETH_LP_MAC_HI.ADDR_HI] ((List.range 64).map (lp 1))
      |> setWords32 [ETH_LP_PTP_DELAY.TX_DELAY, ETH_LP_PTP_DELAY.RX_DELAY] ((List.range 64).map (lp 2))
      |> setWords32 [FLW_LP_IP.ADDR] ((List.range 64).map (lp 3))

/-- FLOWS: definitions. -/
def regsFlows (b : List Byte) (s : State) : State :=
  (flowDefs b).foldl (fun s d =>
    let c := bits d.1 0 16
    if bit d.1 31 then setSome [FLW_TX_CFG.KIND, FLW_TX_CFG.PLANE] c d.2 s
    else setSome [FLW_RX_CFG.KIND, FLW_RX_CFG.R96, FLW_RX_CFG.N_CH_M1, FLW_RX_CFG.BIND] c d.2 s) s

/-- The image's digest, ROLLBACK and source (R584, R585, R592). -/
def regsStatus (b : List Byte) (source : Nat) (s : State) : State :=
  let d := iDigest b
  s |> setF SYS_IMG_STATUS.SOURCE 0 source |> setF SYS_IMG_ROLLBACK.VALUE 0 (iRollback b)
    |> forEach (List.range 12) (fun w s => setF SYS_IMG_DIGEST.WORD w (leAt d (4 * w) 4) s)

/-- Every register of reset domain IMAGE at its value under the image, all others as they are (R16 to R18). -/
def imageRegs (b : List Byte) (source : Nat) (s : State) : State :=
  s |> resetDomains [.image] |> regsModule b |> regsTime b |> regsLanes b |> regsXpt b |> regsFlows b |> regsKennel b |> regsComp b
    |> regsAudio b |> regsReed b |> regsEth b |> regsStatus b source

/-! ### What the image changes in the structures behind the registers -/

/-- Banks and stacks that POWER gates (R571). -/
def powerWord (b : List Byte) : Nat := leAt (sectOf tyPower b) 0 16
def gatedBank (w k : Nat) : Bool := bit w k
def gatedStacks (w : Nat) : Bool := bit w 80

/-- An initial EMBED, DEEMBED or FILL record takes effect. An output that carries no stream yet has no inactive group. -/
def initialRecord (ws : List Nat) (s : State) : State :=
  match recordOf ws with
  | .embed o g 1 _ rs lat =>
    s |> setBit AUD_OUT_RINGS.GROUPS g o
      |> setAud (fun a => { a with groups := minsert (32 * o + g) { rings := rs, lat := lat, old := none } a.groups })
  | .embed o g 2 _ _ _ => setBit AUD_OUT_MUTE.GROUPS g o s
  | .embed _ _ _ _ _ _ => s
  | x => applyRecord x s

/-- The state against which the initial records of an image are checked (R574, 0x21): the image's registers, no command waiting, the
safety outputs named. -/
def imageState (b : List Byte) (s : State) : State :=
  let s := imageRegs b 0 s
  { s with eth := { s.eth with recs := [], rx := [], tx := [] }, aud := {}, xpt := { s.xpt with safety := safetyPairs b, pend := [], allocs := [] } }
    |> clearFlds [FLW_RX_STATUS.EN, FLW_TX_STATUS.EN]

end Sys2Proof.Machine
end

