-- ==== Sys2Proof/Machine/ImageRules.lean ====
section
/-! DEFINITION. Validation of a structure image in the order of R574: each check answers the index of the section at fault, or none. -/

namespace Sys2Proof.Machine

/-- A refusal under R574: reason code and DETAIL1. -/
abbrev Judged := Option (Nat × Nat)

def noSection : Nat := 0xFFFFFFFF

/-- The check of code `c` reports section `d` unless `ok`. -/
def demand (c d : Nat) (ok : Bool) : Judged := if ok then none else some (c, d)

/-- No bit of `w` outside the mask. -/
def only (mask w : Nat) : Bool := w &&& mask == w

/-! ### Header and table (0x01, 0x03, 0x04) -/

def headerOk (b : List Byte) : Bool :=
  4096 ≤ b.length && b.length ≤ 50331648 && b.take 4 == iMagic && iFver b == 1 && iLength b == b.length && iKeyId b ≤ 3
    && leAt b 0x15 11 == 0

def sectionTypes : List Nat := (List.range 12).map (· + 1)
def requiredTypes : List Nat := [tyModule, tyPlanes, tyRefs, tyLanes, tyXpt, tyAudio, tyPower]

/-- SLEN is the size of the section's records (R571). -/
def slenOk (ty : Nat) (x : List Byte) : Bool :=
  if ty = tyModule || ty = tyPlanes then x.length == 64
  else if ty = tyRefs then x.length == 52
  else if ty = tyLanes then x.length == 8704
  else if ty = tyXpt then x.length == 32768
  else if ty = tyKennel then x.length % 8 == 0
  else if ty = tyComp then
    let n := safetyCount x
    2048 + 4 * n ≤ x.length && n ≤ 128 && (x.length - 2048 - 4 * n) % 1796 == 0 && (x.length - 2048 - 4 * n) / 1796 ≤ 12
  else if ty = tyAudio then 1048576 ≤ x.length && (x.length - 1048576) % 32 == 0 && (x.length - 1048576) / 32 ≤ 65536
  else if ty = tyReed then (reedRecs 129 x).isSome
  else if ty = tyEth then x.length == 1088
  else if ty = tyFlows then (x.length - 8 * flowDefCount x) % 32 == 0
  else x.length == 16

/-- Bytes `lo` to `hi - 1` are 0. -/
def gapZero (b : List Byte) (lo hi : Nat) : Bool := ((b.drop lo).take (hi - lo)).all (· == 0#8)

/-- Index of the first entry that breaks R569 or R571, by the entry before: its type and its end. -/
def badEntry (b : List Byte) : Nat → Nat → Nat → List Sect → Option Nat
  | _, _, _, [] => none
  | k, prev, stop, e :: es =>
    let ok := sectionTypes.contains e.typ && prev < e.typ && e.zero == 0 && e.off % 64 == 0 && stop ≤ e.off
      && e.off + e.len ≤ b.length - 96 && gapZero b stop e.off && slenOk e.typ ((b.drop e.off).take e.len)
    if ok then badEntry b (k + 1) e.typ (e.off + e.len) es else some k

def tableEnd (b : List Byte) : Nat := 64 + 16 * iSects b

/-- End of the last section. -/
def sectEnd (b : List Byte) : Nat := match (sectTable b).getLast? with | some e => e.off + e.len | none => tableEnd b

def tableCheck (b : List Byte) : Judged :=
  if iSects b = 0 || 16 < iSects b then some (0x03, noSection)
  else match badEntry b 0 0 (tableEnd b) (sectTable b) with
    | some k => some (0x03, k)
    | none => demand 0x03 noSection (requiredTypes.all (fun t => (sectTable b).any (fun e => e.typ == t)) && gapZero b (sectEnd b) (b.length - 96))

def crcCheck (b : List Byte) : Judged :=
  ((sectTable b).findIdx? (fun e => crc32 ((b.drop e.off).take e.len) != e.crc)).map (fun k => (0x04, k))

/-! ### Fields (0x10) -/

def fieldsModule (b : List Byte) : Bool :=
  let x := sectOf tyModule b
  let planes := (List.range 8).any (fun p => bit (w32 (sectOf tyPlanes b) (2 * p)) 31)
  byteAt x 0 ≤ 1 && (byteAt x 1 ≤ 7 || !planes) && 100 ≤ leAt x 2 2 && leAt x 2 2 ≤ 5000 && leAt x 4 6 != 0 && byteAt x 10 ≤ 1
    && byteAt x 11 ≤ 6 && byteAt x 12 ≤ 1 && (x.drop 13).all (· == 0#8)

def fieldsPlanes (b : List Byte) : Bool :=
  let x := sectOf tyPlanes b
  (List.range 8).all (fun p =>
    let w := w32 x (2 * p)
    let o := w32 x (2 * p + 1)
    let r := bits w 0 8
    only 0xC00000FF w && o < 2 ^ 30 && (!bit w 31 || (1 ≤ r && r ≤ 8 && o * nsUnit < framePeriod r)))

def fieldsRefs (b : List Byte) : Bool :=
  let x := sectOf tyRefs b
  (List.range 11).all (fun n =>
    let w := w32 x n
    only 0xC001FF0F w && (!bit w 30 || n < 2) && (!bit w 31 || bits w 8 9 != 0))

def fieldsLanes (b : List Byte) : Bool :=
  let ws := words32 (sectOf tyLanes b)
  (ws.take 128).all (fun w => w < 16 && bits w 2 2 != 3) && (ws.drop 128).all (fun w => w < 4096)

def fieldsXpt (b : List Byte) : Bool :=
  let x := sectOf tyXpt b
  (x.take 16384).all (fun v => v.toNat < 8) && (x.drop 16384).all (fun v => !bit v.toNat 3)

/-- Strictly ascending. -/
def ascending : List Nat → Bool
  | a :: b :: l => a < b && ascending (b :: l)
  | _ => true

def fieldsKennel (b : List Byte) : Bool :=
  ascending ((kennelRecs b).map (fun r => bits r.1 0 16)) && (kennelRecs b).all (fun r =>
    let cls := bits r.2 29 3
    let load := bits r.1 18 6
    only 0x00FCFFFF r.1 && cls ≤ 5
      && (if cls = clCompRead then 4 ≤ load && load ≤ 32 && bits r.2 0 16 < 32
          else load == 0 && (cls == clAbsent || fmtValid (bits r.2 16 8)))
      && (cls != clAbsent || bits r.2 0 16 == 0) && (cls != clStill || bits r.2 0 16 == 0)
      && ((cls != clFsync && cls != clDelay) || bits r.2 0 16 < 16384))

def fieldsComp (b : List Byte) : Bool :=
  let x := sectOf tyComp b
  x == [] || ((List.range 128).all (fun h =>
      let w := headRec b h 0
      only 0xFFDF301F w && headRec b h 1 < 2 ^ 28 && headRec b h 2 < 2 ^ 30 && headRec b h 3 == 0
        && (!bit w 22 || fmtValid (bits w 24 8)) && (bit w 23 || bits w 16 5 == 0)
        && bit w 23 == (safetyRecs b).any (fun r => bits r 16 7 == h))
    && (safetyRecs b).all (fun r => only 0x807F3FFF r)
    && (coefSets b).all (fun c => 4 ≤ byteAt c 0 && byteAt c 0 ≤ 15 && leAt c 1 3 == 0
         && (List.range 896).all (fun k => leAt c (4 + 2 * k) 2 < 4096))
    && ascending ((coefSets b).map (fun c => byteAt c 0)))

def fieldsAudio (b : List Byte) : Bool :=
  (words32 ((sectOf tyAudio b).take 1048576)).all (fun w =>
    let cap := bits w 24 4
    let kind := bits w 30 2
    only 0xEFF0FFFF w && (cap == 0 || (4 ≤ cap && cap ≤ 10 && 4 ≤ bits w 20 4)) && (kind == 2 || kind == 3 || bits w 0 16 == 0))

def fieldsReed (b : List Byte) : Bool :=
  ascending ((reedProgs b).map (·.engine)) && (reedProgs b).all (fun p => p.engine < 128 && (p.header.drop 4).all (· == 0#8))

def fieldsEth (b : List Byte) : Bool :=
  let x := sectOf tyEth b
  x == [] || ((List.range 16).all (fun p => only 0x1EF (w32 x p)) && (List.range 64).all (fun k => w32 x (16 + 4 * k + 1) < 65536))

def fieldsFlows (b : List Byte) : Bool :=
  (flowDefs b).all (fun d => only 0x8000FFFF d.1 && bits d.2 29 3 ≤ 5 && (if bit d.1 31 then bits d.2 0 26 == 0 else bits d.2 18 4 == 0))

def fieldsPower (b : List Byte) : Bool := leAt (sectOf tyPower b) 0 16 < 2 ^ 81

def fieldCheck (b : List Byte) : Judged :=
  let checks : List (Nat × Bool) :=
    [(tyModule, fieldsModule b), (tyPlanes, fieldsPlanes b), (tyRefs, fieldsRefs b), (tyLanes, fieldsLanes b), (tyXpt, fieldsXpt b),
     (tyKennel, fieldsKennel b), (tyComp, fieldsComp b), (tyAudio, fieldsAudio b), (tyReed, fieldsReed b), (tyEth, fieldsEth b),
     (tyFlows, fieldsFlows b), (tyPower, fieldsPower b)]
  (checks.find? (fun c => !c.2)).map (fun c => (0x10, sectIndex c.1 b))

/-! ### Rules within the structure (0x11 to 0x21); `s` is the state that the image would give -/

/-- R55: both directions of a group share CLK_MODE in one record. A slot mode belongs to an assigned direction. -/
def lanesOk (b : List Byte) : Bool :=
  let ws := words32 (sectOf tyLanes b)
  ((List.range 2048).zip (ws.drop 128)).all (fun p =>
    let g := ws.getD (p.1 / 16) 0
    let w := p.2
    (bit g 0 || bits w 8 2 == 0) && (bit g 1 || bits w 10 2 == 0))

def headsUsed (s : State) : List Nat := indicesWhere CMP_HEAD_CFG.ENABLED (· == 1) s
def enginesUsed (s : State) : List Nat := (List.range 32).filter (fun e => headsOf e s != [])

/-- R449 as far as validation judges it. -/
def videoPlanesOk (s : State) : Bool :=
  !([0, 1].any (fun n => getB PIP_REF_CFG.USED n s && !getB PIP_REF_CFG.MODE n s))
    || (planesOn s).all (fun p => !getB PIP_PLANE_CFG.ALIGN p s || [3, 4, 6, 7].contains (planeRate p s))

def planesOk (b : List Byte) (s : State) : Bool :=
  (List.range 16384).all (fun i => (!inUsed i s || planeEnabled (getF XPT_IN_CFG.PLANE i s) s) && (!outUsed i s || planeEnabled (outPlane i s) s))
    && (enginesUsed s).all (fun e => match planeOfEngine b e s with | some p => planeEnabled p s | none => false)
    && (indicesWhere FLW_TX_CFG.KIND (fun k => k == kVideo || k == kAnc) s).all (fun c => planeEnabled (getF FLW_TX_CFG.PLANE c s) s)
    && (planesOn s == [] || planeEnabled (getF AUD_CFG.AUDIO_PLANE 0 s) s)
    && videoPlanesOk s

/-- R181 to R183. -/
def kennelOk (b : List Byte) (s : State) : Bool :=
  let as := indicesWhere KNL_ALLOC_CFG.CLASS (· != clAbsent) s
  let same (a c : Nat) : Bool := allocClass a s == allocClass c s && allocWriter a s == allocWriter c s && allocClass a s != clStill
  (kennelRecs b).all (fun r => bits r.1 0 16 < 8192)
    && as.all (fun a =>
         let n := allocSlots a s
         let cls := allocClass a s
         (if cls = clFsync || cls = clFlowRx then n == 3 else if cls = clDelay then 4 ≤ n && n ≤ 19
          else if cls = clStill then 1 ≤ n && n ≤ 16 else n == 0)
           && ((cls != clFsync && cls != clDelay) || rateAllowed (slotRate (allocFmtMax a s)) (getF LNI_PAY_CFG.SLOT_MODE (allocWriter a s / 8) s))
           && as.all (fun c => c == a || !same a c))

/-- R218. -/
def headsOk (b : List Byte) (s : State) : Bool :=
  (enginesUsed s).all (fun e =>
    let hs := headsOf e s
    hs.length ≤ 4 && hs.all (fun h => hs.all (fun k => k == h || getF CMP_HEAD_CFG.LOCAL k s != getF CMP_HEAD_CFG.LOCAL h s))
      && hs.all (fun h => fmtRate (headFmt h s) == engRate e s)
      && (match planeOfEngine b e s with | some p => hs.all (fun h => belongs (headFmt h s) p s) | none => true))

/-- R219, in units of 1/1001 pixel per second. -/
def pixelsOk (s : State) : Bool :=
  (enginesUsed s).all (fun e =>
    ((headsOf e s).map (fun h =>
      let r := rateFrac (fmtRate (headFmt h s))
      fmtPixels (headFmt h s) * r.1 * (1001 / r.2))).sum ≤ 594000000 * 1001)

/-- Every phase of a coefficient set sums to 1024 (R229). -/
def coefOk (b : List Byte) : Bool :=
  (coefSets b).all (fun c => (List.range 64).all (fun ph =>
    let at_ (k : Nat) : Int := toSigned 12 (leAt c (4 + 28 * ph + 2 * k) 2)
    ((List.range 8).map at_).sum == 1024 && ((List.range 6).map (fun k => at_ (8 + k))).sum == 1024))

/-- Read rate of an engine's base layers against its LOAD (R231). -/
def baseLoadOk (e : Nat) (s : State) : Bool :=
  let n := (baseLayers e s).length
  let r := rateFrac (engRate e s)
  n == 0 || (getF CMP_ENG_CFG.COMPREAD e s != 0xFFFF && n * largestPicture s * r.1 ≤ readLimit e s * r.2)

def safetyOk (b : List Byte) (s : State) : Bool :=
  let outs := (List.range 16384).filter (fun o => outUsed o s && isSafety o s)
  outs.length ≤ 128 && outs.all (fun o => (safetyPairs b).any (fun p => p.1 == o))
    && (safetyPairs b).all (fun p =>
         outs.contains p.1 && getB CMP_HEAD_CFG.ENABLED p.2 s
           && planeOfEngine b (getF CMP_HEAD_CFG.ENGINE p.2 s) s == some (outPlane p.1 s)
           && (let c := allocClass (bits (headRec b p.2 1) 0 16) s; 1 ≤ c && c ≤ 4))
    && (enginesUsed s).all (fun e => baseLoadOk e s)

/-- R274, R276. -/
def ringPoolOk (b : List Byte) (s : State) : Bool :=
  let ws := words32 ((sectOf tyAudio b).take 1048576)
  ((ws.map (fun w => if bits w 24 4 = 0 then 0 else 2 ^ bits w 24 4)).sum ≤ 25165824)
    && ws.all (fun w => bits w 20 4 ≤ bits w 24 4 && (bits w 24 4 != 0 || bits w 30 2 == 0))
    && (indicesWhere AUD_RING_CFG.R96 (· == 1) s).all (fun r =>
         let q := if r % 2 = 0 then r + 1 else r - 1
         ring96 q s && getF AUD_RING_CFG.CAP_LOG2 r s == getF AUD_RING_CFG.CAP_LOG2 q s && ringLen r s == ringLen q s)

/-- Rings that a receive audio context writes (R291). -/
def rxRings (c : Nat) (s : State) : List Nat :=
  (List.range ((getF FLW_RX_CFG.N_CH_M1 c s + 1) * (if getB FLW_RX_CFG.R96 c s then 2 else 1))).map (· + rxBind c s)

/-- R277, R291, R294. Every ring is the home ring of some channel (R273). -/
def ringWritersOk (s : State) : Bool :=
  (indicesWhere AUD_RING_CFG.WKIND (· != wkNone) s).all (fun r =>
      let w := getF AUD_RING_CFG.WRITER r s
      if ringWriter r s = wkFlow then isAudioKind (rxKind w s) && (rxRings w s).contains r
      else if ringWriter r s = wkReed then getB REE_ENG_CFG.ENABLED (w / 512) s
      else true)
    && (indicesWhere FLW_RX_CFG.KIND isAudioKind s).all (fun c => (rxRings c s).all (fun r =>
         ringWriter r s == wkFlow && getF AUD_RING_CFG.WRITER r s == c && ring96 r s == getB FLW_RX_CFG.R96 c s))

/-- Bits that R322 names for an operation; none for an undefined OP. -/
def opMask (op : Nat) : Option Nat :=
  match op with
  | 0x00 | 0x01 => some 0xF8000000
  | 0x02 | 0x03 => some 0xFE001FFF
  | 0x04 | 0x10 | 0x11 | 0x12 | 0x13 | 0x18 => some 0xFFFFFFFF
  | 0x08 => some 0xFFE003FF
  | 0x09 => some 0xFFE001FF
  | 0x0A | 0x0B => some 0xFFE01FFF
  | 0x0C => some 0xFFE00000
  | 0x0D => some 0xFFFE01FF
  | 0x0E => some 0xFE000000
  | 0x14 => some 0xFFFF0000
  | 0x19 => some 0xFFF80FFF
  | 0x1C => some 0xFFFF800F
  | _ => none

/-- Rules 2, 4 and 5 of R329 for one word. -/
def wordOk (w : Nat) : Bool :=
  (match opMask (fOp w) with | some m => only m w | none => false)
    && (fOp w != 0x1C || bits w 0 4 ≤ 0xB)
    && (fOp w != 0x18 || !bit w 20 || fVD w % 2 == 0)
    && ((fOp w != 0x02 && fOp w != 0x03) || fXI w != 0)

/-- Rule 3 of R329: `stops` are the last addresses of the loops around, innermost first. -/
def loopsOk (len : Nat) : Nat → List Nat → List Nat → Bool
  | _, _, [] => true
  | p, stops, w :: ws =>
    let open_ := stops.filter (fun x => p ≤ x)
    if fOp w = 0x04 then
      let stop := p + bits w 13 8
      bits w 13 8 != 0 && bits w 0 13 != 0 && bits w 0 13 ≤ 8191 && stop < len && open_.length ≤ 1 && open_.all (fun x => stop ≤ x)
        && loopsOk len (p + 1) (stop :: open_) ws
    else (fOp w != 0x01 || open_ == []) && loopsOk len (p + 1) open_ ws

def programOk (p : ReedProg) : Bool :=
  p.prog.length ≤ 8192 && (match p.prog.getLast? with | some w => fOp w == 0x01 | none => false) && p.prog.all wordOk
    && loopsOk p.prog.length 0 [] p.prog

/-- R30: one port of a pair on each network. -/
def portsApart (ws : List Nat) (s : State) : Bool := !recOn ws || !recPaired ws || lpNet (recLpA ws) s != lpNet (recLpB ws) s

def portRulesOk (b : List Byte) (s : State) : Bool :=
  (List.range 16).all (fun p => getF ETH_PORT_CFG.SPLIT p s != 3) && (initialFlows b).all (fun ws => portsApart ws s)

/-- No element twice. -/
def distinct : List Nat → Bool
  | [] => true
  | a :: l => !l.contains a && distinct l

/-- R394. -/
def flowsOk (b : List Byte) (s : State) : Bool :=
  distinct ((flowDefs b).map (·.1))
    && (indicesWhere FLW_RX_CFG.KIND (· != 0) s).all (fun c =>
         let k := rxKind c s
         let d := rxBind c s
         if k = kVideo then allocClass d s == clFlowRx && allocWriter d s == c
         else if k = kAnc then rxKind d s == kVideo
         else if k = kOpaque then getF FLW_TX_CFG.KIND d s == kOpaque
         else true)
    && (indicesWhere KNL_ALLOC_CFG.CLASS (· == clFlowRx) s).all (fun a =>
         rxKind (allocWriter a s) s == kVideo && rxBind (allocWriter a s) s == a)

/-- Two extents, in KiB, meet. -/
def meets (a la c lc : Nat) : Bool := a < c + lc && c < a + la

/-- SRAM bank `k` is in use under the image (R36, R37). -/
def bankUsed (k : Nat) (s : State) : Bool :=
  let reeds := indicesWhere REE_ENG_CFG.ENABLED (· == 1) s
  let engs := indicesWhere CMP_ENG_CFG.ENABLED (· == 1) s
  let rx := indicesWhere FLW_RX_CFG.KIND (· != 0) s
  if k < 24 then k * 2 ^ 20 < getF AUD_POOL.USED 0 s
  else if k < 40 then getB ETH_PORT_CFG.ENABLED (k - 24) s
  else if k < 52 then true
  else if k < 58 then reeds.any (fun e => meets (192 * e) 192 (4096 * (k - 52)) 4096)
  else if k < 64 then engs.any (fun e => meets (768 * e) 768 (4096 * (k - 58)) 4096)
  else if k = 65 then indicesWhere FLW_TX_CFG.KIND (· != 0) s != []
  else if k < 68 then rx != []
  else if k < 70 then engs.any (fun e => e / 16 == k - 68)
  else if k < 72 then true
  else indicesWhere KNL_ALLOC_PAGES.PAGES (· != 0) s != []

def powerOk (b : List Byte) (s : State) : Bool :=
  let g := powerWord b
  (List.range 80).all (fun k => !gatedBank g k || !bankUsed k s)
    && (!gatedStacks g || indicesWhere KNL_ALLOC_CFG.CLASS (· != clAbsent) s == [])

/-- Initial records against the state of the image (0x21). -/
def initialCheck (b : List Byte) (s : State) : Judged :=
  if (initialMaps b).any (fun ws => recKind ws == 4) || (mapCheck (initialMaps b) s).isSome then some (0x21, sectIndex tyAudio b)
  else demand 0x21 (sectIndex tyFlows b) (flowCheck (initialFlows b) s).isNone

/-- Sum of capacities in pages, and of charges in units of 125 kB/s, of the kennel records (R39, R183, R184). -/
def totalPages (b : List Byte) : Nat :=
  ((kennelRecs b).map (fun r => if bits r.2 29 3 = clCompRead || bits r.2 29 3 = clAbsent then 0
                                else bits r.2 24 5 * framePages (bits r.2 16 8))).sum
def totalCharge (b : List Byte) (s : State) : Nat :=
  ((kennelRecs b).map (fun r => if bits r.2 29 3 = clAbsent then 0
                                else chargeOf (bits r.2 29 3) (bits r.2 16 8) (bits r.1 18 6) (chargedPlanes s))).sum

/-- The checks of the structure, in order. -/
def structureCheck (b : List Byte) (s : State) : Judged :=
  let at_ (ty : Nat) : Nat := sectIndex ty b
  let checks : List (Nat × Nat × Bool) :=
    [(0x11, at_ tyLanes, lanesOk b), (0x12, at_ tyPlanes, planesOk b s), (0x13, at_ tyKennel, kennelOk b s),
     (0x14, at_ tyKennel, totalPages b ≤ 3145728), (0x15, at_ tyKennel, totalCharge b s ≤ 80000000),
     (0x16, at_ tyComp, headsOk b s), (0x17, at_ tyComp, pixelsOk s), (0x18, at_ tyComp, coefOk b), (0x19, at_ tyComp, safetyOk b s),
     (0x1A, at_ tyAudio, ringPoolOk b s), (0x1B, at_ tyAudio, ringWritersOk s),
     (0x1C, at_ tyReed, (reedProgs b).all programOk), (0x1D, at_ tyReed, (reedProgs b).all (fun p => staticCycles 0 [] p.prog ≤ 320000)),
     (0x1E, at_ tyEth, portRulesOk b s), (0x1F, at_ tyFlows, flowsOk b s), (0x20, at_ tyPower, powerOk b s)]
  match checks.find? (fun c => !c.2.2) with
  | some c => some (c.1, c.2.1)
  | none => initialCheck b s

/-! ### The whole validation -/

/-- The first check of R574 that fails. -/
def validate (b : List Byte) (s : State) : Judged :=
  if !headerOk b then some (0x01, noSection)
  else if iTarget b != 0x2048 then some (0x02, noSection)
  else match tableCheck b with
    | some r => some r
    | none =>
      match crcCheck b with
      | some r => some r
      | none =>
        if !signedBy (5 + iKeyId b) (iSigned b) (iSignature b) s then some (0x05, noSection)
        else if iRollback b < getF SYS_IMG_RB_STORED.VALUE 0 s then some (0x06, noSection)
        else if evalFixed s && byteAt (sectOf tyModule b) 12 == 0 then some (0x07, sectIndex tyModule b)
        else match fieldCheck b with
          | some r => some r
          | none => structureCheck b (imageState b s)

end Sys2Proof.Machine
end

