-- ==== Sys2Proof/Machine/ImageApply.lean ====
section
/-! DEFINITION. What an IMAGE reset does to the blocks (R54, R75, R81, R163, R165, R199, R241, R263, R299, R333, R355, R395, R439, R452,
R487, R488, R579, R580, R686, R701). -/

namespace Sys2Proof.Machine

def setImg (f : ImgState → ImgState) (s : State) : State := { s with img := f s.img }

/-- Fields of an instance as they were in `old`. -/
def keepFs (fs : List Fld) (i : Nat) (old s : State) : State := forEach fs (fun f s => setF f i (getF f i old) s) s

/-- Some field of the instance differs. -/
def differs (fs : List Fld) (i : Nat) (old s : State) : Bool := fs.any (fun f => getF f i old != getF f i s)

/-! ### Commands -/

/-- Commands that commit in a block (R163, R237, R298, R332, R420). -/
def committing : List Nat := [0x10, 0x11, 0x18, 0x19, 0x1A, 0x20, 0x21, 0x30, 0x31, 0x38]

/-- Commands that `hit` picks complete ABORTED, and where `own` holds restore and resynchronisation takes end too; a mirror ends without
a report. -/
def abortWhere (hit : OpenCmd → Bool) (own : Bool) (s : State) : State :=
  let ids := (s.cmd.opens.filter hit).map (·.uid)
  s |> dropMembers (fun u => (own && u == 0) || ids.contains u)
    |> setCmd (fun m => { m with opens := (m.opens.filter (fun c => !(c.mirror && hit c))).map
                                   (fun c => if hit c then { c with aborted := true, left := 0 } else c) })
    |> finishReady

/-- Commands of the given opcodes that have not committed. -/
def abortOpen (ops : List Nat) (s : State) : State := abortWhere (fun c => ops.contains c.opcode && c.left != 0) true s

/-- A salvo has committed some members and not all (R163). -/
def midSalvo (s : State) : Bool := s.cmd.opens.any (fun c => c.opcode == 0x11 && c.left != 0 && c.commitAt.isSome)

/-- The reset falls due while such a salvo holds it off: the salvos that have committed no member are aborted whole (R163). -/
def abortSalvos (s : State) : State := abortWhere (fun c => c.opcode == 0x11 && c.left != 0 && c.commitAt.isNone) false s

/-! ### Switched domains (R699 to R701) -/

/-- Banks that are never gated in service (R37). -/
def coreBank (k : Nat) : Bool := (40 ≤ k && k ≤ 51) || k == 70 || k == 71

/-- The image, whose POWER record is `g`, gives the domain work; a bank or stack is assigned unless POWER gates it. -/
def domAssigned (g d : Nat) (s : State) : Bool :=
  if d < 128 then getB LNI_GRP_CFG.ENABLED d s
  else if d < 256 then getB LNO_GRP_CFG.ENABLED (d - 128) s
  else if d < 272 then getB ETH_PORT_CFG.ENABLED (d - 256) s
  else if d < 400 then getB REE_ENG_CFG.ENABLED (d - 272) s
  else if d < 432 then getB CMP_ENG_CFG.ENABLED (d - 400) s
  else if d < 440 then !gatedStacks g
  else if d < 520 then coreBank (d - 440) || !gatedBank g (d - 440)
  else if d < 536 then getB ETH_PORT_CFG.ENABLED (d - 520) s
  else true

/-- An SRAM bank loses its content when it is gated (R37). -/
def loseBank (k : Nat) (s : State) : State :=
  setXpt (fun x => { x with zeroed := x.zeroed.filter (· != k), sram := x.sram.filter (fun p => p.1 / 0x400000 != k) }) s

/-- Crumhorn orders the start of domain `d`. -/
def orderStart (d : Nat) (s : State) : State := setBoot (fun b => { b with domAt := mput 0 b.domAt d s.now }) s

/-- One domain at an IMAGE reset: gated when unassigned, started when it is assigned and GATED. -/
def domReset (g d : Nat) (s : State) : State :=
  let on := domAssigned g d s
  let s := setB PWR_DOM.ASSIGNED d on s
  let s := if 440 ≤ d && d < 520 && !on then loseBank (d - 440) s else s
  if !on then (if domState d s = dFailed then s else setDom d dGated s)
  else if domState d s = dGated && !domDead d s then s |> setDom d dStarting |> orderStart d
  else if domState d s = dSelfRefresh then orderStart d s
  else s

/-- A pool fills the bank: what a byte of it holds is the pool's. -/
def usedBank (k : Nat) (s : State) : State := setXpt (fun x => { x with zeroed := x.zeroed.filter (· != k) }) s

/-- A pool is in use in a bank that failed: FIT falls (R600). -/
def failedBanks (s : State) : State :=
  if (List.range 80).any (fun k => bankUsed k s && domDead (440 + k) s) then setDiag diagSram s else s

/-! ### Lanes (R54, R59, R81) -/

/-- Registers of the lanes of one direction, one instance a lane. -/
def laneFields (d : Dir) : List Fld :=
  let lo := match d with | .inp => 0x400000 | .out => 0x600000
  allFields.filter (fun f => lo ≤ f.base && f.base < lo + 0x200000 && f.count == 2048)

/-- Fields of a lane that take the image's value (R18, R97, R127, R133). -/
def imageLaneFields : List Fld :=
  [LNI_PAY_CFG.SLOT_MODE, LNO_PAY_CFG.SLOT_MODE, LNO_TX_CFG.PRESET_ACT, LNO_TX_CFG.AMPLITUDE, LNO_TX_CFG.PRESET]

/-- An input slot that carries nothing; PHASE_NS has no value in NOSIG (R172). -/
def blankInput (i : Nat) (s : State) : State :=
  s |> setF XPT_IN_STATUS.WIN i wNoSig |> setF XPT_IN_STATUS.FORMAT i 0 |> setF XPT_IN_PHASE.PHASE_NS i 0x80000000
    |> setXIn i (fun _ => {}) |> setMeas i (fun _ => { lossSince := some s.now })

/-- The lane is gated: its registers read their reset values (R54). -/
def gateLane (d : Dir) (n : Nat) (s : State) : State :=
  let fs := (laneFields d).filter (fun f => !(imageLaneFields.map (·.id)).contains f.id)
  match d with
  | .inp => s |> resetFs fs n |> setIn n (fun _ => {}) |> forEach ((List.range 8).map (· + 8 * n)) blankInput
  | .out => s |> resetFs fs n |> setOut n (fun _ => {})

/-- A lane that stays assigned: the counts of R59 start anew; a changed clock mode (a group of AUTO that had
fallen back is in common mode again), ONE_WAY or default preset starts a series. -/
def keepLane (d : Dir) (n : Nat) (again : Bool) (s : State) : State :=
  let s := match d with
    | .inp => setIn n (fun l => { l with fails := 0, wasActive := inState n s == stActive }) s
    | .out => setOut n (fun l => { l with fails := 0, wasActive := outState n s == stActive }) s
  if again then startSeriesOn d n s else s

/-- One lane, with the state before the reset. -/
def laneReset (old : State) (d : Dir) (n : Nat) (s : State) : State :=
  let g := groupOf n
  let en (s : State) : Bool := match d with | .inp => getB LNI_GRP_CFG.ENABLED g s | .out => getB LNO_GRP_CFG.ENABLED g s
  let mode := differs [LNI_GRP_CFG.CLK_MODE, LNI_GRP_CFG.CLK_MODE_ACT, LNI_GRP_CFG.ONE_WAY, LNO_GRP_CFG.ONE_WAY] g old s
  let preset := outAssigned n s && mget 0 old.img.presets n != mget 0 s.img.presets n
  if !en s then (if en old then gateLane d n s else s)
  else if !en old then s
  else
    let s := match d with
      | .out => if mode || preset then s else keepFs [LNO_TX_CFG.PRESET_ACT] n old s
      | .inp => s
    keepLane d n (mode || preset) s

/-- The activity of a group's incoming forwarded-clock lane is as it was. The clock mode in use begins anew (R59, R84). -/
def groupReset (old : State) (g : Nat) (s : State) : State :=
  if getB LNI_GRP_CFG.ENABLED g old && getB LNI_GRP_CFG.ENABLED g s then keepFs [LNI_GRP_CFG.FC_ACTIVE] g old s else s

/-- Blocks of an ACTIVE lane that keeps its slot mode show a stream in the slot (R129). -/
def streamThere (old : State) (i : Nat) (s : State) : Bool :=
  let n := i / 8
  inState n s == stActive && !getB LNI_PAY_STATUS.PAY_LOSS n s && bit (getF (cadFld (i % 8)) n s) 4 && i % 8 < inSlots n s
    && getF LNI_PAY_CFG.SLOT_MODE n old == getF LNI_PAY_CFG.SLOT_MODE n s

/-- An input slot under the new image: one not in use carries nothing; one whose plane has changed is judged anew (R140, R141). -/
def inputReset (old : State) (i : Nat) (s : State) : State :=
  let p := getF XPT_IN_CFG.PLANE i s
  let st := inWin i s
  if !inUsed i s then
    if st = wNoSig && inFmt i s = 0 then s
    else blankInput i s
  else if st = wNoSig then (if streamThere old i s then slotGain i s else s)
  else if st = wNoFmt then s
  else if getF XPT_IN_CFG.PLANE i old != p || differs [PIP_PLANE_CFG.ENABLED, PIP_PLANE_CFG.ALIGN, PIP_PLANE_CFG.RATE, PIP_PLANE_OFFSET.OFFSET_NS] p old s then
    enterWin i (if belongs (inFmt i s) p s then wGuard else wOffPlane) s
  else s

def lanesReset (old : State) (b : List Byte) (s : State) : State :=
  let s := setImg (fun m => { m with presets := ((List.range 2048).zip ((words32 (sectOf tyLanes b)).drop 128 |>.map (fun w => bits w 0 4))).filter (fun p => p.2 != 0) }) s
  let keepRx (i : Nat) : Bool := inUsed i s && getF LNI_PAY_CFG.SLOT_MODE (i / 8) old == getF LNI_PAY_CFG.SLOT_MODE (i / 8) s
  s |> forEach (List.range 128) (groupReset old)
    |> forEach (List.range 2048) (fun n s => s |> laneReset old .inp n |> laneReset old .out n)
    |> (fun s => { s with lane := { s.lane with rx := s.lane.rx.filter (fun p => keepRx p.1) } })
    |> forEach (List.range 16384) (inputReset old)

/-! ### Crosspoint, kennel, composition, audio, reeds, meters (R165, R241, R263, R299, R333, R335, R580) -/

/-- A safety output shows its head, with the base layer of the image (R157, R241). -/
def safetyShown (p : Nat × Nat) (s : State) : State := if outUsed p.1 s then showOut p.1 mHead (headFmt p.2 s) s else s

/-- The scaler's coefficient sets that the image loads: each 64 phases of 8 horizontal and 6 vertical coefficients (R229). -/
def loadedSets (b : List Byte) : List (Nat × List Int) :=
  (coefSets b).map (fun c => (byteAt c 0, (List.range 896).map (fun k => toSigned 12 (leAt c (4 + 2 * k) 2 % 4096))))

def mediaReset (b : List Byte) (s : State) : State :=
  let engines := ((reedProgs b).filter (fun p => !domDead (272 + p.engine) s)).map (fun p => (p.engine, ({ prog := p.prog } : Reed)))
  let s := s |> setXpt (fun x => { x with safety := safetyPairs b, pend := [], outs := [], allocs := [] })
             |> setCmp (fun _ => { coefs := loadedSets b })
             |> setAud (fun a => { ({} : AudState) with boundary := a.boundary })
             |> setReedS (fun r => { engines := engines, pk := r.pk, ld := r.ld.map (fun p => (p.1, { clr := p.2.clr })) })
             |> clearFlds ldWindows
             |> clearFlds [DBG_ENG_STATUS.CAUSE, DBG_ENG_STATUS.BP_HIT]
             |> forEach (List.range 160) (fun u s => setF DBG_ENG_STATUS.HALTED u 0 s)
  { s with dbg := { s.dbg with haltBlock := [] } }
    |> forEach (safetyPairs b) safetyShown
    |> forEach ((initialMaps b).map id) initialRecord
    |> forEach engines (fun e s => setF REE_ENG_STATUS.STATE e.1 reedRun s)

/-- A head that the image does not assign shows no message (R272). -/
def headsReset (s : State) : State :=
  forEach ((List.range 128).filter (fun h => !getB CMP_HEAD_CFG.ENABLED h s)) (fun h s =>
    s |> setF SHF_HEAD.MSG h 0x1F |> setF SHF_HEAD.VISIBLE h 0 |> setShf (fun f => { f with flash := mdrop h f.flash })) s

/-- Every output slot in use takes its stored route (R165). -/
def restoreRoutes (s : State) : State :=
  forEach ((List.range 16384).filter (fun o => outUsed o s)) (fun o s => restoreTake false o (getF PST_ROUTE.SOURCE o s) s) s

/-! ### Ethernet and flows (R355, R395) -/

/-- A logical port whose port has changed: its queues are discarded and its link drops. -/
def dropPort (k : Nat) (s : State) : State :=
  let s := if linkUp k s then
      s |> setPortBit ETH_PORT_STATUS.LINK k false |> raise [ETH_PORT_EVT.LINK_DOWN] (k / 4) |> ethCount32 ETH_LP_LINK_DOWN_CNT.COUNT 23 k
    else s
  let xs := (lp k s).ctlTx
  let was := lineSignal k s
  s |> setPortBit ETH_PORT_STATUS.RFAULT k false |> setPortBit ETH_PORT_STATUS.LFAULT k false
    |> setPortBit ETH_PORT_STATUS.PAUSED k false |> showLine k was |> setLp k (fun _ => {}) |> forEach xs (fun x s => writeBack x.net x.eof x.desc txLink none s)

def portReset (old : State) (p : Nat) (s : State) : State :=
  let same := getB ETH_PORT_CFG.ENABLED p old && getB ETH_PORT_CFG.ENABLED p s
    && !differs [ETH_PORT_CFG.SPLIT, ETH_PORT_CFG.LANE_RATE] p old s
  let ks := (List.range 4).map (· + 4 * p)
  if same then forEach ks flushMediaRx s
  else if getB ETH_PORT_CFG.ENABLED p old then forEach ks dropPort s
  else s

/-- Contexts keep nothing; each takes its initial record or is disabled. -/
def flowsReset (b : List Byte) (s : State) : State :=
  s |> setEth (fun e => { e with rx := [], tx := [], recs := [] })
    |> clearFlds [FLW_RX_STATUS.EN, FLW_RX_STATUS.PAIRED, FLW_RX_STATUS.PATH_A_UP, FLW_RX_STATUS.PATH_B_UP, FLW_RX_STATUS.LOSS,
                  FLW_RX_STATUS.HOLD_WORDS, FLW_TX_STATUS.EN, FLW_TX_STATUS.SENDING, FLW_TX_STATUS.RATE_MBPS]
    |> forEach (initialFlows b) (fun ws s => if recIsTx ws then commitTx ws s else commitRx ws s)

/-! ### Planes, references, PTP (R436 to R439, R449, R452, R482) -/

def planeSettings : List Fld := [PIP_PLANE_CFG.ENABLED, PIP_PLANE_CFG.ALIGN, PIP_PLANE_CFG.RATE, PIP_PLANE_OFFSET.OFFSET_NS]

/-- Last boundary at or before now of a plane's target: the frame pulses of the selected video input (`pulse` the last of them), or
local time. -/
def planeTarget (p : Nat) (pulse : Option Nat) (s : State) : Nat × Bool :=
  let off := getF PIP_PLANE_OFFSET.OFFSET_NS p s
  let per := max 1 (planePeriod p s)
  match (if isVideo p s && selected s < 2 && videoFits p s then pulse else none) with
  | some r => let x : Int := (r : Int) + off * nsUnit; ((x - ((x - s.now + per - 1) / per) * per).toNat, true)
  | none => (((timeSt2059 (planeRate p s) off (countSt2059 (planeRate p s) off (localTime s)) : Int) - s.timeOff).toNat, !isVideo p s)

def planeReset (old : State) (pulses : List (Nat × Nat)) (p : Nat) (s : State) : State :=
  if !planeEnabled p s then s |> resetFs [PIP_PLANE_COUNT.COUNT, PIP_PLANE_DEV.DEV] p |> setPlane p (fun _ => {})
  else if !differs planeSettings p old s then keepFs [PIP_PLANE_STATUS.STATE, PIP_PLANE_STATUS.MISMATCH] p old s
  else
    let (x, guided) := planeTarget p ((pulses.find? (fun q => q.1 == p)).map (·.2)) s
    let s := setPlane p (fun _ => { boundary := x, next := x + planePeriod p s }) s
    s |> setF PIP_PLANE_COUNT.COUNT p (nearest2059 p (toLocal x s) s) |> setF PIP_PLANE_STATUS.STATE p (if guided then plAligned else plHeld)
      |> setF PIP_PLANE_ERR.ERR_NS p 0 |> showDev p x

/-- Digest of the reference section (R439, R628). -/
def refDigestOf (b : List Byte) : Nat := leAt (Config.sha384 (sectOf tyRefs b)) 0 8

/-- PRIO and LOCKOUT: the image's values are taken, and stored, when PST_PREF holds none or another section's. -/
def prefReset (b : List Byte) (s : State) : State :=
  let d := refDigestOf b
  let w (n : Nat) : Nat := w32 (sectOf tyRefs b) n
  let s := setTime (fun x => { x with refDigest := d }) s
  if s.pst.prefValid && s.pst.refDigest = d then s
  else
    let s := forEach (List.range 11) (fun n s => s |> setF PIP_REF_CFG.PRIO n (bits (w n) 0 3) |> setF PIP_REF_CFG.LOCKOUT n (bits (w n) 3 1)) s
    storePref (setPst (fun p => { p with
      prefValid := true, refDigest := d,
      prefPrio := ((List.range 11).map (fun n => (n, bits (w n) 0 3))).filter (fun q => q.2 != 0),
      prefLockout := ((List.range 11).map (fun n => (n, bits (w n) 3 1))).filter (fun q => q.2 != 0) })) s

/-- An input newly used is ABSENT until it shows activity, or where it has been qualified since bring-up as it then stands (R599); one not
used is UNUSED. -/
def refReset (old : State) (n : Nat) (s : State) : State :=
  let was := getB PIP_REF_CFG.USED n old
  let idle := refQual n s == qUnused
  if refUsed n s = was then (if was || idle then s else s |> setF PIP_REF_STATUS.QUAL n qUnused |> setRef n (fun _ => {}))
  else if was then disqualify n qUnused s
  else if idle then s |> setF PIP_REF_STATUS.QUAL n qAbsent |> setRef n (fun _ => {})
  else s

def ptpSettings : List Fld := [TIM_PTP_CFG.ENABLED, TIM_PTP_CFG.TRANSPORT, TIM_PTP_CFG.DELAY_UC, TIM_PTP_CFG.PCP, TIM_PTP_CFG.TAG,
  TIM_PTP_CFG.VID, TIM_PTP_CFG.LP, TIM_PTP_CFG.DOMAIN]

def ptpReset (old : State) (i : Nat) (s : State) : State :=
  if differs ptpSettings i old s || ptpOn i old != ptpOn i s then ptpRestart i s else s

def timeReset (old : State) (b : List Byte) (pulses : List (Nat × Nat)) (s : State) : State :=
  s |> prefReset b |> forEach (List.range 11) (refReset old) |> forEach (List.range 8) (planeReset old pulses)
    |> forEach [0, 1] (ptpReset old)

/-! ### Twin (R487, R488, R498, R500) -/

def twinReset (s : State) : State :=
  let id := getF TWN_PAIR_ID.ID 0 s
  let s := if s.pst.pairId = id then s else storePref (setPst (fun p => { p with pairId := id })) s
  let s := s |> setF TWN_STATUS.DIGEST_OK 0 0 |> setF TWN_STATUS.SYNC 0 0 |> setF TWN_STATUS.STALE 0 0
             |> setTwin (fun w => { w with digestBad := false, linkDeaf := false, handshakeAt := some s.now, resync := .idle, wantResync := false, unacked := [],
                                           choices := [], queued := [], serving := none, served := false, audCopy := none, mseqWant := none })
  if solo s then s |> setF TWN_STATUS.TWIN_PRESENT 0 0 |> enterRole roleLead else s

/-! ### The whole reset -/

/-- An IMAGE reset with image `l`; `pulses` gives the last frame pulse of the reference of each VIDEO plane. -/
def applyImage (l : ImgLoad) (pulses : List (Nat × Nat)) (s : State) : State :=
  let b := l.bytes
  let s := { s with hold := .plain }
  let s := s |> abortOpen committing |> enterRole roleInit
  let old := s
  let s := s |> imageRegs b l.source |> setB SYS_IMG_STATUS.FALLBACK 0 l.fallback
  s |> forEach (List.range 545) (domReset (powerWord b))
    |> lanesReset old b |> timeReset old b pulses |> mediaReset b |> headsReset
    |> forEach (List.range 16) (portReset old) |> flowsReset b
    |> restoreRoutes |> failedBanks |> forEach ((List.range 80).filter (fun k => bankUsed k s)) (fun k s => usedBank k s) |> twinReset
    |> audit 0x0010 0 (leBytes 1 l.source ++ (iDigest b).take 8)
    |> raiseAs 1 (if l.fallback then [SYS_IMG_EVT.LOADED, SYS_IMG_EVT.FALLBACK] else [SYS_IMG_EVT.LOADED]) 0

end Sys2Proof.Machine
end

