-- ==== Sys2Proof/Machine/Image.lean ====
section
/-! DEFINITION. The structure image's commands (R577 to R582). -/

namespace Sys2Proof.Machine

/-! ### Slots (R576, R586, R587) -/

def slotState (k : Nat) (s : State) : Nat := if k = 0 then getF SYS_IMG_SLOT_A.STATE 0 s else getF SYS_IMG_SLOT_B.STATE 0 s
def slotRollback (k : Nat) (s : State) : Nat := if k = 0 then getF SYS_IMG_SLOT_RB_A.VALUE 0 s else getF SYS_IMG_SLOT_RB_B.VALUE 0 s

def setSlot (k st digest16 rb : Nat) (s : State) : State :=
  if k = 0 then s |> setF SYS_IMG_SLOT_A.STATE 0 st |> setF SYS_IMG_SLOT_A.DIGEST16 0 digest16 |> setF SYS_IMG_SLOT_RB_A.VALUE 0 rb
  else s |> setF SYS_IMG_SLOT_B.STATE 0 st |> setF SYS_IMG_SLOT_B.DIGEST16 0 digest16 |> setF SYS_IMG_SLOT_RB_B.VALUE 0 rb

def slotBytes (k : Nat) (s : State) : List Byte := mget [] s.img.slots k

/-- States of a slot. -/
def slotEmpty : Nat := 0
def slotValid : Nat := 1
def slotStale : Nat := 2

/-- An EMPTY slot holds no image. -/
def emptySlot (k : Nat) (s : State) : State := s |> setSlot k slotEmpty 0 0 |> setImg (fun m => { m with slots := mput [] m.slots k [] })

/-- A slot that holds a validated image. -/
def fillSlot (k : Nat) (b : List Byte) (s : State) : State :=
  s |> setSlot k slotValid (leAt (iDigest b) 0 2) (iRollback b) |> setImg (fun m => { m with slots := mput [] m.slots k b })

/-! ### Refusals -/

/-- The reason and section of a refusal, its event and its audit record (R574, R590, R650). -/
def noteImageRefused (c d : Nat) (s : State) : State :=
  s |> setF SYS_IMG_REFUSE.REASON 0 c |> setF SYS_IMG_REFUSE_SECT.SECTION 0 d
    |> audit 0x0011 stImage (leBytes 1 c ++ leBytes 4 d) |> raiseAs 1 [SYS_IMG_EVT.REFUSED] 0

/-- End a command with status IMAGE. -/
def failImage (uid c d : Nat) (s : State) : State :=
  s |> modCmd uid (fun x => { x with detail0 := c, detail1 := d }) |> failCmd uid stImage

/-- The image bytes of an entry with LIST_ADDR and LENGTH, when the address is aligned and the host memory can be read. -/
def imageList (raw : List Byte) (list : Option (List Byte)) : Option (List Byte) :=
  match list with
  | some b => if eList raw % 4096 = 0 && leAt raw 32 4 ≤ b.length then some (b.take (leAt raw 32 4)) else none
  | none => none

/-! ### IMAGE_WRITE -/

def imageWrite (r : Nat) (raw : List Byte) (list : Option (List Byte)) (entry : Nat) (s : State) : State :=
  if imageBusy s then refuse r entry raw stBusy 0 0 s
  else match imageList raw list with
    | none => refuse r entry raw stListFault 0 0 s
    | some b =>
      match validate b s with
      | some (c, d) => s |> noteImageRefused c d |> refuse r entry raw stImage c d
      | none =>
        let k := leAt raw 36 1
        acceptNow r entry raw [] 1 (fun uid s => s |> emptySlot k |> setImg (fun m => { m with writing := some (uid, k, b) })) s

/-- The write and its read-back have ended; `ok` says that the compare agrees. -/
def imageWritten (ok : Bool) (s : State) : State :=
  match s.img.writing with
  | none => s
  | some (uid, k, b) =>
    let s := setImg (fun m => { m with writing := none }) s
    if ok then s |> fillSlot k b |> memberEnd uid else failImage uid 0x04 noSection s

/-! ### IMAGE_RELOAD -/

def imageReload (r : Nat) (raw : List Byte) (list : Option (List Byte)) (entry : Nat) (s : State) : State :=
  let src := leAt raw 36 1
  let go (b : List Byte) (s : State) : State :=
    acceptNow r entry raw [] 1 (fun uid s => setImg (fun m => { m with load := some { uid := uid, source := src + 1, bytes := b } }) s) s
  if imageBusy s then refuse r entry raw stBusy 0 0 s
  else if src = 2 then
    match imageList raw list with
    | none => refuse r entry raw stListFault 0 0 s
    | some b => go b s
  else go (slotBytes src s) s

/-- What validation finds of a load: a slot that holds no image is SLOT_EMPTY. -/
def judgeLoad (l : ImgLoad) (s : State) : Judged :=
  if l.source != 3 && slotState (l.source - 1) s = slotEmpty then some (0x08, noSection) else validate l.bytes s

/-- Validation of a reload ends: a refusal leaves everything as it was, and a valid image pauses fetch (R579). -/
def imageValidated (s : State) : State :=
  match s.img.load with
  | none => s
  | some l =>
    if l.valid then s
    else match judgeLoad l s with
      | some (c, d) => s |> setImg (fun m => { m with load := none }) |> noteImageRefused c d |> failImage l.uid c d
      | none => s |> setImg (fun m => { m with load := some { l with valid := true } }) |> setCmd (fun m => { m with paused := true })

/-! ### Boot load (R578) -/

/-- Try a slot: its image, or none after a refusal is noted. -/
def trySlot (k : Nat) (fallback : Bool) (s : State) : Option ImgLoad × State :=
  if slotState k s != slotValid then (none, s)
  else match validate (slotBytes k s) s with
    | some (c, d) => (none, noteImageRefused c d s)
    | none => (some { source := k + 1, bytes := slotBytes k s, fallback := fallback, valid := true }, s)

/-- The preferred slot, else the other; once after READY. -/
def imageBootLoad (s : State) : State :=
  if s.img.bootDone || getF SYS_IMG_STATUS.SOURCE 0 s != 0 then s
  else
    let s := setImg (fun m => { m with bootDone := true }) s
    let k := getF SYS_IMG_BOOT.PREFER 0 s
    let (l, s) := trySlot k false s
    match l with
    | some l => setImg (fun m => { m with boot := some l }) s
    | none =>
      let (l, s) := trySlot (1 - k) true s
      setImg (fun m => { m with boot := l }) s

/-! ### IMAGE reset -/

/-- The reset that a boot load or a validated reload leads to; a salvo that has begun to commit holds it off (R163, R579). -/
def imageResetStep (pulses : List (Nat × Nat)) (s : State) : State :=
  if midSalvo s then (if s.img.boot.isSome || s.img.load.any (·.valid) then abortSalvos s else s)
  else match s.img.boot, s.img.load with
    | some l, _ => s |> setImg (fun m => { m with boot := none }) |> applyImage l pulses
    | none, some l =>
      if !l.valid then s
      else
        s |> setImg (fun m => { m with load := none }) |> setCmd (fun m => { m with paused := false })
          |> modCmd l.uid (fun c => { c with commitAt := some (localTime s) })
          |> applyImage l pulses |> setImg (fun m => { m with restoring := some l.uid })
    | none, none => s

/-! ### The anti-rollback counter (R581) -/

def rbCommit (s : State) : State :=
  let new := getF SYS_IMG_ROLLBACK.VALUE 0 s
  let old := getF SYS_IMG_RB_STORED.VALUE 0 s
  if new ≤ old then raiseAs 1 [SYS_IMG_EVT.RB_NOCHANGE] 0 s
  else
    let s := s |> storeRow rowSecurity 1 (setF SYS_IMG_RB_STORED.VALUE 0 new) |> audit 0x0012 0 (leBytes 4 old ++ leBytes 4 new)
    let stale (k : Nat) (s : State) : Bool := slotState k s == slotValid && slotRollback k s < getF SYS_IMG_RB_STORED.VALUE 0 s
    let go := stale 0 s || stale 1 s
    let s := if stale 0 s then setF SYS_IMG_SLOT_A.STATE 0 slotStale s else s
    let s := if stale 1 s then setF SYS_IMG_SLOT_B.STATE 0 slotStale s else s
    if go then raiseAs 1 [SYS_IMG_EVT.SLOT_STALE] 0 s else s

/-! ### Commands -/

/-- IMAGE_WRITE: the ring's entry and the image that LIST_ADDR gives -/
def execImageWrite (t r : Nat) (raw : List Byte) (list : Option (List Byte)) (bad : List Nat) (s : State) : Host.Outcome State Fault Refusal :=
  .next (ringCmd 0x40 r raw t (fun e => withBad bad (imageWrite r raw list e)) s)

/-- IMAGE_WRITE_DONE -/
def execImageWriteDone (t : Nat) (ok : Bool) (s : State) : Host.Outcome State Fault Refusal := .next (onService t (imageWritten ok) s)

/-- IMAGE_RELOAD -/
def execImageReload (t r : Nat) (raw : List Byte) (list : Option (List Byte)) (s : State) : Host.Outcome State Fault Refusal :=
  .next (ringCmd 0x41 r raw t (imageReload r raw list) s)

/-- IMAGE_VALIDATED -/
def execImageValidated (t : Nat) (bad : List Nat) (s : State) : Host.Outcome State Fault Refusal :=
  .next (onService t (withBad bad imageValidated) s)

/-- IMAGE_BOOT_LOAD -/
def execImageBootLoad (t : Nat) (bad : List Nat) (s : State) : Host.Outcome State Fault Refusal :=
  .next (whenReady (onService t (withBad bad imageBootLoad)) s)

/-- IMAGE_RESET, with the last frame pulse of each VIDEO plane's reference -/
def execImageReset (t : Nat) (bad : List Nat) (pulses : List (Nat × Nat)) (s : State) : Host.Outcome State Fault Refusal :=
  .next (whenReady (onService t (withBad bad (imageResetStep pulses))) s)

/-- RB_COMMIT: a write of SYS_IMG_CTL.RB_COMMIT -/
def execRbCommit (t : Nat) (bad : List Nat) (s : State) : Host.Outcome State Fault Refusal :=
  .next (onSys t (withBad bad rbCommit) s)

end Sys2Proof.Machine
end

