-- ==== Sys2Proof/Machine/BootOps.lean ====
section
/-! DEFINITION. Bring-up, its faults, POR, MODULE reset, SLEEP and the HALTED state (R593 to R611, R633, R713, R714, R738, R755). -/

namespace Sys2Proof.Machine

def bringupStep (s : State) : Nat := getF SYS_STATUS.STEP 0 s

/-! ### HALTED (R602) -/

/-- A fatal fault: the control cores stop, every switched domain but the host link is gated, READY is low. -/
def haltModule (s : State) : State :=
  s |> setF SYS_STATUS.HALTED 0 1 |> setF SYS_STATUS.READY 0 0
    |> forEach ((List.range 545).filter (fun d => d != 542)) (fun d s => setDom d dGated s)

/-! ### Faults of bring-up (R600, R602, R603) -/

def fcFuse : Nat := 0x01
def fcPrinel : Nat := 0x02
def fcBootRom : Nat := 0x03
def fcRegulator : Nat := 0x04
def fcLaneCal : Nat := 0x05
def fcEthCal : Nat := 0x06
def fcRefCal : Nat := 0x07
def fcTwinCal : Nat := 0x08
def fcStack : Nat := 0x09
def fcSram : Nat := 0x0A
def fcPstRow : Nat := 0x0B
def fcPst : Nat := 0x0C
def fcLockstep : Nat := 0x0D
def fcThermal : Nat := 0x0E

/-- Step whose row of R597 a code belongs to; 0 any step. -/
def faultStep (c : Nat) : Nat :=
  if c ≤ 3 then 2 else if c = fcRegulator then 3 else if c ≤ 8 then 4 else if c = fcStack then 5 else if c = fcSram then 6
  else if c ≤ 0x0C then 7 else 0

/-- Domains powered at READY (R598). -/
def coreDomain (d : Nat) : Bool := (536 ≤ d && d < 545) || (440 ≤ d && d < 520 && coreBank (d - 440))

def faultFatal (c u : Nat) : Bool :=
  c == fcFuse || c == fcPrinel || c == fcBootRom || c == fcLockstep || c == fcThermal || (c == fcRegulator && coreDomain u)
    || (c == fcSram && coreBank u)

/-- Index of a domain among those of its kind; 0 for a domain of no kind that SYS_BOOT_FAIL names (R615). -/
def kindIndex (d : Nat) : Nat :=
  if d < 128 then d else if d < 256 then d - 128 else if d < 272 then d - 256 else if 432 ≤ d && d < 440 then d - 432
  else if 440 ≤ d && d < 520 then d - 440 else 0

/-- SYS_BOOT_FAIL.UNIT of a fault. -/
def faultUnit (c u : Nat) : Nat :=
  if c = fcRegulator || c = fcLaneCal then kindIndex u
  else if c = fcEthCal || c = fcRefCal || c = fcStack || c = fcSram then u
  else 0

/-- Mark domain `d` in the failure map of its kind (R617, R618). -/
def markFailed (d : Nat) (s : State) : State :=
  if d < 128 then setBit SYS_FAIL_LGI.MAP (d % 32) (d / 32) s
  else if d < 256 then setBit SYS_FAIL_LGO.MAP (d % 32) ((d - 128) / 32) s
  else if d < 272 then setBit SYS_FAIL_MISC.ETH (d - 256) 0 s
  else if 432 ≤ d && d < 440 then setBit SYS_FAIL_MISC.STACK (d - 432) 0 s
  else if 440 ≤ d && d < 520 then setBit SYS_FAIL_BANK.MAP ((d - 440) % 32) ((d - 440) / 32) s
  else s

/-- The unit of domain `d` is unusable until POR: it stays gated. -/
def killDomain (d : Nat) (s : State) : State :=
  s |> markFailed d |> setBoot (fun b => { b with deadDoms := if b.deadDoms.contains d then b.deadDoms else d :: b.deadDoms }) |> setDom d dGated

def recordFault (c u : Nat) (s : State) : State :=
  s |> setF SYS_BOOT_FAIL.CODE 0 c |> setF SYS_BOOT_FAIL.STEP 0 (bringupStep s) |> setF SYS_BOOT_FAIL.UNIT 0 (faultUnit c u)

/-- Fields that the windows of R601 show. -/
def vaultFields : List Fld :=
  [PST_ROUTE.SOURCE, PST_LABEL.WORD, PIP_REF_CFG.PRIO, PIP_REF_CFG.LOCKOUT, TWN_EPOCH.EPOCH, PST_STATUS.LAST_ROLE, SYS_IMG_BOOT.PREFER,
   SHF_BUNDLE.N_MSG_M1, SHF_BUNDLE.BUILTIN, SHF_BUNDLE.VALID, SHF_BUNDLE.BCOUNTER_LO, SHF_RAISED.BY_CMD, SHF_RAISED.RAISED, SHF_SEQ.SEQ]

/-- ROUTE, LABEL, PREF, journal and shofar areas hold the defaults of R601. -/
def areaDefaults (s : State) : State :=
  s |> clearFlds vaultFields
    |> setPst (fun p => { p with prefValid := false, refDigest := 0, prefPrio := [], prefLockout := [], pairId := 0, journal := none })
    |> setShf (fun f => { f with bundle := [], copies := [], copy := 0, bcounter := 0, causes := [], restore := [], pendBundle := [], pendReq := [], live := false })

/-- The store cannot be read: the windows read their defaults until POR, while the cells keep what they hold (R600). -/
def deadStore (s : State) : State :=
  if s.pst.dead then setDiag diagStore s
  else
    let v : Vault := { regs := vaultFields.map (fun f => (f.id, colOf f s)), prefValid := s.pst.prefValid, refDigest := s.pst.refDigest,
                       prefPrio := s.pst.prefPrio, prefLockout := s.pst.prefLockout, pairId := s.pst.pairId, journal := s.pst.journal,
                       copies := s.shf.copies, copy := s.shf.copy, bcounter := s.shf.bcounter, causes := s.shf.causes }
    { areaDefaults s with vault := some v } |> setPst (fun p => { p with dead := true }) |> setDiag diagStore

/-- POR finds the cells again. -/
def openVault (s : State) : State :=
  match s.vault with
  | none => s
  | some v =>
    let s := { forEach vaultFields (fun f s => putCol f (mget [] v.regs f.id) s) s with vault := none }
    s |> setPst (fun p => { p with prefValid := v.prefValid, refDigest := v.refDigest, prefPrio := v.prefPrio, prefLockout := v.prefLockout,
                                   pairId := v.pairId, journal := v.journal })
      |> setShf (fun f => { f with copies := v.copies, copy := v.copy, bcounter := v.bcounter, causes := v.causes })

/-- Effect of a degrading fault (R600). -/
def degrade (c u : Nat) (s : State) : State :=
  if c = fcRegulator || c = fcLaneCal then killDomain u s
  else if c = fcEthCal then killDomain (256 + u) s
  else if c = fcRefCal then setBoot (fun b => { b with refBad := if b.refBad.contains u then b.refBad else u :: b.refBad }) s
  else if c = fcTwinCal then (if u = 0 then setF SYS_FAIL_MISC.TWIN 0 1 s else setF SYS_FAIL_MISC.WATCH 0 1 s)
  else if c = fcStack then s |> killDomain (432 + u) |> setDiag diagStack
  else if c = fcSram then killDomain (440 + u) s
  else if c = fcPstRow then setF SYS_FAIL_MISC.PST_ROW 0 1 s
  else s |> setF SYS_FAIL_MISC.PST 0 1 |> deadStore

/-- A fault of bring-up: fatal, or degrading. -/
def bootFault (c u : Nat) (s : State) : State :=
  if getB SYS_STATUS.HALTED 0 s then s
  else if faultFatal c u then s |> recordFault c u |> haltModule
  else
    let s := if getF SYS_BOOT_FAIL.CODE 0 s = 0 then recordFault c u s else s
    s |> setBoot (fun b => { b with degraded := true }) |> degrade c u

/-! ### POR (R16, R593) -/

/-- State at power-good: what the non-volatile cells hold survives, and everything else is at its reset value. -/
def powerOn (t : Nat) (sideB cold : Bool) (old : State) : State :=
  let s : State := {
    regs := old.regs.filter (fun e => match fieldOf e.1 with | some f => f.dom == .persist | none => false)
    now := max old.now t
    pst := { old.pst with dead := false }
    sec := { old.sec with nonceAt := none, lockEnd := none }
    shf := { bundle := mget [] old.shf.copies old.shf.copy, copies := old.shf.copies, copy := old.shf.copy, bcounter := old.shf.bcounter, causes := old.shf.causes }
    img := { slots := old.img.slots }
    vault := old.vault
    out := old.out
    freeCtr := old.freeCtr
    pending := old.pending }
  let left := getF SEC_CHAL_CTL.LOCKOUT_S 0 s
  { openVault s with timeOff := -(s.now : Int) }
    |> setSec (fun c => { c with lockEnd := if left = 0 then none else some (s.now + left * secUnit) })
    |> setB TWN_STATUS.SIDE_B 0 sideB
    |> setBoot (fun _ => { t0 := s.now, base := s.now, cold := cold })

/-- Power-good falls: every block stops; stores in progress have completed, and the security area holds the remaining lockout. -/
def powerOff (s : State) : State := { setF SEC_CHAL_CTL.LOCKOUT_S 0 (lockoutLeft s) s with powered := false }

/-! ### The steps of R597 -/

/-- Latest end of a step, in ms after the base: R597, and the 700 ms of R609 for the steps of a MODULE reset. -/
def stepBound (kind n : Nat) : Nat := if kind = 1 then 700 else ([0, 5, 45, 75, 325, 725, 1325, 1425, 1430] : List Nat).getD n 0

def stepDeadline (s : State) : Nat := s.boot.base + stepBound s.boot.kind (bringupStep s) * msUnit

/-- Bring-up is in progress. -/
def bringingUp (s : State) : Bool := inService s && !getB SYS_STATUS.READY 0 s && !s.boot.cold

/-- Step 2: the fuses. A WX2048-AE is delivered with the evaluated configuration fixed: CLASS_REQ is 0x76, and slot 8, which holds the
reference image key on a WX2048-A, is EMPTY (R6, R634, R646). -/
def readFuses (f : BootFind) (s : State) : State :=
  let s := s |> setF SYS_ID.ID 0 f.id |> setB SYS_INFO.AE 0 f.ae |> setF SYS_INFO.STEP_MAJ 0 f.stepMaj |> setF SYS_INFO.STEP_MIN 0 f.stepMin
             |> setB SEC_STATUS.AE 0 f.ae
  if f.ae then
    s |> setF SEC_STATUS.EVAL_FIXED 0 1 |> setF SEC_STATUS.CLASS_REQ 0 0x76
      |> (fun s => if keyActive 8 s then setF SEC_KEYS.SLOTS 0 (getF SEC_KEYS.SLOTS 0 s - 4 ^ 8) s else s)
  else s

/-- Step 3: the domains of R598 start. -/
def powerCore (s : State) : State := forEach ((List.range 545).filter coreDomain) (fun d s => setDom d dOn s) s

/-- Step 4: the twin link starts its first series. -/
def startTwinLink (s : State) : State :=
  if getB SYS_FAIL_MISC.TWIN 0 s then s
  else forEach ((List.range 8).map (· + 2048)) (fun n s => s |> startSeriesOn .inp n |> startSeriesOn .out n) s

/-- Step 5: the stacks rest in self-refresh. -/
def restStacks (s : State) : State :=
  forEach ((List.range 8).map (· + 432)) (fun d s => if domDead d s then s else setDom d dSelfRefresh s) s

/-- A repaired shofar area holds no raised message; the end of step 7 restores what it holds, and evaluates the contacts (R254, R601). -/
def emptyShofar (s : State) : State := setShf (fun f => { f with causes := [], restore := [], live := false }) s

/-- The defaults of R601 of the area of row `r`. -/
def rowDefault (r : Nat) : State → State :=
  if r < 32 then forEach ((List.range 512).map (· + 512 * r)) (fun o s => setF PST_ROUTE.SOURCE o 0 s)
  else if r < 288 then forEach ((List.range 1024).map (· + 1024 * (r - 32))) (fun w s => setF PST_LABEL.WORD w 0 s)
  else if r = rowPref then fun s =>
    s |> clearFlds [PIP_REF_CFG.PRIO, PIP_REF_CFG.LOCKOUT, TWN_EPOCH.EPOCH, PST_STATUS.LAST_ROLE, SYS_IMG_BOOT.PREFER]
      |> setPst (fun p => { p with prefValid := false, refDigest := 0, prefPrio := [], prefLockout := [], pairId := 0 })
  else if r = rowJournal then setPst (fun p => { p with journal := none })
  else if 290 ≤ r && r < rowShofarState then fun s =>
    let c := (r - 290) / 32
    let s := setShf (fun f => { f with copies := mput [] f.copies c [] }) s
    if c = s.shf.copy then
      s |> setShf (fun f => { f with bundle := [], causes := [] })
        |> clearFlds [SHF_BUNDLE.VALID, SHF_BUNDLE.N_MSG_M1, SHF_BUNDLE.BCOUNTER_LO] |> emptyShofar
    else s
  else if r = rowShofarState then fun s =>
    s |> setShf (fun f => { f with bundle := [], causes := [], copy := 0, bcounter := 0 })
      |> clearFlds [SHF_BUNDLE.VALID, SHF_BUNDLE.N_MSG_M1, SHF_BUNDLE.BCOUNTER_LO, SHF_SEQ.SEQ] |> emptyShofar
  else id

/-- A row whose check fails takes its defaults (R601). -/
def repairRow (r : Nat) (s : State) : State := s |> storeRow r 1 (rowDefault r) |> raise [SYS_EVT.PST_REPAIR] 0

/-- 64-bit words of row `r` that its default changes: outputs with a route, label words with text, pages of a bundle copy; one for the other
rows. -/
def heldWords (r : Nat) (s : State) : Nat :=
  if r < 32 then ((colOf PST_ROUTE.SOURCE s).filter (fun p => p.1 / 512 == r)).length
  else if r < 288 then
    (((colOf PST_LABEL.WORD s).filter (fun p => p.1 / 1024 + 32 == r)).map (fun p => p.1 / 2)).eraseDups.length
  else if r = rowJournal then b2n s.pst.journal.isSome
  else if 290 ≤ r && r < rowShofarState then
    b2n ((((mget [] s.shf.copies ((r - 290) / 32)).drop (4096 * ((r - 290) % 32))).take 4096) != [])
  else 1

/-- The ROUTE, LABEL, PREF, shofar and journal areas are set to the defaults of R601 (R638). -/
def eraseAreas (s : State) : State :=
  let n := (List.range 355).map (fun r => (r, heldWords r s))
  s |> forEach n (fun p s => storeRow p.1 p.2 (rowDefault p.1) s) |> showRaised

/-- The eight words of a label take their place (R627). -/
def placeLabel (s : State) : State :=
  match s.pst.journal with
  | none => s
  | some (x, ws) =>
    let old := (List.range 8).map (fun w => getF PST_LABEL.WORD (8 * x + w) s)
    let n := ((List.range 4).filter (fun k => (old.drop (2 * k)).take 2 != (ws.drop (2 * k)).take 2)).length
    s |> storeRow (rowLabel x) n (forEach ((List.range 8).zip ws) (fun p s => setF PST_LABEL.WORD (8 * x + p.1) p.2 s))
      |> storeRow rowJournal 1 id |> setPst (fun p => { p with journal := none })

/-- The shofar bundle and raised state are restored, and the contacts act on them by the states that their loops have held (R254). -/
def restoreShofar (s : State) : State :=
  if s.shf.live then s
  else
    s |> setShf (fun f => { f with bundle := mget [] f.copies f.copy })
      |> forEach [0, 1] (fun x s => match s.shf.steady.find? (fun p => p.1 == x) with
          | some p => setContact x (classState x p.2 s) s
          | none => s)
      |> setShf (fun f => { f with live := true }) |> showRaised |> judgeContact 0 |> judgeContact 1

/-- A newest audit record whose CHAIN does not verify is discarded (R651). -/
def truncateLog (s : State) : State :=
  match s.sec.audit with
  | [] => s
  | r :: rs =>
    s |> setSec (fun c => { c with audit := rs }) |> setF SEC_AUDIT_NEW.ASEQ 0 (r.aseq - 1) |> audit 0x0050 0 (leBytes 8 r.aseq)

/-- Rows past the warning of R630. -/
def warnedRows (s : State) : Nat := (s.pst.wear.filter (fun p => wearWarn ≤ p.2)).length

/-- Step 7: the persistent store. -/
def checkStore (f : BootFind) (s : State) : State :=
  let rows := f.rows ++ s.pst.errRows.filter (fun r => !f.rows.contains r)
  let s := if s.pst.dead then s else
    s |> setPst (fun p => { p with errRows := [] }) |> forEach f.corr (fun r s => correctedReads r 1 s)
      |> forEach rows (fun r s => s |> repairRow r |> bootFault fcPstRow 0) |> placeLabel
  let s := if f.cut then truncateLog s else s
  s |> setF PST_STATUS.SPARES_LEFT 0 (spareRows - s.pst.spares) |> setF PST_STATUS.WARN_ROWS 0 (warnedRows s)
    |> audit 0x0001 0 (leBytes 1 (getF SYS_RESET_CAUSE.CAUSE 0 s) ++ leBytes 1 (getF SYS_BOOT_FAIL.CODE 0 s))
    |> setBoot (fun b => { b with prefRead := true }) |> restoreShofar

/-- Step 8: READY. Records of SYS_EVT are posted ahead of the others that waited (R604). -/
def becomeReady (s : State) : State :=
  let s := s |> raise (if s.boot.degraded then [SYS_EVT.READY, SYS_EVT.DEGRADED] else [SYS_EVT.READY]) 0
             |> setB SYS_STATUS.DEGRADED 0 s.boot.degraded
             |> setF SYS_BOOT_TIME.TIME_US 0 (min 0xFFFFFFFF ((s.now - s.boot.t0) / usUnit))
             |> (fun s => setB TWN_STATUS.FIT 0 (s.twin.diag == 0) s)
  let s := if s.boot.kind = 2 then raise [PWR_EVT.WOKE] 0 s else s
  let s := setF SYS_STATUS.READY 0 1 s
  if canPost s then flushEvents s else s

/-- Step 6: every SRAM bank is tested and set to zero, elastic buffers and control SRAM take up their work, and the copy of the run-time
code remaps the window (R37, R674). -/
def clearSram (s : State) : State :=
  s |> setXpt (fun x => { x with sram := [], zeroed := (List.range 80).filter (fun k => !coreBank k && !domDead (440 + k) s) })
    |> setF SYS_REMAP.REMAP 0 1

/-- Work of the step that ends. -/
def stepWork (f : BootFind) (s : State) : State :=
  match bringupStep s with
  | 2 => readFuses f s
  | 3 => powerCore s
  | 4 => startTwinLink s
  | 5 => restStacks s
  | 6 => clearSram s
  | 7 => checkStore f s
  | 8 => becomeReady s
  | _ => s

/-- A step ends: what it found is recorded, its work takes effect, and the next step begins. -/
def endStep (f : BootFind) (s : State) : State :=
  let n := bringupStep s
  let s := forEach (f.faults.filter (fun p => faultStep p.1 == n || faultStep p.1 == 0)) (fun p s => bootFault p.1 p.2 s) s
  if getB SYS_STATUS.HALTED 0 s then s
  else s |> stepWork f |> (fun s => if n < 8 then setF SYS_STATUS.STEP 0 (n + 1) s else s)

def bringupEnd (f : BootFind) (s : State) : State := if bringingUp s && s.now ≤ stepDeadline s then endStep f s else s

/-- A step has not ended by its bound: it fails with a code of its row (R597). -/
def bringupLate (c u : Nat) (s : State) : State :=
  if bringingUp s && stepDeadline s ≤ s.now && faultStep c == bringupStep s then endStep { faults := [(c, u)] } s else s

/-- Every sensor reads 0 °C or more: the bounds of R597 run from now (R755). -/
def releaseCold (s : State) : State :=
  if inService s && s.boot.cold then setBoot (fun b => { b with cold := false, base := s.now }) s else s

/-! ### MODULE reset (R608 to R610) -/

/-- What the blocks hold beside their registers, after a MODULE reset: store, security and shofar state stay, commands and media go. No
path to the twin is up again before three barks, so the report of its contacts lapses like that of a silent twin (R496, R497). -/
def clearBlocks (s : State) : State :=
  { s with
    snap := []
    xpt := {}
    cmp := {}
    aud := { boundary := s.aud.boundary }
    reed := {}
    eth := { ports := s.eth.ports }
    cmd := { uid := s.cmd.uid }
    twin := { bseq := s.twin.bseq, roleAt := s.now, hseq := s.twin.hseq, silentAt := some (s.twin.silentAt.getD s.now) }
    sec := { s.sec with nonceAt := none }
    shf := { s.shf with pendBundle := [], pendReq := [], flash := [] }
    img := { slots := s.img.slots, presets := s.img.presets }
    dbg := { tapTest := s.dbg.tapTest, ir := s.dbg.ir, scan := s.dbg.scan }
    mon := {}
    evtHeld := []
    lane := { s.lane with rx := [], inp := s.lane.inp.map (fun p => (p.1, { p.2 with sideSeen := false })) }
    time := { s.time with pulses := [] } }

/-- The reset itself, from which steps 6 to 8 run. The fields of the blocks that keep running show their reset values from the end of the
step on (`hideRunning`). The bursts that it cuts short end after it, so their entries stand in the log (R673). -/
def moduleReset (cause : Nat) (bs : List (Nat × Burst)) (s : State) : State :=
  { s |> enterRole roleInit |> fnReset |> clearBlocks |> resetExcept [.module, .image] runningFields with hold := .reset }
    |> forEach ((List.range 545).filter (fun d => domState d s == dFailed)) (fun d s => setDom d dGated s)
    |> setF SYS_STATUS.STEP 0 6 |> setF SYS_RESET_CAUSE.CAUSE 0 cause |> setF PWR_WAKE.SLEPT 0 0
    |> setBoot (fun b => { b with t0 := s.now, base := s.now, kind := 1 }) |> abortBursts bs

/-- An order of a MODULE reset: a LEAD whose twin is FIT on a path that is up yields first (R609). -/
def orderReset (cause : Nat) (bs : List (Nat × Burst)) (s : State) : State :=
  if s.twin.resetPending then s
  else if role s = roleLead && getB TWN_STATUS.TWIN_FIT 0 s && pathUp s then
    s |> enterRole roleYielded |> setTwin (fun w => { w with resetPending := true }) |> setBoot (fun b => { b with cause := cause })
  else moduleReset cause bs s

/-- The reset goes on when the twin claims, or 20 ms after the yield. -/
def resetProceeds (bs : List (Nat × Burst)) (s : State) : State :=
  if s.twin.resetPending && (getB TWN_STATUS.TWIN_CLAIM 0 s || s.twin.roleAt + 20 * msUnit ≤ s.now) then moduleReset s.boot.cause bs s else s

/-- A write of SYS_CTL (R608, R611): refused with another KEY, before READY and while HALTED. -/
def softReset (key : Nat) (bs : List (Nat × Burst)) (s : State) : State :=
  if key = 0xA5 && getB SYS_STATUS.READY 0 s && !getB SYS_STATUS.HALTED 0 s then orderReset 1 bs s else raise [SYS_EVT.KEY_REFUSED] 0 s

/-! ### SLEEP (R713, R714) -/

def allCommands : List Nat := committing ++ [0x28, 0x29]

def enterSleep (s : State) : State :=
  s |> abortOpen allCommands |> setF SYS_STATUS.READY 0 0 |> enterRole roleInit
    |> forEach (List.range 545) (fun d s => setDom d dGated s)
    |> setTwin (fun w => { w with barked := false }) |> setBoot (fun b => { b with asleep := true })
    |> (fun s => { s with pcie := { s.pcie with crs := true } })

/-- A write of PWR_CTL with SLEEP. -/
def sleepOrder (key : Nat) (s : State) : State :=
  if role s = roleLead || imageBusy s || key != 0xA5 then raise [PWR_EVT.SLEEP_REFUSED] 0 s else enterSleep s

/-- An enabled wake event: 1 HOST_PERST_N, 2 an alarm contact, 3 a YIELD bark on WATCH. Every gated domain starts afresh. -/
def wakeUp (cause : Nat) (s : State) : State :=
  let on := cause = 1 || (cause = 2 && getB PWR_CTL.WAKE_ALARM 0 s) || (cause = 3 && getB PWR_CTL.WAKE_YIELD 0 s)
  if !crumhornRuns s || !s.boot.asleep || !on then s
  else
    let t := s.now
    { clearBlocks (fnReset s) with lane := {}, eth := {}, time := { everSelected := s.time.everSelected } }
      |> resetExcept [.module, .image] [TWN_STATUS.SIDE_B]
      |> (fun s => { s with hold := .plain })
      |> setShf (fun f => { f with live := false })
      |> setF SYS_STATUS.STEP 0 2 |> setF SYS_RESET_CAUSE.CAUSE 0 1 |> setF PWR_WAKE.SLEPT 0 1 |> setF PWR_WAKE.CAUSE 0 cause
      |> setBoot (fun b => { b with t0 := t, base := t, kind := 2, asleep := false })
      |> (fun s => { s with pcie := { s.pcie with crs := true } })

end Sys2Proof.Machine
end

