-- ==== Sys2Proof/Machine/Bringup.lean ====
section
/-! DEFINITION. Power-good, the bring-up sequence, resets, faults of the module and sleep (R505, R593 to R611, R713, R714, R738, R755). -/

namespace Sys2Proof.Machine

/-! ### Operations -/

/-- Power-good rises on a module without power: POR. After the electronic fuse has opened, only when the feed has been absent (R738). -/
def powerRise (t : Nat) (sideB cold removed : Bool) (s : State) : State :=
  if s.powered || (s.boot.fuse && !removed) then s else powerOn t sideB cold s

/-- The fuse opens and power-good falls (R738). -/
def fuseOpens (s : State) : State := s |> powerOff |> setBoot (fun b => { b with fuse := true })

/-- A lockstep mismatch in control pair `p`: fatal before READY, a self-diagnosis failure in service (R33, R505, R600, R673). -/
def lockstep (p : Nat) (burst : Option Burst) (s : State) : State :=
  if getB SYS_STATUS.READY 0 s then s |> setDiag diagLockstep |> abortBurst (if p = 0 then maCp0 else maCp1) burst else bootFault fcLockstep 0 s

/-- An uncorrectable error in bank `k`, met by the access of a master (R505, R669). -/
def sramError (k : Nat) (access : Option (Nat × Burst)) (s : State) : State :=
  let s := match access with
    | some (m, b) => fabLog fkTarget m b.target b.beats b.write b.addr s
    | none => s
  if k = 70 || k = 71 || bankUsed k s then setDiag diagSram s else s

/-- Every writer of the kennel is in loss (R191). -/
def writersLoss (s : State) : State := forEach (indicesWhere KNL_ALLOC_CFG.CLASS (· != clAbsent) s) writerLoss s

/-- A kennel stack reports an uncorrectable error or loses training in service (R505, R513). -/
def stackFails (k : Nat) (s : State) : State :=
  if 8 ≤ k then s else s |> setTwin (fun w => { w with stackBad := w.stackBad ||| 2 ^ k }) |> setDiag diagStack |> writersLoss

/-! ### Meanings -/

/-- POWER_GOOD_RISE: the land TWIN_SIDE selects side B, a sensor reads below 0 °C, and whether the feed has been below 5 V for 100 ms -/
def execPowerGoodRise (t : Nat) (sideB cold removed : Bool) (s : State) : Host.Outcome State Fault Refusal := .next (powerRise t sideB cold removed s)

/-- POWER_GOOD_FALL -/
def execPowerGoodFall (t : Nat) (s : State) : Host.Outcome State Fault Refusal := .next (whenPowered (fun s => powerOff (advance t s)) s)

/-- ELECTRONIC_FUSE_OPEN -/
def execElectronicFuseOpen (t : Nat) (s : State) : Host.Outcome State Fault Refusal := .next (whenPowered (fun s => fuseOpens (advance t s)) s)

/-- BRINGUP_STEP_END: what the step found -/
def execBringupStepEnd (t : Nat) (f : BootFind) (bad : List Nat) (s : State) : Host.Outcome State Fault Refusal :=
  .next (whenService (fun s => withBad bad (bringupEnd f) (advance t s)) s)

/-- BRINGUP_STEP_TIMEOUT, with the code and unit of the step's row -/
def execBringupStepTimeout (t code unit : Nat) (bad : List Nat) (s : State) : Host.Outcome State Fault Refusal :=
  .next (whenService (fun s => withBad bad (bringupLate code unit) (advance t s)) s)

/-- COLD_HOLD_RELEASE -/
def execColdHoldRelease (t : Nat) (s : State) : Host.Outcome State Fault Refusal := .next (whenService (fun s => releaseCold (advance t s)) s)

/-- SOFT_RESET: a write of SYS_CTL with SOFT_RESET = 1. It is refused while HALTED, when the SYS block is still served. -/
def execSoftReset (t key : Nat) (bad : List Nat) (bursts : List (Nat × Burst)) (s : State) : Host.Outcome State Fault Refusal :=
  .next (hideRunning (onSys t (withBad bad (softReset key bursts)) s))

/-- MODULE_RESET_PROCEED -/
def execModuleResetProceed (t : Nat) (bad : List Nat) (bursts : List (Nat × Burst)) (s : State) : Host.Outcome State Fault Refusal :=
  .next (hideRunning (onService t (withBad bad (resetProceeds bursts)) s))

/-- LOCKSTEP_MISMATCH in control pair `p` -/
def execLockstepMismatch (t p : Nat) (burst : Option Burst) (s : State) : Host.Outcome State Fault Refusal :=
  .next (onService t (lockstep p burst) s)

/-- SRAM_UNCORRECTABLE_ERROR in bank `k` -/
def execSramUncorrectableError (t k : Nat) (access : Option (Nat × Burst)) (s : State) : Host.Outcome State Fault Refusal :=
  .next (whenReady (onService t (sramError k access)) s)

/-- KENNEL_STACK_FAILURE -/
def execKennelStackFailure (t k : Nat) (s : State) : Host.Outcome State Fault Refusal := .next (whenReady (onService t (stackFails k)) s)

/-- CLOCK_MONITOR_FAILURE -/
def execClockMonitorFailure (t : Nat) (s : State) : Host.Outcome State Fault Refusal := .next (whenReady (onService t (setDiag diagClock)) s)

/-- SLEEP: a write of PWR_CTL with SLEEP = 1 -/
def execSleep (t key : Nat) (bad : List Nat) (s : State) : Host.Outcome State Fault Refusal := .next (onHost t (withBad bad (sleepOrder key)) s)

/-- SLEEP_WAKE by event `cause` -/
def execSleepWake (t cause : Nat) (s : State) : Host.Outcome State Fault Refusal := .next (whenPowered (fun s => wakeUp cause (advance t s)) s)

end Sys2Proof.Machine
end

