-- ==== Sys2Proof/Machine/Security.lean ====
section
/-! DEFINITION. Labels, the request mailbox, keys, lifecycle, grants and debug unlock (R627, R634 to R646, R650, R656 to R663). -/

namespace Sys2Proof.Machine

/-! ### Labels (R627) -/

/-- A COMMIT of the staged label at index `x`. -/
def labelCommit (x : Nat) (s : State) : State :=
  let s := setF PST_LABEL_CTL.INDEX 0 x s
  if getB PST_LABEL_CTL.BUSY 0 s || 32767 < x then raiseAs 0 [PST_EVT.LABEL_REFUSED] 0 s
  else
    let ws := (List.range 8).map (fun w => getF PST_LABEL_STAGE.WORD w s)
    s |> storeRow rowJournal 1 (setPst (fun p => { p with journal := some (x, ws) }))
      |> setF PST_LABEL_CTL.BUSY 0 1 |> setF PST_STATUS.LABEL_BUSY 0 1

/-- The label is in its place and the journal is empty. -/
def labelDone (s : State) : State :=
  if !getB PST_LABEL_CTL.BUSY 0 s then s
  else s |> placeLabel |> setF PST_LABEL_CTL.BUSY 0 0 |> setF PST_STATUS.LABEL_BUSY 0 0 |> raiseAs 0 [PST_EVT.LABEL_DONE] 0

/-! ### The request block (R639) -/

/-- The 352 bytes of SEC_REQ_DATA. -/
def reqBytes (s : State) : List Byte := ((List.range 88).map (fun w => leBytes 4 (getF SEC_REQ_DATA.WORD w s))).flatten

def rqOp (q : List Byte) : Nat := byteAt q 2
def rqKey (q : List Byte) : Nat := byteAt q 3
def rqSeq (q : List Byte) : Nat := leAt q 4 8
def rqPair (q : List Byte) : Nat := leAt q 12 6
def rqModule (q : List Byte) : Nat := leAt q 18 8
def rqNotAfter (q : List Byte) : Nat := leAt q 26 6
def rqSigned (q : List Byte) : Bool := rqKey q != 0xFF

def opGrant : Nat := 0x01
def opGrantClear : Nat := 0x02
def opKeySet : Nat := 0x10
def opLifecycle : Nat := 0x20
def opEvalFix : Nat := 0x21
def opClassReq : Nat := 0x22
def opAuditRead : Nat := 0x30
def opAuditSign : Nat := 0x31
def opDeviceKey : Nat := 0x32

def secOps : List Nat := [opGrant, opGrantClear, opKeySet, opLifecycle, opEvalFix, opClassReq, opAuditRead, opAuditSign, opDeviceKey]

/-- Signers that an operation allows, 0xFF unsigned (R640). -/
def opSigners (op : Nat) : List Nat :=
  if op = opGrant then [2, 3, 4] else if op = opKeySet then [2, 0xFF] else if op = opLifecycle then [0, 2]
  else if op = opEvalFix || op = opClassReq then [2] else [0xFF]

/-- Body bytes that an operation uses: first and number. -/
def opBody (q : List Byte) : List (Nat × Nat) :=
  let op := rqOp q
  if op = opGrant then [(32, 2)] else if op = opGrantClear || op = opLifecycle || op = opClassReq then [(32, 1)]
  else if op = opKeySet then (if byteAt q 33 = 1 then [(32, 2), (36, 97)] else [(32, 2)])
  else if op = opAuditRead then [(32, 8)] else if op = opAuditSign then [(32, 48)] else []

def keySlot (q : List Byte) : Nat := byteAt q 32
def keyAction (q : List Byte) : Nat := byteAt q 33

/-- Values of the body that the operation's row allows. -/
def bodyValues (q : List Byte) : Bool :=
  let op := rqOp q
  if op = opGrant then byteAt q 32 < 4 && byteAt q 33 &&& 0x89 == 0 && rqNotAfter q != 0
  else if op = opGrantClear then byteAt q 32 < 4 || byteAt q 32 == 0xFF
  else if op = opKeySet then
    2 ≤ keySlot q && keySlot q ≤ 10 && (keyAction q == 2 || (keyAction q == 1 && byteAt q 36 == 4)) && (rqSigned q || keySlot q == 2)
  else if op = opLifecycle then byteAt q 32 < 4
  else if op = opClassReq then byteAt q 32 &&& 0x89 == 0
  else true

/-- Check FORMAT passes. -/
def reqFormat (q : List Byte) : Bool :=
  leAt q 0 2 == 1 && secOps.contains (rqOp q) && (opSigners (rqOp q)).contains (rqKey q)
    && ((List.range 224).map (· + 32)).all (fun k => byteAt q k == 0 || (opBody q).any (fun p => p.1 ≤ k && k < p.1 + p.2))
    && (rqSigned q || (rqSeq q == 0 && rqPair q == 0 && rqModule q == 0 && rqNotAfter q == 0 && leAt q 256 96 == 0))
    && bodyValues q

/-! ### Lifecycle and the evaluated configuration (R636, R637, R646) -/

def lcManufacture : Nat := 0
def lcProvisioned : Nat := 1
def lcDeployed : Nat := 2
def lcReturn : Nat := 3
def lifecycleState (s : State) : Nat := getF SEC_STATUS.LIFECYCLE 0 s

/-- The transition is one of R637, its signer and condition right. -/
def transitionOk (dest key : Nat) (s : State) : Bool :=
  match lifecycleState s, dest with
  | 0, 1 => key == 0
  | 1, 2 => key == 2 && keyActive 2 s && keyActive 9 s && [5, 6, 7, 8].any (fun k => keyActive k s)
  | 1, 3 => key == 2
  | 2, 3 => key == 2
  | 3, 1 => key == 0
  | _, _ => false

/-- Items 2 to 4 of R646. -/
def evalHolds (s : State) : Bool :=
  getF SEC_STATUS.CLASS_REQ 0 s == 0x76 && (getF SYS_IMG_STATUS.SOURCE 0 s == 0 || getB SYS_IMG_STATUS.EVAL_CFG 0 s) && !keyActive 8 s

/-- Check DENIED passes. -/
def reqAllowed (q : List Byte) (s : State) : Bool :=
  let op := rqOp q
  if op = opKeySet then
    (rqSigned q || (keyState 2 s == 0 && lifecycleState s == lcProvisioned)) && !(keySlot q == 2 && keyAction q == 2)
      && !(evalFixed s && keySlot q == 8 && keyAction q == 1)
  else if op = opLifecycle then transitionOk (byteAt q 32) (rqKey q) s
  else if op = opEvalFix then evalFixed s || evalHolds s
  else if op = opClassReq then !evalFixed s || byteAt q 32 == 0x76
  else true

/-- The checks of R641 in order; none when all pass. -/
def reqVerdict (q : List Byte) (s : State) : Option Nat :=
  let oldest := getF SEC_AUDIT_OLD.ASEQ 0 s
  let newest := getF SEC_AUDIT_NEW.ASEQ 0 s
  if !reqFormat q then some stFormat
  else if !reqAllowed q s then some stDenied
  else if rqSigned q && !signedBy (rqKey q) (q.take 256) ((q.drop 256).take 96) s then some stAuth
  else if !pairOk (rqPair q) s || !(rqModule q == 0 || rqModule q == getF SYS_ID.ID 0 s) then some stIdentity
  else if rqSigned q && rqSeq q ≤ getF SEC_SEQ.SEQ 0 s then some stReplay
  else if rqNotAfter q != 0 && mkTime (rqNotAfter q) 0 < localTime s then some stExpired
  else if rqOp q = opAuditRead && (leAt q 32 8 < max 1 oldest || newest < leAt q 32 8) then some stBadIndex
  else none

/-! ### Effects (R635, R637, R638, R640, R643) -/

/-- Write a response into SEC_REQ_RESP; the words it does not use are 0. -/
def respond (bs : List Byte) (s : State) : State :=
  forEach (List.range 64) (fun w s => setF SEC_REQ_RESP.WORD w (leAt bs (4 * w) 4) s) s

/-- Exactly `n` bytes. -/
def exactly (n : Nat) (bs : List Byte) : List Byte := (bs ++ List.replicate n 0#8).take n

def grantFields : List Fld := [SEC_GRANT_A.VALID, SEC_GRANT_A.SIGNER, SEC_GRANT_A.CLASSES, SEC_GRANT_A.NOT_AFTER_HI, SEC_GRANT_B.NOT_AFTER_LO]

def grantEffect (q : List Byte) (s : State) : State :=
  let g := byteAt q 32
  s |> setF SEC_GRANT_A.VALID g 1 |> setF SEC_GRANT_A.SIGNER g (rqKey q) |> setF SEC_GRANT_A.CLASSES g (byteAt q 33)
    |> setF SEC_GRANT_A.NOT_AFTER_HI g (rqNotAfter q / 2 ^ 32) |> setF SEC_GRANT_B.NOT_AFTER_LO g (rqNotAfter q)
    |> audit 0x0034 0 (leBytes 1 g ++ leBytes 1 (byteAt q 33) ++ leBytes 1 (rqKey q))

def grantClearEffect (q : List Byte) (s : State) : State :=
  let g := byteAt q 32
  let arg := leBytes 1 g ++ leBytes 1 (getF SEC_GRANT_A.CLASSES g s) ++ leBytes 1 (getF SEC_GRANT_A.SIGNER g s)
  let s := if g = 0xFF then clearFlds grantFields s else resetFs grantFields g s
  audit 0x0035 0 arg s

/-- Key slot `k` takes a state. -/
def setKeyState (k st : Nat) (s : State) : State :=
  setF SEC_KEYS.SLOTS 0 (getF SEC_KEYS.SLOTS 0 s - keyState k s * 4 ^ k + st * 4 ^ k) s

def installKey (k : Nat) (key : List Byte) (s : State) : State :=
  s |> setSec (fun c => { c with keys := (k, key) :: c.keys.filter (fun p => p.1 != k) }) |> setKeyState k 1

def keySetEffect (q : List Byte) (s : State) : State :=
  let k := keySlot q
  let put := if keyAction q = 1 then installKey k ((q.drop 36).take 97) else setKeyState k 2
  s |> storeRow rowSecurity 1 put |> audit 0x0030 0 (leBytes 1 k ++ leBytes 1 (keyAction q))

/-- Entry to RETURN (R638), before the MODULE reset that follows it. -/
def enterReturn (s : State) : State :=
  let s := s |> setSec (fun c => { c with keys := c.keys.filter (fun p => !(2 ≤ p.1 && p.1 ≤ 10)) })
             |> forEach ((List.range 9).map (· + 2)) (fun k s => setKeyState k 0 s) |> clearFlds grantFields
  let s := s |> eraseAreas |> emptySlot 0 |> emptySlot 1
  if getB SYS_INFO.AE 0 s then s else s |> setF SEC_STATUS.EVAL_FIXED 0 0 |> setF SEC_STATUS.CLASS_REQ 0 0

def lifecycleEffect (q : List Byte) (s : State) : State :=
  let dest := byteAt q 32
  let old := lifecycleState s
  let s := s |> audit 0x0031 0 (leBytes 1 old ++ leBytes 1 dest) |> storeRow rowSecurity 1 (setF SEC_STATUS.LIFECYCLE 0 dest)
  if dest = lcReturn then enterReturn s
  else if dest = lcProvisioned && !getB SYS_INFO.AE 0 s then installKey 8 (Config.factoryKey 8) s
  else s

def evalFixEffect (s : State) : State :=
  let s := if evalFixed s then s else storeRow rowSecurity 1 (setF SEC_STATUS.EVAL_FIXED 0 1) s
  audit 0x0032 0 [] s

def classReqEffect (q : List Byte) (s : State) : State :=
  let old := getF SEC_STATUS.CLASS_REQ 0 s
  let s := if old = byteAt q 32 then s else storeRow rowSecurity 1 (setF SEC_STATUS.CLASS_REQ 0 (byteAt q 32)) s
  s |> audit 0x0033 0 (leBytes 1 old ++ leBytes 1 (byteAt q 32))

/-- The 64 bytes of record `n`; zeros when it is not held. -/
def auditBytes (n : Nat) (s : State) : List Byte :=
  match s.sec.audit.find? (fun r => r.aseq == n) with | some r => exactly 64 r.bytes | none => List.replicate 64 0#8

def auditReadEffect (q : List Byte) (s : State) : State :=
  respond (((List.range 4).map (fun k => auditBytes (leAt q 32 8 + k) s)).flatten) s

/-- The newest record when the response is made is that of the request itself. -/
def auditSignEffect (q : List Byte) (s : State) : State :=
  let s := audit 0x0042 0 [] s
  let chain := match s.sec.audit with | r :: _ => exactly 32 r.chain | [] => zeroChain
  let body := leBytes 8 (getF SYS_ID.ID 0 s) ++ leBytes 8 (getF SEC_AUDIT_NEW.ASEQ 0 s) ++ chain ++ (q.drop 32).take 48
  respond (body ++ exactly 96 (Config.deviceSign body)) s

def deviceKeyEffect (s : State) : State :=
  respond (leBytes 8 (getF SYS_ID.ID 0 s) ++ exactly 97 (keyBytes 1 s) ++ List.replicate 7 0#8 ++ (List.range 96).map Config.deviceCert) s

def reqEffect (q : List Byte) (s : State) : State :=
  let op := rqOp q
  if op = opGrant then grantEffect q s else if op = opGrantClear then grantClearEffect q s
  else if op = opKeySet then keySetEffect q s else if op = opLifecycle then lifecycleEffect q s
  else if op = opEvalFix then evalFixEffect s else if op = opClassReq then classReqEffect q s
  else if op = opAuditRead then auditReadEffect q s else if op = opAuditSign then auditSignEffect q s
  else deviceKeyEffect s

/-- A refusal is counted, and an AUTH failure recorded (R650, R664). -/
def noteReqRefused (q : List Byte) (st : Nat) (s : State) : State :=
  if st = stAuth then
    s |> bump32 SEC_AUTH_FAIL.COUNT SEC_CNT_FLAGS.AUTH_FAIL_OVF 0 |> audit 0x0037 stAuth (leBytes 1 (rqOp q) ++ leBytes 1 (rqKey q))
  else if st = stDenied then bump32 SEC_DENIED.COUNT SEC_CNT_FLAGS.DENIED_OVF 0 s
  else s

/-- A GO: the request is checked, `eff` is its effect, and STATUS tells its result. -/
def requestBy (eff : List Byte → State → State) (s : State) : State :=
  let q := reqBytes s
  let s := setF SEC_REQ_CTL.OP_LAST 0 (rqOp q) s
  match reqVerdict q s with
  | some st => s |> noteReqRefused q st |> setF SEC_REQ_CTL.STATUS 0 st
  | none =>
    let s := if rqSigned q then storeRow rowSecurity 1 (setF SEC_SEQ.SEQ 0 (rqSeq q)) s else s
    s |> eff q |> setF SEC_REQ_CTL.STATUS 0 stOk

/-- The block enters RETURN, which ends with a MODULE reset (R638). -/
def entersReturn (s : State) : Bool :=
  let q := reqBytes s
  rqOp q = opLifecycle && byteAt q 32 = lcReturn && (reqVerdict q (setF SEC_REQ_CTL.OP_LAST 0 (rqOp q) s)).isNone

/-- A GO, whatever its operation; `bs` are the bursts that a MODULE reset would cut short (R673). -/
def request (bs : List (Nat × Burst)) (s : State) : State :=
  let ends := entersReturn s
  let s := requestBy reqEffect s
  if ends then orderReset 1 bs s else s

/-- A GO whose block carries the row's operation, or no operation of R640, which every row refuses. -/
def requestOf (op : Nat) (eff : List Byte → State → State) (s : State) : State :=
  let o := rqOp (reqBytes s)
  if o = op || !secOps.contains o then requestBy eff s else s

/-- A GO that sets the lifecycle state. -/
def lifecycleGo (bs : List (Nat × Burst)) (s : State) : State :=
  let ends := entersReturn s
  let s := requestOf opLifecycle lifecycleEffect s
  if ends then orderReset 1 bs s else s

/-! ### Debug unlock (R644, R645) -/

def lockedOut (s : State) : Bool := match s.sec.lockEnd with | some e => decide (s.now < e) | none => false

def dropNonce (s : State) : State := s |> setF SEC_CHAL_CTL.NONCE_VALID 0 0 |> setSec (fun c => { c with nonceAt := none })

/-- A GET: twelve fresh words, unless locked out. -/
def chalGet (s : State) : State :=
  if lockedOut s then setF SEC_CHAL_CTL.STATUS 0 stDenied s
  else
    forEach (List.range 12) (fun w s => s |> setF SEC_CHAL_NONCE.WORD w (freeBits 32 s) |> drawn) s
      |> setF SEC_CHAL_CTL.NONCE_VALID 0 1 |> setF SEC_CHAL_CTL.STATUS 0 stOk |> setSec (fun c => { c with nonceAt := some s.now })

/-- A nonce is held and no older than 60 s. -/
def nonceHeld (s : State) : Bool :=
  getB SEC_CHAL_CTL.NONCE_VALID 0 s && (match s.sec.nonceAt with | some a => decide (s.now < a + 60 * secUnit) | none => false)

/-- The 64 bytes that an answer signs. -/
def chalMessage (level : Nat) (s : State) : List Byte :=
  ((List.range 12).map (fun w => leBytes 4 (getF SEC_CHAL_NONCE.WORD w s))).flatten ++ leBytes 8 (getF SYS_ID.ID 0 s) ++ leBytes 1 level
    ++ List.replicate 7 0#8

def chalAnswerBytes (s : State) : List Byte := ((List.range 24).map (fun w => leBytes 4 (getF SEC_CHAL_DATA.WORD w s))).flatten

/-- The lifecycle state allows the level (R636). -/
def levelAllowed (level : Nat) (s : State) : Bool :=
  level == 1 || (level == 2 && (lifecycleState s == lcManufacture || lifecycleState s == lcReturn))

def chalVerdict (level : Nat) (s : State) : Nat :=
  if !nonceHeld s then stExpired
  else if !levelAllowed level s then stDenied
  else if !signedBy (if level = 1 then 10 else 0) (chalMessage level s) (chalAnswerBytes s) s then stAuth
  else stOk

/-- A failed answer counts; the third in a row locks GET out for 600 s. -/
def answerFailed (st : Nat) (s : State) : State :=
  let s := bump32 SEC_CHAL_FAIL.COUNT SEC_CNT_FLAGS.CHAL_FAIL_OVF 0 s
  let s := if st = stAuth then bump32 SEC_AUTH_FAIL.COUNT SEC_CNT_FLAGS.AUTH_FAIL_OVF 0 s else s
  if s.sec.fails + 1 < 3 then storeRow rowSecurity 1 (setSec (fun c => { c with fails := c.fails + 1 })) s
  else s |> storeRow rowSecurity 1 id |> setSec (fun c => { c with fails := 0, lockEnd := some (s.now + 600 * secUnit) }) |> audit 0x0041 0 []

/-- An ANSWER for `level`: it uses the nonce up. -/
def chalAnswer (level : Nat) (s : State) : State :=
  let s := setF SEC_CHAL_CTL.LEVEL 0 level s
  let st := chalVerdict level s
  let s := s |> dropNonce |> setF SEC_CHAL_CTL.STATUS 0 st
  if st = stOk then
    let s := if s.sec.fails = 0 then s else storeRow rowSecurity 1 (setSec (fun c => { c with fails := 0 })) s
    s |> setF SEC_STATUS.DEBUG_LEVEL 0 level |> audit 0x0040 0 (leBytes 1 level)
  else answerFailed st s

/-- The nonce lapses 60 s after it was issued. -/
def nonceEnd (s : State) : State :=
  match s.sec.nonceAt with | some a => if a + 60 * secUnit ≤ s.now then dropNonce s else s | none => s

def lockoutEnd (s : State) : State :=
  match s.sec.lockEnd with
  | some e => if e ≤ s.now then s |> setSec (fun c => { c with lockEnd := none }) |> setF SEC_CHAL_CTL.LOCKOUT_S 0 0 else s
  | none => s

/-! ### Meanings -/

/-- LABEL_COMMIT: a write of PST_LABEL_CTL with COMMIT and INDEX `x` -/
def execLabelCommit (t x : Nat) (bad : List Nat) (s : State) : Host.Outcome State Fault Refusal :=
  .next (onHost t (withBad bad (labelCommit x)) s)

/-- LABEL_COMMIT_DONE -/
def execLabelCommitDone (t : Nat) (bad : List Nat) (s : State) : Host.Outcome State Fault Refusal :=
  .next (onService t (withBad bad labelDone) s)

/-- GRANT: a write of SEC_REQ_CTL.GO -/
def execGrant (t : Nat) (bad : List Nat) (s : State) : Host.Outcome State Fault Refusal :=
  .next (onHost t (withBad bad (requestOf opGrant grantEffect)) s)

/-- GRANT_CLEAR -/
def execGrantClear (t : Nat) (bad : List Nat) (s : State) : Host.Outcome State Fault Refusal :=
  .next (onHost t (withBad bad (requestOf opGrantClear grantClearEffect)) s)

/-- KEY_SET -/
def execKeySet (t : Nat) (bad : List Nat) (s : State) : Host.Outcome State Fault Refusal :=
  .next (onHost t (withBad bad (requestOf opKeySet keySetEffect)) s)

/-- LIFECYCLE -/
def execLifecycle (t : Nat) (env : RegEnv) (s : State) : Host.Outcome State Fault Refusal :=
  .next (hideRunning (onHost t (withBad env.bad (lifecycleGo env.cut)) s))

/-- EVAL_FIX -/
def execEvalFix (t : Nat) (bad : List Nat) (s : State) : Host.Outcome State Fault Refusal :=
  .next (onHost t (withBad bad (requestOf opEvalFix (fun _ => evalFixEffect))) s)

/-- CLASS_REQ -/
def execClassReq (t : Nat) (bad : List Nat) (s : State) : Host.Outcome State Fault Refusal :=
  .next (onHost t (withBad bad (requestOf opClassReq classReqEffect)) s)

/-- AUDIT_READ -/
def execAuditRead (t : Nat) (bad : List Nat) (s : State) : Host.Outcome State Fault Refusal :=
  .next (onHost t (withBad bad (requestOf opAuditRead auditReadEffect)) s)

/-- AUDIT_SIGN -/
def execAuditSign (t : Nat) (bad : List Nat) (s : State) : Host.Outcome State Fault Refusal :=
  .next (onHost t (withBad bad (requestOf opAuditSign auditSignEffect)) s)

/-- DEVICE_KEY -/
def execDeviceKey (t : Nat) (bad : List Nat) (s : State) : Host.Outcome State Fault Refusal :=
  .next (onHost t (withBad bad (requestOf opDeviceKey (fun _ => deviceKeyEffect))) s)

/-- CHALLENGE_GET -/
def execChallengeGet (t : Nat) (s : State) : Host.Outcome State Fault Refusal := .next (onHost t chalGet s)

/-- CHALLENGE_ANSWER with LEVEL -/
def execChallengeAnswer (t level : Nat) (bad : List Nat) (s : State) : Host.Outcome State Fault Refusal :=
  .next (onHost t (withBad bad (chalAnswer level)) s)

/-- NONCE_EXPIRE -/
def execNonceExpire (t : Nat) (s : State) : Host.Outcome State Fault Refusal := .next (onService t nonceEnd s)

/-- DEBUG_LOCKOUT_EXPIRE -/
def execDebugLockoutExpire (t : Nat) (s : State) : Host.Outcome State Fault Refusal := .next (onService t lockoutEnd s)

end Sys2Proof.Machine
end

