-- ==== Sys2Proof/Machine/DebugOps.lean ====
section
/-! DEFINITION. The debug module: halts, breakpoints, relock, debug memory access (R667, R669, R673, R679 to R687, R692 to R698). -/

namespace Sys2Proof.Machine

def setDbg (f : DbgState → DbgState) (s : State) : State := { s with dbg := f s.dbg }

/-! ### Halts (R681 to R685) -/

def haltCauseHalt : Nat := 1
def haltCauseBreak : Nat := 2
def haltCauseStep : Nat := 3

def unitHalted (u : Nat) (s : State) : Bool := getB DBG_ENG_STATUS.HALTED u s

/-- The unit has its clocks, so that it can be halted. -/
def unitRuns (u : Nat) (s : State) : Bool :=
  if u < 128 then engState u s != reedGated else if u < 160 then !domDown (400 + (u - 128)) s else u < 162

/-- Show where unit `u` stands: a reed engine at its program counter, another unit at an address that the model does not know. -/
def showPc (u : Nat) (s : State) : State :=
  if u < 128 then setF DBG_ENG_STATUS.PC u (reed u s).pc s else drawn (setF DBG_ENG_STATUS.PC u (freeBits 16 s) s)

/-- Unit `u` is halted by `cause`; `b` is the breakpoint of a breakpoint halt. -/
def haltUnit (u cause b : Nat) (s : State) : State :=
  if unitHalted u s || !unitRuns u s then s
  else
    (if u < 128 then setF REE_ENG_STATUS.STATE u reedHalted s else s)
      |> setF DBG_ENG_STATUS.HALTED u 1 |> setF DBG_ENG_STATUS.CAUSE u cause |> setF DBG_ENG_STATUS.BP_HIT u b |> showPc u
      |> raiseAs 1 [DBG_EVT.HALT] 0

/-- Unit `u` continues from the address it halted at; a service pair that claimed through its watchdog hardware runs again. -/
def resumeUnit (u : Nat) (s : State) : State :=
  if !unitHalted u s then s
  else
    let s := s |> setF DBG_ENG_STATUS.HALTED u 0 |> setF DBG_ENG_STATUS.CAUSE u 0 |> setF DBG_ENG_STATUS.BP_HIT u 0
    if u < 128 then s |> setF REE_ENG_STATUS.STATE u reedRun |> setReed u (fun r => { r with past := true })
    else if u = 161 then setTwin (fun w => { w with hardware := false }) s
    else s

/-- A halted unit runs one instruction and halts again; an engine that has reached END has none to run. -/
def stepUnit (u : Nat) (s : State) : State :=
  if !unitHalted u s then s
  else
    (if u < 128 && !(reed u s).ended then reedStep u s else s)
      |> setF DBG_ENG_STATUS.CAUSE u haltCauseStep |> setF DBG_ENG_STATUS.BP_HIT u 0 |> showPc u |> raiseAs 1 [DBG_EVT.HALT] 0

/-- A running reed engine halts before instruction 0 of its next block. -/
def haltAtBlock (u : Nat) (s : State) : State :=
  if u < 128 && engState u s == reedRun && !s.dbg.haltBlock.contains u then setDbg (fun d => { d with haltBlock := u :: d.haltBlock }) s else s

/-- A debug access that is refused. -/
def unitRefusal (s : State) : State := raiseAs 1 [DBG_EVT.REFUSED] 0 s

/-- A write of DBG_ENG_CTL: the bits act in ascending order. -/
def engCtl (value : Nat) (s : State) : State :=
  let u := getF DBG_ENG_SEL.UNIT 0 s
  if !unitOk u s then unitRefusal s
  else
    s |> when_ (bit value 0) (haltUnit u haltCauseHalt 0) |> when_ (bit value 1) (resumeUnit u) |> when_ (bit value 2) (stepUnit u)
      |> when_ (bit value 3) (haltAtBlock u)

/-- Breakpoint `b` of unit `u` is at the unit's next instruction. -/
def breakpoint (u b : Nat) (s : State) : State :=
  let there := if u < 128 then
      engRuns u s && !(reed u s).past && getF DBG_BP.ADDR (4 * u + b) s == (reed u s).pc
    else true
  if u ≤ 161 && b < 4 && getB DBG_BP.EN (4 * u + b) s && there then haltUnit u haltCauseBreak b s else s

/-! ### Relock and reset (R673, R679, R686) -/

/-- Every halt is released and every breakpoint cleared; the transaction in progress ends. -/
def relock (burst : Option Burst) (s : State) : State :=
  forEach (indicesWhere DBG_ENG_STATUS.HALTED (· == 1) s) resumeUnit s
    |> clearFlds [DBG_BP.EN, DBG_BP.ADDR]
    |> setDbg (fun d => { d with haltBlock := [], mem := none })
    |> setF DBG_MEM_CTL.BUSY 0 0 |> setF SEC_STATUS.DEBUG_LEVEL 0 0 |> abortBurst maDebug burst

def dbgReset (key : Nat) (bs : List (Nat × Burst)) (s : State) : State := if 1 ≤ effLevel s && key = 0xA5 then orderReset 2 bs s else s

/-! ### Debug memory access (R667 to R669, R687) -/

/-- Bytes of a transaction. -/
def memSize (s : State) : Nat := let k := getF DBG_MEM_CTL.SIZE 0 s; if 2 ≤ k && k ≤ 6 then 2 ^ k else 4

/-- What a write of DBG_MEM_CTL sets: WRITE and SIZE; a 1 clears DONE. -/
def memCtl (v : Nat) (s : State) : State :=
  s |> setF DBG_MEM_CTL.WRITE 0 (bits v 30 1) |> setF DBG_MEM_CTL.SIZE 0 (bits v 0 3) |> when_ (bit v 28) (setF DBG_MEM_CTL.DONE 0 0)

/-- A GO: the transaction is issued with the address, the direction and the data as they stand. -/
def memGo (s : State) : State :=
  if getB DBG_MEM_CTL.BUSY 0 s || effLevel s = 0 then s
  else
    let n := memSize s
    let a := getF DBG_MEM_ADDR.ADDR 0 s
    let d := ((List.range 16).map (fun w => leBytes 4 (getF DBG_MEM_DATA.WORD w s))).flatten
    s |> setDbg (fun x => { x with mem := some { write := getB DBG_MEM_CTL.WRITE 0 s, size := n, addr := a / n * n, data := d.take n } })
      |> setF DBG_MEM_CTL.BUSY 0 1

/-- R667 and R668 allow the debug module the access at the effective level; `off` is the offset within the target. -/
def memAllowed (write : Bool) (target off value : Nat) (s : State) : Bool :=
  let l := effLevel s
  if target = tgRom then !write && 1 ≤ l
  else if target = tgCtlSram then (if write then 2 else 1) ≤ l
  else if target = tgRegs then
    if write then
      let low := (0x2c00000 ≤ off && off < 0x2e00000) || (0x1400000 ≤ off && off < 0x1800000) || (0xc00000 ≤ off && off < 0xe00000)
      (if low then 1 else 2) ≤ l && !writeForbidden off value s
    else 1 ≤ l || (0x2c00000 ≤ off && off < 0x2e00000)
  else if target = tgStore then
    let r := off / 4096
    !write && 1 ≤ l && !(355 ≤ r && r ≤ 362)
  else (target = tgSram || target = tgKennel) && 1 ≤ l

/-- Byte `o` of the persistent store: a route word, a label or an audit record; the other rows are not laid out (log entry 41). -/
def storeByteAt (o : Nat) (s : State) : Byte :=
  let r := o / 4096
  if r < 32 then (leBytes 8 (getF PST_ROUTE.SOURCE (o / 8) s)).getD (o % 8) 0#8
  else if r < 288 then (leBytes 4 (getF PST_LABEL.WORD ((o - 32 * 4096) / 4) s)).getD (o % 4) 0#8
  else if 363 ≤ r && r < 619 then
    let k := (o - 363 * 4096) / 64
    match s.sec.audit.find? (fun a => (a.aseq - 1) % 16384 == k) with
    | some a => (exactly 64 a.bytes).getD (o % 64) 0#8
    | none => Config.storeByte s.freeCtr o
  else Config.storeByte s.freeCtr o

end Sys2Proof.Machine
end

