-- ==== Sys2Proof/Machine/Lanes.lean ====
section
/-! DEFINITION. The lane PHY's events and orders (R53 to R99): signal detect, training, back-off, power states, retraining. -/

namespace Sys2Proof.Machine

/-- Lanes an event can name: the backplane's and the twin link's, if assigned (R54, R72). -/
def laneHere (d : Dir) (n : Nat) (s : State) : Bool := laneAssigned d n s

/-! ### Signal detect (R69, R70, R76, R79) -/

/-- A probe starts on the resting lanes of the pair (R69). -/
def startProbe (d : Dir) (n : Nat) (s : State) : State :=
  forEach ((pairDirs d n s).filter (fun e => restsNoPartner e n s && (laneState e n s == stNoPartner || laneState e n s == stWake)))
    (fun e s => startAttempt e n s) s

/-- An input lane leaves DEEP: its PLL starts (R79). -/
def wakeIn (n : Nat) (s : State) : State := s |> setF LNI_STATUS.STATE n stWake |> setIn n (fun l => { l with startAt := s.now })

def signalRise (n : Nat) (s : State) : State :=
  if !laneHere .inp n s then s
  else
    let s := setF LNI_STATUS.SIGDET n 1 s
    let st := inState n s
    if st = stNoPartner then startProbe .inp n s
    else if st = stDeep && getB LNI_CTL.WAKE_SIGDET n s then wakeIn n s
    else if st = stIdle && (inLane n s).idleByLoss then inActive n s
    else s

def signalFall (n : Nat) (s : State) : State :=
  if !laneHere .inp n s then s
  else
    let s := setF LNI_STATUS.SIGDET n 0 s
    if inState n s = stActive then
      if getB LNI_CTL.AUTO_IDLE n s then s |> enterIn n stIdle |> setIn n (fun l => { l with idleByLoss := true, lossAt := s.now })
      else lockLoss n s
    else if inAttempt .inp n s then failAttempt .inp n failSignalLost s
    else s

/-! ### Training sets (R63, R65, R66, R71) -/

/-- What the set carries of the partner is recorded (R88, R90), and a requested preset applied (R97). -/
def recordPartner (n : Nat) (body : List Byte) (s : State) : State :=
  let s := s |> setF LNI_PARTNER_LO.ID_LO n (setIdentity body % 2 ^ 32) |> setF LNI_PARTNER_HI.ID_HI n (setIdentity body / 2 ^ 32)
    |> setF LNI_PARTNER_HI.PARTNER_LANE n (setLane body) |> setF LNI_EQ.PARTNER_PRESET n (setPreset body)
  if setRequest body < 8 && getB LNO_TX_CFG.HONOUR_REQ n s && outAssigned n s && inAttempt .out n s && !oneWay .inp n s then
    s |> setF LNO_TX_CFG.PRESET_ACT n (setRequest body) |> sendSets n
  else s

/-- The set is not of the pair's lane or direction (R71). The twin link's sets are sent by the twin's output lanes and bear the lane's
number in the link (log entry 85). -/
def miswired (n : Nat) (body : List Byte) : Bool :=
  if isTwinLane n then setLane body != n - twinLane0 || !setDirOut body else setLane body != n || setDirOut body

/-- The set announces another clock mode than the module's sets. -/
def otherMode (n : Nat) (body : List Byte) (s : State) : Bool :=
  setClkMode body != (if isTwinLane n then getF LNI_STATUS.CLK_FWD n s else getF LNI_GRP_CFG.CLK_MODE_ACT (groupOf n) s)

/-- The pair's training is complete: every lane of it in an attempt. -/
def trainingDone (n : Nat) (s : State) : State :=
  forEach ((pairDirs .inp n s).filter (fun d => inAttempt d n s)) (fun d s => laneReady d n s) s

/-- A phase can end: not later than its bound, from the start of the attempt (R65; log entry 86). -/
def inBound (n ms : Nat) (s : State) : Bool := s.now ≤ (inLane n s).startAt + ms * msUnit

/-- The lanes of the pair in an attempt pass to a phase. -/
def pairPhase (n : Nat) (ph : Phase) (s : State) : State :=
  forEach ((pairDirs .inp n s).filter (fun d => inAttempt d n s)) (fun d s => setPhase d n ph s) s

/-- TRAIN_LOCK ends when lock has been held for 100 µs (R65). -/
def lockHeld (n : Nat) (s : State) : State :=
  if (inLane n s).phase = .lock && inAttempt .inp n s && getB LNI_STATUS.CDR_LOCK n s && (inLane n s).lockAt + 100 * usUnit ≤ s.now
      && inBound n 5 s then pairPhase n .align s
  else s

/-- TB sets with READY that the transmitter of the pair has sent (R65). -/
def readySent (n : Nat) (s : State) : Nat := setsIn (s.now - (outLane n s).phaseAt)

/-- One phase's progress at a valid set of the pair's own partner. -/
def trainPhase (n : Nat) (body : List Byte) (inverted spaced eqOk : Bool) (request : Nat) (s : State) : State :=
  let one := oneWay .inp n s
  match (inLane n s).phase with
  | .align =>
    let s := s |> setB LNI_STATUS.POL_INV n inverted |> setIn n (fun l => { l with sets := if spaced then l.sets + 1 else 1 })
    if 4 ≤ (inLane n s).sets && inBound n 6 s then
      let s := s |> setF LNI_STATUS.ALIGNED n 1 |> pairPhase n .eq
      if one then s else s |> setF LNI_EQ.PRESET_REQ n (request % 8) |> sendSets n
    else s
  | .eq =>
    if eqOk && (one || setPreset body == getF LNI_EQ.PRESET_REQ n s) && inBound n 40 s then s |> newEqualiser n |> pairPhase n .confirm else s
  | .confirm =>
    let s := setIn n (fun l => { l with ready := if setType body = typeTB ∧ setReady body then l.ready + 1 else 0 }) s
    if 8 ≤ (inLane n s).ready && (one || 16 ≤ readySent n s) then trainingDone n s else s
  | _ => s

/-- A fast retrain: with lock and alignment the transmitter sends TB sets, and 8 consecutive TB sets with READY end it (R79). -/
def fastPhase (n : Nat) (body : List Byte) (inverted : Bool) (s : State) : State :=
  let s := if outState n s = stFast && (outLane n s).phase = .lock then
      s |> setOut n (fun l => { l with phase := .confirm, phaseAt := s.now }) |> sendSets n else s
  let s := s |> setB LNI_STATUS.POL_INV n inverted |> setF LNI_STATUS.CDR_LOCK n 1 |> setF LNI_STATUS.ALIGNED n 1
             |> setIn n (fun l => { l with ready := if setType body = typeTB ∧ setReady body then l.ready + 1 else 0 })
  if 8 ≤ (inLane n s).ready then
    forEach ([Dir.inp, Dir.out].filter (fun d => laneState d n s == stFast)) (fun d s => laneReady d n s)
      (setIn n (fun l => { l with ready := 0 }) s)
  else s

def trainingSet (n : Nat) (body : List Byte) (inverted spaced eqOk : Bool) (request : Nat) (s : State) : State :=
  if !laneHere .inp n s || !setCheck body then s
  else
    let s := s |> recordPartner n body |> lockHeld n
    if inAttempt .inp n s then
      let probe := (inLane n s).noPartner
      if miswired n body then
        let s := if probe then s else raiseLane [LNI_EVT.MISWIRE] n s
        let s := if probe || !(pairDirs .inp n s).contains .out then s else raiseLane [LNO_EVT.MISWIRE] n s
        failAttempt .inp n failMiswire s
      else if otherMode n body s then
        let s := if probe then s else raiseLane [LNI_EVT.MODE_MISMATCH] n s
        let s := if probe || !(pairDirs .inp n s).contains .out then s else raiseLane [LNO_EVT.MODE_MISMATCH] n s
        failAttempt .inp n failModeMismatch s
      else trainPhase n body inverted spaced eqOk request s
    else if inState n s = stFast || outState n s = stFast then fastPhase n body inverted s
    else s

/-! ### Timers (R65, R67 to R69, R76, R79) -/

/-- Start of the attempt or of the fast retrain. -/
def startedAt (d : Dir) (n : Nat) (s : State) : Nat := match d with | .inp => (inLane n s).startAt | .out => (outLane n s).startAt

/-- An attempt that has not reached ACTIVE 50 ms after its start (R65). -/
def attemptTimeout (d : Dir) (n : Nat) (s : State) : State :=
  if laneHere d n s && inAttempt d n s && startedAt d n s + 50 * msUnit ≤ s.now then failAttempt d n (timeoutReason d n s) s else s

/-- The next attempt of a lane whose back-off has run. -/
def nextAttemptOn (n : Nat) (d : Dir) (s : State) : State :=
  if laneState d n s != stBackoff then s
  else match d with
    | .inp => s |> setF LNI_STATUS.ATTEMPT n (getF LNI_STATUS.ATTEMPT n s + 1) |> startAttempt .inp n
    | .out => s |> setF LNO_STATUS.ATTEMPT n (getF LNO_STATUS.ATTEMPT n s + 1) |> startAttempt .out n

def backoffDue (d : Dir) (n : Nat) (s : State) : Bool :=
  (match d with | .inp => (inLane n s).backoffEnd | .out => (outLane n s).backoffEnd) ≤ s.now

def backoffEnd (d : Dir) (n : Nat) (s : State) : State :=
  if laneHere d n s && laneState d n s = stBackoff && backoffDue d n s then forEach (pairDirs d n s) (nextAttemptOn n) s else s

/-- The 1 s period of the probes has run: since NO_PARTNER was entered or the last probe began (R69). -/
def probeDue (d : Dir) (n : Nat) (s : State) : Bool :=
  (match d with | .inp => (inLane n s).probeAt | .out => (outLane n s).probeAt) + secUnit ≤ s.now

def quietProbe (d : Dir) (n : Nat) (s : State) : State :=
  if laneHere d n s && laneState d n s = stNoPartner && probeDue d n s then startProbe d n s else s

/-- 20 ms of TA sets end and TB sets follow; 2 ms of TB sets end and lane blocks follow from the next block-phase boundary (R67). In a
fast retrain the manual gives these times no length (log entry 87). -/
def oneWayTimer (n : Nat) (s : State) : State :=
  let fast := outState n s == stFast
  let ran (ms : Nat) : Bool := fast || (outLane n s).phaseAt + ms * msUnit ≤ s.now
  if !(laneHere .out n s && oneWay .out n s) then s
  else match (outLane n s).phase with
    | .lock =>
      if !ran 20 then s
      else if fast then s |> setOut n (fun l => { l with phase := .confirm, phaseAt := s.now }) |> sendSets n
      else setPhase .out n .confirm s
    | .confirm => if ran 2 then laneReady .out n s else s
    | _ => s

/-- The fast retrain of a lane fails (R79). -/
def fastFailOn (n : Nat) (d : Dir) (s : State) : State :=
  match d with
  | .inp => s |> setF LNI_STATUS.LAST_FAIL n failFast
              |> (fun s => if isTwinLane n then s else bump32 LNI_TRAIN_FAIL_CNT.COUNT LNI_CNT_FLAGS.TRAIN_FAIL_OVF n s)
  | .out => s |> setF LNO_STATUS.LAST_FAIL n failFast
              |> (fun s => if isTwinLane n then s else bump32 LNO_TRAIN_FAIL_CNT.COUNT LNO_CNT_FLAGS.TRAIN_FAIL_OVF n s)

def retrying (d : Dir) (n : Nat) (s : State) : Bool :=
  laneState d n s == stFast || (laneState d n s == stWake && !restsNoPartner d n s)

/-- A fast retrain that has not reached ACTIVE 4.0 ms after its request fails, and a full series follows at once (R79). -/
def fastTimeout (d : Dir) (n : Nat) (s : State) : State :=
  if !(laneHere d n s && retrying d n s && startedAt d n s + 4 * msUnit ≤ s.now) then s
  else s |> forEach ((pairDirs d n s).filter (fun e => retrying e n s)) (fastFailOn n) |> startSeries d n

/-- IDLE_LIMIT as it acts: 0 as 1, above 1000 as 1000 (R86). -/
def idleLimitMs (n : Nat) (s : State) : Nat := clampNat 1 1000 (getF LNI_CTL.IDLE_LIMIT n s)

/-- IDLE_LIMIT, which runs from the first loss of signal, has expired (R76). -/
def idleLimit (n : Nat) (s : State) : State :=
  if laneHere .inp n s && inState n s = stIdle && (inLane n s).idleByLoss && (inLane n s).lossAt + idleLimitMs n s * msUnit ≤ s.now then
    s |> raiseLane [LNI_EVT.IDLE_TIMEOUT] n |> startSeries .inp n
  else s

/-! ### PLL, CDR and forwarded clock (R59, R62, R65, R79) -/

/-- A lane's PLL has locked: a resting pair begins its probe, any other lane its fast retrain. -/
def pllLock (d : Dir) (n : Nat) (s : State) : State :=
  if !(laneHere d n s && laneState d n s = stWake) then s
  else if restsNoPartner d n s then startProbe d n s
  else fastOn d n s

/-- The CDR has lock; a command 100 µs or more after the first finds it held (R65; log entry 86). -/
def cdrLocked (n : Nat) (s : State) : State :=
  if !laneHere .inp n s then s
  else
    let s := if getB LNI_STATUS.CDR_LOCK n s then s else s |> setF LNI_STATUS.CDR_LOCK n 1 |> setIn n (fun l => { l with lockAt := s.now })
    lockHeld n s

def cdrLost (n : Nat) (s : State) : State :=
  if !laneHere .inp n s then s
  else
    let s := setF LNI_STATUS.CDR_LOCK n 0 s
    if inState n s = stActive then lockLoss n s else s

/-- Alignment has not been regained within 64 block periods (R62). -/
def alignmentLate (n : Nat) (s : State) : State :=
  if laneHere .inp n s && inState n s = stActive && (inLane n s).searching && (inLane n s).searchAt + blocksTime 64 ≤ s.now then lockLoss n s
  else s

def fcActivity (g : Nat) (active : Bool) (s : State) : State :=
  if g < 128 && getB LNI_GRP_CFG.ENABLED g s then s |> setB LNI_GRP_CFG.FC_ACTIVE g active |> autoFallback g else s

/-! ### Orders of the host (R54, R75 to R80, R86, R95, R117) -/

/-- Put a lane in DEEP: an attempt in progress is abandoned (R80). -/
def deepOn (d : Dir) (n : Nat) (s : State) : State :=
  match d with
  | .inp => s |> enterIn n stDeep |> setF LNI_STATUS.CDR_LOCK n 0 |> setF LNI_STATUS.ALIGNED n 0
              |> setIn n (fun l => { l with phase := .none, noPartner := false, idleByLoss := false })
  | .out => s |> enterOut n stDeep |> setOut n (fun l => { l with phase := .none, noPartner := false }) |> sendSets n

/-- TARGET_STATE of an input lane. -/
def orderIn (n target : Nat) (s : State) : State :=
  if !(n < 2048 && inAssigned n s) || 3 ≤ target then s
  else
    let s := setF LNI_CTL.TARGET_STATE n target s
    let st := inState n s
    if target = 2 then (if st = stDeep then s else deepOn .inp n s)
    else if target = 1 then
      if st = stActive then s |> leaveIn n true |> setF LNI_STATUS.STATE n stIdle |> setIn n (fun l => { l with idleByLoss := false }) else s
    else if st = stIdle && !(inLane n s).idleByLoss then inActive n s
    else if st = stDeep then wakeIn n s
    else if inNoPartner n s then startSeries .inp n s
    else s

/-- RETRAIN starts a new series in ACTIVE, IDLE and NO_PARTNER, a quiet probe included (R80, R85). On a lane that host software has put in
DEEP the manual gives it no effect, and it has none (log entry 45). -/
def retrain (d : Dir) (n : Nat) (s : State) : State :=
  let st := laneState d n s
  if n < 2048 && laneAssigned d n s && (st = stActive || st = stIdle || restsNoPartner d n s) then startSeries d n s else s

/-- TARGET_STATE of an output lane; IDLE and DEEP are refused while a slot has a source (R77). IDLE ordered in DEEP or NO_PARTNER is stored
and leaves the lane where it rests (log entry 45). -/
def orderOut (n target : Nat) (s : State) : State :=
  if !(n < 2048 && outAssigned n s) || 3 ≤ target then s
  else if target != 0 && laneSourced n s then setF LNO_STATUS.REFUSED n 1 s
  else
    let s := setF LNO_CTL.TARGET_STATE n target s
    let st := outState n s
    if target = 2 then (if st = stDeep then s else deepOn .out n s)
    else if target = 1 then
      if st = stActive then s |> leaveOut n true |> setF LNO_STATUS.STATE n stIdle else s
    else if outNoPartner n s then startSeries .out n s
    else exitOut n s

def lniCounters : List Fld :=
  [LNI_BLOCKS.COUNT, LNI_CODE_ERR.COUNT, LNI_DISP_ERR.COUNT, LNI_CRC_ERR.COUNT, LNI_REALIGN_CNT.COUNT, LNI_LOCK_LOSS_CNT.COUNT,
   LNI_TRAIN_FAIL_CNT.COUNT, LNI_PROBE_CNT.COUNT, LNI_GATED_CNT.COUNT, LNI_SEQ_ERR.COUNT, LNI_HDR_ERR.COUNT, LNI_MODE_ERR.COUNT,
   LNI_ILLEGAL_WORD.COUNT, LNI_TEST_ERR.COUNT, LNI_PAY_LOSS_CNT.COUNT,
   LNI_CNT_FLAGS.GATED_OVF, LNI_CNT_FLAGS.PROBE_OVF, LNI_CNT_FLAGS.TRAIN_FAIL_OVF, LNI_CNT_FLAGS.LOCK_LOSS_OVF, LNI_CNT_FLAGS.REALIGN_OVF,
   LNI_CNT_FLAGS.CRC_OVF, LNI_CNT_FLAGS.DISP_OVF, LNI_CNT_FLAGS.CODE_OVF, LNI_CNT_FLAGS.BLOCKS_WRAP,
   LNI_PAY_FLAGS.PAY_LOSS_OVF, LNI_PAY_FLAGS.TEST_OVF, LNI_PAY_FLAGS.ILLEGAL_OVF, LNI_PAY_FLAGS.MODE_OVF, LNI_PAY_FLAGS.HDR_OVF,
   LNI_PAY_FLAGS.SEQ_OVF]

def lnoCounters : List Fld :=
  [LNO_BLOCKS.COUNT, LNO_FILL_BLOCKS.COUNT, LNO_TRAIN_FAIL_CNT.COUNT, LNO_PROBE_CNT.COUNT, LNO_CNT_FLAGS.PROBE_OVF,
   LNO_CNT_FLAGS.TRAIN_FAIL_OVF, LNO_CNT_FLAGS.FILL_WRAP, LNO_CNT_FLAGS.BLOCKS_WRAP]

/-- CLR_CNT of an input lane (R82, R86, R126), the overflow flags of its payload counters included (log entry 90). -/
def lniClear (n : Nat) (s : State) : State := if n < 2048 && inAssigned n s then resetFs lniCounters n s else s

def lnoClear (n : Nat) (s : State) : State := if n < 2048 && outAssigned n s then resetFs lnoCounters n s else s

/-- TEST of an output lane (R117). -/
def orderTest (n : Nat) (on : Bool) (s : State) : State :=
  if !(n < 2048 && outAssigned n s) then s
  else if on && laneSourced n s then setF LNO_PAY_CFG.TEST_REFUSED n 1 s
  else setB LNO_PAY_CFG.TEST n on s

/-! ### Meanings -/

/-- SIGNAL_DETECT_RISE -/
def execSignalDetectRise (t n : Nat) (s : State) : Host.Outcome State Fault Refusal := .next (onService t (signalRise n) s)

/-- SIGNAL_DETECT_FALL -/
def execSignalDetectFall (t n : Nat) (s : State) : Host.Outcome State Fault Refusal := .next (onService t (signalFall n) s)

/-- TRAINING_SET_RX -/
def execTrainingSetRx (t n : Nat) (body : List Byte) (inverted spaced eqOk : Bool) (request : Nat) (s : State) :
    Host.Outcome State Fault Refusal := .next (onService t (trainingSet n body inverted spaced eqOk request) s)

/-- TRAINING_ATTEMPT_TIMEOUT -/
def execTrainingAttemptTimeout (t : Nat) (dir : Dir) (n : Nat) (s : State) : Host.Outcome State Fault Refusal :=
  .next (onService t (attemptTimeout dir n) s)

/-- BACKOFF_EXPIRE -/
def execBackoffExpire (t : Nat) (dir : Dir) (n : Nat) (s : State) : Host.Outcome State Fault Refusal :=
  .next (onService t (backoffEnd dir n) s)

/-- QUIET_PROBE_TIMER -/
def execQuietProbeTimer (t : Nat) (dir : Dir) (n : Nat) (s : State) : Host.Outcome State Fault Refusal :=
  .next (onService t (quietProbe dir n) s)

/-- ONE_WAY_TRAIN_TIMER -/
def execOneWayTrainTimer (t n : Nat) (s : State) : Host.Outcome State Fault Refusal := .next (onService t (oneWayTimer n) s)

/-- ALIGNMENT_TIMEOUT -/
def execAlignmentTimeout (t n : Nat) (s : State) : Host.Outcome State Fault Refusal := .next (onService t (alignmentLate n) s)

/-- CDR_LOCK_LOSS -/
def execCdrLockLoss (t n : Nat) (s : State) : Host.Outcome State Fault Refusal := .next (onService t (cdrLost n) s)

/-- FAST_RETRAIN_TIMEOUT -/
def execFastRetrainTimeout (t : Nat) (dir : Dir) (n : Nat) (s : State) : Host.Outcome State Fault Refusal :=
  .next (onService t (fastTimeout dir n) s)

/-- IDLE_LIMIT_EXPIRE -/
def execIdleLimitExpire (t n : Nat) (s : State) : Host.Outcome State Fault Refusal := .next (onService t (idleLimit n) s)

/-- LNI_TARGET_STATE -/
def execLniTargetState (t n target : Nat) (s : State) : Host.Outcome State Fault Refusal := .next (onHost t (orderIn n target) s)

/-- LNI_RETRAIN -/
def execLniRetrain (t n : Nat) (s : State) : Host.Outcome State Fault Refusal := .next (onHost t (retrain .inp n) s)

/-- LNI_CLR_CNT -/
def execLniClrCnt (n : Nat) (s : State) : Host.Outcome State Fault Refusal := .next (whenHost (lniClear n) s)

/-- LNO_TARGET_STATE -/
def execLnoTargetState (t n target : Nat) (s : State) : Host.Outcome State Fault Refusal := .next (onHost t (orderOut n target) s)

/-- LNO_RETRAIN -/
def execLnoRetrain (t n : Nat) (s : State) : Host.Outcome State Fault Refusal := .next (onHost t (retrain .out n) s)

/-- LNO_CLR_CNT -/
def execLnoClrCnt (n : Nat) (s : State) : Host.Outcome State Fault Refusal := .next (whenHost (lnoClear n) s)

/-- LNO_TEST -/
def execLnoTest (n : Nat) (on : Bool) (s : State) : Host.Outcome State Fault Refusal := .next (whenHost (running (orderTest n on)) s)

/-- PLL_LOCKED -/
def execPllLocked (t : Nat) (dir : Dir) (n : Nat) (s : State) : Host.Outcome State Fault Refusal := .next (onService t (pllLock dir n) s)

/-- CDR_LOCK_ACQUIRED -/
def execCdrLockAcquired (t n : Nat) (s : State) : Host.Outcome State Fault Refusal := .next (onService t (cdrLocked n) s)

/-- FORWARDED_CLOCK_ACTIVITY -/
def execForwardedClockActivity (t g : Nat) (active : Bool) (s : State) : Host.Outcome State Fault Refusal :=
  .next (onService t (fcActivity g active) s)

end Sys2Proof.Machine
end

