-- ==== Sys2Proof/Machine/Sensors.lean ====
section
/-! DEFINITION. Switched domains that start, the junction sensors and the feed (R703 to R705, R708 to R712, R722). -/

namespace Sys2Proof.Machine

def setMon (f : MonState → MonState) (s : State) : State := { s with mon := f s.mon }

/-! ### Domains (R704, R705) -/

/-- The work that waited for a domain: every lane of a lane group starts its first series. -/
def domainWork (d : Nat) (s : State) : State :=
  if d < 128 then
    forEach ((List.range 16).map (· + 16 * d)) (fun n s => if inState n s = stGated then startSeriesOn .inp n s else s) s
  else if d < 256 then
    forEach ((List.range 16).map (· + 16 * (d - 128))) (fun n s => if outState n s = stGated then startSeriesOn .out n s else s) s
  else s

/-- A domain that Crumhorn starts: STARTING, or an assigned one that wakes from its lowest state. -/
def domStarts (d : Nat) (s : State) : Bool :=
  d < 545 && (domState d s == dStarting || (getB PWR_DOM.ASSIGNED d s && (domState d s == dAsleep || domState d s == dSelfRefresh)))

/-- Longest time from the order of a start to ON: a stack trains from GATED or leaves self-refresh (R703, R704). -/
def domLatency (d : Nat) (s : State) : Nat :=
  if 432 ≤ d && d < 440 then (if domState d s = dSelfRefresh then 2 * msUnit else 400 * msUnit) else 150 * usUnit

/-- Module time by which domain `d` reaches ON. What an event at the lands wakes has no order that the module times. -/
def domDue (d : Nat) (s : State) : Option Nat := (s.boot.domAt.find? (fun p => p.1 == d)).map (fun p => p.2 + domLatency d s)

def startEnds (d : Nat) (s : State) : State := setBoot (fun b => { b with domAt := b.domAt.filter (fun p => p.1 != d) }) s

def domainOn (d : Nat) (s : State) : State :=
  if domStarts d s && (domDue d s).all (fun e => decide (s.now ≤ e)) then s |> setDom d dOn |> startEnds d |> domainWork d else s

/-- A domain has not reached ON within its latency: FAILED, and its unit behaves as the degrading faults of R600 lay down. -/
def domainFails (d : Nat) (s : State) : State :=
  if !domStarts d s || (domDue d s).any (fun e => decide (s.now < e)) then s
  else
    let s := s |> startEnds d |> setDom d dFailed |> markFailed d |> raiseAs d [PWR_EVT.START_FAIL] 0
               |> bump32 PWR_START_FAIL_CNT.COUNT PWR_EVT.START_FAIL_OVF 0
    if 432 ≤ d && d < 440 then s |> setDiag diagStack |> forEach (indicesWhere KNL_ALLOC_CFG.CLASS (· != clAbsent) s) writerLoss
    else if 440 ≤ d && d < 520 && bankUsed (d - 440) s then setDiag diagSram s
    else s

/-! ### Temperatures (R709 to R712) -/

/-- Reading of sensor `k` in °C. -/
def tempAt (ts : List Int) (k : Nat) : Int := ts.getD k 0

/-- Sensor with the highest reading, the lowest number of several. -/
def hotSensor (ts : List Int) : Nat := (List.range 40).foldl (fun b k => if tempAt ts b < tempAt ts k then k else b) 0

/-- WARN_C: values below 70 act as 70, above 105 as 105 (R722). -/
def warnLevel (s : State) : Int := max 70 (min 105 (getF MON_THERM_CFG.WARN_C 0 s))

def showTemps (ts : List Int) (s : State) : State :=
  let s := forEach (List.range 40) (fun k s =>
    s |> setF MON_TEMP.TEMP_C k (ofSigned 8 (tempAt ts k))
      |> setF MON_TEMP.MAX_C k (ofSigned 8 (max (toSigned 8 (getF MON_TEMP.MAX_C k s)) (tempAt ts k)))) s
  s |> setF MON_THERM_STATUS.HOT_SENSOR 0 (hotSensor ts) |> setF MON_THERM_STATUS.MAX_C 0 (ofSigned 8 (tempAt ts (hotSensor ts)))

def elapsedSince (x : Option Nat) (d : Nat) (s : State) : Bool := match x with | some a => decide (a + d ≤ s.now) | none => false

/-- The thermal warning (R710). -/
def judgeWarn (ts : List Int) (s : State) : State :=
  let w := warnLevel s
  let logic := List.range 32
  if !getB MON_THERM_STATUS.WARN 0 s then
    if logic.any (fun k => w ≤ tempAt ts k) then
      s |> setF MON_THERM_STATUS.WARN 0 1 |> raiseAs (hotSensor ts) [MON_EVT.WARN] 0 |> bump32 MON_WARN_CNT.COUNT MON_EVT.WARN_OVF 0
        |> setMon (fun m => { m with warnAt := some s.now, coolAt := none, clearAt := none })
    else s
  else if logic.all (fun k => tempAt ts k < w - 5) then
    let s := if s.mon.coolAt.isNone then setMon (fun m => { m with coolAt := some s.now }) s else s
    if elapsedSince s.mon.coolAt secUnit s then
      s |> setF MON_THERM_STATUS.WARN 0 0 |> raiseAs 0 [MON_EVT.WARN_CLEAR] 0
        |> setMon (fun m => { m with warnAt := none, coolAt := none, clearAt := some s.now })
    else s
  else setMon (fun m => { m with coolAt := none }) s

/-- Stack `k` at double refresh rate (R711). -/
def judgeStack (ts : List Int) (k : Nat) (s : State) : State :=
  let x := tempAt ts (32 + k)
  match s.mon.hot.find? (fun p => p.1 == k) with
  | none =>
    if 85 ≤ x then s |> setMon (fun m => { m with hot := m.hot ++ [(k, none)] }) |> raiseAs (hotSensor ts) [MON_EVT.STACK_HOT] 0 else s
  | some (_, since) =>
    if x < 80 then
      let a := since.getD s.now
      if a + secUnit ≤ s.now then setMon (fun m => { m with hot := m.hot.filter (fun p => p.1 != k) }) s
      else setMon (fun m => { m with hot := m.hot.map (fun p => if p.1 = k then (k, some a) else p) }) s
    else setMon (fun m => { m with hot := m.hot.map (fun p => if p.1 = k then (k, none) else p) }) s

def judgeStacks (ts : List Int) (s : State) : State :=
  let s := forEach (List.range 8) (judgeStack ts) s
  setB MON_THERM_STATUS.STACK_HOT 0 (s.mon.hot != []) s

/-- A reading that trips. -/
def tripReading (ts : List Int) : Bool :=
  (List.range 32).any (fun k => decide (112 ≤ tempAt ts k)) || ((List.range 8).map (· + 32)).any (fun k => decide (100 ≤ tempAt ts k))

/-- The thermal trip, which needs no core (R712). -/
def judgeTrip (ts : List Int) (s : State) : State :=
  if !tripReading ts then setMon (fun m => { m with tripAt := none }) s
  else if s.mon.tripAt.isNone then setMon (fun m => { m with tripAt := some s.now }) s
  else if elapsedSince s.mon.tripAt msUnit s then bootFault fcThermal 0 s
  else s

/-- The sensors update. -/
def sensors (ts : List Int) (s : State) : State :=
  let s := if inService s then s |> showTemps ts |> judgeWarn ts |> judgeStacks ts else s
  judgeTrip ts s

/-- The warning has held for 10 s (R505, R710). -/
def warnHeld (s : State) : State :=
  if getB MON_THERM_STATUS.WARN 0 s && elapsedSince s.mon.warnAt (10 * secUnit) s && !s.twin.diag.testBit diagThermal then setDiag diagThermal s
  else s

/-! ### The feed (R708) -/

/-- Voltage in 0.1 V and power in 0.1 W of the last millisecond. -/
def feed (dv dw : Nat) (s : State) : State :=
  let s := s |> setF MON_FEED.VOLT_DV 0 dv |> setF MON_FEED.POWER_DW 0 dw
             |> setF MON_FEED_MAX.POWER_MAX_DW 0 (max (getF MON_FEED_MAX.POWER_MAX_DW 0 s) dw)
  if s.mon.feedLow then (if 430 < dv then setMon (fun m => { m with feedLow := false }) s else s)
  else if dv < 420 then s |> setMon (fun m => { m with feedLow := true }) |> raiseAs 0 [MON_EVT.FEED_LOW] 0
  else s

def monMaxima : List Fld := [MON_TEMP.MAX_C, MON_FEED_MAX.POWER_MAX_DW]
def monCounters : List Fld := [MON_WARN_CNT.COUNT, MON_EVT.WARN_OVF]

/-! ### Meanings -/

/-- DOMAIN_REACHES_ON -/
def execDomainReachesOn (t d : Nat) (s : State) : Host.Outcome State Fault Refusal := .next (onService t (domainOn d) s)

/-- DOMAIN_START_FAIL -/
def execDomainStartFail (t d : Nat) (s : State) : Host.Outcome State Fault Refusal := .next (onService t (domainFails d) s)

/-- SENSOR_UPDATE: readings of sensors 0 to 39 -/
def execSensorUpdate (t : Nat) (temps : List Int) (s : State) : Host.Outcome State Fault Refusal :=
  .next (if crumhornRuns s then sensors temps (advance t s) else s)

/-- THERMAL_WARNING_HELD -/
def execThermalWarningHeld (t : Nat) (s : State) : Host.Outcome State Fault Refusal := .next (onService t warnHeld s)

/-- FEED_MEASURE: voltage in 0.1 V, power in 0.1 W -/
def execFeedMeasure (t dv dw : Nat) (s : State) : Host.Outcome State Fault Refusal := .next (onService t (feed dv dw) s)

/-- MON_CLR_MAX -/
def execMonClrMax (s : State) : Host.Outcome State Fault Refusal := .next (whenHost (clearFlds monMaxima) s)

/-- MON_CLR_CNT -/
def execMonClrCnt (s : State) : Host.Outcome State Fault Refusal := .next (whenHost (clearFlds monCounters) s)

end Sys2Proof.Machine
end

