-- ==== Sys2Proof/Machine/Twin.lean ====
section
/-! DEFINITION. The twin's commands and events (R486 to R526). -/

namespace Sys2Proof.Machine

/-- R494: Crumhorn sends BOOT barks on WATCH, one each millisecond, until the service pair first sends one. -/
def bootBarks (s : State) : State :=
  if s.twin.barked || s.dbg.tapTest || s.twin.bootAt.any (fun x => s.now < x + msUnit) then s
  else s |> setTwin (fun w => { w with bseq := (w.bseq + 1) % 2 ^ 32, bootAt := some s.now })
         |> (fun s => emit (.bark 1 (barkFrame kindBoot 1 s)) s)

/-- TWN_CTL.YIELD (R500). -/
def yieldOrder (s : State) : State :=
  if role s = roleLead && getB TWN_STATUS.TWIN_FIT 0 s && s.twin.last.sync = 2 && pathUp s && !solo s then enterRole roleYielded s
  else raise [TWN_EVT.TAKE_REFUSED] 0 s

/-- TWN_CTL.TAKE (R500). -/
def takeOrder (s : State) : State :=
  let s := updateEvidence s
  if role s = roleHeel && twinSilent s && !selectTwin s then enterRole roleLead s else raise [TWN_EVT.TAKE_REFUSED] 0 s

/-- TWN_CTL.RESYNC: a HEEL resynchronises (R514). -/
def resyncOrder (s : State) : State := if role s = roleHeel then setTwin (fun w => { w with wantResync := true }) s else s

def twnCounters : List Fld :=
  [TWN_LINK_MISS_CNT.COUNT, TWN_WATCH_MISS_CNT.COUNT, TWN_TAKEOVER_CNT.COUNT, TWN_YIELD_CNT.COUNT, TWN_DOUBLE_CLAIM_CNT.COUNT,
   TWN_SOLO_CNT.COUNT, TWN_DECIDE_LATE_CNT.COUNT, TWN_RESYNC_CNT.COUNT, TWN_SNIFF_FAIL_CNT.COUNT, TWN_CNT_FLAGS.OVF]

/-! ### Meanings -/

/-- BARK_TX: a bark period -/
def execBarkTx (t : Nat) (s : State) : Host.Outcome State Fault Refusal := .next (whenReady (onService t sendBarks) s)

/-- BOOT_BARK -/
def execBootBark (t : Nat) (s : State) : Host.Outcome State Fault Refusal :=
  .next (if crumhornRuns s then bootBarks (advance t s) else s)

/-- BARK_RX on path 0 (twin link) or 1 (WATCH) -/
def execBarkRx (t path : Nat) (bytes : List Byte) (s : State) : Host.Outcome State Fault Refusal := .next (onService t (rxBark path bytes) s)

/-- PATH_LOST -/
def execPathLost (t path : Nat) (s : State) : Host.Outcome State Fault Refusal := .next (onService t (losePath path) s)

/-- HANDSHAKE_TIMEOUT -/
def execHandshakeTimeout (t : Nat) (s : State) : Host.Outcome State Fault Refusal := .next (onService t handshakeEnd s)

/-- EVIDENCE_TIMER -/
def execEvidenceTimer (t : Nat) (s : State) : Host.Outcome State Fault Refusal := .next (onService t evidence s)

/-- CLAIM_WATCHDOG_EXPIRY -/
def execClaimWatchdogExpiry (t : Nat) (s : State) : Host.Outcome State Fault Refusal := .next (onService t watchdog s)

/-- YIELD_TIMER: 20 ms in YIELDED without a claim of the twin -/
def execYieldTimer (t : Nat) (s : State) : Host.Outcome State Fault Refusal := .next (onService t yieldEnd s)

/-- WITHDRAW_END: 200 ms after the withdrawal -/
def execWithdrawEnd (t : Nat) (s : State) : Host.Outcome State Fault Refusal := .next (onService t withdrawOver s)

/-- FIT_RESTORE_TIMER for row `k` + 1 of R505 -/
def execFitRestoreTimer (t k : Nat) (s : State) : Host.Outcome State Fault Refusal := .next (onService t (fitRestore k) s)

/-- MIRROR -/
def execMirror (t : Nat) (m : Mirror) (s : State) : Host.Outcome State Fault Refusal := .next (onService t (rxMirror m) s)

/-- MIRROR_ACK -/
def execMirrorAck (t mseq : Nat) (s : State) : Host.Outcome State Fault Refusal := .next (onService t (rxMirrorAck mseq) s)

/-- COMMIT_RPT -/
def execCommitRpt (t mseq : Nat) (applied : Bool) (s : State) : Host.Outcome State Fault Refusal :=
  .next (onService t (rxCommitRpt mseq applied) s)

/-- DECISION -/
def execDecision (t : Nat) (c : Choice) (s : State) : Host.Outcome State Fault Refusal := .next (onService t (rxDecision c) s)

/-- HEALTH -/
def execHealth (t : Nat) (record : List Byte) (s : State) : Host.Outcome State Fault Refusal := .next (onService t (rxHealth record) s)

/-- RESYNC_REQ -/
def execResyncReq (t mseq : Nat) (s : State) : Host.Outcome State Fault Refusal := .next (onService t (rxResyncReq mseq) s)

/-- RESYNC_ACK -/
def execResyncAck (t mseq : Nat) (s : State) : Host.Outcome State Fault Refusal := .next (onService t (rxResyncAck mseq) s)

/-- STATE -/
def execState (t mseq : Nat) (c : TwinCopy) (s : State) : Host.Outcome State Fault Refusal := .next (onService t (rxState mseq c) s)

/-- STATE_ACK -/
def execStateAck (t : Nat) (s : State) : Host.Outcome State Fault Refusal := .next (onService t rxStateAck s)

/-- MESSAGE_RETRANSMIT -/
def execMessageRetransmit (t : Nat) (s : State) : Host.Outcome State Fault Refusal := .next (onService t retransmit s)

/-- HEALTH_RECORD_TX -/
def execHealthRecordTx (t : Nat) (s : State) : Host.Outcome State Fault Refusal := .next (onService t sendHealth s)

/-- SNIFF_CYCLE_START: a cycle with its failing steps, the row of the store that it reads, and the words of it that it corrects -/
def execSniffCycleStart (t : Nat) (found : SniffFind) (s : State) : Host.Outcome State Fault Refusal :=
  .next (onService t (withBad found.bad (sniff found.fails found.row found.corr)) s)

/-- LEAD_FRAME_DECISION: for a reader of allocation `a` on plane `p`, or for layer `a`; `endAt`: when the frame in progress will end -/
def execLeadFrameDecision (t : Nat) (layer : Bool) (a p : Nat) (endAt : Option Nat) (s : State) : Host.Outcome State Fault Refusal :=
  .next (onService t (leadDecides layer a p endAt) s)

/-- TWN_YIELD -/
def execTwnYield (t : Nat) (s : State) : Host.Outcome State Fault Refusal := .next (onHost t yieldOrder s)

/-- TWN_TAKE -/
def execTwnTake (t : Nat) (s : State) : Host.Outcome State Fault Refusal := .next (onHost t takeOrder s)

/-- TWN_RESYNC -/
def execTwnResync (t : Nat) (s : State) : Host.Outcome State Fault Refusal := .next (onHost t resyncOrder s)

/-- TWN_FEED_BOTH -/
def execTwnFeedBoth (t : Nat) (on : Bool) (s : State) : Host.Outcome State Fault Refusal :=
  .next (onHost t (setB TWN_CTL.FEED_BOTH 0 on) s)

/-- TWN_CLR_CNT -/
def execTwnClrCnt (s : State) : Host.Outcome State Fault Refusal := .next (whenHost (clearFlds twnCounters) s)

end Sys2Proof.Machine
end

