-- ==== Sys2Proof/Machine/RegWrite.lean ====
section
/-! DEFINITION. A write of a register, field by field as its access type lays down (R13, R15, R530), and the registers whose write has
an effect of its own. -/

namespace Sys2Proof.Machine

/-- Instance of field `f` in the register at `off`. -/
def instOf (f : Fld) (off : Nat) (s : State) : Option Nat := (instAt f off s).map (·.1)

/-! ### Fields without an effect of their own (R15) -/

/-- Counters that a CLR_CNT or CLR_MAX bit of a block clears. -/
def clearTable : List (Fld × List Fld) :=
  [(HIF_CFG.CLR_CNT, hifCounters), (XPT_CFG.CLR_CNT, xptCounters), (KNL_CFG.CLR_CNT, knlCounters), (CMP_CFG.CLR_CNT, cmpCounters),
   (AUD_CFG.CLR_CNT, audCounters), (REE_CFG.CLR_CNT, reeCounters), (ETH_CFG.CLR_CNT, ethCounters), (FLW_CFG.CLR_CNT, flwCounters),
   (PIP_CFG.CLR_CNT, pipCounters), (TIM_CFG.CLR_CNT, timCounters), (TWN_CTL.CLR_CNT, twnCounters),
   (MON_THERM_CFG.CLR_CNT, monCounters), (MON_THERM_CFG.CLR_MAX, monMaxima)]

/-- Fields whose reserved encoding 0b11, written, leaves the field as it is (R210, R385). -/
def keptAtThree (f : Fld) (x : Nat) : Bool := x == 3 && (f.id == KNL_ALLOC_CTL.LOSS_ACTION.id || f.id == ETH_PORT_STEP.STEP_FLOOR.id)

/-- A value written to a field of one register. -/
def writeField (f : Fld) (i : Nat) (upper : Bool) (v : Nat) (s : State) : State :=
  let x := bits v f.lo f.width
  let old := getF f i s
  match f.acc with
  | .rw => if f.spans then setF f i (if upper then v * 2 ^ 32 + old % 2 ^ 32 else old / 2 ^ 32 * 2 ^ 32 + v) s
    else if keptAtThree f x then s else setF f i x s
  | .w1c => setF f i (old - (old &&& x)) s
  | .w1s => setF f i (old ||| x) s
  | .wo => match clearTable.find? (fun p => p.1.id == f.id) with | some p => if x != 0 then clearFlds p.2 s else s | none => s
  | .ro => s
  | .rwp => s

/-- Every field of the register at `off`; reserved bits are ignored (R13). -/
def plainWrite (off v : Nat) (s : State) : State := forEach (fieldsAt off s) (fun p s => writeField p.1 p.2.1 p.2.2 v s) s

/-! ### Registers whose write has an effect of its own, block by block -/

def writeSys (env : RegEnv) (off v : Nat) (s : State) : State :=
  if off = SYS_CTL.KEY.base then (if bit v 0 then softReset (bits v 8 8) env.cut s else s)
  else if off = SYS_IMG_BOOT.PREFER.base then storePref (setF SYS_IMG_BOOT.PREFER 0 (bits v 0 1)) s
  else if off = SYS_IMG_CTL.RB_COMMIT.base then (if bit v 0 then rbCommit s else s)
  else plainWrite off v s

def writePwr (off v : Nat) (s : State) : State :=
  if off = PWR_CTL.SLEEP.base then
    let s := plainWrite off v s
    if bit v 31 then sleepOrder (bits v 8 8) s else s
  else plainWrite off v s

/-- The lower word of a ring base: bits 11:0 read 0 (R566, R567). -/
def writeBase (f : Fld) (off v : Nat) (s : State) : State :=
  match instAt f off s with
  | some (_, upper) => plainWrite off (if upper then v else v / 4096 * 4096) s
  | none => s

/-- A BASE or CFG register of a ring that runs: the write is discarded and counted (R534, R567). -/
def whenIdle (idle : Bool) (off : Nat) (f : State → State) (s : State) : State := if idle then f s else accessErr true false off s

/-- BASE and CFG of a ring of network `n`: a write while its EN is 1 is refused, but for the one that clears EN. -/
def writeNetCfg (en size : Fld) (n off v : Nat) (s : State) : State :=
  if !getB en n s then plainWrite off v s
  else if bit v 31 || bits v 0 4 != getF size n s then accessErr true false off s
  else setF en n 0 s

/-- Ring pair and network ring registers. -/
def writeRing (env : RegEnv) (off v : Nat) (s : State) : State :=
  let r := (off - 0x210000) / 64
  let n := (off - 0x220000) / 64
  if off < 0x220000 then
    match off % 64 with
    | 0x00 => whenIdle (ringIdle r s) off (writeBase HIF_SQ_BASE.ADDR off v) s
    | 0x04 => whenIdle (ringIdle r s) off (writeBase HIF_SQ_BASE.ADDR off v) s
    | 0x08 => sqConfig r v s
    | 0x0C => sqTail r v s
    | 0x18 => whenIdle (ringIdle r s) off (writeBase HIF_CQ_BASE.ADDR off v) s
    | 0x1C => whenIdle (ringIdle r s) off (writeBase HIF_CQ_BASE.ADDR off v) s
    | 0x20 => whenIdle (ringIdle r s) off (plainWrite off v) s
    | 0x28 => cqHead r v s
    | _ => plainWrite off v s
  else
    match off % 64 with
    | 0x00 => whenIdle (!getB HIF_NET_TX_CFG.EN n s) off (writeBase HIF_NET_TX_BASE.ADDR off v) s
    | 0x04 => whenIdle (!getB HIF_NET_TX_CFG.EN n s) off (writeBase HIF_NET_TX_BASE.ADDR off v) s
    | 0x08 => writeNetCfg HIF_NET_TX_CFG.EN HIF_NET_TX_CFG.SIZE_LOG2 n off v s
    | 0x0C => netTxTail n v env.descs s
    | 0x18 => whenIdle (!getB HIF_NET_RX_CFG.EN n s) off (writeBase HIF_NET_RX_BASE.ADDR off v) s
    | 0x1C => whenIdle (!getB HIF_NET_RX_CFG.EN n s) off (writeBase HIF_NET_RX_BASE.ADDR off v) s
    | 0x20 => writeNetCfg HIF_NET_RX_CFG.EN HIF_NET_RX_CFG.SIZE_LOG2 n off v s
    | 0x24 => netRxTail n v (env.descs.map (·.1)) s
    | _ => plainWrite off v s

def writeHif (env : RegEnv) (off v : Nat) (s : State) : State :=
  if 0x210000 ≤ off && off < 0x220080 then writeRing env off v s
  else if off = HIF_EVT_STATUS.ARM.base then
    let s := writeField HIF_EVT_STATUS.UNDERRUN 0 false v s
    if bit v 31 then armEvents s else s
  else plainWrite off v s

/-- Input lane registers; those of a lane in a gated group discard writes (R54), and DEEP together with RETRAIN acts as DEEP alone (R80). -/
def writeLni (off v : Nat) (s : State) : State :=
  if 0x410000 ≤ off && off < 0x450000 then
    let n := (off - 0x410000) / 128
    if !inAssigned n s then s
    else if off % 128 = 0 then
      plainWrite off (bits v 3 29 * 8 + getF LNI_CTL.TARGET_STATE n s) s
        |> when_ (bit v 3) (lniClear n) |> orderIn n (bits v 0 2) |> when_ (bit v 2 && bits v 0 2 != 2) (retrain .inp n)
    else plainWrite off v s
  else plainWrite off v s

def writeLno (off v : Nat) (s : State) : State :=
  if 0x610000 ≤ off && off < 0x650000 then
    let n := (off - 0x610000) / 128
    if !outAssigned n s then s
    else if off % 128 = 0 then s |> when_ (bit v 3) (lnoClear n) |> orderOut n (bits v 0 2) |> when_ (bit v 2 && bits v 0 2 != 2) (retrain .out n)
    else if off % 128 = 0x14 then
      s |> setF LNO_PAY_CFG.SCR_DIS n (bits v 0 1) |> writeField LNO_PAY_CFG.TEST_REFUSED n false v |> orderTest n (bit v 1)
    else plainWrite off v s
  else plainWrite off v s

/-- Meter registers (R334 to R336, R345, R347, R348). -/
def writeRee (off v : Nat) (s : State) : State :=
  match instOf REE_PK_CFG.EN off s, instOf REE_LD_CTL.EN off s, instOf REE_LD_CH0.RING (off / 64 * 64) s with
  | some p, _, _ => s |> meterWrite (.pk p) v |> when_ (bit v 31) (pkClear p)
  | none, some q, _ =>
    plainWrite off v s |> meterWrite (.ctl q) v |> when_ (bit v 31) (ldClear q) |> when_ (bit v 30) (ldRestart q)
  | none, none, some q => if off % 64 < 0x20 then meterWrite (.ch q (off % 64 / 4)) v s else plainWrite off v s
  | none, none, none => plainWrite off v s

def writeEth (off v : Nat) (s : State) : State :=
  match instOf ETH_LP_CTL.FLUSH_CTL_TX off s with
  | some k => s |> when_ (bit v 0) (flushMediaRx k) |> when_ (bit v 1) (flushCtlRx k) |> when_ (bit v 2) (flushCtlTx k)
  | none => plainWrite off v s

/-- PIP_PULSE_CFG of output `k` as a word. -/
def pulseCfgWord (k : Nat) (s : State) : Nat :=
  2 ^ 31 * getF PIP_PULSE_CFG.EN k s + 2 ^ 30 * getF PIP_PULSE_CFG.POL k s + 2 ^ 16 * getF PIP_PULSE_CFG.WIDTH k s + getF PIP_PULSE_CFG.SRC k s

def writePip (off v : Nat) (s : State) : State :=
  match instOf PIP_REF_CFG.PRIO off s, instOf PIP_PLANE_CTL.SLEW off s, instOf PIP_PULSE_CFG.EN off s, instOf PIP_PULSE_OFFSET.OFFSET_NS off s with
  | some n, _, _, _ => refPrio n (bits v 0 3) (bit v 3) s.pst.failing s
  | none, some p, _, _ => plainWrite off v s |> when_ (bit v 31) (orderRealign p)
  | none, none, some k, _ => pulseWrite k v (getF PIP_PULSE_OFFSET.OFFSET_NS k s) s
  | none, none, none, some k => pulseWrite k (pulseCfgWord k s) v s
  | none, none, none, none =>
    if off = PIP_CTL.FORCE_EN.base then s |> setF PIP_CTL.FORCE_HOLD 0 (bits v 9 1) |> forceEn (bit v 8) (bits v 0 4)
    else plainWrite off v s

def writeTim (off v : Nat) (s : State) : State :=
  match instOf TIM_PTP_CFG.LP off s with
  | some i => ptpCfg i v s
  | none => if off = TIM_SET_CTL.APPLY.base then (if bit v 0 then timApply s else s) else plainWrite off v s

def writeTwn (off v : Nat) (s : State) : State :=
  if off = TWN_CTL.TAKE.base then
    plainWrite off v s |> when_ (bit v 2) yieldOrder |> when_ (bit v 3) takeOrder |> when_ (bit v 4) resyncOrder
  else plainWrite off v s

def writePst (off v : Nat) (s : State) : State :=
  if off = PST_LABEL_CTL.COMMIT.base then (if bit v 31 then labelCommit (bits v 0 16) s else plainWrite off v s)
  else if (instOf PST_LABEL_STAGE.WORD off s).isSome && getB PST_LABEL_CTL.BUSY 0 s then s
  else plainWrite off v s

/-- The challenge mailbox, which the test access port reaches too (R644). -/
def writeChal (off v : Nat) (s : State) : State :=
  if off = SEC_CHAL_CTL.GET.base then
    s |> setF SEC_CHAL_CTL.LEVEL 0 (bits v 28 2) |> when_ (bit v 31) chalGet |> when_ (bit v 30) (chalAnswer (bits v 28 2))
  else match instOf SEC_CHAL_DATA.WORD off s with
    | some i => setF SEC_CHAL_DATA.WORD i v s
    | none => s

def writeSec (env : RegEnv) (off v : Nat) (s : State) : State :=
  if off = SEC_REQ_CTL.GO.base then (if bit v 31 then request env.cut s else s)
  else if SEC_CHAL_CTL.GET.base ≤ off && off < SEC_CHAL_DATA.WORD.base + 96 then writeChal off v s
  else plainWrite off v s

/-- The DBG block: below level 1 only RELOCK is taken (R679); the registers of a refused unit, and the debug space of one that runs, are
REFUSED (R681, R682). -/
def writeDbg (env : RegEnv) (off v : Nat) (s : State) : State :=
  if off = DBG_CTL.RELOCK.base then
    let open_ := 1 ≤ effLevel s
    let s := if bit v 31 then relock env.burst s else s
    if bit v 30 && open_ && bits v 8 8 = 0xA5 then orderReset 2 env.cut s else s
  else if effLevel s = 0 then s
  else if off = DBG_ENG_CTL.HALT.base then engCtl v s
  else if unitRefused off s then unitRefusal s
  else if 0x2c10000 ≤ off && !unitHalted (getF DBG_ENG_SEL.UNIT 0 s) s then unitRefusal s
  else if off = DBG_MEM_CTL.GO.base then s |> memCtl v |> when_ (bit v 31) memGo
  else plainWrite off v s

def writeMon (off v : Nat) (s : State) : State :=
  if off = MON_SNAP_CTL.HOLD.base then s |> snapHold (bit v 1) |> when_ (bit v 0) snapArm else plainWrite off v s

/-- A 32-bit write of the register at `off`. -/
def regWrite (env : RegEnv) (off v : Nat) (s : State) : State :=
  if off < 0x100000 then writeSys env off v s
  else if off < 0x200000 then writePwr off v s
  else if off < 0x400000 then writeHif env off v s
  else if off < 0x600000 then writeLni off v s
  else if off < 0x800000 then writeLno off v s
  else if 0x1400000 ≤ off && off < 0x1800000 then writeRee off v s
  else if 0x1800000 ≤ off && off < 0x1c00000 then writeEth off v s
  else if 0x2000000 ≤ off && off < 0x2200000 then writePip off v s
  else if 0x2200000 ≤ off && off < 0x2400000 then writeTim off v s
  else if 0x2400000 ≤ off && off < 0x2600000 then writeTwn off v s
  else if 0x2600000 ≤ off && off < 0x2800000 then writePst off v s
  else if 0x2800000 ≤ off && off < 0x2a00000 then writeSec env off v s
  else if 0x2c00000 ≤ off && off < 0x2e00000 then writeDbg env off v s
  else if 0x2e00000 ≤ off && off < 0x3000000 then writeMon off v s
  else plainWrite off v s

/-- A 32-bit write of BAR0 by the host: refused ones are counted (R12, R44). -/
def hostWrite (env : RegEnv) (off value : Nat) (s : State) : State :=
  let v := value % 2 ^ 32
  if bar0Refused off 4 (some v) s then accessErr true false off s else regWrite env off v s

end Sys2Proof.Machine
end

