-- ==== Sys2Proof/Machine/Debug.lean ====
section
/-! DEFINITION. Register writes, the TAP and the debug module: the commands (R530, R675 to R698). -/

namespace Sys2Proof.Machine

/-! ### The end of a debug transaction (R669, R687) -/

/-- Words of the register space from `off`. -/
def wordsAt (off n : Nat) : List Nat := (List.range (n / 4)).map (fun k => off + 4 * k)

/-- What the read returns, and the state after it. -/
def memReadBytes (target off n : Nat) (s : State) : List Byte × State :=
  if target = tgRom then ((List.range n).map (fun k => Config.romByte (off + k)), s)
  else if target = tgRegs then
    (wordsAt off n).foldl (fun p o => let q := regRead o p.2; (p.1 ++ leBytes 4 q.1, q.2)) ([], s)
  else if target = tgStore then ((List.range n).map (fun k => storeByteAt (off + k) s), drawn s)
  else (memRead (target == tgKennel) off n s, drawn s)

def memWriteBytes (target off : Nat) (data : List Byte) (s : State) : State :=
  if target = tgRegs then forEach (wordsAt off data.length) (fun o s => regWrite {} o (leAt data (o - off) 4) s) s
  else memWrite (target == tgKennel) off data s

/-- Data words of DBG_MEM_DATA. -/
def setMemData (bs : List Byte) (s : State) : State :=
  forEach (List.range (bs.length / 4)) (fun w s => setF DBG_MEM_DATA.WORD w (leAt bs (4 * w) 4) s) s

/-- The transaction ends: DONE and RESP. -/
def memEnd (error : Bool) (s : State) : State :=
  s |> setDbg (fun d => { d with mem := none }) |> setF DBG_MEM_CTL.BUSY 0 0 |> setF DBG_MEM_CTL.DONE 0 1 |> setB DBG_MEM_CTL.RESP 0 error

/-- Some word of a register write is one that R43 keeps from the debug module. -/
def regsDenied (m : MemOp) (target off : Nat) (s : State) : Bool :=
  target == tgRegs && m.write && (wordsAt off m.size).any (fun o => !memAllowed true target o (leAt m.data (o - off) 4) s)

/-- The transaction runs: a forbidden one answers ERROR, discards its write and reads 0 (R669). -/
def memRun (m : MemOp) (s : State) : State :=
  let (target, off) := fabDecode (getB SYS_REMAP.REMAP 0 s) m.addr
  let beats := (m.size + 31) / 32
  let refuse (kind : Nat) (s : State) : State :=
    s |> fabLog kind maDebug target beats m.write m.addr |> when_ (!m.write) (setMemData (List.replicate m.size 0#8)) |> memEnd true
  if target = tgNone then refuse fkDecode s
  else if !memAllowed m.write target off (leAt m.data 0 4) s || regsDenied m target off s then refuse fkDenied s
  else if m.write then memEnd false (memWriteBytes target off m.data s)
  else
    let (bs, s) := memReadBytes target off m.size s
    let bad := target == tgStore && s.vault.isSome
    setMemData bs s |> when_ bad (fabLog fkTarget maDebug target beats false m.addr) |> memEnd bad

def memDone (s : State) : State := match s.dbg.mem with | some m => memRun m s | none => s

/-! ### The TAP (R675 to R678) -/

/-- The debug module and the TAP have their clocks. -/
def tapRuns (s : State) : Bool := inService s && !domDown 541 s

def whenTap (f : State → State) (s : State) : State := if tapRuns s then f s else s

/-- An instruction is loaded: EXTEST, HIGHZ and CLAMP end when another one is. -/
def loadIr (ir : Nat) (s : State) : State := setDbg (fun d => { d with ir := ir, tapTest := false }) s

/-- EXTEST, HIGHZ and CLAMP take effect (R677). -/
def testAllowed (s : State) : Bool :=
  let l := getF SEC_STATUS.LIFECYCLE 0 s
  role s != roleLead && (l == 0 || l == 3 || !evalFixed s || 1 ≤ effLevel s)

/-- EXTEST, HIGHZ or CLAMP: in force where allowed, else BYPASS with TAP_REFUSED set. -/
def tapTest (ir : Nat) (s : State) : State :=
  if testAllowed s then setDbg (fun d => { d with ir := ir, tapTest := true }) s
  else s |> loadIr 0xFF |> raiseAs 1 [DBG_EVT.TAP_REFUSED] 0

/-- A shift through the boundary-scan chain: TDO carries the cells as captured, a free value, and the cells keep what is shifted in. -/
def shiftScan (cells : Nat) (s : State) : State :=
  s |> emit (.tdo (Config.freeNat s.freeCtr)) |> drawn |> setDbg (fun d => { d with scan := cells })

/-- A shift through the 1-bit bypass register, which captures 0: TDO is TDI one bit later. -/
def shiftBypass (tdi : Nat) (s : State) : State := emit (.tdo (2 * tdi)) s

/-- Status codes of a DBG_ACCESS or DBG_CHAL result. -/
def tapOk : Nat := 0
def tapRefused : Nat := 2

/-- What Capture-DR loads after an operation. -/
def tapWord (p : Nat × Nat × Nat) : Nat := p.1 * 2 ^ 54 + p.2.1 % 2 ^ 22 * 2 ^ 32 + p.2.2 % 2 ^ 32

/-- A DBG_ACCESS operation: its status and data, and the state after it. -/
def dbgAccess (op off data : Nat) (s : State) : (Nat × Nat) × State :=
  let o := 0x2c00000 + off
  if 0x200000 ≤ off || off % 4 != 0 then ((tapRefused, 0), s)
  else if op = 2 then
    if effLevel s = 0 && !(off = 8 && bit data 31) then ((tapRefused, 0), s)
    else
      let refused := unitRefused o s || (0x10000 ≤ off && off < 0x20000 && !unitHalted (getF DBG_ENG_SEL.UNIT 0 s) s)
      ((if refused then tapRefused else tapOk, 0), regWrite {} o data s)
  else
    let q := regRead o s
    ((if unitRefused o s then tapRefused else tapOk, q.1), q.2)

/-- A DBG_CHAL operation: SEC_CHAL_CTL, SEC_CHAL_NONCE and SEC_CHAL_DATA alone. -/
def dbgChal (op off data : Nat) (s : State) : (Nat × Nat) × State :=
  let o := 0x2800500 + off
  if !(off = 0 || (0x40 ≤ off && off < 0x70) || (0x80 ≤ off && off < 0xE0)) || off % 4 != 0 then ((tapRefused, 0), s)
  else if op = 2 then ((tapOk, 0), writeChal o data s)
  else let q := regRead o s; ((tapOk, q.1), q.2)

/-- Capture-DR shows the result of the operation before; Update-DR runs the new one, unless its OP is none. -/
def tapAccess (op off data : Nat) (s : State) : State :=
  let s := s |> loadIr 0x10 |> emit (.tdo (tapWord s.dbg.access))
  if op = 1 || op = 2 then
    let q := dbgAccess op (off % 2 ^ 22) (data % 2 ^ 32) s
    setDbg (fun d => { d with access := (q.1.1, off % 2 ^ 22, q.1.2) }) q.2
  else s

def tapChal (op off data : Nat) (s : State) : State :=
  let s := s |> loadIr 0x11 |> emit (.tdo (tapWord s.dbg.chal))
  if op = 1 || op = 2 then
    let q := dbgChal op (off % 2 ^ 22) (data % 2 ^ 32) s
    setDbg (fun d => { d with chal := (q.1.1, off % 2 ^ 22, q.1.2) }) q.2
  else s

/-- A write of one DBG register by the host: at level 0 it is refused and counted (R44, R679). -/
def hostDbg (off v : Nat) (f : State → State) (s : State) : State :=
  if writeForbidden off v s then accessErr true false off s else f s

/-! ### Meanings -/

/-- REGISTER_WRITE: a 32-bit write of BAR0; the SYS block is served before READY and while HALTED too -/
def execRegisterWrite (t off value : Nat) (env : RegEnv) (s : State) : Host.Outcome State Fault Refusal :=
  .next (hideRunning (if sysBlock off then onSys t (withBad env.bad (hostWrite env off value)) s
    else onHost t (withBad env.bad (hostWrite env off value)) s))

/-- EXTEST, with the cells shifted in -/
def execExtest (t cells : Nat) (s : State) : Host.Outcome State Fault Refusal :=
  .next (whenTap (fun s =>
    let s := tapTest 0x00 (advance t s)
    if s.dbg.tapTest then shiftScan cells s else shiftBypass cells s) s)

/-- SAMPLE_PRELOAD, with the cells shifted in -/
def execSamplePreload (t cells : Nat) (s : State) : Host.Outcome State Fault Refusal :=
  .next (whenTap (fun s => shiftScan cells (loadIr 0x01 (advance t s))) s)

/-- IDCODE -/
def execIdcode (t : Nat) (s : State) : Host.Outcome State Fault Refusal :=
  .next (whenTap (fun s => emit (.tdo (idcodeVal s)) (loadIr 0x02 (advance t s))) s)

/-- HIGHZ, with what is shifted through the bypass register -/
def execHighz (t tdi : Nat) (s : State) : Host.Outcome State Fault Refusal :=
  .next (whenTap (fun s => shiftBypass tdi (tapTest 0x03 (advance t s))) s)

/-- CLAMP, with what is shifted through the bypass register -/
def execClamp (t tdi : Nat) (s : State) : Host.Outcome State Fault Refusal :=
  .next (whenTap (fun s => shiftBypass tdi (tapTest 0x04 (advance t s))) s)

/-- DBG_ACCESS -/
def execDbgAccess (t op off data : Nat) (bad : List Nat) (s : State) : Host.Outcome State Fault Refusal :=
  .next (hideRunning (whenTap (onService t (withBad bad (tapAccess op off data))) s))

/-- DBG_CHAL -/
def execDbgChal (t op off data : Nat) (bad : List Nat) (s : State) : Host.Outcome State Fault Refusal :=
  .next (whenTap (onService t (withBad bad (tapChal op off data))) s)

/-- BYPASS: code 0xFF, or a code that is no instruction, with what is shifted through -/
def execBypass (t code tdi : Nat) (s : State) : Host.Outcome State Fault Refusal :=
  .next (whenTap (fun s => if [0x00, 0x01, 0x02, 0x03, 0x04, 0x10, 0x11].contains (code % 256) then s
                           else shiftBypass tdi (loadIr (code % 256) (advance t s))) s)

/-- TRST_N low: the TAP controller alone -/
def execTrstN (t : Nat) (s : State) : Host.Outcome State Fault Refusal := .next (whenPowered (fun s => loadIr 0x02 (advance t s)) s)

/-- DBG_RELOCK, with the burst of the debug module that it cuts -/
def execDbgRelock (t : Nat) (burst : Option Burst) (s : State) : Host.Outcome State Fault Refusal := .next (onHost t (relock burst) s)

/-- DBG_MODULE_RESET with KEY -/
def execDbgModuleReset (t key : Nat) (bad : List Nat) (bursts : List (Nat × Burst)) (s : State) : Host.Outcome State Fault Refusal :=
  .next (hideRunning (onHost t (withBad bad (hostDbg 0x2c00008 (2 ^ 30) (dbgReset key bursts))) s))

/-- DBG_HALT of the selected unit -/
def execDbgHalt (t : Nat) (s : State) : Host.Outcome State Fault Refusal := .next (onHost t (hostDbg 0x2c00014 1 (engCtl 1)) s)

/-- DBG_RESUME -/
def execDbgResume (t : Nat) (s : State) : Host.Outcome State Fault Refusal := .next (onHost t (hostDbg 0x2c00014 2 (engCtl 2)) s)

/-- DBG_STEP -/
def execDbgStep (t : Nat) (s : State) : Host.Outcome State Fault Refusal := .next (onHost t (hostDbg 0x2c00014 4 (engCtl 4)) s)

/-- DBG_HALT_AT_BLOCK -/
def execDbgHaltAtBlock (t : Nat) (s : State) : Host.Outcome State Fault Refusal := .next (onHost t (hostDbg 0x2c00014 8 (engCtl 8)) s)

/-- BREAKPOINT_HIT: unit `u` reaches breakpoint `b` -/
def execBreakpointHit (t u b : Nat) (s : State) : Host.Outcome State Fault Refusal := .next (onService t (breakpoint u b) s)

/-- DBG_MEM_GO: a write of DBG_MEM_CTL with GO; `value` gives its WRITE and SIZE -/
def execDbgMemGo (t value : Nat) (s : State) : Host.Outcome State Fault Refusal :=
  .next (onHost t (hostDbg 0x2c00048 value (fun s => memGo (memCtl value s))) s)

/-- DBG_MEM_DONE -/
def execDbgMemDone (t : Nat) (bad : List Nat) (s : State) : Host.Outcome State Fault Refusal := .next (hideRunning (onService t (withBad bad memDone) s))

end Sys2Proof.Machine
end

