-- ==== Sys2Proof/Machine/Host.lean ====
section
/-! DEFINITION. The host interface's commands (R11 to R14, R529 to R557, R595). -/

namespace Sys2Proof.Machine

/-- SQ_DOORBELL -/
def execSqDoorbell (t r tail : Nat) (s : State) : Host.Outcome State Fault Refusal := .next (onHost t (sqTail r tail) s)

/-- SQ_READ_ERROR -/
def execSqReadError (t r : Nat) (burst : Option Burst) (s : State) : Host.Outcome State Fault Refusal :=
  .next (onHost t (sqReadError r burst) s)

/-- SQ_ENABLE: a write of HIF_SQ_CFG -/
def execSqEnable (t r value : Nat) (s : State) : Host.Outcome State Fault Refusal := .next (onHost t (sqConfig r value) s)

/-- CQ_HEAD_WRITE -/
def execCqHeadWrite (t r head : Nat) (s : State) : Host.Outcome State Fault Refusal := .next (onHost t (cqHead r head) s)

/-- NOP -/
def execNop (t r : Nat) (raw : List Byte) (s : State) : Host.Outcome State Fault Refusal :=
  .next (ringCmd 0x00 r raw t (fun entry s => acceptNow r entry raw [] 0 (fun _ s => s) s) s)

/-- FENCE -/
def execFence (t r : Nat) (raw : List Byte) (s : State) : Host.Outcome State Fault Refusal := .next (ringCmd 0x01 r raw t (fenceBody r raw) s)

/-- EVENT_POP -/
def execEventPop (s : State) : Host.Outcome State Fault Refusal := .next (whenHost (fun s => answerRead 0x200020 (popEvent s)) s)

/-- EVENT_ARM -/
def execEventArm (s : State) : Host.Outcome State Fault Refusal := .next (whenHost armEvents s)

/-- ACCESS_ERR_READ -/
def execAccessErrRead (s : State) : Host.Outcome State Fault Refusal := .next (whenHost (fun s => answerRead 0x20000c (readAccessErr s)) s)

/-- MSIX_COALESCE_TIMEOUT -/
def execMsixCoalesceTimeout (t r : Nat) (s : State) : Host.Outcome State Fault Refusal := .next (onService t (coalesceEnd r) s)

/-- HIF_CLR_CNT -/
def execHifClrCnt (s : State) : Host.Outcome State Fault Refusal := .next (whenHost (clearFlds hifCounters) s)

/-- HOST_PERST_N, with the burst of inbound PCIe that it cuts -/
def execHostPerstN (t : Nat) (burst : Option Burst) (s : State) : Host.Outcome State Fault Refusal :=
  .next (whenPowered (fun s => perst burst (advance t s)) s)

/-- HOST_PERST_N_DEASSERT -/
def execHostPerstNDeassert (t : Nat) (s : State) : Host.Outcome State Fault Refusal := .next (whenPowered (fun s => perstEnd (advance t s)) s)

/-- CONFIGURATION_SPACE_READY -/
def execConfigurationSpaceReady (t : Nat) (s : State) : Host.Outcome State Fault Refusal :=
  .next (whenPowered (fun s => configReady (advance t s)) s)

/-- FUNCTION_LEVEL_RESET, hot reset or loss of the link -/
def execFunctionLevelReset (t : Nat) (burst : Option Burst) (s : State) : Host.Outcome State Fault Refusal :=
  .next (onService t (fnDrop burst) s)

/-- D3HOT_ENTRY -/
def execD3hotEntry (t : Nat) (s : State) : Host.Outcome State Fault Refusal := .next (onService t enterD3 s)

/-- D0_RETURN -/
def execD0Return (t : Nat) (s : State) : Host.Outcome State Fault Refusal := .next (onService t leaveD3 s)

/-- MSIX_MASK_WRITE -/
def execMsixMaskWrite (v : Nat) (masked : Bool) (s : State) : Host.Outcome State Fault Refusal := .next (whenHost (maskVector v masked) s)

/-- BAR0_ACCESS_REFUSED: offset, size in bytes, and the value of a write -/
def execBar0AccessRefused (t off size : Nat) (write : Option Nat) (s : State) : Host.Outcome State Fault Refusal :=
  .next (whenPowered (fun s => refusedAccess off size write (advance t s)) s)

/-- BAR2_ACCESS: offset, size, and the bytes of a write -/
def execBar2Access (t off size : Nat) (write : Option (List Byte)) (s : State) : Host.Outcome State Fault Refusal :=
  .next (if s.powered && hostUp s then bar2 off size write (advance t s) else s)

/-- LATCHED_READ: a 32-bit read of BAR0 -/
def execLatchedRead (t off : Nat) (s : State) : Host.Outcome State Fault Refusal :=
  .next (whenPowered (fun s => hostRead off (advance t s)) s)

end Sys2Proof.Machine
end

