-- ==== Sys2Proof/Machine/LaneBlocks.lean ====
section
/-! DEFINITION. Lane blocks sent and received (R23 to R26, R40, R60, R61, R74, R82, R100 to R122). -/

namespace Sys2Proof.Machine

/-! ### Sending -/

/-- The samples that the embedder places in this block, by group (R289). -/
def placedOf (o : Nat) (s : State) : List (Nat × List (List Nat)) :=
  (s.aud.placed.filter (fun p => p.1 / 32 == o)).map (fun p => (p.1 % 32, p.2))

/-- A word has fallen due, and is not held for more than two blocks (R114). -/
def inHand (t : Nat) (s : State) : Bool := t ≤ s.now && s.now < t + blocksTime 2

/-- The words that output slot `o` sends in this block, each with the time at which it fell due; `cap` is the slot's positions. What is
left of a stream that has ended goes first. -/
def slotWords (o cap : Nat) (s : State) : List (Nat × Word10) × State :=
  let x := xout o s
  let old := x.tail.filter (fun p => s.now < p.1 + blocksTime 2)
  let due := old.filter (fun p => p.1 ≤ s.now)
  let cur := ((ahead o s).filter (fun w => inHand w.time s)).take (cap - due.length)
  let next := match cur.getLast? with | some w => w.num + 1 | none => x.next
  ((due ++ cur.map (fun w => (w.time, w.word))).take cap,
   setXOut o (fun x => { x with tail := due.drop cap ++ old.filter (fun p => s.now < p.1), next := next }) s)

/-- Groups of output `o` in a mode that the stream it carries has (R290). -/
def activeGroups (groups o : Nat) (s : State) : List Nat :=
  (List.range 32).filter (fun g => groups.testBit g && groupCarried o g s)

/-- Position in the output's frame of a word that falls due at module time `t`. -/
def framePos (o t : Nat) (s : State) : Nat :=
  let f := outFmt o s
  let per := framePeriod (fmtRate f)
  (t - ((planeSt (outPlane o s) s).boundary + tOut s)) % per * frameLen f / per

/-- The embedder (R25, R287, R288): a word of a packet that it writes for a RINGS group, kept off the line that follows the switching
line; blanking in place of a word of the source's packet of a RINGS or MUTE group; any other word unchanged. The groups' packets have
delay fields 0, and follow the frame of the five-frame sequence that the plane's count gives. -/
def embedWord (rings mute : List Nat) (o : Nat) (ws : List Word10) (k : Nat) (w : Nat × Word10) (s : State) : Word10 :=
  let f := outFmt o s
  let pos := framePos o w.1 s
  let frame := getF PIP_PLANE_COUNT.COUNT (outPlane o s) s % 5
  let gen := if rings = [] || pos / lineLen f = 7 then none else Config.audioWord f frame pos ((placedOf o s).filter (fun p => rings.contains p.1))
  match gen, Config.audioGroup ws k with
  | some v, _ => v
  | none, some g => if (rings ++ mute).contains g then Config.blankWord f pos else w.2
  | none, none => w.2

/-- The embedder over a slot's words of a block. Without video nothing is embedded (R289). -/
def embedWords (o : Nat) (ws : List (Nat × Word10)) (s : State) : List Word10 :=
  let plain := ws.map (·.2)
  let rings := activeGroups (getF AUD_OUT_RINGS.GROUPS o s) o s
  let mute := activeGroups (getF AUD_OUT_MUTE.GROUPS o s) o s
  if noVideo o s || (rings == [] && mute == []) then plain
  else ((List.range ws.length).zip ws).map (fun p => embedWord rings mute o plain p.1 p.2 s)

/-- The words of a slot in this block, embedded and clipped (R113). -/
def slotBlock (o cap : Nat) (s : State) : List Word10 × State :=
  let (ws, s) := slotWords o cap s
  ((embedWords o ws s).map clipWord, s)

/-- The words of the slots of lane `n`, which has `k`, from slot `j` on. -/
def slotBlocks (n k : Nat) : List Nat → State → List (List Word10) × State
  | [], s => ([], s)
  | j :: js, s =>
    let (ws, s) := slotBlock (8 * n + j) (blockWords / k) s
    let (rest, s) := slotBlocks n k js s
    (ws :: rest, s)

/-- The slot carries a stream: its path gives one (R118, R191). -/
def carries (o : Nat) (s : State) : Bool :=
  let m := outMode o s
  match pathReader o (outSrc o s) m s with
  | some (a, p) => (reader a p s).frame.isSome
  | none => m == mHead || ((m == mDirect || m == mFree) && inWin (srcIndex (outSrc o s)) s != wNoSig)

/-- The cadence description of output slot `o` (R118, R119). A stream of no known format is described as its input's sender
describes it (log entry 10). -/
def describe (o : Nat) (s : State) : Nat :=
  let sw := b2n (xout o s).sw
  if !carries o s then sw
  else
    let f := outFmt o s
    if fmtValid f then 16 + 8 * b2n (rate1001 (fmtRate f)) + 2 * slotRate f + sw
    else if srcKind (outSrc o s) = kindInput then
      let i := srcIndex (outSrc o s)
      16 + bits (getF (cadFld (i % 8)) (i / 8) s) 1 3 * 2 + sw
    else 16 + sw

/-- One block of output lane `n` (R100 to R105, R115 to R121): the payload before and after scrambling is built from the slots,
or is 1020 bytes of 0 in a TEST block. -/
def sendBlock (n : Nat) (s : State) : State :=
  let seq := s.lane.blockCtr % 16
  let mode := getF LNO_PAY_CFG.SLOT_MODE n s
  let k := slotsOf mode
  let test := getB LNO_PAY_CFG.TEST n s
  let (slots, s) := slotBlocks n k (List.range k) s
  let plain := if test then zeroPayload else packWords (interleave k slots)
  let payload := if getB LNO_PAY_CFG.SCR_DIS n s then plain else scramble seq plain
  let o := 8 * n + seq % k
  let b1 := (if test then typeTest else typePayload) * 16 + seq
  let b2 := 128 * getF TWN_STATUS.CLAIM 0 s + 32 * mode + describe o s
  let crc := laneCrc (outLane n s).prevPayload (BitVec.ofNat 8 b1) (BitVec.ofNat 8 b2)
  let s := s |> emit (.laneBlock n b1 b2 crc.toNat payload) |> setXOut o (fun x => { x with sw := false })
             |> setOut n (fun l => { l with prevPayload := payload })
             |> bump64 LNO_BLOCKS.COUNT LNO_CNT_FLAGS.BLOCKS_WRAP n 1
  if !test && slots.all (fun w => w == []) then bump64 LNO_FILL_BLOCKS.COUNT LNO_CNT_FLAGS.FILL_WRAP n 1 s else s

/-- Every ACTIVE output lane of the backplane starts its next block on one edge, and lanes that have finished training send their first
block at it (R60, R66). While the module has withdrawn its lanes none sends, nor becomes ACTIVE (R506). -/
def sendBlocks (s : State) : State :=
  let away := getB TWN_STATUS.WITHDRAWN 0 s
  let done := (s.lane.out.filter (fun p => p.2.phase == .ready && (isTwinLane p.1 || !away))).map (·.1)
  let s := forEach done outActive s
  let ls := (indicesWhere LNO_STATUS.STATE (· == stActive) s).filter (fun n => n < 2048)
  let s := forEach (if away then [] else ls) sendBlock s
  { s with lane := { s.lane with blockCtr := s.lane.blockCtr + 1 } }

/-! ### Receiving: symbols (R82, R101) -/

def comma : Byte := 0xBC#8

/-- The byte a symbol at positions 1 to 1023 decodes as. -/
def symByte : Sym → Byte
  | .d b => b
  | _ => 0#8

/-- Counted in CODE_ERR: not in the code table, or a control character where data belongs (log entry 10). -/
def isCodeErr (first : Bool) : Sym → Bool
  | .bad => true
  | .k _ => !first
  | _ => false

def isDispErr : Sym → Bool
  | .disp _ => true
  | _ => false

def symErr (x : Sym) : Bool := isCodeErr false x || isDispErr x

/-- Positions at which K28.5 stands. -/
def commas (syms : List Sym) : List Nat :=
  ((List.range syms.length).zip syms).filterMap (fun p => match p.2 with | .k c => if c = comma then some p.1 else none | _ => none)

/-- The block is counted, and so are its symbol errors. -/
def countSymbols (n : Nat) (syms : List Sym) (s : State) : State :=
  if isTwinLane n then s
  else
    let code := ((syms.take 1).filter (isCodeErr true)).length + ((syms.drop 1).filter (isCodeErr false)).length
    s |> bump64 LNI_BLOCKS.COUNT LNI_CNT_FLAGS.BLOCKS_WRAP n 1
      |> bump32By LNI_CODE_ERR.COUNT LNI_CNT_FLAGS.CODE_OVF n code
      |> bump32By LNI_DISP_ERR.COUNT LNI_CNT_FLAGS.DISP_OVF n (syms.filter isDispErr).length

/-! ### Equaliser (R74) -/

/-- One update of the equaliser, or none. A symbol of wrong disparity counts as a code violation as one outside the code table does
(log entry 10). -/
def adapt (n : Nat) (syms : List Sym) (transitions : Nat) (s : State) : State :=
  if isTwinLane n then s
  else if getB LNI_ADAPT_CFG.ADAPT_EN n s && !(syms.drop 1).any symErr && !(syms.take 1).any (fun x => isCodeErr true x || isDispErr x)
      && min 10240 (getF LNI_ADAPT_CFG.DENSITY_MIN n s) ≤ transitions then
    s |> newEqualiser n |> setF LNI_STATUS.ADAPT_FROZEN n 0
  else s |> setF LNI_STATUS.ADAPT_FROZEN n 1 |> bump32 LNI_GATED_CNT.COUNT LNI_CNT_FLAGS.GATED_OVF n

/-! ### Alignment (R61) -/

/-- A position is adopted as symbol 0. -/
def adopt (n : Nat) (s : State) : State :=
  let s := if isTwinLane n then s else bump32 LNI_REALIGN_CNT.COUNT LNI_CNT_FLAGS.REALIGN_OVF n s
  s |> raiseLane [LNI_EVT.REALIGN] n |> setF LNI_STATUS.ALIGNED n 1
    |> setIn n (fun l => { l with searching := false, missed := 0, seenPos := [], fresh := true, noRef := true })

/-- Loss of alignment is declared; a position already seen twice is adopted at once. -/
def loseAlign (n : Nat) (seen twice : List Nat) (s : State) : State :=
  let s := s |> payLoss n |> setF LNI_STATUS.ALIGNED n 0
             |> setIn n (fun l => { l with searching := true, searchAt := s.now, missed := 0, seenPos := seen, fresh := true, noRef := true })
  if twice = [] then s else adopt n s

/-- Alignment over one block period; the answer says whether the period is a block. -/
def align (n : Nat) (syms : List Sym) (s : State) : Bool × State :=
  let l := inLane n s
  let pos := commas syms
  let twice := pos.filter (fun p => l.seenPos.contains p && (l.searching || p != 0))
  if l.searching then (false, if twice = [] then setIn n (fun l => { l with seenPos := pos }) s else adopt n s)
  else
    let missed := if pos.contains 0 then 0 else l.missed + 1
    if twice != [] || 4 ≤ missed then (false, loseAlign n pos twice s)
    else (true, setIn n (fun l => { l with missed := missed, seenPos := pos.filter (· != 0) }) s)

/-! ### Header (R105 to R108) -/

/-- Rows of R108, with what R106 decides. -/
inductive Verdict where
  | noComma | header | crc (accepted : Bool) | mode | seqOnly | valid
  deriving DecidableEq, Repr

/-- Fields of bytes 1 to 3. -/
def hType (bs : List Byte) : Nat := byteAt bs 1 / 16
def hSeq (bs : List Byte) : Nat := byteAt bs 1 % 16
def hSide (bs : List Byte) : Bool := bit (byteAt bs 2) 7
def hMode (bs : List Byte) : Nat := bits (byteAt bs 2) 5 2
def hCad (bs : List Byte) : Nat := bits (byteAt bs 2) 0 5

def typeOk (n : Nat) (bs : List Byte) : Bool :=
  if isTwinLane n then hType bs == 0x3 || hType bs == 0xC else hType bs == typePayload || hType bs == typeTest

/-- Condition 6, and on the twin link the bits that stand in its place (R489). -/
def modeOk (n : Nat) (bs : List Byte) (s : State) : Bool :=
  if isTwinLane n then byteAt bs 2 % 128 == 16 * (n - twinLane0) else hMode bs == getF LNI_PAY_CFG.SLOT_MODE n s

def judge (n : Nat) (syms : List Sym) (s : State) : Verdict :=
  let l := inLane n s
  let bs := syms.map symByte
  let seqOk := l.noRef || hSeq bs == (l.prevSeq + 1) % 16
  if !(commas syms).contains 0 then .noComma
  else if ((syms.drop 1).take 3).any symErr || !typeOk n bs then .header
  else if !l.fresh && (laneCrc l.prevPayload (bs.getD 1 0#8) (bs.getD 2 0#8) != bs.getD 3 0#8) then
    .crc (hType bs == l.prevType && !l.noRef && hSeq bs == (l.prevSeq + 1) % 16 && modeOk n bs s)
  else if !modeOk n bs s then .mode
  else if !seqOk then .seqOnly
  else .valid

def Verdict.isValid : Verdict → Bool
  | .valid => true
  | _ => false

/-- The payload is delivered, as far as the lane delivers (R108). -/
def Verdict.delivers : Verdict → Bool
  | .valid => true
  | .seqOnly => true
  | .crc a => a
  | _ => false

/-- The counters of R108. -/
def countVerdict (n : Nat) (v : Verdict) (s : State) : State :=
  if isTwinLane n then s
  else match v with
    | .header => bump32 LNI_HDR_ERR.COUNT LNI_PAY_FLAGS.HDR_OVF n s
    | .crc _ => bump32 LNI_CRC_ERR.COUNT LNI_CNT_FLAGS.CRC_OVF n s
    | .mode => s |> bump32 LNI_MODE_ERR.COUNT LNI_PAY_FLAGS.MODE_OVF n |> raise [LNI_PAY_EVT.MODE_ERR] n
    | .seqOnly => bump32 LNI_SEQ_ERR.COUNT LNI_PAY_FLAGS.SEQ_OVF n s
    | _ => s

/-- What later blocks are compared with. A block whose SEQ is not accepted still takes a place in the count (log entry 10). -/
def noteHeader (n : Nat) (bs : List Byte) (v : Verdict) (s : State) : State :=
  let s := setIn n (fun l => { l with
    fresh := false, prevPayload := bs.drop 4, noRef := l.noRef && !v.delivers,
    prevType := if v.delivers then hType bs else l.prevType,
    prevSeq := if v.delivers then hSeq bs else (l.prevSeq + 1) % 16 }) s
  if v.delivers && !isTwinLane n then s |> setF LNI_PAY_STATUS.TYPE_LAST n (hType bs) |> setF LNI_PAY_STATUS.SEQ_LAST n (hSeq bs) else s

/-! ### SIDE and CADENCE (R118 to R122) -/

def recordSide (n : Nat) (side : Bool) (s : State) : State :=
  if !outAssigned n s then s
  else
    let changed := (inLane n s).sideSeen && getB LNI_PAY_STATUS.SIDE_A n s != side
    let s := s |> setB LNI_PAY_STATUS.SIDE_A n side |> setIn n (fun l => { l with sideSeen := true })
    if changed then raise [LNI_PAY_EVT.SIDE_CHANGE] n s else s

def recordCadence (n seq cad : Nat) (s : State) : State :=
  let k := seq % inSlots n s
  let s := setF (cadFld k) n cad s
  let s := if rateAllowed (bits cad 1 2) (getF LNI_PAY_CFG.SLOT_MODE n s) then s
    else s |> bump32 LNI_MODE_ERR.COUNT LNI_PAY_FLAGS.MODE_OVF n |> raise [LNI_PAY_EVT.MODE_ERR] n
  if getB LNI_PAY_STATUS.PAY_LOSS n s then s
  else if bit cad 4 then slotGain (8 * n + k) s else slotLoss (8 * n + k) s

/-! ### Valid blocks (R109) -/

/-- Runs of valid and of other blocks; the answer says whether this block's payload may be delivered. The second valid block ends a loss
and is delivered (R109; log entry 56). -/
def runs (n : Nat) (v : Verdict) (s : State) : Bool × State :=
  let loss := getB LNI_PAY_STATUS.PAY_LOSS n s
  let s := setIn n (fun l => { l with validRun := if v.isValid then l.validRun + 1 else 0,
                                      invalidRun := if v.isValid then 0 else l.invalidRun + 1 }) s
  if isTwinLane n then (false, s)
  else if loss then (if 2 ≤ (inLane n s).validRun then (true, payRestore n s) else (false, s))
  else if 8 ≤ (inLane n s).invalidRun then (false, payLoss n s)
  else (true, s)

/-! ### Delivery (R110 to R117, R136) -/

/-- Words that a slot's share of the elastic buffer holds. -/
def bufferWords (n : Nat) : Nat := 24 * 1024 * 8 / 10 / n

/-- The words of an input slot go to its elastic buffer, and alike to its write channel and measurement (R23). -/
def deliverSlot (i : Nat) (ws : List Word10) (s : State) : State :=
  let cap := bufferWords (inSlots (i / 8) s)
  { s with lane := { s.lane with rx := mmod {} s.lane.rx i (fun x => x.arrive cap s.now ws) } }
    |> setXIn i (fun x => { x with seen := x.seen ++ ws })

def isIllegal (w : Word10) : Bool := clipWord w != w

/-- Data words of slot `k` are clipped and counted, and delivered. -/
def deliverWords (n : Nat) (ws : List Word10) (s : State) : State :=
  let m := inSlots n s
  forEach (List.range m) (fun k s =>
    let xs := (slotWordsOf m k ws).filter (fun w => w != fillWord)
    s |> bump32By LNI_ILLEGAL_WORD.COUNT LNI_PAY_FLAGS.ILLEGAL_OVF n (xs.filter isIllegal).length
      |> deliverSlot (8 * n + k) (xs.map clipWord)) s

/-- An ancillary packet, read from the words the slot has delivered, goes to the slot's kennel write channels and to its de-embedder
(R23, R180, R286). -/
def deliverAnc (n : Nat) (a : Anc) (s : State) : State :=
  if inSlots n s ≤ a.slot then s
  else
    let i := 8 * n + a.slot
    let ws := runWords a.words (xin i s).seen
    let s := forEach (allocsOf i s) (fun x s => storePacket x a.second ws s) s
    match a.audio with
    | some x => audioPacket i x ws s
    | none => s

def deliver (n : Nat) (bs : List Byte) (anc : List Anc) (s : State) : State :=
  let payload := bs.drop 4
  let plain := if getB LNI_PAY_CFG.SCR_DIS n s then payload else scramble (hSeq bs) payload
  s |> deliverWords n (unpackWords plain) |> forEach anc (deliverAnc n)

/-- A TEST block is checked after descrambling, also while the lane delivers no words (R117). -/
def checkTest (n : Nat) (bs : List Byte) (s : State) : State :=
  let payload := bs.drop 4
  let plain := if getB LNI_PAY_CFG.SCR_DIS n s then payload else scramble (hSeq bs) payload
  bump32By LNI_TEST_ERR.COUNT LNI_PAY_FLAGS.TEST_OVF n (plain.filter (fun b => b != 0#8)).length s

/-! ### A block period of an input lane -/

def receiveBlock (n : Nat) (syms : List Sym) (anc : List Anc) (s : State) : State :=
  let bs := syms.map symByte
  let v := judge n syms s
  let s := s |> countVerdict n v |> noteHeader n bs v
  let (may, s) := runs n v s
  let s := if v.isValid && !isTwinLane n then s |> recordSide n (hSide bs) |> recordCadence n (hSeq bs) (hCad bs) else s
  if !v.delivers || isTwinLane n then s
  else if hType bs = typeTest then checkTest n bs s
  else if may then deliver n bs anc s
  else s

/-- The symbols are those of a lane block: K28.5 followed by a symbol other than the training marker (R66). -/
def blockBegins (syms : List Sym) : Bool := syms.head? == some (.k comma) && syms[1]? != some (.k trainMark)

/-- A block period of input lane `n`. The period counts as a block received also while alignment is searched (log entry 10). -/
def laneBlockIn (n : Nat) (syms : List Sym) (transitions : Nat) (anc : List Anc) (s : State) : State :=
  let s := if inAssigned n s && (inLane n s).phase == .ready && blockBegins syms then inActive n s else s
  if !inAssigned n s || inState n s != stActive || syms.length != 1024 then s
  else
    let s := s |> countSymbols n syms |> adapt n syms transitions
    let (block, s) := align n syms s
    if block then receiveBlock n syms anc s else s

/-! ### Meanings -/

/-- LANE_BLOCK_TX -/
def execLaneBlockTx (t : Nat) (s : State) : Host.Outcome State Fault Refusal :=
  .next (onService t (fun s => sendBlocks s) s)

/-- LANE_BLOCK_RX -/
def execLaneBlockRx (t n : Nat) (syms : List Sym) (transitions : Nat) (anc : List Anc) (s : State) : Host.Outcome State Fault Refusal :=
  .next (onService t (laneBlockIn n syms transitions anc) s)

end Sys2Proof.Machine
end

