-- ==== Sys2Proof/Machine/Dispatch.lean ====
section
/-! DEFINITION. exec: the effect of one command or event on everything but the queue, one arm a row of the table. -/

namespace Sys2Proof.Machine

def exec (i : Instr) (s : State) : Host.Outcome State Fault Refusal :=
  match i with
  | .powerGoodRise t sideB cold removed => Sys2Proof.Machine.execPowerGoodRise t sideB cold removed s
  | .powerGoodFall t => Sys2Proof.Machine.execPowerGoodFall t s
  | .bringupStepEnd t f bad => Sys2Proof.Machine.execBringupStepEnd t f bad s
  | .bringupStepTimeout t code unit bad => Sys2Proof.Machine.execBringupStepTimeout t code unit bad s
  | .coldHoldRelease t => Sys2Proof.Machine.execColdHoldRelease t s
  | .electronicFuseOpen t => Sys2Proof.Machine.execElectronicFuseOpen t s
  | .softReset t key bad bursts => Sys2Proof.Machine.execSoftReset t key bad bursts s
  | .moduleResetProceed t bad bursts => Sys2Proof.Machine.execModuleResetProceed t bad bursts s
  | .hostPerstN t burst => Sys2Proof.Machine.execHostPerstN t burst s
  | .functionLevelReset t burst => Sys2Proof.Machine.execFunctionLevelReset t burst s
  | .d3hotEntry t => Sys2Proof.Machine.execD3hotEntry t s
  | .d0Return t => Sys2Proof.Machine.execD0Return t s
  | .sleep t key bad => Sys2Proof.Machine.execSleep t key bad s
  | .sleepWake t cause => Sys2Proof.Machine.execSleepWake t cause s
  | .imageBootLoad t bad => Sys2Proof.Machine.execImageBootLoad t bad s
  | .imageReset t bad pulses => Sys2Proof.Machine.execImageReset t bad pulses s
  | .signalDetectRise t n => Sys2Proof.Machine.execSignalDetectRise t n s
  | .signalDetectFall t n => Sys2Proof.Machine.execSignalDetectFall t n s
  | .trainingSetRx t n body inverted spaced eqOk request => Sys2Proof.Machine.execTrainingSetRx t n body inverted spaced eqOk request s
  | .trainingAttemptTimeout t dir n => Sys2Proof.Machine.execTrainingAttemptTimeout t dir n s
  | .backoffExpire t dir n => Sys2Proof.Machine.execBackoffExpire t dir n s
  | .quietProbeTimer t dir n => Sys2Proof.Machine.execQuietProbeTimer t dir n s
  | .oneWayTrainTimer t n => Sys2Proof.Machine.execOneWayTrainTimer t n s
  | .laneBlockTx t => Sys2Proof.Machine.execLaneBlockTx t s
  | .laneBlockRx t n syms transitions anc => Sys2Proof.Machine.execLaneBlockRx t n syms transitions anc s
  | .alignmentTimeout t n => Sys2Proof.Machine.execAlignmentTimeout t n s
  | .cdrLockLoss t n => Sys2Proof.Machine.execCdrLockLoss t n s
  | .fastRetrainTimeout t dir n => Sys2Proof.Machine.execFastRetrainTimeout t dir n s
  | .idleLimitExpire t n => Sys2Proof.Machine.execIdleLimitExpire t n s
  | .lniTargetState t n target => Sys2Proof.Machine.execLniTargetState t n target s
  | .lniRetrain t n => Sys2Proof.Machine.execLniRetrain t n s
  | .lniClrCnt n => Sys2Proof.Machine.execLniClrCnt n s
  | .lnoTargetState t n target => Sys2Proof.Machine.execLnoTargetState t n target s
  | .lnoRetrain t n => Sys2Proof.Machine.execLnoRetrain t n s
  | .lnoClrCnt n => Sys2Proof.Machine.execLnoClrCnt n s
  | .lnoTest n on => Sys2Proof.Machine.execLnoTest n on s
  | .inputFrameEnd t k fr => Sys2Proof.Machine.execInputFrameEnd t k fr s
  | .measurementHoldExpire t k hold => Sys2Proof.Machine.execMeasurementHoldExpire t k hold s
  | .flowWriterTimeout t a => Sys2Proof.Machine.execFlowWriterTimeout t a s
  | .kennelReaderChoice t a p => Sys2Proof.Machine.execKennelReaderChoice t a p s
  | .armDeadline t o => Sys2Proof.Machine.execArmDeadline t o s
  | .switchingPoint t o bad => Sys2Proof.Machine.execSwitchingPoint t o bad s
  | .windowExit t k => Sys2Proof.Machine.execWindowExit t k s
  | .nofmtTimeout t k => Sys2Proof.Machine.execNofmtTimeout t k s
  | .take t r raw => Sys2Proof.Machine.execTake t r raw s
  | .salvo t r raw list => Sys2Proof.Machine.execSalvo t r raw list s
  | .xptClrCnt => Sys2Proof.Machine.execXptClrCnt s
  | .freeze t r raw => Sys2Proof.Machine.execFreeze t r raw s
  | .unfreeze t r raw => Sys2Proof.Machine.execUnfreeze t r raw s
  | .capture t r raw => Sys2Proof.Machine.execCapture t r raw s
  | .captureDone t uid => Sys2Proof.Machine.execCaptureDone t uid s
  | .stillSelect t r raw => Sys2Proof.Machine.execStillSelect t r raw s
  | .knlClrCnt => Sys2Proof.Machine.execKnlClrCnt s
  | .headFrameBoundary t e bad => Sys2Proof.Machine.execHeadFrameBoundary t e bad s
  | .cmpShadow t r raw list => Sys2Proof.Machine.execCmpShadow t r raw list s
  | .cmpCommit t r raw => Sys2Proof.Machine.execCmpCommit t r raw s
  | .cmpClrCnt => Sys2Proof.Machine.execCmpClrCnt s
  | .bundleLoad t r raw list => Sys2Proof.Machine.execBundleLoad t r raw list s
  | .bundleInForce t uid bad => Sys2Proof.Machine.execBundleInForce t uid bad s
  | .shofarReq t r raw list => Sys2Proof.Machine.execShofarReq t r raw list s
  | .shofarReqChecked t uid bad => Sys2Proof.Machine.execShofarReqChecked t uid bad s
  | .alarmLoopSample t x ohms => Sys2Proof.Machine.execAlarmLoopSample t x ohms s
  | .alarmLoopGapTimeout t x => Sys2Proof.Machine.execAlarmLoopGapTimeout t x s
  | .contactDebounceDone t x bad => Sys2Proof.Machine.execContactDebounceDone t x bad s
  | .contactRestoreExpire t k bad => Sys2Proof.Machine.execContactRestoreExpire t k bad s
  | .audioBlockBoundary t => Sys2Proof.Machine.execAudioBlockBoundary t s
  | .audMap t r raw list => Sys2Proof.Machine.execAudMap t r raw list s
  | .audClrCnt => Sys2Proof.Machine.execAudClrCnt s
  | .reedNop e => Sys2Proof.Machine.execReedNop e s
  | .reedEnd e => Sys2Proof.Machine.execReedEnd e s
  | .setx e => Sys2Proof.Machine.execSetx e s
  | .addx e => Sys2Proof.Machine.execAddx e s
  | .loop e => Sys2Proof.Machine.execLoop e s
  | .ldi e => Sys2Proof.Machine.execLdi e s
  | .sto e => Sys2Proof.Machine.execSto e s
  | .lds e => Sys2Proof.Machine.execLds e s
  | .sts e => Sys2Proof.Machine.execSts e s
  | .lda e => Sys2Proof.Machine.execLda e s
  | .sta e => Sys2Proof.Machine.execSta e s
  | .clr e => Sys2Proof.Machine.execClr e s
  | .mul e => Sys2Proof.Machine.execMul e s
  | .mac e => Sys2Proof.Machine.execMac e s
  | .msu e => Sys2Proof.Machine.execMsu e s
  | .macr e => Sys2Proof.Machine.execMacr e s
  | .macv e => Sys2Proof.Machine.execMacv e s
  | .biq e => Sys2Proof.Machine.execBiq e s
  | .tlu e => Sys2Proof.Machine.execTlu e s
  | .valu e => Sys2Proof.Machine.execValu e s
  | .reeWrite t r raw list => Sys2Proof.Machine.execReeWrite t r raw list s
  | .reeClrCnt => Sys2Proof.Machine.execReeClrCnt s
  | .pkClrMax p => Sys2Proof.Machine.execPkClrMax p s
  | .ldClrMax q => Sys2Proof.Machine.execLdClrMax q s
  | .ldResetInt q => Sys2Proof.Machine.execLdResetInt q s
  | .meterConfigWrite reg value => Sys2Proof.Machine.execMeterConfigWrite reg value s
  | .macFrameRx t k frame began fifo corr uncorr => Sys2Proof.Machine.execMacFrameRx t k frame began fifo corr uncorr s
  | .pauseTakeEffect t k => Sys2Proof.Machine.execPauseTakeEffect t k s
  | .pauseTimerExpire t k => Sys2Proof.Machine.execPauseTimerExpire t k s
  | .macFrameTx t k => Sys2Proof.Machine.execMacFrameTx t k s
  | .linkUp t k remote => Sys2Proof.Machine.execLinkUp t k remote s
  | .linkDown t k loc => Sys2Proof.Machine.execLinkDown t k loc s
  | .ethStepWindow t p => Sys2Proof.Machine.execEthStepWindow t p s
  | .ethPortIdleTimeout t p => Sys2Proof.Machine.execEthPortIdleTimeout t p s
  | .flushMediaRx t k => Sys2Proof.Machine.execFlushMediaRx t k s
  | .flushCtlRx t k => Sys2Proof.Machine.execFlushCtlRx t k s
  | .flushCtlTx t k => Sys2Proof.Machine.execFlushCtlTx t k s
  | .flushDone t k q => Sys2Proof.Machine.execFlushDone t k q s
  | .ethClrCnt => Sys2Proof.Machine.execEthClrCnt s
  | .snapArm => Sys2Proof.Machine.execSnapArm s
  | .snapHold on => Sys2Proof.Machine.execSnapHold on s
  | .snapshotBoundary t => Sys2Proof.Machine.execSnapshotBoundary t s
  | .snapshotCopyDone t => Sys2Proof.Machine.execSnapshotCopyDone t s
  | .flowPacketRx t k pl => Sys2Proof.Machine.execFlowPacketRx t k pl s
  | .positionLost t c => Sys2Proof.Machine.execPositionLost t c s
  | .pathDownTimeout t c b => Sys2Proof.Machine.execPathDownTimeout t c b s
  | .flowVideoPacketTx t c => Sys2Proof.Machine.execFlowVideoPacketTx t c s
  | .flowAncPacketTx t c line offset => Sys2Proof.Machine.execFlowAncPacketTx t c line offset s
  | .flowAudioPacketTx t c => Sys2Proof.Machine.execFlowAudioPacketTx t c s
  | .opaqueRelayTx t c => Sys2Proof.Machine.execOpaqueRelayTx t c s
  | .flwCtx t r raw list => Sys2Proof.Machine.execFlwCtx t r raw list s
  | .flwRxRecordCommit t => Sys2Proof.Machine.execFlwRxRecordCommit t s
  | .flwClrCnt => Sys2Proof.Machine.execFlwClrCnt s
  | .refActivityLoss t n => Sys2Proof.Machine.execRefActivityLoss t n s
  | .refWindowUpdate t n m => Sys2Proof.Machine.execRefWindowUpdate t n m s
  | .refWtrExpire t n => Sys2Proof.Machine.execRefWtrExpire t n s
  | .transitionMeasureEnd t => Sys2Proof.Machine.execTransitionMeasureEnd t s
  | .pipForceEn t en ref => Sys2Proof.Machine.execPipForceEn t en ref s
  | .pipForceHold t on => Sys2Proof.Machine.execPipForceHold t on s
  | .refPrioWrite t n prio lockout bad => Sys2Proof.Machine.execRefPrioWrite t n prio lockout bad s
  | .pipClrCnt => Sys2Proof.Machine.execPipClrCnt s
  | .planeFrameBoundary t p pulse => Sys2Proof.Machine.execPlaneFrameBoundary t p pulse s
  | .hardRealign t p => Sys2Proof.Machine.execHardRealign t p s
  | .pulseEvent t k src => Sys2Proof.Machine.execPulseEvent t k src s
  | .pulseConfigWrite t k cfg offset => Sys2Proof.Machine.execPulseConfigWrite t k cfg offset s
  | .timeServoUpdate t theta => Sys2Proof.Machine.execTimeServoUpdate t theta s
  | .localTimeSecond t => Sys2Proof.Machine.execLocalTimeSecond t s
  | .timSetApply t => Sys2Proof.Machine.execTimSetApply t s
  | .timClrCnt => Sys2Proof.Machine.execTimClrCnt s
  | .ptpCfgWrite t k value => Sys2Proof.Machine.execPtpCfgWrite t k value s
  | .ptpMessageRx t k domain src msg => Sys2Proof.Machine.execPtpMessageRx t k domain src msg s
  | .announceTimeout t k => Sys2Proof.Machine.execAnnounceTimeout t k s
  | .barkTx t => Sys2Proof.Machine.execBarkTx t s
  | .bootBark t => Sys2Proof.Machine.execBootBark t s
  | .barkRx t path bytes => Sys2Proof.Machine.execBarkRx t path bytes s
  | .pathLost t path => Sys2Proof.Machine.execPathLost t path s
  | .handshakeTimeout t => Sys2Proof.Machine.execHandshakeTimeout t s
  | .evidenceTimer t => Sys2Proof.Machine.execEvidenceTimer t s
  | .claimWatchdogExpiry t => Sys2Proof.Machine.execClaimWatchdogExpiry t s
  | .yieldTimer t => Sys2Proof.Machine.execYieldTimer t s
  | .withdrawEnd t => Sys2Proof.Machine.execWithdrawEnd t s
  | .lockstepMismatch t p burst => Sys2Proof.Machine.execLockstepMismatch t p burst s
  | .fitRestoreTimer t k => Sys2Proof.Machine.execFitRestoreTimer t k s
  | .mirror t m => Sys2Proof.Machine.execMirror t m s
  | .mirrorAck t mseq => Sys2Proof.Machine.execMirrorAck t mseq s
  | .commitRpt t mseq applied => Sys2Proof.Machine.execCommitRpt t mseq applied s
  | .decision t c => Sys2Proof.Machine.execDecision t c s
  | .health t record => Sys2Proof.Machine.execHealth t record s
  | .resyncReq t mseq => Sys2Proof.Machine.execResyncReq t mseq s
  | .resyncAck t mseq => Sys2Proof.Machine.execResyncAck t mseq s
  | .state t mseq c => Sys2Proof.Machine.execState t mseq c s
  | .stateAck t => Sys2Proof.Machine.execStateAck t s
  | .messageRetransmit t => Sys2Proof.Machine.execMessageRetransmit t s
  | .healthRecordTx t => Sys2Proof.Machine.execHealthRecordTx t s
  | .sniffCycleStart t found => Sys2Proof.Machine.execSniffCycleStart t found s
  | .twnYield t => Sys2Proof.Machine.execTwnYield t s
  | .twnTake t => Sys2Proof.Machine.execTwnTake t s
  | .twnResync t => Sys2Proof.Machine.execTwnResync t s
  | .twnFeedBoth t on => Sys2Proof.Machine.execTwnFeedBoth t on s
  | .twnClrCnt => Sys2Proof.Machine.execTwnClrCnt s
  | .sqDoorbell t r tail => Sys2Proof.Machine.execSqDoorbell t r tail s
  | .sqReadError t r burst => Sys2Proof.Machine.execSqReadError t r burst s
  | .sqEnable t r value => Sys2Proof.Machine.execSqEnable t r value s
  | .cqHeadWrite t r head => Sys2Proof.Machine.execCqHeadWrite t r head s
  | .nop t r raw => Sys2Proof.Machine.execNop t r raw s
  | .fence t r raw => Sys2Proof.Machine.execFence t r raw s
  | .eventPop => Sys2Proof.Machine.execEventPop s
  | .eventArm => Sys2Proof.Machine.execEventArm s
  | .accessErrRead => Sys2Proof.Machine.execAccessErrRead s
  | .msixCoalesceTimeout t r => Sys2Proof.Machine.execMsixCoalesceTimeout t r s
  | .netTxDoorbell t n tail descs => Sys2Proof.Machine.execNetTxDoorbell t n tail descs s
  | .netTxReadError t n burst => Sys2Proof.Machine.execNetTxReadError t n burst s
  | .netRxTail t n tail descs => Sys2Proof.Machine.execNetRxTail t n tail descs s
  | .hifClrCnt => Sys2Proof.Machine.execHifClrCnt s
  | .bar0AccessRefused t off size write => Sys2Proof.Machine.execBar0AccessRefused t off size write s
  | .bar2Access t off size write => Sys2Proof.Machine.execBar2Access t off size write s
  | .registerWrite t off value env => Sys2Proof.Machine.execRegisterWrite t off value env s
  | .imageWrite t r raw list bad => Sys2Proof.Machine.execImageWrite t r raw list bad s
  | .imageWriteDone t ok => Sys2Proof.Machine.execImageWriteDone t ok s
  | .imageReload t r raw list => Sys2Proof.Machine.execImageReload t r raw list s
  | .imageValidated t bad => Sys2Proof.Machine.execImageValidated t bad s
  | .rbCommit t bad => Sys2Proof.Machine.execRbCommit t bad s
  | .labelCommit t x bad => Sys2Proof.Machine.execLabelCommit t x bad s
  | .labelCommitDone t bad => Sys2Proof.Machine.execLabelCommitDone t bad s
  | .grant t bad => Sys2Proof.Machine.execGrant t bad s
  | .grantClear t bad => Sys2Proof.Machine.execGrantClear t bad s
  | .keySet t bad => Sys2Proof.Machine.execKeySet t bad s
  | .lifecycle t env => Sys2Proof.Machine.execLifecycle t env s
  | .evalFix t bad => Sys2Proof.Machine.execEvalFix t bad s
  | .classReq t bad => Sys2Proof.Machine.execClassReq t bad s
  | .auditRead t bad => Sys2Proof.Machine.execAuditRead t bad s
  | .auditSign t bad => Sys2Proof.Machine.execAuditSign t bad s
  | .deviceKey t bad => Sys2Proof.Machine.execDeviceKey t bad s
  | .challengeGet t => Sys2Proof.Machine.execChallengeGet t s
  | .challengeAnswer t level bad => Sys2Proof.Machine.execChallengeAnswer t level bad s
  | .nonceExpire t => Sys2Proof.Machine.execNonceExpire t s
  | .debugLockoutExpire t => Sys2Proof.Machine.execDebugLockoutExpire t s
  | .extest t cells => Sys2Proof.Machine.execExtest t cells s
  | .samplePreload t cells => Sys2Proof.Machine.execSamplePreload t cells s
  | .idcode t => Sys2Proof.Machine.execIdcode t s
  | .highz t tdi => Sys2Proof.Machine.execHighz t tdi s
  | .clamp t tdi => Sys2Proof.Machine.execClamp t tdi s
  | .dbgAccess t op off data bad => Sys2Proof.Machine.execDbgAccess t op off data bad s
  | .dbgChal t op off data bad => Sys2Proof.Machine.execDbgChal t op off data bad s
  | .bypass t code tdi => Sys2Proof.Machine.execBypass t code tdi s
  | .trstN t => Sys2Proof.Machine.execTrstN t s
  | .dbgRelock t burst => Sys2Proof.Machine.execDbgRelock t burst s
  | .dbgModuleReset t key bad bursts => Sys2Proof.Machine.execDbgModuleReset t key bad bursts s
  | .dbgHalt t => Sys2Proof.Machine.execDbgHalt t s
  | .dbgResume t => Sys2Proof.Machine.execDbgResume t s
  | .dbgStep t => Sys2Proof.Machine.execDbgStep t s
  | .dbgHaltAtBlock t => Sys2Proof.Machine.execDbgHaltAtBlock t s
  | .breakpointHit t u b => Sys2Proof.Machine.execBreakpointHit t u b s
  | .dbgMemGo t value => Sys2Proof.Machine.execDbgMemGo t value s
  | .dbgMemDone t bad => Sys2Proof.Machine.execDbgMemDone t bad s
  | .domainStartFail t d => Sys2Proof.Machine.execDomainStartFail t d s
  | .sensorUpdate t temps => Sys2Proof.Machine.execSensorUpdate t temps s
  | .thermalWarningHeld t => Sys2Proof.Machine.execThermalWarningHeld t s
  | .feedMeasure t dv dw => Sys2Proof.Machine.execFeedMeasure t dv dw s
  | .monClrMax => Sys2Proof.Machine.execMonClrMax s
  | .monClrCnt => Sys2Proof.Machine.execMonClrCnt s
  | .domainReachesOn t d => Sys2Proof.Machine.execDomainReachesOn t d s
  | .pllLocked t dir n => Sys2Proof.Machine.execPllLocked t dir n s
  | .cdrLockAcquired t n => Sys2Proof.Machine.execCdrLockAcquired t n s
  | .forwardedClockActivity t g active => Sys2Proof.Machine.execForwardedClockActivity t g active s
  | .sramUncorrectableError t k access => Sys2Proof.Machine.execSramUncorrectableError t k access s
  | .kennelStackFailure t k => Sys2Proof.Machine.execKennelStackFailure t k s
  | .clockMonitorFailure t => Sys2Proof.Machine.execClockMonitorFailure t s
  | .leadFrameDecision t layer a p endAt => Sys2Proof.Machine.execLeadFrameDecision t layer a p endAt s
  | .delayReqTx t k => Sys2Proof.Machine.execDelayReqTx t k s
  | .hostPerstNDeassert t => Sys2Proof.Machine.execHostPerstNDeassert t s
  | .configurationSpaceReady t => Sys2Proof.Machine.execConfigurationSpaceReady t s
  | .msixMaskWrite v masked => Sys2Proof.Machine.execMsixMaskWrite v masked s
  | .latchedRead t off => Sys2Proof.Machine.execLatchedRead t off s

end Sys2Proof.Machine
end

