-- ==== Sys2Proof/WellFormed.lean ====
section
/-! DEFINITION. The operands that the manual gives a command: which units there are (chapter "Overview and resources"), how long an entry
or a bark is. A command with other operands names nothing of the module; `exec` lets it change nothing of a unit that does not exist. -/

namespace Sys2Proof

/-- A lane of the 2,048 of a direction (R24). -/
def laneIn (n : Nat) : Bool := n < 2048

/-- A lane of the media lands, or one of the eight of the twin link, which this model numbers 2048 to 2055 (log entry 6). -/
def laneOk (n : Nat) : Bool := n < 2056

/-- A slot of a direction: 8 × lane + slot (R134). -/
def slotOk (k : Nat) : Bool := k < 16384

/-- An allocation number (R181). -/
def allocOk (a : Nat) : Bool := a < 8192

/-- A timing plane (R31). -/
def planeOk (p : Nat) : Bool := p < 8

/-- A reed engine (R311). -/
def reedOk (e : Nat) : Bool := e < 128

/-- A logical Ethernet port (R352). -/
def portOk (k : Nat) : Bool := k < 64

/-- A flow context of a direction (R394). -/
def contextOk (c : Nat) : Bool := c < 65536

/-- A ring pair (R533). -/
def ringOk (r : Nat) : Bool := r < 16

/-- A 32-bit word. -/
def wordOk (v : Nat) : Bool := v < 2 ^ 32

/-- The ring exists, and an entry has 64 bytes (R538). -/
def entryOk (r : Nat) (raw : List Byte) : Bool := ringOk r && raw.length == 64

/-- The offset of a register of BAR0, 64 MiB: a multiple of 4 (R9, R11). -/
def regOffset (off : Nat) : Bool := off < 2 ^ 26 && off % 4 == 0

/-- The meter register exists (R345, R347, R348). -/
def meterOk : MeterReg → Bool
  | .pk p => p < 8192
  | .ch q k => q < 1024 && k < 8
  | .ctl q => q < 1024

/-- The operands name units that exist and have the lengths the manual gives. -/
def Instr.wf : Instr → Bool
  | .powerGoodRise _ _ _ _ => true
  | .powerGoodFall _ => true
  | .bringupStepEnd _ _ _ => true
  | .bringupStepTimeout _ code unit _ => code < 256 && unit < 65536
  | .coldHoldRelease _ => true
  | .electronicFuseOpen _ => true
  | .softReset _ key _ _ => key < 256
  | .moduleResetProceed _ _ _ => true
  | .hostPerstN _ _ => true
  | .functionLevelReset _ _ => true
  | .d3hotEntry _ => true
  | .d0Return _ => true
  | .sleep _ key _ => key < 256
  | .sleepWake _ cause => cause < 8
  | .imageBootLoad _ _ => true
  | .imageReset _ _ _ => true
  | .signalDetectRise _ n => laneOk n
  | .signalDetectFall _ n => laneOk n
  | .trainingSetRx _ n body _ _ _ request => laneOk n && body.length == 14 && request < 8
  | .trainingAttemptTimeout _ _ n => laneOk n
  | .backoffExpire _ _ n => laneOk n
  | .quietProbeTimer _ _ n => laneOk n
  | .oneWayTrainTimer _ n => laneOk n
  | .laneBlockTx _ => true
  | .laneBlockRx _ n syms transitions _ => laneOk n && syms.length == 1024 && transitions ≤ 10240
  | .alignmentTimeout _ n => laneOk n
  | .cdrLockLoss _ n => laneOk n
  | .fastRetrainTimeout _ _ n => laneOk n
  | .idleLimitExpire _ n => laneIn n
  | .lniTargetState _ n target => laneIn n && target < 4
  | .lniRetrain _ n => laneIn n
  | .lniClrCnt n => laneIn n
  | .lnoTargetState _ n target => laneIn n && target < 4
  | .lnoRetrain _ n => laneIn n
  | .lnoClrCnt n => laneIn n
  | .lnoTest n _ => laneIn n
  | .inputFrameEnd _ k _ => slotOk k
  | .measurementHoldExpire _ k _ => slotOk k
  | .flowWriterTimeout _ a => allocOk a
  | .kennelReaderChoice _ a p => allocOk a && planeOk p
  | .armDeadline _ o => slotOk o
  | .switchingPoint _ o _ => slotOk o
  | .windowExit _ k => slotOk k
  | .nofmtTimeout _ k => slotOk k
  | .take _ r raw => entryOk r raw
  | .salvo _ r raw _ => entryOk r raw
  | .xptClrCnt => true
  | .freeze _ r raw => entryOk r raw
  | .unfreeze _ r raw => entryOk r raw
  | .capture _ r raw => entryOk r raw
  | .captureDone _ _ => true
  | .stillSelect _ r raw => entryOk r raw
  | .knlClrCnt => true
  | .headFrameBoundary _ e _ => e < 32
  | .cmpShadow _ r raw _ => entryOk r raw
  | .cmpCommit _ r raw => entryOk r raw
  | .cmpClrCnt => true
  | .bundleLoad _ r raw _ => entryOk r raw
  | .bundleInForce _ _ _ => true
  | .shofarReq _ r raw _ => entryOk r raw
  | .shofarReqChecked _ _ _ => true
  | .alarmLoopSample _ x _ => x < 2
  | .alarmLoopGapTimeout _ x => x < 2
  | .contactDebounceDone _ x _ => x < 2
  | .contactRestoreExpire _ k _ => k < 4
  | .audioBlockBoundary _ => true
  | .audMap _ r raw _ => entryOk r raw
  | .audClrCnt => true
  | .reedNop e => reedOk e
  | .reedEnd e => reedOk e
  | .setx e => reedOk e
  | .addx e => reedOk e
  | .loop e => reedOk e
  | .ldi e => reedOk e
  | .sto e => reedOk e
  | .lds e => reedOk e
  | .sts e => reedOk e
  | .lda e => reedOk e
  | .sta e => reedOk e
  | .clr e => reedOk e
  | .mul e => reedOk e
  | .mac e => reedOk e
  | .msu e => reedOk e
  | .macr e => reedOk e
  | .macv e => reedOk e
  | .biq e => reedOk e
  | .tlu e => reedOk e
  | .valu e => reedOk e
  | .reeWrite _ r raw _ => entryOk r raw
  | .reeClrCnt => true
  | .pkClrMax p => p < 8192
  | .ldClrMax q => q < 1024
  | .ldResetInt q => q < 1024
  | .meterConfigWrite reg value => meterOk reg && wordOk value
  | .macFrameRx _ k _ _ _ _ _ => portOk k
  | .pauseTakeEffect _ k => portOk k
  | .pauseTimerExpire _ k => portOk k
  | .macFrameTx _ k => portOk k
  | .linkUp _ k _ => portOk k
  | .linkDown _ k _ => portOk k
  | .ethStepWindow _ p => p < 16
  | .ethPortIdleTimeout _ p => p < 16
  | .flushMediaRx _ k => portOk k
  | .flushCtlRx _ k => portOk k
  | .flushCtlTx _ k => portOk k
  | .flushDone _ k q => portOk k && q < 3
  | .ethClrCnt => true
  | .snapArm => true
  | .snapHold _ => true
  | .snapshotBoundary _ => true
  | .snapshotCopyDone _ => true
  | .flowPacketRx _ k _ => portOk k
  | .positionLost _ c => contextOk c
  | .pathDownTimeout _ c _ => contextOk c
  | .flowVideoPacketTx _ c => contextOk c
  | .flowAncPacketTx _ c line offset => contextOk c && line < 2048 && offset < 4096
  | .flowAudioPacketTx _ c => contextOk c
  | .opaqueRelayTx _ c => contextOk c
  | .flwCtx _ r raw _ => entryOk r raw
  | .flwRxRecordCommit _ => true
  | .flwClrCnt => true
  | .refActivityLoss _ n => n < 11
  | .refWindowUpdate _ n _ => n < 11
  | .refWtrExpire _ n => n < 11
  | .transitionMeasureEnd _ => true
  | .pipForceEn _ _ ref => ref < 16
  | .pipForceHold _ _ => true
  | .refPrioWrite _ n prio _ _ => n < 11 && prio < 8
  | .pipClrCnt => true
  | .planeFrameBoundary _ p _ => planeOk p
  | .hardRealign _ p => planeOk p
  | .pulseEvent _ k src => k < 4 && src < 16
  | .pulseConfigWrite _ k cfg offset => k < 4 && wordOk cfg && wordOk offset
  | .timeServoUpdate _ _ => true
  | .localTimeSecond _ => true
  | .timSetApply _ => true
  | .timClrCnt => true
  | .ptpCfgWrite _ k value => k < 2 && wordOk value
  | .ptpMessageRx _ k domain _ _ => k < 2 && domain < 256
  | .announceTimeout _ k => k < 2
  | .barkTx _ => true
  | .bootBark _ => true
  | .barkRx _ path bytes => path < 2 && bytes.length == 64
  | .pathLost _ path => path < 2
  | .handshakeTimeout _ => true
  | .evidenceTimer _ => true
  | .claimWatchdogExpiry _ => true
  | .yieldTimer _ => true
  | .withdrawEnd _ => true
  | .lockstepMismatch _ p _ => p < 2
  | .fitRestoreTimer _ k => k < 9
  | .mirror _ m => (m.ring < 16 && m.raw.length == 64)
  | .mirrorAck _ _ => true
  | .commitRpt _ _ _ => true
  | .decision _ _ => true
  | .health _ _ => true
  | .resyncReq _ _ => true
  | .resyncAck _ _ => true
  | .state _ _ _ => true
  | .stateAck _ => true
  | .messageRetransmit _ => true
  | .healthRecordTx _ => true
  | .sniffCycleStart _ found => found.fails < 2 ^ 32 && found.row < 1024
  | .twnYield _ => true
  | .twnTake _ => true
  | .twnResync _ => true
  | .twnFeedBoth _ _ => true
  | .twnClrCnt => true
  | .sqDoorbell _ r tail => ringOk r && wordOk tail
  | .sqReadError _ r _ => ringOk r
  | .sqEnable _ r value => ringOk r && wordOk value
  | .cqHeadWrite _ r head => ringOk r && wordOk head
  | .nop _ r raw => entryOk r raw
  | .fence _ r raw => entryOk r raw
  | .eventPop => true
  | .eventArm => true
  | .accessErrRead => true
  | .msixCoalesceTimeout _ r => ringOk r
  | .netTxDoorbell _ n tail _ => n < 2 && wordOk tail
  | .netTxReadError _ n _ => n < 2
  | .netRxTail _ n tail _ => n < 2 && wordOk tail
  | .hifClrCnt => true
  | .bar0AccessRefused _ off size _ => off < 2 ^ 26 && (size == 1 || size == 2 || size == 4 || size == 8)
  | .bar2Access _ off size _ => off < 2 ^ 33 && 0 < size
  | .registerWrite _ off value _ => regOffset off && wordOk value
  | .imageWrite _ r raw _ _ => entryOk r raw
  | .imageWriteDone _ _ => true
  | .imageReload _ r raw _ => entryOk r raw
  | .imageValidated _ _ => true
  | .rbCommit _ _ => true
  | .labelCommit _ x _ => x < 65536
  | .labelCommitDone _ _ => true
  | .grant _ _ => true
  | .grantClear _ _ => true
  | .keySet _ _ => true
  | .lifecycle _ _ => true
  | .evalFix _ _ => true
  | .classReq _ _ => true
  | .auditRead _ _ => true
  | .auditSign _ _ => true
  | .deviceKey _ _ => true
  | .challengeGet _ => true
  | .challengeAnswer _ level _ => level < 4
  | .nonceExpire _ => true
  | .debugLockoutExpire _ => true
  | .extest _ _ => true
  | .samplePreload _ _ => true
  | .idcode _ => true
  | .highz _ tdi => tdi < 2
  | .clamp _ tdi => tdi < 2
  | .dbgAccess _ op off data _ => op < 4 && wordOk off && wordOk data
  | .dbgChal _ op off data _ => op < 4 && wordOk off && wordOk data
  | .bypass _ code tdi => code < 32 && tdi < 2
  | .trstN _ => true
  | .dbgRelock _ _ => true
  | .dbgModuleReset _ key _ _ => key < 256
  | .dbgHalt _ => true
  | .dbgResume _ => true
  | .dbgStep _ => true
  | .dbgHaltAtBlock _ => true
  | .breakpointHit _ u b => u < 162 && b < 4
  | .dbgMemGo _ value => wordOk value
  | .dbgMemDone _ _ => true
  | .domainStartFail _ d => d < 545
  | .sensorUpdate _ temps => temps.length == 40
  | .thermalWarningHeld _ => true
  | .feedMeasure _ dv dw => dv < 1024 && dw < 8192
  | .monClrMax => true
  | .monClrCnt => true
  | .domainReachesOn _ d => d < 545
  | .pllLocked _ _ n => laneOk n
  | .cdrLockAcquired _ n => laneOk n
  | .forwardedClockActivity _ g _ => g < 128
  | .sramUncorrectableError _ k _ => k < 80
  | .kennelStackFailure _ k => k < 8
  | .clockMonitorFailure _ => true
  | .leadFrameDecision _ layer a p _ => (if layer then a < 1024 else allocOk a && planeOk p)
  | .delayReqTx _ k => k < 2
  | .hostPerstNDeassert _ => true
  | .configurationSpaceReady _ => true
  | .msixMaskWrite v _ => v < 64
  | .latchedRead _ off => regOffset off

end Sys2Proof
end

