-- ==== Sys2Proof/Safety.lean ====
section
/-! DEFINITION. What a sound state is, in the terms the statements use: the registers' canonical form and widths, and the one rule of
roles that holds between steps; what it means that a command takes effect, and that it leaves the rest of the state alone. A run is
safe when no step faults or refuses. -/

namespace Sys2Proof.Machine

/-! ### Soundness -/

/-- The instances listed for one register field: rising, none at its reset value, every value within the field's width. -/
def fieldTableOk (e : Nat × List (Nat × Nat)) : Bool :=
  match fieldOf e.1 with
  | some f => risingFrom none e.2 && e.2.all (fun p => decide (p.2 < 2 ^ f.width) && p.2 != f.resetAt p.1)
  | none => false

/-- The register store is in canonical form and every field holds what its width admits (R8, R11). -/
def regsOk (s : State) : Bool := canon [] s.regs && s.regs.all fieldTableOk

/-- The cells that an unreadable store keeps are such columns too (R600). -/
def vaultOk (s : State) : Bool :=
  match s.vault with
  | some v => v.regs.all fieldTableOk
  | none => true

/-- So are the columns that the running blocks hold between a MODULE reset and the IMAGE reset that follows it (R610). -/
def holdOk (s : State) : Bool :=
  match s.hold with
  | .hidden live => live.all (fun c => fieldTableOk c)
  | .shown vis => vis.all (fun c => fieldTableOk c)
  | _ => true

/-- CLAIM is 1 in LEAD and 0 in every other role (R498). -/
def claimOk (s : State) : Bool := getF TWN_STATUS.CLAIM 0 s == b2n (role s == roleLead)

/-- The role is one of the four (R498). -/
def roleOk (s : State) : Bool := decide (role s < 4)

/-- The step ends in a next state. -/
def Runs (s : State) : Prop := ∃ t, step s = .next t

/-! ### When commands are taken -/

/-- The service pair runs, and the fields of the running blocks show what these hold: no MODULE reset waits for its IMAGE reset (R610). -/
def serving (s : State) : Bool := inService s && s.hold == .plain

/-- The host reaches the registers, and the fields of the running blocks show what these hold. -/
def reached (s : State) : Bool := hostReaches s && s.hold == .plain

/-- The state as the running blocks meet it while their fields show reset values: what they hold is in the registers (R610). -/
def atWork (s : State) : State :=
  match s.hold with
  | .hidden live => runningFrom live s
  | _ => s

/-- What a step from `s` leaves whose work left `u`: what the running blocks hold is set aside again, and their fields show what has
changed. -/
def showing (s u : State) : State :=
  match s.hold, u.hold with
  | .hidden live, .shown vis => runningTo live vis u
  | _, _ => u

/-- Commands whose work needs no field of the blocks that keep running through a MODULE reset: they run on the registers as they show. -/
def worksApart : Instr → Bool
  | .powerGoodRise .. | .powerGoodFall .. | .electronicFuseOpen .. | .hostPerstN .. | .hostPerstNDeassert .. | .configurationSpaceReady ..
  | .sleepWake .. | .bootBark .. | .alarmLoopSample .. | .alarmLoopGapTimeout .. | .contactDebounceDone .. | .sensorUpdate .. => true
  | .bar0AccessRefused .. | .bar2Access .. | .latchedRead .. | .accessErrRead | .eventPop | .eventArm | .msixMaskWrite .. => true
  | .lniClrCnt .. | .lnoClrCnt .. | .xptClrCnt | .knlClrCnt | .cmpClrCnt | .audClrCnt | .reeClrCnt | .ethClrCnt | .flwClrCnt
  | .pipClrCnt | .timClrCnt | .twnClrCnt | .hifClrCnt | .monClrCnt | .monClrMax => true
  | .pkClrMax .. | .ldClrMax .. | .ldResetInt .. | .meterConfigWrite .. | .snapArm | .snapHold .. => true
  | .reedNop .. | .reedEnd .. | .setx .. | .addx .. | .loop .. | .ldi .. | .sto .. | .lds .. | .sts .. | .lda .. | .sta .. | .clr ..
  | .mul .. | .mac .. | .msu .. | .macr .. | .macv .. | .biq .. | .tlu .. | .valu .. => true
  | .trstN .. | .extest .. | .samplePreload .. | .idcode .. | .highz .. | .clamp .. | .bypass .. => true
  | _ => false

/-! ### Effects -/

/-- Command `c` takes effect in `s`: it answers a next state, and `P` says of it what the manual says. -/
def Does (c : Instr) (s : State) (P : State → Prop) : Prop := ∃ u, exec c s = .next u ∧ P u

/-- The end of a step: commands that are done complete (R52), then evidence, reference, resynchronisation and role are judged
(R440, R505, R514, R579). -/
def stepEnd (s : State) : State := settle (finishReady s)

/-- Command `c` acts in `s`: its own effect leaves a state of which `P` says what the manual says, and the step ends there as every
step ends. -/
def Acts (c : Instr) (s : State) (P : State → Prop) : Prop := ∃ m, exec c s = .next (stepEnd m) ∧ P m

/-- Command `c` makes a MODULE reset in `s`: its own effect leaves a state of which `P` says what the manual says, and the step ends there;
from then on every field of the blocks that keep running shows its reset value, and what they run on is set aside (R16, R610). -/
def Resets (c : Instr) (s : State) (P : State → Prop) : Prop :=
  ∃ m, exec c s = .next (hideRunning (stepEnd m)) ∧ m.hold = .reset ∧ P m

/-- From `s` to `m` one event has been counted: by one more, or by the counter's overflow flag once it is full (R19). -/
def Counted (c ovf : Fld) (i : Nat) (s m : State) : Prop :=
  if getF c i s = 0xFFFFFFFF then getF c i m = 0xFFFFFFFF ∧ getF ovf i m = 1 else getF c i m = (getF c i s + 1) % 2 ^ c.width

/-- From `s` to `m` `n` events have been counted by a counter whose overflow flag is bit `b` of a flag field (R19). -/
def CountedBy (c flags : Fld) (b i n : Nat) (s m : State) : Prop :=
  if getF c i s + n ≤ 0xFFFFFFFF then getF c i m = getF c i s + n else getF c i m = 0xFFFFFFFF ∧ (getF flags i m).testBit b = true

/-- From `s` to `m` a counter of 64 bits has counted `n`: it wraps (R19). -/
def Counted64 (c : Fld) (i n : Nat) (s m : State) : Prop := getF c i m = (getF c i s + n) % 2 ^ 64

/-- The state in which ring `r`'s entry is judged at module time `t`: the entry is read and the head has moved past it (R535, R540). -/
def fetched (r t : Nat) (s : State) : State := pastEntry r (advance t s)

/-- Entry `raw` of ring `r` is read at module time `t`, its opcode is `op`, and it passes the checks of R540; LATE_POLICY is not REJECT, and
no MODULE reset waits for its IMAGE reset. -/
def Passes (op r : Nat) (raw : List Byte) (t : Nat) (s : State) : Prop :=
  s.hold = .plain ∧ fetchable r (advance t s) = true ∧ eOpcode raw = op ∧ checkEntry r raw (fetched r t s) = none ∧ eReject raw = false

/-- From `s` to `m` the entry `raw` of ring `r` has been accepted: the head is past it, and one open slot more holds it (R542). -/
def Accepted (r : Nat) (raw : List Byte) (s m : State) : Prop :=
  getF HIF_SQ_HEAD.HEAD r m = (getF HIF_SQ_HEAD.HEAD r s + 1) % sqSize r s ∧ m.cmd.opens.length = s.cmd.opens.length + 1
    ∧ ∃ c, c ∈ m.cmd.opens ∧ c.uid = s.cmd.uid ∧ c.ring = r ∧ c.tag = eTag raw ∧ c.opcode = eOpcode raw ∧ c.mirror = false

/-- Engine `e` is about to execute an instruction whose OP is `op`. -/
def Executes (op e : Nat) (s : State) : Prop :=
  inService s = true ∧ engRuns e s = true ∧ atBreak e s = false ∧ fOp (nextWord e s) = op

/-- Parts of a reed engine that an instruction may work on. -/
inductive ReedPart where
  | prog | v | acc | smem | x | loops | inp | fill | out | back | ramps | ended
  deriving DecidableEq, Repr

/-- A part of an engine is as it was. -/
def ReedPart.same (r q : Reed) : ReedPart → Prop
  | .prog => q.prog = r.prog
  | .v => q.v = r.v
  | .acc => q.acc = r.acc
  | .smem => q.smem = r.smem
  | .x => q.x = r.x
  | .loops => q.loops = r.loops
  | .inp => q.inp = r.inp
  | .fill => q.fill = r.fill
  | .out => q.out = r.out
  | .back => q.back = r.back
  | .ramps => q.ramps = r.ramps
  | .ended => q.ended = r.ended

/-- The instruction about to execute is the last of the innermost loop that runs (R328). -/
def atLoopEnd (e : Nat) (s : State) : Bool :=
  match (reed e s).loops with
  | l :: _ => l.last == (reed e s).pc
  | [] => false

/-- From `s` to `u` engine `e` has spent its instruction's cycles and no other engine has moved (R314); of its own parts only those of `ps`
have changed, and the loops and index registers where a pass of a loop ends; otherwise the next instruction follows. -/
def Stepped (e : Nat) (ps : List ReedPart) (s u : State) : Prop :=
  (reed e u).cycles = (reed e s).cycles + opCycles (nextWord e s) ∧ (∀ d, d ≠ e → reed d u = reed d s)
    ∧ (atLoopEnd e s = false → (reed e u).pc = ((reed e s).pc + 1) % 8192)
    ∧ ∀ p : ReedPart, p ∉ ps → atLoopEnd e s = false ∨ (p ≠ .loops ∧ p ≠ .x) → p.same (reed e s) (reed e u)

/-- From `s` to `u` an instruction of engine `e` has saturated, if `b`: SAT sets, and the block is counted once (R321). -/
def Saturated (e : Nat) (b : Prop) (s u : State) : Prop :=
  (b → getB REE_ENG_EVT.SAT e u = true ∧ ((reed e s).sat = false → Counted REE_ENG_SAT_CNT.COUNT REE_ENG_EVT.SAT_OVF e s u))
    ∧ (¬ b ∨ (reed e s).sat = true → getF REE_ENG_SAT_CNT.COUNT e u = getF REE_ENG_SAT_CNT.COUNT e s)

/-- Position `j` of accumulator `a` cannot hold its sum with `p` in 80 bits (R319). -/
def overflows (e a j : Nat) (p : Int) (s : State) : Prop :=
  (reed e s).clamped.contains (16 * a + j) = false ∧ (getAcc e a j s + p < accMin ∨ accMax < getAcc e a j s + p)

/-- From `s` to `u` position `j` of accumulator `a` has had `p j` added, for each of the 16: the sum, held within 80 bits; one that has
clamped stays as it is. A clamp sets ACCOV, is recorded where none is, and counts the block once (R319). No other accumulator changes. -/
def Added (e a : Nat) (p : Nat → Int) (s u : State) : Prop :=
  (∀ b j, b < 4 → j < 16 → getAcc e b j u =
    if b ≠ a ∨ (reed e s).clamped.contains (16 * a + j) then getAcc e b j s else clampInt accMin accMax (getAcc e a j s + p j))
  ∧ ((∃ j, j < 16 ∧ overflows e a j (p j) s) → getB REE_ENG_EVT.ACCOV e u = true
      ∧ ((reed e s).accov = false → Counted REE_ENG_ACCOV_CNT.COUNT REE_ENG_EVT.ACCOV_OVF e s u)
      ∧ (getB REE_ENG_EVT.ACCOV e s = false → getF REE_ENG_ACCOV_PC.VALID e u = 1 ∧ getF REE_ENG_ACCOV_PC.ACC e u = a
          ∧ getF REE_ENG_ACCOV_PC.PC e u = (reed e s).pc % 2 ^ REE_ENG_ACCOV_PC.PC.width))
  ∧ ((∀ j, j < 16 → ¬ overflows e a j (p j) s) →
      getF REE_ENG_ACCOV_CNT.COUNT e u = getF REE_ENG_ACCOV_CNT.COUNT e s ∧ getF REE_ENG_EVT.ACCOV e u = getF REE_ENG_EVT.ACCOV e s)

/-- From `s` to `u` a new sum `p j` has begun at each position of accumulator `a`, and no other accumulator has changed (R318). -/
def Begun (e a : Nat) (p : Nat → Int) (s u : State) : Prop :=
  ∀ b j, b < 4 → j < 16 → getAcc e b j u = (if b = a then p j else getAcc e b j s)
    ∧ (b = a → (reed e u).clamped.contains (16 * a + j) = false)

/-- From `s` to `u` register `r` has taken `w j` at each of the 16 positions, and no other register has changed. -/
def Loaded (e r : Nat) (w : Nat → Nat) (s u : State) : Prop :=
  ∀ v j, v < 16 → j < 16 → getV e v j u = if v = r then w j else getV e v j s

/-- Logical port `a` can carry a media packet at once: its processor runs, its link is up and neither faulted nor paused (R364, R367, R370). -/
def carriesMedia (a : Nat) (s : State) : Bool :=
  !domDown (520 + a / 4) s && linkUp a s && !portBit ETH_PORT_STATUS.RFAULT a s && !paused a s

/-- The RTP packet `x` has the header of R408: number `seq`, the marker where `last`, and the type and the source that context `c` sends under
the record `ws`. -/
def rtpHeaderIs (c : Nat) (ws : List Nat) (last : Bool) (seq : Nat) (s : State) (x : List Byte) : Prop :=
  beAt x 0 1 = 0x80 ∧ beAt x 1 1 = 128 * b2n last + bits (ws.getD 1 0) 1 7 ∧ beAt x 2 2 = seq % 65536
    ∧ beAt x 8 4 = (getF TWN_PAIR_ID.ID 0 s % 65536 * 65536 + c) % 2 ^ 32

/-- From `s` to `m` transmit context `c` has sent a packet under the record `ws` whose RTP packet is as `ok` says (R364, R412, R413): a module
without a claim discards and counts it; otherwise each of its one or two ports that can carry it stages and counts it, or counts that its
staging has no room. -/
def Transmits (c : Nat) (ws : List Nat) (ok : List Byte → Prop) (s m : State) : Prop :=
  let a := bits (ws.getD 1 0) 24 6
  let b := bits (ws.getD 1 0) 16 6
  let staged (k dst : Nat) (x : List Byte) : Prop := (lp k m).mediaTx = (lp k s).mediaTx ++ [flowHeaders ws k dst x s]
  let room (k dst : Nat) (x : List Byte) : Prop := mediaTxBytes k s + (flowHeaders ws k dst x s).length ≤ mediaTxSize k s
  (getB TWN_STATUS.CLAIM 0 s = false → Counted64 FLW_TX_STANDBY.COUNT c 1 s m ∧ m.eth.lps = s.eth.lps)
    ∧ (getB TWN_STATUS.CLAIM 0 s = true → ∃ x, ok x
      ∧ (bit (ws.getD 1 0) 31 = false → carriesMedia a s = true →
          (room a (ws.getD 2 0) x → Counted64 FLW_TX_PKTS.COUNT c 1 s m ∧ staged a (ws.getD 2 0) x)
          ∧ (¬ room a (ws.getD 2 0) x → CountedBy FLW_TX_STAGE_DROP.COUNT FLW_TX_FLAGS.OVF 1 c 1 s m ∧ (lp a m).mediaTx = (lp a s).mediaTx))
      ∧ (bit (ws.getD 1 0) 31 = true → a ≠ b → carriesMedia a s = true → carriesMedia b s = true →
          room a (ws.getD 2 0) x → room b (ws.getD 3 0) x →
          Counted64 FLW_TX_PKTS.COUNT c 2 s m ∧ staged a (ws.getD 2 0) x ∧ staged b (ws.getD 3 0) x))

/-- From `s` to `m` interrupt source `src` has been signalled: its vector has sent its message, or is pending while it is masked
(R555). -/
def Signalled (src : Nat) (s m : State) : Prop :=
  let v := getF HIF_MSIX_MAP.VECTOR src s
  ((mget ({} : MsixVec) s.msix v).masked = false → Out.msix v ∈ m.out)
    ∧ ((mget ({} : MsixVec) s.msix v).masked = true → (mget ({} : MsixVec) m.msix v).pending = true)

/-- From `s` to `m` a host access at `off` has been refused: it is counted and recorded (R12, R44). -/
def RefusedAccess (write bar2 : Bool) (off : Nat) (s m : State) : Prop :=
  Counted HIF_ACCESS_ERR.COUNT HIF_CNT_FLAGS.ACCESS_OVF 0 s m ∧ getF HIF_ACCESS_LAST.OFFSET 0 m = off % 2 ^ 30
    ∧ getF HIF_ACCESS_LAST.WRITE 0 m = b2n write ∧ getF HIF_ACCESS_LAST.BAR2 0 m = b2n bar2 ∧ m.pcie.accessSet = true

/-- Register fields that a refused access writes, and the event it posts may. -/
def accessFlds : List Fld :=
  [HIF_ACCESS_LAST.WRITE, HIF_ACCESS_LAST.BAR2, HIF_ACCESS_LAST.OFFSET, HIF_EVT_STATUS.ARMED]

/-- The cells of row `r` take what is stored in them (R624, R631): the store can be read, and their verification does not fail. -/
def StoreTakes (r : Nat) (bad : List Nat) (s : State) : Prop := s.pst.dead = false ∧ bad.contains (cellRow r s) = false

/-- The parts of the state, its register fields apart. -/
inductive Part where
  | snap | now | timeOff | powered | lane | time | xpt | cmp | aud | reed | eth | dbg | cmd | twin | pst | sec
  | shf | img | boot | mon | vault | hold | evtFifo | evtHeld | evtLost | evtLast | cplHeld | coal | msix | pcie | out | freeCtr | pending
  deriving DecidableEq, Repr

/-- A part is as it was. -/
def Part.same (s u : State) : Part → Prop
  | .snap => u.snap = s.snap
  | .now => u.now = s.now
  | .timeOff => u.timeOff = s.timeOff
  | .powered => u.powered = s.powered
  | .lane => u.lane = s.lane
  | .time => u.time = s.time
  | .xpt => u.xpt = s.xpt
  | .cmp => u.cmp = s.cmp
  | .aud => u.aud = s.aud
  | .reed => u.reed = s.reed
  | .eth => u.eth = s.eth
  | .dbg => u.dbg = s.dbg
  | .cmd => u.cmd = s.cmd
  | .twin => u.twin = s.twin
  | .pst => u.pst = s.pst
  | .sec => u.sec = s.sec
  | .shf => u.shf = s.shf
  | .img => u.img = s.img
  | .boot => u.boot = s.boot
  | .mon => u.mon = s.mon
  | .vault => u.vault = s.vault
  | .hold => u.hold = s.hold
  | .evtFifo => u.evtFifo = s.evtFifo
  | .evtHeld => u.evtHeld = s.evtHeld
  | .evtLost => u.evtLost = s.evtLost
  | .evtLast => u.evtLast = s.evtLast
  | .cplHeld => u.cplHeld = s.cplHeld
  | .coal => u.coal = s.coal
  | .msix => u.msix = s.msix
  | .pcie => u.pcie = s.pcie
  | .out => u.out = s.out
  | .freeCtr => u.freeCtr = s.freeCtr
  | .pending => u.pending = s.pending

/-- From `s` to `u` the fields `fs` have returned to their reset values, and nothing else has changed. -/
def Cleared (fs : List Fld) (s u : State) : Prop :=
  (∀ f, f ∈ fs → ∀ i, getF f i u = f.resetAt i) ∧ (∀ f i, f.id ∉ fs.map Fld.id → getF f i u = getF f i s) ∧ ∀ p : Part, p.same s u

/-- The same of instance `n` of the fields alone. -/
def ClearedAt (fs : List Fld) (n : Nat) (s u : State) : Prop :=
  (∀ f, f ∈ fs → getF f n u = f.resetAt n) ∧ (∀ f i, f.id ∉ fs.map Fld.id ∨ i ≠ n → getF f i u = getF f i s) ∧ ∀ p : Part, p.same s u

/-- Nothing but the listed parts and register fields differs. -/
def Frame (ps : List Part) (fs : List Fld) (s u : State) : Prop :=
  (∀ p, p ∉ ps → p.same s u) ∧ ∀ f i, f.id ∉ fs.map Fld.id → getF f i u = getF f i s

/-- Parts that the end of any step may change: commands complete and are reported (R52, R537), records of events arise (R549), and
reference, resynchronisation and role are judged (R440, R505, R514, R579); what the running blocks hold while their fields show other
values follows their work (R610). -/
def endParts : List Part := [.cmd, .twin, .evtFifo, .evtHeld, .evtLost, .cplHeld, .coal, .msix, .out, .pst, .img, .time, .hold]

/-- Register fields that completing a command may write. -/
def finishFlds : List Fld :=
  [HIF_CQ_TAIL.TAIL, HIF_CQ_TAIL.PHASE, HIF_EVT_LOST.COUNT, HIF_CNT_FLAGS.LOST_OVF, HIF_CNT_FLAGS.DROP_OVF, HIF_EVT_STATUS.ARMED,
   HIF_DROP_CPL.COUNT, TWN_MSEQ.MSEQ, XPT_REFUSE_CNT.COUNT, XPT_CNT_FLAGS.REFUSE_OVF, TWN_SOLO_CNT.COUNT, TWN_CNT_FLAGS.OVF,
   TWN_EVT.SOLO]

/-- Register fields that the end of any step may write. -/
def endFlds : List Fld :=
  finishFlds ++
  [TWN_EVID.ELIG, TWN_EVID.OWN, TWN_STATUS.ROLE, TWN_STATUS.CLAIM, TWN_STATUS.SYNC, TWN_STATUS.STALE, TWN_STATUS.ALIGNED,
   TWN_STATUS.FIT, TWN_EVT.ROLE, TWN_EVT.STALE, TWN_EVT.SYNCED, TWN_EVT.DIAG_FAIL, TWN_EPOCH.EPOCH, TWN_TAKEOVER_CNT.COUNT,
   TWN_YIELD_CNT.COUNT, TWN_RESYNC_CNT.COUNT, PST_STATUS.LAST_ROLE, PST_STATUS.WARN_ROWS, PST_STATUS.SPARES_LEFT,
   PST_STATUS.STORE_FAIL, PST_EVT.WEAR_WARN, PST_EVT.WEAR_LIMIT, PST_EVT.STORE_FAIL, PST_EVT.REMAP, PST_WEAR_FIRST.VALID,
   PST_WEAR_FIRST.ROW, PIP_STATUS.STATE, PIP_STATUS.SELECTED, PIP_STATUS.TARGET, PIP_EVT.HOLDOVER, PIP_EVT.HOLD_OVF,
   PIP_HOLD_CNT.COUNT, TIM_STATUS.SOURCE, TIM_STATUS.UTC_VALID, TIM_STATUS.UTC_OFFSET, TIM_EVT.SOURCE]

/-- A step at module time `t` whose own effect lies in the listed parts and fields: beyond them it changes only module time and what
the end of any step may. -/
def StepFrame (ps : List Part) (fs : List Fld) (s u : State) : Prop := Frame (.now :: endParts ++ ps) (endFlds ++ fs) s u

end Sys2Proof.Machine
end

