-- ==== Sys2Proof/Safety/Frames.lean ====
section
/-! DEFINITION. The frame of every command: the parts of the state and the register fields that its effect may change, family by family.
A command changes nothing else but module time and what the end of any step may (`StepFrame`). -/

namespace Sys2Proof.Machine

/-! ### Fields that change together -/

/-- Every field that a MODULE reset returns (R16). -/
def moduleFlds : List Fld := allFields.filter (fun f => f.dom == .module || f.dom == .image)

/-- Every field that an IMAGE reset returns (R16). -/
def imageFlds : List Fld := allFields.filter (fun f => f.dom == .image)

/-- The windows of a store that cannot be read (R600). -/
def deadFlds : List Fld := vaultFields

/-- Leaving ACTIVE: the lane, its payload, and the inputs and outputs that carried it (R79, R108, R153, R191). -/
def laneFallFlds : List Fld :=
  [LNI_STATUS.ALIGNED, LNI_STATUS.CDR_LOCK, LNI_STATUS.STATE, LNI_EVT.DOWN, LNI_PAY_STATUS.PAY_LOSS,
   LNI_PAY_EVT.PAY_LOSS, LNI_PAY_FLAGS.PAY_LOSS_OVF, LNI_PAY_LOSS_CNT.COUNT, LNO_STATUS.STATE, LNO_EVT.DOWN, XPT_IN_STATUS.WIN,
   XPT_IN_PHASE.PHASE_NS, XPT_IN_EVT.EXIT_OVF, XPT_IN_EVT.GUARD, XPT_IN_EVT.WIN_EXIT, XPT_OUT_STATE.FORMAT, XPT_OUT_STATE.MODE,
   XPT_OUT_EVT.UNSYNC_OVF, XPT_OUT_EVT.SWITCH_OVF, XPT_OUT_EVT.UNSYNC, XPT_OUT_EVT.SWITCH, XPT_IN_EXIT_CNT.COUNT,
   XPT_OUT_SWITCH_CNT.COUNT, XPT_OUT_UNSYNC_CNT.COUNT, KNL_ALLOC_STATUS.LOSS, KNL_ALLOC_EVT.LOSS]

/-- Commands of the security unit, which may end in a MODULE reset: cells and windows outside that domain (R16, R623, R635). -/
def securityFlds : List Fld :=
  [SYS_RESET_CAUSE.CAUSE, SYS_IMG_SLOT_A.STATE, SYS_IMG_SLOT_A.DIGEST16, SYS_IMG_SLOT_B.STATE,
   SYS_IMG_SLOT_B.DIGEST16, SYS_IMG_SLOT_RB_A.VALUE, SYS_IMG_SLOT_RB_B.VALUE, SYS_IMG_BOOT.PREFER, PWR_WAKE.SLEPT, SHF_BUNDLE.N_MSG_M1,
   SHF_BUNDLE.BUILTIN, SHF_BUNDLE.VALID, SHF_BUNDLE.BCOUNTER_LO, SHF_RAISED.BY_CMD, SHF_RAISED.RAISED, SHF_SEQ.SEQ, PIP_REF_CFG.LOCKOUT,
   PIP_REF_CFG.PRIO, PST_ROUTE.SOURCE, PST_LABEL.WORD, SEC_STATUS.LIFECYCLE, SEC_STATUS.EVAL_FIXED, SEC_STATUS.CLASS_REQ, SEC_KEYS.SLOTS,
   SEC_SEQ.SEQ, SEC_AUDIT_NEW.ASEQ, SEC_AUDIT_OLD.ASEQ]

/-- An error of the control fabric (R670). -/
def fabErrFlds : List Fld :=
  [FAB_ERR_CNT.COUNT, FAB_EVT.ERR_OVF, FAB_EVT.TARGET_ERR, FAB_EVT.ABORT, FAB_EVT.DENIED, FAB_EVT.DECODE,
   FAB_ERR_HEAD.VALID, FAB_ERR_HEAD.SLOT, FAB_ERR_LOG.KIND, FAB_ERR_LOG.MASTER, FAB_ERR_LOG.TARGET, FAB_ERR_LOG.BEATS, FAB_ERR_LOG.WRITE,
   FAB_ERR_LOG.ADDR_LO, FAB_ERR_LOG.ADDR_HI, FAB_ERR_LOG.SEC]

/-- Judging a reference (R437, R438). -/
def refFlds : List Fld :=
  [PIP_EVT.FORCE_IGNORED, PIP_REF_STATUS.RATE, PIP_REF_STATUS.WTR_LEFT, PIP_REF_STATUS.WARN,
   PIP_REF_STATUS.NOISE, PIP_REF_STATUS.DRIFT, PIP_REF_STATUS.FREQ, PIP_REF_STATUS.QUAL, PIP_REF_FREQ.FREQ_PPB,
   PIP_REF_DRIFT.DRIFT_PPB_S, PIP_REF_EVT.DISQ_OVF, PIP_REF_EVT.DISQUAL, PIP_REF_DISQ_CNT.COUNT]

/-- A debugged reed engine that runs on or halts (R682, R683). -/
def engineDebugFlds : List Fld :=
  [HIF_ACCESS_ERR.COUNT, HIF_CNT_FLAGS.ACCESS_OVF, HIF_ACCESS_LAST.WRITE, HIF_ACCESS_LAST.BAR2,
   HIF_ACCESS_LAST.OFFSET, REE_ENG_STATUS.STATE, REE_ENG_STATUS.LAST_CYCLES, REE_ENG_EVT.BLOCKS_WRAP, REE_ENG_EVT.SAT_OVF,
   REE_ENG_EVT.ACCOV_OVF, REE_ENG_EVT.SAT, REE_ENG_EVT.ACCOV, REE_ENG_ACCOV_PC.VALID, REE_ENG_ACCOV_PC.ACC, REE_ENG_ACCOV_PC.PC,
   REE_ENG_ACCOV_CNT.COUNT, REE_ENG_SAT_CNT.COUNT, REE_ENG_BLOCKS.COUNT, REE_COEF.COEF, DBG_ENG_STATUS.HALTED, DBG_ENG_STATUS.CAUSE,
   DBG_ENG_STATUS.BP_HIT, DBG_ENG_STATUS.PC, DBG_EVT.REFUSED, DBG_EVT.HALT]

/-- Training from its start (R65). -/
def retrainFlds : List Fld :=
  [LNI_STATUS.ATTEMPT, LNI_STATUS.ONE_WAY_ACT, LNI_EQ.PARTNER_PRESET, LNI_EQ.PRESET_REQ,
   LNO_STATUS.ATTEMPT, LNO_STATUS.ONE_WAY_ACT, LNO_TX_CFG.PRESET_ACT]

/-- A command fetched from a submission ring: the ring, and a refusal that is audited (R535, R640). -/
def ringFlds : List Fld :=
  [HIF_SQ_HEAD.HEAD, SEC_AUDIT_NEW.ASEQ, SEC_AUDIT_OLD.ASEQ, SEC_DENIED.COUNT, SEC_CNT_FLAGS.DENIED_OVF]

/-- A received block and its payload (R107, R112). -/
def laneRxFlds : List Fld :=
  [LNI_STATUS.ADAPT_FROZEN, LNI_STATUS.ALIGNED, LNI_EQ.CTLE, LNI_EQ.DFE1, LNI_EVT.REALIGN,
   LNI_CNT_FLAGS.GATED_OVF, LNI_CNT_FLAGS.REALIGN_OVF, LNI_CNT_FLAGS.CRC_OVF, LNI_CNT_FLAGS.DISP_OVF, LNI_CNT_FLAGS.CODE_OVF,
   LNI_CNT_FLAGS.BLOCKS_WRAP, LNI_BLOCKS.COUNT, LNI_CODE_ERR.COUNT, LNI_DISP_ERR.COUNT, LNI_CRC_ERR.COUNT, LNI_REALIGN_CNT.COUNT,
   LNI_GATED_CNT.COUNT, LNI_PAY_STATUS.PAY_LOSS, LNI_PAY_STATUS.SIDE_A, LNI_PAY_STATUS.TYPE_LAST, LNI_PAY_STATUS.SEQ_LAST,
   LNI_CAD_LO.CAD3, LNI_CAD_LO.CAD2, LNI_CAD_LO.CAD1, LNI_CAD_LO.CAD0, LNI_CAD_HI.CAD7, LNI_CAD_HI.CAD6, LNI_CAD_HI.CAD5,
   LNI_CAD_HI.CAD4, LNI_PAY_EVT.MODE_ERR, LNI_PAY_EVT.SIDE_CHANGE, LNI_PAY_EVT.PAY_RESTORE, LNI_PAY_EVT.PAY_LOSS,
   LNI_PAY_FLAGS.PAY_LOSS_OVF, LNI_PAY_FLAGS.TEST_OVF, LNI_PAY_FLAGS.ILLEGAL_OVF, LNI_PAY_FLAGS.MODE_OVF, LNI_PAY_FLAGS.HDR_OVF,
   LNI_PAY_FLAGS.SEQ_OVF, LNI_SEQ_ERR.COUNT, LNI_HDR_ERR.COUNT, LNI_MODE_ERR.COUNT, LNI_ILLEGAL_WORD.COUNT, LNI_TEST_ERR.COUNT,
   LNI_PAY_LOSS_CNT.COUNT, XPT_IN_STATUS.WIN, XPT_IN_PHASE.PHASE_NS, XPT_IN_EVT.EXIT_OVF, XPT_IN_EVT.GUARD, XPT_IN_EVT.WIN_EXIT,
   XPT_OUT_EVT.UNSYNC_OVF, XPT_OUT_EVT.SWITCH_OVF, XPT_OUT_EVT.UNSYNC, XPT_OUT_EVT.SWITCH, XPT_IN_EXIT_CNT.COUNT,
   XPT_OUT_SWITCH_CNT.COUNT, XPT_OUT_UNSYNC_CNT.COUNT, KNL_ALLOC_EVT.LOSS]

/-- Steps of bring-up (R597 to R602). -/
def bringupFlds : List Fld :=
  [SYS_ID.ID, SYS_INFO.AE, SYS_INFO.STEP_MAJ, SYS_INFO.STEP_MIN, SYS_STATUS.READY, SYS_STATUS.HALTED,
   SYS_STATUS.DEGRADED, SYS_STATUS.STEP, SYS_BOOT_FAIL.CODE, SYS_BOOT_FAIL.STEP, SYS_BOOT_FAIL.UNIT, SYS_BOOT_TIME.TIME_US,
   SYS_FAIL_LGI.MAP, SYS_FAIL_LGO.MAP, SYS_FAIL_MISC.PST, SYS_FAIL_MISC.PST_ROW, SYS_FAIL_MISC.WATCH, SYS_FAIL_MISC.TWIN,
   SYS_FAIL_MISC.STACK, SYS_FAIL_MISC.ETH, SYS_FAIL_BANK.MAP, SYS_REMAP.REMAP, SYS_EVT.PST_REPAIR, SYS_EVT.DEGRADED, SYS_EVT.READY,
   SYS_IMG_BOOT.PREFER, PWR_EVT.WOKE, PWR_DOM.STATE, SHF_BUNDLE.N_MSG_M1, SHF_BUNDLE.BUILTIN, SHF_BUNDLE.VALID, SHF_BUNDLE.BCOUNTER_LO,
   SHF_RAISED.BY_CMD, SHF_RAISED.RAISED, SHF_SEQ.SEQ, SHF_RAISE_CNT.COUNT, SHF_CNT_FLAGS.RAISE_OVF, PIP_REF_CFG.LOCKOUT,
   PIP_REF_CFG.PRIO, PST_ROUTE.SOURCE, PST_LABEL.WORD, SEC_STATUS.EVAL_FIXED, SEC_STATUS.AE, SEC_STATUS.CLASS_REQ, SEC_AUDIT_NEW.ASEQ,
   SEC_AUDIT_OLD.ASEQ]

/-- A training attempt that fails (R66, R67). -/
def trainFailFlds : List Fld :=
  [LNI_STATUS.LAST_FAIL, LNI_STATUS.CLK_FWD, LNI_EVT.FALLBACK_FWD, LNI_EVT.NO_PARTNER,
   LNI_CNT_FLAGS.PROBE_OVF, LNI_CNT_FLAGS.TRAIN_FAIL_OVF, LNI_TRAIN_FAIL_CNT.COUNT, LNI_PROBE_CNT.COUNT, LNO_STATUS.LAST_FAIL,
   LNO_STATUS.CLK_FWD, LNO_EVT.FALLBACK_FWD, LNO_EVT.NO_PARTNER, LNO_CNT_FLAGS.PROBE_OVF, LNO_CNT_FLAGS.TRAIN_FAIL_OVF,
   LNO_TRAIN_FAIL_CNT.COUNT, LNO_PROBE_CNT.COUNT]

/-- A media packet handed to its port (R404, R409). -/
def mediaTxFlds : List Fld :=
  [ETH_PORT_STATUS.STEP, ETH_PORT_EVT.STEP_OVF, ETH_PORT_EVT.STEP, ETH_PORT_STEP_CHG_CNT.COUNT,
   ETH_LP_CNT_FLAGS.OVF, ETH_LP_MEDIA_PAUSE_DROP.COUNT, ETH_LP_TX_LINK_DROP.COUNT, FLW_TX_EVT.STAGE_DROP, FLW_TX_FLAGS.OVF,
   FLW_TX_FLAGS.WRAP, FLW_TX_PKTS.COUNT, FLW_TX_OCTETS.COUNT, FLW_TX_STANDBY.COUNT, FLW_TX_STAGE_DROP.COUNT]

/-- Records and latches applied at a frame boundary (R420, R452). -/
def recordFlds : List Fld :=
  [PWR_DOM.STATE, KNL_ALLOC_STATUS.FORMAT, KNL_ALLOC_STATUS.FROZEN, KNL_ALLOC_STATUS.LOSS,
   KNL_ALLOC_STATUS.VALID, KNL_ALLOC_EVT.RESTORE, ETH_PORT_STATUS.STEP, ETH_PORT_EVT.STEP_OVF, ETH_PORT_EVT.STEP,
   ETH_PORT_STEP_CHG_CNT.COUNT, FLW_RX_STATUS.EN, FLW_RX_STATUS.PAIRED, FLW_RX_STATUS.HOLD_WORDS, FLW_RX_STATUS.PATH_B_UP,
   FLW_RX_STATUS.PATH_A_UP, FLW_RX_STATUS.LOSS, FLW_RX_EVT.DAMAGED, FLW_RX_FLAGS.OVF, FLW_RX_REC.WORD, FLW_RX_DAMAGED.COUNT,
   FLW_TX_STATUS.EN, FLW_TX_STATUS.RATE_MBPS, FLW_TX_REC.WORD]

/-- The host function at its reset (R557). -/
def hostFnFlds : List Fld :=
  [HIF_CFG.CLR_CNT, HIF_STATUS.SLOTS_FULL, HIF_STATUS.OPEN, HIF_ACCESS_ERR.COUNT, HIF_CNT_FLAGS.ACCESS_OVF,
   HIF_ACCESS_LAST.WRITE, HIF_ACCESS_LAST.BAR2, HIF_ACCESS_LAST.OFFSET, HIF_EVT_STATUS.ARM, HIF_EVT_STATUS.UNDERRUN,
   HIF_EVT_STATUS.LEVEL, HIF_EVT_MASK.MASK, HIF_BAR2_KBASE.BASE, HIF_MSIX_MAP.VECTOR, HIF_SQ_BASE.ADDR, HIF_SQ_CFG.EN,
   HIF_SQ_CFG.SIZE_LOG2, HIF_SQ_TAIL.TAIL, HIF_SQ_HEAD.HEAD, HIF_SQ_STATUS.FAULT, HIF_SQ_STATUS.OPEN, HIF_CQ_BASE.ADDR,
   HIF_CQ_CFG.COAL_N, HIF_CQ_CFG.COAL_US, HIF_CQ_CFG.SIZE_LOG2, HIF_CQ_HEAD.HEAD, HIF_NET_TX_BASE.ADDR, HIF_NET_TX_CFG.EN,
   HIF_NET_TX_CFG.SIZE_LOG2, HIF_NET_TX_TAIL.TAIL, HIF_NET_TX_HEAD.HEAD, HIF_NET_RX_BASE.ADDR, HIF_NET_RX_CFG.EN,
   HIF_NET_RX_CFG.SIZE_LOG2, HIF_NET_RX_TAIL.TAIL, HIF_NET_RX_HEAD.HEAD]

/-- A route taken or copied (R165, R514). -/
def routeFlds : List Fld :=
  [LNI_STATUS.ATTEMPT, LNI_STATUS.STATE, LNI_EQ.PARTNER_PRESET, LNI_EQ.PRESET_REQ, LNO_CTL.TARGET_STATE,
   LNO_STATUS.ATTEMPT, LNO_STATUS.STATE, LNO_TX_CFG.PRESET_ACT, LNO_EVT.UP, LNO_PAY_CFG.TEST, XPT_OUT_STATE.MODE, XPT_OUT_STATE.PEND]

/-- A message raised by a loop, a request or the twin (R249, R253). -/
def raisedFlds : List Fld :=
  [SHF_BUNDLE.BUILTIN, SHF_RAISED.BY_CMD, SHF_RAISED.RAISED, SHF_RAISE_CNT.COUNT, SHF_CNT_FLAGS.RAISE_OVF,
   SEC_AUDIT_NEW.ASEQ, SEC_AUDIT_OLD.ASEQ]

/-- A switch of an output (R142, R147). -/
def outSwitchFlds : List Fld :=
  [XPT_OUT_STATE.FORMAT, XPT_OUT_STATE.MODE, XPT_OUT_EVT.UNSYNC_OVF, XPT_OUT_EVT.SWITCH_OVF,
   XPT_OUT_EVT.UNSYNC, XPT_OUT_EVT.SWITCH, XPT_OUT_SWITCH_CNT.COUNT, XPT_OUT_UNSYNC_CNT.COUNT]

/-- A frame received at a port (R357). -/
def macRxFlds : List Fld :=
  [ETH_PORT_EVT.STEP_OVF, ETH_PORT_STEP_CHG_CNT.COUNT, ETH_LP_CNT_FLAGS.OVF, ETH_LP_CNT_FLAGS.WRAP,
   ETH_LP_RX_OCTETS.COUNT, ETH_LP_RX_FRAMES.COUNT, ETH_LP_RX_MEDIA.COUNT, ETH_LP_RX_CTL.COUNT, ETH_LP_RUNT.COUNT, ETH_LP_OVERSIZE.COUNT,
   ETH_LP_FCS_ERR.COUNT, ETH_LP_ADDR_DROP.COUNT, ETH_LP_IP_HDR_ERR.COUNT, ETH_LP_UDP_CSUM_ERR.COUNT, ETH_LP_RX_NOBUF.COUNT,
   ETH_LP_FLUSH_DROP.COUNT, ETH_LP_PAUSE_RX.COUNT, ETH_LP_MEDIA_PAUSE_IGN.COUNT, ETH_LP_UNSUP_CTL.COUNT, ETH_LP_FEC_CORR.COUNT,
   ETH_LP_FEC_UNCORR.COUNT, ETH_MGMT_RX_DROP.COUNT, ETH_MGMT_FLAGS.RX_DROP_OVF]

/-- A step of local time (R458, R460). -/
def timeStepFlds : List Fld :=
  [XPT_OUT_STATE.PEND, FLW_RX_EVT.RESYNC, FLW_TX_EVT.TS_STEP, TIM_EVT.STEP_OVF, TIM_EVT.STEP_BACK,
   TIM_EVT.STEP, TIM_STEP_CNT.COUNT, TIM_LAST_STEP.STEP]

/-- An accumulator that overflows (R319). -/
def accovFlds : List Fld :=
  [REE_ENG_EVT.ACCOV_OVF, REE_ENG_EVT.ACCOV, REE_ENG_ACCOV_PC.VALID, REE_ENG_ACCOV_PC.ACC,
   REE_ENG_ACCOV_PC.PC, REE_ENG_ACCOV_CNT.COUNT]

/-- An allocation that a flow writes (R191, R405). -/
def kennelFlowFlds : List Fld :=
  [KNL_ALLOC_STATUS.FORMAT, KNL_ALLOC_STATUS.FROZEN, KNL_ALLOC_STATUS.LOSS, KNL_ALLOC_STATUS.VALID,
   KNL_ALLOC_EVT.RESTORE, FLW_RX_EVT.DAMAGED, FLW_RX_FLAGS.OVF, FLW_RX_DAMAGED.COUNT]

/-- HALTED (R602). -/
def haltFlds : List Fld :=
  [SYS_STATUS.READY, SYS_STATUS.HALTED, SYS_BOOT_FAIL.CODE, SYS_BOOT_FAIL.STEP, SYS_BOOT_FAIL.UNIT,
   SYS_FAIL_LGI.MAP, SYS_FAIL_LGO.MAP, SYS_FAIL_MISC.PST, SYS_FAIL_MISC.PST_ROW, SYS_FAIL_MISC.WATCH, SYS_FAIL_MISC.TWIN,
   SYS_FAIL_MISC.STACK, SYS_FAIL_MISC.ETH, SYS_FAIL_BANK.MAP, PWR_DOM.STATE]

/-- Counters of a received packet (R424). -/
def flowRxFlds : List Fld :=
  [FLW_PORT_NOFLOW.COUNT, FLW_PORT_FLAGS.NOFLOW_OVF, FLW_RX_FLAGS.WRAP, FLW_RX_PKTS.COUNT,
   FLW_RX_OCTETS.COUNT, FLW_RX_PKTS_A.COUNT, FLW_RX_PKTS_B.COUNT, FLW_RX_DUP.COUNT, FLW_RX_LATE.COUNT, FLW_RX_BAD_HDR.COUNT,
   FLW_RX_GAP_A.COUNT, FLW_RX_GAP_B.COUNT, FLW_RX_RESTART.COUNT]

/-- A refused access (R12). -/
def accessErrFlds : List Fld :=
  [HIF_ACCESS_ERR.COUNT, HIF_CNT_FLAGS.ACCESS_OVF, HIF_ACCESS_LAST.WRITE, HIF_ACCESS_LAST.BAR2,
   HIF_ACCESS_LAST.OFFSET]

/-- The state of a PTP port (R461). -/
def ptpStateFlds : List Fld :=
  [PIP_REF_EVT.ABSENT, TIM_PTP_STATUS.PORT_STATE, TIM_PTP_OFFS_SEC.OFFS_SEC, TIM_PTP_OFFS_NS.OFFS_NS,
   TIM_PTP_EVT.STATE]

/-- An input that leaves its window (R153). -/
def inExitFlds : List Fld :=
  [XPT_IN_STATUS.WIN, XPT_IN_PHASE.PHASE_NS, XPT_IN_EVT.EXIT_OVF, XPT_IN_EVT.GUARD, XPT_IN_EVT.WIN_EXIT,
   XPT_IN_EXIT_CNT.COUNT]

/-- What a training set names (R63). -/
def partnerFlds : List Fld :=
  [LNI_STATUS.POL_INV, LNI_PARTNER_LO.ID_LO, LNI_PARTNER_HI.PARTNER_LANE, LNI_PARTNER_HI.ID_HI,
   LNI_EVT.MODE_MISMATCH, LNI_EVT.MISWIRE, LNO_EVT.MODE_MISMATCH, LNO_EVT.MISWIRE]

/-- A GO of the request mailbox (R639 to R643). -/
def requestFlds : List Fld :=
  [SEC_SEQ.SEQ, SEC_AUDIT_NEW.ASEQ, SEC_AUDIT_OLD.ASEQ, SEC_REQ_CTL.OP_LAST, SEC_REQ_CTL.STATUS,
   SEC_AUTH_FAIL.COUNT, SEC_DENIED.COUNT, SEC_CNT_FLAGS.DENIED_OVF, SEC_CNT_FLAGS.AUTH_FAIL_OVF]

/-! ### The commands -/

/-- What a command of power, bring-up, resets and sleep may change beyond module time and the end of its step. -/
def powerFrame : Instr → Option (List Part × List Fld)
  | .powerGoodFall _ => some ([.powered], [SEC_CHAL_CTL.LOCKOUT_S])
  | .bringupStepEnd _ _ _ => some ([.lane, .xpt, .sec, .shf, .boot, .vault], deadFlds ++ laneFallFlds ++ retrainFlds ++ bringupFlds ++ [
      LNI_STATUS.CLK_FWD, LNO_STATUS.CLK_FWD, XPT_OUT_EVT.OVERRATE, SHF_CONTACT.B_OWN, SHF_CONTACT.A_OWN, SHF_FAULT_CNT.COUNT,
      SHF_CNT_FLAGS.FAULT_OVF, TWN_STATUS.LINK_FWD, PST_EVT.CORR_OVF, PST_CORR.COUNT, SEC_KEYS.SLOTS])
  | .bringupStepTimeout _ _ _ _ =>
    some ([.lane, .xpt, .sec, .shf, .boot, .vault], deadFlds ++ laneFallFlds ++ retrainFlds ++ bringupFlds ++ [
      LNI_STATUS.CLK_FWD, LNO_STATUS.CLK_FWD, XPT_OUT_EVT.OVERRATE, SHF_CONTACT.B_OWN, SHF_CONTACT.A_OWN, SHF_FAULT_CNT.COUNT,
      SHF_CNT_FLAGS.FAULT_OVF, TWN_STATUS.LINK_FWD, PST_EVT.CORR_OVF, PST_CORR.COUNT, SEC_KEYS.SLOTS])
  | .coldHoldRelease _ => some ([.boot], [])
  | .electronicFuseOpen _ => some ([.powered, .boot], [SEC_CHAL_CTL.LOCKOUT_S])
  | .softReset _ _ _ _ =>
    some ([.snap, .lane, .xpt, .cmp, .aud, .reed, .eth, .dbg, .sec, .shf, .boot, .mon, .evtLast, .pcie], moduleFlds ++ [
      SYS_RESET_CAUSE.CAUSE, PWR_WAKE.SLEPT])
  | .moduleResetProceed _ _ _ =>
    some ([.snap, .lane, .xpt, .cmp, .aud, .reed, .eth, .dbg, .sec, .shf, .boot, .mon, .evtLast, .pcie], moduleFlds ++ [
      SYS_RESET_CAUSE.CAUSE, PWR_WAKE.SLEPT])
  | .hostPerstN _ _ => some ([.eth, .evtLast, .pcie], fabErrFlds ++ hostFnFlds)
  | .functionLevelReset _ _ => some ([.eth, .evtLast, .pcie], fabErrFlds ++ hostFnFlds)
  | .d3hotEntry _ => some ([.pcie], [])
  | .d0Return _ => some ([.eth, .pcie], [HIF_NET_TX_HEAD.HEAD, HIF_NET_RX_HEAD.HEAD, ETH_MGMT_RX_DROP.COUNT, ETH_MGMT_FLAGS.RX_DROP_OVF])
  | .sleep _ _ _ => some ([.xpt, .cmp, .aud, .reed, .eth, .shf, .boot, .pcie], [SYS_STATUS.READY, PWR_EVT.SLEEP_REFUSED, PWR_DOM.STATE,
      XPT_OUT_STATE.PEND])
  | .sleepWake _ _ => some ([.snap, .lane, .xpt, .cmp, .aud, .reed, .eth, .dbg, .sec, .shf, .boot, .mon, .evtLast, .pcie], moduleFlds ++ [
      SYS_RESET_CAUSE.CAUSE, PWR_WAKE.SLEPT, PWR_WAKE.CAUSE])
  | .imageBootLoad _ _ => some ([.sec], [SYS_IMG_REFUSE.REASON, SYS_IMG_REFUSE_SECT.SECTION, SYS_IMG_EVT.REFUSED, SEC_AUDIT_NEW.ASEQ,
      SEC_AUDIT_OLD.ASEQ])
  | .imageReset _ _ _ =>
    some ([.lane, .xpt, .cmp, .aud, .reed, .eth, .dbg, .sec, .shf, .boot], imageFlds ++ runningFields ++ laneFields .inp ++ laneFields .out ++ inExitFlds ++ [
      SYS_IMG_EVT.FALLBACK, SYS_IMG_EVT.LOADED, HIF_NET_TX_HEAD.HEAD, XPT_IN_STATUS.FORMAT, XPT_OUT_EVT.UNSYNC_OVF,
      XPT_OUT_EVT.SWITCH_OVF, XPT_OUT_EVT.RESTORE_INVALID, XPT_OUT_EVT.OVERRATE, XPT_OUT_EVT.UNSYNC, XPT_OUT_EVT.SWITCH,
      XPT_OUT_SWITCH_CNT.COUNT, XPT_OUT_UNSYNC_CNT.COUNT, KNL_ALLOC_EVT.RESTORE, KNL_ALLOC_EVT.LOSS, SHF_HEAD.VISIBLE, SHF_HEAD.MSG,
      AUD_OUT_STATUS.INACTIVE, REE_LD_MS.MOMENTARY, REE_LD_MS.SHORT, REE_LD_INT.INTEGRATED, REE_LD_GATED.COUNT, ETH_PORT_EVT.STEP_OVF,
      ETH_PORT_EVT.STEP, ETH_PORT_EVT.LINK_DOWN, ETH_PORT_STEP_CHG_CNT.COUNT, ETH_LP_CTL.MEDIA_RX_BUSY, ETH_LP_CNT_FLAGS.OVF,
      ETH_LP_FLUSH_DROP.COUNT, ETH_LP_LINK_DOWN_CNT.COUNT, FLW_RX_STATUS.EN, FLW_RX_STATUS.PAIRED, FLW_RX_STATUS.HOLD_WORDS,
      FLW_RX_STATUS.PATH_B_UP, FLW_RX_STATUS.PATH_A_UP, FLW_RX_STATUS.LOSS, FLW_RX_EVT.DAMAGED, FLW_RX_FLAGS.OVF, FLW_RX_DAMAGED.COUNT,
      FLW_TX_STATUS.EN, FLW_TX_STATUS.SENDING, FLW_TX_STATUS.RATE_MBPS, PIP_EVT.FORCE_IGNORED, PIP_REF_CFG.LOCKOUT, PIP_REF_CFG.PRIO,
      PIP_REF_EVT.DISQ_OVF, PIP_REF_EVT.ABSENT, PIP_REF_EVT.DISQUAL, PIP_REF_DISQ_CNT.COUNT, PIP_PLANE_COUNT.COUNT, PIP_PLANE_DEV.DEV,
      TIM_PTP_EVT.STATE, TWN_STATUS.TWIN_PRESENT, TWN_STATUS.DIGEST_OK, SEC_AUDIT_NEW.ASEQ, SEC_AUDIT_OLD.ASEQ, DBG_ENG_STATUS.HALTED,
      DBG_ENG_STATUS.CAUSE, DBG_ENG_STATUS.BP_HIT])
  | _ => none

/-- What a command of the lanes may change beyond module time and the end of its step. -/
def laneFrame : Instr → Option (List Part × List Fld)
  | .signalDetectRise _ _ => some ([.lane, .xpt], laneFallFlds ++ [LNI_STATUS.ATTEMPT, LNI_STATUS.ONE_WAY_ACT, LNI_STATUS.CLK_FWD,
      LNI_STATUS.SIGDET, LNI_EVT.UP, LNO_STATUS.ONE_WAY_ACT, LNO_STATUS.CLK_FWD, XPT_OUT_EVT.OVERRATE])
  | .signalDetectFall _ _ => some ([.lane, .xpt], laneFallFlds ++ retrainFlds ++ trainFailFlds ++ [LNI_GRP_CFG.CLK_MODE_ACT,
      LNI_STATUS.SIGDET, LNI_EVT.LOCK_LOSS, LNI_CNT_FLAGS.LOCK_LOSS_OVF, LNI_LOCK_LOSS_CNT.COUNT, LNO_GRP_CFG.CLK_MODE_ACT,
      LNO_GRP_CFG.FC_OUT_ON, XPT_OUT_EVT.OVERRATE, TWN_STATUS.LINK_FWD])
  | .trainingSetRx _ _ _ _ _ _ _ => some ([.lane, .xpt, .freeCtr], laneFallFlds ++ retrainFlds ++ trainFailFlds ++ partnerFlds ++ [
      LNI_GRP_CFG.CLK_MODE_ACT, LNI_EQ.CTLE, LNI_EQ.DFE1, LNO_GRP_CFG.CLK_MODE_ACT, LNO_GRP_CFG.FC_OUT_ON, XPT_OUT_EVT.OVERRATE,
      TWN_STATUS.LINK_FWD])
  | .trainingAttemptTimeout _ _ _ => some ([.lane, .xpt], laneFallFlds ++ retrainFlds ++ trainFailFlds ++ [LNI_GRP_CFG.CLK_MODE_ACT,
      LNO_GRP_CFG.CLK_MODE_ACT, LNO_GRP_CFG.FC_OUT_ON, XPT_OUT_EVT.OVERRATE, TWN_STATUS.LINK_FWD])
  | .backoffExpire _ _ _ => some ([.lane, .xpt], laneFallFlds ++ [LNI_STATUS.ATTEMPT, LNI_STATUS.ONE_WAY_ACT, LNI_STATUS.CLK_FWD,
      LNO_STATUS.ATTEMPT, LNO_STATUS.ONE_WAY_ACT, LNO_STATUS.CLK_FWD, XPT_OUT_EVT.OVERRATE])
  | .quietProbeTimer _ _ _ => some ([.lane, .xpt], laneFallFlds ++ [LNI_STATUS.ONE_WAY_ACT, LNI_STATUS.CLK_FWD, LNO_STATUS.ONE_WAY_ACT,
      LNO_STATUS.CLK_FWD, XPT_OUT_EVT.OVERRATE])
  | .oneWayTrainTimer _ _ => some ([.lane], [LNI_STATUS.STATE, LNO_STATUS.STATE])
  | .laneBlockTx _ => some ([.lane, .xpt], [LNO_STATUS.ATTEMPT, LNO_STATUS.STATE, LNO_EVT.UP, LNO_CNT_FLAGS.FILL_WRAP,
      LNO_CNT_FLAGS.BLOCKS_WRAP, LNO_BLOCKS.COUNT, LNO_FILL_BLOCKS.COUNT, XPT_OUT_STATE.MODE])
  | .laneBlockRx _ _ _ _ _ => some ([.lane, .xpt, .aud, .freeCtr], laneRxFlds ++ [LNI_STATUS.ATTEMPT, LNI_STATUS.CDR_LOCK,
      LNI_STATUS.STATE, LNI_EVT.DOWN, LNI_EVT.UP, XPT_OUT_STATE.FORMAT, XPT_OUT_STATE.MODE, XPT_OUT_EVT.OVERRATE, KNL_ALLOC_STATUS.LOSS,
      KNL_ALLOC_EVT.ANC_OVF, KNL_ALLOC_EVT.ANC_DROP, KNL_ALLOC_ANC_DROP.COUNT, AUD_IN_STATUS.PKT_OVF, AUD_IN_STATUS.PKT_ERR,
      AUD_IN_STATUS.RATE_MISMATCH, AUD_IN_PKT_ERR_CNT.COUNT])
  | .alignmentTimeout _ _ => some ([.lane, .xpt], laneFallFlds ++ [LNI_EVT.LOCK_LOSS, LNI_CNT_FLAGS.LOCK_LOSS_OVF,
      LNI_LOCK_LOSS_CNT.COUNT, XPT_OUT_EVT.OVERRATE])
  | .cdrLockLoss _ _ => some ([.lane, .xpt], laneFallFlds ++ [LNI_EVT.LOCK_LOSS, LNI_CNT_FLAGS.LOCK_LOSS_OVF, LNI_LOCK_LOSS_CNT.COUNT,
      XPT_OUT_EVT.OVERRATE])
  | .fastRetrainTimeout _ _ _ => some ([.lane, .xpt], laneFallFlds ++ retrainFlds ++ [LNI_STATUS.LAST_FAIL, LNI_STATUS.CLK_FWD,
      LNI_CNT_FLAGS.TRAIN_FAIL_OVF, LNI_TRAIN_FAIL_CNT.COUNT, LNO_STATUS.LAST_FAIL, LNO_STATUS.CLK_FWD, LNO_CNT_FLAGS.TRAIN_FAIL_OVF,
      LNO_TRAIN_FAIL_CNT.COUNT, XPT_OUT_EVT.OVERRATE, TWN_STATUS.LINK_FWD])
  | .idleLimitExpire _ _ => some ([.lane, .xpt], laneFallFlds ++ retrainFlds ++ [LNI_STATUS.CLK_FWD, LNI_EVT.IDLE_TIMEOUT,
      LNO_STATUS.CLK_FWD, XPT_OUT_EVT.OVERRATE, TWN_STATUS.LINK_FWD])
  | .lniTargetState _ _ _ => some ([.lane, .xpt], laneFallFlds ++ retrainFlds ++ [LNI_CTL.TARGET_STATE, LNI_STATUS.CLK_FWD, LNI_EVT.UP,
      LNO_STATUS.CLK_FWD, XPT_OUT_EVT.OVERRATE, TWN_STATUS.LINK_FWD])
  | .lniRetrain _ _ => some ([.lane, .xpt], laneFallFlds ++ retrainFlds ++ [LNI_STATUS.CLK_FWD, LNO_STATUS.CLK_FWD, XPT_OUT_EVT.OVERRATE,
      TWN_STATUS.LINK_FWD])
  | .lniClrCnt _ => some ([], [LNI_CNT_FLAGS.GATED_OVF, LNI_CNT_FLAGS.PROBE_OVF, LNI_CNT_FLAGS.TRAIN_FAIL_OVF,
      LNI_CNT_FLAGS.LOCK_LOSS_OVF, LNI_CNT_FLAGS.REALIGN_OVF, LNI_CNT_FLAGS.CRC_OVF, LNI_CNT_FLAGS.DISP_OVF, LNI_CNT_FLAGS.CODE_OVF,
      LNI_CNT_FLAGS.BLOCKS_WRAP, LNI_BLOCKS.COUNT, LNI_CODE_ERR.COUNT, LNI_DISP_ERR.COUNT, LNI_CRC_ERR.COUNT, LNI_REALIGN_CNT.COUNT,
      LNI_LOCK_LOSS_CNT.COUNT, LNI_TRAIN_FAIL_CNT.COUNT, LNI_PROBE_CNT.COUNT, LNI_GATED_CNT.COUNT, LNI_PAY_FLAGS.PAY_LOSS_OVF,
      LNI_PAY_FLAGS.TEST_OVF, LNI_PAY_FLAGS.ILLEGAL_OVF, LNI_PAY_FLAGS.MODE_OVF, LNI_PAY_FLAGS.HDR_OVF, LNI_PAY_FLAGS.SEQ_OVF,
      LNI_SEQ_ERR.COUNT, LNI_HDR_ERR.COUNT, LNI_MODE_ERR.COUNT, LNI_ILLEGAL_WORD.COUNT, LNI_TEST_ERR.COUNT, LNI_PAY_LOSS_CNT.COUNT])
  | .lnoTargetState _ _ _ => some ([.lane, .xpt], laneFallFlds ++ retrainFlds ++ [LNI_STATUS.CLK_FWD, LNO_CTL.TARGET_STATE,
      LNO_STATUS.REFUSED, LNO_STATUS.CLK_FWD, LNO_EVT.UP, XPT_OUT_EVT.OVERRATE, TWN_STATUS.LINK_FWD])
  | .lnoRetrain _ _ => some ([.lane, .xpt], laneFallFlds ++ retrainFlds ++ [LNI_STATUS.CLK_FWD, LNO_STATUS.CLK_FWD, XPT_OUT_EVT.OVERRATE,
      TWN_STATUS.LINK_FWD])
  | .lnoClrCnt _ => some ([], [LNO_CNT_FLAGS.PROBE_OVF, LNO_CNT_FLAGS.TRAIN_FAIL_OVF, LNO_CNT_FLAGS.FILL_WRAP, LNO_CNT_FLAGS.BLOCKS_WRAP,
      LNO_BLOCKS.COUNT, LNO_FILL_BLOCKS.COUNT, LNO_TRAIN_FAIL_CNT.COUNT, LNO_PROBE_CNT.COUNT])
  | .lnoTest _ _ => some ([], [LNO_PAY_CFG.TEST_REFUSED, LNO_PAY_CFG.TEST])
  | _ => none

/-- What a command of the crosspoint and the kennel may change beyond module time and the end of its step. -/
def videoFrame : Instr → Option (List Part × List Fld)
  | .inputFrameEnd _ _ _ => some ([.lane, .xpt, .aud], outSwitchFlds ++ inExitFlds ++ [XPT_IN_STATUS.FORMAT, XPT_IN_EVT.FMT_CHANGE,
      XPT_OUT_EVT.OVERRATE, KNL_ALLOC_STATUS.FORMAT, KNL_ALLOC_STATUS.SIZE, KNL_ALLOC_STATUS.FROZEN, KNL_ALLOC_STATUS.LOSS,
      KNL_ALLOC_STATUS.VALID, KNL_ALLOC_EVT.SIZE, KNL_ALLOC_EVT.RESTORE, KNL_ALLOC_EVT.LOSS, KNL_MEAS_STATUS.VPID_MISMATCH,
      KNL_MEAS_STATUS.VPID_PRESENT, KNL_MEAS_STATUS.LOSS, KNL_MEAS_VPID.BYTE1, KNL_MEAS_VPID.BYTE2, KNL_MEAS_VPID.BYTE3,
      KNL_MEAS_VPID.BYTE4, KNL_MEAS_EVT.ERRF_OVF, KNL_MEAS_EVT.CRC_OVF, KNL_MEAS_EVT.VPID_CHANGE, KNL_MEAS_CRC_LINES.COUNT,
      KNL_MEAS_ERR_FRAMES.COUNT, AUD_IN_PRESENT.GROUPS])
  | .measurementHoldExpire _ _ _ => some ([.xpt], [KNL_MEAS_STATUS.FREEZE, KNL_MEAS_STATUS.BLACK, KNL_MEAS_STATUS.LOSS,
      KNL_MEAS_EVT.FREEZE, KNL_MEAS_EVT.BLACK, KNL_MEAS_EVT.LOSS])
  | .flowWriterTimeout _ _ => some ([.xpt], [KNL_ALLOC_STATUS.LOSS, KNL_ALLOC_EVT.LOSS])
  | .kennelReaderChoice _ _ _ => some ([.xpt, .eth], [XPT_OUT_STATE.FORMAT, KNL_ALLOC_STATUS.SELECT, KNL_ALLOC_STATUS.FROZEN,
      KNL_ALLOC_STATUS.BLACK_OUT, KNL_ALLOC_EVT.REPEAT_OVF, KNL_ALLOC_EVT.DROP_OVF, KNL_ALLOC_EVT.FMT, KNL_ALLOC_EVT.SLIP,
      KNL_ALLOC_DROP_CNT.COUNT, KNL_ALLOC_REPEAT_CNT.COUNT, FLW_TX_EVT.SKIP, FLW_TX_FLAGS.OVF, FLW_TX_SKIP.COUNT])
  | .armDeadline _ _ => some ([.xpt], [])
  | .switchingPoint _ _ _ => some ([.xpt], outSwitchFlds ++ [XPT_TAKE_CNT.COUNT, XPT_CNT_FLAGS.TAKE_WRAP, XPT_OUT_SRC.SOURCE,
      XPT_OUT_STATE.PEND, XPT_OUT_EVT.FALLBACK_OVF, XPT_OUT_EVT.OVERRATE, XPT_OUT_EVT.FMT, XPT_OUT_EVT.RETURN, XPT_OUT_EVT.FALLBACK,
      XPT_OUT_FALLBACK_CNT.COUNT, PST_ROUTE.SOURCE])
  | .windowExit _ _ => some ([.xpt], outSwitchFlds ++ inExitFlds ++ [XPT_OUT_EVT.OVERRATE])
  | .nofmtTimeout _ _ => some ([.xpt], outSwitchFlds ++ [KNL_ALLOC_STATUS.LOSS, KNL_ALLOC_EVT.LOSS])
  | .take _ _ _ => some ([.lane, .xpt, .sec], ringFlds ++ routeFlds ++ [LNI_STATUS.CLK_FWD, LNO_STATUS.CLK_FWD])
  | .salvo _ _ _ _ => some ([.lane, .xpt, .sec], ringFlds ++ routeFlds ++ [LNI_STATUS.CLK_FWD, LNO_STATUS.CLK_FWD])
  | .xptClrCnt => some ([], [XPT_TAKE_CNT.COUNT, XPT_CNT_FLAGS.TAKE_WRAP, XPT_IN_EVT.EXIT_OVF, XPT_OUT_EVT.FALLBACK_OVF,
      XPT_OUT_EVT.UNSYNC_OVF, XPT_OUT_EVT.SWITCH_OVF, XPT_IN_EXIT_CNT.COUNT, XPT_OUT_SWITCH_CNT.COUNT, XPT_OUT_UNSYNC_CNT.COUNT,
      XPT_OUT_FALLBACK_CNT.COUNT])
  | .freeze _ _ _ => some ([.xpt, .sec], ringFlds)
  | .unfreeze _ _ _ => some ([.xpt, .sec], ringFlds)
  | .capture _ _ _ => some ([.xpt, .sec], ringFlds)
  | .captureDone _ _ => some ([.xpt], [KNL_ALLOC_STATUS.FORMAT, KNL_ALLOC_STATUS.VALID])
  | .stillSelect _ _ _ => some ([.xpt, .sec], ringFlds ++ [KNL_ALLOC_STATUS.SELECT])
  | .knlClrCnt => some ([], [KNL_ALLOC_EVT.ANC_OVF, KNL_ALLOC_EVT.REPEAT_OVF, KNL_ALLOC_EVT.DROP_OVF, KNL_ALLOC_DROP_CNT.COUNT,
      KNL_ALLOC_REPEAT_CNT.COUNT, KNL_MEAS_EVT.ERRF_OVF, KNL_MEAS_EVT.CRC_OVF, KNL_MEAS_CRC_LINES.COUNT, KNL_MEAS_ERR_FRAMES.COUNT,
      KNL_ALLOC_ANC_DROP.COUNT])
  | _ => none

/-- What a command of the composition engines and the shofar may change beyond module time and the end of its step. -/
def compositionFrame : Instr → Option (List Part × List Fld)
  | .headFrameBoundary _ _ _ => some ([.xpt, .cmp, .shf], [XPT_TAKE_CNT.COUNT, XPT_CNT_FLAGS.TAKE_WRAP, XPT_OUT_SRC.SOURCE,
      XPT_OUT_STATE.PEND, XPT_OUT_EVT.SWITCH_OVF, XPT_OUT_EVT.SWITCH, XPT_OUT_SWITCH_CNT.COUNT, CMP_ENG_STATUS.LB_USED,
      CMP_ENG_LOAD.READ_KPPS, CMP_ENG_EVT.COMMIT_OVF, CMP_ENG_EVT.COMMIT, CMP_ENG_COMMIT_CNT.COUNT, CMP_HEAD_ACT1.WORD,
      CMP_HEAD_ACT2.WORD, CMP_LAYER.WORD, CMP_LAYER_STATUS.SRC_FORMAT, CMP_LAYER_STATUS.STATE, CMP_LAYER_EVT.FB_OVF,
      CMP_LAYER_EVT.NOT_READY_OVF, CMP_LAYER_EVT.COLOUR, CMP_LAYER_EVT.RECOVER, CMP_LAYER_EVT.FALLBACK, CMP_LAYER_EVT.NOT_READY,
      CMP_LAYER_NOT_READY_CNT.COUNT, CMP_LAYER_FB_CNT.COUNT, SHF_HEAD.VISIBLE, SHF_HEAD.MSG, PST_ROUTE.SOURCE])
  | .cmpShadow _ _ _ _ => some ([.cmp, .sec], ringFlds ++ [CMP_ENG_EVT.REFUSE_OVF, CMP_ENG_EVT.REFUSED, CMP_ENG_REFUSE_CNT.COUNT,
      CMP_HEAD_SHD1.WORD, CMP_HEAD_SHD2.WORD, CMP_LAYER.WORD])
  | .cmpCommit _ _ _ => some ([.cmp, .sec], ringFlds ++ [CMP_ENG_EVT.REFUSE_OVF, CMP_ENG_EVT.REFUSED, CMP_ENG_REFUSE_CNT.COUNT])
  | .cmpClrCnt => some ([], [CMP_ENG_EVT.REFUSE_OVF, CMP_ENG_EVT.COMMIT_OVF, CMP_ENG_COMMIT_CNT.COUNT, CMP_ENG_REFUSE_CNT.COUNT,
      CMP_LAYER_EVT.FB_OVF, CMP_LAYER_EVT.NOT_READY_OVF, CMP_LAYER_NOT_READY_CNT.COUNT, CMP_LAYER_FB_CNT.COUNT])
  | .bundleLoad _ _ _ _ => some ([.sec, .shf], ringFlds)
  | .bundleInForce _ _ _ => some ([.sec, .shf], raisedFlds ++ [SHF_BUNDLE.N_MSG_M1, SHF_BUNDLE.VALID, SHF_BUNDLE.BCOUNTER_LO,
      SHF_AUTH_FAIL_CNT.COUNT, SHF_CNT_FLAGS.AUTH_FAIL_OVF])
  | .shofarReq _ _ _ _ => some ([.sec, .shf], ringFlds)
  | .shofarReqChecked _ _ _ => some ([.sec, .shf], raisedFlds ++ [SHF_SEQ.SEQ, SHF_AUTH_FAIL_CNT.COUNT, SHF_CNT_FLAGS.AUTH_FAIL_OVF])
  | .alarmLoopSample _ _ _ => some ([.shf], [])
  | .alarmLoopGapTimeout _ _ => some ([.shf], [])
  | .contactDebounceDone _ _ _ => some ([.sec, .shf], raisedFlds ++ [SHF_CONTACT.B_OWN, SHF_CONTACT.A_OWN, SHF_FAULT_CNT.COUNT,
      SHF_CNT_FLAGS.FAULT_OVF])
  | .contactRestoreExpire _ _ _ => some ([.sec, .shf], [SHF_BUNDLE.BUILTIN, SHF_RAISED.BY_CMD, SHF_RAISED.RAISED, SEC_AUDIT_NEW.ASEQ,
      SEC_AUDIT_OLD.ASEQ])
  | _ => none

/-- What a command of audio, the reed engines and the meters may change beyond module time and the end of its step. -/
def mediaFrame : Instr → Option (List Part × List Fld)
  | .audioBlockBoundary _ => some ([.xpt, .aud, .reed, .eth, .dbg], recordFlds ++ [AUD_BLOCK.COUNT, AUD_IN_MASK.GROUPS,
      AUD_IN_STATUS.SLIP_OVF, AUD_IN_STATUS.LOSS, AUD_IN_STATUS.SLIP, AUD_IN_SLIP_CNT.COUNT, AUD_OUT_RINGS.GROUPS, AUD_OUT_MUTE.GROUPS,
      AUD_OUT_STATUS.INACTIVE, AUD_RING_CFG.LEN_LOG2, AUD_RING_CFG.PEND_LOG2, AUD_RING_STATUS.NONPCM_FILL, AUD_RING_STATUS.LAT_CLAMP,
      AUD_RING_STATUS.LEN_APPLIED, AUD_RING_STATUS.PEND, AUD_RING_STATUS.DATA, AUD_RING_STATUS.MUTE, REE_ENG_STATUS.STATE,
      REE_ENG_EVT.OVERRUN_OVF, REE_ENG_EVT.OVERRUN, REE_ENG_OVERRUN_CNT.COUNT, REE_PK_MAX.PEAK_MAX, REE_PK_TP_MAX.TP_MAX,
      REE_PK_100.PEAK_100, REE_LD_CTL.GATED_OVF, REE_LD_MS.MOMENTARY, REE_LD_MS.SHORT, REE_LD_INT.INTEGRATED, REE_LD_MAX.M_MAX,
      REE_LD_MAX.S_MAX, REE_LD_GATED.COUNT, REE_COEF.COEF, FLW_RX_EVT.SLIP, FLW_RX_EVT.LOSS, FLW_RX_SLIP.COUNT, FLW_RX_CONCEAL.COUNT,
      DBG_ENG_STATUS.HALTED, DBG_ENG_STATUS.CAUSE, DBG_ENG_STATUS.PC, DBG_EVT.HALT])
  | .audMap _ _ _ _ => some ([.aud, .sec], ringFlds)
  | .audClrCnt => some ([], [AUD_IN_STATUS.PKT_OVF, AUD_IN_STATUS.SLIP_OVF, AUD_IN_SLIP_CNT.COUNT, AUD_IN_PKT_ERR_CNT.COUNT])
  | .reedNop _ => some ([.reed], [])
  | .reedEnd _ => some ([.reed], [REE_ENG_STATUS.LAST_CYCLES, REE_ENG_EVT.BLOCKS_WRAP, REE_ENG_BLOCKS.COUNT, REE_COEF.COEF])
  | .setx _ => some ([.reed], [])
  | .addx _ => some ([.reed], [])
  | .loop _ => some ([.reed], [])
  | .ldi _ => some ([.reed], [])
  | .sto _ => some ([.reed], [])
  | .lds _ => some ([.reed], [])
  | .sts _ => some ([.reed], [])
  | .lda _ => some ([.reed], [])
  | .sta _ => some ([.reed], [REE_ENG_EVT.SAT_OVF, REE_ENG_EVT.SAT, REE_ENG_SAT_CNT.COUNT])
  | .clr _ => some ([.reed], [])
  | .mul _ => some ([.reed], [])
  | .mac _ => some ([.reed], accovFlds)
  | .msu _ => some ([.reed], accovFlds)
  | .macr _ => some ([.reed], accovFlds)
  | .macv _ => some ([.reed], accovFlds)
  | .biq _ => some ([.reed], accovFlds ++ [REE_ENG_EVT.SAT_OVF, REE_ENG_EVT.SAT, REE_ENG_SAT_CNT.COUNT])
  | .tlu _ => some ([.reed], [REE_ENG_EVT.SAT_OVF, REE_ENG_EVT.SAT, REE_ENG_SAT_CNT.COUNT])
  | .valu _ => some ([.reed], [REE_ENG_EVT.SAT_OVF, REE_ENG_EVT.SAT, REE_ENG_SAT_CNT.COUNT])
  | .reeWrite _ _ _ _ => some ([.reed, .sec], ringFlds)
  | .reeClrCnt => some ([], [REE_ENG_EVT.BLOCKS_WRAP, REE_ENG_EVT.OVERRUN_OVF, REE_ENG_EVT.SAT_OVF, REE_ENG_EVT.ACCOV_OVF,
      REE_ENG_ACCOV_CNT.COUNT, REE_ENG_SAT_CNT.COUNT, REE_ENG_OVERRUN_CNT.COUNT, REE_ENG_BLOCKS.COUNT])
  | .pkClrMax _ => some ([.reed], [])
  | .ldClrMax _ => some ([.reed], [])
  | .ldResetInt _ => some ([.reed], [REE_LD_INT.INTEGRATED, REE_LD_GATED.COUNT])
  | .meterConfigWrite _ _ => some ([], [REE_PK_CFG.EN, REE_PK_CFG.PAIR96, REE_PK_CFG.RING, REE_LD_CH0.WEIGHT, REE_LD_CH0.PAIR96,
      REE_LD_CH0.RING, REE_LD_CH1.WEIGHT, REE_LD_CH1.PAIR96, REE_LD_CH1.RING, REE_LD_CH2.WEIGHT, REE_LD_CH2.PAIR96, REE_LD_CH2.RING,
      REE_LD_CH3.WEIGHT, REE_LD_CH3.PAIR96, REE_LD_CH3.RING, REE_LD_CH4.WEIGHT, REE_LD_CH4.PAIR96, REE_LD_CH4.RING, REE_LD_CH5.WEIGHT,
      REE_LD_CH5.PAIR96, REE_LD_CH5.RING, REE_LD_CH6.WEIGHT, REE_LD_CH6.PAIR96, REE_LD_CH6.RING, REE_LD_CH7.WEIGHT, REE_LD_CH7.PAIR96,
      REE_LD_CH7.RING, REE_LD_CTL.EN])
  | _ => none

/-- What a command of the Ethernet ports and the flows may change beyond module time and the end of its step. -/
def networkFrame : Instr → Option (List Part × List Fld)
  | .macFrameRx _ _ _ _ _ _ _ => some ([.eth], macRxFlds ++ [HIF_NET_RX_HEAD.HEAD, ETH_PORT_STATUS.STEP, ETH_PORT_EVT.RX_NOBUF,
      ETH_PORT_EVT.STEP])
  | .pauseTakeEffect _ _ => some ([.eth], [ETH_PORT_STATUS.PAUSED])
  | .pauseTimerExpire _ _ => some ([.eth], [ETH_PORT_STATUS.PAUSED])
  | .macFrameTx _ _ => some ([.eth], [HIF_NET_TX_HEAD.HEAD, ETH_PORT_STATUS.PAUSED, ETH_LP_CNT_FLAGS.OVF, ETH_LP_CNT_FLAGS.WRAP,
      ETH_LP_TX_OCTETS.COUNT, ETH_LP_TX_FRAMES.COUNT, ETH_LP_OVERSIZE.COUNT, ETH_LP_MEDIA_PAUSE_DROP.COUNT, ETH_LP_UNSUP_CTL.COUNT,
      ETH_LP_TX_LINK_DROP.COUNT])
  | .linkUp _ _ _ => some ([], [PWR_DOM.STATE, ETH_PORT_STATUS.LINK, ETH_PORT_STATUS.RFAULT, ETH_PORT_STATUS.LFAULT,
      ETH_PORT_EVT.LINK_UP])
  | .linkDown _ _ _ => some ([], [ETH_PORT_STATUS.LINK, ETH_PORT_STATUS.LFAULT, ETH_PORT_EVT.LINK_DOWN, ETH_LP_CNT_FLAGS.OVF,
      ETH_LP_LINK_DOWN_CNT.COUNT])
  | .ethStepWindow _ _ => some ([.eth], [ETH_PORT_STATUS.STEP, ETH_PORT_EVT.STEP_OVF, ETH_PORT_EVT.STEP, ETH_PORT_STEP_CHG_CNT.COUNT])
  | .ethPortIdleTimeout _ _ => some ([.eth], [PWR_DOM.STATE, ETH_PORT_STATUS.STEP, ETH_PORT_EVT.STEP_OVF, ETH_PORT_EVT.STEP,
      ETH_PORT_STEP_CHG_CNT.COUNT])
  | .flushMediaRx _ _ => some ([.eth], [ETH_LP_CTL.MEDIA_RX_BUSY, ETH_LP_CNT_FLAGS.OVF, ETH_LP_FLUSH_DROP.COUNT])
  | .flushCtlRx _ _ => some ([.eth], [ETH_LP_CTL.CTL_RX_BUSY, ETH_LP_CNT_FLAGS.OVF, ETH_LP_FLUSH_DROP.COUNT])
  | .flushCtlTx _ _ => some ([.eth], [HIF_NET_TX_HEAD.HEAD, ETH_LP_CTL.CTL_TX_BUSY, ETH_LP_CNT_FLAGS.OVF, ETH_LP_FLUSH_DROP.COUNT])
  | .flushDone _ _ _ => some ([], [ETH_PORT_EVT.FLUSH_DONE, ETH_LP_CTL.CTL_TX_BUSY, ETH_LP_CTL.CTL_RX_BUSY, ETH_LP_CTL.MEDIA_RX_BUSY])
  | .ethClrCnt => some ([], macRxFlds ++ [ETH_LP_TX_OCTETS.COUNT, ETH_LP_TX_FRAMES.COUNT, ETH_LP_MEDIA_PAUSE_DROP.COUNT,
      ETH_LP_TX_LINK_DROP.COUNT, ETH_LP_LINK_DOWN_CNT.COUNT])
  | .snapArm => some ([], [MON_SNAP_STATUS.ARMED])
  | .snapHold _ => some ([], [MON_SNAP_CTL.HOLD])
  | .snapshotBoundary _ => some ([.snap, .eth], [MON_SNAP_STATUS.COPYING, MON_SNAP_STATUS.ARMED])
  | .snapshotCopyDone _ => some ([.eth], [MON_SNAP_STATUS.COPYING, MON_SNAP_SEQ.SEQ, MON_SNAP_SEC.SEC, MON_SNAP_NS.NS])
  | .flowPacketRx _ _ _ => some ([.xpt, .aud, .eth], kennelFlowFlds ++ flowRxFlds ++ [KNL_ALLOC_STATUS.SIZE, KNL_ALLOC_EVT.ANC_OVF,
      KNL_ALLOC_EVT.ANC_DROP, KNL_ALLOC_EVT.SIZE, KNL_ALLOC_ANC_DROP.COUNT, FLW_RX_STATUS.PATH_B_UP, FLW_RX_STATUS.PATH_A_UP,
      FLW_RX_STATUS.LOSS, FLW_RX_EVT.RESTART, FLW_RX_EVT.PATH_UP, FLW_RX_EVT.RESTORE])
  | .positionLost _ _ => some ([.xpt, .eth], kennelFlowFlds ++ [FLW_RX_LOST.COUNT])
  | .pathDownTimeout _ _ _ => some ([], [FLW_RX_STATUS.PATH_B_UP, FLW_RX_STATUS.PATH_A_UP, FLW_RX_STATUS.LOSS, FLW_RX_EVT.PATH_DOWN,
      FLW_RX_EVT.LOSS])
  | .flowVideoPacketTx _ _ => some ([.eth], mediaTxFlds)
  | .flowAncPacketTx _ _ _ _ => some ([.eth], mediaTxFlds)
  | .flowAudioPacketTx _ _ => some ([.eth], mediaTxFlds)
  | .opaqueRelayTx _ _ => some ([.eth], mediaTxFlds)
  | .flwCtx _ _ _ _ => some ([.eth, .sec], ringFlds)
  | .flwRxRecordCommit _ => some ([.xpt, .aud, .eth], recordFlds)
  | .flwClrCnt => some ([], flowRxFlds ++ [FLW_RX_FLAGS.OVF, FLW_RX_LOST.COUNT, FLW_RX_DAMAGED.COUNT, FLW_RX_SLIP.COUNT,
      FLW_RX_CONCEAL.COUNT, FLW_TX_FLAGS.OVF, FLW_TX_FLAGS.WRAP, FLW_TX_PKTS.COUNT, FLW_TX_OCTETS.COUNT, FLW_TX_STANDBY.COUNT,
      FLW_TX_SKIP.COUNT, FLW_TX_STAGE_DROP.COUNT])
  | _ => none

/-- What a command of the Pitch Pipe, local time and PTP may change beyond module time and the end of its step. -/
def timeFrame : Instr → Option (List Part × List Fld)
  | .refActivityLoss _ _ => some ([], refFlds ++ [PIP_REF_EVT.ABSENT])
  | .refWindowUpdate _ _ _ => some ([], refFlds ++ [PIP_REF_EVT.WARN, PIP_REF_EVT.ABSENT])
  | .refWtrExpire _ _ => some ([], [PIP_REF_STATUS.WTR_LEFT, PIP_REF_STATUS.QUAL, PIP_REF_EVT.QUALIFY])
  | .transitionMeasureEnd _ => some ([], [PIP_EVT.SWITCH_OVF, PIP_EVT.LOCKED, PIP_EVT.SWITCH, PIP_SWITCH_CNT.COUNT])
  | .pipForceEn _ _ _ => some ([], [PIP_CTL.FORCE_EN, PIP_CTL.FORCE_REF, PIP_EVT.FORCE_IGNORED])
  | .pipForceHold _ _ => some ([], [PIP_CTL.FORCE_HOLD])
  | .refPrioWrite _ _ _ _ _ => some ([], [PIP_EVT.FORCE_IGNORED, PIP_REF_CFG.LOCKOUT, PIP_REF_CFG.PRIO])
  | .pipClrCnt => some ([], [PIP_EVT.SWITCH_OVF, PIP_SWITCH_CNT.COUNT, PIP_REF_EVT.DISQ_OVF, PIP_REF_DISQ_CNT.COUNT])
  | .planeFrameBoundary _ _ _ =>
    some ([.timeOff, .lane, .xpt, .cmp, .aud, .reed, .eth, .shf, .freeCtr], recordFlds ++ outSwitchFlds ++ timeStepFlds ++ inExitFlds ++ [
      XPT_IN_EVT.WIN_ENTER, XPT_OUT_EVT.OVERRATE, PIP_PLANE_STATUS.MISMATCH, PIP_PLANE_STATUS.STATE, PIP_PLANE_ERR.ERR_NS,
      PIP_PLANE_COUNT.COUNT, PIP_PLANE_DEV.DEV, PIP_PLANE_EVT.MISMATCH, PIP_PLANE_EVT.HARD, PIP_PLANE_EVT.ALIGNED,
      PIP_PLANE_EVT.SLEW_START])
  | .hardRealign _ _ => some ([], [])
  | .pulseEvent _ _ _ => some ([], [])
  | .pulseConfigWrite _ _ _ _ => some ([], [PIP_PULSE_CFG.EN, PIP_PULSE_CFG.POL, PIP_PULSE_CFG.WIDTH, PIP_PULSE_CFG.SRC,
      PIP_PULSE_OFFSET.OFFSET_NS])
  | .timeServoUpdate _ _ => some ([.timeOff, .xpt, .cmp, .aud, .reed, .eth, .shf, .freeCtr], timeStepFlds)
  | .localTimeSecond _ => some ([.timeOff, .xpt, .cmp, .aud, .reed, .eth, .shf], timeStepFlds ++ [TIM_STATUS.SET_PEND, TIM_EVT.SET_DONE,
      SEC_GRANT_A.VALID])
  | .timSetApply _ => some ([], [TIM_STATUS.SET_PEND, TIM_EVT.SET_REFUSED])
  | .timClrCnt => some ([], [TIM_EVT.STEP_OVF, TIM_STEP_CNT.COUNT, TIM_PTP_EVT.TIMEOUT_OVF, TIM_PTP_TIMEOUT_CNT.COUNT])
  | .ptpCfgWrite _ _ _ => some ([], refFlds ++ ptpStateFlds ++ [TIM_PTP_CFG.DELAY_UC, TIM_PTP_CFG.PCP, TIM_PTP_CFG.TAG, TIM_PTP_CFG.VID,
      TIM_PTP_CFG.LP, TIM_PTP_CFG.DOMAIN])
  | .ptpMessageRx _ _ _ _ _ => some ([], refFlds ++ ptpStateFlds ++ [TIM_PTP_STATUS.UTC_VALID, TIM_PTP_STATUS.STEPS_REMOVED,
      TIM_PTP_STATUS.UTC_OFFSET, TIM_PTP_GM.GM_ID, TIM_PTP_MPD.MPD_NS, TIM_PTP_EVT.GM_CHANGE])
  | .announceTimeout _ _ => some ([], refFlds ++ ptpStateFlds ++ [TIM_PTP_EVT.TIMEOUT_OVF, TIM_PTP_EVT.TIMEOUT,
      TIM_PTP_TIMEOUT_CNT.COUNT])
  | _ => none

/-- What a command of the twin may change beyond module time and the end of its step. -/
def twinFrame : Instr → Option (List Part × List Fld)
  | .barkTx _ => some ([.timeOff, .lane, .xpt, .cmp, .aud, .reed, .eth, .sec, .shf, .freeCtr], refFlds ++ raisedFlds ++ timeStepFlds ++ [
      SHF_CONTACT.B_TWIN, SHF_CONTACT.A_TWIN, PIP_REF_EVT.ABSENT, TWN_LINK_MISS_CNT.COUNT, TWN_WATCH_MISS_CNT.COUNT])
  | .bootBark _ => some ([], [])
  | .barkRx _ _ _ => some ([.lane, .sec, .shf, .freeCtr], raisedFlds ++ [LNO_STATUS.ATTEMPT, LNO_STATUS.STATE, LNO_EVT.UP,
      XPT_OUT_STATE.MODE, SHF_CONTACT.B_TWIN, SHF_CONTACT.A_TWIN, TWN_STATUS.TWIN_PRESENT, TWN_STATUS.TWIN_ROLE, TWN_STATUS.TWIN_CLAIM,
      TWN_STATUS.TWIN_FIT, TWN_STATUS.LINK_UP, TWN_STATUS.WATCH_UP, TWN_STATUS.WITHDRAWN, TWN_STATUS.DIGEST_OK, TWN_PHASE.PHASE_NS,
      TWN_LINK_DELAY.DELAY_NS, TWN_EVT.PAIR_MISMATCH, TWN_EVT.DOUBLE_CLAIM, TWN_EVT.PATH, TWN_DOUBLE_CLAIM_CNT.COUNT])
  | .pathLost _ _ => some ([], refFlds ++ [PIP_REF_EVT.ABSENT, TWN_STATUS.LINK_UP, TWN_STATUS.WATCH_UP, TWN_PHASE.PHASE_NS, TWN_EVT.PATH,
      TWN_EVT.TWIN_LOST])
  | .handshakeTimeout _ => some ([], [TWN_STATUS.TWIN_PRESENT])
  | .evidenceTimer _ => some ([], [])
  | .claimWatchdogExpiry _ => some ([], [])
  | .yieldTimer _ => some ([], [LNO_STATUS.STATE, LNO_EVT.DOWN, TWN_STATUS.WITHDRAWN])
  | .withdrawEnd _ => some ([.lane], [LNO_STATUS.ATTEMPT, LNO_STATUS.STATE, LNO_EVT.UP, XPT_OUT_STATE.MODE, TWN_STATUS.WITHDRAWN])
  | .lockstepMismatch _ _ _ => some ([.shf, .boot, .vault], deadFlds ++ fabErrFlds ++ haltFlds)
  | .fitRestoreTimer _ _ => some ([], [])
  | .mirror _ _ => some ([.lane, .xpt, .cmp, .aud, .reed, .eth, .shf], routeFlds ++ [LNI_STATUS.CLK_FWD, LNO_STATUS.CLK_FWD,
      KNL_ALLOC_STATUS.SELECT, CMP_HEAD_SHD1.WORD, CMP_HEAD_SHD2.WORD, CMP_LAYER.WORD, TWN_RING_LAST.VALID, TWN_RING_LAST.INDEX])
  | .mirrorAck _ _ => some ([], [])
  | .commitRpt _ _ _ => some ([], [])
  | .decision _ _ => some ([.xpt, .cmp, .aud, .reed, .eth, .shf], kennelFlowFlds ++ [XPT_OUT_STATE.PEND, TWN_EVT.DECIDE_LATE,
      TWN_DECIDE_LATE_CNT.COUNT])
  | .health _ _ => some ([], [TWN_STATUS.DIGEST_OK, TWN_EVT.PAIR_MISMATCH, TWN_HEALTH_TWIN.WORD])
  | .resyncReq _ _ => some ([], [])
  | .resyncAck _ _ => some ([], [])
  | .state _ _ _ => some ([.lane, .xpt, .cmp, .aud, .reed, .eth, .sec, .shf], routeFlds ++ raisedFlds ++ [LNI_STATUS.CLK_FWD,
      LNO_STATUS.CLK_FWD, XPT_OUT_EVT.RESTORE_INVALID, KNL_ALLOC_STATUS.FORMAT, KNL_ALLOC_STATUS.SELECT, KNL_ALLOC_STATUS.VALID,
      CMP_HEAD_SHD1.WORD, CMP_HEAD_SHD2.WORD, CMP_LAYER.WORD, SHF_BUNDLE.N_MSG_M1, SHF_BUNDLE.VALID, SHF_BUNDLE.BCOUNTER_LO, SHF_SEQ.SEQ])
  | .stateAck _ => some ([], [])
  | .messageRetransmit _ => some ([], [])
  | .healthRecordTx _ => some ([], [TWN_HEALTH_OWN.WORD])
  | .sniffCycleStart _ _ => some ([], [TWN_EVT.SNIFF_FAIL, TWN_SNIFF_FAIL_CNT.COUNT, PST_EVT.CORR_OVF, PST_EVT.ROW_ERR,
      PST_CORR.COUNT])
  | .twnYield _ => some ([], [TWN_EVT.TAKE_REFUSED])
  | .twnTake _ => some ([], [TWN_EVT.TAKE_REFUSED])
  | .twnResync _ => some ([], [])
  | .twnFeedBoth _ _ => some ([], [TWN_CTL.FEED_BOTH])
  | .twnClrCnt => some ([], [TWN_LINK_MISS_CNT.COUNT, TWN_WATCH_MISS_CNT.COUNT, TWN_DOUBLE_CLAIM_CNT.COUNT, TWN_DECIDE_LATE_CNT.COUNT,
      TWN_SNIFF_FAIL_CNT.COUNT])
  | _ => none

/-- What a command of the host interface may change beyond module time and the end of its step. -/
def hostFrame : Instr → Option (List Part × List Fld)
  | .sqDoorbell _ _ _ => some ([], [HIF_SQ_TAIL.TAIL, HIF_SQ_STATUS.FAULT])
  | .sqReadError _ _ _ => some ([], fabErrFlds ++ [HIF_SQ_STATUS.FAULT])
  | .sqEnable _ _ _ => some ([.pcie], accessErrFlds ++ [HIF_SQ_CFG.EN, HIF_SQ_CFG.SIZE_LOG2, HIF_SQ_HEAD.HEAD])
  | .cqHeadWrite _ _ _ => some ([], [HIF_CQ_HEAD.HEAD])
  | .nop _ _ _ => some ([.sec], ringFlds)
  | .fence _ _ _ => some ([.sec], ringFlds)
  | .eventPop => some ([.evtLast], [HIF_EVT_STATUS.UNDERRUN])
  | .eventArm => some ([], [])
  | .accessErrRead => some ([.pcie], [])
  | .msixCoalesceTimeout _ _ => some ([], [])
  | .netTxDoorbell _ _ _ _ => some ([.eth], [HIF_NET_TX_TAIL.TAIL, HIF_NET_TX_HEAD.HEAD])
  | .netTxReadError _ _ _ => some ([.eth], fabErrFlds ++ [HIF_NET_TX_HEAD.HEAD])
  | .netRxTail _ _ _ _ => some ([.eth], [HIF_NET_RX_TAIL.TAIL])
  | .hifClrCnt => some ([], [HIF_ACCESS_ERR.COUNT, HIF_CNT_FLAGS.ACCESS_OVF])
  | .bar0AccessRefused _ _ _ _ => some ([.pcie], accessErrFlds)
  | .bar2Access _ _ _ _ => some ([.xpt, .aud, .pcie, .freeCtr], accessErrFlds ++ [KNL_ALLOC_STATUS.FORMAT, KNL_ALLOC_STATUS.VALID])
  | .registerWrite _ _ _ _ =>
    some ([.snap, .lane, .xpt, .cmp, .aud, .reed, .eth, .dbg, .sec, .shf, .boot, .mon, .evtLast, .pcie, .freeCtr], moduleFlds ++ securityFlds ++ [
      SYS_IMG_RB_STORED.VALUE])
  | _ => none

/-- What a command of images, labels and the security unit may change beyond module time and the end of its step. -/
def storeFrame : Instr → Option (List Part × List Fld)
  | .imageWrite _ _ _ _ _ => some ([.sec], ringFlds ++ [SYS_IMG_SLOT_A.STATE, SYS_IMG_SLOT_A.DIGEST16, SYS_IMG_SLOT_B.STATE,
      SYS_IMG_SLOT_B.DIGEST16, SYS_IMG_SLOT_RB_A.VALUE, SYS_IMG_SLOT_RB_B.VALUE, SYS_IMG_REFUSE.REASON, SYS_IMG_REFUSE_SECT.SECTION,
      SYS_IMG_EVT.REFUSED])
  | .imageWriteDone _ _ => some ([], [SYS_IMG_SLOT_A.STATE, SYS_IMG_SLOT_A.DIGEST16, SYS_IMG_SLOT_B.STATE, SYS_IMG_SLOT_B.DIGEST16,
      SYS_IMG_SLOT_RB_A.VALUE, SYS_IMG_SLOT_RB_B.VALUE])
  | .imageReload _ _ _ _ => some ([.sec], ringFlds)
  | .imageValidated _ _ => some ([.sec], [SYS_IMG_REFUSE.REASON, SYS_IMG_REFUSE_SECT.SECTION, SYS_IMG_EVT.REFUSED, SEC_AUDIT_NEW.ASEQ,
      SEC_AUDIT_OLD.ASEQ])
  | .rbCommit _ _ => some ([.sec], [SYS_IMG_RB_STORED.VALUE, SYS_IMG_SLOT_A.STATE, SYS_IMG_SLOT_B.STATE, SYS_IMG_EVT.RB_NOCHANGE,
      SYS_IMG_EVT.SLOT_STALE, SEC_AUDIT_NEW.ASEQ, SEC_AUDIT_OLD.ASEQ])
  | .labelCommit _ _ _ => some ([], [PST_STATUS.LABEL_BUSY, PST_EVT.LABEL_REFUSED, PST_LABEL_CTL.BUSY, PST_LABEL_CTL.INDEX])
  | .labelCommitDone _ _ => some ([], [PST_STATUS.LABEL_BUSY, PST_EVT.LABEL_DONE, PST_LABEL_CTL.BUSY, PST_LABEL.WORD])
  | .grant _ _ => some ([.sec], requestFlds ++ [SEC_GRANT_A.VALID, SEC_GRANT_A.SIGNER, SEC_GRANT_A.CLASSES, SEC_GRANT_A.NOT_AFTER_HI,
      SEC_GRANT_B.NOT_AFTER_LO])
  | .grantClear _ _ => some ([.sec], requestFlds ++ [SEC_GRANT_A.VALID, SEC_GRANT_A.SIGNER, SEC_GRANT_A.CLASSES,
      SEC_GRANT_A.NOT_AFTER_HI, SEC_GRANT_B.NOT_AFTER_LO])
  | .keySet _ _ => some ([.sec], requestFlds ++ [SEC_KEYS.SLOTS])
  | .lifecycle _ _ =>
    some ([.snap, .lane, .xpt, .cmp, .aud, .reed, .eth, .dbg, .sec, .shf, .boot, .mon, .evtLast, .pcie], moduleFlds ++ securityFlds)
  | .evalFix _ _ => some ([.sec], requestFlds ++ [SEC_STATUS.EVAL_FIXED])
  | .classReq _ _ => some ([.sec], requestFlds ++ [SEC_STATUS.CLASS_REQ])
  | .auditRead _ _ => some ([.sec], requestFlds ++ [SEC_REQ_RESP.WORD])
  | .auditSign _ _ => some ([.sec], requestFlds ++ [SEC_REQ_RESP.WORD])
  | .deviceKey _ _ => some ([.sec], requestFlds ++ [SEC_REQ_RESP.WORD])
  | .challengeGet _ => some ([.sec, .freeCtr], [SEC_CHAL_CTL.NONCE_VALID, SEC_CHAL_CTL.STATUS, SEC_CHAL_NONCE.WORD])
  | .challengeAnswer _ _ _ => some ([.sec], [SEC_STATUS.DEBUG_LEVEL, SEC_AUDIT_NEW.ASEQ, SEC_AUDIT_OLD.ASEQ, SEC_CHAL_CTL.LEVEL,
      SEC_CHAL_CTL.NONCE_VALID, SEC_CHAL_CTL.STATUS, SEC_AUTH_FAIL.COUNT, SEC_CHAL_FAIL.COUNT, SEC_CNT_FLAGS.CHAL_FAIL_OVF,
      SEC_CNT_FLAGS.AUTH_FAIL_OVF])
  | .nonceExpire _ => some ([.sec], [SEC_CHAL_CTL.NONCE_VALID])
  | .debugLockoutExpire _ => some ([.sec], [SEC_CHAL_CTL.LOCKOUT_S])
  | _ => none

/-- What a command of the test access port and debug may change beyond module time and the end of its step. -/
def debugFrame : Instr → Option (List Part × List Fld)
  | .extest _ _ => some ([.dbg, .freeCtr], [DBG_EVT.TAP_REFUSED])
  | .samplePreload _ _ => some ([.dbg, .freeCtr], [])
  | .idcode _ => some ([.dbg], [])
  | .highz _ _ => some ([.dbg], [DBG_EVT.TAP_REFUSED])
  | .clamp _ _ => some ([.dbg], [DBG_EVT.TAP_REFUSED])
  | .dbgAccess _ _ _ _ _ =>
    some ([.snap, .lane, .xpt, .cmp, .aud, .reed, .eth, .dbg, .sec, .shf, .boot, .mon, .evtLast, .pcie, .freeCtr], moduleFlds ++ securityFlds ++ [
      SYS_IMG_RB_STORED.VALUE])
  | .dbgChal _ _ _ _ _ => some ([.dbg, .sec, .evtLast, .pcie, .freeCtr], [HIF_EVT_STATUS.UNDERRUN, SEC_STATUS.DEBUG_LEVEL,
      SEC_AUDIT_NEW.ASEQ, SEC_AUDIT_OLD.ASEQ, SEC_CHAL_CTL.LEVEL, SEC_CHAL_CTL.NONCE_VALID, SEC_CHAL_CTL.STATUS, SEC_CHAL_NONCE.WORD,
      SEC_CHAL_DATA.WORD, SEC_AUTH_FAIL.COUNT, SEC_CHAL_FAIL.COUNT, SEC_CNT_FLAGS.CHAL_FAIL_OVF, SEC_CNT_FLAGS.AUTH_FAIL_OVF,
      DBG_EVT.REFUSED])
  | .bypass _ _ _ => some ([.dbg], [])
  | .trstN _ => some ([.dbg], [])
  | .dbgRelock _ _ => some ([.reed, .dbg], fabErrFlds ++ [REE_ENG_STATUS.STATE, SEC_STATUS.DEBUG_LEVEL, DBG_ENG_STATUS.HALTED,
      DBG_ENG_STATUS.CAUSE, DBG_ENG_STATUS.BP_HIT, DBG_BP.EN, DBG_BP.ADDR, DBG_MEM_CTL.BUSY])
  | .dbgModuleReset _ _ _ _ =>
    some ([.snap, .lane, .xpt, .cmp, .aud, .reed, .eth, .dbg, .sec, .shf, .boot, .mon, .evtLast, .pcie], moduleFlds ++ [
      SYS_RESET_CAUSE.CAUSE, PWR_WAKE.SLEPT])
  | .dbgHalt _ => some ([.reed, .dbg, .pcie, .freeCtr], engineDebugFlds)
  | .dbgResume _ => some ([.reed, .dbg, .pcie, .freeCtr], engineDebugFlds)
  | .dbgStep _ => some ([.reed, .dbg, .pcie, .freeCtr], engineDebugFlds)
  | .dbgHaltAtBlock _ => some ([.reed, .dbg, .pcie, .freeCtr], engineDebugFlds)
  | .breakpointHit _ _ _ => some ([.freeCtr], [REE_ENG_STATUS.STATE, DBG_ENG_STATUS.HALTED, DBG_ENG_STATUS.CAUSE, DBG_ENG_STATUS.BP_HIT,
      DBG_ENG_STATUS.PC, DBG_EVT.HALT])
  | .dbgMemGo _ _ => some ([.dbg, .pcie], accessErrFlds ++ [DBG_MEM_CTL.WRITE, DBG_MEM_CTL.BUSY, DBG_MEM_CTL.DONE, DBG_MEM_CTL.SIZE])
  | .dbgMemDone _ _ =>
    some ([.snap, .lane, .xpt, .cmp, .aud, .reed, .eth, .dbg, .sec, .shf, .boot, .mon, .evtLast, .pcie, .freeCtr], moduleFlds ++ securityFlds ++ [
      SYS_IMG_RB_STORED.VALUE])
  | _ => none

/-- What a command of the monitors and events of the hardware may change beyond module time and the end of its step. -/
def monitorFrame : Instr → Option (List Part × List Fld)
  | .domainStartFail _ _ => some ([.xpt, .boot], [SYS_FAIL_LGI.MAP, SYS_FAIL_LGO.MAP, SYS_FAIL_MISC.STACK, SYS_FAIL_MISC.ETH,
      SYS_FAIL_BANK.MAP, PWR_EVT.START_FAIL_OVF, PWR_EVT.START_FAIL, PWR_START_FAIL_CNT.COUNT, PWR_DOM.STATE, KNL_ALLOC_STATUS.LOSS,
      KNL_ALLOC_EVT.LOSS])
  | .sensorUpdate _ _ => some ([.shf, .boot, .mon, .vault], deadFlds ++ haltFlds ++ [MON_THERM_STATUS.WARN, MON_THERM_STATUS.STACK_HOT,
      MON_THERM_STATUS.HOT_SENSOR, MON_THERM_STATUS.MAX_C, MON_EVT.WARN_OVF, MON_EVT.STACK_HOT, MON_EVT.WARN_CLEAR, MON_EVT.WARN,
      MON_WARN_CNT.COUNT, MON_TEMP.MAX_C, MON_TEMP.TEMP_C])
  | .thermalWarningHeld _ => some ([], [])
  | .feedMeasure _ _ _ => some ([.mon], [MON_EVT.FEED_LOW, MON_FEED.VOLT_DV, MON_FEED.POWER_DW, MON_FEED_MAX.POWER_MAX_DW])
  | .monClrMax => some ([], [MON_FEED_MAX.POWER_MAX_DW, MON_TEMP.MAX_C])
  | .monClrCnt => some ([], [MON_EVT.WARN_OVF, MON_WARN_CNT.COUNT])
  | .domainReachesOn _ _ => some ([.lane, .xpt, .boot], laneFallFlds ++ retrainFlds ++ [PWR_DOM.STATE, LNI_STATUS.CLK_FWD,
      LNO_STATUS.CLK_FWD, XPT_OUT_EVT.OVERRATE, TWN_STATUS.LINK_FWD])
  | .pllLocked _ _ _ => some ([.lane, .xpt], laneFallFlds ++ [LNI_STATUS.ONE_WAY_ACT, LNI_STATUS.CLK_FWD, LNO_STATUS.ONE_WAY_ACT,
      LNO_STATUS.CLK_FWD, XPT_OUT_EVT.OVERRATE])
  | .cdrLockAcquired _ _ => some ([.lane], [LNI_STATUS.CDR_LOCK, LNI_STATUS.STATE, LNO_STATUS.STATE])
  | .forwardedClockActivity _ _ _ => some ([.lane, .xpt], laneFallFlds ++ retrainFlds ++ [LNI_GRP_CFG.CLK_MODE_ACT,
      LNI_GRP_CFG.FC_ACTIVE, LNI_STATUS.CLK_FWD, LNI_EVT.FALLBACK_FWD, LNO_GRP_CFG.CLK_MODE_ACT, LNO_GRP_CFG.FC_OUT_ON,
      LNO_STATUS.CLK_FWD, LNO_EVT.FALLBACK_FWD, XPT_OUT_EVT.OVERRATE, TWN_STATUS.LINK_FWD])
  | .sramUncorrectableError _ _ _ => some ([], fabErrFlds)
  | .kennelStackFailure _ _ => some ([.xpt], [KNL_ALLOC_STATUS.LOSS, KNL_ALLOC_EVT.LOSS])
  | .clockMonitorFailure _ => some ([], [])
  | .leadFrameDecision _ _ _ _ _ => some ([.xpt], [])
  | .delayReqTx _ _ => some ([], [])
  | .hostPerstNDeassert _ => some ([.pcie], [])
  | .configurationSpaceReady _ => some ([.pcie], [])
  | .msixMaskWrite _ _ => some ([], [])
  | .latchedRead _ _ => some ([.evtLast, .pcie], accessErrFlds ++ [HIF_EVT_STATUS.UNDERRUN, DBG_EVT.REFUSED])
  | _ => none

end Sys2Proof.Machine
end

