-- ==== Sys2Proof/Certificates/Slice0/Obligations.lean ====
section
/-! DEFINITION. The statements. A command's own effect is stated of the state that it leaves (`Acts`, `Does`), what it leaves alone by
its frame (`StepFrame`), what the end of every step may change once for all commands. -/

open Sys2Proof Sys2Proof.Machine

/-! ### The queue and the whole machine -/

/-- The command at the front of the queue is taken, and the step is that command on the queue's rest. -/
def Obligations.FrontOfQueueRuns : Prop :=
  ∀ (c : Instr) (q : List Instr) (s : State), step { s with pending := c :: q } = exec c { s with pending := q }

/-- Every command answers a next state in every state: none faults, none is refused. On an empty queue the module idles, which is the
model's choice (log entry 3). -/
def Obligations.EveryCommandAnswersNext : Prop := (∀ (c : Instr) (s : State), ∃ t, exec c s = .next t)
  ∧ (∀ s : State, Runs s) ∧ ∀ s : State, s.pending = [] → step s = .next s

/-- A step takes exactly the front command, adds none, and module time does not run back. -/
def Obligations.StepTakesOneCommand : Prop :=
  ∀ s t : State, step s = .next t → t.pending = s.pending.drop 1 ∧ s.now ≤ t.now

/-- CLAIM is 1 in LEAD and 0 in every other role, and the role is one of four, after every step of a state of which this holds (R498). -/
def Obligations.RoleAndClaimAgree : Prop :=
  ∀ s t : State, roleOk s = true → claimOk s = true → step s = .next t → roleOk t = true ∧ claimOk t = true

/-- The register store keeps its canonical form through every step: each field within its width, nothing listed at its reset value,
also where the persistent store has become unreadable and keeps its cells aside, and where blocks that run on hold values of their own. -/
def Obligations.RegisterStoreStaysCanonical : Prop :=
  ∀ s t : State, (regsOk s && vaultOk s && holdOk s) = true → step s = .next t → (regsOk t && vaultOk t && holdOk t) = true

/-- At reset the store is in canonical form and the role is INIT without a claim; no ring, port or lane runs, and nothing waits. -/
def Obligations.ResetStateIsSound : Prop :=
  (regsOk State.reset && vaultOk State.reset && holdOk State.reset && roleOk State.reset && claimOk State.reset) = true
    ∧ role State.reset = roleInit ∧ getF SYS_STATUS.READY 0 State.reset = 0 ∧ getF SYS_STATUS.STEP 0 State.reset = 1
    ∧ (∀ n, getF LNI_STATUS.STATE n State.reset = stGated ∧ getF LNO_STATUS.STATE n State.reset = stGated)
    ∧ (∀ r, getF HIF_SQ_CFG.EN r State.reset = 0) ∧ (∀ o, getF XPT_OUT_STATE.MODE o State.reset = mNone)
    ∧ State.reset.pending = [] ∧ State.reset.evtFifo = [] ∧ State.reset.hold = .plain

/-! ### Frames -/

/-- What the end of a step may change: the parts and fields of `endParts` and `endFlds`, and nothing else. Commands of power, resets, the
monitors and the test access port change nothing outside their frames. -/
def Obligations.PowerAndDebugFrames : Prop :=
  (∀ s : State, Frame endParts endFlds s (stepEnd s))
  ∧ ∀ (c : Instr) (s : State) (ps : List Part) (fs : List Fld),
    powerFrame c = some (ps, fs) ∨ debugFrame c = some (ps, fs) ∨ monitorFrame c = some (ps, fs) → Does c s (StepFrame ps fs s)

/-- Commands of the lanes, the crosspoint, the kennel, the composition engines and the shofar change nothing outside their frames. -/
def Obligations.LaneAndVideoFrames : Prop :=
  ∀ (c : Instr) (s : State) (ps : List Part) (fs : List Fld),
    laneFrame c = some (ps, fs) ∨ videoFrame c = some (ps, fs) ∨ compositionFrame c = some (ps, fs) → Does c s (StepFrame ps fs s)

/-- Commands of audio, the reed engines, the meters, the Ethernet ports and the flows change nothing outside their frames. -/
def Obligations.MediaAndNetworkFrames : Prop :=
  ∀ (c : Instr) (s : State) (ps : List Part) (fs : List Fld),
    mediaFrame c = some (ps, fs) ∨ networkFrame c = some (ps, fs) → Does c s (StepFrame ps fs s)

/-- Commands of the Pitch Pipe, of time and of the twin change nothing outside their frames. -/
def Obligations.TimeAndTwinFrames : Prop :=
  ∀ (c : Instr) (s : State) (ps : List Part) (fs : List Fld),
    timeFrame c = some (ps, fs) ∨ twinFrame c = some (ps, fs) → Does c s (StepFrame ps fs s)

/-- Commands of the host interface, of images, labels and the security unit change nothing outside their frames. -/
def Obligations.HostAndStoreFrames : Prop :=
  ∀ (c : Instr) (s : State) (ps : List Part) (fs : List Fld),
    hostFrame c = some (ps, fs) ∨ storeFrame c = some (ps, fs) → Does c s (StepFrame ps fs s)

/-! ### Lanes -/

/-- Signal detect of a lane (R69, R70, R76, R79): SIGDET follows it; a rise starts the probe of a lane that rests in NO_PARTNER, wakes a
lane in DEEP if WAKE_SIGDET is 1 and ends an IDLE that a loss of signal began; a fall puts an ACTIVE lane in IDLE or in a fast retrain, as
AUTO_IDLE says, and fails an attempt; other states do not move. Alignment not regained within 64 block periods, or losing CDR lock, in
ACTIVE counts a lock loss and starts a fast retrain (R62); a fast retrain that has lasted 4.0 ms, and an IDLE that outlasts IDLE_LIMIT,
lead to a full series. -/
def Obligations.LanesFollowTheirSignal : Prop :=
  (∀ (t n : Nat) (s : State), serving s = true → laneAssigned .inp n s = true →
  Acts (.signalDetectRise t n) s (fun m =>
    getF LNI_STATUS.SIGDET n m = 1
    ∧ (inState n s = stDeep → getB LNI_CTL.WAKE_SIGDET n s = true → inState n m = stWake)
    ∧ (inState n s = stIdle → (inLane n s).idleByLoss = true → getF LNI_CTL.TARGET_STATE n s ≠ 1 → inState n m = stActive)
    ∧ (inState n s = stNoPartner → (inLane n s).noPartner = true → inState n m = stProbe)
    ∧ (inState n s ≠ stDeep → inState n s ≠ stIdle → inState n s ≠ stNoPartner → inState n m = inState n s)
    ∧ ∀ j, j ≠ n → inState j m = inState j s ∧ outState j m = outState j s)
  ∧ Acts (.signalDetectFall t n) s (fun m =>
    getF LNI_STATUS.SIGDET n m = 0
    ∧ (inState n s = stActive → getB LNI_CTL.AUTO_IDLE n s = true → inState n m = stIdle ∧ (inLane n m).idleByLoss = true
        ∧ (inLane n m).lossAt = (advance t s).now)
    ∧ (inState n s = stActive → getB LNI_CTL.AUTO_IDLE n s = false → inState n m = stFast)
    ∧ (inState n s ≠ stActive → inAttempt .inp n s = true → getF LNI_STATUS.LAST_FAIL n m = failSignalLost)
    ∧ (inState n s ≠ stActive → inAttempt .inp n s = false → inState n m = inState n s)))
  ∧ ∀ (t n : Nat) (s : State), serving s = true → n < 2048 → inAssigned n s = true →
  (inState n s = stActive → (inLane n s).searching = true → (inLane n s).searchAt + blocksTime 64 ≤ (advance t s).now →
    Acts (.alignmentTimeout t n) s (fun m =>
      inState n m = stFast ∧ getB LNI_EVT.LOCK_LOSS n m = true ∧ Counted LNI_LOCK_LOSS_CNT.COUNT LNI_CNT_FLAGS.LOCK_LOSS_OVF n s m))
  ∧ (inState n s = stActive →
    Acts (.cdrLockLoss t n) s (fun m =>
      inState n m = stFast ∧ getB LNI_EVT.LOCK_LOSS n m = true ∧ Counted LNI_LOCK_LOSS_CNT.COUNT LNI_CNT_FLAGS.LOCK_LOSS_OVF n s m
      ∧ getF LNI_STATUS.CDR_LOCK n m = 0))
  ∧ (inState n s = stFast → (inLane n s).startAt + 4 * msUnit ≤ (advance t s).now →
    Acts (.fastRetrainTimeout t .inp n) s (fun m =>
      inState n m = stLock ∧ getF LNI_STATUS.ATTEMPT n m = 1 ∧ getF LNI_STATUS.LAST_FAIL n m = failFast))
  ∧ (inState n s = stIdle → (inLane n s).idleByLoss = true →
      (inLane n s).lossAt + clampNat 1 1000 (getF LNI_CTL.IDLE_LIMIT n s) * msUnit ≤ (advance t s).now →
    Acts (.idleLimitExpire t n) s (fun m =>
      inState n m = stLock ∧ getF LNI_STATUS.ATTEMPT n m = 1 ∧ getB LNI_EVT.IDLE_TIMEOUT n m = true))

/-- The timers of training, PLL lock and CDR lock (R65, R67 to R69, R79): an attempt that has not reached ACTIVE in 50 ms fails with its
phase's reason; after the back-off the next attempt begins; a resting lane probes each second; a one-way transmitter goes from TA sets to
TB sets after 20 ms, and 2 ms later it waits for its first block; lock held for 100 µs ends TRAIN_LOCK. That lock must be held within the
phase's bound of 5 ms is the model's reading (log entry 86). -/
def Obligations.TrainingTimersMoveLane : Prop := ∀ (t n : Nat) (s : State), serving s = true →
  let now := (advance t s).now
  (laneAssigned .inp n s = true → inAttempt .inp n s = true → (inLane n s).startAt + 50 * msUnit ≤ now →
    Acts (.trainingAttemptTimeout t .inp n) s (fun m => getF LNI_STATUS.LAST_FAIL n m = timeoutReason .inp n s))
  ∧ (laneAssigned .out n s = true → inAttempt .out n s = true → (outLane n s).startAt + 50 * msUnit ≤ now →
    Acts (.trainingAttemptTimeout t .out n) s (fun m => getF LNO_STATUS.LAST_FAIL n m = timeoutReason .out n s))
  ∧ (laneAssigned .inp n s = true → inState n s = stBackoff → (inLane n s).noPartner = false → (inLane n s).backoffEnd ≤ now →
    Acts (.backoffExpire t .inp n) s (fun m => inState n m = stLock ∧ getF LNI_STATUS.ATTEMPT n m = (getF LNI_STATUS.ATTEMPT n s + 1) % 16
      ∧ (inLane n m).startAt = now))
  ∧ (laneAssigned .out n s = true → outState n s = stBackoff → (outLane n s).noPartner = false → (outLane n s).backoffEnd ≤ now →
    Acts (.backoffExpire t .out n) s (fun m => outState n m = stLock ∧ getF LNO_STATUS.ATTEMPT n m = (getF LNO_STATUS.ATTEMPT n s + 1) % 16
      ∧ (outLane n m).startAt = now))
  ∧ (laneAssigned .inp n s = true → inState n s = stNoPartner → (inLane n s).noPartner = true → (inLane n s).probeAt + secUnit ≤ now →
    Acts (.quietProbeTimer t .inp n) s (fun m => inState n m = stProbe ∧ (inLane n m).probeAt = now))
  ∧ (laneAssigned .out n s = true → outState n s = stNoPartner → (outLane n s).noPartner = true → (outLane n s).probeAt + secUnit ≤ now →
    Acts (.quietProbeTimer t .out n) s (fun m => outState n m = stProbe ∧ (outLane n m).probeAt = now))
  ∧ (laneAssigned .out n s = true → oneWay .out n s = true → outState n s ≠ stFast → (outLane n s).phase = .lock →
      (outLane n s).noPartner = false → (outLane n s).phaseAt + 20 * msUnit ≤ now →
    Acts (.oneWayTrainTimer t n) s (fun m => outState n m = stConfirm ∧ (outLane n m).phase = .confirm))
  ∧ (laneAssigned .out n s = true → oneWay .out n s = true → outState n s ≠ stFast → (outLane n s).phase = .confirm →
      (outLane n s).phaseAt + 2 * msUnit ≤ now →
    Acts (.oneWayTrainTimer t n) s (fun m => (outLane n m).phase = .ready ∧ outState n m = outState n s))
  ∧ (laneAssigned .inp n s = true → inState n s = stWake → (inLane n s).noPartner = false →
    Acts (.pllLocked t .inp n) s (fun m => inState n m = stFast))
  ∧ (laneAssigned .out n s = true → outState n s = stWake → (outLane n s).noPartner = false →
    Acts (.pllLocked t .out n) s (fun m => outState n m = stFast))
  ∧ (laneAssigned .inp n s = true → Acts (.cdrLockAcquired t n) s (fun m =>
      getF LNI_STATUS.CDR_LOCK n m = 1
      ∧ (getB LNI_STATUS.CDR_LOCK n s = false → (inLane n m).lockAt = now)
      ∧ (getB LNI_STATUS.CDR_LOCK n s = true → (inLane n s).lockAt + 100 * usUnit ≤ now → now ≤ (inLane n s).startAt + 5 * msUnit →
          inAttempt .inp n s = true → (inLane n s).phase = .lock → (inLane n m).phase = .align)))

/-- Orders of the host on a lane (R75, R77 to R80, R85, R86, R95, R117): TARGET_STATE is taken over and acts on the state as the rules say,
RETRAIN starts a series from attempt 1 in ACTIVE, IDLE and NO_PARTNER, a quiet probe included, and the other lanes do not move; on an
output lane IDLE, DEEP and TEST are refused while a slot of the lane has a source. That IDLE ordered on a lane at rest leaves it where it
rests is the model's choice (log entry 45). -/
def Obligations.HostOrdersMoveLanes : Prop :=
  (∀ (t n : Nat) (s : State), reached s = true → n < 2048 → inAssigned n s = true →
  (∀ target, target < 3 → Acts (.lniTargetState t n target) s (fun m =>
    getF LNI_CTL.TARGET_STATE n m = target
    ∧ (target = 2 → inState n m = stDeep)
    ∧ (target = 1 → inState n m = if inState n s = stActive then stIdle else inState n s)
    ∧ (target = 0 → inState n s = stIdle → (inLane n s).idleByLoss = false → inState n m = stActive)
    ∧ (target = 0 → inState n s = stDeep → inState n m = stWake)
    ∧ (target = 0 → inState n s = stNoPartner ∨ inState n s = stProbe → (inLane n s).noPartner = true →
        inState n m = stLock ∧ getF LNI_STATUS.ATTEMPT n m = 1)
    ∧ ∀ j, j ≠ n → inState j m = inState j s ∧ outState j m = outState j s))
  ∧ (inState n s = stActive ∨ inState n s = stIdle ∨ (inLane n s).noPartner = true →
    Acts (.lniRetrain t n) s (fun m => inState n m = stLock ∧ getF LNI_STATUS.ATTEMPT n m = 1
      ∧ ∀ j, j ≠ n → inState j m = inState j s ∧ outState j m = outState j s)))
  ∧ ∀ (t n : Nat) (s : State), reached s = true → n < 2048 → outAssigned n s = true →
  (∀ target, target < 3 → Acts (.lnoTargetState t n target) s (fun m =>
    (target ≠ 0 → laneSourced n s = true → getF LNO_STATUS.REFUSED n m = 1 ∧ outState n m = outState n s
      ∧ getF LNO_CTL.TARGET_STATE n m = getF LNO_CTL.TARGET_STATE n s)
    ∧ (target = 0 ∨ laneSourced n s = false →
        getF LNO_CTL.TARGET_STATE n m = target
        ∧ (target = 2 → outState n m = stDeep)
        ∧ (target = 1 → outState n m = if outState n s = stActive then stIdle else outState n s)
        ∧ (target = 0 → (outLane n s).noPartner = false → getB TWN_STATUS.WITHDRAWN 0 s = false →
            (outState n s = stIdle → outState n m = stActive) ∧ (outState n s = stDeep → outState n m = stWake))
        ∧ (target = 0 → outState n s = stNoPartner ∨ outState n s = stProbe → (outLane n s).noPartner = true →
            outState n m = stLock ∧ getF LNO_STATUS.ATTEMPT n m = 1))
    ∧ ∀ j, j ≠ n → inState j m = inState j s ∧ outState j m = outState j s))
  ∧ (outState n s = stActive ∨ outState n s = stIdle ∨ (outLane n s).noPartner = true →
    Acts (.lnoRetrain t n) s (fun m => outState n m = stLock ∧ getF LNO_STATUS.ATTEMPT n m = 1
      ∧ ∀ j, j ≠ n → inState j m = inState j s ∧ outState j m = outState j s))
  ∧ ∀ on : Bool, Does (.lnoTest n on) s (fun m =>
      if on = true ∧ laneSourced n s = true then
        getF LNO_PAY_CFG.TEST_REFUSED n m = 1 ∧ getF LNO_PAY_CFG.TEST n m = getF LNO_PAY_CFG.TEST n s
      else getF LNO_PAY_CFG.TEST n m = b2n on)

/-- Control actions that meet (R80): a write of DEEP together with RETRAIN acts as DEEP alone (on an output lane where DEEP is not refused,
R77); DEEP in training abandons the attempt at once; IDLE in training takes effect when training reaches ACTIVE; RETRAIN does nothing while
a series or a fast retrain runs; ACTIVE or RETRAIN in NO_PARTNER, a quiet probe included (R85), and RETRAIN in ACTIVE or IDLE start a new
series from attempt 1. -/
def Obligations.MeetingOrdersResolve : Prop :=
  ∀ (t n v tr : Nat) (env : RegEnv) (syms : List Sym) (anc : List Anc) (s : State), reached s = true → n < 2048 →
  (inAssigned n s = true →
    (bar0Refused (LNI_CTL.TARGET_STATE.base + 128 * n) 4 (some (v % 2 ^ 32)) s = false → bits v 0 2 = 2 → bit v 2 = true →
      Acts (.registerWrite t (LNI_CTL.TARGET_STATE.base + 128 * n) v env) s (fun m => inState n m = stDeep
        ∧ getF LNI_CTL.TARGET_STATE n m = 2))
    ∧ (inAttempt .inp n s = true → inState n s ≠ stDeep → inState n s ≠ stActive →
      Acts (.lniTargetState t n 2) s (fun m => inState n m = stDeep ∧ lanePhase .inp n m = .none)
      ∧ Acts (.lniTargetState t n 1) s (fun m =>
          getF LNI_CTL.TARGET_STATE n m = 1 ∧ inState n m = inState n s ∧ lanePhase .inp n m = lanePhase .inp n s))
    ∧ (getF LNI_CTL.TARGET_STATE n s = 1 → (inLane n s).phase = .ready → blockBegins syms = true →
        Acts (.laneBlockRx t n syms tr anc) s (fun m => inState n m = stIdle))
    ∧ (inState n s ∈ [stLock, stAlign, stEq, stConfirm, stBackoff, stFast] → (inLane n s).noPartner = false →
        Acts (.lniRetrain t n) s (fun m => m.lane = s.lane ∧ m.regs = s.regs))
    ∧ (inState n s = stNoPartner ∨ inState n s = stProbe → (inLane n s).noPartner = true →
      Acts (.lniTargetState t n 0) s (fun m => inState n m = stLock ∧ getF LNI_STATUS.ATTEMPT n m = 1)
      ∧ Acts (.lniRetrain t n) s (fun m => inState n m = stLock ∧ getF LNI_STATUS.ATTEMPT n m = 1))
    ∧ (inState n s = stActive ∨ inState n s = stIdle →
      Acts (.lniRetrain t n) s (fun m => inState n m = stLock ∧ getF LNI_STATUS.ATTEMPT n m = 1)))
  ∧ (outAssigned n s = true →
    (bar0Refused (LNO_CTL.TARGET_STATE.base + 128 * n) 4 (some (v % 2 ^ 32)) s = false → bits v 0 2 = 2 → bit v 2 = true →
      Acts (.registerWrite t (LNO_CTL.TARGET_STATE.base + 128 * n) v env) s (fun m =>
        outState n m = if laneSourced n s then outState n s else stDeep))
    ∧ (inAttempt .out n s = true → laneSourced n s = false → outState n s ≠ stDeep → outState n s ≠ stActive →
      Acts (.lnoTargetState t n 2) s (fun m => outState n m = stDeep ∧ lanePhase .out n m = .none)
      ∧ Acts (.lnoTargetState t n 1) s (fun m =>
          getF LNO_CTL.TARGET_STATE n m = 1 ∧ outState n m = outState n s ∧ lanePhase .out n m = lanePhase .out n s))
    ∧ (getF LNO_CTL.TARGET_STATE n s = 1 → (outLane n s).phase = .ready → getB TWN_STATUS.WITHDRAWN 0 s = false →
        Acts (.laneBlockTx t) s (fun m => outState n m = stIdle))
    ∧ (outState n s ∈ [stLock, stAlign, stEq, stConfirm, stBackoff, stFast] → (outLane n s).noPartner = false →
        Acts (.lnoRetrain t n) s (fun m => m.lane = s.lane ∧ m.regs = s.regs))
    ∧ (outState n s = stNoPartner ∨ outState n s = stProbe → (outLane n s).noPartner = true →
      Acts (.lnoTargetState t n 0) s (fun m => outState n m = stLock ∧ getF LNO_STATUS.ATTEMPT n m = 1)
      ∧ Acts (.lnoRetrain t n) s (fun m => outState n m = stLock ∧ getF LNO_STATUS.ATTEMPT n m = 1))
    ∧ (outState n s = stActive ∨ outState n s = stIdle →
      Acts (.lnoRetrain t n) s (fun m => outState n m = stLock ∧ getF LNO_STATUS.ATTEMPT n m = 1)))

/-- A valid training set in an attempt (R63, R65, R66, R71, R88): the partner it names is recorded; a set of another lane or clock mode
ends the attempt with its reason; the fourth set at its spacing aligns the lane, which then asks for a preset; equalised, and with that
preset in use at the partner, the lane confirms; after the eighth TB set with READY, and sixteen of its own, it waits for its first block.
In a fast retrain the eighth TB set with READY does (R79). -/
def Obligations.TrainingSetAdvancesAttempt : Prop :=
  ∀ (t n : Nat) (body : List Byte) (inverted spaced eqOk : Bool) (request : Nat) (s : State),
  serving s = true → inAssigned n s = true → setCheck body = true →
  Acts (.trainingSetRx t n body inverted spaced eqOk request) s (fun m =>
    getF LNI_PARTNER_LO.ID_LO n m = setIdentity body % 2 ^ 32
    ∧ getF LNI_PARTNER_HI.PARTNER_LANE n m = setLane body % 2 ^ LNI_PARTNER_HI.PARTNER_LANE.width
    ∧ (inAttempt .inp n s = true → miswired n body = true → getF LNI_STATUS.LAST_FAIL n m = failMiswire)
    ∧ (inAttempt .inp n s = true → miswired n body = false → otherMode n body s = true → getF LNI_STATUS.LAST_FAIL n m = failModeMismatch)
    ∧ (inAttempt .inp n s = true → miswired n body = false → otherMode n body s = false →
        ((inLane n s).phase = .align → spaced = true → 3 ≤ (inLane n s).sets → (advance t s).now ≤ (inLane n s).startAt + 6 * msUnit →
          getF LNI_STATUS.ALIGNED n m = 1 ∧ (inLane n m).phase = .eq ∧ getF LNI_STATUS.POL_INV n m = b2n inverted
          ∧ (oneWay .inp n s = false → getF LNI_EQ.PRESET_REQ n m = request % 8))
        ∧ ((inLane n s).phase = .eq → eqOk = true → oneWay .inp n s = true ∨ setPreset body = getF LNI_EQ.PRESET_REQ n s →
          (advance t s).now ≤ (inLane n s).startAt + 40 * msUnit → (inLane n m).phase = .confirm)
        ∧ ((inLane n s).phase = .confirm → 7 ≤ (inLane n s).ready → setType body = typeTB → setReady body = true →
          oneWay .inp n s = true ∨ 16 ≤ readySent n (advance t s) → (inLane n m).phase = .ready))
    ∧ (inAttempt .inp n s = false → inState n s = stFast → 7 ≤ (inLane n s).ready → setType body = typeTB → setReady body = true →
        (inLane n m).phase = .ready ∧ getF LNI_STATUS.ALIGNED n m = 1 ∧ getF LNI_STATUS.CDR_LOCK n m = 1))

/-- A block period (R60, R66, R82, R103, R107, R108): each ACTIVE output lane, and each that has finished training, sends one block, whose
SEQ is the common block counter modulo 16, and counts it; an input lane that has finished training is ACTIVE from the first K28.5 that no
K28.3 follows; a received block is counted, and one that fails a condition is counted under it. -/
def Obligations.BlocksAreCounted : Prop :=
  (∀ (t : Nat) (s : State), serving s = true → Acts (.laneBlockTx t) s (fun m =>
    m.lane.blockCtr = s.lane.blockCtr + 1
    ∧ ∀ n, n < 2048 → regsOk s = true → outState n s = stActive ∨ (outLane n s).phase = .ready → getF LNO_CTL.TARGET_STATE n s ≠ 1 →
        getB TWN_STATUS.WITHDRAWN 0 s = false →
        outState n m = stActive ∧ getF LNO_BLOCKS.COUNT n m = (getF LNO_BLOCKS.COUNT n s + 1) % 2 ^ 64
        ∧ ((outLane n s).phase = .ready → getF LNO_STATUS.ATTEMPT n m = 0 ∧ getB LNO_EVT.UP n m = true)
        ∧ ∃ b1 b2 crc payload, Out.laneBlock n b1 b2 crc payload ∈ m.out ∧ b1 % 16 = s.lane.blockCtr % 16))
  ∧ ∀ (t n : Nat) (syms : List Sym) (transitions : Nat) (anc : List Anc) (s : State), serving s = true → inAssigned n s = true → n < 2048 →
    ((inLane n s).phase = .ready → blockBegins syms = true → getF LNI_CTL.TARGET_STATE n s ≠ 1 →
      Acts (.laneBlockRx t n syms transitions anc) s (fun m =>
        inState n m = stActive ∧ getF LNI_STATUS.ATTEMPT n m = 0 ∧ getB LNI_EVT.UP n m = true))
    ∧ (inState n s = stActive → (inLane n s).phase ≠ .ready → syms.length = 1024 →
      Acts (.laneBlockRx t n syms transitions anc) s (fun m =>
        (getF LNI_BLOCKS.COUNT n s < 2 ^ 64 → getF LNI_BLOCKS.COUNT n m = (getF LNI_BLOCKS.COUNT n s + 1) % 2 ^ 64)
        ∧ ((align n syms s).1 = true → judge n syms s = .header → Counted LNI_HDR_ERR.COUNT LNI_PAY_FLAGS.HDR_OVF n s m)
        ∧ ((align n syms s).1 = true → judge n syms s = .seqOnly → Counted LNI_SEQ_ERR.COUNT LNI_PAY_FLAGS.SEQ_OVF n s m)
        ∧ (∀ a, (align n syms s).1 = true → judge n syms s = .crc a → Counted LNI_CRC_ERR.COUNT LNI_CNT_FLAGS.CRC_OVF n s m)
        ∧ ((align n syms s).1 = true → judge n syms s = .mode →
            Counted LNI_MODE_ERR.COUNT LNI_PAY_FLAGS.MODE_OVF n s m ∧ getB LNI_PAY_EVT.MODE_ERR n m = true)))

/-! ### Counters and ring entries -/

/-- CLR_CNT of a lane or of a block, and CLR_MAX of the monitors, return the counters and their overflow flags to their reset values and
touch nothing else (R19, R86); a lane that is not assigned drops the order (R54). That CLR_CNT of an input lane also clears the overflow
flags of LNI_PAY_FLAGS is the model's choice (log entry 90). -/
def Obligations.ClearReturnsCounters : Prop := ∀ s : State, hostReaches s = true →
  (∀ n, n < 2048 → inAssigned n s = true → ∃ u, exec (.lniClrCnt n) s = .next u ∧ ClearedAt lniCounters n s u)
  ∧ (∀ n, inAssigned n s = false → exec (.lniClrCnt n) s = .next s)
  ∧ (∀ n, n < 2048 → outAssigned n s = true → ∃ u, exec (.lnoClrCnt n) s = .next u ∧ ClearedAt lnoCounters n s u)
  ∧ (∀ n, outAssigned n s = false → exec (.lnoClrCnt n) s = .next s)
  ∧ (∃ u, exec .xptClrCnt s = .next u ∧ Cleared xptCounters s u)
  ∧ (∃ u, exec .knlClrCnt s = .next u ∧ Cleared knlCounters s u)
  ∧ (∃ u, exec .cmpClrCnt s = .next u ∧ Cleared cmpCounters s u)
  ∧ (∃ u, exec .audClrCnt s = .next u ∧ Cleared audCounters s u)
  ∧ (∃ u, exec .reeClrCnt s = .next u ∧ Cleared reeCounters s u)
  ∧ (∃ u, exec .ethClrCnt s = .next u ∧ Cleared ethCounters s u)
  ∧ (∃ u, exec .flwClrCnt s = .next u ∧ Cleared flwCounters s u)
  ∧ (∃ u, exec .pipClrCnt s = .next u ∧ Cleared pipCounters s u)
  ∧ (∃ u, exec .timClrCnt s = .next u ∧ Cleared timCounters s u)
  ∧ (∃ u, exec .twnClrCnt s = .next u ∧ Cleared twnCounters s u)
  ∧ (∃ u, exec .hifClrCnt s = .next u ∧ Cleared hifCounters s u)
  ∧ (∃ u, exec .monClrCnt s = .next u ∧ Cleared monCounters s u)
  ∧ (∃ u, exec .monClrMax s = .next u ∧ Cleared monMaxima s u)

/-- An entry that fails a check of R540, or whose opcode the table does not list, is read past and completes with that check's status; it
opens no slot and nothing it names changes. -/
def Obligations.RefusedEntryChangesNothing : Prop :=
  ∀ (c : Instr) (t r : Nat) (raw : List Byte) (list : Option (List Byte)) (bad : List Nat) (s : State) (st : Nat),
  (c, eOpcode raw) ∈ [(Instr.take t r raw, 0x10), (.salvo t r raw list, 0x11), (.capture t r raw, 0x19), (.stillSelect t r raw, 0x1A),
      (.cmpShadow t r raw list, 0x20), (.cmpCommit t r raw, 0x21), (.bundleLoad t r raw list, 0x28), (.shofarReq t r raw list, 0x29),
      (.audMap t r raw list, 0x30), (.reeWrite t r raw list, 0x31), (.flwCtx t r raw list, 0x38), (.imageWrite t r raw list bad, 0x40),
      (.imageReload t r raw list, 0x41), (.nop t r raw, 0x00), (.fence t r raw, 0x01)]
    ∨ (c = .freeze t r raw ∧ eOpcode raw = 0x18 ∧ bit (leAt raw 26 1) 0 = false)
    ∨ (c = .unfreeze t r raw ∧ eOpcode raw = 0x18 ∧ bit (leAt raw 26 1) 0 = true)
    ∨ (c = .nop t r raw ∧ opcodeRow (eOpcode raw) = none) →
  s.hold = .plain → fetchable r (advance t s) = true → checkEntry r raw (fetched r t s) = some st →
  Does c s (fun u =>
    getF HIF_SQ_HEAD.HEAD r u = (getF HIF_SQ_HEAD.HEAD r s + 1) % sqSize r s
    ∧ u.cmd.opens = s.cmd.opens ∧ u.xpt = s.xpt ∧ u.cmp = s.cmp ∧ u.aud = s.aud ∧ u.reed = s.reed ∧ u.eth = s.eth ∧ u.shf = s.shf
    ∧ u.img = s.img
    ∧ ((∃ h, h ∈ u.cplHeld ∧ h.ring = r ∧ h.tag = eTag raw ∧ h.status = st ∧ h.opcode = eOpcode raw)
       ∨ ∃ a bs, Out.hostWrite a bs ∈ u.out ∧ leAt bs 0 2 = eTag raw ∧ leAt bs 4 1 = st ∧ leAt bs 6 1 = eOpcode raw))

/-- Accepted commands of the crosspoint, the kennel and the composition engines (R47, R156, R159, R196 to R200, R233 to R235, R542): each
opens its slot, and what it asks for waits for its point; a selection that no plane reads takes effect at once, and records written
without COMMIT go into the shadows. -/
def Obligations.VideoCommandsAreAccepted : Prop := ∀ (t r : Nat) (raw data : List Byte) (s : State),
  (Passes 0x10 r raw t s → takeCheck (takeOpAt raw 24) (fetched r t s) = none →
    Acts (.take t r raw) s (fun m => Accepted r raw s m ∧ getF XPT_OUT_STATE.PEND (takeOpAt raw 24).out m = 1
      ∧ ∃ p, p ∈ m.xpt.pend ∧ p.uid = s.cmd.uid ∧ p.out = (takeOpAt raw 24).out ∧ p.src = (takeOpAt raw 24).src))
  ∧ (Passes 0x11 r raw t s → 1 ≤ leAt raw 32 4 → leAt raw 32 4 ≤ 16384 → eList raw % 8 = 0 → 8 * leAt raw 32 4 ≤ data.length →
      salvoCheck 0 [] (salvoOps raw data) (fetched r t s) = none →
    Acts (.salvo t r raw (some data)) s (fun m => Accepted r raw s m ∧ ∀ x, x ∈ salvoOps raw data →
      getF XPT_OUT_STATE.PEND x.out m = 1 ∧ ∃ p, p ∈ m.xpt.pend ∧ p.uid = s.cmd.uid ∧ p.out = x.out ∧ p.src = x.src))
  ∧ (Passes 0x18 r raw t s → freezeCheck raw (fetched r t s) = none → leAt raw 26 1 = 0 →
    Acts (.freeze t r raw) s (fun m => Accepted r raw s m
      ∧ ∃ p, p ∈ (alloc (knlAlloc raw) m).pend ∧ p.uid = s.cmd.uid ∧ p.op = 0))
  ∧ (Passes 0x18 r raw t s → freezeCheck raw (fetched r t s) = none → leAt raw 26 1 = 1 →
    Acts (.unfreeze t r raw) s (fun m => Accepted r raw s m
      ∧ ∃ p, p ∈ (alloc (knlAlloc raw) m).pend ∧ p.uid = s.cmd.uid ∧ p.op = 1))
  ∧ (Passes 0x19 r raw t s → captureCheck raw (fetched r t s) = none →
    Acts (.capture t r raw) s (fun m => Accepted r raw s m
      ∧ ∃ k, newestFrame (knlAlloc raw) (fetched r t s) = some k
        ∧ (s.cmd.uid, leAt raw 28 1, k) ∈ (alloc (leAt raw 26 2) m).captures))
  ∧ (Passes 0x1A r raw t s → selectCheck raw (fetched r t s) = none →
    Acts (.stillSelect t r raw) s (fun m => Accepted r raw s m
      ∧ (planesRead (fetched r t s) = [] → getF KNL_ALLOC_STATUS.SELECT (knlAlloc raw) m = leAt raw 26 1 % 32)
      ∧ (planesRead (fetched r t s) ≠ [] →
          ∃ p, p ∈ (alloc (knlAlloc raw) m).pend ∧ p.uid = s.cmd.uid ∧ p.op = 2 ∧ p.index = leAt raw 26 1)))
  ∧ (Passes 0x20 r raw t s → engineOk (cmpEngine raw) (fetched r t s) = true → 1 ≤ cmpCount raw → cmpCount raw ≤ 256 →
      eList raw % 32 = 0 → 32 * cmpCount raw ≤ data.length →
      shadowCheck (cmpEngine raw) (shadowRecords raw data) (fetched r t s) = none →
      (cmpCommitFlag raw = false →
        Acts (.cmpShadow t r raw (some data)) s (fun m => Accepted r raw s m ∧ m.cmp.pend = s.cmp.pend
          ∧ (cmpCount raw = 1 → leAt data 0 4 / 2 ^ 30 = 1 → ∀ w, w < 8 →
              shadowWord (32 * cmpEngine raw + rLayer (recordAt data 0)) w m = leAt data (4 * w) 4)))
      ∧ (cmpCommitFlag raw = true →
          commitCheck (cmpEngine raw) (takeCopy (cmpEngine raw) (writeShadows raw data (fetched r t s)))
            (writeShadows raw data (fetched r t s)) = none →
        Acts (.cmpShadow t r raw (some data)) s (fun m => Accepted r raw s m
          ∧ ∃ p, p ∈ m.cmp.pend ∧ p.uid = s.cmd.uid ∧ p.engine = cmpEngine raw ∧ p.copy = takeCopy (cmpEngine raw) m)))
  ∧ (Passes 0x21 r raw t s → engineOk (cmpEngine raw) (fetched r t s) = true →
      commitCheck (cmpEngine raw) (takeCopy (cmpEngine raw) (fetched r t s)) (fetched r t s) = none →
    Acts (.cmpCommit t r raw) s (fun m => Accepted r raw s m
      ∧ ∃ p, p ∈ m.cmp.pend ∧ p.uid = s.cmd.uid ∧ p.engine = cmpEngine raw ∧ p.copy = takeCopy (cmpEngine raw) s))

/-- Accepted commands of the other blocks (R246, R252, R298, R330, R419, R541, R577, R579): each opens its slot; NOP waits for nothing, FENCE
for the earlier commands of its ring, and the others leave their operands with the unit that carries them out. -/
def Obligations.OtherCommandsAreAccepted : Prop := ∀ (t r : Nat) (raw data : List Byte) (bad : List Nat) (s : State),
  (Passes 0x00 r raw t s →
    Acts (.nop t r raw) s (fun m => Accepted r raw s m ∧ ∃ c, c ∈ m.cmd.opens ∧ c.uid = s.cmd.uid ∧ c.ready = true ∧ c.status = stOk))
  ∧ (Passes 0x01 r raw t s →
    Acts (.fence t r raw) s (fun m => Accepted r raw s m ∧ ∃ c, c ∈ m.cmd.opens ∧ c.uid = s.cmd.uid
      ∧ c.waits = (s.cmd.opens.filter (fun d => !d.mirror && d.ring == r)).map (·.uid)))
  ∧ (Passes 0x28 r raw t s → 0x260 + 96 ≤ bundleLength raw → bundleLength raw ≤ 131072 → bundleLength raw ≤ data.length →
    Acts (.bundleLoad t r raw (some data)) s (fun m => Accepted r raw s m
      ∧ m.shf.pendBundle = s.shf.pendBundle ++ [(s.cmd.uid, data.take (bundleLength raw))]))
  ∧ (Passes 0x29 r raw t s → 160 ≤ data.length →
    Acts (.shofarReq t r raw (some data)) s (fun m => Accepted r raw s m
      ∧ m.shf.pendReq = s.shf.pendReq ++ [(s.cmd.uid, data.take 160)]))
  ∧ (Passes 0x30 r raw t s → 1 ≤ mapCount raw → mapCount raw ≤ 4096 → eList raw % 32 = 0 → 32 * mapCount raw ≤ data.length →
      mapCheck (mapRecords raw data) (fetched r t s) = none →
    Acts (.audMap t r raw (some data)) s (fun m => Accepted r raw s m
      ∧ ∃ p, p ∈ m.aud.pend ∧ p.uid = s.cmd.uid ∧ p.recs = (mapRecords raw data).map recordOf))
  ∧ (Passes 0x31 r raw t s → rwEngine raw < 128 → getB REE_ENG_CFG.ENABLED (rwEngine raw) s = true → 1 ≤ rwCount raw →
      rwFirst raw + rwCount raw ≤ (if rwState raw then 8192 else 4096) → eList raw % 32 = 0 → 4 * rwCount raw ≤ data.length →
    Acts (.reeWrite t r raw (some data)) s (fun m => Accepted r raw s m
      ∧ ∃ p, p ∈ m.reed.pend ∧ p.uid = s.cmd.uid ∧ p.engine = rwEngine raw ∧ p.state = rwState raw ∧ p.first = rwFirst raw
        ∧ p.words = rwWords raw data))
  ∧ (Passes 0x38 r raw t s → 1 ≤ mapCount raw → mapCount raw ≤ 4096 → eList raw % 32 = 0 → 32 * mapCount raw ≤ data.length →
      flowCheck (flowRecords raw data) (fetched r t s) = none →
    Acts (.flwCtx t r raw (some data)) s (fun m => Accepted r raw s m ∧ ∀ ws, ws ∈ flowRecords raw data →
      ∃ p, p ∈ m.eth.recs ∧ p.uid = s.cmd.uid ∧ p.words = ws ∧ p.ctx = recCtx ws ∧ p.tx = recIsTx ws))
  ∧ (Passes 0x40 r raw t s → imageBusy s = false → eList raw % 4096 = 0 → leAt raw 32 4 ≤ data.length →
      validate (data.take (leAt raw 32 4)) (fetched r t s) = none →
    Acts (.imageWrite t r raw (some data) bad) s (fun m => Accepted r raw s m ∧ slotState (leAt raw 36 1) m = slotEmpty
      ∧ m.img.writing = some (s.cmd.uid, leAt raw 36 1, data.take (leAt raw 32 4))))
  ∧ (Passes 0x41 r raw t s → imageBusy s = false → leAt raw 36 1 = 2 → eList raw % 4096 = 0 → leAt raw 32 4 ≤ data.length →
    Acts (.imageReload t r raw (some data)) s (fun m => Accepted r raw s m
      ∧ ∃ l, m.img.load = some l ∧ l.uid = s.cmd.uid ∧ l.source = 3 ∧ l.bytes = data.take (leAt raw 32 4)))
  ∧ (Passes 0x41 r raw t s → imageBusy s = false → leAt raw 36 1 < 2 →
    Acts (.imageReload t r raw none) s (fun m => Accepted r raw s m
      ∧ ∃ l, m.img.load = some l ∧ l.uid = s.cmd.uid ∧ l.source = leAt raw 36 1 + 1 ∧ l.bytes = slotBytes (leAt raw 36 1) s))

/-! ### Crosspoint -/

/-- A switching point commits the take accepted last of those that are armed for it (R49, R51, R150, R156, R164, R168): the output's source
is the one the take names, the take is counted, the takes of that point no longer wait, and no other output moves; one that needs no
switch leaves MODE and counts none. At its arm deadline a take that will be due at the next point chooses its path from the state its
source then has, and keeps that point as a time in its plane's frames (R47, R51, R151). -/
def Obligations.TakesCommitAtTheirPoints : Prop :=
  (∀ (t o : Nat) (bad : List Nat) (s : State) (p : PendTake),
  serving s = true → outUsed o s = true → isSafety o s = false → (dueTakes o (advance t s).now (advance t s)).getLast? = some p →
  Acts (.switchingPoint t o bad) s (fun m =>
    getF XPT_OUT_SRC.SOURCE o m = p.src % 2 ^ 32
    ∧ getF XPT_TAKE_CNT.COUNT 0 m = (getF XPT_TAKE_CNT.COUNT 0 s + 1) % 2 ^ 64
    ∧ m.xpt.pend = s.xpt.pend.filter (fun q => !(q.out == o && q.at_ (advance t s).now (advance t s)))
    ∧ (∀ a, p.armed = some a → leadPath o s = none →
        (noSwitch o p.src a.mode s = true → outMode o m = outMode o s ∧ getF XPT_OUT_SWITCH_CNT.COUNT o m = getF XPT_OUT_SWITCH_CNT.COUNT o s)
        ∧ (noSwitch o p.src a.mode s = false → Counted XPT_OUT_SWITCH_CNT.COUNT XPT_OUT_EVT.SWITCH_OVF o s m
            ∧ getF XPT_OUT_EVT.SWITCH o m = 1))
    ∧ ∀ x, x ≠ o → getF XPT_OUT_SRC.SOURCE x m = getF XPT_OUT_SRC.SOURCE x s ∧ outMode x m = outMode x s))
  ∧ ∀ (t o : Nat) (s : State), serving s = true →
  let x := (advance t s).now + armLead
  let n := countAt (outPlane o s) x (advance t s)
  Acts (.armDeadline t o) s (fun m =>
    (pointAt (takePoints o (advance t s)) x = true → m.xpt.pend = s.xpt.pend.map (fun p =>
      if p.out = o ∧ p.armed = none ∧ p.due.reached x (advance t s) = true then
        { p with armed := some { mode := (choosePath o p.src p.noFb s).1, count := n,
                                 after := ((x : Int) - boundaryOf (outPlane o s) n (advance t s)).toNat } } else p))
    ∧ (pointAt (takePoints o (advance t s)) x = false → m.xpt = s.xpt))

/-- The end of an input frame, a window exit and a format not declared in time (R138, R140, R141, R152, R153, R191, R193, R758): a frame that
disagrees ends the declared format, a second agreeing frame declares the next one, and the phase of a frame is that of its first word
from its plane's boundary; a stream that leaves the window or has no format takes its DIRECT outputs to FREE, and without a format its
writers stop. -/
def Obligations.InputFramesAndWindow : Prop := ∀ (t k : Nat) (fr : FrameIn) (s : State),
  serving s = true → inUsed k s = true →
  let e (f : Nat) : Int :=
    foldPhase (((fr.start : Int) - (planeSt (getF XPT_IN_CFG.PLANE k s) s).boundary) / nsUnit) (framePeriod (fmtRate f))
  (inWin k s = wNoSig → Acts (.inputFrameEnd t k fr) s (fun m => m.xpt = s.xpt ∧ m.regs = s.regs))
  ∧ (inWin k s ≠ wNoSig → inFmt k s ≠ 0 → frameAgrees fr (inFmt k s) = false →
    Acts (.inputFrameEnd t k fr) s (fun m => inFmt k m = 0 ∧ inWin k m = wNoFmt))
  ∧ (inWin k s ≠ wNoSig → inFmt k s = 0 → fmtValid fr.fmt = true → frameOwn fr = true → (xin k s).cand = some fr.fmt →
    Acts (.inputFrameEnd t k fr) s (fun m => inFmt k m = fr.fmt % 256 ∧ (xin k m).measured = true ∧ (xin k m).e = e fr.fmt))
  ∧ (inWin k s ≠ wNoSig → inFmt k s ≠ 0 → frameAgrees fr (inFmt k s) = true →
    Acts (.inputFrameEnd t k fr) s (fun m => inFmt k m = inFmt k s ∧ (xin k m).measured = true ∧ (xin k m).lastEnd = (advance t s).now
      ∧ (xin k m).e = e (inFmt k s)))
  ∧ (inWin k s = wIn ∨ inWin k s = wGuard →
    Acts (.windowExit t k) s (fun m => inWin k m = wOut ∧ getB XPT_IN_EVT.WIN_EXIT k m = true
      ∧ Counted XPT_IN_EXIT_CNT.COUNT XPT_IN_EVT.EXIT_OVF k s m
      ∧ ∀ o, o ∈ fedBy k s → outMode o s = mDirect → outMode o m = mFree ∧ getB XPT_OUT_EVT.UNSYNC o m = true))
  ∧ (inWin k s = wNoFmt →
    Acts (.nofmtTimeout t k) s (fun m =>
      (∀ o, o ∈ fedBy k s → isSafety o s = false → outMode o s = mDirect → outMode o m = mFree ∧ getB XPT_OUT_EVT.UNSYNC o m = true)
      ∧ ∀ a, a ∈ allocsOf k s → (alloc a m).writing = false
        ∧ ((alloc a s).started = true → getB KNL_ALLOC_STATUS.LOSS a m = true)))

/-! ### Kennel -/

/-- Hold times of the input measurements (R201, R206, R207): a condition that has held for its time sets its status and event, and one
that has failed for the clear time ends it. -/
def Obligations.MeasurementHoldsAct : Prop := ∀ (t k : Nat) (s : State), serving s = true → inUsed k s = true →
  (getB KNL_MEAS_STATUS.LOSS k s = false →
      elapsed (meas k s).lossSince (max 1 (getF KNL_MEAS_CFG2.LOSS_MS 0 s) * msUnit) (advance t s).now = true →
    Acts (.measurementHoldExpire t k .loss) s (fun m => getF KNL_MEAS_STATUS.LOSS k m = 1 ∧ getB KNL_MEAS_EVT.LOSS k m = true))
  ∧ (getB KNL_MEAS_STATUS.BLACK k s = false →
      elapsed (meas k s).blackSince (holdUnits (getF KNL_MEAS_CFG1.BLACK_SET 0 s)) (advance t s).now = true →
    Acts (.measurementHoldExpire t k .black) s (fun m => getF KNL_MEAS_STATUS.BLACK k m = 1 ∧ getB KNL_MEAS_EVT.BLACK k m = true))
  ∧ (getB KNL_MEAS_STATUS.BLACK k s = true →
      elapsed (meas k s).blackClear (holdUnits (getF KNL_MEAS_CFG1.CLEAR 0 s)) (advance t s).now = true →
    Acts (.measurementHoldExpire t k .blackClear) s (fun m => getF KNL_MEAS_STATUS.BLACK k m = 0))
  ∧ (getB KNL_MEAS_STATUS.FREEZE k s = false →
      elapsed (meas k s).freezeSince (holdUnits (getF KNL_MEAS_CFG1.FREEZE_SET 0 s)) (advance t s).now = true →
    Acts (.measurementHoldExpire t k .freeze) s (fun m => getF KNL_MEAS_STATUS.FREEZE k m = 1 ∧ getB KNL_MEAS_EVT.FREEZE k m = true))
  ∧ (getB KNL_MEAS_STATUS.FREEZE k s = true →
      elapsed (meas k s).freezeClear (holdUnits (getF KNL_MEAS_CFG1.CLEAR 0 s)) (advance t s).now = true →
    Acts (.measurementHoldExpire t k .freezeClear) s (fun m => getF KNL_MEAS_STATUS.FREEZE k m = 0))

/-- Kennel frames (R186, R191, R192, R200): at an output reference point a reader moves to the frame that the rule chooses and counts what
it drops; the reader of a STILL sends the frame selected; a receive flow without packets for a frame period is in loss; the end of a
capture puts the frame into its still. -/
def Obligations.KennelFramesMove : Prop := ∀ (t a p uid : Nat) (s : State), serving s = true →
  (a < 8192 → planeEnabled p s = true → pointAt (readerPts a p (advance t s)) (advance t s).now = true →
    (allocClass a s ≠ clStill → written (allocClass a s) = true → noFrames a s = false → leadFrame a p s = none →
      Acts (.kennelReaderChoice t a p) s (fun m =>
        (reader a p m).at_ = (advance t s).now
        ∧ match chooseFrame a p (advance t s).now (advance t s) with
          | .none => (reader a p m).shown = none
          | .repeat n => (reader a p m).shown = some n
          | .first n => (reader a p m).shown = some n
          | .next n => (reader a p m).shown = some n
          | .drop n => (reader a p m).shown = some n
              ∧ (serves a p s = true → Counted KNL_ALLOC_DROP_CNT.COUNT KNL_ALLOC_EVT.DROP_OVF a s m ∧ getB KNL_ALLOC_EVT.SLIP a m = true)))
    ∧ (∀ k, allocClass a s = clStill → (alloc a s).pend = [] → (reader a p s).shown = none →
        stillFrame a (getF KNL_ALLOC_STATUS.SELECT a s) s = some k → belongs k.fmt p s = true →
      Acts (.kennelReaderChoice t a p) s (fun m => (reader a p m).frame = some k ∧ (reader a p m).fmt = k.fmt)))
  ∧ (allocClass a s = clFlowRx → (alloc a s).lastPkt + framePeriod (fmtRate (allocFmtMax a s)) ≤ (advance t s).now →
    Acts (.flowWriterTimeout t a) s (fun m => (alloc a m).writing = false
      ∧ ((alloc a s).started = true → getB KNL_ALLOC_STATUS.LOSS a m = true)))
  ∧ (∀ b x n k, s.xpt.allocs.find? (fun q => q.2.captures.any (fun c => c.1 == uid)) = some (b, x) →
      x.captures.find? (fun c => c.1 == uid) = some (uid, n, k) →
    Acts (.captureDone t uid) s (fun m => getF KNL_ALLOC_STATUS.VALID b m = 1 ∧ getF KNL_ALLOC_STATUS.FORMAT b m = k.fmt % 256
      ∧ mget {} (alloc b m).stills n = { k with num := n } ∧ ∀ c, c ∈ (alloc b m).captures → c.1 ≠ uid))

/-! ### Composition engines -/

/-- A head frame boundary applies the commit accepted last of those that are due (R220, R236, R237): layers and heads take the values that
the shadows had when it was accepted, the commit is counted and no longer waits; each layer of the engine is then judged: a disabled
one shows nothing, one whose source is down is not ready and counted (R226, R227). Every head of the engine begins a frame. -/
def Obligations.HeadBoundaryCommits : Prop := ∀ (t e : Nat) (bad : List Nat) (s : State),
  serving s = true → getB CMP_ENG_CFG.ENABLED e s = true → domDown (400 + e) s = false → headFallsNow e (advance t s) = true →
  Acts (.headFrameBoundary t e bad) s (fun m =>
    (∀ p u, (s.cmp.pend.filter (fun q => q.engine == e && q.due.reached (advance t s).now (advance t s))).getLast? = some p →
      getB DBG_ENG_STATUS.HALTED (128 + e) s = false → p.copy = takeCopy e u → headsOf e u = headsOf e s →
      Counted CMP_ENG_COMMIT_CNT.COUNT CMP_ENG_EVT.COMMIT_OVF e s m ∧ getB CMP_ENG_EVT.COMMIT e m = true ∧ p ∉ m.cmp.pend
      ∧ (∀ h, h ∈ headsOf e s → getF CMP_HEAD_ACT1.WORD h m = getF CMP_HEAD_SHD1.WORD h u % 2 ^ 32
          ∧ getF CMP_HEAD_ACT2.WORD h m = getF CMP_HEAD_SHD2.WORD h u % 2 ^ 32)
      ∧ ∀ l w, l < 32 → w < 8 → (baseLayers e s).contains l = false → w ≠ 1 ∨ s.xpt.safety = [] →
          layerWord (32 * e + l) w m = shadowWord (32 * e + l) w u % 2 ^ 32)
    ∧ (s.cmp.pend = [] → s.xpt.safety = [] → ∀ l, l < 32 → (baseLayers e s).contains l = false →
        (rEn (layerWords (32 * e + l) s) = false → getF CMP_LAYER_STATUS.STATE (32 * e + l) m = 0)
        ∧ (rEn (layerWords (32 * e + l) s) = true → (headOf e (rHead (layerWords (32 * e + l) s)) s).isSome = true →
            sourceDown (rAlloc (layerWords (32 * e + l) s)) s = true →
            Counted CMP_LAYER_NOT_READY_CNT.COUNT CMP_LAYER_EVT.NOT_READY_OVF (32 * e + l) s m
            ∧ (getF CMP_LAYER_STATUS.STATE (32 * e + l) m = 2 ∨ getF CMP_LAYER_STATUS.STATE (32 * e + l) m = 3)))
    ∧ (regsOk s = true → ∀ h, h ∈ headsOf e s → mget 0 m.cmp.frames h = mget 0 s.cmp.frames h + 1
        ∧ (mget {} m.cmp.streams h).frameAt = (mget {} s.cmp.streams h).count))

/-! ### Shofar -/

/-- Prinel ends its checks (R246, R252, R253): a bundle that passes is in force and shown, one that fails leaves the bundle as it was; a
request that passes sets SEQ and acts, one that fails does neither; a failed signature is counted. -/
def Obligations.PrinelDecides : Prop := ∀ (t uid : Nat) (b q : List Byte) (bad : List Nat) (s : State), serving s = true →
  (s.shf.pendBundle.find? (fun p => p.1 == uid) = some (uid, b) →
    Acts (.bundleInForce t uid bad) s (fun m =>
      (∀ p, p ∈ m.shf.pendBundle → p.1 ≠ uid)
      ∧ (bundleCheck b (advance t s) = none → m.shf.bundle = b ∧ getF SHF_BUNDLE.VALID 0 m = 1
          ∧ getF SHF_BUNDLE.BCOUNTER_LO 0 m = bCounter b % 2 ^ 16 ∧ getF SHF_BUNDLE.N_MSG_M1 0 m = (bMsgs b - 1) % 16)
      ∧ ∀ st, bundleCheck b (advance t s) = some st → m.shf.bundle = s.shf.bundle
          ∧ getF SHF_BUNDLE.VALID 0 m = getF SHF_BUNDLE.VALID 0 s
          ∧ (st = stAuth → Counted SHF_AUTH_FAIL_CNT.COUNT SHF_CNT_FLAGS.AUTH_FAIL_OVF 0 s m)))
  ∧ (s.shf.pendReq.find? (fun p => p.1 == uid) = some (uid, q) →
    Acts (.shofarReqChecked t uid bad) s (fun m =>
      (∀ p, p ∈ m.shf.pendReq → p.1 ≠ uid)
      ∧ (reqCheck q (advance t s) = none →
          (StoreTakes rowShofarState bad s → getF SHF_SEQ.SEQ 0 m = reqSeq q)
          ∧ (reqAction q = 1 → bit (causes (reqMsg q) m) causeCmd = true))
      ∧ ∀ st, reqCheck q (advance t s) = some st → getF SHF_SEQ.SEQ 0 m = getF SHF_SEQ.SEQ 0 s ∧ m.shf.causes = s.shf.causes
          ∧ (st = stAuth → Counted SHF_AUTH_FAIL_CNT.COUNT SHF_CNT_FLAGS.AUTH_FAIL_OVF 0 s m)))

/-- The contacts (R247 to R249, R751): a sample of a loop class is its contact's class, and a class that changes begins to be debounced, a
value between the classes for 1 s is a fault, the state that a class gives counts once it has held for 20 ms, and a restore time that has
run ends the contact's cause. -/
def Obligations.ContactsAreDebounced : Prop := ∀ (t x k ohms : Nat) (bad : List Nat) (s : State), s.powered = true → x < 2 →
  (∀ c, loopClass ohms = some c →
    Does (.alarmLoopSample t x ohms) s (fun u => listedAt u.shf.loops x = some c ∧ listedAt u.shf.gaps x = none
      ∧ (∀ since, s.shf.cand.find? (fun p => p.1 == x) = some (x, c, since) → u.shf.cand = s.shf.cand)
      ∧ (∀ d since, s.shf.cand.find? (fun p => p.1 == x) = some (x, d, since) → d ≠ c →
          u.shf.cand.find? (fun p => p.1 == x) = some (x, c, (advance t s).now))))
  ∧ (loopClass ohms = none → listedAt s.shf.gaps x = none →
    Does (.alarmLoopSample t x ohms) s (fun u => listedAt u.shf.gaps x = some (advance t s).now))
  ∧ (∀ g, listedAt s.shf.gaps x = some g → g + secUnit ≤ (advance t s).now →
    Does (.alarmLoopGapTimeout t x) s (fun u => listedAt u.shf.loops x = some 2
      ∧ ∃ since, u.shf.cand.find? (fun p => p.1 == x) = some (x, 2, since)))
  ∧ (∀ c since, s.shf.cand.find? (fun p => p.1 == x) = some (x, c, since) → since + 20 * msUnit ≤ (advance t s).now →
    Does (.contactDebounceDone t x bad) s (fun u => ownContact x u = classState x c s))
  ∧ (serving s = true → ∀ d, restoreAt k s = some d → d ≤ (advance t s).now →
    Acts (.contactRestoreExpire t k bad) s (fun m => restoreAt k m = none
      ∧ (k < 2 → bit (causes (contactMsg k s) m) (causeContact k) = false)
      ∧ (2 ≤ k → ∀ f, contactFaultMsg (k - 2) s = some f → bit (causes f m) (causeFault (k - 2)) = false)))

/-! ### Audio blocks and reed engines -/

/-- An audio block boundary (R29, R312, R313, R315, R316, R332, R453): it falls where the audio plane's frames, or without a plane the grid of
local time, say; the block count then advances, writes and maps that are due have committed, an engine that has not executed END is
counted as overrun, and each running engine starts its program on the bank that was filled for it. At any other time no block starts. -/
def Obligations.AudioBlockStarts : Prop := ∀ (t : Nat) (s : State), serving s = true → regsOk s = true →
  (blockFallsNow (advance t s) = false →
    Acts (.audioBlockBoundary t) s (fun m => m.aud = s.aud ∧ m.reed = s.reed ∧ m.regs = s.regs))
  ∧ (blockFallsNow (advance t s) = true → s.aud.boundary < (advance t s).now →
  Acts (.audioBlockBoundary t) s (fun m =>
    getF AUD_BLOCK.COUNT 0 m = (getF AUD_BLOCK.COUNT 0 s + 1) % 2 ^ AUD_BLOCK.COUNT.width
    ∧ m.aud.boundary = (advance t s).now
    ∧ m.reed.pend = s.reed.pend.filter (fun p => !p.due.reached (advance t s).now (advance t s))
    ∧ m.aud.pend = s.aud.pend.filter (fun p => !p.due.reached (advance t s).now (advance t s))
    ∧ ∀ e, e ∈ engines s → engState e s = reedRun →
      ((reed e s).ended = false → Counted REE_ENG_OVERRUN_CNT.COUNT REE_ENG_EVT.OVERRUN_OVF e s m ∧ getB REE_ENG_EVT.OVERRUN e m = true)
      ∧ (domDown (272 + e) s = false → s.dbg.haltBlock.contains e = false →
          (reed e m).pc = 0 ∧ (reed e m).cycles = 0 ∧ (reed e m).ended = false ∧ (reed e m).loops = [] ∧ (reed e m).x = []
          ∧ (reed e m).out = [] ∧ (reed e m).inp = (reed e s).fill)))

/-- The control instructions of a reed engine (R314, R322, R324, R328): NOP does nothing else; END completes the block and writes the ramps
back; SETX and ADDX change an index register modulo 8192; LOOP begins its body. Whatever instruction ends a pass of a loop, the engine adds
STEP to the loop's X and goes back to the body's first instruction, or after the last pass on to the next. -/
def Obligations.ReedControlInstructions : Prop := ∀ (e : Nat) (s : State),
  (Executes 0x00 e s → ∃ u, exec (.reedNop e) s = .next u ∧ Stepped e [] s u)
  ∧ (Executes 0x01 e s → ∃ u, exec (.reedEnd e) s = .next u ∧ Stepped e [.ended, .ramps] s u ∧ (reed e u).ended = true ∧ (reed e u).ramps = []
      ∧ Counted64 REE_ENG_BLOCKS.COUNT e 1 s u
      ∧ getF REE_ENG_STATUS.LAST_CYCLES e u = (reed e u).cycles % 2 ^ REE_ENG_STATUS.LAST_CYCLES.width
      ∧ (∀ k, k < 4096 → k ∉ (reed e s).ramps.map (· % 4096) → coef e k u = coef e k s)
      ∧ ((reed e s).ramps.Nodup → (∀ k, k ∈ (reed e s).ramps → k < 4096) →
          ∀ k, k ∈ (reed e s).ramps → coef e k u = coef e (k + 1) s % 2 ^ 32))
  ∧ (Executes 0x02 e s → ∃ u, exec (.setx e) s = .next u ∧ Stepped e [.x] s u ∧ (atLoopEnd e s = false → ∀ i, 1 ≤ i → i < 4 →
      xval e i u = if i = fXI (nextWord e s) then fImm (nextWord e s) else xval e i s))
  ∧ (Executes 0x03 e s → ∃ u, exec (.addx e) s = .next u ∧ Stepped e [.x] s u ∧ (atLoopEnd e s = false → ∀ i, 1 ≤ i → i < 4 →
      (xval e i u : Int) = if i = fXI (nextWord e s) then ((xval e i s : Int) + toSigned 13 (fImm (nextWord e s))) % 8192 else xval e i s))
  ∧ (Executes 0x04 e s → 1 ≤ bits (nextWord e s) 13 8 → ∃ u, exec (.loop e) s = .next u ∧ Stepped e [.loops] s u
      ∧ ∃ l, (reed e u).loops = l :: (reed e s).loops ∧ l.first = (reed e s).pc + 1 ∧ l.last = (reed e s).pc + bits (nextWord e s) 13 8
        ∧ l.left = fImm (nextWord e s) ∧ l.step = bits (nextWord e s) 21 4 ∧ l.xi = fXI (nextWord e s))
  ∧ ∀ c op l ls, (c, op) ∈ [(Instr.reedNop e, 0x00), (.reedEnd e, 0x01), (.setx e, 0x02), (.addx e, 0x03), (.ldi e, 0x08), (.sto e, 0x09),
        (.lds e, 0x0A), (.sts e, 0x0B), (.lda e, 0x0C), (.sta e, 0x0D), (.clr e, 0x0E), (.mul e, 0x10), (.mac e, 0x11), (.msu e, 0x12),
        (.macr e, 0x13), (.macv e, 0x14), (.biq e, 0x18), (.tlu e, 0x19), (.valu e, 0x1C)] →
      Executes op e s → (reed e s).loops = l :: ls → l.last = (reed e s).pc → ∃ u, exec c s = .next u
      ∧ (l.xi ≠ 0 → op ≠ 0x02 → op ≠ 0x03 → 1 < l.left ∨ ls = [] → xval e l.xi u = (xval e l.xi s + l.step) % 8192)
      ∧ (1 < l.left → (reed e u).pc = l.first ∧ (reed e u).loops = { l with left := l.left - 1 } :: ls)
      ∧ (l.left ≤ 1 → ls = [] → (reed e u).pc = ((reed e s).pc + 1) % 8192 ∧ (reed e u).loops = [])

/-- The instructions that move data (R320 to R322): each of the 16 positions is moved, and what is not the destination keeps its value;
LDA and CLR begin a new sum; a store of an accumulator rounds, saturates and reports that it did. -/
def Obligations.ReedMoveInstructions : Prop := ∀ (e : Nat) (s : State),
  let w := nextWord e s
  (Executes 0x08 e s → ∃ u, exec (.ldi e) s = .next u ∧ Stepped e [.v] s u
    ∧ Loaded e (fVD w) (fun j => getIn e (bits w 0 10 + xval e (fXI2 w) s) j s) s u)
  ∧ (Executes 0x09 e s → ∃ u, exec (.sto e) s = .next u ∧ Stepped e [.out] s u ∧ ∀ ch j, ch < 512 → j < 16 →
      mget 0 (reed e u).out (16 * ch + j) =
        if ch = (bits w 0 9 + xval e (fXI2 w) s) % 512 then getV e (fVD w) j s else mget 0 (reed e s).out (16 * ch + j))
  ∧ (Executes 0x0A e s → ∃ u, exec (.lds e) s = .next u ∧ Stepped e [.v] s u
    ∧ Loaded e (fVD w) (fun j => getS e (fImm w + xval e (fXI2 w) s + j) s) s u)
  ∧ (Executes 0x0B e s → ∃ u, exec (.sts e) s = .next u ∧ Stepped e [.smem] s u
    ∧ (∀ j, j < 16 → getS e (fImm w + xval e (fXI2 w) s + j) u = getV e (fVD w) j s)
    ∧ ∀ k, k < 8192 → (∀ j, j < 16 → k ≠ (fImm w + xval e (fXI2 w) s + j) % 8192) → getS e k u = getS e k s)
  ∧ (Executes 0x0C e s → ∃ u, exec (.lda e) s = .next u ∧ Stepped e [.acc] s u
    ∧ Begun e (fA w) (fun j => val32 (getV e (bits w 21 4) j s) * 2 ^ 28) s u)
  ∧ (Executes 0x0D e s → ∃ u, exec (.sta e) s = .next u
    ∧ Saturated e (∃ j, j < 16 ∧ (storeAcc (getAcc e (fA w) j s) (toSigned 5 (bits w 17 5))).2 = true) s u
    ∧ (bit w 24 = false → Stepped e [.v] s u
        ∧ Loaded e (bits w 0 4) (fun j => word32 (storeAcc (getAcc e (fA w) j s) (toSigned 5 (bits w 17 5))).1) s u)
    ∧ (bit w 24 = true → Stepped e [.out] s u ∧ ∀ ch j, ch < 512 → j < 16 →
        mget 0 (reed e u).out (16 * ch + j) = if ch = (bits w 0 9 + xval e (fXI3 w) s) % 512 then
          word32 (storeAcc (getAcc e (fA w) j s) (toSigned 5 (bits w 17 5))).1 else mget 0 (reed e s).out (16 * ch + j)))
  ∧ (Executes 0x0E e s → ∃ u, exec (.clr e) s = .next u ∧ Stepped e [.acc] s u ∧ Begun e (fA w) (fun _ => 0) s u)

/-- The arithmetic instructions (R317 to R321, R324 to R327): MUL and MACV with N begin a sum of products, MAC, MSU, MACR and MACV without N
add to one, which holds 80 bits; MACR notes its coefficient for END; TLU and VALU write results saturated to 32 bits and report that they
saturated; BIQ filters its samples one after the other from the section's last two of each kind, and leaves the last two of each. What is
not the destination keeps its value. -/
def Obligations.ReedArithmeticInstructions : Prop := ∀ (e : Nat) (s : State),
  let w := nextWord e s
  (Executes 0x10 e s → ∃ u, exec (.mul e) s = .next u ∧ Stepped e [.acc] s u ∧ Begun e (fA w) (fun j => product e w j s) s u)
  ∧ (Executes 0x11 e s → ∃ u, exec (.mac e) s = .next u ∧ Stepped e [.acc] s u ∧ Added e (fA w) (fun j => product e w j s) s u)
  ∧ (Executes 0x12 e s → ∃ u, exec (.msu e) s = .next u ∧ Stepped e [.acc] s u ∧ Added e (fA w) (fun j => -product e w j s) s u)
  ∧ (Executes 0x13 e s → ∃ u, exec (.macr e) s = .next u ∧ Stepped e [.acc, .ramps] s u
    ∧ (reed e u).ramps = (if (reed e s).ramps.contains (coefAt e w s) then (reed e s).ramps else (reed e s).ramps ++ [coefAt e w s])
    ∧ Added e (fA w) (fun j => source e w j s * rampCoef e (coefAt e w s) j s) s u)
  ∧ (Executes 0x14 e s → ∃ u, exec (.macv e) s = .next u ∧ Stepped e [.acc] s u ∧
    let p (j : Nat) : Int := val32 (getV e (bits w 21 4) j s) * val32 (getV e (bits w 17 4) j s)
    (bit w 16 = true → Begun e (fA w) p s u) ∧ (bit w 16 = false → Added e (fA w) p s u))
  ∧ (Executes 0x19 e s → ∃ u, exec (.tlu e) s = .next u ∧ Stepped e [.v] s u
    ∧ Loaded e (fVD w) (fun j => word32 (tlu e (bits w 0 12) (getV e (bits w 19 4) j s) s).1) s u
    ∧ Saturated e (∃ j, j < 16 ∧ (tlu e (bits w 0 12) (getV e (bits w 19 4) j s) s).2 = true) s u)
  ∧ (Executes 0x1C e s → bits w 0 4 < 12 → ∃ u, exec (.valu e) s = .next u ∧ Stepped e [.v] s u
    ∧ Loaded e (fVD w) (fun j => word32 (sat32 (valu e w j s)).1) s u
    ∧ Saturated e (∃ j, j < 16 ∧ (sat32 (valu e w j s)).2 = true) s u)
  ∧ (Executes 0x18 e s → ∃ u, exec (.biq e) s = .next u ∧ Stepped e [.v, .smem] s u ∧
    let c := 8 * ((bits w 11 9 + xval e (fXI2 w) s) % 512)
    let z := 4 * ((bits w 0 11 + xval e (fXI2 w) s) % 2048)
    let n := if bit w 20 then 32 else 16
    let k (i : Nat) : Int := val32 (coef e (c + i) s)
    let x (i : Nat) : Nat := match i with
      | 0 => getS e (z + 1) s
      | 1 => getS e z s
      | i + 2 => getV e (biqPos w i).1 (biqPos w i).2 s
    let y (i : Nat) : Nat := match i with
      | 0 => getS e (z + 3) s
      | 1 => getS e (z + 2) s
      | i + 2 => getV e (biqPos w i).1 (biqPos w i).2 u
    (∀ i, i < n → y (i + 2) = word32 (storeAcc (sumClamp (0, false)
      [k 0 * val32 (x (i + 2)), k 1 * val32 (x (i + 1)), k 2 * val32 (x i), -(k 3 * val32 (y (i + 1))), -(k 4 * val32 (y i))]).1 0).1)
    ∧ getS e z u = x (n + 1) ∧ getS e (z + 1) u = x n ∧ getS e (z + 2) u = y (n + 1) ∧ getS e (z + 3) u = y n
    ∧ (∀ q, q < 8192 → q < z ∨ z + 4 ≤ q → getS e q u = getS e q s)
    ∧ ∀ v j, v < 16 → j < 16 → v ≠ fVD w → bit w 20 = false ∨ v ≠ (fVD w + 1) % 16 → getV e v j u = getV e v j s)

/-! ### Ethernet ports -/

/-- The end of a received frame (R357 to R364, R376): the first row that fails counts it and nothing is queued; a frame that passes them all
goes to its class's queue, is consumed as a PAUSE frame, or is an unsupported control frame. -/
def Obligations.ReceivedFramesAreSorted : Prop := ∀ (t k began fifo corr bad : Nat) (f : List Byte) (s : State),
  serving s = true → lpUsed k s = true →
  Acts (.macFrameRx t k f began fifo corr bad) s (fun m =>
    let body := f.take (f.length - 4)
    let row := rxRow k f (bad != 0) (advance t s)
    flushedWhile began (if isMedia body then (lp k s).flushMedia else (lp k s).flushCtl) (advance t s) = false →
    (∀ c b, (row, c, b) ∈ [(1, ETH_LP_RUNT.COUNT, 8), (2, ETH_LP_ADDR_DROP.COUNT, 11), (3, ETH_LP_OVERSIZE.COUNT, 9),
          (4, ETH_LP_RX_NOBUF.COUNT, 14), (5, ETH_LP_FCS_ERR.COUNT, 10), (6, ETH_LP_IP_HDR_ERR.COUNT, 12), (7, ETH_LP_UDP_CSUM_ERR.COUNT, 13)] →
        CountedBy c ETH_LP_CNT_FLAGS.OVF (b - 8) k 1 s m ∧ (lp k m).mediaRx = (lp k s).mediaRx ∧ (lp k m).ctlRx = (lp k s).ctlRx)
    ∧ (row = 0 → isPause k f s = true →
        (lp k m).pausePend = some (beAt f 16 2) ∧ CountedBy ETH_LP_PAUSE_RX.COUNT ETH_LP_CNT_FLAGS.OVF 8 k 1 s m)
    ∧ (row = 0 → isPause k f s = false → frameType f = 0x8808 → CountedBy ETH_LP_UNSUP_CTL.COUNT ETH_LP_CNT_FLAGS.OVF 11 k 1 s m)
    ∧ (row = 0 → isPause k f s = false → frameType f ≠ 0x8808 → isMedia body = true →
        (lp k m).mediaRx = (lp k s).mediaRx ++ [((advance t s).now, body)]
        ∧ Counted64 ETH_LP_RX_MEDIA.COUNT k 1 s m ∧ Counted64 ETH_LP_RX_OCTETS.COUNT k f.length s m)
    ∧ (row = 0 → isPause k f s = false → frameType f ≠ 0x8808 → isMedia body = false → hostUp s = false →
        (∃ c, (lp k m).ctlRx = (lp k s).ctlRx ++ [c] ∧ c.frame = untag body) ∧ Counted64 ETH_LP_RX_CTL.COUNT k 1 s m))

/-- Between frames a logical port sends media before control, pads and checksums what it sends, holds back what a pause holds, and discards
what its link cannot carry (R354, R366, R367, R370); a pause takes effect and ends (R369). -/
def Obligations.FramesAreSentBetweenPauses : Prop := ∀ (t k : Nat) (s : State), serving s = true → lpUsed k s = true →
  (linkUp k s = true → portBit ETH_PORT_STATUS.RFAULT k s = false → ∀ f fs, (lp k s).mediaTx = f :: fs →
    (paused k (advance t s) && getB ETH_LP_CFG.MEDIA_PAUSE k s = false →
      Acts (.macFrameTx t k) s (fun m => (lp k m).mediaTx = fs ∧ Counted64 ETH_LP_TX_FRAMES.COUNT k 1 s m
        ∧ Out.macFrame k (padFrame (withChecksums f (getB ETH_LP_CFG.UDP_CSUM k s))) ∈ m.out))
    ∧ (paused k (advance t s) && getB ETH_LP_CFG.MEDIA_PAUSE k s = true →
      Acts (.macFrameTx t k) s (fun m => (lp k m).mediaTx = fs
        ∧ CountedBy ETH_LP_MEDIA_PAUSE_DROP.COUNT ETH_LP_CNT_FLAGS.OVF 10 k 1 s m)))
  ∧ (linkUp k s = true → portBit ETH_PORT_STATUS.RFAULT k s = false → (lp k s).mediaTx = [] → paused k (advance t s) = false →
    ∀ x xs, (lp k s).ctlTx = x :: xs → frameType x.frame ≠ 0x8808 → (padFrame (insertTag x.frame x.tag)).length + 4 ≤ maxFrame k s →
    Acts (.macFrameTx t k) s (fun m => Counted64 ETH_LP_TX_FRAMES.COUNT k 1 s m
      ∧ Out.macFrame k (padFrame (insertTag x.frame x.tag)) ∈ m.out))
  ∧ (linkUp k s = false ∨ portBit ETH_PORT_STATUS.RFAULT k s = true →
    Acts (.macFrameTx t k) s (fun m => (lp k m).mediaTx = [] ∧ CountedBy ETH_LP_TX_LINK_DROP.COUNT ETH_LP_CNT_FLAGS.OVF 12 k
      ((lp k s).mediaTx.length + (if (lp k s).ctlTx = [] then 0 else 1)) s m))
  ∧ (∀ q, (lp k s).pausePend = some q →
    Acts (.pauseTakeEffect t k) s (fun m => (lp k m).pausePend = none ∧ portBit ETH_PORT_STATUS.PAUSED k m = (q != 0)
      ∧ (lp k m).pauseEnd = if q = 0 then none else some ((advance t s).now + pauseUnits k q s)))
  ∧ (∀ e, (lp k s).pauseEnd = some e → e ≤ (advance t s).now →
    Acts (.pauseTimerExpire t k) s (fun m => (lp k m).pauseEnd = none ∧ portBit ETH_PORT_STATUS.PAUSED k m = false))

/-- Links, datapath steps and flushes of the Ethernet ports (R354, R365, R372, R373, R702): a link's change shows, is an event and a count;
a window ends at each millisecond of local time, in the step its load asks for; an idle port's SerDes domain sleeps; a flush empties its
queue, counts what it discards and is busy until it is done. -/
def Obligations.PortsFollowTheirLinks : Prop := ∀ (t k p : Nat) (remote loc : Bool) (s : State),
  (serving s = true → lpUsed k s = true → domDown (256 + k / 4) s = false →
    Acts (.linkUp t k remote) s (fun m => linkUp k m = true ∧ portBit ETH_PORT_STATUS.RFAULT k m = remote
      ∧ portBit ETH_PORT_STATUS.LFAULT k m = false ∧ (linkUp k s = false → getB ETH_PORT_EVT.LINK_UP (k / 4) m = true)))
  ∧ (serving s = true → lpUsed k s = true → linkUp k s = true →
    Acts (.linkDown t k loc) s (fun m => linkUp k m = false ∧ portBit ETH_PORT_STATUS.LFAULT k m = loc
      ∧ getB ETH_PORT_EVT.LINK_DOWN (k / 4) m = true ∧ CountedBy ETH_LP_LINK_DOWN_CNT.COUNT ETH_LP_CNT_FLAGS.OVF 15 k 1 s m))
  ∧ (serving s = true → p < 16 → getB ETH_PORT_CFG.ENABLED p s = true → msInstant (advance t s) = true →
    Acts (.ethStepWindow t p) s (fun m =>
      (ethPort p m).rxBytes = 0 ∧ (ethPort p m).txBytes = 0 ∧ (ethPort p m).winStart = (advance t s).now
      ∧ (getF ETH_PORT_STATUS.STEP p s = 2 → getF ETH_PORT_STATUS.STEP p m =
          if stepRise ETH_PORT_STEP.RISE2 p s * windowBytes < max (ethPort p s).rxBytes (ethPort p s).txBytes * 100 then 1 else 2)
      ∧ (getF ETH_PORT_STATUS.STEP p s = 1 →
          stepRise ETH_PORT_STEP.RISE1 p s * windowBytes < max (ethPort p s).rxBytes (ethPort p s).txBytes * 100 →
          getF ETH_PORT_STATUS.STEP p m = 0)
      ∧ (getF ETH_PORT_STATUS.STEP p m ≠ getF ETH_PORT_STATUS.STEP p s →
          getB ETH_PORT_EVT.STEP p m = true ∧ Counted ETH_PORT_STEP_CHG_CNT.COUNT ETH_PORT_EVT.STEP_OVF p s m)))
  ∧ (serving s = true → p < 16 → getB ETH_PORT_CFG.ENABLED p s = true → getF PWR_DOM.STATE (256 + p) s = dOn →
      (∀ j, j < 4 → linkUp (4 * p + j) s = false) →
    Acts (.ethPortIdleTimeout t p) s (fun m => getF PWR_DOM.STATE (256 + p) m = dAsleep ∧ getF ETH_PORT_STATUS.STEP p m = 2))
  ∧ (reached s = true → lpUsed k s = true → getB ETH_LP_CTL.MEDIA_RX_BUSY k s = false →
    Acts (.flushMediaRx t k) s (fun m => (lp k m).mediaRx = [] ∧ getF ETH_LP_CTL.MEDIA_RX_BUSY k m = 1
      ∧ CountedBy ETH_LP_FLUSH_DROP.COUNT ETH_LP_CNT_FLAGS.OVF 7 k (lp k s).mediaRx.length s m))
  ∧ (reached s = true → lpUsed k s = true → getB ETH_LP_CTL.CTL_RX_BUSY k s = false →
    Acts (.flushCtlRx t k) s (fun m => (lp k m).ctlRx = [] ∧ getF ETH_LP_CTL.CTL_RX_BUSY k m = 1
      ∧ CountedBy ETH_LP_FLUSH_DROP.COUNT ETH_LP_CNT_FLAGS.OVF 7 k (lp k s).ctlRx.length s m))
  ∧ (reached s = true → lpUsed k s = true → getB ETH_LP_CTL.CTL_TX_BUSY k s = false →
      firstFrame (netRing (lpNet k s) s).txPend = none →
    Acts (.flushCtlTx t k) s (fun m => (lp k m).ctlTx = [] ∧ getF ETH_LP_CTL.CTL_TX_BUSY k m = 1
      ∧ CountedBy ETH_LP_FLUSH_DROP.COUNT ETH_LP_CNT_FLAGS.OVF 7 k (lp k s).ctlTx.length s m))
  ∧ ∀ q f, (q, f) ∈ [(0, ETH_LP_CTL.MEDIA_RX_BUSY), (1, ETH_LP_CTL.CTL_RX_BUSY), (2, ETH_LP_CTL.CTL_TX_BUSY)] →
      serving s = true → k < 64 → getB f k s = true →
      Acts (.flushDone t k q) s (fun m => getF f k m = 0 ∧ getB ETH_PORT_EVT.FLUSH_DONE (k / 4) m = true)

/-- Snapshots (R20, R35, R377): an order waits for the boundary, a frame boundary of the lowest plane enabled or, with none, a multiple of
40 ms of local time, which copies every counter and meter of what is enabled at once unless HOLD is set; the end of the copy shows the
boundary's time and counts it. Orders of the host to the meters (R334 to R336): CLR_MAX waits for the next block, RESET_INT restarts the
integrated measurement at once, and a write of a configuration register changes its fields. -/
def Obligations.MetersAndSnapshots : Prop :=
  (∀ (t : Nat) (s : State),
  (reached s = true → Does .snapArm s (fun u => getF MON_SNAP_STATUS.ARMED 0 u = 1)
    ∧ ∀ on : Bool, Does (.snapHold on) s (fun u => getF MON_SNAP_CTL.HOLD 0 u = b2n on))
  ∧ (serving s = true → getB MON_SNAP_STATUS.ARMED 0 s = true → getB MON_SNAP_CTL.HOLD 0 s = false → snapInstant (advance t s) = true →
      regsOk s = true → s.reed.cleared = [] →
    Acts (.snapshotBoundary t) s (fun m => getF MON_SNAP_STATUS.ARMED 0 m = 0 ∧ getF MON_SNAP_STATUS.COPYING 0 m = 1
      ∧ ∀ f i, fieldOf f.id = some f → f.ctr = true →
          (f.id ∈ [REE_PK_MAX.PEAK_MAX, REE_PK_TP_MAX.TP_MAX, REE_PK_100.PEAK_100].map Fld.id → getB REE_PK_CFG.EN i s = true) →
          (f.id = PIP_PLANE_COUNT.COUNT.id → getB PIP_PLANE_CFG.ENABLED i s = true) → mget (f.resetAt i) (mget [] m.snap f.id) i = getF f i s))
  ∧ (serving s = true → getB MON_SNAP_CTL.HOLD 0 s = true →
    Acts (.snapshotBoundary t) s (fun m => m.snap = s.snap ∧ getF MON_SNAP_STATUS.ARMED 0 m = getF MON_SNAP_STATUS.ARMED 0 s))
  ∧ (serving s = true → ∀ x, s.eth.snapAt = some x →
    Acts (.snapshotCopyDone t) s (fun m => getF MON_SNAP_STATUS.COPYING 0 m = 0 ∧ getF MON_SNAP_SEC.SEC 0 m = timeSec x % 2 ^ 48
      ∧ getF MON_SNAP_NS.NS 0 m = timeNs x ∧ getF MON_SNAP_SEQ.SEQ 0 m = (getF MON_SNAP_SEQ.SEQ 0 s + 1) % 2 ^ 32
      ∧ m.eth.snapAt = none)))
  ∧ ∀ (p q k value : Nat) (s : State), reached s = true → p < 8192 → q < 1024 → k < 8 →
  Does (.pkClrMax p) s (fun u => (mget {} u.reed.pk p).clr = true ∧ ∀ j, j ≠ p → mget {} u.reed.pk j = mget {} s.reed.pk j)
  ∧ Does (.ldClrMax q) s (fun u => (mget {} u.reed.ld q).clr = true ∧ ∀ j, j ≠ q → mget {} u.reed.ld j = mget {} s.reed.ld j)
  ∧ Does (.ldResetInt q) s (fun u => getF REE_LD_INT.INTEGRATED q u = 0x8000 ∧ getF REE_LD_GATED.COUNT q u = 0
      ∧ (mget {} u.reed.ld q).gates = [] ∧ (mget {} u.reed.ld q).intSegs = 0)
  ∧ Does (.meterConfigWrite (.pk p) value) s (fun u => getF REE_PK_CFG.EN p u = bits value 30 1
      ∧ getF REE_PK_CFG.PAIR96 p u = bits value 29 1 ∧ getF REE_PK_CFG.RING p u = bits value 0 18)
  ∧ Does (.meterConfigWrite (.ch q k) value) s (fun u => getF (ldChannel k).1 q u = bits value 30 2
      ∧ getF (ldChannel k).2.1 q u = bits value 29 1 ∧ getF (ldChannel k).2.2 q u = bits value 0 18)
  ∧ Does (.meterConfigWrite (.ctl q) value) s (fun u => getF REE_LD_CTL.EN q u = bits value 29 1)

/-! ### Flows -/

/-- Received flow packets (R397, R403 to R407): a packet of no context, with a bad header, or received before counts as such; the first of a
stream is accepted; positions whose wait has ended are lost; a path without packets for 10 ms is down, and both down are a loss. -/
def Obligations.FlowPacketsAreMerged : Prop := ∀ (t k c : Nat) (b : Bool) (pl : Payload) (s : State), serving s = true →
  (∀ at_ f fs, (lp k s).mediaRx = (at_, f) :: fs → domDown (520 + k / 4) s = false →
    Acts (.flowPacketRx t k pl) s (fun m =>
      let who := classify_ k (beAt f (ipAt f + 16) 4) (beAt f (ipAt f + 22) 2) (beAt f (ipAt f + 12) 4) s
      let r := rtpBytes f
      (lp k m).mediaRx = fs
      ∧ (who = none → Counted FLW_PORT_NOFLOW.COUNT FLW_PORT_FLAGS.NOFLOW_OVF (k / 4) s m)
      ∧ (who = some (c, b) → rtpVersion r ≠ 2 ∨ rtpType r ≠ bits (rxWord c 7 s) 0 7 →
          CountedBy FLW_RX_BAD_HDR.COUNT FLW_RX_FLAGS.OVF 2 c 1 s m ∧ getF FLW_RX_PKTS.COUNT c m = getF FLW_RX_PKTS.COUNT c s)
      ∧ (who = some (c, b) → rtpVersion r = 2 → rtpType r = bits (rxWord c 7 s) 0 7 → rxKind c s ≠ kVideo → (rxCtx c s).high = none →
          Counted64 FLW_RX_PKTS.COUNT c 1 s m ∧ (rxCtx c m).high = some (extSeq c r s))
      ∧ ∀ h, who = some (c, b) → rtpVersion r = 2 → rtpType r = bits (rxWord c 7 s) 0 7 → rxKind c s ≠ kVideo →
          (rxCtx c s).high = some h → extSeq c r s ≤ h + 8192 → h < extSeq c r s + 8192 → (rxCtx c s).seen.contains (extSeq c r s) = true →
          Counted64 FLW_RX_DUP.COUNT c 1 s m ∧ getF FLW_RX_PKTS.COUNT c m = getF FLW_RX_PKTS.COUNT c s))
  ∧ ((rxCtx c s).waits.any (fun w => decide (w.2 ≤ (advance t s).now)) = true →
    Acts (.positionLost t c) s (fun m =>
      (rxCtx c m).waits = (rxCtx c s).waits.filter (fun w => !decide (w.2 ≤ (advance t s).now))
      ∧ CountedBy FLW_RX_LOST.COUNT FLW_RX_FLAGS.OVF 0 c ((rxCtx c s).waits.filter (fun w => decide (w.2 ≤ (advance t s).now))).length s m))
  ∧ (∀ l, (if b then (rxCtx c s).lastB else (rxCtx c s).lastA) = some l → c < 65536 → getB FLW_RX_STATUS.EN c s = true →
      (b = true → rxPaired c s = true) → l + 10 * msUnit ≤ (advance t s).now →
    Acts (.pathDownTimeout t c b) s (fun m => getF (pathUpFld b) c m = 0
      ∧ (getB (pathUpFld b) c s = true → getB FLW_RX_EVT.PATH_DOWN c m = true)
      ∧ (getB (pathUpFld (!b)) c s = false → getF FLW_RX_STATUS.LOSS c m ≠ 0)))

/-- Transmitted flow packets (R364, R403, R408 to R413): each kind of context sends its next packet when its time has come, under the record in
force when its frame was taken or, of audio, its own, and numbers on; OPAQUE packets are sent on after RELAY_US. The frame that a reader has
chosen is taken by the contexts that send what it reads; one of VIDEO skips a plane frame for which there is none, or one of another
format, and counts it (R409). A receive record comes into force at its anchor (R418, R420, R421): the registers show it, and it no longer
waits. -/
def Obligations.FlowsAreSentUnderTheirRecords : Prop :=
  (∀ (t c line offset : Nat) (f : TxFrame) (rest : List TxFrame) (s : State), serving s = true →
  let now := (advance t s).now
  let x := txCtx c s
  (x.queue = f :: rest →
    (getF FLW_TX_CFG.KIND c s = kVideo → videoDue f x.sent ≤ now →
      Acts (.flowVideoPacketTx t c) s (fun m =>
        let n := videoPackets f.frame.fmt (videoSize (f.words.getD 7 0))
        Transmits c f.words (rtpHeaderIs c f.words (x.sent + 1 == n || (isInterlaced f.frame.fmt && x.sent + 1 == n / 2)) x.seq s) (advance t s) m
        ∧ (txCtx c m).seq = x.seq + 1
        ∧ (x.sent + 1 < n → (txCtx c m).sent = x.sent + 1 ∧ (txCtx c m).queue = x.queue)
        ∧ (n ≤ x.sent + 1 → (txCtx c m).sent = 0 ∧ (txCtx c m).queue = rest)))
    ∧ (getF FLW_TX_CFG.KIND c s = kAnc → f.at_ + (20 + x.sent) * usUnit ≤ now →
      Acts (.flowAncPacketTx t c line offset) s (fun m =>
        let n := max 1 (ancToSend f.frame (bit (f.words.getD 7 0) 0)).length
        (∃ last, (x.sent + 1 = n → last = true) ∧ Transmits c f.words (rtpHeaderIs c f.words last x.seq s) (advance t s) m)
        ∧ (txCtx c m).seq = x.seq + 1
        ∧ (x.sent + 1 < n → (txCtx c m).sent = x.sent + 1 ∧ (txCtx c m).queue = x.queue)
        ∧ (n ≤ x.sent + 1 → (txCtx c m).sent = 0 ∧ (txCtx c m).queue = rest))))
  ∧ (txAudio c s = true → getB FLW_TX_STATUS.EN c s = true → txSampleRate c s / txPacketRate c s ≤ x.audio.length →
      x.audioAt + txSampleRate c s / txPacketRate c s * secUnit / txSampleRate c s + txLat c s * secUnit / 48000 ≤ now →
    Acts (.flowAudioPacketTx t c) s (fun m => Transmits c (txRecord c s) (rtpHeaderIs c (txRecord c s) false x.seq s) (advance t s) m
      ∧ (txCtx c m).seq = x.seq + 1 ∧ (txCtx c m).audio = x.audio.drop (txSampleRate c s / txPacketRate c s)))
  ∧ ∀ at_ ws b more, (rxCtx c s).relay = (at_, ws, b) :: more → at_ ≤ now →
    Acts (.opaqueRelayTx t c) s (fun m => (rxCtx c m).relay = more
      ∧ (ws ≠ [] → Transmits (rxBind c s) ws (· = b) (advance t s) m)))
  ∧ (∀ (t a p c : Nat) (k : KFrame) (s : State), serving s = true → regsOk s = true → a < 8192 → planeEnabled p s = true →
      pointAt (readerPts a p (advance t s)) (advance t s).now = true → written (allocClass a s) = true → noFrames a s = false →
      leadFrame a p s = none → c ∈ flowReads a p s →
    let skipped (m : State) : Prop :=
      CountedBy FLW_TX_SKIP.COUNT FLW_TX_FLAGS.OVF 0 c 1 s m ∧ getB FLW_TX_EVT.SKIP c m = true ∧ txCtx c m = txCtx c s
    let chosen := chooseFrame a p (advance t s).now (advance t s)
    (chosen = .none → getF FLW_TX_CFG.KIND c s = kVideo → Acts (.kennelReaderChoice t a p) s skipped)
    ∧ (chosen = .first k.num ∨ chosen = .next k.num → delayFrames a s = 0 → frameNo a k.num s = some k → belongs k.fmt p s = true →
      (getF FLW_TX_CFG.KIND c s = kVideo → k.fmt ≠ bits (txWord c 7 s) 24 8 → Acts (.kennelReaderChoice t a p) s skipped)
      ∧ (getF FLW_TX_CFG.KIND c s = kVideo → k.fmt = bits (txWord c 7 s) 24 8 →
        Acts (.kennelReaderChoice t a p) s (fun m => (txCtx c m).queue = (txCtx c s).queue
          ++ [{ frame := k, at_ := (advance t s).now - tOut s, words := txRecord c s }]))))
  ∧ ∀ (t : Nat) (r : PendRec) (s : State), serving s = true → s.eth.recs = [r] →
  r.tx = false → recIsTx r.words = false → r.due.reached (advance t s).now (advance t s) = true →
  Acts (.flwRxRecordCommit t) s (fun m => m.eth.recs = [] ∧ getF FLW_RX_STATUS.EN (recCtx r.words) m = b2n (recOn r.words)
    ∧ (recOn r.words = true → ∀ k, k < 8 → rxWord (recCtx r.words) k m = wAt r.words k % 2 ^ 32)
    ∧ ∀ c, c ≠ recCtx r.words → getF FLW_RX_STATUS.EN c m = getF FLW_RX_STATUS.EN c s)

/-! ### Pitch Pipe -/

/-- The monitors of a reference (R437, R438, R468): lost activity makes it ABSENT, a second's measurement that passes the accept limits starts
the wait, the end of the wait qualifies it, and one beyond the reject limits disqualifies it; each loss of QUALIFIED is counted. The
selector (R440 to R445): the end of a transition's measurement locks to its target and counts the switch, a forced input that may be
selected is the next target, FORCE_HOLD goes to holdover, and PRIO and LOCKOUT take what is written; a failing clock monitor takes FIT
away (R505). -/
def Obligations.ReferencesAreSelected : Prop :=
  (∀ (t n : Nat) (r : RefMeas) (s : State), serving s = true → refUsed n s = true →
  (refQual n s ≠ qAbsent → Acts (.refActivityLoss t n) s (fun m => refQual n m = qAbsent ∧ getB PIP_REF_EVT.ABSENT n m = true
      ∧ (refQual n s = qQualified → getB PIP_REF_EVT.DISQUAL n m = true ∧ Counted PIP_REF_DISQ_CNT.COUNT PIP_REF_EVT.DISQ_OVF n s m)))
  ∧ (s.boot.refBad.contains n = false → refCarried n (advance t s) = true → rateSeen n r s = true → Acts (.refWindowUpdate t n r) s (fun m =>
      (refQual n s = qQualified → refRejects n r = true → refQual n m = qDisqual
        ∧ Counted PIP_REF_DISQ_CNT.COUNT PIP_REF_EVT.DISQ_OVF n s m)
      ∧ (refQual n s = qQualified → refRejects n r = false → refQual n m = qQualified
        ∧ getF PIP_REF_STATUS.WARN n m = b2n (r.filled && decide ((refLimits n).1 < r.freq.natAbs)))
      ∧ (refQual n s = qWait → refAccepts n r = false → refQual n m = qDisqual)
      ∧ (refQual n s = qAbsent ∨ refQual n s = qDisqual → refAccepts n r = true → refQual n m = qWait
        ∧ getF PIP_REF_STATUS.WTR_LEFT n m = getF PIP_REF_CFG.WTR_S n s % 512)
      ∧ (refQual n s = qAbsent ∨ refQual n s = qDisqual → refAccepts n r = false → refQual n m = qDisqual)))
  ∧ (∀ e, refQual n s = qWait → (mget ({} : RefSt) s.time.refs n).wtrEnd = some e → e ≤ (advance t s).now →
    Acts (.refWtrExpire t n) s (fun m => refQual n m = qQualified ∧ getB PIP_REF_EVT.QUALIFY n m = true ∧ getF PIP_REF_STATUS.WTR_LEFT n m = 0)))
  ∧ ∀ (t n prio : Nat) (lockout on : Bool) (bad : List Nat) (s : State),
  (serving s = true → pipState s = pipTransition → s.time.transAt + measureTime s ≤ (advance t s).now → getB PIP_CTL.FORCE_HOLD 0 s = false →
      refOk (getF PIP_STATUS.TARGET 0 s) s = true →
    Acts (.transitionMeasureEnd t) s (fun m => selected m = getF PIP_STATUS.TARGET 0 s ∧ getB PIP_EVT.SWITCH 0 m = true
      ∧ m.time.everSelected = true ∧ Counted PIP_SWITCH_CNT.COUNT PIP_EVT.SWITCH_OVF 0 s m))
  ∧ (reached s = true → n < 11 → getB PIP_CTL.FORCE_HOLD 0 s = false →
    Acts (.pipForceEn t true n) s (fun m => getF PIP_CTL.FORCE_EN 0 m = 1 ∧ getF PIP_CTL.FORCE_REF 0 m = n
      ∧ (refOk n s = false → getB PIP_EVT.FORCE_IGNORED 0 m = true)
      ∧ (refOk n s = true → pipState s = pipLocked → selected s ≠ n →
          pipState m = pipTransition ∧ getF PIP_STATUS.TARGET 0 m = n)))
  ∧ (reached s = true → Acts (.pipForceEn t false n) s (fun m => getF PIP_CTL.FORCE_EN 0 m = 0))
  ∧ (reached s = true →
    Acts (.pipForceHold t true) s (fun m => getF PIP_CTL.FORCE_HOLD 0 m = 1 ∧ pipState m = pipHoldover
      ∧ (pipState s ≠ pipHoldover → selected m = refNone ∧ getB PIP_EVT.HOLDOVER 0 m = true
          ∧ Counted PIP_HOLD_CNT.COUNT PIP_EVT.HOLD_OVF 0 s m))
    ∧ Acts (.pipForceHold t on) s (fun m => getF PIP_CTL.FORCE_HOLD 0 m = b2n on))
  ∧ (reached s = true → n < 11 → StoreTakes rowPref bad s →
    Acts (.refPrioWrite t n prio lockout bad) s (fun m => getF PIP_REF_CFG.PRIO n m = prio % 8 ∧ getF PIP_REF_CFG.LOCKOUT n m = b2n lockout))
  ∧ (serving s = true → getB SYS_STATUS.READY 0 s = true →
    Acts (.clockMonitorFailure t) s (fun m => getF TWN_STATUS.FIT 0 m = 0 ∧ m.twin.diag.testBit diagClock = true
      ∧ getB TWN_EVT.DIAG_FAIL 0 m = true))

/-- A plane's frame boundary (R447 to R452): its count advances, it moves towards its target by no more than its slew limit, or by what is
left within 10 ns; a hard realign, which waits for a boundary, puts it on its target at once and takes its count from local time. A pulse
output (R454, R476) shows what is written and waits for 1 µs; an event of the source in force makes a pulse of the set polarity, offset
and width. -/
def Obligations.PlanesAndPulses : Prop :=
  (∀ (t p : Nat) (pulse : Option Nat) (s : State), p < 8 → planeEnabled p s = true →
  (reached s = true → getF PIP_PLANE_STATUS.STATE p s ≠ plHeld →
    Acts (.hardRealign t p) s (fun m => (planeSt p m).hard = true ∧ (planeSt p m).boundary = (planeSt p s).boundary
      ∧ ∀ q, q ≠ p → planeSt q m = planeSt q s))
  ∧ (serving s = true → (planeSt p s).next ≤ (advance t s).now → stepDue s = false →
    Acts (.planeFrameBoundary t p pulse) s (fun m =>
      ((planeSt p s).hard = false →
        getF PIP_PLANE_COUNT.COUNT p m = (getF PIP_PLANE_COUNT.COUNT p s + 1) % 2 ^ 64
        ∧ (planeSt p m).boundary = (planeSt p s).next
        ∧ ∃ c : Int, (planeSt p m).next = (((planeSt p s).next : Int) + planePeriod p s + c).toNat
            ∧ c.natAbs ≤ max (slewLimit p s) alignTol)
      ∧ ((planeSt p s).hard = true → isVideo p s = false → onTwin s = false →
        let b := (((planeSt p s).next : Int) + timeError p (planeSt p s).next s).toNat
        (planeSt p m).boundary = b ∧ (planeSt p m).hard = false ∧ getB PIP_PLANE_EVT.HARD p m = true
        ∧ getF PIP_PLANE_COUNT.COUNT p m = nearest2059 p (toLocal b s) s % 2 ^ 64))))
  ∧ ∀ (t k cfg offset src : Nat) (s : State), k < 4 →
  (reached s = true →
    Acts (.pulseConfigWrite t k cfg offset) s (fun m => getF PIP_PULSE_CFG.EN k m = bits cfg 31 1 ∧ getF PIP_PULSE_CFG.WIDTH k m = bits cfg 16 8
      ∧ getF PIP_PULSE_CFG.POL k m = bits cfg 30 1
      ∧ getF PIP_PULSE_CFG.SRC k m = bits cfg 0 4 ∧ getF PIP_PULSE_OFFSET.OFFSET_NS k m = bits offset 0 30
      ∧ (pulseSt k m).cfg = (pulseSt k s).cfg ∧ ((pulseSt k m).written.map (·.1)) = some (advance t s).now))
  ∧ (serving s = true → pulseSource src s = true → pulseFalls src (advance t s) = true → pulsesDriven s = true →
      (pulseSt k s).written = none → (pulseSt k s).cfg.en = true → (pulseSt k s).cfg.src = src →
    Acts (.pulseEvent t k src) s (fun m => Out.pulse k (pulseSt k s).cfg.low
      ((advance t s).now + min (pulseSt k s).cfg.offsetNs (pulsePeriodNs src s - 1) * nsUnit) (max 1 (pulseSt k s).cfg.width * 100) ∈ m.out))

/-! ### Time -/

/-- Local time (R455 to R460, R643): the servo slews by no more than TIME_SLEW allows and by no more than the offset, which a 1 PPS input gives
to the nearest second, and steps by 1 ms or more; a step is shown and counted; a captured time is set at a second, from which lapsed
grants are not valid. -/
def Obligations.LocalTimeStepsAndSlews : Prop := ∀ (t : Nat) (offset : Int) (s : State),
  (serving s = true →
    Acts (.timeServoUpdate t offset) s (fun m =>
      let theta := if getF TIM_STATUS.SOURCE 0 s = 4 ∨ getF TIM_STATUS.SOURCE 0 s = 5 then foldHalf offset secUnit else offset
      m.time.servoAt = (advance t s).now
      ∧ (getF TIM_STATUS.SOURCE 0 s = refNone → m.timeOff = s.timeOff)
      ∧ (getF TIM_STATUS.SOURCE 0 s ≠ refNone → theta.natAbs < msOffset →
          (m.timeOff - s.timeOff).natAbs ≤ theta.natAbs
          ∧ (m.timeOff - s.timeOff).natAbs ≤ ((advance t s).now - s.time.servoAt) * timeSlew s / 1000000
          ∧ getF TIM_STEP_CNT.COUNT 0 m = getF TIM_STEP_CNT.COUNT 0 s)
      ∧ (getF TIM_STATUS.SOURCE 0 s ≠ refNone → msOffset ≤ theta.natAbs →
          m.timeOff = s.timeOff + theta ∧ getB TIM_EVT.STEP 0 m = true ∧ Counted TIM_STEP_CNT.COUNT TIM_EVT.STEP_OVF 0 s m)))
  ∧ (serving s = true → secondInstant (advance t s) = true →
    Acts (.localTimeSecond t) s (fun m =>
      (getB TIM_STATUS.SET_PEND 0 s = true → getF TIM_STATUS.SET_PEND 0 m = 0 ∧ getB TIM_EVT.SET_DONE 0 m = true
        ∧ m.timeOff = s.timeOff + ((s.time.setSec : Int) - timeSec (localTime (advance t s))) * secUnit)
      ∧ (getB TIM_STATUS.SET_PEND 0 s = false → m.timeOff = s.timeOff)
      ∧ ∀ g, g < 4 → getF SEC_GRANT_A.NOT_AFTER_HI g s * 2 ^ 32 + getF SEC_GRANT_B.NOT_AFTER_LO g s < timeSec (localTime m) →
          getF SEC_GRANT_A.VALID g m = 0))
  ∧ (reached s = true →
    Acts (.timSetApply t) s (fun m =>
      if isPtp (getF TIM_STATUS.SOURCE 0 s) = true ∨ getF TIM_STATUS.SOURCE 0 s = refTwin then
        getB TIM_EVT.SET_REFUSED 0 m = true ∧ getF TIM_STATUS.SET_PEND 0 m = getF TIM_STATUS.SET_PEND 0 s
      else getF TIM_STATUS.SET_PEND 0 m = 1 ∧ m.time.setSec = getF TIM_SET_SEC.SEC 0 s))

/-- PTP instances (R461, R462, R482 to R485): a write of the configuration restarts the instance; a second Announce of a port makes it the
master where there is none, or where it is better than the one there is; a Sync, alone or with its Follow_Up, and an exchange with the
master are measured; without Announce messages for three of their intervals the instance listens again; Delay_Req messages number on, at
the interval that the master gives. -/
def Obligations.PtpInstancesFollowAMaster : Prop := ∀ (t i v seq t4 q t3 t1 t2 steps utc arrived : Nat) (interval : Int)
  (src old : Nat × Nat) (ds md : List Nat) (valid : Bool) (s : State), i < 2 →
  let dom := getF TIM_PTP_CFG.DOMAIN i s
  let port := getF TIM_PTP_CFG.LP i s
  let now := (advance t s).now
  (reached s = true → Acts (.ptpCfgWrite t i v) s (fun m => getF TIM_PTP_CFG.DOMAIN i m = bits v 0 7 ∧ getF TIM_PTP_CFG.LP i m = bits v 7 6
      ∧ getF TIM_PTP_CFG.VID i m = bits v 13 12 ∧ (ptp i m).master = none
      ∧ portState i m = if ptpOn i m then ptpListening else ptpDisabled))
  ∧ (serving s = true → ptpOn i s = true →
    let stamped := rxStamp port (min arrived now) (advance t s)
    ((ptp i s).master = none → (ptp i s).foreign = [] →
      Acts (.ptpMessageRx t i dom src (.announce ds steps utc valid interval)) s (fun m =>
        (ptp i m).master = none ∧ (ptp i m).foreign = [(src, 1, ds)]))
    ∧ ((ptp i s).master = none ∨ ((ptp i s).master = some (old, md) ∧ old ≠ src ∧ betterDs ds md = true) →
        (∃ d, (ptp i s).foreign = [(src, 1, d)]) →
      Acts (.ptpMessageRx t i dom src (.announce ds steps utc valid interval)) s (fun m =>
        (ptp i m).master = some (src, ds) ∧ portState i m = ptpUncalibrated ∧ getF TIM_PTP_GM.GM_ID i m = gmOf ds % 2 ^ 64
        ∧ getF TIM_PTP_STATUS.STEPS_REMOVED i m = steps % 256 ∧ (ptp i m).annAt = now ∧ (ptp i m).annLog = interval))
    ∧ ((ptp i s).master = some (src, md) →
      Acts (.ptpMessageRx t i dom src (.sync seq arrived (some t1))) s (fun m => (ptp i m).sync = some (t1, stamped))
      ∧ Acts (.ptpMessageRx t i dom src (.sync seq arrived none)) s (fun m =>
          (ptp i m).await = some (seq, stamped) ∧ (ptp i m).sync = (ptp i s).sync)
      ∧ ((ptp i s).await = some (seq, t2) →
          Acts (.ptpMessageRx t i dom src (.followUp seq t1)) s (fun m => (ptp i m).sync = some (t1, t2) ∧ (ptp i m).await = none)))
    ∧ ((ptp i s).master = some (src, md) → (ptp i s).req = some (q, t3) → (ptp i s).sync = some (t1, t2) →
      Acts (.ptpMessageRx t i dom src (.delayResp q t4 interval)) s (fun m =>
        (ptp i m).req = none ∧ (ptp i m).reqLog = some interval
        ∧ getF TIM_PTP_MPD.MPD_NS i m = ofSigned 32 ((((t2 : Int) - t1) + ((t4 : Int) - t3)).tdiv (2 * nsUnit))))
    ∧ ((ptp i s).master.isSome = true → (ptp i s).annAt + 3 * logTime (ptp i s).annLog ≤ now →
      Acts (.announceTimeout t i) s (fun m => (ptp i m).master = none ∧ portState i m = ptpListening ∧ getB TIM_PTP_EVT.TIMEOUT i m = true
        ∧ Counted TIM_PTP_TIMEOUT_CNT.COUNT TIM_PTP_EVT.TIMEOUT_OVF i s m))
    ∧ (portState i s = ptpUncalibrated ∨ portState i s = ptpSlave → (∀ l, (ptp i s).reqLog = some l → (ptp i s).reqAt + logTime l ≤ now) →
      Acts (.delayReqTx t i) s (fun m =>
        (∃ tag, Out.delayReq i port (ptp i s).delaySeq (getB TIM_PTP_CFG.DELAY_UC i s) (getB TIM_PTP_CFG.TRANSPORT i s) tag ∈ m.out
          ∧ (tag = none ↔ getB TIM_PTP_CFG.TAG i s = false))
        ∧ (ptp i m).req = some ((ptp i s).delaySeq, txStamp port now (advance t s))
        ∧ (ptp i m).delaySeq = ((ptp i s).delaySeq + 1) % 65536)))

/-! ### Twin: roles and timers -/

/-- Timers and lost paths of the twin (R496, R500 to R506, R510): they move the role as the rules say, each after its time: a path is lost 8.5
ms after its last bark, a claim lapses 4 ms after it was last refreshed, and a yielding module that nobody relieves within 20 ms
withdraws its lanes and returns them 200 ms later as HEEL. -/
def Obligations.TwinTimersMoveRoles : Prop := ∀ (t p h : Nat) (s : State), serving s = true → claimOk s = true →
  (p < 2 → getB (pathFld p) 0 s = true → (pathSt p s).at_ + 8500 * usUnit ≤ (advance t s).now →
    Acts (.pathLost t p) s (fun m => getF (pathFld p) 0 m = 0 ∧ getB TWN_EVT.PATH 0 m = true ∧ role m = role s
      ∧ (p = 0 → getF TWN_STATUS.SYNC 0 m = 0 ∧ (role s = roleHeel → getB TWN_STATUS.STALE 0 m = true))
      ∧ (getB (pathFld (1 - p)) 0 s = false → getB TWN_EVT.TWIN_LOST 0 m = true)))
  ∧ (role s = roleInit → s.twin.handshakeAt = some h → h + getF TWN_CFG.HANDSHAKE_MS 0 s * msUnit ≤ (advance t s).now →
      s.twin.hardware = false →
    Acts (.handshakeTimeout t) s (fun m => role m = roleLead ∧ getF TWN_STATUS.CLAIM 0 m = 1 ∧ getF TWN_STATUS.TWIN_PRESENT 0 m = 0))
  ∧ (s.twin.hardware = false → getB TWN_CFG.SOLO 0 s = false →
    Acts (.evidenceTimer t) s (fun m =>
      let a := updateEvidence (advance t s)
      (role s = roleHeel → twinSilent s = true → heldFor a.twin.ownSince (2 * msUnit) a = true → role m = roleLead)
      ∧ (role s = roleLead → heldFor a.twin.twinSince (20 * msUnit) a = true → role m = roleYielded)
      ∧ (role s = roleInit ∨ role s = roleYielded → role m = role s)))
  ∧ (getB TWN_STATUS.CLAIM 0 s = true → getB TWN_CFG.SOLO 0 s = false → max s.twin.fedAt s.twin.roleAt + 4 * msUnit ≤ (advance t s).now →
    Acts (.claimWatchdogExpiry t) s (fun m => role m = roleYielded ∧ getF TWN_STATUS.CLAIM 0 m = 0 ∧ getF TWN_STATUS.FIT 0 m = 0
      ∧ m.twin.hardware = true))
  ∧ (role s = roleYielded → getB TWN_STATUS.WITHDRAWN 0 s = false → s.twin.roleAt + 20 * msUnit ≤ (advance t s).now →
    Acts (.yieldTimer t) s (fun m => getF TWN_STATUS.WITHDRAWN 0 m = 1 ∧ ∀ n, n < 2048 → outState n s = stActive → outState n m = stIdle))
  ∧ (role s = roleYielded → getB TWN_STATUS.WITHDRAWN 0 s = true → s.twin.withdrawnAt + 200 * msUnit ≤ (advance t s).now →
    Acts (.withdrawEnd t) s (fun m => getF TWN_STATUS.WITHDRAWN 0 m = 0 ∧ role m = roleHeel))

/-- Failures and restorations of the self-diagnosis, the sniff cycle and the health record (R505, R512, R513): a failing row takes FIT away
and is an event, one whose condition has been restored for its time leaves; a cycle of a HEEL counts the steps that fail; the record is
numbered and carries its CRC. -/
def Obligations.TwinDiagnosesItself : Prop := ∀ (t p k : Nat) (found : SniffFind) (r : List Byte) (burst : Option Burst)
    (access : Option (Nat × Burst)) (s : State),
  serving s = true →
  (getB SYS_STATUS.READY 0 s = true →
    (Acts (.lockstepMismatch t p burst) s (fun m => getF TWN_STATUS.FIT 0 m = 0 ∧ m.twin.diag.testBit diagLockstep = true))
    ∧ (k < 8 → Acts (.kennelStackFailure t k) s (fun m => getF TWN_STATUS.FIT 0 m = 0 ∧ m.twin.diag.testBit diagStack = true
        ∧ m.twin.stackBad.testBit k = true ∧ ∀ a, allocClass a s ≠ clAbsent → (alloc a m).writing = false))
    ∧ (k = 70 ∨ k = 71 ∨ bankUsed k s = true →
      Acts (.sramUncorrectableError t k access) s (fun m => getF TWN_STATUS.FIT 0 m = 0 ∧ m.twin.diag.testBit diagSram = true)))
  ∧ (assignedActive s = true → (∀ x, s.twin.lanesSince = some x → x + secUnit ≤ (advance t s).now) → s.twin.lanesSince ≠ none →
    Acts (.fitRestoreTimer t diagLanes) s (fun m => m.twin.diag.testBit diagLanes = false
      ∧ (m.twin.diag = 0 → getB SYS_STATUS.READY 0 s = true → getF TWN_STATUS.FIT 0 m = 1)))
  ∧ (∀ x, s.mon.clearAt = some x → x + 60 * secUnit ≤ (advance t s).now →
    Acts (.fitRestoreTimer t diagThermal) s (fun m => m.twin.diag.testBit diagThermal = false))
  ∧ (role s = roleHeel → s.twin.hardware = false →
    Acts (.sniffCycleStart t found) s (fun m =>
      let failing := (List.range 6).filter (fun j => found.fails.testBit j && !(sniffSkips s).testBit j)
      m.twin.sniffSeq = (s.twin.sniffSeq + 1) % 2 ^ 32 ∧ m.twin.sniffSkip = sniffSkips s
      ∧ (failing ≠ [] → CountedBy TWN_SNIFF_FAIL_CNT.COUNT TWN_CNT_FLAGS.OVF 8 0 failing.length s m ∧ getB TWN_EVT.SNIFF_FAIL 0 m = true)
      ∧ (0 ∈ failing ∨ 2 ∈ failing ∨ 5 ∈ failing → getF TWN_STATUS.FIT 0 m = 0 ∧ m.twin.diag.testBit diagSniff = true)
      ∧ (0 ∉ failing → 2 ∉ failing → 5 ∉ failing → m.twin.diag.testBit diagSniff = false)))
  ∧ (s.twin.hardware = false → (∀ h, s.twin.healthAt = some h → h + 100 * msUnit ≤ (advance t s).now) →
    Acts (.healthRecordTx t) s (fun m => m.twin.hseq = (s.twin.hseq + 1) % 2 ^ 32
      ∧ ∃ x : List Byte, x.length = 64 ∧ leAt x 4 4 = m.twin.hseq ∧ leAt x 60 4 = crc32 (x.take 60)
        ∧ (∀ w, w < 16 → getF TWN_HEALTH_OWN.WORD w m = leAt x (4 * w) 4)
        ∧ (twinTxLanes s ≠ [] → Out.twin (TwinMsg.health x).header (.health x) ∈ m.out)))
  ∧ (s.twin.hardware = false → getB TWN_STATUS.LINK_UP 0 s = true → r.length = 64 → leAt r 60 4 = crc32 (r.take 60) → leAt r 0 1 = 1 →
    Acts (.health t r) s (fun m => (∀ w, w < 16 → getF TWN_HEALTH_TWIN.WORD w m = leAt r (4 * w) 4)
      ∧ ((r.drop 8).take 8 = ownDigest s → getF TWN_STATUS.DIGEST_OK 0 m = 1)
      ∧ ((r.drop 8).take 8 ≠ ownDigest s → getF TWN_STATUS.DIGEST_OK 0 m = 0 ∧ getB TWN_EVT.PAIR_MISMATCH 0 m = true)))

/-- Barks (R487, R490, R493 to R500, R503): one is sent at the first block start of each millisecond of local time, numbered, with the role and
a CRC; before the service pair runs it is a BOOT bark in INIT, each millisecond; a good bark of the own pair is what the twin last said
and moves the role as the table of roles says; one of another pair is only an event, and one on the link of a twin with another digest is
ignored until it shows INIT. -/
def Obligations.BarksMoveRoles : Prop := ∀ (t p : Nat) (bs : List Byte) (b : Bark) (s : State),
  let preamble : List Byte := List.replicate 7 0x55#8 ++ [0xD5#8]
  (serving s = true → getB SYS_STATUS.READY 0 s = true → getB DBG_ENG_STATUS.HALTED 161 s = false → s.twin.hardware = false →
      s.dbg.tapTest = false → barkInstant (advance t s) = true →
    Acts (.barkTx t) s (fun m => m.twin.bseq = (s.twin.bseq + 1) % 2 ^ 32
      ∧ ∃ x, Out.bark 1 (preamble ++ x) ∈ m.out ∧ x.length = 64 ∧ leAt x 1 1 = kindBark ∧ leAt x 2 1 = role s % 256
        ∧ leAt x 4 4 = (s.twin.bseq + 1) % 2 ^ 32 ∧ leAt x 60 4 = crc32 (x.take 60)))
  ∧ (crumhornRuns s = true → s.twin.barked = false → s.dbg.tapTest = false → (∀ x, s.twin.bootAt = some x → x + msUnit ≤ (advance t s).now) →
    Does (.bootBark t) s (fun u => ∃ x, Out.bark 1 (preamble ++ x) ∈ u.out ∧ x.length = 64 ∧ leAt x 1 1 = kindBoot ∧ leAt x 2 1 = roleInit
      ∧ leAt x 4 4 = (s.twin.bseq + 1) % 2 ^ 32 ∧ leAt x 60 4 = crc32 (x.take 60)))
  ∧ (serving s = true → p < 2 → parseBark bs = some b → imageRuns s = true → pathDead p s = false → s.twin.hardware = false →
      b.pairId ≠ getF TWN_PAIR_ID.ID 0 s →
    Acts (.barkRx t p bs) s (fun m => getB TWN_EVT.PAIR_MISMATCH 0 m = true ∧ m.twin.last = s.twin.last ∧ role m = role s))
  ∧ (serving s = true → p < 2 → parseBark bs = some b → imageRuns s = true → pathDead p s = false → s.twin.hardware = false →
      b.pairId = getF TWN_PAIR_ID.ID 0 s → s.twin.linkDeaf = true → p = 0 → b.role ≠ roleInit →
    Acts (.barkRx t p bs) s (fun m => m.twin.last = s.twin.last ∧ role m = role s))
  ∧ (serving s = true → p < 2 → parseBark bs = some b → imageRuns s = true → pathDead p s = false → s.twin.hardware = false →
      b.pairId = getF TWN_PAIR_ID.ID 0 s → s.twin.linkDeaf = false ∨ p = 1 ∨ b.role = roleInit → getB TWN_CFG.SOLO 0 s = false →
    Acts (.barkRx t p bs) s (fun m =>
      m.twin.last = b ∧ getF TWN_STATUS.TWIN_CLAIM 0 m = b2n b.claim ∧ getF TWN_STATUS.TWIN_FIT 0 m = b2n b.fit
      ∧ (2 ≤ (pathSt p s).good → getF (pathFld p) 0 m ≠ 0)
      ∧ (role s = roleInit → s.twin.handshakeAt ≠ none → b.role = roleLead → role m = roleHeel)
      ∧ (role s = roleInit → s.twin.handshakeAt ≠ none → b.role = roleInit →
          role m = if b.epoch < getF TWN_EPOCH.EPOCH 0 s ∨ (b.epoch = getF TWN_EPOCH.EPOCH 0 s ∧ getB TWN_STATUS.SIDE_B 0 s = false)
            then roleLead else roleHeel)
      ∧ (role s = roleInit → s.twin.handshakeAt ≠ none → b.role = roleHeel ∨ b.role = roleYielded → role m = roleLead)
      ∧ (role s = roleInit → s.twin.handshakeAt = none → role m = roleInit)
      ∧ (role s = roleLead → role m = if b.claim = true ∧ twinWins b s = true then roleHeel else roleLead)
      ∧ (role s = roleHeel → role m = if b.kind = kindYield then roleLead else roleHeel)
      ∧ (role s = roleYielded → role m = if b.claim then roleHeel else roleYielded)))

/-- Orders of the host to the twin (R500, R505, R507, R514): YIELD and TAKE move the role where their conditions hold and are otherwise
refused with an event; RESYNC asks a HEEL to resynchronise; FEED_BOTH is what is written. -/
def Obligations.TwinOrdersOfTheHost : Prop := ∀ (t : Nat) (on : Bool) (s : State), reached s = true → claimOk s = true →
  (role s = roleLead → getB TWN_STATUS.TWIN_FIT 0 s = true → s.twin.last.sync = 2 → pathUp s = true → getB TWN_CFG.SOLO 0 s = false →
    Acts (.twnYield t) s (fun m => role m = roleYielded ∧ getF TWN_STATUS.CLAIM 0 m = 0
      ∧ CountedBy TWN_YIELD_CNT.COUNT TWN_CNT_FLAGS.OVF 3 0 1 s m))
  ∧ (role s ≠ roleLead ∨ getB TWN_STATUS.TWIN_FIT 0 s = false ∨ s.twin.last.sync ≠ 2 →
    Acts (.twnYield t) s (fun m => role m = role s ∧ getB TWN_EVT.TAKE_REFUSED 0 m = true))
  ∧ (role s = roleHeel → twinSilent s = true → selectTwin (updateEvidence (advance t s)) = false →
    Acts (.twnTake t) s (fun m => role m = roleLead ∧ getF TWN_STATUS.CLAIM 0 m = 1
      ∧ CountedBy TWN_TAKEOVER_CNT.COUNT TWN_CNT_FLAGS.OVF 2 0 1 s m))
  ∧ (role s ≠ roleHeel ∨ twinSilent s = false →
    Acts (.twnTake t) s (fun m => role m = role s ∧ getB TWN_EVT.TAKE_REFUSED 0 m = true))
  ∧ (role s = roleHeel → Acts (.twnResync t) s (fun m => m.twin.wantResync = true))
  ∧ Acts (.twnFeedBoth t on) s (fun m => getF TWN_CTL.FEED_BOTH 0 m = b2n on)

/-- Messages of the twin link (R492, R507, R509, R514): a HEEL takes a mirror and acknowledges it, or queues it while it resynchronises; a LEAD
notes acknowledgements and reports; a decision that comes in time is kept for its point; a resynchronisation goes step by step; what
waits 100 µs for its acknowledgement is sent again. -/
def Obligations.TwinMessagesAreTaken : Prop := ∀ (t mseq a p l n x : Nat) (d : Int) (applied : Bool) (r : Mirror) (c : TwinCopy) (s : State),
  serving s = true →
  (role s = roleHeel → hearsTwin s = true → getB TWN_CTL.FEED_BOTH 0 s = false →
    (queueing s = false → s.twin.mseqWant = some r.mseq → r.deadline = none → mirrorCheck r (advance t s) = none →
        mirrorLacks r (advance t s) = false →
      Acts (.mirror t r) s (fun m => m.twin.mseqWant = some (r.mseq + 1) ∧ m.cmd.opens.length = s.cmd.opens.length + 1
        ∧ (∃ o, o ∈ m.cmd.opens ∧ o.mirror = true ∧ o.mseq = r.mseq ∧ o.opcode = eOpcode r.raw)
        ∧ (twinTxLanes s ≠ [] → Out.twin (TwinMsg.mirrorAck r.mseq).header (.mirrorAck r.mseq) ∈ m.out)
        ∧ getF TWN_RING_LAST.VALID r.ring m = 1 ∧ getF TWN_RING_LAST.INDEX r.ring m = r.entry % 4096))
    ∧ (queueing s = true → s.twin.queued = [] →
      Acts (.mirror t r) s (fun m => m.twin.queued = [r] ∧ m.cmd.opens = s.cmd.opens)))
  ∧ (role s = roleHeel → hearsTwin s = true →
    (getF AUD_BLOCK.COUNT 0 s < n → Acts (.decision t (.slip a d n)) s (fun m => m.twin.choices = s.twin.choices ++ [.slip a d n]))
    ∧ (localTime (advance t s) < x →
      Acts (.decision t (.path a n x)) s (fun m => m.twin.choices = s.twin.choices ++ [.path a n x])
      ∧ Acts (.decision t (.reader a p n x)) s (fun m => m.twin.choices = s.twin.choices ++ [.reader a p n x])
      ∧ Acts (.decision t (.layer l n x)) s (fun m => m.twin.choices = s.twin.choices ++ [.layer l n x]))
    ∧ (x ≤ localTime (advance t s) →
      Acts (.decision t (.path a n x)) s (fun m => CountedBy TWN_DECIDE_LATE_CNT.COUNT TWN_CNT_FLAGS.OVF 6 0 1 s m
        ∧ getB TWN_EVT.DECIDE_LATE 0 m = true)))
  ∧ (role s = roleLead → hearsTwin s = true →
    Acts (.mirrorAck t mseq) s (fun m => (∀ o, o ∈ m.cmd.opens → o.mirrored = true → o.mseq = mseq → o.acked ≠ none)
      ∧ ∀ u, u ∈ m.twin.unacked → ∀ q, u.1 = .mirror q → q.mseq ≠ mseq)
    ∧ Acts (.commitRpt t mseq applied) s (fun m => ∀ o, o ∈ m.cmd.opens → o.mirrored = true → o.mseq = mseq →
        o.reported = true ∧ (applied = false → o.solo = true))
    ∧ (getB TWN_CTL.FEED_BOTH 0 s = false → Acts (.resyncReq t mseq) s (fun m => m.twin.serving ≠ none
        ∧ (twinTxLanes s ≠ [] → s.twin.hardware = false → Out.twin (TwinMsg.resyncAck mseq).header (.resyncAck mseq) ∈ m.out)))
    ∧ Acts (.stateAck t) s (fun m => ∀ u, u ∈ m.twin.unacked → ∀ k y, u.1 ≠ .state k y))
  ∧ (role s = roleHeel → hearsTwin s = true →
    (s.twin.resync = .requested → Acts (.resyncAck t s.twin.reqMseq) s (fun m => m.twin.resync = .acked))
    ∧ (s.twin.resync = .stepped → s.twin.queued = [] →
      Acts (.state t mseq c) s (fun m => m.twin.resync = .applying ∧ m.twin.mseqWant = some (c.m0 + 1)
        ∧ m.twin.audCopy = some (c.aud, c.reeds)
        ∧ (twinTxLanes s ≠ [] → Out.twin (TwinMsg.stateAck mseq).header (.stateAck mseq) ∈ m.out))))
  ∧ Acts (.messageRetransmit t) s (fun m => (∀ u, u ∈ m.twin.unacked → (advance t s).now < u.2 + 100 * usUnit)
      ∧ ∀ u, u ∈ s.twin.unacked → (∀ q, u.1 ≠ .mirror q) → u.2 + 100 * usUnit ≤ (advance t s).now → twinTxLanes s ≠ [] →
          s.twin.hardware = false → Out.twin u.1.header u.1 ∈ m.out)
  ∧ (role s = roleLead → twinSynced s = true → written (allocClass a s) = true →
      chosenNo (chooseFrame a p ((advance t s).now + 40 * usUnit) (advance t s)) = some n →
    Acts (.leadFrameDecision t false a p none) s (fun m =>
      m.twin.choices = s.twin.choices ++ [.reader a p n (toLocal ((advance t s).now + 40 * usUnit) s)]))

/-! ### Host interface -/

/-- Ring pairs, network rings, events and interrupts (R534 to R537, R550 to R556): a tail outside its ring stops it with FAULT; a ring that
runs keeps its configuration but for EN = 0; free completion entries let held ones out; network descriptors up to the tail are taken;
a pop takes the oldest record; arming, the coalescing time and unmasking signal what waits. -/
def Obligations.RingsAndEvents : Prop := ∀ (t r n v value : Nat) (b : Bool) (burst : Option Burst) (ds : List (List Byte × Option (List Byte)))
  (rs : List (List Byte)) (s : State), reached s = true → r < 16 → n < 2 →
  Acts (.sqDoorbell t r value) s (fun m => getF HIF_SQ_TAIL.TAIL r m = value % 2 ^ 32
    ∧ (sqSize r s ≤ value % 2 ^ 32 → getB HIF_SQ_STATUS.FAULT r m = true ∧ r ∈ m.cmd.stopped)
    ∧ (value % 2 ^ 32 < sqSize r s → getF HIF_SQ_STATUS.FAULT r m = getF HIF_SQ_STATUS.FAULT r s ∧ m.cmd = s.cmd))
  ∧ (ringWaits r s = true → Acts (.sqReadError t r burst) s (fun m => getB HIF_SQ_STATUS.FAULT r m = true ∧ r ∈ m.cmd.stopped
      ∧ (burst ≠ none → getF FAB_ERR_LOG.KIND (getF FAB_ERR_HEAD.SLOT 0 m) m = fkAbort
          ∧ getF FAB_ERR_LOG.MASTER (getF FAB_ERR_HEAD.SLOT 0 m) m = maDma)))
  ∧ (ringIdle r s = true → Acts (.sqEnable t r value) s (fun m => getF HIF_SQ_CFG.EN r m = bits value 31 1
      ∧ getF HIF_SQ_CFG.SIZE_LOG2 r m = bits value 0 4
      ∧ (bit value 31 = true → getF HIF_SQ_HEAD.HEAD r m = 0 ∧ getF HIF_CQ_TAIL.TAIL r m = 0 ∧ getF HIF_CQ_TAIL.PHASE r m = 1
          ∧ r ∉ m.cmd.stopped)))
  ∧ (getB HIF_SQ_CFG.EN r s = true → bit value 31 = false → ringIdle r s = false →
    Acts (.sqEnable t r value) s (fun m => getF HIF_SQ_CFG.EN r m = 0 ∧ m.cmd = s.cmd))
  ∧ (getB HIF_SQ_CFG.EN r s = true → bit value 31 = true →
    Acts (.sqEnable t r value) s (fun m => RefusedAccess true false (HIF_SQ_CFG.EN.base + 64 * r) s m
      ∧ getF HIF_SQ_CFG.EN r m = getF HIF_SQ_CFG.EN r s ∧ getF HIF_SQ_CFG.SIZE_LOG2 r m = getF HIF_SQ_CFG.SIZE_LOG2 r s))
  ∧ Acts (.cqHeadWrite t r value) s (fun m => getF HIF_CQ_HEAD.HEAD r m = value % 2 ^ 32
    ∧ ∀ c, s.cplHeld = [c] → c.ring = r → (getF HIF_CQ_TAIL.TAIL r s + 1) % cqSize r s ≠ value % 2 ^ 32 % cqSize r s →
        m.cplHeld = [] ∧ Out.hostWrite (getF HIF_CQ_BASE.ADDR r s + 32 * getF HIF_CQ_TAIL.TAIL r s) (c.bytes (getF HIF_CQ_TAIL.PHASE r s)) ∈ m.out)
  ∧ Acts (.netTxDoorbell t n value ds) s (fun m => getF HIF_NET_TX_TAIL.TAIL n m = value % 2 ^ 32
    ∧ ∀ d x, (netRing n s).txPend = [] → ds = [(d, some x)] → bit (byteAt d 10) 1 = true → getB HIF_NET_TX_CFG.EN n s = true →
        (value + netTxSize n s - getF HIF_NET_TX_TAIL.TAIL n s % netTxSize n s) % netTxSize n s ≠ 0 → lpUsed (byteAt d 11) s = true →
        lpNet (byteAt d 11) s = n → ctlTxBytes (byteAt d 11) s + (x.take (leAt d 8 2)).length ≤ ctlTxSize (byteAt d 11) s →
        ∃ f, (lp (byteAt d 11) m).ctlTx = (lp (byteAt d 11) s).ctlTx ++ [f] ∧ f.net = n ∧ f.frame = x.take (leAt d 8 2))
  ∧ (∀ fs, firstFrame (netRing n s).txPend = some fs → fs.any (fun d => d.2.isNone) = true →
    Acts (.netTxReadError t n burst) s (fun m => ∃ rest, Out.hostWrite
      (getF HIF_NET_TX_BASE.ADDR n s + 32 * (((netRing n s).txNext + fs.length - 1) % netTxSize n s) + 14) (leBytes 1 txReadErr ++ rest) ∈ m.out))
  ∧ Acts (.netRxTail t n value rs) s (fun m => getF HIF_NET_RX_TAIL.TAIL n m = value % 2 ^ 32
    ∧ (netRing n m).rxDescs = (netRing n s).rxDescs
        ++ rs.take ((value + netRxSize n s - getF HIF_NET_RX_TAIL.TAIL n s % netRxSize n s) % netRxSize n s))
  ∧ Does .eventPop s (fun u =>
    (∀ e es, s.evtFifo = e :: es → u.evtFifo = es ∧ u.out = Out.readData 0x200020 (leBytes 4 (popWord 0 false e)) :: s.out ∧ u.evtLast = e)
    ∧ (s.evtFifo = [] → getF HIF_EVT_STATUS.UNDERRUN 0 u = 1
        ∧ u.out = Out.readData 0x200020 (leBytes 4 (popWord 0 true s.evtLast)) :: s.out))
  ∧ Does .eventArm s (fun u => (s.evtFifo = [] → getF HIF_EVT_STATUS.ARMED 0 u = 1)
    ∧ (s.evtFifo ≠ [] → getF HIF_EVT_STATUS.ARMED 0 u = 0 ∧ Signalled 16 s u))
  ∧ Does .accessErrRead s (fun u => u.pcie.accessSet = false
    ∧ u.out = Out.readData 0x20000c (leBytes 4 (getF HIF_ACCESS_ERR.COUNT 0 s)) :: s.out)
  ∧ ((mget (0, 0) s.coal r).1 ≠ 0 → (mget (0, 0) s.coal r).2 + getF HIF_CQ_CFG.COAL_US r s * usUnit ≤ (advance t s).now →
    Acts (.msixCoalesceTimeout t r) s (fun m => (mget (0, 0) m.coal r).1 = 0 ∧ Signalled r s m))
  ∧ (v < 64 → Does (.msixMaskWrite v b) s (fun u => (mget ({} : MsixVec) u.msix v).masked = b
      ∧ (b = false → (mget ({} : MsixVec) s.msix v).pending = true → Out.msix v ∈ u.out ∧ (mget ({} : MsixVec) u.msix v).pending = false)
      ∧ (b = true → (mget ({} : MsixVec) u.msix v).pending = (mget ({} : MsixVec) s.msix v).pending)
      ∧ ∀ w, w ≠ v → mget ({} : MsixVec) u.msix w = mget ({} : MsixVec) s.msix w))

/-- A full event FIFO discards a new record and counts it; the first record posted after room returns carries LOST; the event bits stay set
in their registers, whatever becomes of their record (R551). -/
def Obligations.FullFifoCountsLost : Prop :=
  (∀ (h : HeldEvt) (s : State), (getF HIF_EVT_MASK.MASK 0 s).testBit (h.source - 1) = false → s.evtFifo.any (joins h) = false →
    (evtFifoCap ≤ s.evtFifo.length → (postNow h s).evtFifo = s.evtFifo ∧ (postNow h s).evtLost = true
      ∧ Counted HIF_EVT_LOST.COUNT HIF_CNT_FLAGS.LOST_OVF 0 s (postNow h s))
    ∧ (s.evtFifo.length < evtFifoCap → ∃ r, (postNow h s).evtFifo = s.evtFifo ++ [r] ∧ r.lost = s.evtLost ∧ r.source = h.source
      ∧ r.bits = h.bits ∧ (postNow h s).evtLost = false))
  ∧ ∀ (fs : List Fld) (i : Nat) (s : State), (∀ f, f ∈ fs → fieldOf f.id = some f ∧ f.evt ≠ 0) → ∀ f, f ∈ fs → getB f i (raise fs i s) = true

/-- Accesses of the host (R12 to R15, R36, R43, R44, R531, R532, R596): one that is refused is counted and recorded and has no other effect,
and a refused read returns zeros; before READY nothing outside SYS counts; a write of a register without an effect of its own writes
its RW fields and clears the W1C bits written as 1; a read returns the register, and latches the upper word of a counter; BAR2 reads
and writes SRAM and kennel, and a write it does not admit is refused. -/
def Obligations.HostAccessesAreServed : Prop := ∀ (t off size value : Nat) (w : Option Nat) (bs : List Byte) (env : RegEnv) (s : State),
  (reached s = true → bar0Refused off 4 (some (value % 2 ^ 32)) s = true →
    Acts (.registerWrite t off value env) s (fun m => RefusedAccess true false off s m ∧ m.xpt = s.xpt ∧ m.cmd = s.cmd
      ∧ ∀ f i, f.id ∉ (accessFlds ++ hifCounters).map Fld.id → getF f i m = getF f i s))
  ∧ (reached s = true → bar0Refused off 4 (some (value % 2 ^ 32)) s = false → 0x800000 ≤ off → off < 0x1400000 →
    Acts (.registerWrite t off value env) s (fun m => ∀ f i, (f, i, false) ∈ fieldsAt off s → f.spans = false →
      (f.acc = .rw → keptAtThree f (bits (value % 2 ^ 32) f.lo f.width) = false → getF f i m = bits (value % 2 ^ 32) f.lo f.width)
      ∧ ((∀ q, q ∈ fieldsAt off s → q.1.acc = .w1c) →
          getF f i m = (getF f i s - (getF f i s &&& bits (value % 2 ^ 32) f.lo f.width)) % 2 ^ f.width)))
  ∧ (reached s = true → bar0Refused off 4 none s = false → off ≠ 0x200020 → off ≠ 0x20000c → unitRefused off s = false →
    Does (.latchedRead t off) s (fun u =>
      (s.pcie.latch.find? (fun p => p.1 == off) = none → u.out = Out.readData off (leBytes 4 (readWord off (advance t s))) :: s.out)
      ∧ (∀ p, s.pcie.latch.find? (fun p => p.1 == off) = some p → u.out = Out.readData off (leBytes 4 p.2) :: s.out)
      ∧ ∀ f i, (f, i, false) ∈ fieldsAt off s → f.live64 = true →
          u.pcie.latch.find? (fun p => p.1 == off + 4) = some (off + 4, readWord (off + 4) (advance t s))))
  ∧ (reached s = true → bar0Refused off size w s = true →
    Does (.bar0AccessRefused t off size w) s (fun u => RefusedAccess w.isSome false off s u
      ∧ (w = none → Out.readData off (List.replicate size 0#8) ∈ u.out) ∧ u.xpt = s.xpt ∧ u.cmd = s.cmd))
  ∧ (s.powered = true → hostUp s = true → getB SYS_STATUS.READY 0 s = false → sysBlock off = false → bar0Refused off size w s = true →
    Does (.bar0AccessRefused t off size w) s (fun u => u.regs = s.regs
      ∧ (w = none → u.out = Out.readData off (List.replicate size 0#8) :: s.out)))
  ∧ (reached s = true → size ∈ [4, 8, 16, 32, 64] → off % size = 0 →
    (0x34000000 ≤ off → off < 2 ^ 30 → Does (.bar2Access t off size none) s (fun u => RefusedAccess false true off s u
        ∧ Out.readData (bar2Log + off) (List.replicate size 0#8) ∈ u.out))
    ∧ (off < 0x34000000 → Does (.bar2Access t off size none) s (fun u =>
        ∃ d : List Byte, d.length = size ∧ u.out = Out.readData (bar2Log + off) d :: s.out))
    ∧ ∀ knl a, bar2At off s = some (knl, a) →
      (bar2Writable knl a s = false → Does (.bar2Access t off size (some bs)) s (fun u => RefusedAccess true true off s u ∧ u.xpt = s.xpt))
      ∧ (bar2Writable knl a s = true → knl = false → bs.length = size → (∀ j, j < size → bankGated ((a + j) / 0x400000) s = false) →
        Does (.bar2Access t off size (some bs)) s (fun u => (∀ j, j < size → sramByte (a + j) u = bs.getD j 0#8)
          ∧ (∀ o, (∀ j, j < size → o ≠ a + j) → sramByte o u = sramByte o s) ∧ u.regs = s.regs)))

/-- The PCIe function (R529, R557, R595): PERST, a function level reset, a hot reset or a lost link empties the rings and discards the
completions; the function answers again once its configuration space is ready; D3hot holds back what D0 lets out. -/
def Obligations.FunctionResetsAndSleeps : Prop := ∀ (t : Nat) (burst : Option Burst) (s : State),
  let emptied (m : State) : Prop := m.cplHeld = [] ∧ m.msix = []
    ∧ (∀ r, getF HIF_SQ_CFG.EN r m = 0 ∧ getF HIF_SQ_STATUS.FAULT r m = 0 ∧ getF HIF_CQ_HEAD.HEAD r m = 0)
    ∧ (∀ o, o ∈ m.cmd.opens → o.mirror = false → o.drop = true) ∧ getF HIF_DROP_CPL.COUNT 0 m = s.cplHeld.length
    ∧ (burst = none → s.evtHeld = [] → m.evtFifo = []) ∧ m.xpt = s.xpt
  (inService s = true → getB SYS_STATUS.READY 0 s = true → s.cplHeld.length ≤ 0xFFFFFFFF →
    Does (.hostPerstN t burst) s (fun u => emptied u ∧ u.pcie.perst = true ∧ u.pcie.crs = true))
  ∧ (serving s = true → getB SYS_STATUS.READY 0 s = true → s.cplHeld.length ≤ 0xFFFFFFFF →
    Acts (.functionLevelReset t burst) s (fun m => emptied m
      ∧ m.pcie.perst = s.pcie.perst ∧ m.pcie.crs = s.pcie.crs ∧ m.pcie.d3hot = false))
  ∧ (s.powered = true → Does (.hostPerstNDeassert t) s (fun u => u.pcie.perst = false ∧ u.pcie.crs = s.pcie.crs))
  ∧ (s.powered = true → s.pcie.perst = false → 4 ≤ getF SYS_STATUS.STEP 0 s →
    Does (.configurationSpaceReady t) s (fun u => u.pcie.crs = false))
  ∧ (s.powered = true → s.pcie.perst = true ∨ getF SYS_STATUS.STEP 0 s < 4 →
    Does (.configurationSpaceReady t) s (fun u => u.pcie.crs = s.pcie.crs))
  ∧ (serving s = true → hostUp s = true → Acts (.d3hotEntry t) s (fun m => m.pcie.d3hot = true ∧ hostUp m = false))
  ∧ (serving s = true → s.pcie.d3hot = true →
    Acts (.d0Return t) s (fun m => m.pcie.d3hot = false
      ∧ (getB SYS_STATUS.READY 0 s = true → m.evtHeld = [])
      ∧ (s.pcie.perst = false → s.pcie.crs = false → ∀ v, v < 64 → (mget ({} : MsixVec) s.msix v).pending = true →
          (mget ({} : MsixVec) s.msix v).masked = false → Out.msix v ∈ m.out)))

/-! ### Images and labels -/

/-- Images and labels (R577 to R582, R586, R590, R627): a write whose read-back agrees makes its slot VALID, one that disagrees leaves it
EMPTY; validation of a reload pauses fetch or refuses the image; the boot load takes the preferred slot, else the other; the IMAGE
reset puts the image in force; RB_COMMIT raises the stored counter and makes older slots STALE; a label goes through the journal. -/
def Obligations.ImagesAndLabels : Prop := ∀ (t x : Nat) (bad : List Nat) (pulses : List (Nat × Nat)) (s : State), serving s = true →
  let a := withBad bad id (advance t s)
  let k := getF SYS_IMG_BOOT.PREFER 0 s
  let a' := setImg (fun i => { i with bootDone := true }) a
  (∀ uid j b, s.img.writing = some (uid, j, b) →
    Acts (.imageWriteDone t true) s (fun m => m.img.writing = none ∧ slotState j m = slotValid ∧ slotBytes j m = b
      ∧ slotRollback j m = iRollback b % 2 ^ 32)
    ∧ Acts (.imageWriteDone t false) s (fun m => m.img.writing = none ∧ slotState j m = slotState j s ∧ slotBytes j m = slotBytes j s
      ∧ ∀ c, c ∈ m.cmd.opens → c.uid = uid → c.failed = stImage))
  ∧ (∀ l, s.img.load = some l → l.valid = false →
    (judgeLoad l a = none → Acts (.imageValidated t bad) s (fun m => m.img.load = some { l with valid := true } ∧ m.cmd.paused = true))
    ∧ ∀ c d, judgeLoad l a = some (c, d) → Acts (.imageValidated t bad) s (fun m => m.img.load = none ∧ m.cmd.paused = s.cmd.paused
        ∧ getF SYS_IMG_REFUSE.REASON 0 m = c % 256 ∧ getB SYS_IMG_EVT.REFUSED 0 m = true
        ∧ ∀ o, o ∈ m.cmd.opens → o.uid = l.uid → o.failed = stImage))
  ∧ (getB SYS_STATUS.READY 0 s = true → s.img.bootDone = false → getF SYS_IMG_STATUS.SOURCE 0 s = 0 →
    (slotState k s = slotValid → validate (slotBytes k s) a' = none → Acts (.imageBootLoad t bad) s (fun m => m.img.bootDone = true
        ∧ m.img.boot = some { source := k + 1, bytes := slotBytes k s, fallback := false, valid := true }))
    ∧ (slotState k s ≠ slotValid → slotState (1 - k) s = slotValid → validate (slotBytes (1 - k) s) a' = none →
      Acts (.imageBootLoad t bad) s (fun m => m.img.bootDone = true
        ∧ m.img.boot = some { source := 1 - k + 1, bytes := slotBytes (1 - k) s, fallback := true, valid := true }))
    ∧ (slotState k s ≠ slotValid → slotState (1 - k) s ≠ slotValid →
      Acts (.imageBootLoad t bad) s (fun m => m.img.bootDone = true ∧ m.img.boot = none)))
  ∧ (getB SYS_STATUS.READY 0 s = true → midSalvo s = false →
    (∀ l, s.img.boot = some l → Acts (.imageReset t bad pulses) s (fun m => m.img.boot = none
        ∧ getF SYS_IMG_STATUS.SOURCE 0 m = l.source % 4 ∧ getF SYS_IMG_STATUS.FALLBACK 0 m = b2n l.fallback
        ∧ getB SYS_IMG_EVT.LOADED 0 m = true ∧ (getB TWN_CFG.SOLO 0 m = false → role m = roleInit)))
    ∧ ∀ l, s.img.boot = none → s.img.load = some l → l.valid = true → Acts (.imageReset t bad pulses) s (fun m => m.img.load = none
        ∧ m.img.restoring = some l.uid ∧ m.cmd.paused = false ∧ getF SYS_IMG_STATUS.SOURCE 0 m = l.source % 4
        ∧ getB SYS_IMG_EVT.LOADED 0 m = true))
  ∧ (reached s = true →
    (getF SYS_IMG_ROLLBACK.VALUE 0 s ≤ getF SYS_IMG_RB_STORED.VALUE 0 s → Acts (.rbCommit t bad) s (fun m =>
        getB SYS_IMG_EVT.RB_NOCHANGE 0 m = true ∧ getF SYS_IMG_RB_STORED.VALUE 0 m = getF SYS_IMG_RB_STORED.VALUE 0 s))
    ∧ (getF SYS_IMG_RB_STORED.VALUE 0 s < getF SYS_IMG_ROLLBACK.VALUE 0 s → StoreTakes rowSecurity bad s → Acts (.rbCommit t bad) s (fun m =>
        getF SYS_IMG_RB_STORED.VALUE 0 m = getF SYS_IMG_ROLLBACK.VALUE 0 s % 2 ^ 32
        ∧ ∀ j, j < 2 → slotState j s = slotValid →
            slotState j m = if slotRollback j s < getF SYS_IMG_ROLLBACK.VALUE 0 s % 2 ^ 32 then slotStale else slotValid))
    ∧ (getB PST_LABEL_CTL.BUSY 0 s = true ∨ 32767 < x → Acts (.labelCommit t x bad) s (fun m =>
        getB PST_EVT.LABEL_REFUSED 0 m = true ∧ m.pst.journal = s.pst.journal ∧ getF PST_LABEL_CTL.BUSY 0 m = getF PST_LABEL_CTL.BUSY 0 s))
    ∧ (getB PST_LABEL_CTL.BUSY 0 s = false → x < 32768 → StoreTakes rowJournal bad s → Acts (.labelCommit t x bad) s (fun m =>
        m.pst.journal = some (x, (List.range 8).map (fun w => getF PST_LABEL_STAGE.WORD w s)) ∧ getF PST_LABEL_CTL.BUSY 0 m = 1)))
  ∧ ∀ ws, getB PST_LABEL_CTL.BUSY 0 s = true → s.pst.journal = some (x, ws) → ws.length = 8 → StoreTakes (rowLabel x) bad s →
    Acts (.labelCommitDone t bad) s (fun m => (∀ w, w < 8 → getF PST_LABEL.WORD (8 * x + w) m = ws.getD w 0 % 2 ^ 32)
      ∧ m.pst.journal = none ∧ getF PST_LABEL_CTL.BUSY 0 m = 0 ∧ getB PST_EVT.LABEL_DONE 0 m = true)

/-! ### Security -/

/-- The request mailbox (R635 to R643, R646, R650, R664): a request that fails a check of R641 shows that check's status and changes no
key, grant, lifecycle state or sequence number; one that passes them all takes effect and shows OK, but for the one that enters RETURN,
which ends with a MODULE reset (R638), as a LEAD that its twin can relieve first yields. -/
def Obligations.RequestsAreCheckedFirst : Prop :=
  ∀ (t : Nat) (bad : List Nat) (cut : List (Nat × Burst)) (s : State), reached s = true →
  let q := reqBytes s
  let a := setF SEC_REQ_CTL.OP_LAST 0 (rqOp q) (withBad bad id (advance t s))
  (∀ c op st, (c, op) ∈ [(Instr.grant t bad, opGrant), (.grantClear t bad, opGrantClear), (.keySet t bad, opKeySet),
        (.lifecycle t { bad := bad, cut := cut }, opLifecycle), (.evalFix t bad, opEvalFix), (.classReq t bad, opClassReq),
        (.auditRead t bad, opAuditRead), (.auditSign t bad, opAuditSign), (.deviceKey t bad, opDeviceKey)] →
      rqOp q = op ∨ rqOp q ∉ secOps → reqVerdict q a = some st →
    Acts c s (fun m => getF SEC_REQ_CTL.STATUS 0 m = st % 256 ∧ getF SEC_REQ_CTL.OP_LAST 0 m = rqOp q % 256 ∧ m.sec.keys = s.sec.keys
      ∧ (∀ f i, f ∈ grantFields ++ [SEC_SEQ.SEQ, SEC_KEYS.SLOTS, SEC_STATUS.LIFECYCLE, SEC_STATUS.EVAL_FIXED, SEC_STATUS.CLASS_REQ] →
          getF f i m = getF f i s)
      ∧ (st = stAuth → Counted SEC_AUTH_FAIL.COUNT SEC_CNT_FLAGS.AUTH_FAIL_OVF 0 s m)
      ∧ (st = stDenied → Counted SEC_DENIED.COUNT SEC_CNT_FLAGS.DENIED_OVF 0 s m)))
  ∧ (reqVerdict q a = none →
    (rqOp q = opGrant → Acts (.grant t bad) s (fun m => getF SEC_REQ_CTL.STATUS 0 m = stOk ∧ getF SEC_GRANT_A.VALID (byteAt q 32) m = 1
        ∧ getF SEC_GRANT_A.CLASSES (byteAt q 32) m = byteAt q 33 % 128 ∧ getF SEC_GRANT_A.SIGNER (byteAt q 32) m = rqKey q % 16
        ∧ (∀ g, g ≠ byteAt q 32 → getF SEC_GRANT_A.VALID g m = getF SEC_GRANT_A.VALID g s)
        ∧ (StoreTakes rowSecurity bad s → getF SEC_SEQ.SEQ 0 m = rqSeq q % 2 ^ 64)))
    ∧ (rqOp q = opGrantClear → Acts (.grantClear t bad) s (fun m => getF SEC_REQ_CTL.STATUS 0 m = stOk ∧ ∀ g,
        getF SEC_GRANT_A.VALID g m = if byteAt q 32 = 0xFF ∨ byteAt q 32 = g then 0 else getF SEC_GRANT_A.VALID g s))
    ∧ (rqOp q = opKeySet → StoreTakes rowSecurity bad s → Acts (.keySet t bad) s (fun m => getF SEC_REQ_CTL.STATUS 0 m = stOk
        ∧ (keyAction q = 1 → keyState (keySlot q) m = 1 ∧ keyBytes (keySlot q) m = (q.drop 36).take 97)
        ∧ (keyAction q ≠ 1 → keyState (keySlot q) m = 2)))
    ∧ (rqOp q = opLifecycle → StoreTakes rowSecurity bad s →
      (byteAt q 32 ≠ lcReturn → Acts (.lifecycle t { bad := bad, cut := cut }) s (fun m =>
        getF SEC_STATUS.LIFECYCLE 0 m = byteAt q 32 % 4 ∧ getF SEC_REQ_CTL.STATUS 0 m = stOk))
      ∧ (byteAt q 32 = lcReturn → s.twin.resetPending = false →
        let returned (m : State) : Prop := getF SEC_STATUS.LIFECYCLE 0 m = lcReturn ∧ ∀ j, 2 ≤ j → j ≤ 10 → keyState j m = 0
        (role s = roleLead → getB TWN_STATUS.TWIN_FIT 0 s = true → pathUp s = true →
          Acts (.lifecycle t { bad := bad, cut := cut }) s (fun m => returned m ∧ role m = roleYielded ∧ m.twin.resetPending = true))
        ∧ (role s ≠ roleLead ∨ getB TWN_STATUS.TWIN_FIT 0 s = false ∨ pathUp s = false →
          Resets (.lifecycle t { bad := bad, cut := cut }) s (fun m => returned m ∧ getF SYS_STATUS.STEP 0 m = 6 ∧ role m = roleInit))))
    ∧ (rqOp q = opEvalFix → StoreTakes rowSecurity bad s → Acts (.evalFix t bad) s (fun m => getF SEC_REQ_CTL.STATUS 0 m = stOk
        ∧ evalFixed m = true))
    ∧ (rqOp q = opClassReq → StoreTakes rowSecurity bad s → Acts (.classReq t bad) s (fun m => getF SEC_REQ_CTL.STATUS 0 m = stOk
        ∧ getF SEC_STATUS.CLASS_REQ 0 m = byteAt q 32 % 128))
    ∧ (rqOp q = opAuditRead → Acts (.auditRead t bad) s (fun m => getF SEC_REQ_CTL.STATUS 0 m = stOk ∧ m.sec.audit = s.sec.audit
        ∧ ∀ j w, j < 4 → w < 16 → getF SEC_REQ_RESP.WORD (16 * j + w) m = leAt (auditBytes (leAt q 32 8 + j) s) (4 * w) 4))
    ∧ (rqOp q = opAuditSign → Acts (.auditSign t bad) s (fun m => getF SEC_REQ_CTL.STATUS 0 m = stOk
        ∧ getF SEC_REQ_RESP.WORD 0 m = getF SYS_ID.ID 0 s % 2 ^ 32 ∧ getF SEC_REQ_RESP.WORD 1 m = getF SYS_ID.ID 0 s / 2 ^ 32 % 2 ^ 32
        ∧ getF SEC_REQ_RESP.WORD 2 m = getF SEC_AUDIT_NEW.ASEQ 0 m % 2 ^ 32
        ∧ ∀ w, w < 12 → getF SEC_REQ_RESP.WORD (12 + w) m = leAt q (32 + 4 * w) 4))
    ∧ (rqOp q = opDeviceKey → Acts (.deviceKey t bad) s (fun m => getF SEC_REQ_CTL.STATUS 0 m = stOk
        ∧ getF SEC_REQ_RESP.WORD 0 m = getF SYS_ID.ID 0 s % 2 ^ 32 ∧ getF SEC_REQ_RESP.WORD 1 m = getF SYS_ID.ID 0 s / 2 ^ 32 % 2 ^ 32
        ∧ ∀ w, w < 24 → getF SEC_REQ_RESP.WORD (2 + w) m = leAt (exactly 97 (keyBytes 1 s)) (4 * w) 4)))

/-- The debug challenge (R644, R645): a GET issues twelve fresh words unless it is locked out; an answer uses the nonce up and opens its level,
or is counted, and the third failure in a row locks GET out for 600 s; a nonce lapses after 60 s. The words of a nonce are free values. -/
def Obligations.ChallengesAreAnsweredOnce : Prop := ∀ (t level : Nat) (bad : List Nat) (s : State),
  (reached s = true →
    (lockedOut (advance t s) = false → Acts (.challengeGet t) s (fun m => getF SEC_CHAL_CTL.NONCE_VALID 0 m = 1 ∧ getF SEC_CHAL_CTL.STATUS 0 m = stOk
        ∧ m.sec.nonceAt = some (advance t s).now ∧ m.freeCtr = s.freeCtr + 12
        ∧ ∀ w, w < 12 → getF SEC_CHAL_NONCE.WORD w m = Config.freeNat (s.freeCtr + w) % 2 ^ 32))
    ∧ (lockedOut (advance t s) = true → Acts (.challengeGet t) s (fun m => getF SEC_CHAL_CTL.STATUS 0 m = stDenied
        ∧ getF SEC_CHAL_CTL.NONCE_VALID 0 m = getF SEC_CHAL_CTL.NONCE_VALID 0 s ∧ m.sec = s.sec))
    ∧ Acts (.challengeAnswer t level bad) s (fun m =>
        let st := chalVerdict level (setF SEC_CHAL_CTL.LEVEL 0 level (withBad bad id (advance t s)))
        getF SEC_CHAL_CTL.NONCE_VALID 0 m = 0 ∧ m.sec.nonceAt = none ∧ getF SEC_CHAL_CTL.STATUS 0 m = st % 256
        ∧ (st = stOk → getF SEC_STATUS.DEBUG_LEVEL 0 m = level % 4 ∧ (s.sec.fails = 0 ∨ StoreTakes rowSecurity bad s → m.sec.fails = 0))
        ∧ (st ≠ stOk → getF SEC_STATUS.DEBUG_LEVEL 0 m = getF SEC_STATUS.DEBUG_LEVEL 0 s
            ∧ Counted SEC_CHAL_FAIL.COUNT SEC_CNT_FLAGS.CHAL_FAIL_OVF 0 s m
            ∧ (2 ≤ s.sec.fails → m.sec.lockEnd = some ((advance t s).now + 600 * secUnit) ∧ m.sec.fails = 0)
            ∧ (s.sec.fails < 2 → StoreTakes rowSecurity bad s → m.sec.fails = s.sec.fails + 1))))
  ∧ (serving s = true → ∀ x, s.sec.nonceAt = some x → x + 60 * secUnit ≤ (advance t s).now →
    Acts (.nonceExpire t) s (fun m => m.sec.nonceAt = none ∧ getF SEC_CHAL_CTL.NONCE_VALID 0 m = 0))
  ∧ (serving s = true → ∀ e, s.sec.lockEnd = some e → e ≤ (advance t s).now →
    Acts (.debugLockoutExpire t) s (fun m => m.sec.lockEnd = none ∧ getF SEC_CHAL_CTL.LOCKOUT_S 0 m = 0))

/-! ### Debug access -/

/-- The fields of the IDCODE register, which DBG_IDCODE shows and the TAP shifts out (R676). -/
def Obligations.IdcodeRegisterFields : Prop := ∀ s : State,
  (bits (idcodeVal s) 28 4 = getF SYS_INFO.STEP_MAJ 0 s % 16 ∧ bits (idcodeVal s) 12 16 = 0x2048 ∧ bits (idcodeVal s) 1 11 = 0x4E7
    ∧ bits (idcodeVal s) 0 1 = 1 ∧ idcodeVal s < 2 ^ 32)
  ∧ readField DBG_IDCODE.IDCODE 0 s = idcodeVal s
  ∧ ∀ t : Nat, tapRuns s = true → Does (.idcode t) s (fun u => u.out = Out.tdo (idcodeVal s) :: s.out)

/-- The test access port (R675 to R679): IDCODE shifts the identification out, SAMPLE_PRELOAD keeps the cells shifted in, EXTEST, HIGHZ and CLAMP
drive the lands where they are allowed and are BYPASS where not, any other code is BYPASS; DBG_ACCESS and DBG_CHAL show the result of
the operation before and run the new one, and TRST_N resets the port alone. -/
def Obligations.TestAccessPortWorks : Prop := ∀ (t cells op off data code tdi : Nat) (bad : List Nat) (s : State), tapRuns s = true →
  let a (ir : Nat) (p : Nat × Nat × Nat) : State := emit (.tdo (tapWord p)) (loadIr ir (withBad bad id (advance t s)))
  Does (.idcode t) s (fun u => u.out = Out.tdo (idcodeVal s) :: s.out ∧ u.dbg.ir = 2 ∧ u.dbg.tapTest = false ∧ u.regs = s.regs)
  ∧ Does (.samplePreload t cells) s (fun u => u.dbg.scan = cells ∧ u.dbg.ir = 1 ∧ u.dbg.tapTest = false ∧ u.regs = s.regs
      ∧ u.out = Out.tdo (Config.freeNat s.freeCtr) :: s.out)
  ∧ (testAllowed s = true →
    Does (.extest t cells) s (fun u => u.dbg.tapTest = true ∧ u.dbg.ir = 0 ∧ u.dbg.scan = cells ∧ u.regs = s.regs)
    ∧ Does (.highz t tdi) s (fun u => u.dbg.tapTest = true ∧ u.dbg.ir = 3 ∧ u.out = Out.tdo (2 * tdi) :: s.out)
    ∧ Does (.clamp t tdi) s (fun u => u.dbg.tapTest = true ∧ u.dbg.ir = 4 ∧ u.out = Out.tdo (2 * tdi) :: s.out))
  ∧ (testAllowed s = false → ∀ c, c ∈ [Instr.extest t cells, .highz t tdi, .clamp t tdi] →
    Does c s (fun u => u.dbg.tapTest = false ∧ u.dbg.ir = 0xFF ∧ u.dbg.scan = s.dbg.scan ∧ getB DBG_EVT.TAP_REFUSED 0 u = true))
  ∧ (code < 256 → code ∉ [0x00, 0x01, 0x02, 0x03, 0x04, 0x10, 0x11] →
    Does (.bypass t code tdi) s (fun u => u.dbg.ir = code ∧ u.dbg.tapTest = false ∧ u.out = Out.tdo (2 * tdi) :: s.out))
  ∧ Does (.trstN t) s (fun u => u.dbg.ir = 2 ∧ u.dbg.tapTest = false ∧ u.dbg.mem = s.dbg.mem ∧ u.regs = s.regs)
  ∧ (off < 2 ^ 22 →
    Acts (.dbgAccess t op off data bad) s (fun m => Out.tdo (tapWord s.dbg.access) ∈ m.out
      ∧ (op = 1 → off < 0x200000 → off % 4 = 0 → unitRefused (0x2c00000 + off) s = false →
          m.dbg.access = (tapOk, off, (regRead (0x2c00000 + off) (a 0x10 s.dbg.access)).1))
      ∧ (op = 1 ∨ op = 2 → 0x200000 ≤ off ∨ off % 4 ≠ 0 → m.dbg.access = (tapRefused, off, 0) ∧ m.regs = s.regs)
      ∧ (op = 2 → effLevel s = 0 → off ≠ 8 → m.dbg.access = (tapRefused, off, 0) ∧ m.regs = s.regs)
      ∧ (op ≠ 1 → op ≠ 2 → m.dbg.access = s.dbg.access ∧ m.regs = s.regs))
    ∧ Acts (.dbgChal t op off data bad) s (fun m => Out.tdo (tapWord s.dbg.chal) ∈ m.out
      ∧ (op = 1 → off = 0 ∨ (0x40 ≤ off ∧ off < 0x70) ∨ (0x80 ≤ off ∧ off < 0xE0) → off % 4 = 0 →
          m.dbg.chal = (tapOk, off, (regRead (0x2800500 + off) (a 0x11 s.dbg.chal)).1))
      ∧ (op = 1 ∨ op = 2 → 0xE0 ≤ off ∨ off % 4 ≠ 0 → m.dbg.chal = (tapRefused, off, 0) ∧ m.regs = s.regs)))

/-- The debug module (R679 to R687, R694): halts, resumes and steps act on the selected unit, which must be open at the effective level;
a breakpoint halts its unit; a relock ends every halt and breakpoint and closes the session; a transaction is issued by GO, ends with DONE,
and with ERROR where no target answers; MODULE_RESET needs its KEY. -/
def Obligations.DebugModuleActs : Prop := ∀ (t n b value key : Nat) (burst : Option Burst) (bad : List Nat) (bursts : List (Nat × Burst))
    (s : State),
  let u := getF DBG_ENG_SEL.UNIT 0 s
  (reached s = true → unitOk u s = true →
    (unitHalted u s = false → unitRuns u s = true → Acts (.dbgHalt t) s (fun m => getF DBG_ENG_STATUS.HALTED u m = 1
        ∧ getF DBG_ENG_STATUS.CAUSE u m = haltCauseHalt ∧ getB DBG_EVT.HALT 0 m = true ∧ (u < 128 → engState u m = reedHalted)
        ∧ ∀ w, w ≠ u → getF DBG_ENG_STATUS.HALTED w m = getF DBG_ENG_STATUS.HALTED w s))
    ∧ (unitHalted u s = true → Acts (.dbgResume t) s (fun m => getF DBG_ENG_STATUS.HALTED u m = 0 ∧ (u < 128 → engState u m = reedRun)
        ∧ (u = 161 → m.twin.hardware = false)))
    ∧ (unitHalted u s = true → Acts (.dbgStep t) s (fun m => unitHalted u m = true ∧ getF DBG_ENG_STATUS.CAUSE u m = haltCauseStep
        ∧ getB DBG_EVT.HALT 0 m = true ∧ (u < 128 → (reed u s).ended = false →
            (reed u m).cycles = (reed u s).cycles + opCycles (nextWord u s) ∧ getF DBG_ENG_STATUS.PC u m = (reed u m).pc % 2 ^ 16)))
    ∧ (u < 128 → engState u s = reedRun → Acts (.dbgHaltAtBlock t) s (fun m => u ∈ m.dbg.haltBlock)))
  ∧ (reached s = true → unitOk u s = false → ∀ c, c ∈ [Instr.dbgHalt t, .dbgResume t, .dbgStep t, .dbgHaltAtBlock t] →
    Acts c s (fun m => m.reed = s.reed ∧ (∀ w, getF DBG_ENG_STATUS.HALTED w m = getF DBG_ENG_STATUS.HALTED w s)
      ∧ (1 ≤ effLevel s → getB DBG_EVT.REFUSED 0 m = true) ∧ (effLevel s = 0 → RefusedAccess true false 0x2c00014 s m)))
  ∧ (serving s = true → n < 128 → b < 4 → getB DBG_BP.EN (4 * n + b) s = true → engRuns n s = true → (reed n s).past = false →
      getF DBG_BP.ADDR (4 * n + b) s = (reed n s).pc → unitHalted n s = false →
    Acts (.breakpointHit t n b) s (fun m => getF DBG_ENG_STATUS.HALTED n m = 1 ∧ getF DBG_ENG_STATUS.CAUSE n m = haltCauseBreak
      ∧ getF DBG_ENG_STATUS.BP_HIT n m = b ∧ engState n m = reedHalted ∧ m.reed = s.reed))
  ∧ (reached s = true → regsOk s = true → Acts (.dbgRelock t burst) s (fun m => getF SEC_STATUS.DEBUG_LEVEL 0 m = 0
      ∧ (∀ w, getF DBG_ENG_STATUS.HALTED w m = 0 ∧ getF DBG_BP.EN w m = 0) ∧ m.dbg.mem = none ∧ getF DBG_MEM_CTL.BUSY 0 m = 0
      ∧ m.dbg.haltBlock = []))
  ∧ (reached s = true → 1 ≤ effLevel s →
    (getB DBG_MEM_CTL.BUSY 0 s = false → Acts (.dbgMemGo t value) s (fun m => getF DBG_MEM_CTL.BUSY 0 m = 1
        ∧ ∃ x, m.dbg.mem = some x ∧ x.write = bit value 30 ∧ x.addr = getF DBG_MEM_ADDR.ADDR 0 s / x.size * x.size
          ∧ (2 ≤ bits value 0 3 → bits value 0 3 ≤ 6 → x.size = 2 ^ bits value 0 3)))
    ∧ (getB DBG_MEM_CTL.BUSY 0 s = true → Acts (.dbgMemGo t value) s (fun m => m.dbg.mem = s.dbg.mem))
    ∧ (key ≠ 0xA5 → Acts (.dbgModuleReset t key bad bursts) s (fun m => m.regs = s.regs ∧ m.cmd = s.cmd))
    ∧ (key = 0xA5 → s.twin.resetPending = false →
      (role s = roleLead → getB TWN_STATUS.TWIN_FIT 0 s = true → pathUp s = true →
        Acts (.dbgModuleReset t key bad bursts) s (fun m => role m = roleYielded ∧ m.twin.resetPending = true ∧ m.boot.cause = 2))
      ∧ (role s ≠ roleLead ∨ getB TWN_STATUS.TWIN_FIT 0 s = false ∨ pathUp s = false →
        Resets (.dbgModuleReset t key bad bursts) s (fun m =>
          getF SYS_STATUS.STEP 0 m = 6 ∧ getF SYS_STATUS.READY 0 m = 0 ∧ getF SYS_RESET_CAUSE.CAUSE 0 m = 2 ∧ role m = roleInit))))
  ∧ (reached s = true → effLevel s = 0 → Acts (.dbgModuleReset t key bad bursts) s (RefusedAccess true false 0x2c00008 s))
  ∧ (serving s = true → ∀ x, s.dbg.mem = some x → Acts (.dbgMemDone t bad) s (fun m => m.dbg.mem = none ∧ getF DBG_MEM_CTL.BUSY 0 m = 0
      ∧ getF DBG_MEM_CTL.DONE 0 m = 1
      ∧ ((fabDecode (getB SYS_REMAP.REMAP 0 s) x.addr).1 = tgNone → getF DBG_MEM_CTL.RESP 0 m = 1
          ∧ getF FAB_ERR_LOG.KIND (getF FAB_ERR_HEAD.SLOT 0 m) m = fkDecode)
      ∧ ((fabDecode (getB SYS_REMAP.REMAP 0 s) x.addr).1 = tgRom → x.write = false → 1 ≤ effLevel s → getF DBG_MEM_CTL.RESP 0 m = 0)))

/-! ### Power, bring-up and resets -/

/-- Power and bring-up (R16, R593, R597 to R604, R738, R755): power-good puts every field at its reset value but what the store keeps, and a
module whose fuse has opened stays off until the feed has been removed; a step that ends without a fault leads to the next and does
its work, the last sets READY; a step past its bound fails with its row's code, which halts the module or degrades it. -/
def Obligations.BringUpRunsInSteps : Prop := ∀ (t code unit : Nat) (sideB cold removed : Bool) (f : BootFind) (bad : List Nat) (s : State),
  (s.powered = false → s.boot.fuse = false ∨ removed = true → s.vault = none →
    Does (.powerGoodRise t sideB cold removed) s (fun u => u.powered = true ∧ getF SYS_STATUS.STEP 0 u = 1 ∧ role u = roleInit
      ∧ u.boot.cold = cold ∧ u.boot.fuse = false ∧ getF TWN_STATUS.SIDE_B 0 u = b2n sideB ∧ u.pending = s.pending ∧ u.hold = .plain
      ∧ ∀ g i, fieldOf g.id = some g → g.id ≠ TWN_STATUS.SIDE_B.id →
          getF g i u = if g.dom = .persist then getF g i s else g.resetAt i))
  ∧ (s.powered = false → s.boot.fuse = true → Does (.powerGoodRise t sideB cold false) s (fun u => u = s))
  ∧ (s.powered = true → Does (.powerGoodFall t) s (fun u => u.powered = false ∧ u.pst = s.pst ∧ u.boot.fuse = s.boot.fuse))
  ∧ (s.powered = true → Does (.electronicFuseOpen t) s (fun u => u.powered = false ∧ u.boot.fuse = true))
  ∧ (inService s = true → s.boot.cold = true → Does (.coldHoldRelease t) s (fun u => u.boot.cold = false ∧ u.boot.base = (advance t s).now))
  ∧ (bringingUp s = true → f.faults = [] → (advance t s).now ≤ stepDeadline s →
    Does (.bringupStepEnd t f bad) s (fun u =>
      (bringupStep s < 8 → getF SYS_STATUS.STEP 0 u = bringupStep s + 1 ∧ getF SYS_STATUS.READY 0 u = 0)
      ∧ (bringupStep s = 2 → getF SYS_ID.ID 0 u = f.id % 2 ^ 64 ∧ getF SYS_INFO.AE 0 u = b2n f.ae)
      ∧ (bringupStep s = 3 → s.hold = .plain → ∀ d, d < 545 → coreDomain d = true → domState d u = dOn)
      ∧ (bringupStep s = 6 → getF SYS_REMAP.REMAP 0 u = 1)
      ∧ (bringupStep s = 8 → getF SYS_STATUS.READY 0 u = 1 ∧ getB SYS_EVT.READY 0 u = true
          ∧ getF SYS_STATUS.DEGRADED 0 u = b2n s.boot.degraded ∧ getF TWN_STATUS.FIT 0 u = b2n (s.twin.diag == 0))))
  ∧ (bringingUp s = true → stepDeadline s ≤ (advance t s).now → faultStep code = bringupStep s → 0 < code → code < 256 →
    Does (.bringupStepTimeout t code unit bad) s (fun u =>
      (faultFatal code unit = true → getF SYS_STATUS.HALTED 0 u = 1 ∧ getF SYS_STATUS.READY 0 u = 0 ∧ getF SYS_BOOT_FAIL.CODE 0 u = code
        ∧ (s.hold = .plain → ∀ d, d < 545 → d ≠ 542 → domState d u = dGated))
      ∧ (faultFatal code unit = false → u.boot.degraded = true ∧ getF SYS_STATUS.STEP 0 u = bringupStep s + 1
        ∧ (getF SYS_BOOT_FAIL.CODE 0 s = 0 → getF SYS_BOOT_FAIL.CODE 0 u = code))))

/-- Resets, sleep and domains (R608 to R611, R673, R699 to R705, R713, R714): a soft reset needs its KEY, and a LEAD whose twin can take
over yields first; the reset goes on when the twin claims or after 20 ms, and logs a burst that it cuts short; SLEEP is refused to a LEAD;
an enabled event wakes; a domain that starts is ON or, past its time, FAILED; the forwarded clock of a group is seen. A MODULE reset leaves
lanes, ports, references, local time and the twin link at work (R16, R610): until the next IMAGE reset every field of theirs shows its reset
value, and what they run on stands aside; a command then works on those values, and what its work changes shows. -/
def Obligations.ResetsSleepAndDomains : Prop :=
  (∀ (t key cause d g : Nat) (active : Bool) (bad : List Nat) (bursts : List (Nat × Burst)) (s : State),
  (reached s = true →
    (key ≠ 0xA5 → Acts (.softReset t key bad bursts) s (fun m => getB SYS_EVT.KEY_REFUSED 0 m = true ∧ getF SYS_STATUS.READY 0 m = getF SYS_STATUS.READY 0 s
        ∧ m.cmd = s.cmd))
    ∧ (key = 0xA5 → getB SYS_STATUS.HALTED 0 s = false → s.twin.resetPending = false →
      (role s = roleLead → getB TWN_STATUS.TWIN_FIT 0 s = true → pathUp s = true →
        Acts (.softReset t key bad bursts) s (fun m => role m = roleYielded ∧ m.twin.resetPending = true
          ∧ getF SYS_STATUS.READY 0 m = getF SYS_STATUS.READY 0 s))
      ∧ (role s ≠ roleLead ∨ getB TWN_STATUS.TWIN_FIT 0 s = false ∨ pathUp s = false →
        Resets (.softReset t key bad bursts) s (fun m => getF SYS_STATUS.STEP 0 m = 6 ∧ getF SYS_STATUS.READY 0 m = 0 ∧ role m = roleInit
          ∧ getF SYS_RESET_CAUSE.CAUSE 0 m = 1 ∧ m.cmd.opens = [] ∧ (∀ o, getF PST_ROUTE.SOURCE o m = getF PST_ROUTE.SOURCE o s)
          ∧ ∀ n, inState n m = inState n s ∧ outState n m = outState n s)))
    ∧ (role s = roleLead ∨ imageBusy s = true ∨ key ≠ 0xA5 →
      Acts (.sleep t key bad) s (fun m => getB PWR_EVT.SLEEP_REFUSED 0 m = true ∧ m.boot.asleep = false))
    ∧ (role s ≠ roleLead → imageBusy s = false → key = 0xA5 →
      Acts (.sleep t key bad) s (fun m => m.boot.asleep = true ∧ getF SYS_STATUS.READY 0 m = 0 ∧ role m = roleInit
        ∧ ∀ x, x < 545 → domState x m = dGated)))
  ∧ (serving s = true → s.twin.resetPending = true → getB TWN_STATUS.TWIN_CLAIM 0 s = true ∨ s.twin.roleAt + 20 * msUnit ≤ (advance t s).now →
    Resets (.moduleResetProceed t bad bursts) s (fun m => getF SYS_STATUS.STEP 0 m = 6 ∧ getF SYS_STATUS.READY 0 m = 0 ∧ role m = roleInit
      ∧ m.twin.resetPending = false ∧ getF SYS_RESET_CAUSE.CAUSE 0 m = s.boot.cause % 4
      ∧ ∀ x b, bursts = [(x, b)] → x < 2 → getB FAB_ERR_HEAD.VALID 0 m = true ∧ getF FAB_ERR_LOG.KIND (getF FAB_ERR_HEAD.SLOT 0 m) m = fkAbort
        ∧ getF FAB_ERR_LOG.MASTER (getF FAB_ERR_HEAD.SLOT 0 m) m = x
        ∧ getF FAB_ERR_LOG.BEATS (getF FAB_ERR_HEAD.SLOT 0 m) m = b.beats % 32))
  ∧ (crumhornRuns s = true → s.boot.asleep = true →
      cause = 1 ∨ (cause = 2 ∧ getB PWR_CTL.WAKE_ALARM 0 s = true) ∨ (cause = 3 ∧ getB PWR_CTL.WAKE_YIELD 0 s = true) →
    Does (.sleepWake t cause) s (fun u => u.boot.asleep = false ∧ getF SYS_STATUS.STEP 0 u = 2 ∧ getF PWR_WAKE.SLEPT 0 u = 1
      ∧ getF PWR_WAKE.CAUSE 0 u = cause ∧ u.pcie.crs = true ∧ u.hold = .plain))
  ∧ (serving s = true → domStarts d s = true →
    ((∀ e, domDue d s = some e → (advance t s).now ≤ e) →
      Acts (.domainReachesOn t d) s (fun m => domState d m = dOn ∧ ∀ x, x ≠ d → domState x m = domState x s))
    ∧ ((∀ e, domDue d s = some e → e ≤ (advance t s).now) →
      Acts (.domainStartFail t d) s (fun m => domState d m = dFailed ∧ getB PWR_EVT.START_FAIL 0 m = true
        ∧ Counted PWR_START_FAIL_CNT.COUNT PWR_EVT.START_FAIL_OVF 0 s m)))
  ∧ (serving s = true → g < 128 → getB LNI_GRP_CFG.ENABLED g s = true →
    Acts (.forwardedClockActivity t g active) s (fun m => getF LNI_GRP_CFG.FC_ACTIVE g m = b2n active)))
  ∧ (∀ m : State, m.hold = .reset →
    let u := hideRunning (stepEnd m)
    (∀ f, f ∈ runningFields → ∀ i, getF f i u = f.resetAt i)
      ∧ ∃ live, u.hold = .hidden live ∧ ∀ f, f ∈ runningFields → mget [] live f.id = colOf f (stepEnd m))
  ∧ ∀ (c : Instr) (live : List (Nat × List (Nat × Nat))) (s u : State), s.hold = .hidden live → worksApart c = false →
    exec c (atWork s) = .next u → u ≠ atWork s → exec c s = .next (showing s u)

/-- The monitors (R505, R708 to R712, R724): the readings show, the highest is named; a logic sensor at the warning level warns and counts;
a warning that has held for 10 s takes FIT away; a trip reading that has held for 1 ms halts the module; the feed shows its last
millisecond, and one below 42.0 V is an event. -/
def Obligations.MonitorsReport : Prop := ∀ (t dv dw : Nat) (ts : List Int) (s : State), serving s = true →
  Does (.sensorUpdate t ts) s (fun u =>
    (∀ k, k < 40 → getF MON_TEMP.TEMP_C k u = ofSigned 8 (tempAt ts k)) ∧ getF MON_THERM_STATUS.HOT_SENSOR 0 u = hotSensor ts
    ∧ (∀ k, k < 40 → tempAt ts k ≤ tempAt ts (hotSensor ts))
    ∧ (getB MON_THERM_STATUS.WARN 0 s = false → (∃ k, k < 32 ∧ warnLevel s ≤ tempAt ts k) →
        getB MON_THERM_STATUS.WARN 0 u = true ∧ getB MON_EVT.WARN 0 u = true ∧ Counted MON_WARN_CNT.COUNT MON_EVT.WARN_OVF 0 s u)
    ∧ (getB MON_THERM_STATUS.WARN 0 s = false → (∀ k, k < 32 → tempAt ts k < warnLevel s) → getB MON_THERM_STATUS.WARN 0 u = false)
    ∧ (∀ x, tripReading ts = true → s.mon.tripAt = some x → x + msUnit ≤ (advance t s).now →
        getF SYS_STATUS.HALTED 0 u = 1 ∧ getF SYS_BOOT_FAIL.CODE 0 u = fcThermal))
  ∧ (∀ x, getB MON_THERM_STATUS.WARN 0 s = true → s.twin.diag.testBit diagThermal = false → s.mon.warnAt = some x →
      x + 10 * secUnit ≤ (advance t s).now →
    Acts (.thermalWarningHeld t) s (fun m => getF TWN_STATUS.FIT 0 m = 0 ∧ m.twin.diag.testBit diagThermal = true))
  ∧ Acts (.feedMeasure t dv dw) s (fun m => getF MON_FEED.VOLT_DV 0 m = dv % 2 ^ 10 ∧ getF MON_FEED.POWER_DW 0 m = dw % 2 ^ 13
    ∧ getF MON_FEED_MAX.POWER_MAX_DW 0 m = max (getF MON_FEED_MAX.POWER_MAX_DW 0 s) dw % 2 ^ 13
    ∧ (s.mon.feedLow = false → dv < 420 → m.mon.feedLow = true ∧ getB MON_EVT.FEED_LOW 0 m = true)
    ∧ (s.mon.feedLow = true → m.mon.feedLow = !decide (430 < dv)))
end

