-- ==== Sys2Proof/Laws/Maps.lean ====
section
/-! SUPPORT. The laws of sparse tables: what a key reads after a write, and that every operation keeps the canonical form. -/

namespace Sys2Proof.Machine

/-! ### The canonical form -/

/-- The Boolean test of rising keys says that the keys rise pairwise. -/
theorem risingFrom_none {α : Type} {m : List (Nat × α)} : risingFrom none m = true ↔ m.Pairwise (fun a b => a.1 < b.1) := by
  have key : ∀ (b : Nat) (m : List (Nat × α)), risingFrom (some b) m = true ↔ ((∀ p ∈ m, b < p.1) ∧ m.Pairwise (fun a b => a.1 < b.1)) := by
    intro b m
    induction m generalizing b with
    | nil => simp [risingFrom]
    | cons p m ih =>
      obtain ⟨k, v⟩ := p
      simp only [risingFrom, Bool.and_eq_true, decide_eq_true_eq, ih, List.mem_cons, forall_eq_or_imp, List.pairwise_cons]
      constructor
      · rintro ⟨h1, h2, h3⟩; exact ⟨⟨h1, fun p hp => Nat.lt_trans h1 (h2 p hp)⟩, h2, h3⟩
      · rintro ⟨⟨h1, _⟩, h2, h3⟩; exact ⟨h1, h2, h3⟩
  cases m with
  | nil => simp [risingFrom]
  | cons p m => obtain ⟨k, v⟩ := p; simp [risingFrom, key]

theorem rising_mdrop {α : Type} {m : List (Nat × α)} (i : Nat) (h : m.Pairwise (fun a b => a.1 < b.1)) :
    (mdrop i m).Pairwise (fun a b => a.1 < b.1) := h.filter _

theorem mem_minsert {α : Type} {i : Nat} {v : α} {m : List (Nat × α)} {p : Nat × α} (h : p ∈ minsert i v m) : p = (i, v) ∨ p ∈ m := by
  induction m with
  | nil => simpa [minsert] using h
  | cons q m ih =>
    obtain ⟨k, w⟩ := q
    unfold minsert at h
    split at h
    · simpa using h
    · split at h
      · rcases List.mem_cons.mp h with h | h
        · exact .inl h
        · exact .inr (List.mem_cons_of_mem _ h)
      · rcases List.mem_cons.mp h with h | h
        · exact .inr (h ▸ List.mem_cons_self)
        · exact (ih h).imp id (List.mem_cons_of_mem _)

theorem rising_minsert {α : Type} {m : List (Nat × α)} (i : Nat) (v : α) (h : m.Pairwise (fun a b => a.1 < b.1)) :
    (minsert i v m).Pairwise (fun a b => a.1 < b.1) := by
  induction m with
  | nil => simp [minsert]
  | cons q m ih =>
    obtain ⟨k, w⟩ := q
    have h' := List.pairwise_cons.mp h
    unfold minsert
    split
    · rename_i hlt
      refine List.pairwise_cons.mpr ⟨?_, h⟩
      intro p hp
      rcases List.mem_cons.mp hp with rfl | hp
      · exact hlt
      · exact Nat.lt_trans hlt (h'.1 p hp)
    · split
      · rename_i he; subst he; exact List.pairwise_cons.mpr ⟨h'.1, h'.2⟩
      · rename_i h1 h2
        refine List.pairwise_cons.mpr ⟨?_, ih h'.2⟩
        intro p hp
        rcases mem_minsert hp with rfl | hp
        · exact Nat.lt_of_le_of_ne (Nat.le_of_not_lt h1) (fun e => h2 e.symm)
        · exact h'.1 p hp

/-- A table in canonical form: its keys rise and no entry holds the default. -/
theorem canon_iff {α : Type} [DecidableEq α] {d : α} {m : List (Nat × α)} :
    canon d m = true ↔ m.Pairwise (fun a b => a.1 < b.1) ∧ ∀ p ∈ m, p.2 ≠ d := by
  simp [canon, risingFrom_none, List.all_eq_true]

theorem canon_nil {α : Type} [DecidableEq α] (d : α) : canon d ([] : List (Nat × α)) = true := rfl

/-- A write keeps the canonical form. -/
theorem canon_mput {α : Type} [DecidableEq α] {d : α} {m : List (Nat × α)} (i : Nat) (v : α) (h : canon d m = true) :
    canon d (mput d m i v) = true := by
  rw [canon_iff] at h ⊢
  unfold mput
  split
  · exact ⟨rising_mdrop i h.1, fun p hp => h.2 p (List.mem_filter.mp hp).1⟩
  · rename_i hv
    refine ⟨rising_minsert i v h.1, fun p hp => ?_⟩
    rcases mem_minsert hp with rfl | hp
    · exact hv
    · exact h.2 p hp

/-- Dropping the entries that a test rejects keeps the canonical form. -/
theorem canon_filter {α : Type} [DecidableEq α] {d : α} {m : List (Nat × α)} (q : Nat × α → Bool) (h : canon d m = true) :
    canon d (m.filter q) = true := by
  rw [canon_iff] at h ⊢
  exact ⟨h.1.filter _, fun p hp => h.2 p (List.mem_filter.mp hp).1⟩

/-! ### Reading after a write -/

@[simp] theorem mget_nil {α : Type} (d : α) (i : Nat) : mget d [] i = d := rfl

theorem mget_minsert_self {α : Type} (d : α) (m : List (Nat × α)) (i : Nat) (v : α) : mget d (minsert i v m) i = v := by
  induction m with
  | nil => simp [minsert, mget]
  | cons p m ih =>
    obtain ⟨k, w⟩ := p
    unfold minsert
    split
    · simp [mget]
    · split
      · simp [mget]
      · rename_i h1 h2
        have : ¬ k = i := fun e => h2 e.symm
        simp [mget, this, ih]

theorem mget_minsert_ne {α : Type} (d : α) (m : List (Nat × α)) {i j : Nat} (v : α) (h : j ≠ i) :
    mget d (minsert i v m) j = mget d m j := by
  have h' : ¬ i = j := fun e => h e.symm
  induction m with
  | nil => simp [minsert, mget, h']
  | cons p m ih =>
    obtain ⟨k, w⟩ := p
    unfold minsert
    split
    · simp [mget, h']
    · split
      · rename_i h1 h2; subst h2; simp [mget, h']
      · simp [mget, ih]

theorem mget_filter_pos {α : Type} (d : α) (m : List (Nat × α)) (q : Nat → Bool) {i : Nat} (h : q i = true) :
    mget d (m.filter (fun p => q p.1)) i = mget d m i := by
  induction m with
  | nil => rfl
  | cons p m ih =>
    obtain ⟨k, w⟩ := p
    by_cases hk : q k = true
    · simp [hk, mget, ih]
    · have : ¬ k = i := fun e => hk (e ▸ h)
      simp [hk, mget, this, ih]

theorem mget_filter_neg {α : Type} (d : α) (m : List (Nat × α)) (q : Nat → Bool) {i : Nat} (h : q i = false) :
    mget d (m.filter (fun p => q p.1)) i = d := by
  induction m with
  | nil => rfl
  | cons p m ih =>
    obtain ⟨k, w⟩ := p
    by_cases hk : q k = true
    · have : ¬ k = i := fun e => by rw [e, h] at hk; cases hk
      simp [hk, mget, this, ih]
    · simp [hk, ih]

theorem mget_mdrop_self {α : Type} (d : α) (m : List (Nat × α)) (i : Nat) : mget d (mdrop i m) i = d :=
  mget_filter_neg d m (fun k => k != i) (by simp)

theorem mget_mdrop_ne {α : Type} (d : α) (m : List (Nat × α)) {i j : Nat} (h : j ≠ i) : mget d (mdrop i m) j = mget d m j :=
  mget_filter_pos d m (fun k => k != i) (by simp [h])

/-- A read after a write to the same key gives what was written. -/
@[simp] theorem mget_mput_self {α : Type} [DecidableEq α] (d : α) (m : List (Nat × α)) (i : Nat) (v : α) :
    mget d (mput d m i v) i = v := by
  unfold mput
  split
  · rename_i h; rw [mget_mdrop_self, h]
  · exact mget_minsert_self d m i v

/-- A write leaves every other key alone, whatever default the reader takes. -/
theorem mget_mput_ne {α : Type} [DecidableEq α] (d e : α) (m : List (Nat × α)) {i j : Nat} (v : α) (h : j ≠ i) :
    mget e (mput d m i v) j = mget e m j := by
  unfold mput
  split
  · exact mget_mdrop_ne e m h
  · exact mget_minsert_ne e m v h

@[simp] theorem mget_mmod_self {α : Type} [DecidableEq α] (d : α) (m : List (Nat × α)) (i : Nat) (f : α → α) :
    mget d (mmod d m i f) i = f (mget d m i) := mget_mput_self d m i _

theorem mget_mmod_ne {α : Type} [DecidableEq α] (d : α) (m : List (Nat × α)) {i j : Nat} (f : α → α) (h : j ≠ i) :
    mget d (mmod d m i f) j = mget d m j := mget_mput_ne d d m _ h

/-! ### Erasing keys: a write to an erased key is not seen -/

theorem filter_minsert {α : Type} (q : Nat → Bool) (m : List (Nat × α)) {i : Nat} (v : α) (h : q i = false) :
    (minsert i v m).filter (fun p => q p.1) = m.filter (fun p => q p.1) := by
  induction m with
  | nil => simp [minsert, h]
  | cons p m ih =>
    obtain ⟨k, w⟩ := p
    unfold minsert
    split
    · simp [h]
    · split
      · rename_i h1 h2; subst h2; simp [h]
      · simp [List.filter_cons, ih]

theorem filter_mdrop {α : Type} (q : Nat → Bool) (m : List (Nat × α)) {i : Nat} (h : q i = false) :
    (mdrop i m).filter (fun p => q p.1) = m.filter (fun p => q p.1) := by
  unfold mdrop
  rw [List.filter_filter]
  congr 1
  funext p
  by_cases hp : p.1 = i
  · simp [hp, h]
  · simp [hp]

theorem filter_mput {α : Type} [DecidableEq α] (d : α) (q : Nat → Bool) (m : List (Nat × α)) {i : Nat} (v : α) (h : q i = false) :
    (mput d m i v).filter (fun p => q p.1) = m.filter (fun p => q p.1) := by
  unfold mput
  split
  · exact filter_mdrop q m h
  · exact filter_minsert q m v h

end Sys2Proof.Machine
end

