-- ==== Sys2Proof/Laws/State.lean ====
section
/-! SUPPORT. What each plain update of the state does to each part of it, and what a register field reads after a write. -/

namespace Sys2Proof.Machine

/-! ### Register fields -/

/-- A field reads what was written, cut to its width. -/
@[simp] theorem getF_setF_self (f : Fld) (i v : Nat) (s : State) : getF f i (setF f i v s) = v % 2 ^ f.width := by
  simp [getF, setF]

/-- Writing one field leaves every other field alone. -/
theorem getF_setF_ne {f g : Fld} (h : g.id ≠ f.id) (i j v : Nat) (s : State) : getF g j (setF f i v s) = getF g j s := by
  simp only [getF, setF]
  rw [mget_mput_ne [] [] s.regs _ h]

/-- Writing one instance leaves every other instance alone. -/
theorem getF_setF_inst (f : Fld) {i j : Nat} (h : j ≠ i) (v : Nat) (s : State) : getF f j (setF f i v s) = getF f j s := by
  simp only [getF, setF, mget_mput_self]
  rw [mget_mput_ne _ _ _ _ h]

/-- A cleared field reads its reset value. -/
@[simp] theorem getF_clearFld_self (f : Fld) (i : Nat) (s : State) : getF f i (clearFld f s) = f.resetAt i := by
  simp [getF, clearFld]

theorem getF_clearFld_ne {f g : Fld} (h : g.id ≠ f.id) (j : Nat) (s : State) : getF g j (clearFld f s) = getF g j s := by
  simp only [getF, clearFld]
  rw [mget_mput_ne [] [] s.regs _ h]

/-- The same store of registers reads the same. -/
theorem getF_congr {s t : State} (h : t.regs = s.regs) (f : Fld) (i : Nat) : getF f i t = getF f i s := by
  simp only [getF, h]

theorem getB_eq (f : Fld) (i : Nat) (s : State) : getB f i s = (getF f i s != 0) := rfl

/-! ### setF -/

@[simp] theorem setF_snap (f : Fld) (i v : Nat) (s : State) : (setF f i v s).snap = s.snap := rfl
@[simp] theorem setF_now (f : Fld) (i v : Nat) (s : State) : (setF f i v s).now = s.now := rfl
@[simp] theorem setF_timeOff (f : Fld) (i v : Nat) (s : State) : (setF f i v s).timeOff = s.timeOff := rfl
@[simp] theorem setF_powered (f : Fld) (i v : Nat) (s : State) : (setF f i v s).powered = s.powered := rfl
@[simp] theorem setF_lane (f : Fld) (i v : Nat) (s : State) : (setF f i v s).lane = s.lane := rfl
@[simp] theorem setF_time (f : Fld) (i v : Nat) (s : State) : (setF f i v s).time = s.time := rfl
@[simp] theorem setF_xpt (f : Fld) (i v : Nat) (s : State) : (setF f i v s).xpt = s.xpt := rfl
@[simp] theorem setF_cmp (f : Fld) (i v : Nat) (s : State) : (setF f i v s).cmp = s.cmp := rfl
@[simp] theorem setF_aud (f : Fld) (i v : Nat) (s : State) : (setF f i v s).aud = s.aud := rfl
@[simp] theorem setF_reed (f : Fld) (i v : Nat) (s : State) : (setF f i v s).reed = s.reed := rfl
@[simp] theorem setF_eth (f : Fld) (i v : Nat) (s : State) : (setF f i v s).eth = s.eth := rfl
@[simp] theorem setF_dbg (f : Fld) (i v : Nat) (s : State) : (setF f i v s).dbg = s.dbg := rfl
@[simp] theorem setF_cmd (f : Fld) (i v : Nat) (s : State) : (setF f i v s).cmd = s.cmd := rfl
@[simp] theorem setF_twin (f : Fld) (i v : Nat) (s : State) : (setF f i v s).twin = s.twin := rfl
@[simp] theorem setF_pst (f : Fld) (i v : Nat) (s : State) : (setF f i v s).pst = s.pst := rfl
@[simp] theorem setF_sec (f : Fld) (i v : Nat) (s : State) : (setF f i v s).sec = s.sec := rfl
@[simp] theorem setF_shf (f : Fld) (i v : Nat) (s : State) : (setF f i v s).shf = s.shf := rfl
@[simp] theorem setF_img (f : Fld) (i v : Nat) (s : State) : (setF f i v s).img = s.img := rfl
@[simp] theorem setF_boot (f : Fld) (i v : Nat) (s : State) : (setF f i v s).boot = s.boot := rfl
@[simp] theorem setF_mon (f : Fld) (i v : Nat) (s : State) : (setF f i v s).mon = s.mon := rfl
@[simp] theorem setF_vault (f : Fld) (i v : Nat) (s : State) : (setF f i v s).vault = s.vault := rfl
@[simp] theorem setF_evtFifo (f : Fld) (i v : Nat) (s : State) : (setF f i v s).evtFifo = s.evtFifo := rfl
@[simp] theorem setF_evtHeld (f : Fld) (i v : Nat) (s : State) : (setF f i v s).evtHeld = s.evtHeld := rfl
@[simp] theorem setF_evtLost (f : Fld) (i v : Nat) (s : State) : (setF f i v s).evtLost = s.evtLost := rfl
@[simp] theorem setF_hold (f : Fld) (i v : Nat) (s : State) : (setF f i v s).hold = s.hold := rfl
@[simp] theorem setF_evtLast (f : Fld) (i v : Nat) (s : State) : (setF f i v s).evtLast = s.evtLast := rfl
@[simp] theorem setF_cplHeld (f : Fld) (i v : Nat) (s : State) : (setF f i v s).cplHeld = s.cplHeld := rfl
@[simp] theorem setF_coal (f : Fld) (i v : Nat) (s : State) : (setF f i v s).coal = s.coal := rfl
@[simp] theorem setF_msix (f : Fld) (i v : Nat) (s : State) : (setF f i v s).msix = s.msix := rfl
@[simp] theorem setF_pcie (f : Fld) (i v : Nat) (s : State) : (setF f i v s).pcie = s.pcie := rfl
@[simp] theorem setF_out (f : Fld) (i v : Nat) (s : State) : (setF f i v s).out = s.out := rfl
@[simp] theorem setF_freeCtr (f : Fld) (i v : Nat) (s : State) : (setF f i v s).freeCtr = s.freeCtr := rfl
@[simp] theorem setF_pending (f : Fld) (i v : Nat) (s : State) : (setF f i v s).pending = s.pending := rfl

/-! ### clearFld -/

@[simp] theorem clearFld_snap (f : Fld) (s : State) : (clearFld f s).snap = s.snap := rfl
@[simp] theorem clearFld_now (f : Fld) (s : State) : (clearFld f s).now = s.now := rfl
@[simp] theorem clearFld_timeOff (f : Fld) (s : State) : (clearFld f s).timeOff = s.timeOff := rfl
@[simp] theorem clearFld_powered (f : Fld) (s : State) : (clearFld f s).powered = s.powered := rfl
@[simp] theorem clearFld_lane (f : Fld) (s : State) : (clearFld f s).lane = s.lane := rfl
@[simp] theorem clearFld_time (f : Fld) (s : State) : (clearFld f s).time = s.time := rfl
@[simp] theorem clearFld_xpt (f : Fld) (s : State) : (clearFld f s).xpt = s.xpt := rfl
@[simp] theorem clearFld_cmp (f : Fld) (s : State) : (clearFld f s).cmp = s.cmp := rfl
@[simp] theorem clearFld_aud (f : Fld) (s : State) : (clearFld f s).aud = s.aud := rfl
@[simp] theorem clearFld_reed (f : Fld) (s : State) : (clearFld f s).reed = s.reed := rfl
@[simp] theorem clearFld_eth (f : Fld) (s : State) : (clearFld f s).eth = s.eth := rfl
@[simp] theorem clearFld_dbg (f : Fld) (s : State) : (clearFld f s).dbg = s.dbg := rfl
@[simp] theorem clearFld_cmd (f : Fld) (s : State) : (clearFld f s).cmd = s.cmd := rfl
@[simp] theorem clearFld_twin (f : Fld) (s : State) : (clearFld f s).twin = s.twin := rfl
@[simp] theorem clearFld_pst (f : Fld) (s : State) : (clearFld f s).pst = s.pst := rfl
@[simp] theorem clearFld_sec (f : Fld) (s : State) : (clearFld f s).sec = s.sec := rfl
@[simp] theorem clearFld_shf (f : Fld) (s : State) : (clearFld f s).shf = s.shf := rfl
@[simp] theorem clearFld_img (f : Fld) (s : State) : (clearFld f s).img = s.img := rfl
@[simp] theorem clearFld_boot (f : Fld) (s : State) : (clearFld f s).boot = s.boot := rfl
@[simp] theorem clearFld_mon (f : Fld) (s : State) : (clearFld f s).mon = s.mon := rfl
@[simp] theorem clearFld_vault (f : Fld) (s : State) : (clearFld f s).vault = s.vault := rfl
@[simp] theorem clearFld_evtFifo (f : Fld) (s : State) : (clearFld f s).evtFifo = s.evtFifo := rfl
@[simp] theorem clearFld_evtHeld (f : Fld) (s : State) : (clearFld f s).evtHeld = s.evtHeld := rfl
@[simp] theorem clearFld_evtLost (f : Fld) (s : State) : (clearFld f s).evtLost = s.evtLost := rfl
@[simp] theorem clearFld_hold (f : Fld) (s : State) : (clearFld f s).hold = s.hold := rfl
@[simp] theorem clearFld_evtLast (f : Fld) (s : State) : (clearFld f s).evtLast = s.evtLast := rfl
@[simp] theorem clearFld_cplHeld (f : Fld) (s : State) : (clearFld f s).cplHeld = s.cplHeld := rfl
@[simp] theorem clearFld_coal (f : Fld) (s : State) : (clearFld f s).coal = s.coal := rfl
@[simp] theorem clearFld_msix (f : Fld) (s : State) : (clearFld f s).msix = s.msix := rfl
@[simp] theorem clearFld_pcie (f : Fld) (s : State) : (clearFld f s).pcie = s.pcie := rfl
@[simp] theorem clearFld_out (f : Fld) (s : State) : (clearFld f s).out = s.out := rfl
@[simp] theorem clearFld_freeCtr (f : Fld) (s : State) : (clearFld f s).freeCtr = s.freeCtr := rfl
@[simp] theorem clearFld_pending (f : Fld) (s : State) : (clearFld f s).pending = s.pending := rfl

/-! ### resetDomains -/

@[simp] theorem resetDomains_snap (ds : List Dom) (s : State) : (resetDomains ds s).snap = s.snap := rfl
@[simp] theorem resetDomains_now (ds : List Dom) (s : State) : (resetDomains ds s).now = s.now := rfl
@[simp] theorem resetDomains_timeOff (ds : List Dom) (s : State) : (resetDomains ds s).timeOff = s.timeOff := rfl
@[simp] theorem resetDomains_powered (ds : List Dom) (s : State) : (resetDomains ds s).powered = s.powered := rfl
@[simp] theorem resetDomains_lane (ds : List Dom) (s : State) : (resetDomains ds s).lane = s.lane := rfl
@[simp] theorem resetDomains_time (ds : List Dom) (s : State) : (resetDomains ds s).time = s.time := rfl
@[simp] theorem resetDomains_xpt (ds : List Dom) (s : State) : (resetDomains ds s).xpt = s.xpt := rfl
@[simp] theorem resetDomains_cmp (ds : List Dom) (s : State) : (resetDomains ds s).cmp = s.cmp := rfl
@[simp] theorem resetDomains_aud (ds : List Dom) (s : State) : (resetDomains ds s).aud = s.aud := rfl
@[simp] theorem resetDomains_reed (ds : List Dom) (s : State) : (resetDomains ds s).reed = s.reed := rfl
@[simp] theorem resetDomains_eth (ds : List Dom) (s : State) : (resetDomains ds s).eth = s.eth := rfl
@[simp] theorem resetDomains_dbg (ds : List Dom) (s : State) : (resetDomains ds s).dbg = s.dbg := rfl
@[simp] theorem resetDomains_cmd (ds : List Dom) (s : State) : (resetDomains ds s).cmd = s.cmd := rfl
@[simp] theorem resetDomains_twin (ds : List Dom) (s : State) : (resetDomains ds s).twin = s.twin := rfl
@[simp] theorem resetDomains_pst (ds : List Dom) (s : State) : (resetDomains ds s).pst = s.pst := rfl
@[simp] theorem resetDomains_sec (ds : List Dom) (s : State) : (resetDomains ds s).sec = s.sec := rfl
@[simp] theorem resetDomains_shf (ds : List Dom) (s : State) : (resetDomains ds s).shf = s.shf := rfl
@[simp] theorem resetDomains_img (ds : List Dom) (s : State) : (resetDomains ds s).img = s.img := rfl
@[simp] theorem resetDomains_boot (ds : List Dom) (s : State) : (resetDomains ds s).boot = s.boot := rfl
@[simp] theorem resetDomains_mon (ds : List Dom) (s : State) : (resetDomains ds s).mon = s.mon := rfl
@[simp] theorem resetDomains_vault (ds : List Dom) (s : State) : (resetDomains ds s).vault = s.vault := rfl
@[simp] theorem resetDomains_evtFifo (ds : List Dom) (s : State) : (resetDomains ds s).evtFifo = s.evtFifo := rfl
@[simp] theorem resetDomains_evtHeld (ds : List Dom) (s : State) : (resetDomains ds s).evtHeld = s.evtHeld := rfl
@[simp] theorem resetDomains_evtLost (ds : List Dom) (s : State) : (resetDomains ds s).evtLost = s.evtLost := rfl
@[simp] theorem resetDomains_hold (ds : List Dom) (s : State) : (resetDomains ds s).hold = s.hold := rfl
@[simp] theorem resetDomains_evtLast (ds : List Dom) (s : State) : (resetDomains ds s).evtLast = s.evtLast := rfl
@[simp] theorem resetDomains_cplHeld (ds : List Dom) (s : State) : (resetDomains ds s).cplHeld = s.cplHeld := rfl
@[simp] theorem resetDomains_coal (ds : List Dom) (s : State) : (resetDomains ds s).coal = s.coal := rfl
@[simp] theorem resetDomains_msix (ds : List Dom) (s : State) : (resetDomains ds s).msix = s.msix := rfl
@[simp] theorem resetDomains_pcie (ds : List Dom) (s : State) : (resetDomains ds s).pcie = s.pcie := rfl
@[simp] theorem resetDomains_out (ds : List Dom) (s : State) : (resetDomains ds s).out = s.out := rfl
@[simp] theorem resetDomains_freeCtr (ds : List Dom) (s : State) : (resetDomains ds s).freeCtr = s.freeCtr := rfl
@[simp] theorem resetDomains_pending (ds : List Dom) (s : State) : (resetDomains ds s).pending = s.pending := rfl

/-! ### advance -/

@[simp] theorem advance_regs (t : Nat) (s : State) : (advance t s).regs = s.regs := rfl
@[simp] theorem advance_snap (t : Nat) (s : State) : (advance t s).snap = s.snap := rfl
@[simp] theorem advance_now (t : Nat) (s : State) : (advance t s).now = max s.now t := rfl
@[simp] theorem advance_timeOff (t : Nat) (s : State) : (advance t s).timeOff = s.timeOff := rfl
@[simp] theorem advance_powered (t : Nat) (s : State) : (advance t s).powered = s.powered := rfl
@[simp] theorem advance_lane (t : Nat) (s : State) : (advance t s).lane = s.lane := rfl
@[simp] theorem advance_time (t : Nat) (s : State) : (advance t s).time = s.time := rfl
@[simp] theorem advance_xpt (t : Nat) (s : State) : (advance t s).xpt = s.xpt := rfl
@[simp] theorem advance_cmp (t : Nat) (s : State) : (advance t s).cmp = s.cmp := rfl
@[simp] theorem advance_aud (t : Nat) (s : State) : (advance t s).aud = s.aud := rfl
@[simp] theorem advance_reed (t : Nat) (s : State) : (advance t s).reed = s.reed := rfl
@[simp] theorem advance_eth (t : Nat) (s : State) : (advance t s).eth = s.eth := rfl
@[simp] theorem advance_dbg (t : Nat) (s : State) : (advance t s).dbg = s.dbg := rfl
@[simp] theorem advance_cmd (t : Nat) (s : State) : (advance t s).cmd = s.cmd := rfl
@[simp] theorem advance_twin (t : Nat) (s : State) : (advance t s).twin = s.twin := rfl
@[simp] theorem advance_pst (t : Nat) (s : State) : (advance t s).pst = s.pst := rfl
@[simp] theorem advance_sec (t : Nat) (s : State) : (advance t s).sec = s.sec := rfl
@[simp] theorem advance_shf (t : Nat) (s : State) : (advance t s).shf = s.shf := rfl
@[simp] theorem advance_img (t : Nat) (s : State) : (advance t s).img = s.img := rfl
@[simp] theorem advance_boot (t : Nat) (s : State) : (advance t s).boot = s.boot := rfl
@[simp] theorem advance_mon (t : Nat) (s : State) : (advance t s).mon = s.mon := rfl
@[simp] theorem advance_vault (t : Nat) (s : State) : (advance t s).vault = s.vault := rfl
@[simp] theorem advance_evtFifo (t : Nat) (s : State) : (advance t s).evtFifo = s.evtFifo := rfl
@[simp] theorem advance_evtHeld (t : Nat) (s : State) : (advance t s).evtHeld = s.evtHeld := rfl
@[simp] theorem advance_evtLost (t : Nat) (s : State) : (advance t s).evtLost = s.evtLost := rfl
@[simp] theorem advance_hold (t : Nat) (s : State) : (advance t s).hold = s.hold := rfl
@[simp] theorem advance_evtLast (t : Nat) (s : State) : (advance t s).evtLast = s.evtLast := rfl
@[simp] theorem advance_cplHeld (t : Nat) (s : State) : (advance t s).cplHeld = s.cplHeld := rfl
@[simp] theorem advance_coal (t : Nat) (s : State) : (advance t s).coal = s.coal := rfl
@[simp] theorem advance_msix (t : Nat) (s : State) : (advance t s).msix = s.msix := rfl
@[simp] theorem advance_pcie (t : Nat) (s : State) : (advance t s).pcie = s.pcie := rfl
@[simp] theorem advance_out (t : Nat) (s : State) : (advance t s).out = s.out := rfl
@[simp] theorem advance_freeCtr (t : Nat) (s : State) : (advance t s).freeCtr = s.freeCtr := rfl
@[simp] theorem advance_pending (t : Nat) (s : State) : (advance t s).pending = s.pending := rfl
@[simp] theorem getF_advance (h : Fld) (j : Nat) (t : Nat) (s : State) : getF h j (advance t s) = getF h j s := rfl
@[simp] theorem getB_advance (h : Fld) (j : Nat) (t : Nat) (s : State) : getB h j (advance t s) = getB h j s := rfl

/-! ### emit -/

@[simp] theorem emit_regs (o : Out) (s : State) : (emit o s).regs = s.regs := rfl
@[simp] theorem emit_snap (o : Out) (s : State) : (emit o s).snap = s.snap := rfl
@[simp] theorem emit_now (o : Out) (s : State) : (emit o s).now = s.now := rfl
@[simp] theorem emit_timeOff (o : Out) (s : State) : (emit o s).timeOff = s.timeOff := rfl
@[simp] theorem emit_powered (o : Out) (s : State) : (emit o s).powered = s.powered := rfl
@[simp] theorem emit_lane (o : Out) (s : State) : (emit o s).lane = s.lane := rfl
@[simp] theorem emit_time (o : Out) (s : State) : (emit o s).time = s.time := rfl
@[simp] theorem emit_xpt (o : Out) (s : State) : (emit o s).xpt = s.xpt := rfl
@[simp] theorem emit_cmp (o : Out) (s : State) : (emit o s).cmp = s.cmp := rfl
@[simp] theorem emit_aud (o : Out) (s : State) : (emit o s).aud = s.aud := rfl
@[simp] theorem emit_reed (o : Out) (s : State) : (emit o s).reed = s.reed := rfl
@[simp] theorem emit_eth (o : Out) (s : State) : (emit o s).eth = s.eth := rfl
@[simp] theorem emit_dbg (o : Out) (s : State) : (emit o s).dbg = s.dbg := rfl
@[simp] theorem emit_cmd (o : Out) (s : State) : (emit o s).cmd = s.cmd := rfl
@[simp] theorem emit_twin (o : Out) (s : State) : (emit o s).twin = s.twin := rfl
@[simp] theorem emit_pst (o : Out) (s : State) : (emit o s).pst = s.pst := rfl
@[simp] theorem emit_sec (o : Out) (s : State) : (emit o s).sec = s.sec := rfl
@[simp] theorem emit_shf (o : Out) (s : State) : (emit o s).shf = s.shf := rfl
@[simp] theorem emit_img (o : Out) (s : State) : (emit o s).img = s.img := rfl
@[simp] theorem emit_boot (o : Out) (s : State) : (emit o s).boot = s.boot := rfl
@[simp] theorem emit_mon (o : Out) (s : State) : (emit o s).mon = s.mon := rfl
@[simp] theorem emit_vault (o : Out) (s : State) : (emit o s).vault = s.vault := rfl
@[simp] theorem emit_evtFifo (o : Out) (s : State) : (emit o s).evtFifo = s.evtFifo := rfl
@[simp] theorem emit_evtHeld (o : Out) (s : State) : (emit o s).evtHeld = s.evtHeld := rfl
@[simp] theorem emit_evtLost (o : Out) (s : State) : (emit o s).evtLost = s.evtLost := rfl
@[simp] theorem emit_hold (o : Out) (s : State) : (emit o s).hold = s.hold := rfl
@[simp] theorem emit_evtLast (o : Out) (s : State) : (emit o s).evtLast = s.evtLast := rfl
@[simp] theorem emit_cplHeld (o : Out) (s : State) : (emit o s).cplHeld = s.cplHeld := rfl
@[simp] theorem emit_coal (o : Out) (s : State) : (emit o s).coal = s.coal := rfl
@[simp] theorem emit_msix (o : Out) (s : State) : (emit o s).msix = s.msix := rfl
@[simp] theorem emit_pcie (o : Out) (s : State) : (emit o s).pcie = s.pcie := rfl
@[simp] theorem emit_out (o : Out) (s : State) : (emit o s).out = o :: s.out := rfl
@[simp] theorem emit_freeCtr (o : Out) (s : State) : (emit o s).freeCtr = s.freeCtr := rfl
@[simp] theorem emit_pending (o : Out) (s : State) : (emit o s).pending = s.pending := rfl
@[simp] theorem getF_emit (h : Fld) (j : Nat) (o : Out) (s : State) : getF h j (emit o s) = getF h j s := rfl
@[simp] theorem getB_emit (h : Fld) (j : Nat) (o : Out) (s : State) : getB h j (emit o s) = getB h j s := rfl

/-! ### drawn -/

@[simp] theorem drawn_regs (s : State) : (drawn s).regs = s.regs := rfl
@[simp] theorem drawn_snap (s : State) : (drawn s).snap = s.snap := rfl
@[simp] theorem drawn_now (s : State) : (drawn s).now = s.now := rfl
@[simp] theorem drawn_timeOff (s : State) : (drawn s).timeOff = s.timeOff := rfl
@[simp] theorem drawn_powered (s : State) : (drawn s).powered = s.powered := rfl
@[simp] theorem drawn_lane (s : State) : (drawn s).lane = s.lane := rfl
@[simp] theorem drawn_time (s : State) : (drawn s).time = s.time := rfl
@[simp] theorem drawn_xpt (s : State) : (drawn s).xpt = s.xpt := rfl
@[simp] theorem drawn_cmp (s : State) : (drawn s).cmp = s.cmp := rfl
@[simp] theorem drawn_aud (s : State) : (drawn s).aud = s.aud := rfl
@[simp] theorem drawn_reed (s : State) : (drawn s).reed = s.reed := rfl
@[simp] theorem drawn_eth (s : State) : (drawn s).eth = s.eth := rfl
@[simp] theorem drawn_dbg (s : State) : (drawn s).dbg = s.dbg := rfl
@[simp] theorem drawn_cmd (s : State) : (drawn s).cmd = s.cmd := rfl
@[simp] theorem drawn_twin (s : State) : (drawn s).twin = s.twin := rfl
@[simp] theorem drawn_pst (s : State) : (drawn s).pst = s.pst := rfl
@[simp] theorem drawn_sec (s : State) : (drawn s).sec = s.sec := rfl
@[simp] theorem drawn_shf (s : State) : (drawn s).shf = s.shf := rfl
@[simp] theorem drawn_img (s : State) : (drawn s).img = s.img := rfl
@[simp] theorem drawn_boot (s : State) : (drawn s).boot = s.boot := rfl
@[simp] theorem drawn_mon (s : State) : (drawn s).mon = s.mon := rfl
@[simp] theorem drawn_vault (s : State) : (drawn s).vault = s.vault := rfl
@[simp] theorem drawn_evtFifo (s : State) : (drawn s).evtFifo = s.evtFifo := rfl
@[simp] theorem drawn_evtHeld (s : State) : (drawn s).evtHeld = s.evtHeld := rfl
@[simp] theorem drawn_evtLost (s : State) : (drawn s).evtLost = s.evtLost := rfl
@[simp] theorem drawn_hold (s : State) : (drawn s).hold = s.hold := rfl
@[simp] theorem drawn_evtLast (s : State) : (drawn s).evtLast = s.evtLast := rfl
@[simp] theorem drawn_cplHeld (s : State) : (drawn s).cplHeld = s.cplHeld := rfl
@[simp] theorem drawn_coal (s : State) : (drawn s).coal = s.coal := rfl
@[simp] theorem drawn_msix (s : State) : (drawn s).msix = s.msix := rfl
@[simp] theorem drawn_pcie (s : State) : (drawn s).pcie = s.pcie := rfl
@[simp] theorem drawn_out (s : State) : (drawn s).out = s.out := rfl
@[simp] theorem drawn_freeCtr (s : State) : (drawn s).freeCtr = s.freeCtr + 1 := rfl
@[simp] theorem drawn_pending (s : State) : (drawn s).pending = s.pending := rfl
@[simp] theorem getF_drawn (h : Fld) (j : Nat) (s : State) : getF h j (drawn s) = getF h j s := rfl
@[simp] theorem getB_drawn (h : Fld) (j : Nat) (s : State) : getB h j (drawn s) = getB h j s := rfl

/-! ### setTwin -/

@[simp] theorem setTwin_regs (g : TwinState → TwinState) (s : State) : (setTwin g s).regs = s.regs := rfl
@[simp] theorem setTwin_snap (g : TwinState → TwinState) (s : State) : (setTwin g s).snap = s.snap := rfl
@[simp] theorem setTwin_now (g : TwinState → TwinState) (s : State) : (setTwin g s).now = s.now := rfl
@[simp] theorem setTwin_timeOff (g : TwinState → TwinState) (s : State) : (setTwin g s).timeOff = s.timeOff := rfl
@[simp] theorem setTwin_powered (g : TwinState → TwinState) (s : State) : (setTwin g s).powered = s.powered := rfl
@[simp] theorem setTwin_lane (g : TwinState → TwinState) (s : State) : (setTwin g s).lane = s.lane := rfl
@[simp] theorem setTwin_time (g : TwinState → TwinState) (s : State) : (setTwin g s).time = s.time := rfl
@[simp] theorem setTwin_xpt (g : TwinState → TwinState) (s : State) : (setTwin g s).xpt = s.xpt := rfl
@[simp] theorem setTwin_cmp (g : TwinState → TwinState) (s : State) : (setTwin g s).cmp = s.cmp := rfl
@[simp] theorem setTwin_aud (g : TwinState → TwinState) (s : State) : (setTwin g s).aud = s.aud := rfl
@[simp] theorem setTwin_reed (g : TwinState → TwinState) (s : State) : (setTwin g s).reed = s.reed := rfl
@[simp] theorem setTwin_eth (g : TwinState → TwinState) (s : State) : (setTwin g s).eth = s.eth := rfl
@[simp] theorem setTwin_dbg (g : TwinState → TwinState) (s : State) : (setTwin g s).dbg = s.dbg := rfl
@[simp] theorem setTwin_cmd (g : TwinState → TwinState) (s : State) : (setTwin g s).cmd = s.cmd := rfl
@[simp] theorem setTwin_twin (g : TwinState → TwinState) (s : State) : (setTwin g s).twin = g s.twin := rfl
@[simp] theorem setTwin_pst (g : TwinState → TwinState) (s : State) : (setTwin g s).pst = s.pst := rfl
@[simp] theorem setTwin_sec (g : TwinState → TwinState) (s : State) : (setTwin g s).sec = s.sec := rfl
@[simp] theorem setTwin_shf (g : TwinState → TwinState) (s : State) : (setTwin g s).shf = s.shf := rfl
@[simp] theorem setTwin_img (g : TwinState → TwinState) (s : State) : (setTwin g s).img = s.img := rfl
@[simp] theorem setTwin_boot (g : TwinState → TwinState) (s : State) : (setTwin g s).boot = s.boot := rfl
@[simp] theorem setTwin_mon (g : TwinState → TwinState) (s : State) : (setTwin g s).mon = s.mon := rfl
@[simp] theorem setTwin_vault (g : TwinState → TwinState) (s : State) : (setTwin g s).vault = s.vault := rfl
@[simp] theorem setTwin_evtFifo (g : TwinState → TwinState) (s : State) : (setTwin g s).evtFifo = s.evtFifo := rfl
@[simp] theorem setTwin_evtHeld (g : TwinState → TwinState) (s : State) : (setTwin g s).evtHeld = s.evtHeld := rfl
@[simp] theorem setTwin_evtLost (g : TwinState → TwinState) (s : State) : (setTwin g s).evtLost = s.evtLost := rfl
@[simp] theorem setTwin_hold (g : TwinState → TwinState) (s : State) : (setTwin g s).hold = s.hold := rfl
@[simp] theorem setTwin_evtLast (g : TwinState → TwinState) (s : State) : (setTwin g s).evtLast = s.evtLast := rfl
@[simp] theorem setTwin_cplHeld (g : TwinState → TwinState) (s : State) : (setTwin g s).cplHeld = s.cplHeld := rfl
@[simp] theorem setTwin_coal (g : TwinState → TwinState) (s : State) : (setTwin g s).coal = s.coal := rfl
@[simp] theorem setTwin_msix (g : TwinState → TwinState) (s : State) : (setTwin g s).msix = s.msix := rfl
@[simp] theorem setTwin_pcie (g : TwinState → TwinState) (s : State) : (setTwin g s).pcie = s.pcie := rfl
@[simp] theorem setTwin_out (g : TwinState → TwinState) (s : State) : (setTwin g s).out = s.out := rfl
@[simp] theorem setTwin_freeCtr (g : TwinState → TwinState) (s : State) : (setTwin g s).freeCtr = s.freeCtr := rfl
@[simp] theorem setTwin_pending (g : TwinState → TwinState) (s : State) : (setTwin g s).pending = s.pending := rfl
@[simp] theorem getF_setTwin (h : Fld) (j : Nat) (g : TwinState → TwinState) (s : State) : getF h j (setTwin g s) = getF h j s := rfl
@[simp] theorem getB_setTwin (h : Fld) (j : Nat) (g : TwinState → TwinState) (s : State) : getB h j (setTwin g s) = getB h j s := rfl

/-! ### setPst -/

@[simp] theorem setPst_regs (g : PstState → PstState) (s : State) : (setPst g s).regs = s.regs := rfl
@[simp] theorem setPst_snap (g : PstState → PstState) (s : State) : (setPst g s).snap = s.snap := rfl
@[simp] theorem setPst_now (g : PstState → PstState) (s : State) : (setPst g s).now = s.now := rfl
@[simp] theorem setPst_timeOff (g : PstState → PstState) (s : State) : (setPst g s).timeOff = s.timeOff := rfl
@[simp] theorem setPst_powered (g : PstState → PstState) (s : State) : (setPst g s).powered = s.powered := rfl
@[simp] theorem setPst_lane (g : PstState → PstState) (s : State) : (setPst g s).lane = s.lane := rfl
@[simp] theorem setPst_time (g : PstState → PstState) (s : State) : (setPst g s).time = s.time := rfl
@[simp] theorem setPst_xpt (g : PstState → PstState) (s : State) : (setPst g s).xpt = s.xpt := rfl
@[simp] theorem setPst_cmp (g : PstState → PstState) (s : State) : (setPst g s).cmp = s.cmp := rfl
@[simp] theorem setPst_aud (g : PstState → PstState) (s : State) : (setPst g s).aud = s.aud := rfl
@[simp] theorem setPst_reed (g : PstState → PstState) (s : State) : (setPst g s).reed = s.reed := rfl
@[simp] theorem setPst_eth (g : PstState → PstState) (s : State) : (setPst g s).eth = s.eth := rfl
@[simp] theorem setPst_dbg (g : PstState → PstState) (s : State) : (setPst g s).dbg = s.dbg := rfl
@[simp] theorem setPst_cmd (g : PstState → PstState) (s : State) : (setPst g s).cmd = s.cmd := rfl
@[simp] theorem setPst_twin (g : PstState → PstState) (s : State) : (setPst g s).twin = s.twin := rfl
@[simp] theorem setPst_pst (g : PstState → PstState) (s : State) : (setPst g s).pst = g s.pst := rfl
@[simp] theorem setPst_sec (g : PstState → PstState) (s : State) : (setPst g s).sec = s.sec := rfl
@[simp] theorem setPst_shf (g : PstState → PstState) (s : State) : (setPst g s).shf = s.shf := rfl
@[simp] theorem setPst_img (g : PstState → PstState) (s : State) : (setPst g s).img = s.img := rfl
@[simp] theorem setPst_boot (g : PstState → PstState) (s : State) : (setPst g s).boot = s.boot := rfl
@[simp] theorem setPst_mon (g : PstState → PstState) (s : State) : (setPst g s).mon = s.mon := rfl
@[simp] theorem setPst_vault (g : PstState → PstState) (s : State) : (setPst g s).vault = s.vault := rfl
@[simp] theorem setPst_evtFifo (g : PstState → PstState) (s : State) : (setPst g s).evtFifo = s.evtFifo := rfl
@[simp] theorem setPst_evtHeld (g : PstState → PstState) (s : State) : (setPst g s).evtHeld = s.evtHeld := rfl
@[simp] theorem setPst_evtLost (g : PstState → PstState) (s : State) : (setPst g s).evtLost = s.evtLost := rfl
@[simp] theorem setPst_hold (g : PstState → PstState) (s : State) : (setPst g s).hold = s.hold := rfl
@[simp] theorem setPst_evtLast (g : PstState → PstState) (s : State) : (setPst g s).evtLast = s.evtLast := rfl
@[simp] theorem setPst_cplHeld (g : PstState → PstState) (s : State) : (setPst g s).cplHeld = s.cplHeld := rfl
@[simp] theorem setPst_coal (g : PstState → PstState) (s : State) : (setPst g s).coal = s.coal := rfl
@[simp] theorem setPst_msix (g : PstState → PstState) (s : State) : (setPst g s).msix = s.msix := rfl
@[simp] theorem setPst_pcie (g : PstState → PstState) (s : State) : (setPst g s).pcie = s.pcie := rfl
@[simp] theorem setPst_out (g : PstState → PstState) (s : State) : (setPst g s).out = s.out := rfl
@[simp] theorem setPst_freeCtr (g : PstState → PstState) (s : State) : (setPst g s).freeCtr = s.freeCtr := rfl
@[simp] theorem setPst_pending (g : PstState → PstState) (s : State) : (setPst g s).pending = s.pending := rfl
@[simp] theorem getF_setPst (h : Fld) (j : Nat) (g : PstState → PstState) (s : State) : getF h j (setPst g s) = getF h j s := rfl
@[simp] theorem getB_setPst (h : Fld) (j : Nat) (g : PstState → PstState) (s : State) : getB h j (setPst g s) = getB h j s := rfl

/-! ### setSec -/

@[simp] theorem setSec_regs (g : SecState → SecState) (s : State) : (setSec g s).regs = s.regs := rfl
@[simp] theorem setSec_snap (g : SecState → SecState) (s : State) : (setSec g s).snap = s.snap := rfl
@[simp] theorem setSec_now (g : SecState → SecState) (s : State) : (setSec g s).now = s.now := rfl
@[simp] theorem setSec_timeOff (g : SecState → SecState) (s : State) : (setSec g s).timeOff = s.timeOff := rfl
@[simp] theorem setSec_powered (g : SecState → SecState) (s : State) : (setSec g s).powered = s.powered := rfl
@[simp] theorem setSec_lane (g : SecState → SecState) (s : State) : (setSec g s).lane = s.lane := rfl
@[simp] theorem setSec_time (g : SecState → SecState) (s : State) : (setSec g s).time = s.time := rfl
@[simp] theorem setSec_xpt (g : SecState → SecState) (s : State) : (setSec g s).xpt = s.xpt := rfl
@[simp] theorem setSec_cmp (g : SecState → SecState) (s : State) : (setSec g s).cmp = s.cmp := rfl
@[simp] theorem setSec_aud (g : SecState → SecState) (s : State) : (setSec g s).aud = s.aud := rfl
@[simp] theorem setSec_reed (g : SecState → SecState) (s : State) : (setSec g s).reed = s.reed := rfl
@[simp] theorem setSec_eth (g : SecState → SecState) (s : State) : (setSec g s).eth = s.eth := rfl
@[simp] theorem setSec_dbg (g : SecState → SecState) (s : State) : (setSec g s).dbg = s.dbg := rfl
@[simp] theorem setSec_cmd (g : SecState → SecState) (s : State) : (setSec g s).cmd = s.cmd := rfl
@[simp] theorem setSec_twin (g : SecState → SecState) (s : State) : (setSec g s).twin = s.twin := rfl
@[simp] theorem setSec_pst (g : SecState → SecState) (s : State) : (setSec g s).pst = s.pst := rfl
@[simp] theorem setSec_sec (g : SecState → SecState) (s : State) : (setSec g s).sec = g s.sec := rfl
@[simp] theorem setSec_shf (g : SecState → SecState) (s : State) : (setSec g s).shf = s.shf := rfl
@[simp] theorem setSec_img (g : SecState → SecState) (s : State) : (setSec g s).img = s.img := rfl
@[simp] theorem setSec_boot (g : SecState → SecState) (s : State) : (setSec g s).boot = s.boot := rfl
@[simp] theorem setSec_mon (g : SecState → SecState) (s : State) : (setSec g s).mon = s.mon := rfl
@[simp] theorem setSec_vault (g : SecState → SecState) (s : State) : (setSec g s).vault = s.vault := rfl
@[simp] theorem setSec_evtFifo (g : SecState → SecState) (s : State) : (setSec g s).evtFifo = s.evtFifo := rfl
@[simp] theorem setSec_evtHeld (g : SecState → SecState) (s : State) : (setSec g s).evtHeld = s.evtHeld := rfl
@[simp] theorem setSec_evtLost (g : SecState → SecState) (s : State) : (setSec g s).evtLost = s.evtLost := rfl
@[simp] theorem setSec_hold (g : SecState → SecState) (s : State) : (setSec g s).hold = s.hold := rfl
@[simp] theorem setSec_evtLast (g : SecState → SecState) (s : State) : (setSec g s).evtLast = s.evtLast := rfl
@[simp] theorem setSec_cplHeld (g : SecState → SecState) (s : State) : (setSec g s).cplHeld = s.cplHeld := rfl
@[simp] theorem setSec_coal (g : SecState → SecState) (s : State) : (setSec g s).coal = s.coal := rfl
@[simp] theorem setSec_msix (g : SecState → SecState) (s : State) : (setSec g s).msix = s.msix := rfl
@[simp] theorem setSec_pcie (g : SecState → SecState) (s : State) : (setSec g s).pcie = s.pcie := rfl
@[simp] theorem setSec_out (g : SecState → SecState) (s : State) : (setSec g s).out = s.out := rfl
@[simp] theorem setSec_freeCtr (g : SecState → SecState) (s : State) : (setSec g s).freeCtr = s.freeCtr := rfl
@[simp] theorem setSec_pending (g : SecState → SecState) (s : State) : (setSec g s).pending = s.pending := rfl
@[simp] theorem getF_setSec (h : Fld) (j : Nat) (g : SecState → SecState) (s : State) : getF h j (setSec g s) = getF h j s := rfl
@[simp] theorem getB_setSec (h : Fld) (j : Nat) (g : SecState → SecState) (s : State) : getB h j (setSec g s) = getB h j s := rfl

/-! ### setCmd -/

@[simp] theorem setCmd_regs (g : CmdState → CmdState) (s : State) : (setCmd g s).regs = s.regs := rfl
@[simp] theorem setCmd_snap (g : CmdState → CmdState) (s : State) : (setCmd g s).snap = s.snap := rfl
@[simp] theorem setCmd_now (g : CmdState → CmdState) (s : State) : (setCmd g s).now = s.now := rfl
@[simp] theorem setCmd_timeOff (g : CmdState → CmdState) (s : State) : (setCmd g s).timeOff = s.timeOff := rfl
@[simp] theorem setCmd_powered (g : CmdState → CmdState) (s : State) : (setCmd g s).powered = s.powered := rfl
@[simp] theorem setCmd_lane (g : CmdState → CmdState) (s : State) : (setCmd g s).lane = s.lane := rfl
@[simp] theorem setCmd_time (g : CmdState → CmdState) (s : State) : (setCmd g s).time = s.time := rfl
@[simp] theorem setCmd_xpt (g : CmdState → CmdState) (s : State) : (setCmd g s).xpt = s.xpt := rfl
@[simp] theorem setCmd_cmp (g : CmdState → CmdState) (s : State) : (setCmd g s).cmp = s.cmp := rfl
@[simp] theorem setCmd_aud (g : CmdState → CmdState) (s : State) : (setCmd g s).aud = s.aud := rfl
@[simp] theorem setCmd_reed (g : CmdState → CmdState) (s : State) : (setCmd g s).reed = s.reed := rfl
@[simp] theorem setCmd_eth (g : CmdState → CmdState) (s : State) : (setCmd g s).eth = s.eth := rfl
@[simp] theorem setCmd_dbg (g : CmdState → CmdState) (s : State) : (setCmd g s).dbg = s.dbg := rfl
@[simp] theorem setCmd_cmd (g : CmdState → CmdState) (s : State) : (setCmd g s).cmd = g s.cmd := rfl
@[simp] theorem setCmd_twin (g : CmdState → CmdState) (s : State) : (setCmd g s).twin = s.twin := rfl
@[simp] theorem setCmd_pst (g : CmdState → CmdState) (s : State) : (setCmd g s).pst = s.pst := rfl
@[simp] theorem setCmd_sec (g : CmdState → CmdState) (s : State) : (setCmd g s).sec = s.sec := rfl
@[simp] theorem setCmd_shf (g : CmdState → CmdState) (s : State) : (setCmd g s).shf = s.shf := rfl
@[simp] theorem setCmd_img (g : CmdState → CmdState) (s : State) : (setCmd g s).img = s.img := rfl
@[simp] theorem setCmd_boot (g : CmdState → CmdState) (s : State) : (setCmd g s).boot = s.boot := rfl
@[simp] theorem setCmd_mon (g : CmdState → CmdState) (s : State) : (setCmd g s).mon = s.mon := rfl
@[simp] theorem setCmd_vault (g : CmdState → CmdState) (s : State) : (setCmd g s).vault = s.vault := rfl
@[simp] theorem setCmd_evtFifo (g : CmdState → CmdState) (s : State) : (setCmd g s).evtFifo = s.evtFifo := rfl
@[simp] theorem setCmd_evtHeld (g : CmdState → CmdState) (s : State) : (setCmd g s).evtHeld = s.evtHeld := rfl
@[simp] theorem setCmd_evtLost (g : CmdState → CmdState) (s : State) : (setCmd g s).evtLost = s.evtLost := rfl
@[simp] theorem setCmd_hold (g : CmdState → CmdState) (s : State) : (setCmd g s).hold = s.hold := rfl
@[simp] theorem setCmd_evtLast (g : CmdState → CmdState) (s : State) : (setCmd g s).evtLast = s.evtLast := rfl
@[simp] theorem setCmd_cplHeld (g : CmdState → CmdState) (s : State) : (setCmd g s).cplHeld = s.cplHeld := rfl
@[simp] theorem setCmd_coal (g : CmdState → CmdState) (s : State) : (setCmd g s).coal = s.coal := rfl
@[simp] theorem setCmd_msix (g : CmdState → CmdState) (s : State) : (setCmd g s).msix = s.msix := rfl
@[simp] theorem setCmd_pcie (g : CmdState → CmdState) (s : State) : (setCmd g s).pcie = s.pcie := rfl
@[simp] theorem setCmd_out (g : CmdState → CmdState) (s : State) : (setCmd g s).out = s.out := rfl
@[simp] theorem setCmd_freeCtr (g : CmdState → CmdState) (s : State) : (setCmd g s).freeCtr = s.freeCtr := rfl
@[simp] theorem setCmd_pending (g : CmdState → CmdState) (s : State) : (setCmd g s).pending = s.pending := rfl
@[simp] theorem getF_setCmd (h : Fld) (j : Nat) (g : CmdState → CmdState) (s : State) : getF h j (setCmd g s) = getF h j s := rfl
@[simp] theorem getB_setCmd (h : Fld) (j : Nat) (g : CmdState → CmdState) (s : State) : getB h j (setCmd g s) = getB h j s := rfl

/-! ### setXpt -/

@[simp] theorem setXpt_regs (g : XptState → XptState) (s : State) : (setXpt g s).regs = s.regs := rfl
@[simp] theorem setXpt_snap (g : XptState → XptState) (s : State) : (setXpt g s).snap = s.snap := rfl
@[simp] theorem setXpt_now (g : XptState → XptState) (s : State) : (setXpt g s).now = s.now := rfl
@[simp] theorem setXpt_timeOff (g : XptState → XptState) (s : State) : (setXpt g s).timeOff = s.timeOff := rfl
@[simp] theorem setXpt_powered (g : XptState → XptState) (s : State) : (setXpt g s).powered = s.powered := rfl
@[simp] theorem setXpt_lane (g : XptState → XptState) (s : State) : (setXpt g s).lane = s.lane := rfl
@[simp] theorem setXpt_time (g : XptState → XptState) (s : State) : (setXpt g s).time = s.time := rfl
@[simp] theorem setXpt_xpt (g : XptState → XptState) (s : State) : (setXpt g s).xpt = g s.xpt := rfl
@[simp] theorem setXpt_cmp (g : XptState → XptState) (s : State) : (setXpt g s).cmp = s.cmp := rfl
@[simp] theorem setXpt_aud (g : XptState → XptState) (s : State) : (setXpt g s).aud = s.aud := rfl
@[simp] theorem setXpt_reed (g : XptState → XptState) (s : State) : (setXpt g s).reed = s.reed := rfl
@[simp] theorem setXpt_eth (g : XptState → XptState) (s : State) : (setXpt g s).eth = s.eth := rfl
@[simp] theorem setXpt_dbg (g : XptState → XptState) (s : State) : (setXpt g s).dbg = s.dbg := rfl
@[simp] theorem setXpt_cmd (g : XptState → XptState) (s : State) : (setXpt g s).cmd = s.cmd := rfl
@[simp] theorem setXpt_twin (g : XptState → XptState) (s : State) : (setXpt g s).twin = s.twin := rfl
@[simp] theorem setXpt_pst (g : XptState → XptState) (s : State) : (setXpt g s).pst = s.pst := rfl
@[simp] theorem setXpt_sec (g : XptState → XptState) (s : State) : (setXpt g s).sec = s.sec := rfl
@[simp] theorem setXpt_shf (g : XptState → XptState) (s : State) : (setXpt g s).shf = s.shf := rfl
@[simp] theorem setXpt_img (g : XptState → XptState) (s : State) : (setXpt g s).img = s.img := rfl
@[simp] theorem setXpt_boot (g : XptState → XptState) (s : State) : (setXpt g s).boot = s.boot := rfl
@[simp] theorem setXpt_mon (g : XptState → XptState) (s : State) : (setXpt g s).mon = s.mon := rfl
@[simp] theorem setXpt_vault (g : XptState → XptState) (s : State) : (setXpt g s).vault = s.vault := rfl
@[simp] theorem setXpt_evtFifo (g : XptState → XptState) (s : State) : (setXpt g s).evtFifo = s.evtFifo := rfl
@[simp] theorem setXpt_evtHeld (g : XptState → XptState) (s : State) : (setXpt g s).evtHeld = s.evtHeld := rfl
@[simp] theorem setXpt_evtLost (g : XptState → XptState) (s : State) : (setXpt g s).evtLost = s.evtLost := rfl
@[simp] theorem setXpt_hold (g : XptState → XptState) (s : State) : (setXpt g s).hold = s.hold := rfl
@[simp] theorem setXpt_evtLast (g : XptState → XptState) (s : State) : (setXpt g s).evtLast = s.evtLast := rfl
@[simp] theorem setXpt_cplHeld (g : XptState → XptState) (s : State) : (setXpt g s).cplHeld = s.cplHeld := rfl
@[simp] theorem setXpt_coal (g : XptState → XptState) (s : State) : (setXpt g s).coal = s.coal := rfl
@[simp] theorem setXpt_msix (g : XptState → XptState) (s : State) : (setXpt g s).msix = s.msix := rfl
@[simp] theorem setXpt_pcie (g : XptState → XptState) (s : State) : (setXpt g s).pcie = s.pcie := rfl
@[simp] theorem setXpt_out (g : XptState → XptState) (s : State) : (setXpt g s).out = s.out := rfl
@[simp] theorem setXpt_freeCtr (g : XptState → XptState) (s : State) : (setXpt g s).freeCtr = s.freeCtr := rfl
@[simp] theorem setXpt_pending (g : XptState → XptState) (s : State) : (setXpt g s).pending = s.pending := rfl
@[simp] theorem getF_setXpt (h : Fld) (j : Nat) (g : XptState → XptState) (s : State) : getF h j (setXpt g s) = getF h j s := rfl
@[simp] theorem getB_setXpt (h : Fld) (j : Nat) (g : XptState → XptState) (s : State) : getB h j (setXpt g s) = getB h j s := rfl

/-! ### setShf -/

@[simp] theorem setShf_regs (g : ShofarState → ShofarState) (s : State) : (setShf g s).regs = s.regs := rfl
@[simp] theorem setShf_snap (g : ShofarState → ShofarState) (s : State) : (setShf g s).snap = s.snap := rfl
@[simp] theorem setShf_now (g : ShofarState → ShofarState) (s : State) : (setShf g s).now = s.now := rfl
@[simp] theorem setShf_timeOff (g : ShofarState → ShofarState) (s : State) : (setShf g s).timeOff = s.timeOff := rfl
@[simp] theorem setShf_powered (g : ShofarState → ShofarState) (s : State) : (setShf g s).powered = s.powered := rfl
@[simp] theorem setShf_lane (g : ShofarState → ShofarState) (s : State) : (setShf g s).lane = s.lane := rfl
@[simp] theorem setShf_time (g : ShofarState → ShofarState) (s : State) : (setShf g s).time = s.time := rfl
@[simp] theorem setShf_xpt (g : ShofarState → ShofarState) (s : State) : (setShf g s).xpt = s.xpt := rfl
@[simp] theorem setShf_cmp (g : ShofarState → ShofarState) (s : State) : (setShf g s).cmp = s.cmp := rfl
@[simp] theorem setShf_aud (g : ShofarState → ShofarState) (s : State) : (setShf g s).aud = s.aud := rfl
@[simp] theorem setShf_reed (g : ShofarState → ShofarState) (s : State) : (setShf g s).reed = s.reed := rfl
@[simp] theorem setShf_eth (g : ShofarState → ShofarState) (s : State) : (setShf g s).eth = s.eth := rfl
@[simp] theorem setShf_dbg (g : ShofarState → ShofarState) (s : State) : (setShf g s).dbg = s.dbg := rfl
@[simp] theorem setShf_cmd (g : ShofarState → ShofarState) (s : State) : (setShf g s).cmd = s.cmd := rfl
@[simp] theorem setShf_twin (g : ShofarState → ShofarState) (s : State) : (setShf g s).twin = s.twin := rfl
@[simp] theorem setShf_pst (g : ShofarState → ShofarState) (s : State) : (setShf g s).pst = s.pst := rfl
@[simp] theorem setShf_sec (g : ShofarState → ShofarState) (s : State) : (setShf g s).sec = s.sec := rfl
@[simp] theorem setShf_shf (g : ShofarState → ShofarState) (s : State) : (setShf g s).shf = g s.shf := rfl
@[simp] theorem setShf_img (g : ShofarState → ShofarState) (s : State) : (setShf g s).img = s.img := rfl
@[simp] theorem setShf_boot (g : ShofarState → ShofarState) (s : State) : (setShf g s).boot = s.boot := rfl
@[simp] theorem setShf_mon (g : ShofarState → ShofarState) (s : State) : (setShf g s).mon = s.mon := rfl
@[simp] theorem setShf_vault (g : ShofarState → ShofarState) (s : State) : (setShf g s).vault = s.vault := rfl
@[simp] theorem setShf_evtFifo (g : ShofarState → ShofarState) (s : State) : (setShf g s).evtFifo = s.evtFifo := rfl
@[simp] theorem setShf_evtHeld (g : ShofarState → ShofarState) (s : State) : (setShf g s).evtHeld = s.evtHeld := rfl
@[simp] theorem setShf_evtLost (g : ShofarState → ShofarState) (s : State) : (setShf g s).evtLost = s.evtLost := rfl
@[simp] theorem setShf_hold (g : ShofarState → ShofarState) (s : State) : (setShf g s).hold = s.hold := rfl
@[simp] theorem setShf_evtLast (g : ShofarState → ShofarState) (s : State) : (setShf g s).evtLast = s.evtLast := rfl
@[simp] theorem setShf_cplHeld (g : ShofarState → ShofarState) (s : State) : (setShf g s).cplHeld = s.cplHeld := rfl
@[simp] theorem setShf_coal (g : ShofarState → ShofarState) (s : State) : (setShf g s).coal = s.coal := rfl
@[simp] theorem setShf_msix (g : ShofarState → ShofarState) (s : State) : (setShf g s).msix = s.msix := rfl
@[simp] theorem setShf_pcie (g : ShofarState → ShofarState) (s : State) : (setShf g s).pcie = s.pcie := rfl
@[simp] theorem setShf_out (g : ShofarState → ShofarState) (s : State) : (setShf g s).out = s.out := rfl
@[simp] theorem setShf_freeCtr (g : ShofarState → ShofarState) (s : State) : (setShf g s).freeCtr = s.freeCtr := rfl
@[simp] theorem setShf_pending (g : ShofarState → ShofarState) (s : State) : (setShf g s).pending = s.pending := rfl
@[simp] theorem getF_setShf (h : Fld) (j : Nat) (g : ShofarState → ShofarState) (s : State) : getF h j (setShf g s) = getF h j s := rfl
@[simp] theorem getB_setShf (h : Fld) (j : Nat) (g : ShofarState → ShofarState) (s : State) : getB h j (setShf g s) = getB h j s := rfl

/-! ### setCmp -/

@[simp] theorem setCmp_regs (g : CmpState → CmpState) (s : State) : (setCmp g s).regs = s.regs := rfl
@[simp] theorem setCmp_snap (g : CmpState → CmpState) (s : State) : (setCmp g s).snap = s.snap := rfl
@[simp] theorem setCmp_now (g : CmpState → CmpState) (s : State) : (setCmp g s).now = s.now := rfl
@[simp] theorem setCmp_timeOff (g : CmpState → CmpState) (s : State) : (setCmp g s).timeOff = s.timeOff := rfl
@[simp] theorem setCmp_powered (g : CmpState → CmpState) (s : State) : (setCmp g s).powered = s.powered := rfl
@[simp] theorem setCmp_lane (g : CmpState → CmpState) (s : State) : (setCmp g s).lane = s.lane := rfl
@[simp] theorem setCmp_time (g : CmpState → CmpState) (s : State) : (setCmp g s).time = s.time := rfl
@[simp] theorem setCmp_xpt (g : CmpState → CmpState) (s : State) : (setCmp g s).xpt = s.xpt := rfl
@[simp] theorem setCmp_cmp (g : CmpState → CmpState) (s : State) : (setCmp g s).cmp = g s.cmp := rfl
@[simp] theorem setCmp_aud (g : CmpState → CmpState) (s : State) : (setCmp g s).aud = s.aud := rfl
@[simp] theorem setCmp_reed (g : CmpState → CmpState) (s : State) : (setCmp g s).reed = s.reed := rfl
@[simp] theorem setCmp_eth (g : CmpState → CmpState) (s : State) : (setCmp g s).eth = s.eth := rfl
@[simp] theorem setCmp_dbg (g : CmpState → CmpState) (s : State) : (setCmp g s).dbg = s.dbg := rfl
@[simp] theorem setCmp_cmd (g : CmpState → CmpState) (s : State) : (setCmp g s).cmd = s.cmd := rfl
@[simp] theorem setCmp_twin (g : CmpState → CmpState) (s : State) : (setCmp g s).twin = s.twin := rfl
@[simp] theorem setCmp_pst (g : CmpState → CmpState) (s : State) : (setCmp g s).pst = s.pst := rfl
@[simp] theorem setCmp_sec (g : CmpState → CmpState) (s : State) : (setCmp g s).sec = s.sec := rfl
@[simp] theorem setCmp_shf (g : CmpState → CmpState) (s : State) : (setCmp g s).shf = s.shf := rfl
@[simp] theorem setCmp_img (g : CmpState → CmpState) (s : State) : (setCmp g s).img = s.img := rfl
@[simp] theorem setCmp_boot (g : CmpState → CmpState) (s : State) : (setCmp g s).boot = s.boot := rfl
@[simp] theorem setCmp_mon (g : CmpState → CmpState) (s : State) : (setCmp g s).mon = s.mon := rfl
@[simp] theorem setCmp_vault (g : CmpState → CmpState) (s : State) : (setCmp g s).vault = s.vault := rfl
@[simp] theorem setCmp_evtFifo (g : CmpState → CmpState) (s : State) : (setCmp g s).evtFifo = s.evtFifo := rfl
@[simp] theorem setCmp_evtHeld (g : CmpState → CmpState) (s : State) : (setCmp g s).evtHeld = s.evtHeld := rfl
@[simp] theorem setCmp_evtLost (g : CmpState → CmpState) (s : State) : (setCmp g s).evtLost = s.evtLost := rfl
@[simp] theorem setCmp_hold (g : CmpState → CmpState) (s : State) : (setCmp g s).hold = s.hold := rfl
@[simp] theorem setCmp_evtLast (g : CmpState → CmpState) (s : State) : (setCmp g s).evtLast = s.evtLast := rfl
@[simp] theorem setCmp_cplHeld (g : CmpState → CmpState) (s : State) : (setCmp g s).cplHeld = s.cplHeld := rfl
@[simp] theorem setCmp_coal (g : CmpState → CmpState) (s : State) : (setCmp g s).coal = s.coal := rfl
@[simp] theorem setCmp_msix (g : CmpState → CmpState) (s : State) : (setCmp g s).msix = s.msix := rfl
@[simp] theorem setCmp_pcie (g : CmpState → CmpState) (s : State) : (setCmp g s).pcie = s.pcie := rfl
@[simp] theorem setCmp_out (g : CmpState → CmpState) (s : State) : (setCmp g s).out = s.out := rfl
@[simp] theorem setCmp_freeCtr (g : CmpState → CmpState) (s : State) : (setCmp g s).freeCtr = s.freeCtr := rfl
@[simp] theorem setCmp_pending (g : CmpState → CmpState) (s : State) : (setCmp g s).pending = s.pending := rfl
@[simp] theorem getF_setCmp (h : Fld) (j : Nat) (g : CmpState → CmpState) (s : State) : getF h j (setCmp g s) = getF h j s := rfl
@[simp] theorem getB_setCmp (h : Fld) (j : Nat) (g : CmpState → CmpState) (s : State) : getB h j (setCmp g s) = getB h j s := rfl

/-! ### setAud -/

@[simp] theorem setAud_regs (g : AudState → AudState) (s : State) : (setAud g s).regs = s.regs := rfl
@[simp] theorem setAud_snap (g : AudState → AudState) (s : State) : (setAud g s).snap = s.snap := rfl
@[simp] theorem setAud_now (g : AudState → AudState) (s : State) : (setAud g s).now = s.now := rfl
@[simp] theorem setAud_timeOff (g : AudState → AudState) (s : State) : (setAud g s).timeOff = s.timeOff := rfl
@[simp] theorem setAud_powered (g : AudState → AudState) (s : State) : (setAud g s).powered = s.powered := rfl
@[simp] theorem setAud_lane (g : AudState → AudState) (s : State) : (setAud g s).lane = s.lane := rfl
@[simp] theorem setAud_time (g : AudState → AudState) (s : State) : (setAud g s).time = s.time := rfl
@[simp] theorem setAud_xpt (g : AudState → AudState) (s : State) : (setAud g s).xpt = s.xpt := rfl
@[simp] theorem setAud_cmp (g : AudState → AudState) (s : State) : (setAud g s).cmp = s.cmp := rfl
@[simp] theorem setAud_aud (g : AudState → AudState) (s : State) : (setAud g s).aud = g s.aud := rfl
@[simp] theorem setAud_reed (g : AudState → AudState) (s : State) : (setAud g s).reed = s.reed := rfl
@[simp] theorem setAud_eth (g : AudState → AudState) (s : State) : (setAud g s).eth = s.eth := rfl
@[simp] theorem setAud_dbg (g : AudState → AudState) (s : State) : (setAud g s).dbg = s.dbg := rfl
@[simp] theorem setAud_cmd (g : AudState → AudState) (s : State) : (setAud g s).cmd = s.cmd := rfl
@[simp] theorem setAud_twin (g : AudState → AudState) (s : State) : (setAud g s).twin = s.twin := rfl
@[simp] theorem setAud_pst (g : AudState → AudState) (s : State) : (setAud g s).pst = s.pst := rfl
@[simp] theorem setAud_sec (g : AudState → AudState) (s : State) : (setAud g s).sec = s.sec := rfl
@[simp] theorem setAud_shf (g : AudState → AudState) (s : State) : (setAud g s).shf = s.shf := rfl
@[simp] theorem setAud_img (g : AudState → AudState) (s : State) : (setAud g s).img = s.img := rfl
@[simp] theorem setAud_boot (g : AudState → AudState) (s : State) : (setAud g s).boot = s.boot := rfl
@[simp] theorem setAud_mon (g : AudState → AudState) (s : State) : (setAud g s).mon = s.mon := rfl
@[simp] theorem setAud_vault (g : AudState → AudState) (s : State) : (setAud g s).vault = s.vault := rfl
@[simp] theorem setAud_evtFifo (g : AudState → AudState) (s : State) : (setAud g s).evtFifo = s.evtFifo := rfl
@[simp] theorem setAud_evtHeld (g : AudState → AudState) (s : State) : (setAud g s).evtHeld = s.evtHeld := rfl
@[simp] theorem setAud_evtLost (g : AudState → AudState) (s : State) : (setAud g s).evtLost = s.evtLost := rfl
@[simp] theorem setAud_hold (g : AudState → AudState) (s : State) : (setAud g s).hold = s.hold := rfl
@[simp] theorem setAud_evtLast (g : AudState → AudState) (s : State) : (setAud g s).evtLast = s.evtLast := rfl
@[simp] theorem setAud_cplHeld (g : AudState → AudState) (s : State) : (setAud g s).cplHeld = s.cplHeld := rfl
@[simp] theorem setAud_coal (g : AudState → AudState) (s : State) : (setAud g s).coal = s.coal := rfl
@[simp] theorem setAud_msix (g : AudState → AudState) (s : State) : (setAud g s).msix = s.msix := rfl
@[simp] theorem setAud_pcie (g : AudState → AudState) (s : State) : (setAud g s).pcie = s.pcie := rfl
@[simp] theorem setAud_out (g : AudState → AudState) (s : State) : (setAud g s).out = s.out := rfl
@[simp] theorem setAud_freeCtr (g : AudState → AudState) (s : State) : (setAud g s).freeCtr = s.freeCtr := rfl
@[simp] theorem setAud_pending (g : AudState → AudState) (s : State) : (setAud g s).pending = s.pending := rfl
@[simp] theorem getF_setAud (h : Fld) (j : Nat) (g : AudState → AudState) (s : State) : getF h j (setAud g s) = getF h j s := rfl
@[simp] theorem getB_setAud (h : Fld) (j : Nat) (g : AudState → AudState) (s : State) : getB h j (setAud g s) = getB h j s := rfl

/-! ### setReedS -/

@[simp] theorem setReedS_regs (g : ReedState → ReedState) (s : State) : (setReedS g s).regs = s.regs := rfl
@[simp] theorem setReedS_snap (g : ReedState → ReedState) (s : State) : (setReedS g s).snap = s.snap := rfl
@[simp] theorem setReedS_now (g : ReedState → ReedState) (s : State) : (setReedS g s).now = s.now := rfl
@[simp] theorem setReedS_timeOff (g : ReedState → ReedState) (s : State) : (setReedS g s).timeOff = s.timeOff := rfl
@[simp] theorem setReedS_powered (g : ReedState → ReedState) (s : State) : (setReedS g s).powered = s.powered := rfl
@[simp] theorem setReedS_lane (g : ReedState → ReedState) (s : State) : (setReedS g s).lane = s.lane := rfl
@[simp] theorem setReedS_time (g : ReedState → ReedState) (s : State) : (setReedS g s).time = s.time := rfl
@[simp] theorem setReedS_xpt (g : ReedState → ReedState) (s : State) : (setReedS g s).xpt = s.xpt := rfl
@[simp] theorem setReedS_cmp (g : ReedState → ReedState) (s : State) : (setReedS g s).cmp = s.cmp := rfl
@[simp] theorem setReedS_aud (g : ReedState → ReedState) (s : State) : (setReedS g s).aud = s.aud := rfl
@[simp] theorem setReedS_reed (g : ReedState → ReedState) (s : State) : (setReedS g s).reed = g s.reed := rfl
@[simp] theorem setReedS_eth (g : ReedState → ReedState) (s : State) : (setReedS g s).eth = s.eth := rfl
@[simp] theorem setReedS_dbg (g : ReedState → ReedState) (s : State) : (setReedS g s).dbg = s.dbg := rfl
@[simp] theorem setReedS_cmd (g : ReedState → ReedState) (s : State) : (setReedS g s).cmd = s.cmd := rfl
@[simp] theorem setReedS_twin (g : ReedState → ReedState) (s : State) : (setReedS g s).twin = s.twin := rfl
@[simp] theorem setReedS_pst (g : ReedState → ReedState) (s : State) : (setReedS g s).pst = s.pst := rfl
@[simp] theorem setReedS_sec (g : ReedState → ReedState) (s : State) : (setReedS g s).sec = s.sec := rfl
@[simp] theorem setReedS_shf (g : ReedState → ReedState) (s : State) : (setReedS g s).shf = s.shf := rfl
@[simp] theorem setReedS_img (g : ReedState → ReedState) (s : State) : (setReedS g s).img = s.img := rfl
@[simp] theorem setReedS_boot (g : ReedState → ReedState) (s : State) : (setReedS g s).boot = s.boot := rfl
@[simp] theorem setReedS_mon (g : ReedState → ReedState) (s : State) : (setReedS g s).mon = s.mon := rfl
@[simp] theorem setReedS_vault (g : ReedState → ReedState) (s : State) : (setReedS g s).vault = s.vault := rfl
@[simp] theorem setReedS_evtFifo (g : ReedState → ReedState) (s : State) : (setReedS g s).evtFifo = s.evtFifo := rfl
@[simp] theorem setReedS_evtHeld (g : ReedState → ReedState) (s : State) : (setReedS g s).evtHeld = s.evtHeld := rfl
@[simp] theorem setReedS_evtLost (g : ReedState → ReedState) (s : State) : (setReedS g s).evtLost = s.evtLost := rfl
@[simp] theorem setReedS_hold (g : ReedState → ReedState) (s : State) : (setReedS g s).hold = s.hold := rfl
@[simp] theorem setReedS_evtLast (g : ReedState → ReedState) (s : State) : (setReedS g s).evtLast = s.evtLast := rfl
@[simp] theorem setReedS_cplHeld (g : ReedState → ReedState) (s : State) : (setReedS g s).cplHeld = s.cplHeld := rfl
@[simp] theorem setReedS_coal (g : ReedState → ReedState) (s : State) : (setReedS g s).coal = s.coal := rfl
@[simp] theorem setReedS_msix (g : ReedState → ReedState) (s : State) : (setReedS g s).msix = s.msix := rfl
@[simp] theorem setReedS_pcie (g : ReedState → ReedState) (s : State) : (setReedS g s).pcie = s.pcie := rfl
@[simp] theorem setReedS_out (g : ReedState → ReedState) (s : State) : (setReedS g s).out = s.out := rfl
@[simp] theorem setReedS_freeCtr (g : ReedState → ReedState) (s : State) : (setReedS g s).freeCtr = s.freeCtr := rfl
@[simp] theorem setReedS_pending (g : ReedState → ReedState) (s : State) : (setReedS g s).pending = s.pending := rfl
@[simp] theorem getF_setReedS (h : Fld) (j : Nat) (g : ReedState → ReedState) (s : State) : getF h j (setReedS g s) = getF h j s := rfl
@[simp] theorem getB_setReedS (h : Fld) (j : Nat) (g : ReedState → ReedState) (s : State) : getB h j (setReedS g s) = getB h j s := rfl

/-! ### setEth -/

@[simp] theorem setEth_regs (g : EthState → EthState) (s : State) : (setEth g s).regs = s.regs := rfl
@[simp] theorem setEth_snap (g : EthState → EthState) (s : State) : (setEth g s).snap = s.snap := rfl
@[simp] theorem setEth_now (g : EthState → EthState) (s : State) : (setEth g s).now = s.now := rfl
@[simp] theorem setEth_timeOff (g : EthState → EthState) (s : State) : (setEth g s).timeOff = s.timeOff := rfl
@[simp] theorem setEth_powered (g : EthState → EthState) (s : State) : (setEth g s).powered = s.powered := rfl
@[simp] theorem setEth_lane (g : EthState → EthState) (s : State) : (setEth g s).lane = s.lane := rfl
@[simp] theorem setEth_time (g : EthState → EthState) (s : State) : (setEth g s).time = s.time := rfl
@[simp] theorem setEth_xpt (g : EthState → EthState) (s : State) : (setEth g s).xpt = s.xpt := rfl
@[simp] theorem setEth_cmp (g : EthState → EthState) (s : State) : (setEth g s).cmp = s.cmp := rfl
@[simp] theorem setEth_aud (g : EthState → EthState) (s : State) : (setEth g s).aud = s.aud := rfl
@[simp] theorem setEth_reed (g : EthState → EthState) (s : State) : (setEth g s).reed = s.reed := rfl
@[simp] theorem setEth_eth (g : EthState → EthState) (s : State) : (setEth g s).eth = g s.eth := rfl
@[simp] theorem setEth_dbg (g : EthState → EthState) (s : State) : (setEth g s).dbg = s.dbg := rfl
@[simp] theorem setEth_cmd (g : EthState → EthState) (s : State) : (setEth g s).cmd = s.cmd := rfl
@[simp] theorem setEth_twin (g : EthState → EthState) (s : State) : (setEth g s).twin = s.twin := rfl
@[simp] theorem setEth_pst (g : EthState → EthState) (s : State) : (setEth g s).pst = s.pst := rfl
@[simp] theorem setEth_sec (g : EthState → EthState) (s : State) : (setEth g s).sec = s.sec := rfl
@[simp] theorem setEth_shf (g : EthState → EthState) (s : State) : (setEth g s).shf = s.shf := rfl
@[simp] theorem setEth_img (g : EthState → EthState) (s : State) : (setEth g s).img = s.img := rfl
@[simp] theorem setEth_boot (g : EthState → EthState) (s : State) : (setEth g s).boot = s.boot := rfl
@[simp] theorem setEth_mon (g : EthState → EthState) (s : State) : (setEth g s).mon = s.mon := rfl
@[simp] theorem setEth_vault (g : EthState → EthState) (s : State) : (setEth g s).vault = s.vault := rfl
@[simp] theorem setEth_evtFifo (g : EthState → EthState) (s : State) : (setEth g s).evtFifo = s.evtFifo := rfl
@[simp] theorem setEth_evtHeld (g : EthState → EthState) (s : State) : (setEth g s).evtHeld = s.evtHeld := rfl
@[simp] theorem setEth_evtLost (g : EthState → EthState) (s : State) : (setEth g s).evtLost = s.evtLost := rfl
@[simp] theorem setEth_hold (g : EthState → EthState) (s : State) : (setEth g s).hold = s.hold := rfl
@[simp] theorem setEth_evtLast (g : EthState → EthState) (s : State) : (setEth g s).evtLast = s.evtLast := rfl
@[simp] theorem setEth_cplHeld (g : EthState → EthState) (s : State) : (setEth g s).cplHeld = s.cplHeld := rfl
@[simp] theorem setEth_coal (g : EthState → EthState) (s : State) : (setEth g s).coal = s.coal := rfl
@[simp] theorem setEth_msix (g : EthState → EthState) (s : State) : (setEth g s).msix = s.msix := rfl
@[simp] theorem setEth_pcie (g : EthState → EthState) (s : State) : (setEth g s).pcie = s.pcie := rfl
@[simp] theorem setEth_out (g : EthState → EthState) (s : State) : (setEth g s).out = s.out := rfl
@[simp] theorem setEth_freeCtr (g : EthState → EthState) (s : State) : (setEth g s).freeCtr = s.freeCtr := rfl
@[simp] theorem setEth_pending (g : EthState → EthState) (s : State) : (setEth g s).pending = s.pending := rfl
@[simp] theorem getF_setEth (h : Fld) (j : Nat) (g : EthState → EthState) (s : State) : getF h j (setEth g s) = getF h j s := rfl
@[simp] theorem getB_setEth (h : Fld) (j : Nat) (g : EthState → EthState) (s : State) : getB h j (setEth g s) = getB h j s := rfl

/-! ### setTime -/

@[simp] theorem setTime_regs (g : TimeState → TimeState) (s : State) : (setTime g s).regs = s.regs := rfl
@[simp] theorem setTime_snap (g : TimeState → TimeState) (s : State) : (setTime g s).snap = s.snap := rfl
@[simp] theorem setTime_now (g : TimeState → TimeState) (s : State) : (setTime g s).now = s.now := rfl
@[simp] theorem setTime_timeOff (g : TimeState → TimeState) (s : State) : (setTime g s).timeOff = s.timeOff := rfl
@[simp] theorem setTime_powered (g : TimeState → TimeState) (s : State) : (setTime g s).powered = s.powered := rfl
@[simp] theorem setTime_lane (g : TimeState → TimeState) (s : State) : (setTime g s).lane = s.lane := rfl
@[simp] theorem setTime_time (g : TimeState → TimeState) (s : State) : (setTime g s).time = g s.time := rfl
@[simp] theorem setTime_xpt (g : TimeState → TimeState) (s : State) : (setTime g s).xpt = s.xpt := rfl
@[simp] theorem setTime_cmp (g : TimeState → TimeState) (s : State) : (setTime g s).cmp = s.cmp := rfl
@[simp] theorem setTime_aud (g : TimeState → TimeState) (s : State) : (setTime g s).aud = s.aud := rfl
@[simp] theorem setTime_reed (g : TimeState → TimeState) (s : State) : (setTime g s).reed = s.reed := rfl
@[simp] theorem setTime_eth (g : TimeState → TimeState) (s : State) : (setTime g s).eth = s.eth := rfl
@[simp] theorem setTime_dbg (g : TimeState → TimeState) (s : State) : (setTime g s).dbg = s.dbg := rfl
@[simp] theorem setTime_cmd (g : TimeState → TimeState) (s : State) : (setTime g s).cmd = s.cmd := rfl
@[simp] theorem setTime_twin (g : TimeState → TimeState) (s : State) : (setTime g s).twin = s.twin := rfl
@[simp] theorem setTime_pst (g : TimeState → TimeState) (s : State) : (setTime g s).pst = s.pst := rfl
@[simp] theorem setTime_sec (g : TimeState → TimeState) (s : State) : (setTime g s).sec = s.sec := rfl
@[simp] theorem setTime_shf (g : TimeState → TimeState) (s : State) : (setTime g s).shf = s.shf := rfl
@[simp] theorem setTime_img (g : TimeState → TimeState) (s : State) : (setTime g s).img = s.img := rfl
@[simp] theorem setTime_boot (g : TimeState → TimeState) (s : State) : (setTime g s).boot = s.boot := rfl
@[simp] theorem setTime_mon (g : TimeState → TimeState) (s : State) : (setTime g s).mon = s.mon := rfl
@[simp] theorem setTime_vault (g : TimeState → TimeState) (s : State) : (setTime g s).vault = s.vault := rfl
@[simp] theorem setTime_evtFifo (g : TimeState → TimeState) (s : State) : (setTime g s).evtFifo = s.evtFifo := rfl
@[simp] theorem setTime_evtHeld (g : TimeState → TimeState) (s : State) : (setTime g s).evtHeld = s.evtHeld := rfl
@[simp] theorem setTime_evtLost (g : TimeState → TimeState) (s : State) : (setTime g s).evtLost = s.evtLost := rfl
@[simp] theorem setTime_hold (g : TimeState → TimeState) (s : State) : (setTime g s).hold = s.hold := rfl
@[simp] theorem setTime_evtLast (g : TimeState → TimeState) (s : State) : (setTime g s).evtLast = s.evtLast := rfl
@[simp] theorem setTime_cplHeld (g : TimeState → TimeState) (s : State) : (setTime g s).cplHeld = s.cplHeld := rfl
@[simp] theorem setTime_coal (g : TimeState → TimeState) (s : State) : (setTime g s).coal = s.coal := rfl
@[simp] theorem setTime_msix (g : TimeState → TimeState) (s : State) : (setTime g s).msix = s.msix := rfl
@[simp] theorem setTime_pcie (g : TimeState → TimeState) (s : State) : (setTime g s).pcie = s.pcie := rfl
@[simp] theorem setTime_out (g : TimeState → TimeState) (s : State) : (setTime g s).out = s.out := rfl
@[simp] theorem setTime_freeCtr (g : TimeState → TimeState) (s : State) : (setTime g s).freeCtr = s.freeCtr := rfl
@[simp] theorem setTime_pending (g : TimeState → TimeState) (s : State) : (setTime g s).pending = s.pending := rfl
@[simp] theorem getF_setTime (h : Fld) (j : Nat) (g : TimeState → TimeState) (s : State) : getF h j (setTime g s) = getF h j s := rfl
@[simp] theorem getB_setTime (h : Fld) (j : Nat) (g : TimeState → TimeState) (s : State) : getB h j (setTime g s) = getB h j s := rfl

/-! ### setImg -/

@[simp] theorem setImg_regs (g : ImgState → ImgState) (s : State) : (setImg g s).regs = s.regs := rfl
@[simp] theorem setImg_snap (g : ImgState → ImgState) (s : State) : (setImg g s).snap = s.snap := rfl
@[simp] theorem setImg_now (g : ImgState → ImgState) (s : State) : (setImg g s).now = s.now := rfl
@[simp] theorem setImg_timeOff (g : ImgState → ImgState) (s : State) : (setImg g s).timeOff = s.timeOff := rfl
@[simp] theorem setImg_powered (g : ImgState → ImgState) (s : State) : (setImg g s).powered = s.powered := rfl
@[simp] theorem setImg_lane (g : ImgState → ImgState) (s : State) : (setImg g s).lane = s.lane := rfl
@[simp] theorem setImg_time (g : ImgState → ImgState) (s : State) : (setImg g s).time = s.time := rfl
@[simp] theorem setImg_xpt (g : ImgState → ImgState) (s : State) : (setImg g s).xpt = s.xpt := rfl
@[simp] theorem setImg_cmp (g : ImgState → ImgState) (s : State) : (setImg g s).cmp = s.cmp := rfl
@[simp] theorem setImg_aud (g : ImgState → ImgState) (s : State) : (setImg g s).aud = s.aud := rfl
@[simp] theorem setImg_reed (g : ImgState → ImgState) (s : State) : (setImg g s).reed = s.reed := rfl
@[simp] theorem setImg_eth (g : ImgState → ImgState) (s : State) : (setImg g s).eth = s.eth := rfl
@[simp] theorem setImg_dbg (g : ImgState → ImgState) (s : State) : (setImg g s).dbg = s.dbg := rfl
@[simp] theorem setImg_cmd (g : ImgState → ImgState) (s : State) : (setImg g s).cmd = s.cmd := rfl
@[simp] theorem setImg_twin (g : ImgState → ImgState) (s : State) : (setImg g s).twin = s.twin := rfl
@[simp] theorem setImg_pst (g : ImgState → ImgState) (s : State) : (setImg g s).pst = s.pst := rfl
@[simp] theorem setImg_sec (g : ImgState → ImgState) (s : State) : (setImg g s).sec = s.sec := rfl
@[simp] theorem setImg_shf (g : ImgState → ImgState) (s : State) : (setImg g s).shf = s.shf := rfl
@[simp] theorem setImg_img (g : ImgState → ImgState) (s : State) : (setImg g s).img = g s.img := rfl
@[simp] theorem setImg_boot (g : ImgState → ImgState) (s : State) : (setImg g s).boot = s.boot := rfl
@[simp] theorem setImg_mon (g : ImgState → ImgState) (s : State) : (setImg g s).mon = s.mon := rfl
@[simp] theorem setImg_vault (g : ImgState → ImgState) (s : State) : (setImg g s).vault = s.vault := rfl
@[simp] theorem setImg_evtFifo (g : ImgState → ImgState) (s : State) : (setImg g s).evtFifo = s.evtFifo := rfl
@[simp] theorem setImg_evtHeld (g : ImgState → ImgState) (s : State) : (setImg g s).evtHeld = s.evtHeld := rfl
@[simp] theorem setImg_evtLost (g : ImgState → ImgState) (s : State) : (setImg g s).evtLost = s.evtLost := rfl
@[simp] theorem setImg_hold (g : ImgState → ImgState) (s : State) : (setImg g s).hold = s.hold := rfl
@[simp] theorem setImg_evtLast (g : ImgState → ImgState) (s : State) : (setImg g s).evtLast = s.evtLast := rfl
@[simp] theorem setImg_cplHeld (g : ImgState → ImgState) (s : State) : (setImg g s).cplHeld = s.cplHeld := rfl
@[simp] theorem setImg_coal (g : ImgState → ImgState) (s : State) : (setImg g s).coal = s.coal := rfl
@[simp] theorem setImg_msix (g : ImgState → ImgState) (s : State) : (setImg g s).msix = s.msix := rfl
@[simp] theorem setImg_pcie (g : ImgState → ImgState) (s : State) : (setImg g s).pcie = s.pcie := rfl
@[simp] theorem setImg_out (g : ImgState → ImgState) (s : State) : (setImg g s).out = s.out := rfl
@[simp] theorem setImg_freeCtr (g : ImgState → ImgState) (s : State) : (setImg g s).freeCtr = s.freeCtr := rfl
@[simp] theorem setImg_pending (g : ImgState → ImgState) (s : State) : (setImg g s).pending = s.pending := rfl
@[simp] theorem getF_setImg (h : Fld) (j : Nat) (g : ImgState → ImgState) (s : State) : getF h j (setImg g s) = getF h j s := rfl
@[simp] theorem getB_setImg (h : Fld) (j : Nat) (g : ImgState → ImgState) (s : State) : getB h j (setImg g s) = getB h j s := rfl

/-! ### setBoot -/

@[simp] theorem setBoot_regs (g : BootState → BootState) (s : State) : (setBoot g s).regs = s.regs := rfl
@[simp] theorem setBoot_snap (g : BootState → BootState) (s : State) : (setBoot g s).snap = s.snap := rfl
@[simp] theorem setBoot_now (g : BootState → BootState) (s : State) : (setBoot g s).now = s.now := rfl
@[simp] theorem setBoot_timeOff (g : BootState → BootState) (s : State) : (setBoot g s).timeOff = s.timeOff := rfl
@[simp] theorem setBoot_powered (g : BootState → BootState) (s : State) : (setBoot g s).powered = s.powered := rfl
@[simp] theorem setBoot_lane (g : BootState → BootState) (s : State) : (setBoot g s).lane = s.lane := rfl
@[simp] theorem setBoot_time (g : BootState → BootState) (s : State) : (setBoot g s).time = s.time := rfl
@[simp] theorem setBoot_xpt (g : BootState → BootState) (s : State) : (setBoot g s).xpt = s.xpt := rfl
@[simp] theorem setBoot_cmp (g : BootState → BootState) (s : State) : (setBoot g s).cmp = s.cmp := rfl
@[simp] theorem setBoot_aud (g : BootState → BootState) (s : State) : (setBoot g s).aud = s.aud := rfl
@[simp] theorem setBoot_reed (g : BootState → BootState) (s : State) : (setBoot g s).reed = s.reed := rfl
@[simp] theorem setBoot_eth (g : BootState → BootState) (s : State) : (setBoot g s).eth = s.eth := rfl
@[simp] theorem setBoot_dbg (g : BootState → BootState) (s : State) : (setBoot g s).dbg = s.dbg := rfl
@[simp] theorem setBoot_cmd (g : BootState → BootState) (s : State) : (setBoot g s).cmd = s.cmd := rfl
@[simp] theorem setBoot_twin (g : BootState → BootState) (s : State) : (setBoot g s).twin = s.twin := rfl
@[simp] theorem setBoot_pst (g : BootState → BootState) (s : State) : (setBoot g s).pst = s.pst := rfl
@[simp] theorem setBoot_sec (g : BootState → BootState) (s : State) : (setBoot g s).sec = s.sec := rfl
@[simp] theorem setBoot_shf (g : BootState → BootState) (s : State) : (setBoot g s).shf = s.shf := rfl
@[simp] theorem setBoot_img (g : BootState → BootState) (s : State) : (setBoot g s).img = s.img := rfl
@[simp] theorem setBoot_boot (g : BootState → BootState) (s : State) : (setBoot g s).boot = g s.boot := rfl
@[simp] theorem setBoot_mon (g : BootState → BootState) (s : State) : (setBoot g s).mon = s.mon := rfl
@[simp] theorem setBoot_vault (g : BootState → BootState) (s : State) : (setBoot g s).vault = s.vault := rfl
@[simp] theorem setBoot_evtFifo (g : BootState → BootState) (s : State) : (setBoot g s).evtFifo = s.evtFifo := rfl
@[simp] theorem setBoot_evtHeld (g : BootState → BootState) (s : State) : (setBoot g s).evtHeld = s.evtHeld := rfl
@[simp] theorem setBoot_evtLost (g : BootState → BootState) (s : State) : (setBoot g s).evtLost = s.evtLost := rfl
@[simp] theorem setBoot_hold (g : BootState → BootState) (s : State) : (setBoot g s).hold = s.hold := rfl
@[simp] theorem setBoot_evtLast (g : BootState → BootState) (s : State) : (setBoot g s).evtLast = s.evtLast := rfl
@[simp] theorem setBoot_cplHeld (g : BootState → BootState) (s : State) : (setBoot g s).cplHeld = s.cplHeld := rfl
@[simp] theorem setBoot_coal (g : BootState → BootState) (s : State) : (setBoot g s).coal = s.coal := rfl
@[simp] theorem setBoot_msix (g : BootState → BootState) (s : State) : (setBoot g s).msix = s.msix := rfl
@[simp] theorem setBoot_pcie (g : BootState → BootState) (s : State) : (setBoot g s).pcie = s.pcie := rfl
@[simp] theorem setBoot_out (g : BootState → BootState) (s : State) : (setBoot g s).out = s.out := rfl
@[simp] theorem setBoot_freeCtr (g : BootState → BootState) (s : State) : (setBoot g s).freeCtr = s.freeCtr := rfl
@[simp] theorem setBoot_pending (g : BootState → BootState) (s : State) : (setBoot g s).pending = s.pending := rfl
@[simp] theorem getF_setBoot (h : Fld) (j : Nat) (g : BootState → BootState) (s : State) : getF h j (setBoot g s) = getF h j s := rfl
@[simp] theorem getB_setBoot (h : Fld) (j : Nat) (g : BootState → BootState) (s : State) : getB h j (setBoot g s) = getB h j s := rfl

/-! ### setDbg -/

@[simp] theorem setDbg_regs (g : DbgState → DbgState) (s : State) : (setDbg g s).regs = s.regs := rfl
@[simp] theorem setDbg_snap (g : DbgState → DbgState) (s : State) : (setDbg g s).snap = s.snap := rfl
@[simp] theorem setDbg_now (g : DbgState → DbgState) (s : State) : (setDbg g s).now = s.now := rfl
@[simp] theorem setDbg_timeOff (g : DbgState → DbgState) (s : State) : (setDbg g s).timeOff = s.timeOff := rfl
@[simp] theorem setDbg_powered (g : DbgState → DbgState) (s : State) : (setDbg g s).powered = s.powered := rfl
@[simp] theorem setDbg_lane (g : DbgState → DbgState) (s : State) : (setDbg g s).lane = s.lane := rfl
@[simp] theorem setDbg_time (g : DbgState → DbgState) (s : State) : (setDbg g s).time = s.time := rfl
@[simp] theorem setDbg_xpt (g : DbgState → DbgState) (s : State) : (setDbg g s).xpt = s.xpt := rfl
@[simp] theorem setDbg_cmp (g : DbgState → DbgState) (s : State) : (setDbg g s).cmp = s.cmp := rfl
@[simp] theorem setDbg_aud (g : DbgState → DbgState) (s : State) : (setDbg g s).aud = s.aud := rfl
@[simp] theorem setDbg_reed (g : DbgState → DbgState) (s : State) : (setDbg g s).reed = s.reed := rfl
@[simp] theorem setDbg_eth (g : DbgState → DbgState) (s : State) : (setDbg g s).eth = s.eth := rfl
@[simp] theorem setDbg_dbg (g : DbgState → DbgState) (s : State) : (setDbg g s).dbg = g s.dbg := rfl
@[simp] theorem setDbg_cmd (g : DbgState → DbgState) (s : State) : (setDbg g s).cmd = s.cmd := rfl
@[simp] theorem setDbg_twin (g : DbgState → DbgState) (s : State) : (setDbg g s).twin = s.twin := rfl
@[simp] theorem setDbg_pst (g : DbgState → DbgState) (s : State) : (setDbg g s).pst = s.pst := rfl
@[simp] theorem setDbg_sec (g : DbgState → DbgState) (s : State) : (setDbg g s).sec = s.sec := rfl
@[simp] theorem setDbg_shf (g : DbgState → DbgState) (s : State) : (setDbg g s).shf = s.shf := rfl
@[simp] theorem setDbg_img (g : DbgState → DbgState) (s : State) : (setDbg g s).img = s.img := rfl
@[simp] theorem setDbg_boot (g : DbgState → DbgState) (s : State) : (setDbg g s).boot = s.boot := rfl
@[simp] theorem setDbg_mon (g : DbgState → DbgState) (s : State) : (setDbg g s).mon = s.mon := rfl
@[simp] theorem setDbg_vault (g : DbgState → DbgState) (s : State) : (setDbg g s).vault = s.vault := rfl
@[simp] theorem setDbg_evtFifo (g : DbgState → DbgState) (s : State) : (setDbg g s).evtFifo = s.evtFifo := rfl
@[simp] theorem setDbg_evtHeld (g : DbgState → DbgState) (s : State) : (setDbg g s).evtHeld = s.evtHeld := rfl
@[simp] theorem setDbg_evtLost (g : DbgState → DbgState) (s : State) : (setDbg g s).evtLost = s.evtLost := rfl
@[simp] theorem setDbg_hold (g : DbgState → DbgState) (s : State) : (setDbg g s).hold = s.hold := rfl
@[simp] theorem setDbg_evtLast (g : DbgState → DbgState) (s : State) : (setDbg g s).evtLast = s.evtLast := rfl
@[simp] theorem setDbg_cplHeld (g : DbgState → DbgState) (s : State) : (setDbg g s).cplHeld = s.cplHeld := rfl
@[simp] theorem setDbg_coal (g : DbgState → DbgState) (s : State) : (setDbg g s).coal = s.coal := rfl
@[simp] theorem setDbg_msix (g : DbgState → DbgState) (s : State) : (setDbg g s).msix = s.msix := rfl
@[simp] theorem setDbg_pcie (g : DbgState → DbgState) (s : State) : (setDbg g s).pcie = s.pcie := rfl
@[simp] theorem setDbg_out (g : DbgState → DbgState) (s : State) : (setDbg g s).out = s.out := rfl
@[simp] theorem setDbg_freeCtr (g : DbgState → DbgState) (s : State) : (setDbg g s).freeCtr = s.freeCtr := rfl
@[simp] theorem setDbg_pending (g : DbgState → DbgState) (s : State) : (setDbg g s).pending = s.pending := rfl
@[simp] theorem getF_setDbg (h : Fld) (j : Nat) (g : DbgState → DbgState) (s : State) : getF h j (setDbg g s) = getF h j s := rfl
@[simp] theorem getB_setDbg (h : Fld) (j : Nat) (g : DbgState → DbgState) (s : State) : getB h j (setDbg g s) = getB h j s := rfl

/-! ### setMon -/

@[simp] theorem setMon_regs (g : MonState → MonState) (s : State) : (setMon g s).regs = s.regs := rfl
@[simp] theorem setMon_snap (g : MonState → MonState) (s : State) : (setMon g s).snap = s.snap := rfl
@[simp] theorem setMon_now (g : MonState → MonState) (s : State) : (setMon g s).now = s.now := rfl
@[simp] theorem setMon_timeOff (g : MonState → MonState) (s : State) : (setMon g s).timeOff = s.timeOff := rfl
@[simp] theorem setMon_powered (g : MonState → MonState) (s : State) : (setMon g s).powered = s.powered := rfl
@[simp] theorem setMon_lane (g : MonState → MonState) (s : State) : (setMon g s).lane = s.lane := rfl
@[simp] theorem setMon_time (g : MonState → MonState) (s : State) : (setMon g s).time = s.time := rfl
@[simp] theorem setMon_xpt (g : MonState → MonState) (s : State) : (setMon g s).xpt = s.xpt := rfl
@[simp] theorem setMon_cmp (g : MonState → MonState) (s : State) : (setMon g s).cmp = s.cmp := rfl
@[simp] theorem setMon_aud (g : MonState → MonState) (s : State) : (setMon g s).aud = s.aud := rfl
@[simp] theorem setMon_reed (g : MonState → MonState) (s : State) : (setMon g s).reed = s.reed := rfl
@[simp] theorem setMon_eth (g : MonState → MonState) (s : State) : (setMon g s).eth = s.eth := rfl
@[simp] theorem setMon_dbg (g : MonState → MonState) (s : State) : (setMon g s).dbg = s.dbg := rfl
@[simp] theorem setMon_cmd (g : MonState → MonState) (s : State) : (setMon g s).cmd = s.cmd := rfl
@[simp] theorem setMon_twin (g : MonState → MonState) (s : State) : (setMon g s).twin = s.twin := rfl
@[simp] theorem setMon_pst (g : MonState → MonState) (s : State) : (setMon g s).pst = s.pst := rfl
@[simp] theorem setMon_sec (g : MonState → MonState) (s : State) : (setMon g s).sec = s.sec := rfl
@[simp] theorem setMon_shf (g : MonState → MonState) (s : State) : (setMon g s).shf = s.shf := rfl
@[simp] theorem setMon_img (g : MonState → MonState) (s : State) : (setMon g s).img = s.img := rfl
@[simp] theorem setMon_boot (g : MonState → MonState) (s : State) : (setMon g s).boot = s.boot := rfl
@[simp] theorem setMon_mon (g : MonState → MonState) (s : State) : (setMon g s).mon = g s.mon := rfl
@[simp] theorem setMon_vault (g : MonState → MonState) (s : State) : (setMon g s).vault = s.vault := rfl
@[simp] theorem setMon_evtFifo (g : MonState → MonState) (s : State) : (setMon g s).evtFifo = s.evtFifo := rfl
@[simp] theorem setMon_evtHeld (g : MonState → MonState) (s : State) : (setMon g s).evtHeld = s.evtHeld := rfl
@[simp] theorem setMon_evtLost (g : MonState → MonState) (s : State) : (setMon g s).evtLost = s.evtLost := rfl
@[simp] theorem setMon_hold (g : MonState → MonState) (s : State) : (setMon g s).hold = s.hold := rfl
@[simp] theorem setMon_evtLast (g : MonState → MonState) (s : State) : (setMon g s).evtLast = s.evtLast := rfl
@[simp] theorem setMon_cplHeld (g : MonState → MonState) (s : State) : (setMon g s).cplHeld = s.cplHeld := rfl
@[simp] theorem setMon_coal (g : MonState → MonState) (s : State) : (setMon g s).coal = s.coal := rfl
@[simp] theorem setMon_msix (g : MonState → MonState) (s : State) : (setMon g s).msix = s.msix := rfl
@[simp] theorem setMon_pcie (g : MonState → MonState) (s : State) : (setMon g s).pcie = s.pcie := rfl
@[simp] theorem setMon_out (g : MonState → MonState) (s : State) : (setMon g s).out = s.out := rfl
@[simp] theorem setMon_freeCtr (g : MonState → MonState) (s : State) : (setMon g s).freeCtr = s.freeCtr := rfl
@[simp] theorem setMon_pending (g : MonState → MonState) (s : State) : (setMon g s).pending = s.pending := rfl
@[simp] theorem getF_setMon (h : Fld) (j : Nat) (g : MonState → MonState) (s : State) : getF h j (setMon g s) = getF h j s := rfl
@[simp] theorem getB_setMon (h : Fld) (j : Nat) (g : MonState → MonState) (s : State) : getB h j (setMon g s) = getB h j s := rfl

end Sys2Proof.Machine
end

