-- ==== Sys2Proof/Laws/Settle.lean ====
section
/-! SUPPORT. What the two shared operations at the end of most steps can touch: `finishReady`, which completes commands, and
`settle`, which judges evidence, reference, resynchronisation and role. `kept` erases all of that from a state; both operations
leave it as it is, and every other part of the state and every other register field is read off it. -/

namespace Sys2Proof.Machine

/-! ### Erasing what may change -/

def finishIds : List Nat := finishFlds.map Fld.id
def settleIds : List Nat := endFlds.map Fld.id

/-- The state with what completing a command may change erased. -/
def kept1 (s : State) : State :=
  { s with
    regs := s.regs.filter (fun e => !finishIds.contains e.1), cmd := {}, twin := {}, evtFifo := [], evtHeld := [], evtLost := false,
    cplHeld := [], coal := [], msix := [], out := [] }

/-- The state with what `settle` may change erased. -/
def kept (s : State) : State :=
  { s with
    regs := s.regs.filter (fun e => !settleIds.contains e.1), cmd := {}, twin := {}, evtFifo := [], evtHeld := [], evtLost := false,
    cplHeld := [], coal := [], msix := [], out := [], pst := {}, img := {}, time := {} }

/-! ### Plain updates -/

theorem kept1_setF {f : Fld} (h : finishIds.contains f.id = true) (i v : Nat) (s : State) : kept1 (setF f i v s) = kept1 s := by
  have := filter_mput [] (fun k => !finishIds.contains k) s.regs (mput (f.resetAt i) (mget [] s.regs f.id) i (v % 2 ^ f.width)) (i := f.id) (by rw [h]; rfl)
  simp only [kept1, setF]
  rw [this]

theorem kept_setF {f : Fld} (h : settleIds.contains f.id = true) (i v : Nat) (s : State) : kept (setF f i v s) = kept s := by
  have := filter_mput [] (fun k => !settleIds.contains k) s.regs (mput (f.resetAt i) (mget [] s.regs f.id) i (v % 2 ^ f.width)) (i := f.id) (by rw [h]; rfl)
  simp only [kept, setF]
  rw [this]

/-- What completing a command keeps, `settle` may or may not; what it may change, `settle` may too. -/
theorem kept_of_kept1 {s t : State} (h : kept1 t = kept1 s) : kept t = kept s := by
  have hs : ∀ u : State, kept u = { kept1 u with regs := (kept1 u).regs.filter (fun e => !settleIds.contains e.1), pst := {}, img := {}, time := {} } := by
    intro u
    simp only [kept, kept1, List.filter_filter]
    congr 1
    refine List.filter_congr (fun e _ => ?_)
    have hsub : finishIds.contains e.1 = true → settleIds.contains e.1 = true := by
      simp only [settleIds, endFlds, finishIds, List.map_append, List.contains_iff_mem, List.mem_append]
      exact .inl
    cases h1 : settleIds.contains e.1 <;> cases h2 : finishIds.contains e.1 <;> simp_all
  rw [hs t, hs s, h]

section
variable (s : State)

@[simp] theorem kept1_emit (o : Out) : kept1 (emit o s) = kept1 s := rfl
@[simp] theorem kept1_setTwin (g : TwinState → TwinState) : kept1 (setTwin g s) = kept1 s := rfl
@[simp] theorem kept1_setCmd (g : CmdState → CmdState) : kept1 (setCmd g s) = kept1 s := rfl
@[simp] theorem kept_emit (o : Out) : kept (emit o s) = kept s := rfl
@[simp] theorem kept_setTwin (g : TwinState → TwinState) : kept (setTwin g s) = kept s := rfl
@[simp] theorem kept_setCmd (g : CmdState → CmdState) : kept (setCmd g s) = kept s := rfl
@[simp] theorem kept_setPst (g : PstState → PstState) : kept (setPst g s) = kept s := rfl
@[simp] theorem kept_setTime (g : TimeState → TimeState) : kept (setTime g s) = kept s := rfl
@[simp] theorem kept_setImg (g : ImgState → ImgState) : kept (setImg g s) = kept s := rfl

theorem kept_foldl {α : Type} (l : List α) (g : State → α → State) (h : ∀ s a, kept (g s a) = kept s) : kept (l.foldl g s) = kept s := by
  induction l generalizing s with
  | nil => rfl
  | cons a l ih => rw [List.foldl_cons, ih, h]

theorem kept1_foldl {α : Type} (l : List α) (g : State → α → State) (h : ∀ s a, kept1 (g s a) = kept1 s) : kept1 (l.foldl g s) = kept1 s := by
  induction l generalizing s with
  | nil => rfl
  | cons a l ih => rw [List.foldl_cons, ih, h]

/-! ### Completing commands -/

@[simp] theorem kept1_signal (n : Nat) : kept1 (signal n s) = kept1 s := by
  unfold signal; dsimp only; split <;> rfl

theorem kept1_bump32 {c o : Fld} (hc : finishIds.contains c.id = true) (ho : finishIds.contains o.id = true) (i : Nat) :
    kept1 (bump32 c o i s) = kept1 s := by
  unfold bump32; split
  · exact kept1_setF ho _ _ _
  · exact kept1_setF hc _ _ _

theorem kept1_bump32F {c o : Fld} (hc : finishIds.contains c.id = true) (ho : finishIds.contains o.id = true) (b i n : Nat) :
    kept1 (bump32F c o b i n s) = kept1 s := by
  unfold bump32F setBit; split
  · exact kept1_setF hc _ _ _
  · exact (kept1_setF ho _ _ _).trans (kept1_setF hc _ _ _)

@[simp] theorem kept1_postNow (h : HeldEvt) : kept1 (postNow h s) = kept1 s := by
  unfold postNow
  split
  · rfl
  · split
    · rfl
    · split
      · exact kept1_bump32 _ (by decide) (by decide) _
      · dsimp only
        split <;> split <;> simp [kept1_setF (f := HIF_EVT_STATUS.ARMED) (by decide)] <;> rfl

@[simp] theorem kept1_post (a b c : Nat) : kept1 (post a b c s) = kept1 s := by
  unfold post; dsimp only; split <;> first | exact kept1_postNow _ _ | rfl

theorem kept1_raiseAs {fs : List Fld} (h : ∀ f ∈ fs, finishIds.contains f.id = true) (x i : Nat) : kept1 (raiseAs x fs i s) = kept1 s := by
  have key : ∀ (l : List Fld) (s : State), (∀ f ∈ l, finishIds.contains f.id = true) → kept1 (l.foldl (fun s f => setF f i 1 s) s) = kept1 s := by
    intro l
    induction l with
    | nil => intro s _; rfl
    | cons a l ih =>
      intro s hl
      rw [List.foldl_cons, ih _ (fun f hf => hl f (List.mem_cons_of_mem _ hf)), kept1_setF (hl a List.mem_cons_self)]
  have hk := key (fs.filter (fun f => getF f i s == 0)) s (fun f hf => h f (List.mem_filter.mp hf).1)
  unfold raiseAs
  dsimp only
  split
  · exact hk
  · rw [kept1_post, hk]

theorem kept1_raise {fs : List Fld} (h : ∀ f ∈ fs, finishIds.contains f.id = true) (i : Nat) : kept1 (raise fs i s) = kept1 s :=
  kept1_raiseAs s h i i

@[simp] theorem kept1_sendTwin (m : TwinMsg) : kept1 (sendTwin m s) = kept1 s := by
  unfold sendTwin; split <;> rfl

@[simp] theorem kept1_coalesce (r : Nat) : kept1 (coalesce r s) = kept1 s := by
  unfold coalesce; dsimp only; split
  · rw [kept1_signal]; rfl
  · rfl

@[simp] theorem kept1_writeCpl (c : Cpl) : kept1 (writeCpl c s) = kept1 s := by
  unfold writeCpl
  dsimp only
  rw [kept1_coalesce, kept1_setF (by decide), kept1_setF (by decide), kept1_emit]

@[simp] theorem kept1_postCpl (c : Cpl) : kept1 (postCpl c s) = kept1 s := by
  unfold postCpl; split
  · exact kept1_writeCpl _ _
  · rfl

@[simp] theorem kept1_modCmd (u : Nat) (g : OpenCmd → OpenCmd) : kept1 (modCmd u g s) = kept1 s := rfl

@[simp] theorem kept1_countRefused (a b : Nat) : kept1 (countRefused a b s) = kept1 s := by
  unfold countRefused; split
  · exact kept1_bump32 _ (by decide) (by decide) _
  · rfl

@[simp] theorem kept1_finishCmd (c : OpenCmd) : kept1 (finishCmd c s) = kept1 s := by
  have h : ∀ u : State, kept1 (raise [TWN_EVT.SOLO] 0 u) = kept1 u := fun u => kept1_raise u (by decide) 0
  unfold finishCmd
  dsimp only
  split
  · split
    · rw [kept1_sendTwin, kept1_setF (by decide)]; rfl
    · rfl
  · split <;> split <;>
      simp [h, kept1_bump32F (c := TWN_SOLO_CNT.COUNT) (o := TWN_CNT_FLAGS.OVF) _ (by decide) (by decide),
        kept1_bump32 (c := HIF_DROP_CPL.COUNT) (o := HIF_CNT_FLAGS.DROP_OVF) _ (by decide) (by decide)]

@[simp] theorem kept1_finishOne : kept1 (finishOne s) = kept1 s := by
  unfold finishOne; split
  · exact kept1_finishCmd _ _
  · rfl

/-- Completing commands touches nothing but the completion side. -/
@[simp] theorem kept1_finishReady : kept1 (finishReady s) = kept1 s :=
  kept1_foldl s _ _ (fun s _ => kept1_finishOne s)

@[simp] theorem kept_finishReady : kept (finishReady s) = kept s := kept_of_kept1 (kept1_finishReady s)

/-! ### Settling -/

@[simp] theorem kept_post (a b c : Nat) : kept (post a b c s) = kept s := kept_of_kept1 (kept1_post s a b c)
@[simp] theorem kept_sendTwin (m : TwinMsg) : kept (sendTwin m s) = kept s := kept_of_kept1 (kept1_sendTwin s m)

theorem kept_bump32 {c o : Fld} (hc : settleIds.contains c.id = true) (ho : settleIds.contains o.id = true) (i : Nat) :
    kept (bump32 c o i s) = kept s := by
  unfold bump32; split
  · exact kept_setF ho _ _ _
  · exact kept_setF hc _ _ _

theorem kept_bump32F {c o : Fld} (hc : settleIds.contains c.id = true) (ho : settleIds.contains o.id = true) (b i n : Nat) :
    kept (bump32F c o b i n s) = kept s := by
  unfold bump32F setBit; split
  · exact kept_setF hc _ _ _
  · exact (kept_setF ho _ _ _).trans (kept_setF hc _ _ _)

theorem kept_raiseAs {fs : List Fld} (h : ∀ f ∈ fs, settleIds.contains f.id = true) (x i : Nat) : kept (raiseAs x fs i s) = kept s := by
  have key : ∀ (l : List Fld) (s : State), (∀ f ∈ l, settleIds.contains f.id = true) → kept (l.foldl (fun s f => setF f i 1 s) s) = kept s := by
    intro l
    induction l with
    | nil => intro s _; rfl
    | cons a l ih =>
      intro s hl
      rw [List.foldl_cons, ih _ (fun f hf => hl f (List.mem_cons_of_mem _ hf)), kept_setF (hl a List.mem_cons_self)]
  have hk := key (fs.filter (fun f => getF f i s == 0)) s (fun f hf => h f (List.mem_filter.mp hf).1)
  unfold raiseAs
  dsimp only
  split
  · exact hk
  · rw [kept_post, hk]

theorem kept_raise {fs : List Fld} (h : ∀ f ∈ fs, settleIds.contains f.id = true) (i : Nat) : kept (raise fs i s) = kept s :=
  kept_raiseAs s h i i

@[simp] theorem kept_setDiag (k : Nat) : kept (setDiag k s) = kept s := by
  unfold setDiag; rw [kept_raise _ (by decide), kept_setF (by decide), kept_setTwin]

@[simp] theorem kept_wearBy (r p n : Nat) : kept (wearBy r p n s) = kept s := by
  have h1 : ∀ u : State, kept (raiseAs r [PST_EVT.WEAR_WARN] 0 u) = kept u := fun u => kept_raiseAs u (by decide) r 0
  have h2 : ∀ u : State, kept (raiseAs r [PST_EVT.WEAR_LIMIT] 0 u) = kept u := fun u => kept_raiseAs u (by decide) r 0
  unfold wearBy
  dsimp only
  split <;> split <;> (try split) <;>
    simp [h1, h2, kept_setF (f := PST_STATUS.WARN_ROWS) (by decide), kept_setF (f := PST_WEAR_FIRST.VALID) (by decide),
      kept_setF (f := PST_WEAR_FIRST.ROW) (by decide)]

@[simp] theorem kept_storeFail (r : Nat) : kept (storeFail r s) = kept s := by
  unfold storeFail; rw [kept_setDiag, kept_raiseAs _ (by decide), kept_setF (by decide)]

theorem kept_storeRow (r n : Nat) (put : State → State) (h : ∀ u, kept (put u) = kept u) : kept (storeRow r n put s) = kept s := by
  have h1 : ∀ u : State, kept (raiseAs r [PST_EVT.REMAP] 0 u) = kept u := fun u => kept_raiseAs u (by decide) r 0
  unfold storeRow
  split
  · rfl
  · dsimp only
    split
    · simp [h]
    · split <;> simp [h, h1, kept_setF (f := PST_STATUS.SPARES_LEFT) (by decide)]

theorem kept_storePref (put : State → State) (h : ∀ u, kept (put u) = kept u) : kept (storePref put s) = kept s := by
  unfold storePref
  split
  · exact h s
  · exact kept_storeRow s _ _ put h

@[simp] theorem kept_sendAcked (m : TwinMsg) : kept (sendAcked m s) = kept s := by
  unfold sendAcked; rw [kept_sendTwin, kept_setTwin]

@[simp] theorem kept_updateEvidence : kept (updateEvidence s) = kept s := by
  unfold updateEvidence; dsimp only; rw [kept_setTwin, kept_setF (by decide), kept_setF (by decide)]

@[simp] theorem kept_toHoldover : kept (toHoldover s) = kept s := by
  have h (f : Fld) (hf : settleIds.contains f.id = true) (v : Nat) (u : State) : kept (setF f 0 v u) = kept u := kept_setF hf 0 v u
  unfold toHoldover
  split
  · rw [h _ (by decide), h _ (by decide), h _ (by decide)]
  · split
    · rfl
    · rw [kept_bump32 _ (by decide) (by decide), kept_raise _ (by decide), h _ (by decide), h _ (by decide), h _ (by decide)]

@[simp] theorem kept_toTransition (y : Nat) : kept (toTransition y s) = kept s := by
  have h (f : Fld) (hf : settleIds.contains f.id = true) (v : Nat) (u : State) : kept (setF f 0 v u) = kept u := kept_setF hf 0 v u
  unfold toTransition
  dsimp only
  split
  · rw [h _ (by decide), h _ (by decide), kept_setTime]
  · rw [h _ (by decide), h _ (by decide), h _ (by decide), kept_setTime]

@[simp] theorem kept_reselect (b : Bool) : kept (reselect b s) = kept s := by
  have h (f : Fld) (hf : settleIds.contains f.id = true) (v : Nat) (u : State) : kept (setF f 0 v u) = kept u := kept_setF hf 0 v u
  unfold reselect
  split
  · simp
  · split
    · rfl
    · split
      · simp
      · dsimp only
        split
        · split <;> simp
        · split
          · rw [h _ (by decide), h _ (by decide)]
          · simp

@[simp] theorem kept_updateSource : kept (updateSource s) = kept s := by
  have h (f : Fld) (hf : settleIds.contains f.id = true) (v : Nat) (u : State) : kept (setF f 0 v u) = kept u := kept_setF hf 0 v u
  unfold updateSource
  dsimp only
  split <;> split <;> simp only [h TIM_STATUS.UTC_VALID (by decide), h TIM_STATUS.UTC_OFFSET (by decide), h TIM_STATUS.SOURCE (by decide),
    kept_raise (fs := [TIM_EVT.SOURCE]) _ (by decide)]

@[simp] theorem kept_settlePitch : kept (settlePitch s) = kept s := by
  unfold settlePitch; dsimp only; rw [setB, kept_setF (by decide), kept_updateSource, kept_reselect]

@[simp] theorem kept_yieldBarks : kept (yieldBarks s) = kept s := by
  unfold yieldBarks; dsimp only; split <;> split <;> simp

@[simp] theorem kept_leaveLead : kept (leaveLead s) = kept s := by
  unfold leaveLead; rw [kept_finishReady, kept_setCmd]

@[simp] theorem kept_enterRole (r : Nat) : kept (enterRole r s) = kept s := by
  have h (f : Fld) (hf : settleIds.contains f.id = true) (v : Nat) (u : State) : kept (setF f 0 v u) = kept u := kept_setF hf 0 v u
  have hp (f : Fld) (hf : settleIds.contains f.id = true) (v : Nat) (u : State) : kept (storePref (setF f 0 v) u) = kept u :=
    kept_storePref u _ (fun w => kept_setF hf 0 v w)
  have hb (c : Fld) (hc : settleIds.contains c.id = true) (b n : Nat) (u : State) : kept (bump32F c TWN_CNT_FLAGS.OVF b 0 n u) = kept u :=
    kept_bump32F u hc (by decide) b 0 n
  unfold enterRole
  dsimp only
  split
  · rfl
  · split <;> split <;> split <;> split <;> (try split) <;>
      simp only [kept_leaveLead, kept_setTwin, kept_yieldBarks, hp PST_STATUS.LAST_ROLE (by decide), hp TWN_EPOCH.EPOCH (by decide),
        h TWN_STATUS.ROLE (by decide), h TWN_STATUS.CLAIM (by decide), h TWN_MSEQ.MSEQ (by decide), h TWN_STATUS.SYNC (by decide),
        h TWN_STATUS.STALE (by decide), hb TWN_TAKEOVER_CNT.COUNT (by decide), hb TWN_YIELD_CNT.COUNT (by decide),
        kept_raise (fs := [TWN_EVT.ROLE]) _ (by decide)]

@[simp] theorem kept_markStale (b : Bool) : kept (markStale b s) = kept s := by
  unfold markStale
  dsimp only
  split <;> simp only [kept_setTwin, kept_setF (f := TWN_STATUS.SYNC) (by decide), kept_setF (f := TWN_STATUS.STALE) (by decide),
    kept_raise (fs := [TWN_EVT.STALE]) _ (by decide)]

@[simp] theorem kept_tryResync : kept (tryResync s) = kept s := by
  unfold tryResync
  dsimp only
  split <;> simp only [kept_sendAcked, kept_setTwin, kept_setF (f := TWN_STATUS.SYNC) (by decide),
    kept_bump32F (c := TWN_RESYNC_CNT.COUNT) (o := TWN_CNT_FLAGS.OVF) _ (by decide) (by decide)]

@[simp] theorem kept_staleDigest : kept (staleDigest s) = kept s := by
  unfold staleDigest; split <;> simp

@[simp] theorem kept_resyncDone : kept (resyncDone s) = kept s := by
  unfold resyncDone
  dsimp only
  split
  · split
    · rw [kept_markStale, kept_setTwin]
    · split <;> simp only [kept_setTwin, kept_setF (f := TWN_STATUS.SYNC) (by decide), kept_setF (f := TWN_STATUS.STALE) (by decide),
        kept_raise (fs := [TWN_EVT.SYNCED]) _ (by decide)]
  · rfl

@[simp] theorem kept_reloadDone : kept (reloadDone s) = kept s := by
  unfold reloadDone
  split
  · split
    · rfl
    · rw [kept_finishReady]; rfl
  · rfl

/-- `settle` touches nothing but the twin's, the completion's and the reference's side. -/
@[simp] theorem kept_settle : kept (settle s) = kept s := by
  unfold settle
  dsimp only
  split <;> simp

end

/-! ### What is read off -/

theorem getF_of_kept1 {s t : State} (h : kept1 t = kept1 s) {f : Fld} (hf : finishIds.contains f.id = false) (i : Nat) :
    getF f i t = getF f i s := by
  have hk (u : State) : mget [] u.regs f.id = mget [] (kept1 u).regs f.id :=
    (mget_filter_pos [] u.regs (fun k => !finishIds.contains k) (by rw [hf]; rfl)).symm
  simp only [getF, hk t, hk s, h]

theorem getF_of_kept {s t : State} (h : kept t = kept s) {f : Fld} (hf : settleIds.contains f.id = false) (i : Nat) :
    getF f i t = getF f i s := by
  have hk (u : State) : mget [] u.regs f.id = mget [] (kept u).regs f.id :=
    (mget_filter_pos [] u.regs (fun k => !settleIds.contains k) (by rw [hf]; rfl)).symm
  simp only [getF, hk t, hk s, h]

section
variable (s : State)

/-- Completing commands leaves every register field but those of `finishFlds` alone. -/
theorem getF_finishReady {f : Fld} (hf : finishIds.contains f.id = false) (i : Nat) : getF f i (finishReady s) = getF f i s :=
  getF_of_kept1 (kept1_finishReady s) hf i

/-- `settle` leaves every register field but those of `endFlds` alone. -/
theorem getF_settle {f : Fld} (hf : settleIds.contains f.id = false) (i : Nat) : getF f i (settle s) = getF f i s :=
  getF_of_kept (kept_settle s) hf i

/-- The end of a step at `t`, both together. -/
theorem getF_ended {f : Fld} (hf : settleIds.contains f.id = false) (i : Nat) : getF f i (settle (finishReady s)) = getF f i s :=
  getF_of_kept ((kept_settle _).trans (kept_finishReady s)) hf i

@[simp] theorem finishReady_snap : (finishReady s).snap = s.snap := by
  have h := congrArg State.snap (kept1_finishReady s); simpa only [kept1] using h
@[simp] theorem finishReady_now : (finishReady s).now = s.now := by
  have h := congrArg State.now (kept1_finishReady s); simpa only [kept1] using h
@[simp] theorem finishReady_timeOff : (finishReady s).timeOff = s.timeOff := by
  have h := congrArg State.timeOff (kept1_finishReady s); simpa only [kept1] using h
@[simp] theorem finishReady_powered : (finishReady s).powered = s.powered := by
  have h := congrArg State.powered (kept1_finishReady s); simpa only [kept1] using h
@[simp] theorem finishReady_lane : (finishReady s).lane = s.lane := by
  have h := congrArg State.lane (kept1_finishReady s); simpa only [kept1] using h
@[simp] theorem finishReady_xpt : (finishReady s).xpt = s.xpt := by
  have h := congrArg State.xpt (kept1_finishReady s); simpa only [kept1] using h
@[simp] theorem finishReady_cmp : (finishReady s).cmp = s.cmp := by
  have h := congrArg State.cmp (kept1_finishReady s); simpa only [kept1] using h
@[simp] theorem finishReady_aud : (finishReady s).aud = s.aud := by
  have h := congrArg State.aud (kept1_finishReady s); simpa only [kept1] using h
@[simp] theorem finishReady_reed : (finishReady s).reed = s.reed := by
  have h := congrArg State.reed (kept1_finishReady s); simpa only [kept1] using h
@[simp] theorem finishReady_eth : (finishReady s).eth = s.eth := by
  have h := congrArg State.eth (kept1_finishReady s); simpa only [kept1] using h
@[simp] theorem finishReady_dbg : (finishReady s).dbg = s.dbg := by
  have h := congrArg State.dbg (kept1_finishReady s); simpa only [kept1] using h
@[simp] theorem finishReady_sec : (finishReady s).sec = s.sec := by
  have h := congrArg State.sec (kept1_finishReady s); simpa only [kept1] using h
@[simp] theorem finishReady_shf : (finishReady s).shf = s.shf := by
  have h := congrArg State.shf (kept1_finishReady s); simpa only [kept1] using h
@[simp] theorem finishReady_boot : (finishReady s).boot = s.boot := by
  have h := congrArg State.boot (kept1_finishReady s); simpa only [kept1] using h
@[simp] theorem finishReady_mon : (finishReady s).mon = s.mon := by
  have h := congrArg State.mon (kept1_finishReady s); simpa only [kept1] using h
@[simp] theorem finishReady_vault : (finishReady s).vault = s.vault := by
  have h := congrArg State.vault (kept1_finishReady s); simpa only [kept1] using h
@[simp] theorem finishReady_pcie : (finishReady s).pcie = s.pcie := by
  have h := congrArg State.pcie (kept1_finishReady s); simpa only [kept1] using h
@[simp] theorem finishReady_pending : (finishReady s).pending = s.pending := by
  have h := congrArg State.pending (kept1_finishReady s); simpa only [kept1] using h
@[simp] theorem finishReady_hold : (finishReady s).hold = s.hold := by
  have h := congrArg State.hold (kept1_finishReady s); simpa only [kept1] using h
@[simp] theorem finishReady_evtLast : (finishReady s).evtLast = s.evtLast := by
  have h := congrArg State.evtLast (kept1_finishReady s); simpa only [kept1] using h
@[simp] theorem finishReady_freeCtr : (finishReady s).freeCtr = s.freeCtr := by
  have h := congrArg State.freeCtr (kept1_finishReady s); simpa only [kept1] using h
@[simp] theorem finishReady_time : (finishReady s).time = s.time := by
  have h := congrArg State.time (kept1_finishReady s); simpa only [kept1] using h
@[simp] theorem finishReady_pst : (finishReady s).pst = s.pst := by
  have h := congrArg State.pst (kept1_finishReady s); simpa only [kept1] using h
@[simp] theorem finishReady_img : (finishReady s).img = s.img := by
  have h := congrArg State.img (kept1_finishReady s); simpa only [kept1] using h
@[simp] theorem settle_snap : (settle s).snap = s.snap := by
  have h := congrArg State.snap (kept_settle s); simpa only [kept] using h
@[simp] theorem settle_now : (settle s).now = s.now := by
  have h := congrArg State.now (kept_settle s); simpa only [kept] using h
@[simp] theorem settle_timeOff : (settle s).timeOff = s.timeOff := by
  have h := congrArg State.timeOff (kept_settle s); simpa only [kept] using h
@[simp] theorem settle_powered : (settle s).powered = s.powered := by
  have h := congrArg State.powered (kept_settle s); simpa only [kept] using h
@[simp] theorem settle_lane : (settle s).lane = s.lane := by
  have h := congrArg State.lane (kept_settle s); simpa only [kept] using h
@[simp] theorem settle_xpt : (settle s).xpt = s.xpt := by
  have h := congrArg State.xpt (kept_settle s); simpa only [kept] using h
@[simp] theorem settle_cmp : (settle s).cmp = s.cmp := by
  have h := congrArg State.cmp (kept_settle s); simpa only [kept] using h
@[simp] theorem settle_aud : (settle s).aud = s.aud := by
  have h := congrArg State.aud (kept_settle s); simpa only [kept] using h
@[simp] theorem settle_reed : (settle s).reed = s.reed := by
  have h := congrArg State.reed (kept_settle s); simpa only [kept] using h
@[simp] theorem settle_eth : (settle s).eth = s.eth := by
  have h := congrArg State.eth (kept_settle s); simpa only [kept] using h
@[simp] theorem settle_dbg : (settle s).dbg = s.dbg := by
  have h := congrArg State.dbg (kept_settle s); simpa only [kept] using h
@[simp] theorem settle_sec : (settle s).sec = s.sec := by
  have h := congrArg State.sec (kept_settle s); simpa only [kept] using h
@[simp] theorem settle_shf : (settle s).shf = s.shf := by
  have h := congrArg State.shf (kept_settle s); simpa only [kept] using h
@[simp] theorem settle_boot : (settle s).boot = s.boot := by
  have h := congrArg State.boot (kept_settle s); simpa only [kept] using h
@[simp] theorem settle_mon : (settle s).mon = s.mon := by
  have h := congrArg State.mon (kept_settle s); simpa only [kept] using h
@[simp] theorem settle_vault : (settle s).vault = s.vault := by
  have h := congrArg State.vault (kept_settle s); simpa only [kept] using h
@[simp] theorem settle_pcie : (settle s).pcie = s.pcie := by
  have h := congrArg State.pcie (kept_settle s); simpa only [kept] using h
@[simp] theorem settle_pending : (settle s).pending = s.pending := by
  have h := congrArg State.pending (kept_settle s); simpa only [kept] using h
@[simp] theorem settle_hold : (settle s).hold = s.hold := by
  have h := congrArg State.hold (kept_settle s); simpa only [kept] using h
@[simp] theorem settle_evtLast : (settle s).evtLast = s.evtLast := by
  have h := congrArg State.evtLast (kept_settle s); simpa only [kept] using h
@[simp] theorem settle_freeCtr : (settle s).freeCtr = s.freeCtr := by
  have h := congrArg State.freeCtr (kept_settle s); simpa only [kept] using h

end

end Sys2Proof.Machine
end

