-- ==== Sys2Proof/Laws/May.lean ====
section
/-! SUPPORT. Permissions. A mask names register fields (bit n: the field numbered n), parts of the state (bits from 1000 on) and the
few operations that write wholesale (bits from 1100 on). `May M I` says that the property `I` of states survives every plain update
that `M` names. The files that follow prove once, operation by operation, that the operation is made of the updates of its own mask;
a property of states (an invariant, or "nothing outside these fields differs") is then checked against the plain updates only. -/

namespace Sys2Proof.Machine

/-! ### Masks -/

def Part.bit (p : Part) : Nat := 1000 + p.ctorIdx

def mask (fs : List Fld) : Nat := fs.foldl (fun m f => m ||| 2 ^ f.id) 0
def pmask (ps : List Part) : Nat := ps.foldl (fun m p => m ||| 2 ^ p.bit) 0

/-- Whole-store operations: resets by domain, a role with its CLAIM, the dead store, power-good. -/
def domsBit : Nat := 1100
def imageBit : Nat := 1103
def roleBit : Nat := 1101
def deadBit : Nat := 1102
def powerBit : Nat := 1104

/-- The end of a step in which a MODULE reset has been made. -/
def hideBit : Nat := 1105

/-- Every bit of `a` is in `b`. -/
abbrev Sub (a b : Nat) : Prop := a &&& b = a

theorem Sub.testBit {a b : Nat} (h : Sub a b) {i : Nat} (ha : a.testBit i = true) : b.testBit i = true := by
  have := congrArg (fun n => n.testBit i) h
  simp only [Nat.testBit_and, ha, Bool.true_and] at this
  exact this

theorem Sub.trans {a b c : Nat} (h : Sub a b) (k : Sub b c) : Sub a c := by
  apply Nat.eq_of_testBit_eq
  intro i
  rw [Nat.testBit_and]
  cases ha : a.testBit i with
  | false => rfl
  | true => rw [k.testBit (h.testBit ha)]; rfl

theorem Sub.rfl {a : Nat} : Sub a a := Nat.and_self a

theorem Sub.inl {a b c : Nat} (h : Sub a b) : Sub a (b ||| c) := by
  apply Nat.eq_of_testBit_eq
  intro i
  rw [Nat.testBit_and, Nat.testBit_or]
  cases ha : a.testBit i with
  | false => simp
  | true => rw [h.testBit ha]; simp

theorem Sub.inr {a b c : Nat} (h : Sub a c) : Sub a (b ||| c) := by
  rw [Nat.or_comm]; exact h.inl

/-- Entry `n` of a list of fields. -/
def nthFld : List Fld → Nat → Option Fld
  | [], _ => none
  | f :: _, 0 => some f
  | _ :: l, n + 1 => nthFld l n

theorem nthFld_eq (l : List Fld) (n : Nat) : nthFld l n = l[n]? := by
  induction l generalizing n with
  | nil => simp [nthFld]
  | cons f l ih => cases n <;> simp [nthFld, ih]

/-- `f` stands at its number in the register map; looked up in the list of its blocks. -/
def isFld (f : Fld) : Bool :=
  let n := f.id
  decide ((if n < 116 then nthFld fieldsSys n else if n < 244 then nthFld fieldsLane (n - 116) else if n < 403 then nthFld fieldsVideo (n - 244)
    else if n < 631 then nthFld fieldsMedia (n - 403) else if n < 785 then nthFld fieldsTime (n - 631) else nthFld fieldsCore (n - 785)) = some f)

theorem fieldOf_of_isFld {f : Fld} (h : isFld f = true) : fieldOf f.id = some f := by
  have h1 : fieldsSys.length = 116 := by decide +kernel
  have h2 : fieldsLane.length = 128 := by decide +kernel
  have h3 : fieldsVideo.length = 159 := by decide +kernel
  have h4 : fieldsMedia.length = 228 := by decide +kernel
  have h5 : fieldsTime.length = 154 := by decide +kernel
  have h := of_decide_eq_true h
  simp only [nthFld_eq] at h
  generalize f.id = n at *
  unfold fieldOf allFields
  simp only [List.getElem?_append, List.length_append, h1, h2, h3, h4, h5]
  rw [← h]
  clear h
  repeat' split
  all_goals first | with_reducible rfl | omega | (refine congrArg (fun k => _[k]?) ?_; omega)

/-- Field `f` is a field of the register map, and `m` names it. -/
def okB (m : Nat) (f : Fld) : Bool := m.testBit f.id && isFld f

abbrev Ok (m : Nat) (f : Fld) : Prop := okB m f = true

theorem Sub.ok {a b : Nat} (h : Sub a b) {f : Fld} (hf : okB a f = true) : Ok b f := by
  show okB b f = true
  simp only [okB, Bool.and_eq_true] at hf ⊢
  exact ⟨h.testBit hf.1, hf.2⟩

/-- Every field of a list. -/
abbrev OkAll (m : Nat) (fs : List Fld) : Prop := ∀ f ∈ fs, Ok m f

theorem Sub.okAll {a b : Nat} (h : Sub a b) {fs : List Fld} (hf : fs.all (okB a) = true) : OkAll b fs := by
  intro f hm
  exact h.ok (List.all_eq_true.mp hf f hm)

/-! ### Permissions -/

/-- `I` survives every plain update that `M` names. -/
structure May (M : Nat) (I : State → Prop) : Prop where
  fld : ∀ {f : Fld} {i v : Nat} {s : State}, Ok M f → I s → I (setF f i v s)
  clear : ∀ {f : Fld} {s : State}, Ok M f → I s → I (clearFld f s)
  copy : ∀ {f : Fld} {old s : State}, Ok M f → I old → I s → I (putCol f (colOf f old) s)
  column : ∀ {f : Fld} {vs : List Nat} {s : State}, Ok M f → I s → I (setColumn f vs s)
  coefs : ∀ {ps : List ReedProg} {s : State}, Ok M REE_COEF.COEF → I s → I (setCoefs ps s)
  doms : ∀ {s : State}, M.testBit domsBit = true → I s → I (resetDomains [.module, .image] s)
  image : ∀ {s : State}, M.testBit imageBit = true → I s → I (resetDomains [.image] s)
  role : ∀ {r : Nat} {s : State}, M.testBit roleBit = true → r < 4 → I s →
    I (setF TWN_STATUS.CLAIM 0 (b2n (r == roleLead)) (setF TWN_STATUS.ROLE 0 r s))
  dead : ∀ {s : State}, M.testBit deadBit = true → I s → I (deadStore s)
  power : ∀ {t : Nat} {b c : Bool} {s : State}, M.testBit powerBit = true → I s → I (powerOn t b c s)
  clock : ∀ {t : Nat} {s : State}, M.testBit (Part.now).bit = true → I s → I (advance t s)
  snap : ∀ {x} {s : State}, M.testBit (Part.snap).bit = true → I s → I { s with snap := x }
  timeOff : ∀ {x} {s : State}, M.testBit (Part.timeOff).bit = true → I s → I { s with timeOff := x }
  powered : ∀ {x} {s : State}, M.testBit (Part.powered).bit = true → I s → I { s with powered := x }
  lane : ∀ {x} {s : State}, M.testBit (Part.lane).bit = true → I s → I { s with lane := x }
  time : ∀ {x} {s : State}, M.testBit (Part.time).bit = true → I s → I { s with time := x }
  xpt : ∀ {x} {s : State}, M.testBit (Part.xpt).bit = true → I s → I { s with xpt := x }
  cmp : ∀ {x} {s : State}, M.testBit (Part.cmp).bit = true → I s → I { s with cmp := x }
  aud : ∀ {x} {s : State}, M.testBit (Part.aud).bit = true → I s → I { s with aud := x }
  reed : ∀ {x} {s : State}, M.testBit (Part.reed).bit = true → I s → I { s with reed := x }
  eth : ∀ {x} {s : State}, M.testBit (Part.eth).bit = true → I s → I { s with eth := x }
  dbg : ∀ {x} {s : State}, M.testBit (Part.dbg).bit = true → I s → I { s with dbg := x }
  cmd : ∀ {x} {s : State}, M.testBit (Part.cmd).bit = true → I s → I { s with cmd := x }
  twin : ∀ {x} {s : State}, M.testBit (Part.twin).bit = true → I s → I { s with twin := x }
  pst : ∀ {x} {s : State}, M.testBit (Part.pst).bit = true → I s → I { s with pst := x }
  sec : ∀ {x} {s : State}, M.testBit (Part.sec).bit = true → I s → I { s with sec := x }
  shf : ∀ {x} {s : State}, M.testBit (Part.shf).bit = true → I s → I { s with shf := x }
  img : ∀ {x} {s : State}, M.testBit (Part.img).bit = true → I s → I { s with img := x }
  boot : ∀ {x} {s : State}, M.testBit (Part.boot).bit = true → I s → I { s with boot := x }
  mon : ∀ {x} {s : State}, M.testBit (Part.mon).bit = true → I s → I { s with mon := x }
  unhold : ∀ {x} {s : State}, x = .plain ∨ x = .reset → M.testBit (Part.hold).bit = true → I s → I { s with hold := x }
  evtFifo : ∀ {x} {s : State}, M.testBit (Part.evtFifo).bit = true → I s → I { s with evtFifo := x }
  evtHeld : ∀ {x} {s : State}, M.testBit (Part.evtHeld).bit = true → I s → I { s with evtHeld := x }
  evtLost : ∀ {x} {s : State}, M.testBit (Part.evtLost).bit = true → I s → I { s with evtLost := x }
  evtLast : ∀ {x} {s : State}, M.testBit (Part.evtLast).bit = true → I s → I { s with evtLast := x }
  cplHeld : ∀ {x} {s : State}, M.testBit (Part.cplHeld).bit = true → I s → I { s with cplHeld := x }
  coal : ∀ {x} {s : State}, M.testBit (Part.coal).bit = true → I s → I { s with coal := x }
  msix : ∀ {x} {s : State}, M.testBit (Part.msix).bit = true → I s → I { s with msix := x }
  pcie : ∀ {x} {s : State}, M.testBit (Part.pcie).bit = true → I s → I { s with pcie := x }
  out : ∀ {x} {s : State}, M.testBit (Part.out).bit = true → I s → I { s with out := x }
  freeCtr : ∀ {x} {s : State}, M.testBit (Part.freeCtr).bit = true → I s → I { s with freeCtr := x }

/-- Within an operation the running blocks' fields stop showing other values, or a MODULE reset is noted: no operation hides them itself. -/
theorem May.hold {M : Nat} {I : State → Prop} (h : May M I) {x} {s : State} (hb : M.testBit (Part.hold).bit = true) (hs : I s)
    (hx : x = .plain ∨ x = .reset := by simp) : I { s with hold := x } := h.unhold hx hb hs

/-- `I` survives a step of running blocks whose work is made of what `M` names, and where `M` names it the end of a step in which a
MODULE reset has been made. -/
structure Run (M : Nat) (I : State → Prop) : Prop where
  run : ∀ {f : State → State} {s : State}, (∀ J : State → Prop, May M J → ∀ s, J s → J (f s)) → I s → I (running f s)
  hide : M.testBit hideBit = true → ∀ {s : State}, I s → I (hideRunning s)

section
variable {M : Nat} {I : State → Prop}

/-- The outcome is a next state of which `I` holds. -/
def Ans (I : State → Prop) (o : Host.Outcome State Fault Refusal) : Prop := ∃ u, o = .next u ∧ I u

theorem may_ite {c : Prop} [Decidable c] {a b : State} (ha : I a) (hb : I b) : I (if c then a else b) := by
  split
  · exact ha
  · exact hb

theorem may_ite2 {α : Type} {c : Prop} [Decidable c] {a b : α × State} (ha : I a.2) (hb : I b.2) : I (if c then a else b).2 := by
  split
  · exact ha
  · exact hb

theorem foldl_may {α : Type} {l : List α} {f : State → α → State} {s : State} (hf : ∀ s a, I s → I (f s a)) (hs : I s) :
    I (l.foldl f s) := by
  induction l generalizing s with
  | nil => exact hs
  | cons a l ih => exact ih (hf s a hs)

theorem foldl_mem_may {α : Type} {l : List α} {f : State → α → State} {s : State} (hf : ∀ a ∈ l, ∀ s, I s → I (f s a)) (hs : I s) :
    I (l.foldl f s) := by
  induction l generalizing s with
  | nil => exact hs
  | cons a l ih => exact ih (fun b hb => hf b (List.mem_cons_of_mem _ hb)) (hf a List.mem_cons_self s hs)

/-! ### The plain operations -/

def setF_m : Nat := 0
theorem setF_may (h : May M I) (_ : Sub setF_m M) {f : Fld} (hf : Ok M f) {i} {v} {s} (hs : I s) : I (setF f i v s) := h.fld hf hs

def setB_m : Nat := 0
theorem setB_may (h : May M I) (_ : Sub setB_m M) {f : Fld} (hf : Ok M f) {i} {b} {s} (hs : I s) : I (setB f i b s) := h.fld hf hs

def clearFld_m : Nat := 0
theorem clearFld_may (h : May M I) (_ : Sub clearFld_m M) {f : Fld} (hf : Ok M f) {s} (hs : I s) : I (clearFld f s) := h.clear hf hs

def resetF_m : Nat := 0
theorem resetF_may (h : May M I) (_ : Sub resetF_m M) {f : Fld} (hf : Ok M f) {i} {s} (hs : I s) : I (resetF f i s) := h.fld hf hs

def resetFs_m : Nat := 0
theorem resetFs_may (h : May M I) (_ : Sub resetFs_m M) {fs : List Fld} (hf : OkAll M fs) {i} {s} (hs : I s) : I (resetFs fs i s) :=
  foldl_mem_may (fun f hm _ hs => h.fld (hf f hm) hs) hs

def clearFlds_m : Nat := 0
theorem clearFlds_may (h : May M I) (_ : Sub clearFlds_m M) {fs : List Fld} (hf : OkAll M fs) {s} (hs : I s) : I (clearFlds fs s) :=
  foldl_mem_may (fun f hm _ hs => h.clear (hf f hm) hs) hs

def forEach_m : Nat := 0
theorem forEach_may {α : Type} (_ : May M I) (_ : Sub forEach_m M) {l : List α} {f : α → State → State} (hf : ∀ a s, I s → I (f a s)) {s}
    (hs : I s) : I (forEach l f s) := foldl_may (fun s a hs => hf a s hs) hs

def when__m : Nat := 0
theorem when__may (_ : May M I) (_ : Sub when__m M) {c} {f : State → State} (hf : ∀ s, I s → I (f s)) {s} (hs : I s) : I (when_ c f s) :=
  may_ite (hf s hs) hs

def resetDomains_m : Nat := 2 ^ imageBit
theorem resetDomains_may (h : May M I) (hm : Sub resetDomains_m M) {s} (hs : I s) : I (resetDomains [.image] s) :=
  h.image (hm.testBit (by decide +kernel)) hs

def advance_m : Nat := pmask [.now]
theorem advance_may (h : May M I) (hm : Sub advance_m M) {t} {s} (hs : I s) : I (advance t s) := h.clock (hm.testBit (by decide +kernel)) hs

def bump32By_m : Nat := 0
theorem bump32By_may (h : May M I) (_ : Sub bump32By_m M) {c o : Fld} (hc : Ok M c) (ho : Ok M o) {i} {n} {s} (hs : I s) :
    I (bump32By c o i n s) := may_ite (h.fld hc hs) (h.fld ho (h.fld hc hs))

def keepFs_m : Nat := 0
theorem keepFs_may (h : May M I) (_ : Sub keepFs_m M) {fs : List Fld} (hf : OkAll M fs) {i} {old} (_ : I old) {s} (hs : I s) :
    I (keepFs fs i old s) := foldl_mem_may (fun f hm _ hs => h.fld (hf f hm) hs) hs

def setWords32_m : Nat := 0
theorem setWords32_may (h : May M I) (_ : Sub setWords32_m M) {fs : List Fld} (hf : OkAll M fs) {ws} {s} (hs : I s) :
    I (setWords32 fs ws s) := foldl_mem_may (fun f hm _ hs => h.column (hf f hm) hs) hs

def setSome_m : Nat := 0
theorem setSome_may (h : May M I) (_ : Sub setSome_m M) {fs : List Fld} (hf : OkAll M fs) {i} {w} {s} (hs : I s) :
    I (setSome fs i w s) := foldl_mem_may (fun f hm _ hs => h.fld (hf f hm) hs) hs

def setColumn_m : Nat := 0
theorem setColumn_may (h : May M I) (_ : Sub setColumn_m M) {f : Fld} (hf : Ok M f) {vs} {s} (hs : I s) : I (setColumn f vs s) := h.column hf hs

def setCoefs_m : Nat := mask [REE_COEF.COEF]
theorem setCoefs_may (h : May M I) (hm : Sub setCoefs_m M) {ps} {s} (hs : I s) : I (setCoefs ps s) := h.coefs (hm.ok (by decide +kernel)) hs

def resetExcept_m : Nat := 2 ^ domsBit
theorem resetExcept_may (h : May M I) (hm : Sub resetExcept_m M) {keep : List Fld} (hf : OkAll M keep) {s} (hs : I s) :
    I (resetExcept [.module, .image] keep s) :=
  foldl_mem_may (fun f hm' _ hs' => h.copy (hf f hm') hs hs') (h.doms (hm.testBit (by decide +kernel)) hs)

def deadStore_m : Nat := 2 ^ deadBit
theorem deadStore_may (h : May M I) (hm : Sub deadStore_m M) {s} (hs : I s) : I (deadStore s) := h.dead (hm.testBit (by decide +kernel)) hs

def powerOn_m : Nat := 2 ^ powerBit
theorem powerOn_may (h : May M I) (hm : Sub powerOn_m M) {t} {b} {c} {s} (hs : I s) : I (powerOn t b c s) :=
  h.power (hm.testBit (by decide +kernel)) hs

def setTwin_m : Nat := pmask [.twin]
theorem setTwin_may (h : May M I) (hm : Sub setTwin_m M) {g} {s} (hs : I s) : I (setTwin g s) := h.twin (hm.testBit (by decide +kernel)) hs

def setPst_m : Nat := pmask [.pst]
theorem setPst_may (h : May M I) (hm : Sub setPst_m M) {g} {s} (hs : I s) : I (setPst g s) := h.pst (hm.testBit (by decide +kernel)) hs

def setSec_m : Nat := pmask [.sec]
theorem setSec_may (h : May M I) (hm : Sub setSec_m M) {g} {s} (hs : I s) : I (setSec g s) := h.sec (hm.testBit (by decide +kernel)) hs

def setCmd_m : Nat := pmask [.cmd]
theorem setCmd_may (h : May M I) (hm : Sub setCmd_m M) {g} {s} (hs : I s) : I (setCmd g s) := h.cmd (hm.testBit (by decide +kernel)) hs

def setXpt_m : Nat := pmask [.xpt]
theorem setXpt_may (h : May M I) (hm : Sub setXpt_m M) {g} {s} (hs : I s) : I (setXpt g s) := h.xpt (hm.testBit (by decide +kernel)) hs

def setShf_m : Nat := pmask [.shf]
theorem setShf_may (h : May M I) (hm : Sub setShf_m M) {g} {s} (hs : I s) : I (setShf g s) := h.shf (hm.testBit (by decide +kernel)) hs

def setCmp_m : Nat := pmask [.cmp]
theorem setCmp_may (h : May M I) (hm : Sub setCmp_m M) {g} {s} (hs : I s) : I (setCmp g s) := h.cmp (hm.testBit (by decide +kernel)) hs

def setAud_m : Nat := pmask [.aud]
theorem setAud_may (h : May M I) (hm : Sub setAud_m M) {g} {s} (hs : I s) : I (setAud g s) := h.aud (hm.testBit (by decide +kernel)) hs

def setReedS_m : Nat := pmask [.reed]
theorem setReedS_may (h : May M I) (hm : Sub setReedS_m M) {g} {s} (hs : I s) : I (setReedS g s) := h.reed (hm.testBit (by decide +kernel)) hs

def setEth_m : Nat := pmask [.eth]
theorem setEth_may (h : May M I) (hm : Sub setEth_m M) {g} {s} (hs : I s) : I (setEth g s) := h.eth (hm.testBit (by decide +kernel)) hs

def setTime_m : Nat := pmask [.time]
theorem setTime_may (h : May M I) (hm : Sub setTime_m M) {g} {s} (hs : I s) : I (setTime g s) := h.time (hm.testBit (by decide +kernel)) hs

def setImg_m : Nat := pmask [.img]
theorem setImg_may (h : May M I) (hm : Sub setImg_m M) {g} {s} (hs : I s) : I (setImg g s) := h.img (hm.testBit (by decide +kernel)) hs

def setBoot_m : Nat := pmask [.boot]
theorem setBoot_may (h : May M I) (hm : Sub setBoot_m M) {g} {s} (hs : I s) : I (setBoot g s) := h.boot (hm.testBit (by decide +kernel)) hs

def setDbg_m : Nat := pmask [.dbg]
theorem setDbg_may (h : May M I) (hm : Sub setDbg_m M) {g} {s} (hs : I s) : I (setDbg g s) := h.dbg (hm.testBit (by decide +kernel)) hs

def setMon_m : Nat := pmask [.mon]
theorem setMon_may (h : May M I) (hm : Sub setMon_m M) {g} {s} (hs : I s) : I (setMon g s) := h.mon (hm.testBit (by decide +kernel)) hs

def drawn_m : Nat := pmask [.freeCtr]
theorem drawn_may (h : May M I) (hm : Sub drawn_m M) {s} (hs : I s) : I (drawn s) := h.freeCtr (hm.testBit (by decide +kernel)) hs

def emit_m : Nat := pmask [.out]
theorem emit_may (h : May M I) (hm : Sub emit_m M) {o} {s} (hs : I s) : I (emit o s) := h.out (hm.testBit (by decide +kernel)) hs

def running_m : Nat := 0
theorem running_may (_ : May M I) (_ : Sub running_m M) (hr : Run M I) {f : State → State}
    (hf : ∀ J : State → Prop, May M J → ∀ s, J s → J (f s)) {s} (hs : I s) : I (running f s) := hr.run hf hs

def hideRunning_m : Nat := 2 ^ hideBit
theorem hideRunning_may (_ : May M I) (hm : Sub hideRunning_m M) (hr : Run M I) {s} (hs : I s) : I (hideRunning s) :=
  hr.hide (hm.testBit (by decide +kernel)) hs

end

end Sys2Proof.Machine
end

