-- ==== Sys2Proof/Laws/MayBase.lean ====
section
/-! SUPPORT. Permissions of the shared operations: each is made of the plain updates that its mask `…_m` names. -/

namespace Sys2Proof.Machine

set_option Elab.async false
set_option linter.unusedVariables false

section
variable {M : Nat} {I : State → Prop}

def bump32_m : Nat := setF_m
theorem bump32_may (h : May M I) (hm : Sub bump32_m M) {b0 : Fld} (hb0 : Ok M b0) {b1 : Fld} (hb1 : Ok M b1) {b2} {b3} (hb3 : I b3) : I (bump32 b0 b1 b2 b3) := by
  unfold bump32
  refine may_ite ?_ ?_
  · refine setF_may h (Sub.rfl.trans hm) hb1 hb3
  · refine setF_may h (Sub.rfl.trans hm) hb0 hb3

def bump64_m : Nat := setF_m
theorem bump64_may (h : May M I) (hm : Sub bump64_m M) {b0 : Fld} (hb0 : Ok M b0) {b1 : Fld} (hb1 : Ok M b1) {b2} {b3} {b4} (hb4 : I b4) : I (bump64 b0 b1 b2 b3 b4) := by
  unfold bump64
  refine may_ite ?_ ?_
  · refine setF_may h (Sub.rfl.trans hm) hb0 hb4
  · refine setF_may h (Sub.rfl.trans hm) hb1 ?_
    · refine setF_may h (Sub.rfl.trans hm) hb0 hb4

def setBit_m : Nat := setF_m
theorem setBit_may (h : May M I) (hm : Sub setBit_m M) {b0 : Fld} (hb0 : Ok M b0) {b1} {b2} {b3} (hb3 : I b3) : I (setBit b0 b1 b2 b3) := by
  unfold setBit
  refine setF_may h (Sub.rfl.trans hm) hb0 hb3

def bump32F_m : Nat := setF_m ||| setBit_m
theorem bump32F_may (h : May M I) (hm : Sub bump32F_m M) {b0 : Fld} (hb0 : Ok M b0) {b1 : Fld} (hb1 : Ok M b1) {b2} {b3} {b4} {b5} (hb5 : I b5) : I (bump32F b0 b1 b2 b3 b4 b5) := by
  unfold bump32F
  refine may_ite ?_ ?_
  · refine setF_may h (Sub.rfl.inl.trans hm) hb0 hb5
  · refine setBit_may h (Sub.rfl.inr.trans hm) hb1 ?_
    · refine setF_may h (Sub.rfl.inl.trans hm) hb0 hb5

def bump64F_m : Nat := setF_m ||| setBit_m
theorem bump64F_may (h : May M I) (hm : Sub bump64F_m M) {b0 : Fld} (hb0 : Ok M b0) {b1 : Fld} (hb1 : Ok M b1) {b2} {b3} {b4} {b5} (hb5 : I b5) : I (bump64F b0 b1 b2 b3 b4 b5) := by
  unfold bump64F
  refine may_ite ?_ ?_
  · refine setF_may h (Sub.rfl.inl.trans hm) hb0 hb5
  · refine setBit_may h (Sub.rfl.inr.trans hm) hb1 ?_
    · refine setF_may h (Sub.rfl.inl.trans hm) hb0 hb5

def setDom_m : Nat := mask [PWR_DOM.STATE] ||| setF_m
theorem setDom_may (h : May M I) (hm : Sub setDom_m M) {b0} {b1} {b2} (hb2 : I b2) : I (setDom b0 b1 b2) := by
  have ho := (Sub.rfl.inl.trans hm)
  unfold setDom
  refine setF_may h (Sub.rfl.inr.trans hm) (ho.ok (by decide +kernel)) hb2

def signal_m : Nat := pmask [.msix] ||| emit_m
theorem signal_may (h : May M I) (hm : Sub signal_m M) {b0} {b1} (hb1 : I b1) : I (signal b0 b1) := by
  have hp := (Sub.rfl.inl.trans hm)
  unfold signal
  extract_lets -merge -useContext x0 x1
  refine may_ite ?_ ?_
  · exact h.msix (hp.testBit (by decide +kernel)) (hb1)
  · refine emit_may h (Sub.rfl.inr.trans hm) hb1

def postNow_m : Nat := mask [HIF_EVT_LOST.COUNT, HIF_CNT_FLAGS.LOST_OVF, HIF_EVT_STATUS.ARMED] ||| pmask [.evtFifo, .evtLost] ||| signal_m ||| bump32_m ||| setF_m
theorem postNow_may (h : May M I) (hm : Sub postNow_m M) {b0} {b1} (hb1 : I b1) : I (postNow b0 b1) := by
  have ho := (Sub.rfl.inl.inl.inl.inl.trans hm)
  have hp := (Sub.rfl.inr.inl.inl.inl.trans hm)
  unfold postNow
  extract_lets -merge -useContext x0 x1 x2
  have hx1 : I x1 := by
    unfold x1
    have k := h.evtLost (x := false) (hp.testBit (by decide +kernel)) hb1
    exact h.evtFifo (x := b1.evtFifo ++ [x0]) (hp.testBit (by decide +kernel)) k
  clear_value x1
  have hx2 : I x2 := by
    unfold x2
    refine may_ite ?_ ?_
    · refine signal_may h (Sub.rfl.inr.inl.inl.trans hm) hx1
    · exact hx1
  clear_value x2
  refine may_ite ?_ ?_
  · exact hb1
  · refine may_ite ?_ ?_
    · exact h.evtFifo (hp.testBit (by decide +kernel)) (hb1)
    · refine may_ite ?_ ?_
      · refine bump32_may h (Sub.rfl.inr.inl.trans hm) (ho.ok (by decide +kernel)) (ho.ok (by decide +kernel)) ?_
        · exact h.evtLost (hp.testBit (by decide +kernel)) (hb1)
      · refine may_ite ?_ ?_
        · refine signal_may h (Sub.rfl.inr.inl.inl.trans hm) ?_
          · refine setF_may h (Sub.rfl.inr.trans hm) (ho.ok (by decide +kernel)) hx2
        · exact hx2

def post_m : Nat := pmask [.evtHeld] ||| postNow_m
theorem post_may (h : May M I) (hm : Sub post_m M) {b0} {b1} {b2} {b3} (hb3 : I b3) : I (post b0 b1 b2 b3) := by
  have hp := (Sub.rfl.inl.trans hm)
  unfold post
  extract_lets -merge -useContext x0
  refine may_ite ?_ ?_
  · refine postNow_may h (Sub.rfl.inr.trans hm) hb3
  · exact h.evtHeld (hp.testBit (by decide +kernel)) (hb3)

def flushEvents_m : Nat := pmask [.evtHeld] ||| forEach_m ||| postNow_m
theorem flushEvents_may (h : May M I) (hm : Sub flushEvents_m M) {b0} (hb0 : I b0) : I (flushEvents b0) := by
  have hp := (Sub.rfl.inl.inl.trans hm)
  unfold flushEvents
  extract_lets -merge -useContext x0
  refine forEach_may h (Sub.rfl.inr.inl.trans hm) (fun a1 a2 ha2 => ?_) ?_
  · refine postNow_may h (Sub.rfl.inr.trans hm) ha2
  · exact h.evtHeld (hp.testBit (by decide +kernel)) (hb0)

def raiseAs_m : Nat := setF_m ||| post_m
theorem raiseAs_may (h : May M I) (hm : Sub raiseAs_m M) {b0} {b1 : List Fld} (hb1 : OkAll M b1) {b2} {b3} (hb3 : I b3) : I (raiseAs b0 b1 b2 b3) := by
  unfold raiseAs
  dsimp only
  have hx : I ((b1.filter (fun f => getF f b2 b3 == 0)).foldl (fun s f => setF f b2 1 s) b3) :=
    foldl_mem_may (fun f hf s hs => h.fld (hb1 f (List.mem_filter.mp hf).1) hs) hb3
  split
  · exact hx
  · exact post_may h (Sub.rfl.inr.trans hm) hx

def raise_m : Nat := raiseAs_m
theorem raise_may (h : May M I) (hm : Sub raise_m M) {b0 : List Fld} (hb0 : OkAll M b0) {b1} {b2} (hb2 : I b2) : I (raise b0 b1 b2) := by
  unfold raise
  refine raiseAs_may h (Sub.rfl.trans hm) hb0 hb2

def setPlane_m : Nat := pmask [.time]
theorem setPlane_may (h : May M I) (hm : Sub setPlane_m M) {b0} {b1} {b2} (hb2 : I b2) : I (setPlane b0 b1 b2) := by
  have hp := (Sub.rfl.trans hm)
  unfold setPlane
  extract_lets -merge -useContext x0
  exact h.time (hp.testBit (by decide +kernel)) (hb2)

def setDiag_m : Nat := mask [TWN_EVT.DIAG_FAIL, TWN_STATUS.FIT] ||| raise_m ||| setF_m ||| setTwin_m
theorem setDiag_may (h : May M I) (hm : Sub setDiag_m M) {b0} {b1} (hb1 : I b1) : I (setDiag b0 b1) := by
  have ho := (Sub.rfl.inl.inl.inl.trans hm)
  unfold setDiag
  refine raise_may h (Sub.rfl.inr.inl.inl.trans hm) (ho.okAll (by decide +kernel)) ?_
  · refine setF_may h (Sub.rfl.inr.inl.trans hm) (ho.ok (by decide +kernel)) ?_
    · refine setTwin_may h (Sub.rfl.inr.trans hm) hb1

def clearDiag_m : Nat := mask [TWN_STATUS.FIT] ||| setTwin_m ||| setF_m
theorem clearDiag_may (h : May M I) (hm : Sub clearDiag_m M) {b0} {b1} (hb1 : I b1) : I (clearDiag b0 b1) := by
  have ho := (Sub.rfl.inl.inl.trans hm)
  unfold clearDiag
  extract_lets -merge -useContext x0
  have hx0 : I x0 := by
    unfold x0
    refine setTwin_may h (Sub.rfl.inr.inl.trans hm) hb1
  clear_value x0
  refine may_ite ?_ ?_
  · refine setF_may h (Sub.rfl.inr.trans hm) (ho.ok (by decide +kernel)) hx0
  · exact hx0

def wearBy_m : Nat := mask [PST_STATUS.WARN_ROWS, PST_EVT.WEAR_WARN, PST_WEAR_FIRST.ROW, PST_WEAR_FIRST.VALID, PST_EVT.WEAR_LIMIT] ||| setPst_m ||| setF_m ||| raiseAs_m
theorem wearBy_may (h : May M I) (hm : Sub wearBy_m M) {b0} {b1} {b2} {b3} (hb3 : I b3) : I (wearBy b0 b1 b2 b3) := by
  have ho := (Sub.rfl.inl.inl.inl.trans hm)
  unfold wearBy
  extract_lets -merge -useContext x0 x1 x2 x3
  have hx1 : I x1 := by
    unfold x1
    refine setPst_may h (Sub.rfl.inr.inl.inl.trans hm) hb3
  clear_value x1
  have hx2 : I x2 := by
    unfold x2
    refine setF_may h (Sub.rfl.inr.inl.trans hm) (ho.ok (by decide +kernel)) ?_
    · refine raiseAs_may h (Sub.rfl.inr.trans hm) (ho.okAll (by decide +kernel)) hx1
  clear_value x2
  have hx3 : I x3 := by
    unfold x3
    refine may_ite ?_ ?_
    · refine may_ite ?_ ?_
      · exact hx2
      · refine setF_may h (Sub.rfl.inr.inl.trans hm) (ho.ok (by decide +kernel)) ?_
        · refine setF_may h (Sub.rfl.inr.inl.trans hm) (ho.ok (by decide +kernel)) hx2
    · exact hx1
  clear_value x3
  refine may_ite ?_ ?_
  · refine raiseAs_may h (Sub.rfl.inr.trans hm) (ho.okAll (by decide +kernel)) hx3
  · exact hx3

def withBad_m : Nat := setPst_m
theorem withBad_may (h : May M I) (hm : Sub withBad_m M) {b0} {b1} (hb1 : ∀ a0, I a0 → I (b1 a0)) {b2} (hb2 : I b2) : I (withBad b0 b1 b2) := by
  unfold withBad
  refine hb1 _ ?_
  · refine setPst_may h (Sub.rfl.trans hm) hb2

def storeFail_m : Nat := mask [PST_EVT.STORE_FAIL, PST_STATUS.STORE_FAIL] ||| setDiag_m ||| raiseAs_m ||| setF_m
theorem storeFail_may (h : May M I) (hm : Sub storeFail_m M) {b0} {b1} (hb1 : I b1) : I (storeFail b0 b1) := by
  have ho := (Sub.rfl.inl.inl.inl.trans hm)
  unfold storeFail
  refine setDiag_may h (Sub.rfl.inr.inl.inl.trans hm) ?_
  · refine raiseAs_may h (Sub.rfl.inr.inl.trans hm) (ho.okAll (by decide +kernel)) ?_
    · refine setF_may h (Sub.rfl.inr.trans hm) (ho.ok (by decide +kernel)) hb1

def storeRow_m : Nat := mask [PST_EVT.REMAP, PST_STATUS.SPARES_LEFT] ||| wearBy_m ||| raiseAs_m ||| setF_m ||| setPst_m ||| storeFail_m
theorem storeRow_may (h : May M I) (hm : Sub storeRow_m M) {b0} {b1} {b2} (hb2 : ∀ a0, I a0 → I (b2 a0)) {b3} (hb3 : I b3) : I (storeRow b0 b1 b2 b3) := by
  have ho := (Sub.rfl.inl.inl.inl.inl.inl.trans hm)
  unfold storeRow
  extract_lets -merge -useContext x0 x1 x2
  have hx1 : I x1 := by
    unfold x1
    refine wearBy_may h (Sub.rfl.inr.inl.inl.inl.inl.trans hm) hb3
  clear_value x1
  refine may_ite ?_ ?_
  · exact hb3
  · refine may_ite ?_ ?_
    · refine hb2 _ hx1
    · refine may_ite ?_ ?_
      · refine hb2 _ ?_
        · refine raiseAs_may h (Sub.rfl.inr.inl.inl.inl.trans hm) (ho.okAll (by decide +kernel)) ?_
          · refine setF_may h (Sub.rfl.inr.inl.inl.trans hm) (ho.ok (by decide +kernel)) ?_
            · refine setPst_may h (Sub.rfl.inr.inl.trans hm) hx1
      · refine storeFail_may h (Sub.rfl.inr.trans hm) ?_
        · refine setF_may h (Sub.rfl.inr.inl.inl.trans hm) (ho.ok (by decide +kernel)) ?_
          · refine setPst_may h (Sub.rfl.inr.inl.trans hm) hx1

def storeRoute_m : Nat := mask [PST_ROUTE.SOURCE] ||| storeRow_m ||| setF_m
theorem storeRoute_may (h : May M I) (hm : Sub storeRoute_m M) {b0} {b1} {b2} (hb2 : I b2) : I (storeRoute b0 b1 b2) := by
  have ho := (Sub.rfl.inl.inl.trans hm)
  unfold storeRoute
  refine may_ite ?_ ?_
  · exact hb2
  · refine storeRow_may h (Sub.rfl.inr.inl.trans hm) (fun a0 ha0 => ?_) hb2
    · refine setF_may h (Sub.rfl.inr.trans hm) (ho.ok (by decide +kernel)) ha0

def storePref_m : Nat := storeRow_m
theorem storePref_may (h : May M I) (hm : Sub storePref_m M) {b0} (hb0 : ∀ a0, I a0 → I (b0 a0)) {b1} (hb1 : I b1) : I (storePref b0 b1) := by
  unfold storePref
  refine may_ite ?_ ?_
  · refine hb0 _ hb1
  · refine storeRow_may h (Sub.rfl.trans hm) hb0 hb1

def correctedReads_m : Nat := mask [PST_CORR.COUNT, PST_EVT.CORR_OVF] ||| bump32By_m ||| storeRow_m
theorem correctedReads_may (h : May M I) (hm : Sub correctedReads_m M) {b0} {b1} {b2} (hb2 : I b2) : I (correctedReads b0 b1 b2) := by
  have ho := (Sub.rfl.inl.inl.trans hm)
  unfold correctedReads
  refine bump32By_may h (Sub.rfl.inr.inl.trans hm) (ho.ok (by decide +kernel)) (ho.ok (by decide +kernel)) ?_
  · refine storeRow_may h (Sub.rfl.inr.trans hm) (fun a0 ha0 => ?_) hb2
    · exact ha0

def rowError_m : Nat := mask [PST_EVT.ROW_ERR] ||| setPst_m ||| raiseAs_m
theorem rowError_may (h : May M I) (hm : Sub rowError_m M) {b0} {b1} (hb1 : I b1) : I (rowError b0 b1) := by
  have ho := (Sub.rfl.inl.inl.trans hm)
  unfold rowError
  refine setPst_may h (Sub.rfl.inr.inl.trans hm) ?_
  · refine raiseAs_may h (Sub.rfl.inr.trans hm) (ho.okAll (by decide +kernel)) hb1

def audit_m : Nat := mask [SEC_AUDIT_OLD.ASEQ, SEC_AUDIT_NEW.ASEQ] ||| setF_m ||| setSec_m ||| post_m ||| storeRow_m
theorem audit_may (h : May M I) (hm : Sub audit_m M) {b0} {b1} {b2} {b3} (hb3 : I b3) : I (audit b0 b1 b2 b3) := by
  have ho := (Sub.rfl.inl.inl.inl.inl.trans hm)
  unfold audit
  extract_lets -merge -useContext x0 x1 x2 x3 x4
  have hx4 : ∀ a0, I a0 → I (x4 a0) := by
    intro a5 ha5
    unfold x4
    refine setF_may h (Sub.rfl.inr.inl.inl.inl.trans hm) (ho.ok (by decide +kernel)) ?_
    · refine setF_may h (Sub.rfl.inr.inl.inl.inl.trans hm) (ho.ok (by decide +kernel)) ?_
      · refine setSec_may h (Sub.rfl.inr.inl.inl.trans hm) ha5
  clear_value x4
  refine post_may h (Sub.rfl.inr.inl.trans hm) ?_
  · refine storeRow_may h (Sub.rfl.inr.trans hm) hx4 hb3

def sendTwin_m : Nat := emit_m
theorem sendTwin_may (h : May M I) (hm : Sub sendTwin_m M) {b0} {b1} (hb1 : I b1) : I (sendTwin b0 b1) := by
  unfold sendTwin
  refine may_ite ?_ ?_
  · exact hb1
  · refine emit_may h (Sub.rfl.trans hm) hb1

def sendAcked_m : Nat := sendTwin_m ||| setTwin_m
theorem sendAcked_may (h : May M I) (hm : Sub sendAcked_m M) {b0} {b1} (hb1 : I b1) : I (sendAcked b0 b1) := by
  unfold sendAcked
  refine sendTwin_may h (Sub.rfl.inl.trans hm) ?_
  · refine setTwin_may h (Sub.rfl.inr.trans hm) hb1

def coalesce_m : Nat := pmask [.coal] ||| signal_m
theorem coalesce_may (h : May M I) (hm : Sub coalesce_m M) {b0} {b1} (hb1 : I b1) : I (coalesce b0 b1) := by
  have hp := (Sub.rfl.inl.trans hm)
  unfold coalesce
  extract_lets -merge -useContext x0 x1
  refine may_ite ?_ ?_
  · refine signal_may h (Sub.rfl.inr.trans hm) ?_
    · exact h.coal (hp.testBit (by decide +kernel)) (hb1)
  · exact h.coal (hp.testBit (by decide +kernel)) (hb1)

def writeCpl_m : Nat := mask [HIF_CQ_TAIL.PHASE, HIF_CQ_TAIL.TAIL] ||| coalesce_m ||| setF_m ||| emit_m
theorem writeCpl_may (h : May M I) (hm : Sub writeCpl_m M) {b0} {b1} (hb1 : I b1) : I (writeCpl b0 b1) := by
  have ho := (Sub.rfl.inl.inl.inl.trans hm)
  unfold writeCpl
  extract_lets -merge -useContext x0 x1 x2
  refine coalesce_may h (Sub.rfl.inr.inl.inl.trans hm) ?_
  · refine setF_may h (Sub.rfl.inr.inl.trans hm) (ho.ok (by decide +kernel)) ?_
    · refine setF_may h (Sub.rfl.inr.inl.trans hm) (ho.ok (by decide +kernel)) ?_
      · refine emit_may h (Sub.rfl.inr.trans hm) hb1

def postCpl_m : Nat := pmask [.cplHeld] ||| writeCpl_m
theorem postCpl_may (h : May M I) (hm : Sub postCpl_m M) {b0} {b1} (hb1 : I b1) : I (postCpl b0 b1) := by
  have hp := (Sub.rfl.inl.trans hm)
  unfold postCpl
  refine may_ite ?_ ?_
  · refine writeCpl_may h (Sub.rfl.inr.trans hm) hb1
  · exact h.cplHeld (hp.testBit (by decide +kernel)) (hb1)

def releaseOne_m : Nat := pmask [.cplHeld] ||| writeCpl_m
theorem releaseOne_may (h : May M I) (hm : Sub releaseOne_m M) {b0} {b1} (hb1 : I b1) : I (releaseOne b0 b1) := by
  have hp := (Sub.rfl.inl.trans hm)
  unfold releaseOne
  split
  · exact hb1
  · refine may_ite ?_ ?_
    · refine writeCpl_may h (Sub.rfl.inr.trans hm) ?_
      · exact h.cplHeld (hp.testBit (by decide +kernel)) (hb1)
    · exact hb1

def releaseHeld_m : Nat := releaseOne_m
theorem releaseHeld_may (h : May M I) (hm : Sub releaseHeld_m M) {b0} {b1} (hb1 : I b1) : I (releaseHeld b0 b1) := by
  unfold releaseHeld
  refine foldl_may (fun a0 a1 ha0 => ?_) ?_
  · refine releaseOne_may h (Sub.rfl.trans hm) ha0
  · exact hb1

def modCmd_m : Nat := setCmd_m
theorem modCmd_may (h : May M I) (hm : Sub modCmd_m M) {b0} {b1} {b2} (hb2 : I b2) : I (modCmd b0 b1 b2) := by
  unfold modCmd
  refine setCmd_may h (Sub.rfl.trans hm) hb2

def countRefused_m : Nat := mask [XPT_REFUSE_CNT.COUNT, XPT_CNT_FLAGS.REFUSE_OVF] ||| bump32_m
theorem countRefused_may (h : May M I) (hm : Sub countRefused_m M) {b0} {b1} {b2} (hb2 : I b2) : I (countRefused b0 b1 b2) := by
  have ho := (Sub.rfl.inl.trans hm)
  unfold countRefused
  refine may_ite ?_ ?_
  · refine bump32_may h (Sub.rfl.inr.trans hm) (ho.ok (by decide +kernel)) (ho.ok (by decide +kernel)) hb2
  · exact hb2

def finishCmd_m : Nat := mask [TWN_EVT.SOLO, TWN_SOLO_CNT.COUNT, TWN_CNT_FLAGS.OVF, TWN_MSEQ.MSEQ, HIF_DROP_CPL.COUNT, HIF_CNT_FLAGS.DROP_OVF] ||| setCmd_m ||| setTwin_m ||| countRefused_m ||| raise_m ||| bump32F_m ||| sendTwin_m ||| setF_m ||| bump32_m ||| postCpl_m
theorem finishCmd_may (h : May M I) (hm : Sub finishCmd_m M) {b0} {b1} (hb1 : I b1) : I (finishCmd b0 b1) := by
  have ho := (Sub.rfl.inl.inl.inl.inl.inl.inl.inl.inl.inl.trans hm)
  unfold finishCmd
  extract_lets -merge -useContext x0 x1 x2 x3
  have hx0 : I x0 := by
    unfold x0
    refine setCmd_may h (Sub.rfl.inr.inl.inl.inl.inl.inl.inl.inl.inl.trans hm) hb1
  clear_value x0
  have hx1 : I x1 := by
    unfold x1
    refine setTwin_may h (Sub.rfl.inr.inl.inl.inl.inl.inl.inl.inl.trans hm) hx0
  clear_value x1
  have hx2 : I x2 := by
    unfold x2
    refine countRefused_may h (Sub.rfl.inr.inl.inl.inl.inl.inl.inl.trans hm) hx1
  clear_value x2
  have hx3 : I x3 := by
    unfold x3
    refine may_ite ?_ ?_
    · refine raise_may h (Sub.rfl.inr.inl.inl.inl.inl.inl.trans hm) (ho.okAll (by decide +kernel)) ?_
      · refine bump32F_may h (Sub.rfl.inr.inl.inl.inl.inl.trans hm) (ho.ok (by decide +kernel)) (ho.ok (by decide +kernel)) hx2
    · exact hx2
  clear_value x3
  refine may_ite ?_ ?_
  · refine may_ite ?_ ?_
    · refine sendTwin_may h (Sub.rfl.inr.inl.inl.inl.trans hm) ?_
      · refine setF_may h (Sub.rfl.inr.inl.inl.trans hm) (ho.ok (by decide +kernel)) hx1
    · exact hx1
  · refine may_ite ?_ ?_
    · refine bump32_may h (Sub.rfl.inr.inl.trans hm) (ho.ok (by decide +kernel)) (ho.ok (by decide +kernel)) hx3
    · refine postCpl_may h (Sub.rfl.inr.trans hm) hx3

def finishOne_m : Nat := finishCmd_m
theorem finishOne_may (h : May M I) (hm : Sub finishOne_m M) {b0} (hb0 : I b0) : I (finishOne b0) := by
  unfold finishOne
  split
  · refine finishCmd_may h (Sub.rfl.trans hm) hb0
  · exact hb0

def finishReady_m : Nat := finishOne_m
theorem finishReady_may (h : May M I) (hm : Sub finishReady_m M) {b0} (hb0 : I b0) : I (finishReady b0) := by
  unfold finishReady
  refine foldl_may (fun a0 a1 ha0 => ?_) ?_
  · refine finishOne_may h (Sub.rfl.trans hm) ha0
  · exact hb0

def memberDone_m : Nat := modCmd_m
theorem memberDone_may (h : May M I) (hm : Sub memberDone_m M) {b0} {b1} {b2} {b3} (hb3 : I b3) : I (memberDone b0 b1 b2 b3) := by
  unfold memberDone
  refine modCmd_may h (Sub.rfl.trans hm) hb3

def memberEnd_m : Nat := modCmd_m
theorem memberEnd_may (h : May M I) (hm : Sub memberEnd_m M) {b0} {b1} (hb1 : I b1) : I (memberEnd b0 b1) := by
  unfold memberEnd
  refine modCmd_may h (Sub.rfl.trans hm) hb1

def failCmd_m : Nat := finishReady_m ||| modCmd_m
theorem failCmd_may (h : May M I) (hm : Sub failCmd_m M) {b0} {b1} {b2} (hb2 : I b2) : I (failCmd b0 b1 b2) := by
  unfold failCmd
  refine finishReady_may h (Sub.rfl.inl.trans hm) ?_
  · refine modCmd_may h (Sub.rfl.inr.trans hm) hb2

def setIn_m : Nat := pmask [.lane]
theorem setIn_may (h : May M I) (hm : Sub setIn_m M) {b0} {b1} {b2} (hb2 : I b2) : I (setIn b0 b1 b2) := by
  have hp := (Sub.rfl.trans hm)
  unfold setIn
  extract_lets -merge -useContext x0
  exact h.lane (hp.testBit (by decide +kernel)) (hb2)

def setOut_m : Nat := pmask [.lane]
theorem setOut_may (h : May M I) (hm : Sub setOut_m M) {b0} {b1} {b2} (hb2 : I b2) : I (setOut b0 b1 b2) := by
  have hp := (Sub.rfl.trans hm)
  unfold setOut
  extract_lets -merge -useContext x0
  exact h.lane (hp.testBit (by decide +kernel)) (hb2)

def raiseLane_m : Nat := raise_m
theorem raiseLane_may (h : May M I) (hm : Sub raiseLane_m M) {b0 : List Fld} (hb0 : OkAll M b0) {b1} {b2} (hb2 : I b2) : I (raiseLane b0 b1 b2) := by
  unfold raiseLane
  refine may_ite ?_ ?_
  · exact hb2
  · refine raise_may h (Sub.rfl.trans hm) hb0 hb2

def updateEvidence_m : Nat := mask [TWN_EVID.OWN, TWN_EVID.ELIG] ||| setF_m ||| setTwin_m
theorem updateEvidence_may (h : May M I) (hm : Sub updateEvidence_m M) {b0} (hb0 : I b0) : I (updateEvidence b0) := by
  have ho := (Sub.rfl.inl.inl.trans hm)
  unfold updateEvidence
  extract_lets -merge -useContext x0 x1
  have hx1 : I x1 := by
    unfold x1
    refine setF_may h (Sub.rfl.inr.inl.trans hm) (ho.ok (by decide +kernel)) ?_
    · refine setF_may h (Sub.rfl.inr.inl.trans hm) (ho.ok (by decide +kernel)) hb0
  clear_value x1
  refine setTwin_may h (Sub.rfl.inr.trans hm) hx1

def toHoldover_m : Nat := mask [PIP_STATUS.TARGET, PIP_STATUS.SELECTED, PIP_STATUS.STATE, PIP_HOLD_CNT.COUNT, PIP_EVT.HOLD_OVF, PIP_EVT.HOLDOVER] ||| setF_m ||| bump32_m ||| raise_m
theorem toHoldover_may (h : May M I) (hm : Sub toHoldover_m M) {b0} (hb0 : I b0) : I (toHoldover b0) := by
  have ho := (Sub.rfl.inl.inl.inl.trans hm)
  unfold toHoldover
  refine may_ite ?_ ?_
  · refine setF_may h (Sub.rfl.inr.inl.inl.trans hm) (ho.ok (by decide +kernel)) ?_
    · refine setF_may h (Sub.rfl.inr.inl.inl.trans hm) (ho.ok (by decide +kernel)) ?_
      · refine setF_may h (Sub.rfl.inr.inl.inl.trans hm) (ho.ok (by decide +kernel)) hb0
  · refine may_ite ?_ ?_
    · exact hb0
    · refine bump32_may h (Sub.rfl.inr.inl.trans hm) (ho.ok (by decide +kernel)) (ho.ok (by decide +kernel)) ?_
      · refine raise_may h (Sub.rfl.inr.trans hm) (ho.okAll (by decide +kernel)) ?_
        · refine setF_may h (Sub.rfl.inr.inl.inl.trans hm) (ho.ok (by decide +kernel)) ?_
          · refine setF_may h (Sub.rfl.inr.inl.inl.trans hm) (ho.ok (by decide +kernel)) ?_
            · refine setF_may h (Sub.rfl.inr.inl.inl.trans hm) (ho.ok (by decide +kernel)) hb0

def toTransition_m : Nat := mask [PIP_STATUS.TARGET, PIP_STATUS.STATE, PIP_STATUS.SELECTED] ||| setF_m ||| setTime_m
theorem toTransition_may (h : May M I) (hm : Sub toTransition_m M) {b0} {b1} (hb1 : I b1) : I (toTransition b0 b1) := by
  have ho := (Sub.rfl.inl.inl.trans hm)
  unfold toTransition
  extract_lets -merge -useContext x0
  refine may_ite ?_ ?_
  · refine setF_may h (Sub.rfl.inr.inl.trans hm) (ho.ok (by decide +kernel)) ?_
    · refine setF_may h (Sub.rfl.inr.inl.trans hm) (ho.ok (by decide +kernel)) ?_
      · refine setTime_may h (Sub.rfl.inr.trans hm) hb1
  · refine setF_may h (Sub.rfl.inr.inl.trans hm) (ho.ok (by decide +kernel)) ?_
    · refine setF_may h (Sub.rfl.inr.inl.trans hm) (ho.ok (by decide +kernel)) ?_
      · refine setF_may h (Sub.rfl.inr.inl.trans hm) (ho.ok (by decide +kernel)) ?_
        · refine setTime_may h (Sub.rfl.inr.trans hm) hb1

def reselect_m : Nat := mask [PIP_STATUS.TARGET, PIP_STATUS.STATE] ||| toHoldover_m ||| toTransition_m ||| setF_m
theorem reselect_may (h : May M I) (hm : Sub reselect_m M) {b0} {b1} (hb1 : I b1) : I (reselect b0 b1) := by
  have ho := (Sub.rfl.inl.inl.inl.trans hm)
  unfold reselect
  extract_lets -merge -useContext x0
  refine may_ite ?_ ?_
  · refine toHoldover_may h (Sub.rfl.inr.inl.inl.trans hm) hb1
  · refine may_ite ?_ ?_
    · exact hb1
    · split
      · refine toHoldover_may h (Sub.rfl.inr.inl.inl.trans hm) hb1
      · refine may_ite ?_ ?_
        · refine may_ite ?_ ?_
          · refine toTransition_may h (Sub.rfl.inr.inl.trans hm) hb1
          · exact hb1
        · refine may_ite ?_ ?_
          · refine setF_may h (Sub.rfl.inr.trans hm) (ho.ok (by decide +kernel)) ?_
            · refine setF_may h (Sub.rfl.inr.trans hm) (ho.ok (by decide +kernel)) hb1
          · refine toTransition_may h (Sub.rfl.inr.inl.trans hm) hb1

def updateSource_m : Nat := mask [TIM_EVT.SOURCE, TIM_STATUS.SOURCE, TIM_STATUS.UTC_OFFSET, TIM_STATUS.UTC_VALID] ||| raise_m ||| setF_m
theorem updateSource_may (h : May M I) (hm : Sub updateSource_m M) {b0} (hb0 : I b0) : I (updateSource b0) := by
  have ho := (Sub.rfl.inl.inl.trans hm)
  unfold updateSource
  extract_lets -merge -useContext x0 x1
  have hx1 : I x1 := by
    unfold x1
    refine may_ite ?_ ?_
    · exact hb0
    · refine raise_may h (Sub.rfl.inr.inl.trans hm) (ho.okAll (by decide +kernel)) ?_
      · refine setF_may h (Sub.rfl.inr.trans hm) (ho.ok (by decide +kernel)) hb0
  clear_value x1
  refine may_ite ?_ ?_
  · refine setF_may h (Sub.rfl.inr.trans hm) (ho.ok (by decide +kernel)) ?_
    · refine setF_may h (Sub.rfl.inr.trans hm) (ho.ok (by decide +kernel)) hx1
  · refine setF_may h (Sub.rfl.inr.trans hm) (ho.ok (by decide +kernel)) ?_
    · refine setF_may h (Sub.rfl.inr.trans hm) (ho.ok (by decide +kernel)) hx1

def settlePitch_m : Nat := mask [TWN_STATUS.ALIGNED] ||| setB_m ||| updateSource_m ||| reselect_m
theorem settlePitch_may (h : May M I) (hm : Sub settlePitch_m M) {b0} (hb0 : I b0) : I (settlePitch b0) := by
  have ho := (Sub.rfl.inl.inl.inl.trans hm)
  unfold settlePitch
  refine setB_may h (Sub.rfl.inr.inl.inl.trans hm) (ho.ok (by decide +kernel)) ?_
  · refine updateSource_may h (Sub.rfl.inr.inl.trans hm) ?_
    · refine reselect_may h (Sub.rfl.inr.trans hm) hb0

def yieldBarks_m : Nat := emit_m
theorem yieldBarks_may (h : May M I) (hm : Sub yieldBarks_m M) {b0} (hb0 : I b0) : I (yieldBarks b0) := by
  unfold yieldBarks
  extract_lets -merge -useContext x0 x1
  have hx0 : ∀ a0 a1, I a1 → I (x0 a0 a1) := by
    intro a2 a3 ha3
    unfold x0
    refine emit_may h (Sub.rfl.trans hm) ?_
    · refine emit_may h (Sub.rfl.trans hm) ?_
      · refine emit_may h (Sub.rfl.trans hm) ha3
  clear_value x0
  have hx1 : I x1 := by
    unfold x1
    refine may_ite ?_ ?_
    · refine hx0 _ _ hb0
    · exact hb0
  clear_value x1
  refine may_ite ?_ ?_
  · refine hx0 _ _ hx1
  · exact hx1

def leaveLead_m : Nat := finishReady_m ||| setCmd_m
theorem leaveLead_may (h : May M I) (hm : Sub leaveLead_m M) {b0} (hb0 : I b0) : I (leaveLead b0) := by
  unfold leaveLead
  refine finishReady_may h (Sub.rfl.inl.trans hm) ?_
  · refine setCmd_may h (Sub.rfl.inr.trans hm) hb0

def enterRole_m : Nat := mask [TWN_EVT.ROLE, TWN_TAKEOVER_CNT.COUNT, TWN_CNT_FLAGS.OVF, TWN_STATUS.STALE, TWN_STATUS.SYNC, TWN_MSEQ.MSEQ, TWN_EPOCH.EPOCH, TWN_YIELD_CNT.COUNT, PST_STATUS.LAST_ROLE] ||| 2 ^ roleBit ||| setTwin_m ||| raise_m ||| setF_m ||| bump32F_m ||| storePref_m ||| yieldBarks_m ||| leaveLead_m
theorem enterRole_may (h : May M I) (hm : Sub enterRole_m M) {b0} {b1} (hb1 : I b1) (hr : b0 < 4 := by decide) : I (enterRole b0 b1) := by
  have ho := (Sub.rfl.inl.inl.inl.inl.inl.inl.inl.inl.trans hm)
  unfold enterRole
  extract_lets -merge -useContext x0 x1 x2 x3 x4 x5 x6 x7 x8
  have hx1 : I x1 := by
    unfold x1
    refine setTwin_may h (Sub.rfl.inr.inl.inl.inl.inl.inl.inl.trans hm) ?_
    · refine raise_may h (Sub.rfl.inr.inl.inl.inl.inl.inl.trans hm) (ho.okAll (by decide +kernel)) ?_
      · exact h.role ((Sub.rfl.inr.inl.inl.inl.inl.inl.inl.inl.trans hm).testBit (by decide +kernel)) hr hb1
  clear_value x1
  have hx3 : I x3 := by
    unfold x3
    refine may_ite ?_ ?_
    · refine bump32F_may h (Sub.rfl.inr.inl.inl.inl.trans hm) (ho.ok (by decide +kernel)) (ho.ok (by decide +kernel)) hx1
    · exact hx1
  clear_value x3
  have hx4 : I x4 := by
    unfold x4
    refine may_ite ?_ ?_
    · refine setTwin_may h (Sub.rfl.inr.inl.inl.inl.inl.inl.inl.trans hm) ?_
      · refine setF_may h (Sub.rfl.inr.inl.inl.inl.inl.trans hm) (ho.ok (by decide +kernel)) ?_
        · refine setF_may h (Sub.rfl.inr.inl.inl.inl.inl.trans hm) (ho.ok (by decide +kernel)) ?_
          · refine setF_may h (Sub.rfl.inr.inl.inl.inl.inl.trans hm) (ho.ok (by decide +kernel)) ?_
            · refine storePref_may h (Sub.rfl.inr.inl.inl.trans hm) (fun a9 ha9 => ?_) hx3
              · refine setF_may h (Sub.rfl.inr.inl.inl.inl.inl.trans hm) (ho.ok (by decide +kernel)) ha9
    · exact hx1
  clear_value x4
  have hx5 : I x5 := by
    unfold x5
    refine may_ite ?_ ?_
    · refine yieldBarks_may h (Sub.rfl.inr.inl.trans hm) ?_
      · refine bump32F_may h (Sub.rfl.inr.inl.inl.inl.trans hm) (ho.ok (by decide +kernel)) (ho.ok (by decide +kernel)) hx4
    · exact hx4
  clear_value x5
  have hx6 : I x6 := by
    unfold x6
    refine may_ite ?_ ?_
    · refine setTwin_may h (Sub.rfl.inr.inl.inl.inl.inl.inl.inl.trans hm) ?_
      · refine setF_may h (Sub.rfl.inr.inl.inl.inl.inl.trans hm) (ho.ok (by decide +kernel)) ?_
        · refine setF_may h (Sub.rfl.inr.inl.inl.inl.inl.trans hm) (ho.ok (by decide +kernel)) hx5
    · exact hx5
  clear_value x6
  have hx7 : I x7 := by
    unfold x7
    refine storePref_may h (Sub.rfl.inr.inl.inl.trans hm) (fun a10 ha10 => ?_) hx6
    · refine setF_may h (Sub.rfl.inr.inl.inl.inl.inl.trans hm) (ho.ok (by decide +kernel)) ha10
  clear_value x7
  have hx8 : I x8 := by
    unfold x8
    refine setTwin_may h (Sub.rfl.inr.inl.inl.inl.inl.inl.inl.trans hm) hx7
  clear_value x8
  refine may_ite ?_ ?_
  · exact hb1
  · refine may_ite ?_ ?_
    · refine leaveLead_may h (Sub.rfl.inr.trans hm) hx8
    · exact hx8

def markStale_m : Nat := mask [TWN_EVT.STALE, TWN_STATUS.STALE, TWN_STATUS.SYNC] ||| raise_m ||| setF_m ||| setTwin_m
theorem markStale_may (h : May M I) (hm : Sub markStale_m M) {b0} {b1} (hb1 : I b1) : I (markStale b0 b1) := by
  have ho := (Sub.rfl.inl.inl.inl.trans hm)
  unfold markStale
  extract_lets -merge -useContext x0
  have hx0 : I x0 := by
    unfold x0
    refine may_ite ?_ ?_
    · exact hb1
    · refine raise_may h (Sub.rfl.inr.inl.inl.trans hm) (ho.okAll (by decide +kernel)) ?_
      · refine setF_may h (Sub.rfl.inr.inl.trans hm) (ho.ok (by decide +kernel)) hb1
  clear_value x0
  refine setTwin_may h (Sub.rfl.inr.trans hm) ?_
  · refine setF_may h (Sub.rfl.inr.inl.trans hm) (ho.ok (by decide +kernel)) hx0

def tryResync_m : Nat := mask [TWN_RESYNC_CNT.COUNT, TWN_CNT_FLAGS.OVF, TWN_STATUS.SYNC] ||| sendAcked_m ||| bump32F_m ||| setF_m ||| setTwin_m
theorem tryResync_may (h : May M I) (hm : Sub tryResync_m M) {b0} (hb0 : I b0) : I (tryResync b0) := by
  have ho := (Sub.rfl.inl.inl.inl.inl.trans hm)
  unfold tryResync
  extract_lets -merge -useContext x0
  refine may_ite ?_ ?_
  · refine sendAcked_may h (Sub.rfl.inr.inl.inl.inl.trans hm) ?_
    · refine bump32F_may h (Sub.rfl.inr.inl.inl.trans hm) (ho.ok (by decide +kernel)) (ho.ok (by decide +kernel)) ?_
      · refine setF_may h (Sub.rfl.inr.inl.trans hm) (ho.ok (by decide +kernel)) ?_
        · refine setTwin_may h (Sub.rfl.inr.trans hm) hb0
  · exact hb0

def staleDigest_m : Nat := markStale_m
theorem staleDigest_may (h : May M I) (hm : Sub staleDigest_m M) {b0} (hb0 : I b0) : I (staleDigest b0) := by
  unfold staleDigest
  refine may_ite ?_ ?_
  · refine markStale_may h (Sub.rfl.trans hm) hb0
  · exact hb0

def resyncDone_m : Nat := mask [TWN_STATUS.SYNC, TWN_EVT.SYNCED, TWN_STATUS.STALE] ||| setTwin_m ||| markStale_m ||| setF_m ||| raise_m
theorem resyncDone_may (h : May M I) (hm : Sub resyncDone_m M) {b0} (hb0 : I b0) : I (resyncDone b0) := by
  have ho := (Sub.rfl.inl.inl.inl.inl.trans hm)
  unfold resyncDone
  extract_lets -merge -useContext x0
  have hx0 : I x0 := by
    unfold x0
    refine setTwin_may h (Sub.rfl.inr.inl.inl.inl.trans hm) hb0
  clear_value x0
  refine may_ite ?_ ?_
  · refine may_ite ?_ ?_
    · refine markStale_may h (Sub.rfl.inr.inl.inl.trans hm) hx0
    · refine may_ite ?_ ?_
      · refine setF_may h (Sub.rfl.inr.inl.trans hm) (ho.ok (by decide +kernel)) hx0
      · refine raise_may h (Sub.rfl.inr.trans hm) (ho.okAll (by decide +kernel)) ?_
        · refine setF_may h (Sub.rfl.inr.inl.trans hm) (ho.ok (by decide +kernel)) ?_
          · refine setF_may h (Sub.rfl.inr.inl.trans hm) (ho.ok (by decide +kernel)) hx0
  · exact hb0

def reloadDone_m : Nat := pmask [.img] ||| finishReady_m ||| modCmd_m
theorem reloadDone_may (h : May M I) (hm : Sub reloadDone_m M) {b0} (hb0 : I b0) : I (reloadDone b0) := by
  have hp := (Sub.rfl.inl.inl.trans hm)
  unfold reloadDone
  extract_lets -merge -useContext x0
  split
  · refine may_ite ?_ ?_
    · exact hb0
    · refine finishReady_may h (Sub.rfl.inr.inl.trans hm) ?_
      · refine modCmd_may h (Sub.rfl.inr.trans hm) ?_
        · exact h.img (hp.testBit (by decide +kernel)) (hb0)
  · exact hb0

def settle_m : Nat := updateEvidence_m ||| enterRole_m ||| tryResync_m ||| resyncDone_m ||| staleDigest_m ||| reloadDone_m ||| settlePitch_m
theorem settle_may (h : May M I) (hm : Sub settle_m M) {b0} (hb0 : I b0) : I (settle b0) := by
  unfold settle
  extract_lets -merge -useContext x0 x1
  have hx0 : I x0 := by
    unfold x0
    refine updateEvidence_may h (Sub.rfl.inl.inl.inl.inl.inl.inl.trans hm) hb0
  clear_value x0
  have hx1 : I x1 := by
    unfold x1
    refine may_ite ?_ ?_
    · refine enterRole_may h (Sub.rfl.inr.inl.inl.inl.inl.inl.trans hm) hx0
    · exact hx0
  clear_value x1
  refine tryResync_may h (Sub.rfl.inr.inl.inl.inl.inl.trans hm) ?_
  · refine resyncDone_may h (Sub.rfl.inr.inl.inl.inl.trans hm) ?_
    · refine staleDigest_may h (Sub.rfl.inr.inl.inl.trans hm) ?_
      · refine reloadDone_may h (Sub.rfl.inr.inl.trans hm) ?_
        · refine settlePitch_may h (Sub.rfl.inr.trans hm) hx1

def whenPowered_m : Nat := 0
theorem whenPowered_may (h : May M I) (hm : Sub whenPowered_m M) {b0} (hb0 : ∀ a0, I a0 → I (b0 a0)) {b1} (hb1 : I b1) : I (whenPowered b0 b1) := by
  unfold whenPowered
  refine may_ite ?_ ?_
  · refine hb0 _ hb1
  · exact hb1

def whenService_m : Nat := running_m
theorem whenService_may (h : May M I) (hm : Sub whenService_m M) (hr : Run M I) {b0} (hb0 : ∀ I : State → Prop, May M I → ∀ a0, I a0 → I (b0 a0)) {b1} (hb1 : I b1) : I (whenService b0 b1) := by
  unfold whenService
  refine may_ite ?_ ?_
  · refine running_may h (Sub.rfl.trans hm) hr (fun I h => (hb0 I h)) hb1
  · exact hb1

def onService_m : Nat := running_m ||| settle_m ||| finishReady_m ||| advance_m
theorem onService_may (h : May M I) (hm : Sub onService_m M) (hr : Run M I) {b0} {b1} (hb1 : ∀ I : State → Prop, May M I → ∀ a0, I a0 → I (b1 a0)) {b2} (hb2 : I b2) : I (onService b0 b1 b2) := by
  unfold onService
  refine may_ite ?_ ?_
  · refine running_may h (Sub.rfl.inl.inl.inl.trans hm) hr (fun I h a0 ha0 => ?_) hb2
    · refine settle_may h (Sub.rfl.inr.inl.inl.trans hm) ?_
      · refine finishReady_may h (Sub.rfl.inr.inl.trans hm) ?_
        · refine (hb1 I h) _ ?_
          · refine advance_may h (Sub.rfl.inr.trans hm) ha0
  · exact hb2

def whenReady_m : Nat := 0
theorem whenReady_may (h : May M I) (hm : Sub whenReady_m M) {b0} (hb0 : ∀ a0, I a0 → I (b0 a0)) {b1} (hb1 : I b1) : I (whenReady b0 b1) := by
  unfold whenReady
  refine may_ite ?_ ?_
  · refine hb0 _ hb1
  · exact hb1

def onHost_m : Nat := running_m ||| settle_m ||| finishReady_m ||| advance_m
theorem onHost_may (h : May M I) (hm : Sub onHost_m M) (hr : Run M I) {b0} {b1} (hb1 : ∀ I : State → Prop, May M I → ∀ a0, I a0 → I (b1 a0)) {b2} (hb2 : I b2) : I (onHost b0 b1 b2) := by
  unfold onHost
  refine may_ite ?_ ?_
  · refine running_may h (Sub.rfl.inl.inl.inl.trans hm) hr (fun I h a0 ha0 => ?_) hb2
    · refine settle_may h (Sub.rfl.inr.inl.inl.trans hm) ?_
      · refine finishReady_may h (Sub.rfl.inr.inl.trans hm) ?_
        · refine (hb1 I h) _ ?_
          · refine advance_may h (Sub.rfl.inr.trans hm) ha0
  · exact hb2

def whenHost_m : Nat := 0
theorem whenHost_may (h : May M I) (hm : Sub whenHost_m M) {b0} (hb0 : ∀ a0, I a0 → I (b0 a0)) {b1} (hb1 : I b1) : I (whenHost b0 b1) := by
  unfold whenHost
  refine may_ite ?_ ?_
  · refine hb0 _ hb1
  · exact hb1

def onSys_m : Nat := running_m ||| settle_m ||| finishReady_m ||| advance_m
theorem onSys_may (h : May M I) (hm : Sub onSys_m M) (hr : Run M I) {b0} {b1} (hb1 : ∀ I : State → Prop, May M I → ∀ a0, I a0 → I (b1 a0)) {b2} (hb2 : I b2) : I (onSys b0 b1 b2) := by
  unfold onSys
  refine may_ite ?_ ?_
  · exact hb2
  · refine may_ite ?_ ?_
    · refine running_may h (Sub.rfl.inl.inl.inl.trans hm) hr (fun I h a0 ha0 => ?_) hb2
      · refine settle_may h (Sub.rfl.inr.inl.inl.trans hm) ?_
        · refine finishReady_may h (Sub.rfl.inr.inl.trans hm) ?_
          · refine (hb1 I h) _ ?_
            · refine advance_may h (Sub.rfl.inr.trans hm) ha0
    · refine (hb1 I h) _ ?_
      · refine advance_may h (Sub.rfl.inr.trans hm) hb2

def pastEntry_m : Nat := mask [HIF_SQ_HEAD.HEAD] ||| setCmd_m ||| setF_m
theorem pastEntry_may (h : May M I) (hm : Sub pastEntry_m M) {b0} {b1} (hb1 : I b1) : I (pastEntry b0 b1) := by
  have ho := (Sub.rfl.inl.inl.trans hm)
  unfold pastEntry
  refine setCmd_may h (Sub.rfl.inr.inl.trans hm) ?_
  · refine setF_may h (Sub.rfl.inr.trans hm) (ho.ok (by decide +kernel)) hb1

def noteDenied_m : Nat := mask [SEC_DENIED.COUNT, SEC_CNT_FLAGS.DENIED_OVF] ||| bump32_m ||| setCmd_m ||| audit_m
theorem noteDenied_may (h : May M I) (hm : Sub noteDenied_m M) {b0} {b1} (hb1 : I b1) : I (noteDenied b0 b1) := by
  have ho := (Sub.rfl.inl.inl.inl.trans hm)
  unfold noteDenied
  extract_lets -merge -useContext x0
  have hx0 : I x0 := by
    unfold x0
    refine bump32_may h (Sub.rfl.inr.inl.inl.trans hm) (ho.ok (by decide +kernel)) (ho.ok (by decide +kernel)) hb1
  clear_value x0
  split
  · refine may_ite ?_ ?_
    · refine setCmd_may h (Sub.rfl.inr.inl.trans hm) hx0
    · refine audit_may h (Sub.rfl.inr.trans hm) ?_
      · refine setCmd_may h (Sub.rfl.inr.inl.trans hm) hx0
  · refine audit_may h (Sub.rfl.inr.trans hm) ?_
    · refine setCmd_may h (Sub.rfl.inr.inl.trans hm) hx0

def refuse_m : Nat := countRefused_m ||| noteDenied_m ||| postCpl_m
theorem refuse_may (h : May M I) (hm : Sub refuse_m M) {b0} {b1} {b2} {b3} {b4} {b5} {b6} (hb6 : I b6) : I (refuse b0 b1 b2 b3 b4 b5 b6) := by
  unfold refuse
  extract_lets -merge -useContext x0 x1
  have hx0 : I x0 := by
    unfold x0
    refine countRefused_may h (Sub.rfl.inl.inl.trans hm) hb6
  clear_value x0
  have hx1 : I x1 := by
    unfold x1
    refine may_ite ?_ ?_
    · refine noteDenied_may h (Sub.rfl.inr.inl.trans hm) hx0
    · exact hx0
  clear_value x1
  refine postCpl_may h (Sub.rfl.inr.trans hm) hx1

def openEntry_m : Nat := mask [TWN_MSEQ.MSEQ] ||| setCmd_m ||| sendAcked_m ||| setF_m ||| setTwin_m
theorem openEntry_may (h : May M I) (hm : Sub openEntry_m M) {b0} {b1} {b2} {b3} {b4} {b5} {b6} {b7} {b8} (hb8 : I b8) : I (openEntry b0 b1 b2 b3 b4 b5 b6 b7 b8).2 := by
  have ho := (Sub.rfl.inl.inl.inl.inl.trans hm)
  unfold openEntry
  extract_lets -merge -useContext x0 x1 x2 x3 x4 x5 x6 x7
  have hx6 : I x6 := by
    unfold x6
    refine setCmd_may h (Sub.rfl.inr.inl.inl.inl.trans hm) hb8
  clear_value x6
  have hx7 : I x7 := by
    unfold x7
    refine may_ite ?_ ?_
    · refine sendAcked_may h (Sub.rfl.inr.inl.inl.trans hm) ?_
      · refine setF_may h (Sub.rfl.inr.inl.trans hm) (ho.ok (by decide +kernel)) ?_
        · refine setTwin_may h (Sub.rfl.inr.trans hm) hx6
    · exact hx6
  clear_value x7
  exact hx7

def openMirror_m : Nat := setCmd_m
theorem openMirror_may (h : May M I) (hm : Sub openMirror_m M) {b0} {b1} {b2} {b3} (hb3 : I b3) : I (openMirror b0 b1 b2 b3).2 := by
  unfold openMirror
  dsimp only
  exact setCmd_may h (Sub.rfl.trans hm) hb3

def readEntry_m : Nat := pastEntry_m ||| refuse_m ||| settle_m ||| finishReady_m
theorem readEntry_may (h : May M I) (hm : Sub readEntry_m M) {b0} {b1} {b2} (hb2 : ∀ a0 a1, I a1 → I (b2 a0 a1)) {b3} (hb3 : I b3) : I (readEntry b0 b1 b2 b3) := by
  unfold readEntry
  extract_lets -merge -useContext x0 x1
  have hx1 : I x1 := by
    unfold x1
    refine pastEntry_may h (Sub.rfl.inl.inl.inl.trans hm) hb3
  clear_value x1
  split
  · refine refuse_may h (Sub.rfl.inr.inl.inl.trans hm) hx1
  · refine settle_may h (Sub.rfl.inr.inl.trans hm) ?_
    · refine finishReady_may h (Sub.rfl.inr.trans hm) ?_
      · refine hb2 _ _ hx1

def ringCmdIf_m : Nat := running_m ||| readEntry_m ||| advance_m
theorem ringCmdIf_may (h : May M I) (hm : Sub ringCmdIf_m M) (hr : Run M I) {b0} {b1} {b2} {b3} {b4} (hb4 : ∀ I : State → Prop, May M I → ∀ a0 a1, I a1 → I (b4 a0 a1)) {b5} (hb5 : I b5) : I (ringCmdIf b0 b1 b2 b3 b4 b5) := by
  unfold ringCmdIf
  refine may_ite ?_ ?_
  · exact hb5
  · refine running_may h (Sub.rfl.inl.inl.trans hm) hr (fun I h a0 ha0 => ?_) hb5
    · refine readEntry_may h (Sub.rfl.inr.inl.trans hm) (hb4 I h) ?_
      · refine advance_may h (Sub.rfl.inr.trans hm) ha0

def ringCmd_m : Nat := ringCmdIf_m
theorem ringCmd_may (h : May M I) (hm : Sub ringCmd_m M) (hr : Run M I) {b0} {b1} {b2} {b3} {b4} (hb4 : ∀ I : State → Prop, May M I → ∀ a0 a1, I a1 → I (b4 a0 a1)) {b5} (hb5 : I b5) : I (ringCmd b0 b1 b2 b3 b4 b5) := by
  unfold ringCmd
  refine ringCmdIf_may h (Sub.rfl.trans hm) hr (fun I h => (hb4 I h)) hb5

def acceptTimed_m : Nat := refuse_m ||| openEntry_m
theorem acceptTimed_may (h : May M I) (hm : Sub acceptTimed_m M) {b0} {b1} {b2} {b3} {b4} {b5} {b6} (hb6 : ∀ a0 a1 a2, I a2 → I (b6 a0 a1 a2)) {b7} (hb7 : I b7) : I (acceptTimed b0 b1 b2 b3 b4 b5 b6 b7) := by
  unfold acceptTimed
  split
  · refine refuse_may h (Sub.rfl.inl.trans hm) hb7
  · split
    · rename_i p0 p1 heq2
      have hp1 : I p1 := by
        refine Eq.subst (motive := I) (congrArg Prod.snd heq2) ?_
        refine openEntry_may h (Sub.rfl.inr.trans hm) hb7
      refine hb6 _ _ _ hp1

def acceptNow_m : Nat := openEntry_m
theorem acceptNow_may (h : May M I) (hm : Sub acceptNow_m M) {b0} {b1} {b2} {b3} {b4} {b5} (hb5 : ∀ a0 a1, I a1 → I (b5 a0 a1)) {b6} (hb6 : I b6) : I (acceptNow b0 b1 b2 b3 b4 b5 b6) := by
  unfold acceptNow
  split
  · rename_i p0 p1 heq2
    have hp1 : I p1 := by
      refine Eq.subst (motive := I) (congrArg Prod.snd heq2) ?_
      refine openEntry_may h (Sub.rfl.trans hm) hb6
    refine hb5 _ _ hp1

end

end Sys2Proof.Machine
end

