-- ==== Sys2Proof/Laws/MayMedia.lean ====
section
/-! SUPPORT. Permissions of lanes, crosspoint, kennel, audio and reed operations: each is made of the plain updates that its mask `…_m` names. -/

namespace Sys2Proof.Machine

set_option Elab.async false
set_option linter.unusedVariables false

section
variable {M : Nat} {I : State → Prop}

def wakeSlots_m : Nat := mask [XPT_OUT_STATE.MODE] ||| forEach_m ||| setF_m
theorem wakeSlots_may (h : May M I) (hm : Sub wakeSlots_m M) {b0} {b1} (hb1 : I b1) : I (wakeSlots b0 b1) := by
  have ho := (Sub.rfl.inl.inl.trans hm)
  unfold wakeSlots
  refine forEach_may h (Sub.rfl.inr.inl.trans hm) (fun a0 a1 ha1 => ?_) hb1
  · refine may_ite ?_ ?_
    · refine setF_may h (Sub.rfl.inr.trans hm) (ho.ok (by decide +kernel)) ha1
    · exact ha1

def sendSets_m : Nat := setOut_m ||| emit_m
theorem sendSets_may (h : May M I) (hm : Sub sendSets_m M) {b0} {b1} (hb1 : I b1) : I (sendSets b0 b1) := by
  unfold sendSets
  extract_lets -merge -useContext x0 x1 x2 x3 x4
  have hx3 : I x3 := by
    unfold x3
    refine setOut_may h (Sub.rfl.inl.trans hm) hb1
  clear_value x3
  refine may_ite ?_ ?_
  · exact hb1
  · refine may_ite ?_ ?_
    · exact hx3
    · refine emit_may h (Sub.rfl.inr.trans hm) hx3

def outActive_m : Nat := mask [LNO_STATUS.STATE, LNO_EVT.UP, LNO_STATUS.ATTEMPT] ||| setF_m ||| wakeSlots_m ||| raiseLane_m ||| sendSets_m ||| setOut_m
theorem outActive_may (h : May M I) (hm : Sub outActive_m M) {b0} {b1} (hb1 : I b1) : I (outActive b0 b1) := by
  have ho := (Sub.rfl.inl.inl.inl.inl.inl.trans hm)
  unfold outActive
  refine may_ite ?_ ?_
  · refine setF_may h (Sub.rfl.inr.inl.inl.inl.inl.trans hm) (ho.ok (by decide +kernel)) ?_
    · refine wakeSlots_may h (Sub.rfl.inr.inl.inl.inl.trans hm) ?_
      · refine raiseLane_may h (Sub.rfl.inr.inl.inl.trans hm) (ho.okAll (by decide +kernel)) ?_
        · refine sendSets_may h (Sub.rfl.inr.inl.trans hm) ?_
          · refine setOut_may h (Sub.rfl.inr.trans hm) ?_
            · refine setF_may h (Sub.rfl.inr.inl.inl.inl.inl.trans hm) (ho.ok (by decide +kernel)) ?_
              · refine setF_may h (Sub.rfl.inr.inl.inl.inl.inl.trans hm) (ho.ok (by decide +kernel)) hb1
  · refine wakeSlots_may h (Sub.rfl.inr.inl.inl.inl.trans hm) ?_
    · refine raiseLane_may h (Sub.rfl.inr.inl.inl.trans hm) (ho.okAll (by decide +kernel)) ?_
      · refine sendSets_may h (Sub.rfl.inr.inl.trans hm) ?_
        · refine setOut_may h (Sub.rfl.inr.trans hm) ?_
          · refine setF_may h (Sub.rfl.inr.inl.inl.inl.inl.trans hm) (ho.ok (by decide +kernel)) ?_
            · refine setF_may h (Sub.rfl.inr.inl.inl.inl.inl.trans hm) (ho.ok (by decide +kernel)) hb1

def seriesOut_m : Nat := mask [LNO_TX_CFG.PRESET_ACT, LNO_STATUS.ATTEMPT, LNO_STATUS.STATE] ||| setOut_m ||| setF_m
theorem seriesOut_may (h : May M I) (hm : Sub seriesOut_m M) {b0} {b1} (hb1 : I b1) : I (seriesOut b0 b1) := by
  have ho := (Sub.rfl.inl.inl.trans hm)
  unfold seriesOut
  refine may_ite ?_ ?_
  · exact hb1
  · refine setOut_may h (Sub.rfl.inr.inl.trans hm) ?_
    · refine setF_may h (Sub.rfl.inr.trans hm) (ho.ok (by decide +kernel)) ?_
      · refine setF_may h (Sub.rfl.inr.trans hm) (ho.ok (by decide +kernel)) ?_
        · refine setF_may h (Sub.rfl.inr.trans hm) (ho.ok (by decide +kernel)) hb1

def seriesIn_m : Nat := mask [LNI_EQ.PRESET_REQ, LNI_EQ.PARTNER_PRESET, LNI_STATUS.ATTEMPT, LNI_STATUS.STATE] ||| setIn_m ||| setF_m
theorem seriesIn_may (h : May M I) (hm : Sub seriesIn_m M) {b0} {b1} (hb1 : I b1) : I (seriesIn b0 b1) := by
  have ho := (Sub.rfl.inl.inl.trans hm)
  unfold seriesIn
  refine may_ite ?_ ?_
  · exact hb1
  · refine setIn_may h (Sub.rfl.inr.inl.trans hm) ?_
    · refine setF_may h (Sub.rfl.inr.trans hm) (ho.ok (by decide +kernel)) ?_
      · refine setF_may h (Sub.rfl.inr.trans hm) (ho.ok (by decide +kernel)) ?_
        · refine setF_may h (Sub.rfl.inr.trans hm) (ho.ok (by decide +kernel)) ?_
          · refine setF_may h (Sub.rfl.inr.trans hm) (ho.ok (by decide +kernel)) hb1

def takeClock_m : Nat := mask [LNO_STATUS.CLK_FWD, LNI_STATUS.CLK_FWD] ||| setF_m
theorem takeClock_may (h : May M I) (hm : Sub takeClock_m M) {b0} {b1} (hb1 : I b1) : I (takeClock b0 b1) := by
  have ho := (Sub.rfl.inl.trans hm)
  unfold takeClock
  extract_lets -merge -useContext x0
  refine may_ite ?_ ?_
  · exact hb1
  · refine setF_may h (Sub.rfl.inr.trans hm) (ho.ok (by decide +kernel)) ?_
    · refine setF_may h (Sub.rfl.inr.trans hm) (ho.ok (by decide +kernel)) hb1

def leaveNoPartner_m : Nat := seriesOut_m ||| takeClock_m ||| sendSets_m ||| seriesIn_m
theorem leaveNoPartner_may (h : May M I) (hm : Sub leaveNoPartner_m M) {b0} {b1} (hb1 : I b1) : I (leaveNoPartner b0 b1) := by
  unfold leaveNoPartner
  extract_lets -merge -useContext x0
  have hx0 : I x0 := by
    unfold x0
    refine seriesOut_may h (Sub.rfl.inl.inl.inl.trans hm) ?_
    · refine takeClock_may h (Sub.rfl.inr.inl.inl.trans hm) hb1
  clear_value x0
  refine sendSets_may h (Sub.rfl.inr.inl.trans hm) ?_
  · refine may_ite ?_ ?_
    · refine seriesIn_may h (Sub.rfl.inr.trans hm) hx0
    · exact hx0

def exitOut_m : Nat := mask [LNO_STATUS.STATE] ||| outActive_m ||| setOut_m ||| setF_m ||| leaveNoPartner_m
theorem exitOut_may (h : May M I) (hm : Sub exitOut_m M) {b0} {b1} (hb1 : I b1) : I (exitOut b0 b1) := by
  have ho := (Sub.rfl.inl.inl.inl.inl.trans hm)
  unfold exitOut
  extract_lets -merge -useContext x0
  refine may_ite ?_ ?_
  · exact hb1
  · refine may_ite ?_ ?_
    · refine outActive_may h (Sub.rfl.inr.inl.inl.inl.trans hm) hb1
    · refine may_ite ?_ ?_
      · refine setOut_may h (Sub.rfl.inr.inl.inl.trans hm) ?_
        · refine setF_may h (Sub.rfl.inr.inl.trans hm) (ho.ok (by decide +kernel)) hb1
      · refine may_ite ?_ ?_
        · refine leaveNoPartner_may h (Sub.rfl.inr.trans hm) hb1
        · exact hb1

def takeWakes_m : Nat := mask [LNO_PAY_CFG.TEST, LNO_CTL.TARGET_STATE] ||| setF_m ||| exitOut_m
theorem takeWakes_may (h : May M I) (hm : Sub takeWakes_m M) {b0} {b1} (hb1 : I b1) : I (takeWakes b0 b1) := by
  have ho := (Sub.rfl.inl.inl.trans hm)
  unfold takeWakes
  extract_lets -merge -useContext x0
  have hx0 : I x0 := by
    unfold x0
    refine setF_may h (Sub.rfl.inr.inl.trans hm) (ho.ok (by decide +kernel)) hb1
  clear_value x0
  refine may_ite ?_ ?_
  · refine exitOut_may h (Sub.rfl.inr.trans hm) ?_
    · refine setF_may h (Sub.rfl.inr.inl.trans hm) (ho.ok (by decide +kernel)) hx0
  · exact hx0

def setXOut_m : Nat := setXpt_m
theorem setXOut_may (h : May M I) (hm : Sub setXOut_m M) {b0} {b1} {b2} (hb2 : I b2) : I (setXOut b0 b1 b2) := by
  unfold setXOut
  refine setXpt_may h (Sub.rfl.trans hm) hb2

def setXIn_m : Nat := setXpt_m
theorem setXIn_may (h : May M I) (hm : Sub setXIn_m M) {b0} {b1} {b2} (hb2 : I b2) : I (setXIn b0 b1 b2) := by
  unfold setXIn
  refine setXpt_may h (Sub.rfl.trans hm) hb2

def setAlloc_m : Nat := setXpt_m
theorem setAlloc_may (h : May M I) (hm : Sub setAlloc_m M) {b0} {b1} {b2} (hb2 : I b2) : I (setAlloc b0 b1 b2) := by
  unfold setAlloc
  refine setXpt_may h (Sub.rfl.trans hm) hb2

def setReader_m : Nat := setAlloc_m
theorem setReader_may (h : May M I) (hm : Sub setReader_m M) {b0} {b1} {b2} {b3} (hb3 : I b3) : I (setReader b0 b1 b2 b3) := by
  unfold setReader
  refine setAlloc_may h (Sub.rfl.trans hm) hb3

def endWith_m : Nat := setXOut_m
theorem endWith_may (h : May M I) (hm : Sub endWith_m M) {b0} {b1} {b2} (hb2 : I b2) : I (endWith b0 b1 b2) := by
  unfold endWith
  extract_lets -merge -useContext x0
  refine setXOut_may h (Sub.rfl.trans hm) hb2

def endStream_m : Nat := endWith_m
theorem endStream_may (h : May M I) (hm : Sub endStream_m M) {b0} {b1} (hb1 : I b1) : I (endStream b0 b1) := by
  unfold endStream
  extract_lets -merge -useContext x0 x1 x2
  refine may_ite ?_ ?_
  · exact hb1
  · refine may_ite ?_ ?_
    · refine endWith_may h (Sub.rfl.trans hm) hb1
    · refine endWith_may h (Sub.rfl.trans hm) hb1

def endLine_m : Nat := endWith_m
theorem endLine_may (h : May M I) (hm : Sub endLine_m M) {b0} {b1} (hb1 : I b1) : I (endLine b0 b1) := by
  unfold endLine
  extract_lets -merge -useContext x0 x1 x2 x3 x4
  refine may_ite ?_ ?_
  · exact hb1
  · refine endWith_may h (Sub.rfl.trans hm) hb1

def beginStream_m : Nat := setXOut_m
theorem beginStream_may (h : May M I) (hm : Sub beginStream_m M) {b0} {b1} {b2} {b3} {b4} (hb4 : I b4) : I (beginStream b0 b1 b2 b3 b4) := by
  unfold beginStream
  extract_lets -merge -useContext x0 x1 x2
  refine setXOut_may h (Sub.rfl.trans hm) hb4

def showOut_m : Nat := mask [XPT_OUT_STATE.FORMAT, XPT_OUT_STATE.MODE] ||| setF_m
theorem showOut_may (h : May M I) (hm : Sub showOut_m M) {b0} {b1} {b2} {b3} (hb3 : I b3) : I (showOut b0 b1 b2 b3) := by
  have ho := (Sub.rfl.inl.trans hm)
  unfold showOut
  refine setF_may h (Sub.rfl.inr.trans hm) (ho.ok (by decide +kernel)) ?_
  · refine setF_may h (Sub.rfl.inr.trans hm) (ho.ok (by decide +kernel)) hb3

def movePath_m : Nat := showOut_m ||| endStream_m ||| beginStream_m
theorem movePath_may (h : May M I) (hm : Sub movePath_m M) {b0} {b1} {b2} {b3} {b4} (hb4 : I b4) : I (movePath b0 b1 b2 b3 b4) := by
  unfold movePath
  extract_lets -merge -useContext x0
  have hx0 : I x0 := by
    unfold x0
    refine showOut_may h (Sub.rfl.inl.inl.trans hm) ?_
    · refine endStream_may h (Sub.rfl.inr.inl.trans hm) hb4
  clear_value x0
  refine may_ite ?_ ?_
  · refine beginStream_may h (Sub.rfl.inr.trans hm) hx0
  · exact hx0

def noteUnsync_m : Nat := mask [XPT_OUT_EVT.UNSYNC, XPT_OUT_UNSYNC_CNT.COUNT, XPT_OUT_EVT.UNSYNC_OVF] ||| setXOut_m ||| raise_m ||| bump32_m
theorem noteUnsync_may (h : May M I) (hm : Sub noteUnsync_m M) {b0} {b1} (hb1 : I b1) : I (noteUnsync b0 b1) := by
  have ho := (Sub.rfl.inl.inl.inl.trans hm)
  unfold noteUnsync
  refine setXOut_may h (Sub.rfl.inr.inl.inl.trans hm) ?_
  · refine raise_may h (Sub.rfl.inr.inl.trans hm) (ho.okAll (by decide +kernel)) ?_
    · refine bump32_may h (Sub.rfl.inr.trans hm) (ho.ok (by decide +kernel)) (ho.ok (by decide +kernel)) hb1

def noteSwitch_m : Nat := mask [XPT_OUT_EVT.SWITCH, XPT_OUT_SWITCH_CNT.COUNT, XPT_OUT_EVT.SWITCH_OVF] ||| setXOut_m ||| setF_m ||| bump32_m
theorem noteSwitch_may (h : May M I) (hm : Sub noteSwitch_m M) {b0} {b1} {b2} (hb2 : I b2) : I (noteSwitch b0 b1 b2) := by
  have ho := (Sub.rfl.inl.inl.inl.trans hm)
  unfold noteSwitch
  refine setXOut_may h (Sub.rfl.inr.inl.inl.trans hm) ?_
  · refine setF_may h (Sub.rfl.inr.inl.trans hm) (ho.ok (by decide +kernel)) ?_
    · refine bump32_may h (Sub.rfl.inr.trans hm) (ho.ok (by decide +kernel)) (ho.ok (by decide +kernel)) hb2

def enterOverrate_m : Nat := mask [XPT_OUT_EVT.OVERRATE] ||| setXOut_m ||| raise_m ||| showOut_m ||| endLine_m
theorem enterOverrate_may (h : May M I) (hm : Sub enterOverrate_m M) {b0} {b1} (hb1 : I b1) : I (enterOverrate b0 b1) := by
  have ho := (Sub.rfl.inl.inl.inl.inl.trans hm)
  unfold enterOverrate
  refine setXOut_may h (Sub.rfl.inr.inl.inl.inl.trans hm) ?_
  · refine raise_may h (Sub.rfl.inr.inl.inl.trans hm) (ho.okAll (by decide +kernel)) ?_
    · refine showOut_may h (Sub.rfl.inr.inl.trans hm) ?_
      · refine endLine_may h (Sub.rfl.inr.trans hm) hb1

def orderMove_m : Nat := setXOut_m
theorem orderMove_may (h : May M I) (hm : Sub orderMove_m M) {b0} {b1} {b2} (hb2 : I b2) : I (orderMove b0 b1 b2) := by
  unfold orderMove
  refine setXOut_may h (Sub.rfl.trans hm) hb2

def orderReturn_m : Nat := orderMove_m
theorem orderReturn_may (h : May M I) (hm : Sub orderReturn_m M) {b0} {b1} {b2} {b3} (hb3 : I b3) : I (orderReturn b0 b1 b2 b3) := by
  unfold orderReturn
  refine may_ite ?_ ?_
  · refine orderMove_may h (Sub.rfl.trans hm) hb3
  · exact hb3

def makeSwitch_m : Nat := mask [XPT_OUT_EVT.FMT] ||| noteSwitch_m ||| setXOut_m ||| noteUnsync_m ||| raise_m ||| movePath_m ||| enterOverrate_m ||| orderReturn_m
theorem makeSwitch_may (h : May M I) (hm : Sub makeSwitch_m M) {b0} {b1} {b2} {b3} {b4} {b5} (hb5 : I b5) : I (makeSwitch b0 b1 b2 b3 b4 b5).2 := by
  have ho := (Sub.rfl.inl.inl.inl.inl.inl.inl.inl.trans hm)
  unfold makeSwitch
  extract_lets -merge -useContext x0 x1 x2 x3 x4 x5
  have hx1 : I x1 := by
    unfold x1
    refine noteSwitch_may h (Sub.rfl.inr.inl.inl.inl.inl.inl.inl.trans hm) hb5
  clear_value x1
  have hx2 : I x2 := by
    unfold x2
    refine setXOut_may h (Sub.rfl.inr.inl.inl.inl.inl.inl.trans hm) hx1
  clear_value x2
  have hx3 : I x3 := by
    unfold x3
    refine may_ite ?_ ?_
    · refine noteUnsync_may h (Sub.rfl.inr.inl.inl.inl.inl.trans hm) hx2
    · exact hx2
  clear_value x3
  have hx4 : I x4 := by
    unfold x4
    refine may_ite ?_ ?_
    · refine raise_may h (Sub.rfl.inr.inl.inl.inl.trans hm) (ho.okAll (by decide +kernel)) hx3
    · exact hx3
  clear_value x4
  refine may_ite2 ?_ ?_
  · refine movePath_may h (Sub.rfl.inr.inl.inl.trans hm) ?_
    · refine setXOut_may h (Sub.rfl.inr.inl.inl.inl.inl.inl.trans hm) hx2
  · refine may_ite2 ?_ ?_
    · refine enterOverrate_may h (Sub.rfl.inr.inl.trans hm) hx4
    · refine orderReturn_may h (Sub.rfl.inr.trans hm) ?_
      · refine movePath_may h (Sub.rfl.inr.inl.inl.trans hm) hx4

def countTake_m : Nat := mask [XPT_TAKE_CNT.COUNT, XPT_CNT_FLAGS.TAKE_WRAP] ||| bump64_m
theorem countTake_may (h : May M I) (hm : Sub countTake_m M) {b0} (hb0 : I b0) : I (countTake b0) := by
  have ho := (Sub.rfl.inl.trans hm)
  unfold countTake
  refine bump64_may h (Sub.rfl.inr.trans hm) (ho.ok (by decide +kernel)) (ho.ok (by decide +kernel)) hb0

def dropPend_m : Nat := mask [XPT_OUT_STATE.PEND] ||| setXpt_m ||| setB_m
theorem dropPend_may (h : May M I) (hm : Sub dropPend_m M) {b0} {b1} {b2} (hb2 : I b2) : I (dropPend b0 b1 b2) := by
  have ho := (Sub.rfl.inl.inl.trans hm)
  unfold dropPend
  extract_lets -merge -useContext x0
  have hx0 : I x0 := by
    unfold x0
    refine setXpt_may h (Sub.rfl.inr.inl.trans hm) hb2
  clear_value x0
  refine setB_may h (Sub.rfl.inr.trans hm) (ho.ok (by decide +kernel)) hx0

def supersede_m : Nat := modCmd_m
theorem supersede_may (h : May M I) (hm : Sub supersede_m M) {b0} {b1} {b2} (hb2 : I b2) : I (supersede b0 b1 b2) := by
  unfold supersede
  refine modCmd_may h (Sub.rfl.trans hm) hb2

def commitTake_m : Nat := mask [XPT_OUT_SRC.SOURCE] ||| setXOut_m ||| makeSwitch_m ||| countTake_m ||| setF_m ||| storeRoute_m ||| memberDone_m
theorem commitTake_may (h : May M I) (hm : Sub commitTake_m M) {b0} {b1} {b2} {b3} {b4} (hb4 : I b4) : I (commitTake b0 b1 b2 b3 b4) := by
  have ho := (Sub.rfl.inl.inl.inl.inl.inl.inl.trans hm)
  unfold commitTake
  extract_lets -merge -useContext x0 x1 x2
  have hx2 : I x2 := by
    unfold x2
    refine setXOut_may h (Sub.rfl.inr.inl.inl.inl.inl.inl.trans hm) hb4
  clear_value x2
  split
  · rename_i p3 p4 heq5
    have hp4 : I p4 := by
      refine Eq.subst (motive := I) (congrArg Prod.snd heq5) ?_
      refine may_ite2 ?_ ?_
      · exact hb4
      · refine makeSwitch_may h (Sub.rfl.inr.inl.inl.inl.inl.trans hm) hx2
    extract_lets -merge -useContext x6 x7
    have hx6 : I x6 := by
      unfold x6
      refine countTake_may h (Sub.rfl.inr.inl.inl.inl.trans hm) ?_
      · refine setF_may h (Sub.rfl.inr.inl.inl.trans hm) (ho.ok (by decide +kernel)) hp4
    clear_value x6
    have hx7 : I x7 := by
      unfold x7
      refine may_ite ?_ ?_
      · exact hx6
      · refine storeRoute_may h (Sub.rfl.inr.inl.trans hm) hx6
    clear_value x7
    refine may_ite ?_ ?_
    · exact hx7
    · refine memberDone_may h (Sub.rfl.inr.trans hm) hx7

def dropChoice_m : Nat := setTwin_m
theorem dropChoice_may (h : May M I) (hm : Sub dropChoice_m M) {b0} {b1} (hb1 : I b1) : I (dropChoice b0 b1) := by
  unfold dropChoice
  refine setTwin_may h (Sub.rfl.trans hm) hb1

def applyTakes_m : Nat := forEach_m ||| supersede_m ||| commitTake_m ||| dropPend_m ||| dropChoice_m
theorem applyTakes_may (h : May M I) (hm : Sub applyTakes_m M) {b0} {b1} {b2} (hb2 : I b2) : I (applyTakes b0 b1 b2) := by
  unfold applyTakes
  extract_lets -merge -useContext x0 x1
  have hx1 : I x1 := by
    unfold x1
    refine forEach_may h (Sub.rfl.inl.inl.inl.inl.trans hm) (fun a2 a3 ha3 => ?_) hb2
    · refine supersede_may h (Sub.rfl.inr.inl.inl.inl.trans hm) ha3
  clear_value x1
  split
  · exact hb2
  · extract_lets -merge -useContext x4 x5 x6
    have hx6 : I x6 := by
      unfold x6
      refine commitTake_may h (Sub.rfl.inr.inl.inl.trans hm) hx1
    clear_value x6
    refine dropPend_may h (Sub.rfl.inr.inl.trans hm) ?_
    · refine dropChoice_may h (Sub.rfl.inr.trans hm) hx6

def orderFallback_m : Nat := orderMove_m
theorem orderFallback_may (h : May M I) (hm : Sub orderFallback_m M) {b0} {b1} {b2} (hb2 : I b2) : I (orderFallback b0 b1 b2) := by
  unfold orderFallback
  refine may_ite ?_ ?_
  · refine orderMove_may h (Sub.rfl.trans hm) hb2
  · exact hb2

def exitToFree_m : Nat := orderFallback_m ||| showOut_m ||| noteUnsync_m ||| noteSwitch_m
theorem exitToFree_may (h : May M I) (hm : Sub exitToFree_m M) {b0} {b1} {b2} (hb2 : I b2) : I (exitToFree b0 b1 b2) := by
  unfold exitToFree
  refine may_ite ?_ ?_
  · refine orderFallback_may h (Sub.rfl.inl.inl.inl.trans hm) ?_
    · refine showOut_may h (Sub.rfl.inr.inl.inl.trans hm) ?_
      · refine noteUnsync_may h (Sub.rfl.inr.inl.trans hm) ?_
        · refine noteSwitch_may h (Sub.rfl.inr.trans hm) hb2
  · exact hb2

def inputLoss_m : Nat := orderMove_m ||| setXOut_m ||| showOut_m ||| endWith_m
theorem inputLoss_may (h : May M I) (hm : Sub inputLoss_m M) {b0} {b1} {b2} (hb2 : I b2) : I (inputLoss b0 b1 b2) := by
  unfold inputLoss
  refine may_ite ?_ ?_
  · refine may_ite ?_ ?_
    · refine orderMove_may h (Sub.rfl.inl.inl.inl.trans hm) hb2
    · refine setXOut_may h (Sub.rfl.inr.inl.inl.trans hm) ?_
      · refine showOut_may h (Sub.rfl.inr.inl.trans hm) ?_
        · refine endWith_may h (Sub.rfl.inr.trans hm) hb2
  · exact hb2

def inputReturn_m : Nat := enterOverrate_m ||| setXOut_m
theorem inputReturn_may (h : May M I) (hm : Sub inputReturn_m M) {b0} {b1} (hb1 : I b1) : I (inputReturn b0 b1) := by
  unfold inputReturn
  refine may_ite ?_ ?_
  · exact hb1
  · refine may_ite ?_ ?_
    · refine enterOverrate_may h (Sub.rfl.inl.trans hm) hb1
    · refine setXOut_may h (Sub.rfl.inr.trans hm) hb1

def inputIn_m : Nat := orderMove_m
theorem inputIn_may (h : May M I) (hm : Sub inputIn_m M) {b0} {b1} (hb1 : I b1) : I (inputIn b0 b1) := by
  unfold inputIn
  refine may_ite ?_ ?_
  · refine orderMove_may h (Sub.rfl.trans hm) hb1
  · exact hb1

def setMeas_m : Nat := setXpt_m
theorem setMeas_may (h : May M I) (hm : Sub setMeas_m M) {b0} {b1} {b2} (hb2 : I b2) : I (setMeas b0 b1 b2) := by
  unfold setMeas
  refine setXpt_may h (Sub.rfl.trans hm) hb2

def noteLoss_m : Nat := setMeas_m
theorem noteLoss_may (h : May M I) (hm : Sub noteLoss_m M) {b0} {b1} {b2} {b3} (hb3 : I b3) : I (noteLoss b0 b1 b2 b3) := by
  unfold noteLoss
  refine may_ite ?_ ?_
  · exact hb3
  · refine setMeas_may h (Sub.rfl.trans hm) hb3

def enterWin_m : Nat := mask [XPT_IN_STATUS.WIN, XPT_IN_PHASE.PHASE_NS, XPT_IN_EVT.GUARD, XPT_IN_EVT.WIN_EXIT, XPT_IN_EXIT_CNT.COUNT, XPT_IN_EVT.EXIT_OVF] ||| setF_m ||| noteLoss_m ||| setXIn_m ||| raise_m ||| bump32_m ||| forEach_m ||| inputReturn_m ||| inputLoss_m ||| orderFallback_m ||| exitToFree_m ||| inputIn_m
theorem enterWin_may (h : May M I) (hm : Sub enterWin_m M) {b0} {b1} {b2} (hb2 : I b2) : I (enterWin b0 b1 b2) := by
  have ho := (Sub.rfl.inl.inl.inl.inl.inl.inl.inl.inl.inl.inl.inl.trans hm)
  unfold enterWin
  extract_lets -merge -useContext x0 x1 x2 x3 x4 x5 x6 x7 x8
  have hx1 : I x1 := by
    unfold x1
    refine setF_may h (Sub.rfl.inr.inl.inl.inl.inl.inl.inl.inl.inl.inl.inl.trans hm) (ho.ok (by decide +kernel)) hb2
  clear_value x1
  have hx2 : I x2 := by
    unfold x2
    refine may_ite ?_ ?_
    · refine setF_may h (Sub.rfl.inr.inl.inl.inl.inl.inl.inl.inl.inl.inl.inl.trans hm) (ho.ok (by decide +kernel)) hx1
    · exact hx1
  clear_value x2
  have hx3 : I x3 := by
    unfold x3
    refine noteLoss_may h (Sub.rfl.inr.inl.inl.inl.inl.inl.inl.inl.inl.inl.trans hm) hx2
  clear_value x3
  have hx4 : I x4 := by
    unfold x4
    refine may_ite ?_ ?_
    · refine setXIn_may h (Sub.rfl.inr.inl.inl.inl.inl.inl.inl.inl.inl.trans hm) hx3
    · exact hx3
  clear_value x4
  have hx5 : I x5 := by
    unfold x5
    refine may_ite ?_ ?_
    · exact hx4
    · refine setXIn_may h (Sub.rfl.inr.inl.inl.inl.inl.inl.inl.inl.inl.trans hm) hx4
  clear_value x5
  have hx6 : I x6 := by
    unfold x6
    refine may_ite ?_ ?_
    · refine raise_may h (Sub.rfl.inr.inl.inl.inl.inl.inl.inl.inl.trans hm) (ho.okAll (by decide +kernel)) hx5
    · exact hx5
  clear_value x6
  have hx7 : I x7 := by
    unfold x7
    refine may_ite ?_ ?_
    · refine raise_may h (Sub.rfl.inr.inl.inl.inl.inl.inl.inl.inl.trans hm) (ho.okAll (by decide +kernel)) ?_
      · refine bump32_may h (Sub.rfl.inr.inl.inl.inl.inl.inl.inl.trans hm) (ho.ok (by decide +kernel)) (ho.ok (by decide +kernel)) hx6
    · exact hx6
  clear_value x7
  have hx8 : I x8 := by
    unfold x8
    refine may_ite ?_ ?_
    · refine forEach_may h (Sub.rfl.inr.inl.inl.inl.inl.inl.trans hm) (fun a9 a10 ha10 => ?_) hx7
      · refine inputReturn_may h (Sub.rfl.inr.inl.inl.inl.inl.trans hm) ha10
    · exact hx7
  clear_value x8
  refine may_ite ?_ ?_
  · exact hb2
  · refine may_ite ?_ ?_
    · refine forEach_may h (Sub.rfl.inr.inl.inl.inl.inl.inl.trans hm) (fun a11 a12 ha12 => ?_) hx8
      · refine inputLoss_may h (Sub.rfl.inr.inl.inl.inl.trans hm) ha12
    · refine may_ite ?_ ?_
      · refine forEach_may h (Sub.rfl.inr.inl.inl.inl.inl.inl.trans hm) (fun a13 a14 ha14 => ?_) hx8
        · refine may_ite ?_ ?_
          · refine orderFallback_may h (Sub.rfl.inr.inl.inl.trans hm) ha14
          · exact ha14
      · refine may_ite ?_ ?_
        · refine forEach_may h (Sub.rfl.inr.inl.inl.inl.inl.inl.trans hm) (fun a15 a16 ha16 => ?_) hx8
          · refine exitToFree_may h (Sub.rfl.inr.inl.trans hm) ha16
        · refine may_ite ?_ ?_
          · refine forEach_may h (Sub.rfl.inr.inl.inl.inl.inl.inl.trans hm) (fun a17 a18 ha18 => ?_) hx8
            · refine inputIn_may h (Sub.rfl.inr.trans hm) ha18
          · exact hx8

def judgeWin_m : Nat := mask [XPT_IN_PHASE.PHASE_NS] ||| setXIn_m ||| enterWin_m ||| setF_m
theorem judgeWin_may (h : May M I) (hm : Sub judgeWin_m M) {b0} {b1} {b2} (hb2 : I b2) : I (judgeWin b0 b1 b2) := by
  have ho := (Sub.rfl.inl.inl.inl.trans hm)
  unfold judgeWin
  extract_lets -merge -useContext x0 x1 x2
  have hx0 : I x0 := by
    unfold x0
    refine setXIn_may h (Sub.rfl.inr.inl.inl.trans hm) hb2
  clear_value x0
  have hx2 : I x2 := by
    unfold x2
    refine enterWin_may h (Sub.rfl.inr.inl.trans hm) hx0
  clear_value x2
  refine may_ite ?_ ?_
  · exact hx2
  · refine setF_may h (Sub.rfl.inr.trans hm) (ho.ok (by decide +kernel)) hx2

def reacquire_m : Nat := mask [XPT_IN_EVT.WIN_ENTER] ||| setXIn_m ||| enterWin_m ||| raise_m
theorem reacquire_may (h : May M I) (hm : Sub reacquire_m M) {b0} {b1} {b2} (hb2 : I b2) : I (reacquire b0 b1 b2) := by
  have ho := (Sub.rfl.inl.inl.inl.trans hm)
  unfold reacquire
  extract_lets -merge -useContext x0 x1 x2
  have hx1 : I x1 := by
    unfold x1
    refine setXIn_may h (Sub.rfl.inr.inl.inl.trans hm) hb2
  clear_value x1
  refine may_ite ?_ ?_
  · refine may_ite ?_ ?_
    · refine may_ite ?_ ?_
      · refine enterWin_may h (Sub.rfl.inr.inl.trans hm) ?_
        · refine raise_may h (Sub.rfl.inr.trans hm) (ho.okAll (by decide +kernel)) ?_
          · refine setXIn_may h (Sub.rfl.inr.inl.inl.trans hm) hx1
      · refine setXIn_may h (Sub.rfl.inr.inl.inl.trans hm) hx1
    · refine setXIn_may h (Sub.rfl.inr.inl.inl.trans hm) hx1
  · exact hb2

def setInFmt_m : Nat := mask [XPT_IN_EVT.FMT_CHANGE, XPT_IN_STATUS.FORMAT, XPT_OUT_STATE.FORMAT] ||| raise_m ||| setF_m ||| forEach_m ||| enterOverrate_m ||| setXOut_m ||| showOut_m
theorem setInFmt_may (h : May M I) (hm : Sub setInFmt_m M) {b0} {b1} {b2} (hb2 : I b2) : I (setInFmt b0 b1 b2) := by
  have ho := (Sub.rfl.inl.inl.inl.inl.inl.inl.trans hm)
  unfold setInFmt
  extract_lets -merge -useContext x0
  have hx0 : I x0 := by
    unfold x0
    refine raise_may h (Sub.rfl.inr.inl.inl.inl.inl.inl.trans hm) (ho.okAll (by decide +kernel)) ?_
    · refine setF_may h (Sub.rfl.inr.inl.inl.inl.inl.trans hm) (ho.ok (by decide +kernel)) hb2
  clear_value x0
  refine may_ite ?_ ?_
  · exact hb2
  · refine forEach_may h (Sub.rfl.inr.inl.inl.inl.trans hm) (fun a1 a2 ha2 => ?_) hx0
    · refine may_ite ?_ ?_
      · exact ha2
      · refine may_ite ?_ ?_
        · refine enterOverrate_may h (Sub.rfl.inr.inl.inl.trans hm) ha2
        · refine may_ite ?_ ?_
          · refine setXOut_may h (Sub.rfl.inr.inl.trans hm) ?_
            · refine showOut_may h (Sub.rfl.inr.trans hm) ha2
          · refine may_ite ?_ ?_
            · refine setF_may h (Sub.rfl.inr.inl.inl.inl.inl.trans hm) (ho.ok (by decide +kernel)) ha2
            · refine may_ite ?_ ?_
              · refine setF_may h (Sub.rfl.inr.inl.inl.inl.inl.trans hm) (ho.ok (by decide +kernel)) ha2
              · exact ha2

def joinStream_m : Nat := noteUnsync_m ||| movePath_m
theorem joinStream_may (h : May M I) (hm : Sub joinStream_m M) {b0} {b1} (hb1 : I b1) : I (joinStream b0 b1) := by
  unfold joinStream
  extract_lets -merge -useContext x0 x1
  have hx1 : I x1 := by
    unfold x1
    refine may_ite ?_ ?_
    · refine noteUnsync_may h (Sub.rfl.inl.trans hm) hb1
    · exact hb1
  clear_value x1
  refine movePath_may h (Sub.rfl.inr.trans hm) hx1

def makeMove_m : Nat := mask [XPT_OUT_EVT.RETURN, XPT_OUT_EVT.FALLBACK, XPT_OUT_FALLBACK_CNT.COUNT, XPT_OUT_EVT.FALLBACK_OVF] ||| setXOut_m ||| raise_m ||| makeSwitch_m ||| bump32_m
theorem makeMove_may (h : May M I) (hm : Sub makeMove_m M) {b0} {b1} {b2} (hb2 : I b2) : I (makeMove b0 b1 b2) := by
  have ho := (Sub.rfl.inl.inl.inl.inl.trans hm)
  unfold makeMove
  extract_lets -merge -useContext x0 x1
  have hx1 : I x1 := by
    unfold x1
    refine setXOut_may h (Sub.rfl.inr.inl.inl.inl.trans hm) hb2
  clear_value x1
  refine may_ite ?_ ?_
  · refine may_ite ?_ ?_
    · refine raise_may h (Sub.rfl.inr.inl.inl.trans hm) (ho.okAll (by decide +kernel)) ?_
      · refine makeSwitch_may h (Sub.rfl.inr.inl.trans hm) hx1
    · exact hx1
  · refine raise_may h (Sub.rfl.inr.inl.inl.trans hm) (ho.okAll (by decide +kernel)) ?_
    · refine bump32_may h (Sub.rfl.inr.trans hm) (ho.ok (by decide +kernel)) (ho.ok (by decide +kernel)) ?_
      · refine makeSwitch_may h (Sub.rfl.inr.inl.trans hm) hx1

def repathAt_m : Nat := setXOut_m ||| makeSwitch_m
theorem repathAt_may (h : May M I) (hm : Sub repathAt_m M) {b0} {b1} (hb1 : I b1) : I (repathAt b0 b1) := by
  unfold repathAt
  extract_lets -merge -useContext x0 x1
  have hx1 : I x1 := by
    unfold x1
    refine setXOut_may h (Sub.rfl.inl.trans hm) hb1
  clear_value x1
  refine may_ite ?_ ?_
  · refine setXOut_may h (Sub.rfl.inl.trans hm) hx1
  · refine makeSwitch_may h (Sub.rfl.inr.trans hm) hx1

def autoMove_m : Nat := makeMove_m ||| repathAt_m
theorem autoMove_may (h : May M I) (hm : Sub autoMove_m M) {b0} {b1} {b2} (hb2 : I b2) : I (autoMove b0 b1 b2) := by
  unfold autoMove
  extract_lets -merge -useContext x0
  split
  · refine may_ite ?_ ?_
    · exact hb2
    · refine makeMove_may h (Sub.rfl.inl.trans hm) hb2
  · split
    · refine may_ite ?_ ?_
      · refine repathAt_may h (Sub.rfl.inr.trans hm) hb2
      · exact hb2
    · exact hb2

def stopWriting_m : Nat := setAlloc_m
theorem stopWriting_may (h : May M I) (hm : Sub stopWriting_m M) {b0} {b1} (hb1 : I b1) : I (stopWriting b0 b1) := by
  unfold stopWriting
  refine setAlloc_may h (Sub.rfl.trans hm) hb1

def writerStart_m : Nat := mask [KNL_ALLOC_EVT.SIZE, KNL_ALLOC_STATUS.SIZE] ||| stopWriting_m ||| setAlloc_m ||| raise_m ||| setF_m
theorem writerStart_may (h : May M I) (hm : Sub writerStart_m M) {b0} {b1} {b2} (hb2 : I b2) : I (writerStart b0 b1 b2) := by
  have ho := (Sub.rfl.inl.inl.inl.inl.trans hm)
  unfold writerStart
  refine may_ite ?_ ?_
  · refine stopWriting_may h (Sub.rfl.inr.inl.inl.inl.trans hm) hb2
  · refine may_ite ?_ ?_
    · refine setAlloc_may h (Sub.rfl.inr.inl.inl.trans hm) ?_
      · refine stopWriting_may h (Sub.rfl.inr.inl.inl.inl.trans hm) ?_
        · refine raise_may h (Sub.rfl.inr.inl.trans hm) (ho.okAll (by decide +kernel)) ?_
          · refine setF_may h (Sub.rfl.inr.trans hm) (ho.ok (by decide +kernel)) hb2
    · refine setAlloc_may h (Sub.rfl.inr.inl.inl.trans hm) ?_
      · refine setF_may h (Sub.rfl.inr.trans hm) (ho.ok (by decide +kernel)) hb2

def writerLoss_m : Nat := mask [KNL_ALLOC_EVT.LOSS, KNL_ALLOC_STATUS.LOSS] ||| setAlloc_m ||| stopWriting_m ||| raise_m ||| setF_m
theorem writerLoss_may (h : May M I) (hm : Sub writerLoss_m M) {b0} {b1} (hb1 : I b1) : I (writerLoss b0 b1) := by
  have ho := (Sub.rfl.inl.inl.inl.inl.trans hm)
  unfold writerLoss
  extract_lets -merge -useContext x0
  have hx0 : I x0 := by
    unfold x0
    refine setAlloc_may h (Sub.rfl.inr.inl.inl.inl.trans hm) ?_
    · refine stopWriting_may h (Sub.rfl.inr.inl.inl.trans hm) hb1
  clear_value x0
  refine may_ite ?_ ?_
  · refine raise_may h (Sub.rfl.inr.inl.trans hm) (ho.okAll (by decide +kernel)) ?_
    · refine setF_may h (Sub.rfl.inr.trans hm) (ho.ok (by decide +kernel)) hx0
  · exact hx0

def frameComplete_m : Nat := mask [KNL_ALLOC_STATUS.FORMAT, KNL_ALLOC_STATUS.VALID, KNL_ALLOC_EVT.RESTORE, KNL_ALLOC_STATUS.LOSS] ||| setAlloc_m ||| setF_m ||| raise_m
theorem frameComplete_may (h : May M I) (hm : Sub frameComplete_m M) {b0} {b1} {b2} {b3} {b4} (hb4 : I b4) : I (frameComplete b0 b1 b2 b3 b4) := by
  have ho := (Sub.rfl.inl.inl.inl.trans hm)
  unfold frameComplete
  extract_lets -merge -useContext x0 x1 x2 x3 x4
  have hx3 : I x3 := by
    unfold x3
    refine setAlloc_may h (Sub.rfl.inr.inl.inl.trans hm) hb4
  clear_value x3
  have hx4 : I x4 := by
    unfold x4
    refine setF_may h (Sub.rfl.inr.inl.trans hm) (ho.ok (by decide +kernel)) ?_
    · refine setF_may h (Sub.rfl.inr.inl.trans hm) (ho.ok (by decide +kernel)) hx3
  clear_value x4
  refine may_ite ?_ ?_
  · refine raise_may h (Sub.rfl.inr.trans hm) (ho.okAll (by decide +kernel)) ?_
    · refine setF_may h (Sub.rfl.inr.inl.trans hm) (ho.ok (by decide +kernel)) hx4
  · exact hx4

def writerFrameEnd_m : Nat := frameComplete_m ||| setAlloc_m
theorem writerFrameEnd_may (h : May M I) (hm : Sub writerFrameEnd_m M) {b0} {b1} {b2} {b3} {b4} (hb4 : I b4) : I (writerFrameEnd b0 b1 b2 b3 b4) := by
  unfold writerFrameEnd
  extract_lets -merge -useContext x0 x1
  have hx1 : I x1 := by
    unfold x1
    refine may_ite ?_ ?_
    · refine frameComplete_may h (Sub.rfl.inl.trans hm) hb4
    · exact hb4
  clear_value x1
  refine setAlloc_may h (Sub.rfl.inr.trans hm) hx1

def storePacket_m : Nat := mask [KNL_ALLOC_EVT.ANC_DROP, KNL_ALLOC_ANC_DROP.COUNT, KNL_ALLOC_EVT.ANC_OVF] ||| setAlloc_m ||| raise_m ||| bump32_m
theorem storePacket_may (h : May M I) (hm : Sub storePacket_m M) {b0} {b1} {b2} {b3} (hb3 : I b3) : I (storePacket b0 b1 b2 b3) := by
  have ho := (Sub.rfl.inl.inl.inl.trans hm)
  unfold storePacket
  extract_lets -merge -useContext x0
  refine may_ite ?_ ?_
  · exact hb3
  · refine may_ite ?_ ?_
    · refine setAlloc_may h (Sub.rfl.inr.inl.inl.trans hm) hb3
    · refine raise_may h (Sub.rfl.inr.inl.trans hm) (ho.okAll (by decide +kernel)) ?_
      · refine bump32_may h (Sub.rfl.inr.trans hm) (ho.ok (by decide +kernel)) (ho.ok (by decide +kernel)) hb3

def inputWriterLoss_m : Nat := forEach_m ||| writerLoss_m
theorem inputWriterLoss_may (h : May M I) (hm : Sub inputWriterLoss_m M) {b0} {b1} (hb1 : I b1) : I (inputWriterLoss b0 b1) := by
  unfold inputWriterLoss
  refine forEach_may h (Sub.rfl.inl.trans hm) (fun a0 a1 ha1 => ?_) hb1
  · refine writerLoss_may h (Sub.rfl.inr.trans hm) ha1

def applyFreezes_m : Nat := mask [KNL_ALLOC_STATUS.FROZEN] ||| forEach_m ||| modCmd_m ||| setAlloc_m ||| stopWriting_m ||| setF_m ||| memberDone_m
theorem applyFreezes_may (h : May M I) (hm : Sub applyFreezes_m M) {b0} {b1} {b2} (hb2 : ∀ a0, I a0 → I (b2 a0)) {b3} (hb3 : I b3) : I (applyFreezes b0 b1 b2 b3) := by
  have ho := (Sub.rfl.inl.inl.inl.inl.inl.inl.trans hm)
  unfold applyFreezes
  extract_lets -merge -useContext x0 x1 x2
  have hx1 : I x1 := by
    unfold x1
    refine forEach_may h (Sub.rfl.inr.inl.inl.inl.inl.inl.trans hm) (fun a3 a4 ha4 => ?_) hb3
    · refine modCmd_may h (Sub.rfl.inr.inl.inl.inl.inl.trans hm) ha4
  clear_value x1
  have hx2 : I x2 := by
    unfold x2
    refine setAlloc_may h (Sub.rfl.inr.inl.inl.inl.trans hm) hx1
  clear_value x2
  split
  · exact hb3
  · extract_lets -merge -useContext x5
    have hx5 : I x5 := by
      unfold x5
      refine may_ite ?_ ?_
      · refine stopWriting_may h (Sub.rfl.inr.inl.inl.trans hm) ?_
        · refine setF_may h (Sub.rfl.inr.inl.trans hm) (ho.ok (by decide +kernel)) hx2
      · refine hb2 _ ?_
        · refine setF_may h (Sub.rfl.inr.inl.trans hm) (ho.ok (by decide +kernel)) hx2
    clear_value x5
    refine memberDone_may h (Sub.rfl.inr.trans hm) hx5

def dropReaderChoice_m : Nat := setTwin_m
theorem dropReaderChoice_may (h : May M I) (hm : Sub dropReaderChoice_m M) {b0} {b1} {b2} (hb2 : I b2) : I (dropReaderChoice b0 b1 b2) := by
  unfold dropReaderChoice
  refine setTwin_may h (Sub.rfl.trans hm) hb2

def countRepeat_m : Nat := mask [KNL_ALLOC_EVT.SLIP, KNL_ALLOC_REPEAT_CNT.COUNT, KNL_ALLOC_EVT.REPEAT_OVF] ||| raise_m ||| bump32_m
theorem countRepeat_may (h : May M I) (hm : Sub countRepeat_m M) {b0} {b1} {b2} (hb2 : I b2) : I (countRepeat b0 b1 b2) := by
  have ho := (Sub.rfl.inl.inl.trans hm)
  unfold countRepeat
  refine may_ite ?_ ?_
  · refine raise_may h (Sub.rfl.inr.inl.trans hm) (ho.okAll (by decide +kernel)) ?_
    · refine bump32_may h (Sub.rfl.inr.trans hm) (ho.ok (by decide +kernel)) (ho.ok (by decide +kernel)) hb2
  · exact hb2

def countDrop_m : Nat := mask [KNL_ALLOC_EVT.SLIP, KNL_ALLOC_DROP_CNT.COUNT, KNL_ALLOC_EVT.DROP_OVF] ||| raise_m ||| bump32_m
theorem countDrop_may (h : May M I) (hm : Sub countDrop_m M) {b0} {b1} {b2} (hb2 : I b2) : I (countDrop b0 b1 b2) := by
  have ho := (Sub.rfl.inl.inl.trans hm)
  unfold countDrop
  refine may_ite ?_ ?_
  · refine raise_may h (Sub.rfl.inr.inl.trans hm) (ho.okAll (by decide +kernel)) ?_
    · refine bump32_may h (Sub.rfl.inr.trans hm) (ho.ok (by decide +kernel)) (ho.ok (by decide +kernel)) hb2
  · exact hb2

def showReader_m : Nat := mask [XPT_OUT_STATE.FORMAT] ||| forEach_m ||| setF_m
theorem showReader_may (h : May M I) (hm : Sub showReader_m M) {b0} {b1} {b2} (hb2 : I b2) : I (showReader b0 b1 b2) := by
  have ho := (Sub.rfl.inl.inl.trans hm)
  unfold showReader
  refine forEach_may h (Sub.rfl.inr.inl.trans hm) (fun a0 a1 ha1 => ?_) hb2
  · refine setF_may h (Sub.rfl.inr.trans hm) (ho.ok (by decide +kernel)) ha1

def showBlackOut_m : Nat := mask [KNL_ALLOC_STATUS.BLACK_OUT] ||| setB_m
theorem showBlackOut_may (h : May M I) (hm : Sub showBlackOut_m M) {b0} {b1} (hb1 : I b1) : I (showBlackOut b0 b1) := by
  have ho := (Sub.rfl.inl.trans hm)
  unfold showBlackOut
  refine setB_may h (Sub.rfl.inr.trans hm) (ho.ok (by decide +kernel)) hb1

def sendFrame_m : Nat := mask [KNL_ALLOC_EVT.FMT] ||| raise_m ||| showBlackOut_m ||| showReader_m ||| setReader_m
theorem sendFrame_may (h : May M I) (hm : Sub sendFrame_m M) {b0} {b1} {b2} {b3} {b4} (hb4 : I b4) : I (sendFrame b0 b1 b2 b3 b4) := by
  have ho := (Sub.rfl.inl.inl.inl.inl.trans hm)
  unfold sendFrame
  extract_lets -merge -useContext x0 x1
  have hx1 : I x1 := by
    unfold x1
    refine may_ite ?_ ?_
    · refine raise_may h (Sub.rfl.inr.inl.inl.inl.trans hm) (ho.okAll (by decide +kernel)) hb4
    · exact hb4
  clear_value x1
  refine showBlackOut_may h (Sub.rfl.inr.inl.inl.trans hm) ?_
  · refine showReader_may h (Sub.rfl.inr.inl.trans hm) ?_
    · refine setReader_may h (Sub.rfl.inr.trans hm) hx1

def sendNone_m : Nat := showReader_m ||| setReader_m
theorem sendNone_may (h : May M I) (hm : Sub sendNone_m M) {b0} {b1} {b2} (hb2 : I b2) : I (sendNone b0 b1 b2) := by
  unfold sendNone
  refine showReader_may h (Sub.rfl.inl.trans hm) ?_
  · refine setReader_may h (Sub.rfl.inr.trans hm) hb2

def sendLoss_m : Nat := sendFrame_m ||| sendNone_m ||| showBlackOut_m ||| setReader_m
theorem sendLoss_may (h : May M I) (hm : Sub sendLoss_m M) {b0} {b1} {b2} {b3} (hb3 : I b3) : I (sendLoss b0 b1 b2 b3) := by
  unfold sendLoss
  extract_lets -merge -useContext x0
  have hx0 : I x0 := by
    unfold x0
    refine may_ite ?_ ?_
    · refine sendFrame_may h (Sub.rfl.inl.inl.inl.trans hm) hb3
    · refine sendNone_may h (Sub.rfl.inr.inl.inl.trans hm) hb3
  clear_value x0
  refine showBlackOut_may h (Sub.rfl.inr.inl.trans hm) ?_
  · refine setReader_may h (Sub.rfl.inr.trans hm) hx0

def sendShown_m : Nat := sendFrame_m ||| sendNone_m
theorem sendShown_may (h : May M I) (hm : Sub sendShown_m M) {b0} {b1} {b2} {b3} {b4} (hb4 : I b4) : I (sendShown b0 b1 b2 b3 b4) := by
  unfold sendShown
  split
  · refine may_ite ?_ ?_
    · refine sendFrame_may h (Sub.rfl.inl.trans hm) hb4
    · split
      · refine sendFrame_may h (Sub.rfl.inl.trans hm) hb4
      · refine sendNone_may h (Sub.rfl.inr.trans hm) hb4
  · refine sendNone_may h (Sub.rfl.inr.trans hm) hb4

def repeatShown_m : Nat := sendShown_m ||| countRepeat_m ||| setReader_m ||| sendLoss_m
theorem repeatShown_may (h : May M I) (hm : Sub repeatShown_m M) {b0} {b1} {b2} {b3} (hb3 : I b3) : I (repeatShown b0 b1 b2 b3) := by
  unfold repeatShown
  extract_lets -merge -useContext x0
  refine may_ite ?_ ?_
  · refine sendShown_may h (Sub.rfl.inl.inl.inl.trans hm) hb3
  · refine may_ite ?_ ?_
    · refine sendShown_may h (Sub.rfl.inl.inl.inl.trans hm) ?_
      · refine countRepeat_may h (Sub.rfl.inr.inl.inl.trans hm) hb3
    · refine may_ite ?_ ?_
      · refine sendShown_may h (Sub.rfl.inl.inl.inl.trans hm) ?_
        · refine setReader_may h (Sub.rfl.inr.inl.trans hm) ?_
          · refine countRepeat_may h (Sub.rfl.inr.inl.inl.trans hm) hb3
      · refine sendLoss_may h (Sub.rfl.inr.trans hm) hb3

def actOn_m : Nat := sendShown_m ||| setReader_m ||| sendNone_m ||| countDrop_m ||| repeatShown_m
theorem actOn_may (h : May M I) (hm : Sub actOn_m M) {b0} {b1} {b2} {b3} (hb3 : I b3) : I (actOn b0 b1 b2 b3) := by
  unfold actOn
  extract_lets -merge -useContext x0
  have hx0 : ∀ a0 a1, I a1 → I (x0 a0 a1) := by
    intro a1 a2 ha2
    unfold x0
    refine sendShown_may h (Sub.rfl.inl.inl.inl.inl.trans hm) ?_
    · refine setReader_may h (Sub.rfl.inr.inl.inl.inl.trans hm) ha2
  clear_value x0
  split
  · refine sendNone_may h (Sub.rfl.inr.inl.inl.trans hm) hb3
  · refine hx0 _ _ hb3
  · refine hx0 _ _ hb3
  · refine hx0 _ _ ?_
    · refine countDrop_may h (Sub.rfl.inr.inl.trans hm) hb3
  · refine repeatShown_may h (Sub.rfl.inr.trans hm) hb3

def applySelect_m : Nat := mask [KNL_ALLOC_STATUS.SELECT] ||| forEach_m ||| setF_m ||| setReader_m ||| memberDone_m ||| setAlloc_m
theorem applySelect_may (h : May M I) (hm : Sub applySelect_m M) {b0} {b1} {b2} {b3} (hb3 : I b3) : I (applySelect b0 b1 b2 b3) := by
  have ho := (Sub.rfl.inl.inl.inl.inl.inl.trans hm)
  unfold applySelect
  extract_lets -merge -useContext x0
  refine forEach_may h (Sub.rfl.inr.inl.inl.inl.inl.trans hm) (fun a1 a2 ha2 => ?_) hb3
  · extract_lets -merge -useContext x3 x4 x5
    have hx3 : I x3 := by
      unfold x3
      refine setF_may h (Sub.rfl.inr.inl.inl.inl.trans hm) (ho.ok (by decide +kernel)) ha2
    clear_value x3
    have hx5 : I x5 := by
      unfold x5
      refine setReader_may h (Sub.rfl.inr.inl.inl.trans hm) hx3
    clear_value x5
    refine may_ite ?_ ?_
    · refine memberDone_may h (Sub.rfl.inr.inl.trans hm) ?_
      · refine setAlloc_may h (Sub.rfl.inr.trans hm) hx5
    · refine setAlloc_may h (Sub.rfl.inr.trans hm) hx5

def sendStill_m : Nat := applySelect_m ||| sendFrame_m ||| sendNone_m
theorem sendStill_may (h : May M I) (hm : Sub sendStill_m M) {b0} {b1} {b2} {b3} (hb3 : I b3) : I (sendStill b0 b1 b2 b3) := by
  unfold sendStill
  extract_lets -merge -useContext x0 x1
  have hx0 : I x0 := by
    unfold x0
    refine applySelect_may h (Sub.rfl.inl.inl.trans hm) hb3
  clear_value x0
  split
  · refine may_ite ?_ ?_
    · refine sendFrame_may h (Sub.rfl.inr.inl.trans hm) hx0
    · refine sendNone_may h (Sub.rfl.inr.trans hm) hx0
  · refine sendNone_may h (Sub.rfl.inr.trans hm) hx0

def readerPoint_m : Nat := setReader_m ||| applyFreezes_m ||| sendStill_m ||| actOn_m ||| dropReaderChoice_m
theorem readerPoint_may (h : May M I) (hm : Sub readerPoint_m M) {b0} {b1} {b2} {b3} (hb3 : I b3) : I (readerPoint b0 b1 b2 b3) := by
  unfold readerPoint
  extract_lets -merge -useContext x0 x1 x2
  have hx0 : I x0 := by
    unfold x0
    refine setReader_may h (Sub.rfl.inl.inl.inl.inl.trans hm) hb3
  clear_value x0
  have hx1 : I x1 := by
    unfold x1
    refine may_ite ?_ ?_
    · refine applyFreezes_may h (Sub.rfl.inr.inl.inl.inl.trans hm) (fun a3 ha3 => ?_) hx0
      · exact ha3
    · exact hx0
  clear_value x1
  refine may_ite ?_ ?_
  · refine sendStill_may h (Sub.rfl.inr.inl.inl.trans hm) hx0
  · refine may_ite ?_ ?_
    · exact hx0
    · refine actOn_may h (Sub.rfl.inr.inl.trans hm) ?_
      · refine dropReaderChoice_may h (Sub.rfl.inr.trans hm) hx1

def setRing_m : Nat := setAud_m
theorem setRing_may (h : May M I) (hm : Sub setRing_m M) {b0} {b1} {b2} (hb2 : I b2) : I (setRing b0 b1 b2) := by
  unfold setRing
  refine setAud_may h (Sub.rfl.trans hm) hb2

def pushWords_m : Nat := setRing_m
theorem pushWords_may (h : May M I) (hm : Sub pushWords_m M) {b0} {b1} {b2} (hb2 : I b2) : I (pushWords b0 b1 b2) := by
  unfold pushWords
  refine setRing_may h (Sub.rfl.trans hm) hb2

def countSlip_m : Nat := mask [AUD_IN_STATUS.SLIP, AUD_IN_SLIP_CNT.COUNT, AUD_IN_STATUS.SLIP_OVF, FLW_RX_EVT.SLIP, FLW_RX_SLIP.COUNT, FLW_RX_FLAGS.OVF] ||| raise_m ||| bump32_m ||| bump32F_m
theorem countSlip_may (h : May M I) (hm : Sub countSlip_m M) {b0} {b1} (hb1 : I b1) : I (countSlip b0 b1) := by
  have ho := (Sub.rfl.inl.inl.inl.trans hm)
  unfold countSlip
  refine may_ite ?_ ?_
  · refine raise_may h (Sub.rfl.inr.inl.inl.trans hm) (ho.okAll (by decide +kernel)) ?_
    · refine bump32_may h (Sub.rfl.inr.inl.trans hm) (ho.ok (by decide +kernel)) (ho.ok (by decide +kernel)) hb1
  · refine raise_may h (Sub.rfl.inr.inl.inl.trans hm) (ho.okAll (by decide +kernel)) ?_
    · refine bump32F_may h (Sub.rfl.inr.trans hm) (ho.ok (by decide +kernel)) (ho.ok (by decide +kernel)) hb1

def countConceal_m : Nat := mask [FLW_RX_CONCEAL.COUNT, FLW_RX_FLAGS.OVF] ||| bump32F_m ||| setAud_m
theorem countConceal_may (h : May M I) (hm : Sub countConceal_m M) {b0} {b1} (hb1 : I b1) : I (countConceal b0 b1) := by
  have ho := (Sub.rfl.inl.inl.trans hm)
  unfold countConceal
  refine may_ite ?_ ?_
  · exact hb1
  · refine bump32F_may h (Sub.rfl.inr.inl.trans hm) (ho.ok (by decide +kernel)) (ho.ok (by decide +kernel)) ?_
    · refine setAud_may h (Sub.rfl.inr.trans hm) hb1

def slipped_m : Nat := countSlip_m ||| sendTwin_m
theorem slipped_may (h : May M I) (hm : Sub slipped_m M) {b0} {b1} {b2} {b3} (hb3 : I b3) : I (slipped b0 b1 b2 b3) := by
  unfold slipped
  extract_lets -merge -useContext x0
  have hx0 : I x0 := by
    unfold x0
    refine countSlip_may h (Sub.rfl.inl.trans hm) hb3
  clear_value x0
  refine may_ite ?_ ?_
  · refine sendTwin_may h (Sub.rfl.inr.trans hm) hx0
  · exact hx0

def writeDue_m : Nat := mask [AUD_RING_STATUS.MUTE] ||| setF_m ||| setRing_m ||| pushWords_m
theorem writeDue_may (h : May M I) (hm : Sub writeDue_m M) {b0} {b1} {b2} {b3} {b4} (hb4 : I b4) : I (writeDue b0 b1 b2 b3 b4) := by
  have ho := (Sub.rfl.inl.inl.inl.trans hm)
  unfold writeDue
  extract_lets -merge -useContext x0 x1
  refine setF_may h (Sub.rfl.inr.inl.inl.trans hm) (ho.ok (by decide +kernel)) ?_
  · refine setRing_may h (Sub.rfl.inr.inl.trans hm) ?_
    · refine pushWords_may h (Sub.rfl.inr.trans hm) hb4

def commitSilence_m : Nat := mask [AUD_RING_STATUS.MUTE] ||| setF_m ||| setRing_m ||| pushWords_m
theorem commitSilence_may (h : May M I) (hm : Sub commitSilence_m M) {b0} {b1} (hb1 : I b1) : I (commitSilence b0 b1) := by
  have ho := (Sub.rfl.inl.inl.inl.trans hm)
  unfold commitSilence
  refine setF_may h (Sub.rfl.inr.inl.inl.trans hm) (ho.ok (by decide +kernel)) ?_
  · refine setRing_may h (Sub.rfl.inr.inl.trans hm) ?_
    · refine pushWords_may h (Sub.rfl.inr.trans hm) hb1

def commitLoss_m : Nat := mask [AUD_IN_STATUS.LOSS, FLW_RX_EVT.LOSS] ||| setRing_m ||| commitSilence_m ||| raise_m
theorem commitLoss_may (h : May M I) (hm : Sub commitLoss_m M) {b0} {b1} (hb1 : I b1) : I (commitLoss b0 b1) := by
  have ho := (Sub.rfl.inl.inl.inl.trans hm)
  unfold commitLoss
  extract_lets -merge -useContext x0 x1
  have hx1 : I x1 := by
    unfold x1
    refine setRing_may h (Sub.rfl.inr.inl.inl.trans hm) ?_
    · refine commitSilence_may h (Sub.rfl.inr.inl.trans hm) hb1
  clear_value x1
  refine may_ite ?_ ?_
  · exact hx1
  · refine may_ite ?_ ?_
    · refine raise_may h (Sub.rfl.inr.trans hm) (ho.okAll (by decide +kernel)) hx1
    · refine raise_may h (Sub.rfl.inr.trans hm) (ho.okAll (by decide +kernel)) hx1

def noteData_m : Nat := mask [AUD_RING_STATUS.DATA] ||| forEach_m ||| setB_m
theorem noteData_may (h : May M I) (hm : Sub noteData_m M) {b0} {b1} (hb1 : I b1) : I (noteData b0 b1) := by
  have ho := (Sub.rfl.inl.inl.trans hm)
  unfold noteData
  extract_lets -merge -useContext x0 x1 x2
  split
  · exact hb1
  · split
    · refine forEach_may h (Sub.rfl.inr.inl.trans hm) (fun a3 a4 ha4 => ?_) hb1
      · refine setB_may h (Sub.rfl.inr.trans hm) (ho.ok (by decide +kernel)) ha4
    · exact hb1

def commitHeld_m : Nat := setRing_m ||| countConceal_m ||| forEach_m ||| writeDue_m ||| slipped_m ||| commitSilence_m ||| commitLoss_m ||| noteData_m
theorem commitHeld_may (h : May M I) (hm : Sub commitHeld_m M) {b0} {b1} {b2} {b3} (hb3 : I b3) : I (commitHeld b0 b1 b2 b3) := by
  unfold commitHeld
  extract_lets -merge -useContext x0
  have hx0 : ∀ a0 a1, I a1 → I (x0 a0 a1) := by
    intro a1 a2 ha2
    unfold x0
    refine setRing_may h (Sub.rfl.inl.inl.inl.inl.inl.inl.inl.trans hm) ha2
  clear_value x0
  split
  · exact hb3
  · extract_lets -merge -useContext x3 x4 x5 x6 x7
    have hx5 : I x5 := by
      unfold x5
      refine may_ite ?_ ?_
      · refine countConceal_may h (Sub.rfl.inr.inl.inl.inl.inl.inl.inl.trans hm) hb3
      · exact hb3
    clear_value x5
    have hx6 : I x6 := by
      unfold x6
      refine forEach_may h (Sub.rfl.inr.inl.inl.inl.inl.inl.trans hm) (fun a8 a9 ha9 => ?_) hx5
      · refine writeDue_may h (Sub.rfl.inr.inl.inl.inl.inl.trans hm) ha9
    clear_value x6
    have hx7 : I x7 := by
      unfold x7
      refine may_ite ?_ ?_
      · exact hx6
      · refine slipped_may h (Sub.rfl.inr.inl.inl.inl.trans hm) hx6
    clear_value x7
    refine may_ite ?_ ?_
    · refine forEach_may h (Sub.rfl.inr.inl.inl.inl.inl.inl.trans hm) (fun a10 a11 ha11 => ?_) ?_
      · refine commitSilence_may h (Sub.rfl.inr.inl.inl.trans hm) ha11
      · refine forEach_may h (Sub.rfl.inr.inl.inl.inl.inl.inl.trans hm) hx0 hb3
    · refine may_ite ?_ ?_
      · refine forEach_may h (Sub.rfl.inr.inl.inl.inl.inl.inl.trans hm) (fun a12 a13 ha13 => ?_) hb3
        · refine commitLoss_may h (Sub.rfl.inr.inl.trans hm) ha13
      · refine noteData_may h (Sub.rfl.inr.trans hm) hx7

def setReed_m : Nat := setReedS_m
theorem setReed_may (h : May M I) (hm : Sub setReed_m M) {b0} {b1} {b2} (hb2 : I b2) : I (setReed b0 b1 b2) := by
  unfold setReed
  refine setReedS_may h (Sub.rfl.trans hm) hb2

def commitRing_m : Nat := mask [AUD_RING_STATUS.MUTE] ||| pushWords_m ||| setF_m ||| commitSilence_m ||| commitHeld_m
theorem commitRing_may (h : May M I) (hm : Sub commitRing_m M) {b0} {b1} {b2} {b3} (hb3 : I b3) : I (commitRing b0 b1 b2 b3) := by
  have ho := (Sub.rfl.inl.inl.inl.inl.trans hm)
  unfold commitRing
  extract_lets -merge -useContext x0 x1 x2
  refine may_ite ?_ ?_
  · refine pushWords_may h (Sub.rfl.inr.inl.inl.inl.trans hm) ?_
    · refine setF_may h (Sub.rfl.inr.inl.inl.trans hm) (ho.ok (by decide +kernel)) hb3
  · refine may_ite ?_ ?_
    · refine commitSilence_may h (Sub.rfl.inr.inl.trans hm) hb3
    · refine commitHeld_may h (Sub.rfl.inr.trans hm) hb3

def resizeRing_m : Nat := mask [AUD_RING_STATUS.PEND, AUD_RING_CFG.PEND_LOG2, AUD_RING_CFG.LEN_LOG2] ||| setF_m ||| setRing_m
theorem resizeRing_may (h : May M I) (hm : Sub resizeRing_m M) {b0} {b1} {b2} (hb2 : I b2) : I (resizeRing b0 b1 b2) := by
  have ho := (Sub.rfl.inl.inl.trans hm)
  unfold resizeRing
  extract_lets -merge -useContext x0 x1
  refine setF_may h (Sub.rfl.inr.inl.trans hm) (ho.ok (by decide +kernel)) ?_
  · refine setF_may h (Sub.rfl.inr.inl.trans hm) (ho.ok (by decide +kernel)) ?_
    · refine setF_may h (Sub.rfl.inr.inl.trans hm) (ho.ok (by decide +kernel)) ?_
      · refine setRing_may h (Sub.rfl.inr.trans hm) hb2

def applyLength_m : Nat := mask [FLW_TX_REC.WORD, AUD_RING_STATUS.LEN_APPLIED, AUD_RING_STATUS.LAT_CLAMP] ||| setAud_m ||| forEach_m ||| setF_m ||| resizeRing_m ||| raise_m
theorem applyLength_may (h : May M I) (hm : Sub applyLength_m M) {b0} {b1} {b2} (hb2 : I b2) : I (applyLength b0 b1 b2) := by
  have ho := (Sub.rfl.inl.inl.inl.inl.inl.trans hm)
  unfold applyLength
  extract_lets -merge -useContext x0 x1 x2
  split
  · extract_lets -merge -useContext x3 x4 x5
    have hx3 : I x3 := by
      unfold x3
      refine setAud_may h (Sub.rfl.inr.inl.inl.inl.inl.trans hm) hb2
    clear_value x3
    have hx4 : I x4 := by
      unfold x4
      refine forEach_may h (Sub.rfl.inr.inl.inl.inl.trans hm) (fun a6 a7 ha7 => ?_) hx3
      · refine setF_may h (Sub.rfl.inr.inl.inl.trans hm) (ho.ok (by decide +kernel)) ha7
    clear_value x4
    have hx5 : I x5 := by
      unfold x5
      refine forEach_may h (Sub.rfl.inr.inl.inl.inl.trans hm) (fun a8 a9 ha9 => ?_) hx4
      · refine resizeRing_may h (Sub.rfl.inr.inl.trans hm) ha9
    clear_value x5
    refine forEach_may h (Sub.rfl.inr.inl.inl.inl.trans hm) (fun a10 a11 ha11 => ?_) hx5
    · refine raise_may h (Sub.rfl.inr.trans hm) (by split <;> exact ho.okAll (by decide +kernel)) ha11

def dueLengths_m : Nat := forEach_m ||| applyLength_m
theorem dueLengths_may (h : May M I) (hm : Sub dueLengths_m M) {b0} {b1} (hb1 : I b1) : I (dueLengths b0 b1) := by
  unfold dueLengths
  refine forEach_may h (Sub.rfl.inl.trans hm) (fun a0 a1 ha1 => ?_) hb1
  · extract_lets -merge -useContext x2
    refine may_ite ?_ ?_
    · refine applyLength_may h (Sub.rfl.inr.trans hm) ha1
    · exact ha1

def putRingWord_m : Nat := setRing_m
theorem putRingWord_may (h : May M I) (hm : Sub putRingWord_m M) {b0} {b1} {b2} {b3} (hb3 : I b3) : I (putRingWord b0 b1 b2 b3) := by
  unfold putRingWord
  refine setRing_may h (Sub.rfl.trans hm) hb3

def embedTake_m : Nat := setAud_m
theorem embedTake_may (h : May M I) (hm : Sub embedTake_m M) {b0} {b1} (hb1 : I b1) : I (embedTake b0 b1) := by
  unfold embedTake
  extract_lets -merge -useContext x0
  refine setAud_may h (Sub.rfl.trans hm) hb1

def holdSample_m : Nat := setRing_m
theorem holdSample_may (h : May M I) (hm : Sub holdSample_m M) {b0} {b1} {b2} {b3} (hb3 : I b3) : I (holdSample b0 b1 b2 b3) := by
  unfold holdSample
  refine setRing_may h (Sub.rfl.trans hm) hb3

def holdPacket_m : Nat := holdSample_m
theorem holdPacket_may (h : May M I) (hm : Sub holdPacket_m M) {b0} {b1} {b2} {b3} {b4} {b5} (hb5 : I b5) : I (holdPacket b0 b1 b2 b3 b4 b5) := by
  induction b4 generalizing b3 b5 with
  | nil => exact hb5
  | cons x l ih =>
    refine ih ?_
    split
    · exact hb5
    · refine may_ite (holdSample_may h hm hb5) ?_
      split
      · exact holdSample_may h hm hb5
      · exact hb5

def audioData_m : Nat := mask [AUD_IN_STATUS.PKT_ERR, AUD_IN_PKT_ERR_CNT.COUNT, AUD_IN_STATUS.PKT_OVF] ||| setAud_m ||| raise_m ||| bump32_m ||| holdPacket_m
theorem audioData_may (h : May M I) (hm : Sub audioData_m M) {b0} {b1} {b2} {b3} {b4} {b5} (hb5 : I b5) : I (audioData b0 b1 b2 b3 b4 b5) := by
  have ho := (Sub.rfl.inl.inl.inl.inl.trans hm)
  unfold audioData
  extract_lets -merge -useContext x0 x1
  have hx0 : I x0 := by
    unfold x0
    refine setAud_may h (Sub.rfl.inr.inl.inl.inl.trans hm) hb5
  clear_value x0
  have hx1 : I x1 := by
    unfold x1
    refine may_ite ?_ ?_
    · exact hx0
    · refine raise_may h (Sub.rfl.inr.inl.inl.trans hm) (ho.okAll (by decide +kernel)) ?_
      · refine bump32_may h (Sub.rfl.inr.inl.trans hm) (ho.ok (by decide +kernel)) (ho.ok (by decide +kernel)) hx0
  clear_value x1
  refine may_ite ?_ ?_
  · exact hx0
  · refine holdPacket_may h (Sub.rfl.inr.trans hm) hx1

def audioControl_m : Nat := mask [AUD_IN_STATUS.RATE_MISMATCH] ||| setAud_m ||| raise_m
theorem audioControl_may (h : May M I) (hm : Sub audioControl_m M) {b0} {b1} {b2} {b3} (hb3 : I b3) : I (audioControl b0 b1 b2 b3) := by
  have ho := (Sub.rfl.inl.inl.trans hm)
  unfold audioControl
  extract_lets -merge -useContext x0 x1 x2
  have hx2 : I x2 := by
    unfold x2
    refine setAud_may h (Sub.rfl.inr.inl.trans hm) hb3
  clear_value x2
  refine may_ite ?_ ?_
  · refine raise_may h (Sub.rfl.inr.trans hm) (ho.okAll (by decide +kernel)) hx2
  · exact hx2

def audioPacket_m : Nat := audioData_m ||| audioControl_m
theorem audioPacket_may (h : May M I) (hm : Sub audioPacket_m M) {b0} {b1} {b2} {b3} (hb3 : I b3) : I (audioPacket b0 b1 b2 b3) := by
  unfold audioPacket
  split
  · split
    · refine audioData_may h (Sub.rfl.inl.trans hm) hb3
    · exact hb3
  · split
    · refine audioControl_may h (Sub.rfl.inr.trans hm) hb3
    · exact hb3

def audioFrameEnd_m : Nat := mask [AUD_IN_PRESENT.GROUPS] ||| setAud_m ||| setF_m
theorem audioFrameEnd_may (h : May M I) (hm : Sub audioFrameEnd_m M) {b0} {b1} (hb1 : I b1) : I (audioFrameEnd b0 b1) := by
  have ho := (Sub.rfl.inl.inl.trans hm)
  unfold audioFrameEnd
  refine setAud_may h (Sub.rfl.inr.inl.trans hm) ?_
  · refine setF_may h (Sub.rfl.inr.trans hm) (ho.ok (by decide +kernel)) hb1

def setX_m : Nat := setReed_m
theorem setX_may (h : May M I) (hm : Sub setX_m M) {b0} {b1} {b2} {b3} (hb3 : I b3) : I (setX b0 b1 b2 b3) := by
  unfold setX
  refine setReed_may h (Sub.rfl.trans hm) hb3

def setV_m : Nat := setReed_m
theorem setV_may (h : May M I) (hm : Sub setV_m M) {b0} {b1} {b2} {b3} {b4} (hb4 : I b4) : I (setV b0 b1 b2 b3 b4) := by
  unfold setV
  refine setReed_may h (Sub.rfl.trans hm) hb4

def setS_m : Nat := setReed_m
theorem setS_may (h : May M I) (hm : Sub setS_m M) {b0} {b1} {b2} {b3} (hb3 : I b3) : I (setS b0 b1 b2 b3) := by
  unfold setS
  refine setReed_may h (Sub.rfl.trans hm) hb3

def setOutBank_m : Nat := setReed_m
theorem setOutBank_may (h : May M I) (hm : Sub setOutBank_m M) {b0} {b1} {b2} {b3} {b4} (hb4 : I b4) : I (setOutBank b0 b1 b2 b3 b4) := by
  unfold setOutBank
  refine setReed_may h (Sub.rfl.trans hm) hb4

def setCoef_m : Nat := mask [REE_COEF.COEF] ||| setF_m
theorem setCoef_may (h : May M I) (hm : Sub setCoef_m M) {b0} {b1} {b2} {b3} (hb3 : I b3) : I (setCoef b0 b1 b2 b3) := by
  have ho := (Sub.rfl.inl.trans hm)
  unfold setCoef
  refine setF_may h (Sub.rfl.inr.trans hm) (ho.ok (by decide +kernel)) hb3

def each_m : Nat := forEach_m
theorem each_may (h : May M I) (hm : Sub each_m M) {b0} (hb0 : ∀ a0 a1, I a1 → I (b0 a0 a1)) {b1} (hb1 : I b1) : I (each b0 b1) := by
  unfold each
  refine forEach_may h (Sub.rfl.trans hm) hb0 hb1

def noteSat_m : Nat := mask [REE_ENG_EVT.SAT, REE_ENG_SAT_CNT.COUNT, REE_ENG_EVT.SAT_OVF] ||| raise_m ||| bump32_m ||| setReed_m
theorem noteSat_may (h : May M I) (hm : Sub noteSat_m M) {b0} {b1} (hb1 : I b1) : I (noteSat b0 b1) := by
  have ho := (Sub.rfl.inl.inl.inl.trans hm)
  unfold noteSat
  extract_lets -merge -useContext x0
  have hx0 : I x0 := by
    unfold x0
    refine raise_may h (Sub.rfl.inr.inl.inl.trans hm) (ho.okAll (by decide +kernel)) hb1
  clear_value x0
  refine may_ite ?_ ?_
  · exact hx0
  · refine bump32_may h (Sub.rfl.inr.inl.trans hm) (ho.ok (by decide +kernel)) (ho.ok (by decide +kernel)) ?_
    · refine setReed_may h (Sub.rfl.inr.trans hm) hx0

def noteAccov_m : Nat := mask [REE_ENG_ACCOV_PC.PC, REE_ENG_ACCOV_PC.ACC, REE_ENG_ACCOV_PC.VALID, REE_ENG_EVT.ACCOV, REE_ENG_ACCOV_CNT.COUNT, REE_ENG_EVT.ACCOV_OVF] ||| setF_m ||| raise_m ||| bump32_m ||| setReed_m
theorem noteAccov_may (h : May M I) (hm : Sub noteAccov_m M) {b0} {b1} {b2} (hb2 : I b2) : I (noteAccov b0 b1 b2) := by
  have ho := (Sub.rfl.inl.inl.inl.inl.trans hm)
  unfold noteAccov
  extract_lets -merge -useContext x0 x1
  have hx0 : I x0 := by
    unfold x0
    refine may_ite ?_ ?_
    · exact hb2
    · refine setF_may h (Sub.rfl.inr.inl.inl.inl.trans hm) (ho.ok (by decide +kernel)) ?_
      · refine setF_may h (Sub.rfl.inr.inl.inl.inl.trans hm) (ho.ok (by decide +kernel)) ?_
        · refine setF_may h (Sub.rfl.inr.inl.inl.inl.trans hm) (ho.ok (by decide +kernel)) hb2
  clear_value x0
  have hx1 : I x1 := by
    unfold x1
    refine raise_may h (Sub.rfl.inr.inl.inl.trans hm) (ho.okAll (by decide +kernel)) hx0
  clear_value x1
  refine may_ite ?_ ?_
  · exact hx1
  · refine bump32_may h (Sub.rfl.inr.inl.trans hm) (ho.ok (by decide +kernel)) (ho.ok (by decide +kernel)) ?_
    · refine setReed_may h (Sub.rfl.inr.trans hm) hx1

def newSum_m : Nat := setReed_m
theorem newSum_may (h : May M I) (hm : Sub newSum_m M) {b0} {b1} {b2} {b3} {b4} (hb4 : I b4) : I (newSum b0 b1 b2 b3 b4) := by
  unfold newSum
  refine setReed_may h (Sub.rfl.trans hm) hb4

def addAcc_m : Nat := setReed_m ||| noteAccov_m
theorem addAcc_may (h : May M I) (hm : Sub addAcc_m M) {b0} {b1} {b2} {b3} {b4} (hb4 : I b4) : I (addAcc b0 b1 b2 b3 b4) := by
  unfold addAcc
  extract_lets -merge -useContext x0
  refine may_ite ?_ ?_
  · exact hb4
  · refine may_ite ?_ ?_
    · refine setReed_may h (Sub.rfl.inl.trans hm) hb4
    · refine noteAccov_may h (Sub.rfl.inr.trans hm) ?_
      · refine setReed_may h (Sub.rfl.inl.trans hm) hb4

def putSat_m : Nat := noteSat_m
theorem putSat_may (h : May M I) (hm : Sub putSat_m M) {b0} {b1} {b2} (hb2 : ∀ a0 a1, I a1 → I (b2 a0 a1)) {b3} (hb3 : I b3) : I (putSat b0 b1 b2 b3) := by
  unfold putSat
  extract_lets -merge -useContext x0
  have hx0 : I x0 := by
    unfold x0
    refine hb2 _ _ hb3
  clear_value x0
  refine may_ite ?_ ?_
  · refine noteSat_may h (Sub.rfl.trans hm) hx0
  · exact hx0

def reedSetx_m : Nat := setX_m
theorem reedSetx_may (h : May M I) (hm : Sub reedSetx_m M) {b0} {b1} {b2} (hb2 : I b2) : I (reedSetx b0 b1 b2) := by
  unfold reedSetx
  refine may_ite ?_ ?_
  · exact hb2
  · refine setX_may h (Sub.rfl.trans hm) hb2

def reedAddx_m : Nat := setX_m
theorem reedAddx_may (h : May M I) (hm : Sub reedAddx_m M) {b0} {b1} {b2} (hb2 : I b2) : I (reedAddx b0 b1 b2) := by
  unfold reedAddx
  refine may_ite ?_ ?_
  · exact hb2
  · refine setX_may h (Sub.rfl.trans hm) hb2

def reedLoop_m : Nat := setReed_m
theorem reedLoop_may (h : May M I) (hm : Sub reedLoop_m M) {b0} {b1} {b2} (hb2 : I b2) : I (reedLoop b0 b1 b2) := by
  unfold reedLoop
  refine setReed_may h (Sub.rfl.trans hm) hb2

def reedLdi_m : Nat := each_m ||| setV_m
theorem reedLdi_may (h : May M I) (hm : Sub reedLdi_m M) {b0} {b1} {b2} (hb2 : I b2) : I (reedLdi b0 b1 b2) := by
  unfold reedLdi
  refine each_may h (Sub.rfl.inl.trans hm) (fun a0 a1 ha1 => ?_) hb2
  · refine setV_may h (Sub.rfl.inr.trans hm) ha1

def reedSto_m : Nat := each_m ||| setOutBank_m
theorem reedSto_may (h : May M I) (hm : Sub reedSto_m M) {b0} {b1} {b2} (hb2 : I b2) : I (reedSto b0 b1 b2) := by
  unfold reedSto
  refine each_may h (Sub.rfl.inl.trans hm) (fun a0 a1 ha1 => ?_) hb2
  · refine setOutBank_may h (Sub.rfl.inr.trans hm) ha1

def reedLds_m : Nat := each_m ||| setV_m
theorem reedLds_may (h : May M I) (hm : Sub reedLds_m M) {b0} {b1} {b2} (hb2 : I b2) : I (reedLds b0 b1 b2) := by
  unfold reedLds
  refine each_may h (Sub.rfl.inl.trans hm) (fun a0 a1 ha1 => ?_) hb2
  · refine setV_may h (Sub.rfl.inr.trans hm) ha1

def reedSts_m : Nat := each_m ||| setS_m
theorem reedSts_may (h : May M I) (hm : Sub reedSts_m M) {b0} {b1} {b2} (hb2 : I b2) : I (reedSts b0 b1 b2) := by
  unfold reedSts
  refine each_may h (Sub.rfl.inl.trans hm) (fun a0 a1 ha1 => ?_) hb2
  · refine setS_may h (Sub.rfl.inr.trans hm) ha1

def reedLda_m : Nat := each_m ||| newSum_m
theorem reedLda_may (h : May M I) (hm : Sub reedLda_m M) {b0} {b1} {b2} (hb2 : I b2) : I (reedLda b0 b1 b2) := by
  unfold reedLda
  refine each_may h (Sub.rfl.inl.trans hm) (fun a0 a1 ha1 => ?_) hb2
  · refine newSum_may h (Sub.rfl.inr.trans hm) ha1

def reedSta_m : Nat := each_m ||| putSat_m ||| setOutBank_m ||| setV_m
theorem reedSta_may (h : May M I) (hm : Sub reedSta_m M) {b0} {b1} {b2} (hb2 : I b2) : I (reedSta b0 b1 b2) := by
  unfold reedSta
  refine each_may h (Sub.rfl.inl.inl.inl.trans hm) (fun a0 a1 ha1 => ?_) hb2
  · refine putSat_may h (Sub.rfl.inr.inl.inl.trans hm) (fun a2 a3 ha3 => ?_) ha1
    · split
      · refine setOutBank_may h (Sub.rfl.inr.inl.trans hm) ha3
      · refine setV_may h (Sub.rfl.inr.trans hm) ha3

def reedClr_m : Nat := each_m ||| newSum_m
theorem reedClr_may (h : May M I) (hm : Sub reedClr_m M) {b0} {b1} {b2} (hb2 : I b2) : I (reedClr b0 b1 b2) := by
  unfold reedClr
  refine each_may h (Sub.rfl.inl.trans hm) (fun a0 a1 ha1 => ?_) hb2
  · refine newSum_may h (Sub.rfl.inr.trans hm) ha1

def reedMul_m : Nat := each_m ||| newSum_m
theorem reedMul_may (h : May M I) (hm : Sub reedMul_m M) {b0} {b1} {b2} (hb2 : I b2) : I (reedMul b0 b1 b2) := by
  unfold reedMul
  refine each_may h (Sub.rfl.inl.trans hm) (fun a0 a1 ha1 => ?_) hb2
  · refine newSum_may h (Sub.rfl.inr.trans hm) ha1

def reedMac_m : Nat := each_m ||| addAcc_m
theorem reedMac_may (h : May M I) (hm : Sub reedMac_m M) {b0} {b1} {b2} (hb2 : I b2) : I (reedMac b0 b1 b2) := by
  unfold reedMac
  refine each_may h (Sub.rfl.inl.trans hm) (fun a0 a1 ha1 => ?_) hb2
  · refine addAcc_may h (Sub.rfl.inr.trans hm) ha1

def reedMsu_m : Nat := each_m ||| addAcc_m
theorem reedMsu_may (h : May M I) (hm : Sub reedMsu_m M) {b0} {b1} {b2} (hb2 : I b2) : I (reedMsu b0 b1 b2) := by
  unfold reedMsu
  refine each_may h (Sub.rfl.inl.trans hm) (fun a0 a1 ha1 => ?_) hb2
  · refine addAcc_may h (Sub.rfl.inr.trans hm) ha1

def reedMacr_m : Nat := setReed_m ||| each_m ||| addAcc_m
theorem reedMacr_may (h : May M I) (hm : Sub reedMacr_m M) {b0} {b1} {b2} (hb2 : I b2) : I (reedMacr b0 b1 b2) := by
  unfold reedMacr
  extract_lets -merge -useContext x0
  refine setReed_may h (Sub.rfl.inl.inl.trans hm) ?_
  · refine each_may h (Sub.rfl.inr.inl.trans hm) (fun a1 a2 ha2 => ?_) hb2
    · refine addAcc_may h (Sub.rfl.inr.trans hm) ha2

def rampWrites_m : Nat := setReed_m ||| forEach_m ||| setCoef_m
theorem rampWrites_may (h : May M I) (hm : Sub rampWrites_m M) {b0} {b1} (hb1 : I b1) : I (rampWrites b0 b1) := by
  unfold rampWrites
  extract_lets -merge -useContext x0
  refine setReed_may h (Sub.rfl.inl.inl.trans hm) ?_
  · refine forEach_may h (Sub.rfl.inr.inl.trans hm) (fun a1 a2 ha2 => ?_) hb1
    · refine setCoef_may h (Sub.rfl.inr.trans hm) ha2

def reedMacv_m : Nat := each_m ||| newSum_m ||| addAcc_m
theorem reedMacv_may (h : May M I) (hm : Sub reedMacv_m M) {b0} {b1} {b2} (hb2 : I b2) : I (reedMacv b0 b1 b2) := by
  unfold reedMacv
  refine each_may h (Sub.rfl.inl.inl.trans hm) (fun a0 a1 ha1 => ?_) hb2
  · extract_lets -merge -useContext x2
    refine may_ite ?_ ?_
    · refine newSum_may h (Sub.rfl.inr.inl.trans hm) ha1
    · refine addAcc_may h (Sub.rfl.inr.trans hm) ha1

def biqSample_m : Nat := noteAccov_m ||| setS_m ||| putSat_m ||| setV_m
theorem biqSample_may (h : May M I) (hm : Sub biqSample_m M) {b0} {b1} {b2} {b3} {b4} {b5} (hb5 : I b5) : I (biqSample b0 b1 b2 b3 b4 b5) := by
  unfold biqSample
  extract_lets -merge -useContext x0 x1
  split
  · extract_lets -merge -useContext x2
    split
    · extract_lets -merge -useContext x3 x4 x5
      have hx3 : I x3 := by
        unfold x3
        refine may_ite ?_ ?_
        · refine noteAccov_may h (Sub.rfl.inl.inl.inl.trans hm) hb5
        · exact hb5
      clear_value x3
      have hx5 : I x5 := by
        unfold x5
        refine setS_may h (Sub.rfl.inr.inl.inl.trans hm) ?_
        · refine setS_may h (Sub.rfl.inr.inl.inl.trans hm) ?_
          · refine setS_may h (Sub.rfl.inr.inl.inl.trans hm) ?_
            · refine setS_may h (Sub.rfl.inr.inl.inl.trans hm) hx3
      clear_value x5
      refine putSat_may h (Sub.rfl.inr.inl.trans hm) (fun a6 a7 ha7 => ?_) hx5
      · refine setV_may h (Sub.rfl.inr.trans hm) ha7

def reedBiq_m : Nat := forEach_m ||| biqSample_m
theorem reedBiq_may (h : May M I) (hm : Sub reedBiq_m M) {b0} {b1} {b2} (hb2 : I b2) : I (reedBiq b0 b1 b2) := by
  unfold reedBiq
  extract_lets -merge -useContext x0 x1
  refine forEach_may h (Sub.rfl.inl.trans hm) (fun a2 a3 ha3 => ?_) hb2
  · refine biqSample_may h (Sub.rfl.inr.trans hm) ha3

def reedTlu_m : Nat := each_m ||| putSat_m ||| setV_m
theorem reedTlu_may (h : May M I) (hm : Sub reedTlu_m M) {b0} {b1} {b2} (hb2 : I b2) : I (reedTlu b0 b1 b2) := by
  unfold reedTlu
  refine each_may h (Sub.rfl.inl.inl.trans hm) (fun a0 a1 ha1 => ?_) hb2
  · refine putSat_may h (Sub.rfl.inr.inl.trans hm) (fun a2 a3 ha3 => ?_) ha1
    · refine setV_may h (Sub.rfl.inr.trans hm) ha3

def reedValu_m : Nat := each_m ||| putSat_m ||| setV_m
theorem reedValu_may (h : May M I) (hm : Sub reedValu_m M) {b0} {b1} {b2} (hb2 : I b2) : I (reedValu b0 b1 b2) := by
  unfold reedValu
  refine may_ite ?_ ?_
  · exact hb2
  · refine each_may h (Sub.rfl.inl.inl.trans hm) (fun a0 a1 ha1 => ?_) hb2
    · refine putSat_may h (Sub.rfl.inr.inl.trans hm) (fun a2 a3 ha3 => ?_) ha1
      · refine setV_may h (Sub.rfl.inr.trans hm) ha3

def reedEnd_m : Nat := mask [REE_ENG_BLOCKS.COUNT, REE_ENG_EVT.BLOCKS_WRAP, REE_ENG_STATUS.LAST_CYCLES] ||| bump64_m ||| setF_m ||| setReed_m ||| rampWrites_m
theorem reedEnd_may (h : May M I) (hm : Sub reedEnd_m M) {b0} {b1} {b2} (hb2 : I b2) : I (reedEnd b0 b1 b2) := by
  have ho := (Sub.rfl.inl.inl.inl.inl.trans hm)
  unfold reedEnd
  refine bump64_may h (Sub.rfl.inr.inl.inl.inl.trans hm) (ho.ok (by decide +kernel)) (ho.ok (by decide +kernel)) ?_
  · refine setF_may h (Sub.rfl.inr.inl.inl.trans hm) (ho.ok (by decide +kernel)) ?_
    · refine setReed_may h (Sub.rfl.inr.inl.trans hm) ?_
      · refine rampWrites_may h (Sub.rfl.inr.trans hm) hb2

def loopBack_m : Nat := setX_m ||| setReed_m
theorem loopBack_may (h : May M I) (hm : Sub loopBack_m M) {b0} {b1} {b2} {b3} (hb3 : I b3) : I (loopBack b0 b1 b2 b3) := by
  induction b2 generalizing b3 with
  | zero => exact hb3
  | succ n ih =>
    unfold loopBack
    dsimp only
    split
    · refine may_ite (may_ite ?_ ?_) hb3
      · exact setReed_may h (Sub.rfl.inr.trans hm) (may_ite hb3 (setX_may h (Sub.rfl.inl.trans hm) hb3))
      · exact ih (setReed_may h (Sub.rfl.inr.trans hm) (may_ite hb3 (setX_may h (Sub.rfl.inl.trans hm) hb3)))
    · exact hb3

def runWith_m : Nat := setReed_m ||| loopBack_m
theorem runWith_may (h : May M I) (hm : Sub runWith_m M) {b0} {b1} (hb1 : ∀ a0 a1 a2, I a2 → I (b1 a0 a1 a2)) {b2} (hb2 : I b2) : I (runWith b0 b1 b2) := by
  unfold runWith
  extract_lets -merge -useContext x0 x1 x2
  have hx2 : I x2 := by
    unfold x2
    refine hb1 _ _ _ ?_
    · refine setReed_may h (Sub.rfl.inl.trans hm) hb2
  clear_value x2
  refine loopBack_may h (Sub.rfl.inr.trans hm) ?_
  · refine setReed_may h (Sub.rfl.inl.trans hm) hx2

def reedRow_m : Nat := runWith_m
theorem reedRow_may (h : May M I) (hm : Sub reedRow_m M) {b0} {b1} {b2} (hb2 : ∀ a0 a1 a2, I a2 → I (b2 a0 a1 a2)) {b3} (hb3 : I b3) : I (reedRow b0 b1 b2 b3) := by
  unfold reedRow
  refine may_ite ?_ ?_
  · refine runWith_may h (Sub.rfl.trans hm) hb2 hb3
  · exact hb3

def reedNop_m : Nat := 0
theorem reedNop_may (h : May M I) (hm : Sub reedNop_m M) {b0} {b1} {b2} (hb2 : I b2) : I (reedNop b0 b1 b2) := by
  unfold reedNop
  exact hb2

def reedEffect_m : Nat := reedEnd_m ||| reedSetx_m ||| reedAddx_m ||| reedLoop_m ||| reedLdi_m ||| reedSto_m ||| reedLds_m ||| reedSts_m ||| reedLda_m ||| reedSta_m ||| reedClr_m ||| reedMul_m ||| reedMac_m ||| reedMsu_m ||| reedMacr_m ||| reedMacv_m ||| reedBiq_m ||| reedTlu_m ||| reedValu_m ||| reedNop_m
theorem reedEffect_may (h : May M I) (hm : Sub reedEffect_m M) {b0} {b1} {b2} {b3} (hb3 : I b3) : I (reedEffect b0 b1 b2 b3) := by
  unfold reedEffect
  split
  · refine reedEnd_may h (Sub.rfl.inl.inl.inl.inl.inl.inl.inl.inl.inl.inl.inl.inl.inl.inl.inl.inl.inl.inl.inl.trans hm) hb3
  · refine reedSetx_may h (Sub.rfl.inr.inl.inl.inl.inl.inl.inl.inl.inl.inl.inl.inl.inl.inl.inl.inl.inl.inl.inl.trans hm) hb3
  · refine reedAddx_may h (Sub.rfl.inr.inl.inl.inl.inl.inl.inl.inl.inl.inl.inl.inl.inl.inl.inl.inl.inl.inl.trans hm) hb3
  · refine reedLoop_may h (Sub.rfl.inr.inl.inl.inl.inl.inl.inl.inl.inl.inl.inl.inl.inl.inl.inl.inl.inl.trans hm) hb3
  · refine reedLdi_may h (Sub.rfl.inr.inl.inl.inl.inl.inl.inl.inl.inl.inl.inl.inl.inl.inl.inl.inl.trans hm) hb3
  · refine reedSto_may h (Sub.rfl.inr.inl.inl.inl.inl.inl.inl.inl.inl.inl.inl.inl.inl.inl.inl.trans hm) hb3
  · refine reedLds_may h (Sub.rfl.inr.inl.inl.inl.inl.inl.inl.inl.inl.inl.inl.inl.inl.inl.trans hm) hb3
  · refine reedSts_may h (Sub.rfl.inr.inl.inl.inl.inl.inl.inl.inl.inl.inl.inl.inl.inl.trans hm) hb3
  · refine reedLda_may h (Sub.rfl.inr.inl.inl.inl.inl.inl.inl.inl.inl.inl.inl.inl.trans hm) hb3
  · refine reedSta_may h (Sub.rfl.inr.inl.inl.inl.inl.inl.inl.inl.inl.inl.inl.trans hm) hb3
  · refine reedClr_may h (Sub.rfl.inr.inl.inl.inl.inl.inl.inl.inl.inl.inl.trans hm) hb3
  · refine reedMul_may h (Sub.rfl.inr.inl.inl.inl.inl.inl.inl.inl.inl.trans hm) hb3
  · refine reedMac_may h (Sub.rfl.inr.inl.inl.inl.inl.inl.inl.inl.trans hm) hb3
  · refine reedMsu_may h (Sub.rfl.inr.inl.inl.inl.inl.inl.inl.trans hm) hb3
  · refine reedMacr_may h (Sub.rfl.inr.inl.inl.inl.inl.inl.trans hm) hb3
  · refine reedMacv_may h (Sub.rfl.inr.inl.inl.inl.inl.trans hm) hb3
  · refine reedBiq_may h (Sub.rfl.inr.inl.inl.inl.trans hm) hb3
  · refine reedTlu_may h (Sub.rfl.inr.inl.inl.trans hm) hb3
  · refine reedValu_may h (Sub.rfl.inr.inl.trans hm) hb3
  · refine reedNop_may h (Sub.rfl.inr.trans hm) hb3

def reedStep_m : Nat := runWith_m ||| reedEffect_m
theorem reedStep_may (h : May M I) (hm : Sub reedStep_m M) {b0} {b1} (hb1 : I b1) : I (reedStep b0 b1) := by
  unfold reedStep
  refine runWith_may h (Sub.rfl.inl.trans hm) (fun a0 a1 a2 ha2 => ?_) hb1
  · refine reedEffect_may h (Sub.rfl.inr.trans hm) ha2

def reeWriteApply_m : Nat := setReedS_m
theorem reeWriteApply_may (h : May M I) (hm : Sub reeWriteApply_m M) {b0} {b1} {b2} {b3} {b4} (hb4 : I b4) : I (reeWriteApply b0 b1 b2 b3 b4) := by
  unfold reeWriteApply
  refine setReedS_may h (Sub.rfl.trans hm) hb4

def reeWriteBody_m : Nat := refuse_m ||| acceptTimed_m ||| reeWriteApply_m
theorem reeWriteBody_may (h : May M I) (hm : Sub reeWriteBody_m M) {b0} {b1} {b2} {b3} {b4} (hb4 : I b4) : I (reeWriteBody b0 b1 b2 b3 b4) := by
  unfold reeWriteBody
  extract_lets -merge -useContext x0
  refine may_ite ?_ ?_
  · refine refuse_may h (Sub.rfl.inl.inl.trans hm) hb4
  · refine may_ite ?_ ?_
    · refine refuse_may h (Sub.rfl.inl.inl.trans hm) hb4
    · refine may_ite ?_ ?_
      · refine acceptTimed_may h (Sub.rfl.inr.inl.trans hm) (fun a1 a2 a3 ha3 => ?_) hb4
        · refine reeWriteApply_may h (Sub.rfl.inr.trans hm) ha3
      · split
        · refine refuse_may h (Sub.rfl.inl.inl.trans hm) hb4
        · refine may_ite ?_ ?_
          · refine refuse_may h (Sub.rfl.inl.inl.trans hm) hb4
          · refine acceptTimed_may h (Sub.rfl.inr.inl.trans hm) (fun a4 a5 a6 ha6 => ?_) hb4
            · refine reeWriteApply_may h (Sub.rfl.inr.trans hm) ha6

def commitReeWrites_m : Nat := setReedS_m ||| forEach_m ||| setS_m ||| setCoef_m ||| memberDone_m
theorem commitReeWrites_may (h : May M I) (hm : Sub commitReeWrites_m M) {b0} {b1} (hb1 : I b1) : I (commitReeWrites b0 b1) := by
  unfold commitReeWrites
  extract_lets -merge -useContext x0 x1
  have hx1 : I x1 := by
    unfold x1
    refine setReedS_may h (Sub.rfl.inl.inl.inl.inl.trans hm) hb1
  clear_value x1
  refine forEach_may h (Sub.rfl.inr.inl.inl.inl.trans hm) (fun a2 a3 ha3 => ?_) hx1
  · extract_lets -merge -useContext x4
    have hx4 : I x4 := by
      unfold x4
      refine forEach_may h (Sub.rfl.inr.inl.inl.inl.trans hm) (fun a5 a6 ha6 => ?_) ha3
      · refine may_ite ?_ ?_
        · refine setS_may h (Sub.rfl.inr.inl.inl.trans hm) ha6
        · refine setCoef_may h (Sub.rfl.inr.inl.trans hm) ha6
    clear_value x4
    refine memberDone_may h (Sub.rfl.inr.trans hm) hx4

def setPk_m : Nat := setReedS_m
theorem setPk_may (h : May M I) (hm : Sub setPk_m M) {b0} {b1} {b2} (hb2 : I b2) : I (setPk b0 b1 b2) := by
  unfold setPk
  refine setReedS_may h (Sub.rfl.trans hm) hb2

def setLd_m : Nat := setReedS_m
theorem setLd_may (h : May M I) (hm : Sub setLd_m M) {b0} {b1} {b2} (hb2 : I b2) : I (setLd b0 b1 b2) := by
  unfold setLd
  refine setReedS_may h (Sub.rfl.trans hm) hb2

def pkClear_m : Nat := setPk_m
theorem pkClear_may (h : May M I) (hm : Sub pkClear_m M) {b0} {b1} (hb1 : I b1) : I (pkClear b0 b1) := by
  unfold pkClear
  refine may_ite ?_ ?_
  · refine setPk_may h (Sub.rfl.trans hm) hb1
  · exact hb1

def ldClear_m : Nat := setLd_m
theorem ldClear_may (h : May M I) (hm : Sub ldClear_m M) {b0} {b1} (hb1 : I b1) : I (ldClear b0 b1) := by
  unfold ldClear
  refine may_ite ?_ ?_
  · refine setLd_may h (Sub.rfl.trans hm) hb1
  · exact hb1

def ldRestart_m : Nat := mask [REE_LD_GATED.COUNT, REE_LD_INT.INTEGRATED] ||| setF_m ||| setLd_m
theorem ldRestart_may (h : May M I) (hm : Sub ldRestart_m M) {b0} {b1} (hb1 : I b1) : I (ldRestart b0 b1) := by
  have ho := (Sub.rfl.inl.inl.trans hm)
  unfold ldRestart
  refine may_ite ?_ ?_
  · refine setF_may h (Sub.rfl.inr.inl.trans hm) (ho.ok (by decide +kernel)) ?_
    · refine setF_may h (Sub.rfl.inr.inl.trans hm) (ho.ok (by decide +kernel)) ?_
      · refine setLd_may h (Sub.rfl.inr.trans hm) hb1
  · exact hb1

def meterWrite_m : Nat := mask [REE_PK_CFG.RING, REE_PK_CFG.PAIR96, REE_PK_CFG.EN, REE_LD_CTL.EN,
  REE_LD_CH0.WEIGHT, REE_LD_CH0.PAIR96, REE_LD_CH0.RING, REE_LD_CH1.WEIGHT, REE_LD_CH1.PAIR96, REE_LD_CH1.RING, REE_LD_CH2.WEIGHT, REE_LD_CH2.PAIR96, REE_LD_CH2.RING, REE_LD_CH3.WEIGHT, REE_LD_CH3.PAIR96, REE_LD_CH3.RING, REE_LD_CH4.WEIGHT, REE_LD_CH4.PAIR96, REE_LD_CH4.RING, REE_LD_CH5.WEIGHT, REE_LD_CH5.PAIR96, REE_LD_CH5.RING, REE_LD_CH6.WEIGHT, REE_LD_CH6.PAIR96, REE_LD_CH6.RING, REE_LD_CH7.WEIGHT, REE_LD_CH7.PAIR96, REE_LD_CH7.RING] ||| setF_m
theorem meterWrite_may (h : May M I) (hm : Sub meterWrite_m M) {b0} {b1} {b2} (hb2 : I b2) : I (meterWrite b0 b1 b2) := by
  have ho := (Sub.rfl.inl.trans hm)
  have hc : ∀ k, okB meterWrite_m (ldChannel k).1 = true ∧ okB meterWrite_m (ldChannel k).2.1 = true ∧ okB meterWrite_m (ldChannel k).2.2 = true := by
    intro k
    unfold ldChannel
    split <;> exact ⟨by decide +kernel, by decide +kernel, by decide +kernel⟩
  unfold meterWrite
  split
  · refine may_ite ?_ ?_
    · refine setF_may h (Sub.rfl.inr.trans hm) (ho.ok (by decide +kernel)) ?_
      · refine setF_may h (Sub.rfl.inr.trans hm) (ho.ok (by decide +kernel)) ?_
        · refine setF_may h (Sub.rfl.inr.trans hm) (ho.ok (by decide +kernel)) hb2
    · exact hb2
  · refine may_ite ?_ ?_
    · refine setF_may h (Sub.rfl.inr.trans hm) (hm.ok (hc _).2.2) ?_
      · refine setF_may h (Sub.rfl.inr.trans hm) (hm.ok (hc _).2.1) ?_
        · refine setF_may h (Sub.rfl.inr.trans hm) (hm.ok (hc _).1) hb2
    · exact hb2
  · refine may_ite ?_ ?_
    · refine setF_may h (Sub.rfl.inr.trans hm) (ho.ok (by decide +kernel)) hb2
    · exact hb2

def clearMaxima_m : Nat := resetFs_m ||| setReedS_m
theorem clearMaxima_may (h : May M I) (hm : Sub clearMaxima_m M) {b0 : List Fld} (hb0 : OkAll M b0) {b1} {b2} (hb2 : I b2) : I (clearMaxima b0 b1 b2) := by
  unfold clearMaxima
  refine resetFs_may h (Sub.rfl.inl.trans hm) hb0 ?_
  · refine setReedS_may h (Sub.rfl.inr.trans hm) hb2

def pkStep_m : Nat := mask [REE_PK_100.PEAK_100, REE_PK_TP_MAX.TP_MAX, REE_PK_MAX.PEAK_MAX] ||| mask pkMaxima ||| clearMaxima_m ||| setPk_m ||| resetFs_m ||| setF_m
theorem pkStep_may (h : May M I) (hm : Sub pkStep_m M) {b0} {b1} {b2} (hb2 : I b2) : I (pkStep b0 b1 b2) := by
  have ho := (Sub.rfl.inl.inl.inl.inl.inl.trans hm)
  unfold pkStep
  extract_lets -merge -useContext x0 x1 x2 x3 x4 x5 x6 x7 x8 x9 x10 x11
  have hx2 : I x2 := by
    unfold x2
    refine may_ite ?_ ?_
    · refine clearMaxima_may h (Sub.rfl.inr.inl.inl.inl.trans hm) ((Sub.rfl.inr.inl.inl.inl.inl.trans hm).okAll (by decide +kernel)) hb2
    · exact hb2
  clear_value x2
  have hx3 : I x3 := by
    unfold x3
    refine may_ite ?_ ?_
    · refine setPk_may h (Sub.rfl.inr.inl.inl.trans hm) ?_
      · refine resetFs_may h (Sub.rfl.inr.inl.trans hm) (hm.okAll (by decide +kernel)) hb2
    · exact hb2
  clear_value x3
  have hx9 : I x9 := by
    unfold x9
    refine setF_may h (Sub.rfl.inr.trans hm) (ho.ok (by decide +kernel)) ?_
    · refine setF_may h (Sub.rfl.inr.trans hm) (ho.ok (by decide +kernel)) hx3
  clear_value x9
  have hx10 : I x10 := by
    unfold x10
    refine may_ite ?_ ?_
    · refine setF_may h (Sub.rfl.inr.trans hm) (ho.ok (by decide +kernel)) hx9
    · exact hx9
  clear_value x10
  have hx11 : I x11 := by
    unfold x11
    refine may_ite ?_ ?_
    · refine clearMaxima_may h (Sub.rfl.inr.inl.inl.inl.trans hm) ((Sub.rfl.inr.inl.inl.inl.inl.trans hm).okAll (by decide +kernel)) hx10
    · exact hx10
  clear_value x11
  refine may_ite ?_ ?_
  · refine setPk_may h (Sub.rfl.inr.inl.inl.trans hm) hx2
  · refine setPk_may h (Sub.rfl.inr.inl.inl.trans hm) hx11

def ldSegment_m : Nat := mask [REE_LD_CTL.GATED_OVF, REE_LD_GATED.COUNT, REE_LD_MAX.S_MAX, REE_LD_MAX.M_MAX, REE_LD_INT.INTEGRATED, REE_LD_MS.SHORT, REE_LD_MS.MOMENTARY] ||| setF_m ||| setLd_m
theorem ldSegment_may (h : May M I) (hm : Sub ldSegment_m M) {b0} {b1} (hb1 : I b1) : I (ldSegment b0 b1) := by
  have ho := (Sub.rfl.inl.inl.trans hm)
  unfold ldSegment
  extract_lets -merge -useContext x0 x1 x2 x3 x4 x5 x6 x7
  refine may_ite ?_ ?_
  · refine setF_may h (Sub.rfl.inr.inl.trans hm) (ho.ok (by decide +kernel)) ?_
    · refine setF_may h (Sub.rfl.inr.inl.trans hm) (ho.ok (by decide +kernel)) ?_
      · refine setF_may h (Sub.rfl.inr.inl.trans hm) (ho.ok (by decide +kernel)) ?_
        · refine setF_may h (Sub.rfl.inr.inl.trans hm) (ho.ok (by decide +kernel)) ?_
          · refine setF_may h (Sub.rfl.inr.inl.trans hm) (ho.ok (by decide +kernel)) ?_
            · refine setF_may h (Sub.rfl.inr.inl.trans hm) (ho.ok (by decide +kernel)) ?_
              · refine setF_may h (Sub.rfl.inr.inl.trans hm) (ho.ok (by decide +kernel)) ?_
                · refine setLd_may h (Sub.rfl.inr.trans hm) hb1
  · refine setF_may h (Sub.rfl.inr.inl.trans hm) (ho.ok (by decide +kernel)) ?_
    · refine setF_may h (Sub.rfl.inr.inl.trans hm) (ho.ok (by decide +kernel)) ?_
      · refine setF_may h (Sub.rfl.inr.inl.trans hm) (ho.ok (by decide +kernel)) ?_
        · refine setF_may h (Sub.rfl.inr.inl.trans hm) (ho.ok (by decide +kernel)) ?_
          · refine setF_may h (Sub.rfl.inr.inl.trans hm) (ho.ok (by decide +kernel)) ?_
            · refine setF_may h (Sub.rfl.inr.inl.trans hm) (ho.ok (by decide +kernel)) ?_
              · refine setLd_may h (Sub.rfl.inr.trans hm) hb1

def ldStep_m : Nat := mask ldMaxima ||| mask ldWindows ||| clearMaxima_m ||| setLd_m ||| resetFs_m ||| ldSegment_m
theorem ldStep_may (h : May M I) (hm : Sub ldStep_m M) {b0} {b1} {b2} (hb2 : I b2) : I (ldStep b0 b1 b2) := by
  unfold ldStep
  extract_lets -merge -useContext x0 x1 x2 x3 x4 x5 x6 x7 x8 x9
  have hx3 : I x3 := by
    unfold x3
    refine may_ite ?_ ?_
    · refine clearMaxima_may h (Sub.rfl.inr.inl.inl.inl.trans hm) ((Sub.rfl.inl.inl.inl.inl.inl.trans hm).okAll (by decide +kernel)) hb2
    · exact hb2
  clear_value x3
  have hx5 : I x5 := by
    unfold x5
    refine may_ite ?_ ?_
    · refine setLd_may h (Sub.rfl.inr.inl.inl.trans hm) ?_
      · refine may_ite ?_ ?_
        · refine resetFs_may h (Sub.rfl.inr.inl.trans hm) ((Sub.rfl.inl.inl.inl.inl.inl.trans hm).okAll (by decide +kernel)) ?_
          · refine resetFs_may h (Sub.rfl.inr.inl.trans hm) ((Sub.rfl.inr.inl.inl.inl.inl.trans hm).okAll (by decide +kernel)) hb2
        · refine resetFs_may h (Sub.rfl.inr.inl.trans hm) ((Sub.rfl.inr.inl.inl.inl.inl.trans hm).okAll (by decide +kernel)) hb2
    · exact hb2
  clear_value x5
  have hx8 : I x8 := by
    unfold x8
    refine setLd_may h (Sub.rfl.inr.inl.inl.trans hm) hx5
  clear_value x8
  have hx9 : I x9 := by
    unfold x9
    refine may_ite ?_ ?_
    · refine ldSegment_may h (Sub.rfl.inr.trans hm) hx8
    · exact hx8
  clear_value x9
  refine may_ite ?_ ?_
  · refine setLd_may h (Sub.rfl.inr.inl.inl.trans hm) hx3
  · refine may_ite ?_ ?_
    · refine setLd_may h (Sub.rfl.inr.inl.inl.trans hm) ?_
      · refine clearMaxima_may h (Sub.rfl.inr.inl.inl.inl.trans hm) ((Sub.rfl.inl.inl.inl.inl.inl.trans hm).okAll (by decide +kernel)) hx9
    · exact hx9

def metersStep_m : Nat := forEach_m ||| ldStep_m ||| pkStep_m ||| setReedS_m
theorem metersStep_may (h : May M I) (hm : Sub metersStep_m M) {b0} {b1} (hb1 : I b1) : I (metersStep b0 b1) := by
  unfold metersStep
  extract_lets -merge -useContext x0 x1
  refine forEach_may h (Sub.rfl.inl.inl.inl.trans hm) (fun a2 a3 ha3 => ?_) ?_
  · refine ldStep_may h (Sub.rfl.inr.inl.inl.trans hm) ha3
  · refine forEach_may h (Sub.rfl.inl.inl.inl.trans hm) (fun a4 a5 ha5 => ?_) ?_
    · refine pkStep_may h (Sub.rfl.inr.inl.trans hm) ha5
    · refine setReedS_may h (Sub.rfl.inr.trans hm) hb1

def execReedNop_m : Nat := reedRow_m ||| reedNop_m
theorem execReedNop_may (h : May M I) (hm : Sub execReedNop_m M) {b0} {b1} (hb1 : I b1) : Ans I (execReedNop b0 b1) := by
  refine ⟨_, rfl, ?_⟩
  refine reedRow_may h (Sub.rfl.inl.trans hm) (fun a0 a1 a2 ha2 => ?_) hb1
  · refine reedNop_may h (Sub.rfl.inr.trans hm) ha2

def execReedEnd_m : Nat := reedRow_m ||| reedEnd_m
theorem execReedEnd_may (h : May M I) (hm : Sub execReedEnd_m M) {b0} {b1} (hb1 : I b1) : Ans I (execReedEnd b0 b1) := by
  refine ⟨_, rfl, ?_⟩
  refine reedRow_may h (Sub.rfl.inl.trans hm) (fun a0 a1 a2 ha2 => ?_) hb1
  · refine reedEnd_may h (Sub.rfl.inr.trans hm) ha2

def execSetx_m : Nat := reedRow_m ||| reedSetx_m
theorem execSetx_may (h : May M I) (hm : Sub execSetx_m M) {b0} {b1} (hb1 : I b1) : Ans I (execSetx b0 b1) := by
  refine ⟨_, rfl, ?_⟩
  refine reedRow_may h (Sub.rfl.inl.trans hm) (fun a0 a1 a2 ha2 => ?_) hb1
  · refine reedSetx_may h (Sub.rfl.inr.trans hm) ha2

def execAddx_m : Nat := reedRow_m ||| reedAddx_m
theorem execAddx_may (h : May M I) (hm : Sub execAddx_m M) {b0} {b1} (hb1 : I b1) : Ans I (execAddx b0 b1) := by
  refine ⟨_, rfl, ?_⟩
  refine reedRow_may h (Sub.rfl.inl.trans hm) (fun a0 a1 a2 ha2 => ?_) hb1
  · refine reedAddx_may h (Sub.rfl.inr.trans hm) ha2

def execLoop_m : Nat := reedRow_m ||| reedLoop_m
theorem execLoop_may (h : May M I) (hm : Sub execLoop_m M) {b0} {b1} (hb1 : I b1) : Ans I (execLoop b0 b1) := by
  refine ⟨_, rfl, ?_⟩
  refine reedRow_may h (Sub.rfl.inl.trans hm) (fun a0 a1 a2 ha2 => ?_) hb1
  · refine reedLoop_may h (Sub.rfl.inr.trans hm) ha2

def execLdi_m : Nat := reedRow_m ||| reedLdi_m
theorem execLdi_may (h : May M I) (hm : Sub execLdi_m M) {b0} {b1} (hb1 : I b1) : Ans I (execLdi b0 b1) := by
  refine ⟨_, rfl, ?_⟩
  refine reedRow_may h (Sub.rfl.inl.trans hm) (fun a0 a1 a2 ha2 => ?_) hb1
  · refine reedLdi_may h (Sub.rfl.inr.trans hm) ha2

def execSto_m : Nat := reedRow_m ||| reedSto_m
theorem execSto_may (h : May M I) (hm : Sub execSto_m M) {b0} {b1} (hb1 : I b1) : Ans I (execSto b0 b1) := by
  refine ⟨_, rfl, ?_⟩
  refine reedRow_may h (Sub.rfl.inl.trans hm) (fun a0 a1 a2 ha2 => ?_) hb1
  · refine reedSto_may h (Sub.rfl.inr.trans hm) ha2

def execLds_m : Nat := reedRow_m ||| reedLds_m
theorem execLds_may (h : May M I) (hm : Sub execLds_m M) {b0} {b1} (hb1 : I b1) : Ans I (execLds b0 b1) := by
  refine ⟨_, rfl, ?_⟩
  refine reedRow_may h (Sub.rfl.inl.trans hm) (fun a0 a1 a2 ha2 => ?_) hb1
  · refine reedLds_may h (Sub.rfl.inr.trans hm) ha2

def execSts_m : Nat := reedRow_m ||| reedSts_m
theorem execSts_may (h : May M I) (hm : Sub execSts_m M) {b0} {b1} (hb1 : I b1) : Ans I (execSts b0 b1) := by
  refine ⟨_, rfl, ?_⟩
  refine reedRow_may h (Sub.rfl.inl.trans hm) (fun a0 a1 a2 ha2 => ?_) hb1
  · refine reedSts_may h (Sub.rfl.inr.trans hm) ha2

def execLda_m : Nat := reedRow_m ||| reedLda_m
theorem execLda_may (h : May M I) (hm : Sub execLda_m M) {b0} {b1} (hb1 : I b1) : Ans I (execLda b0 b1) := by
  refine ⟨_, rfl, ?_⟩
  refine reedRow_may h (Sub.rfl.inl.trans hm) (fun a0 a1 a2 ha2 => ?_) hb1
  · refine reedLda_may h (Sub.rfl.inr.trans hm) ha2

def execSta_m : Nat := reedRow_m ||| reedSta_m
theorem execSta_may (h : May M I) (hm : Sub execSta_m M) {b0} {b1} (hb1 : I b1) : Ans I (execSta b0 b1) := by
  refine ⟨_, rfl, ?_⟩
  refine reedRow_may h (Sub.rfl.inl.trans hm) (fun a0 a1 a2 ha2 => ?_) hb1
  · refine reedSta_may h (Sub.rfl.inr.trans hm) ha2

def execClr_m : Nat := reedRow_m ||| reedClr_m
theorem execClr_may (h : May M I) (hm : Sub execClr_m M) {b0} {b1} (hb1 : I b1) : Ans I (execClr b0 b1) := by
  refine ⟨_, rfl, ?_⟩
  refine reedRow_may h (Sub.rfl.inl.trans hm) (fun a0 a1 a2 ha2 => ?_) hb1
  · refine reedClr_may h (Sub.rfl.inr.trans hm) ha2

def execMul_m : Nat := reedRow_m ||| reedMul_m
theorem execMul_may (h : May M I) (hm : Sub execMul_m M) {b0} {b1} (hb1 : I b1) : Ans I (execMul b0 b1) := by
  refine ⟨_, rfl, ?_⟩
  refine reedRow_may h (Sub.rfl.inl.trans hm) (fun a0 a1 a2 ha2 => ?_) hb1
  · refine reedMul_may h (Sub.rfl.inr.trans hm) ha2

def execMac_m : Nat := reedRow_m ||| reedMac_m
theorem execMac_may (h : May M I) (hm : Sub execMac_m M) {b0} {b1} (hb1 : I b1) : Ans I (execMac b0 b1) := by
  refine ⟨_, rfl, ?_⟩
  refine reedRow_may h (Sub.rfl.inl.trans hm) (fun a0 a1 a2 ha2 => ?_) hb1
  · refine reedMac_may h (Sub.rfl.inr.trans hm) ha2

def execMsu_m : Nat := reedRow_m ||| reedMsu_m
theorem execMsu_may (h : May M I) (hm : Sub execMsu_m M) {b0} {b1} (hb1 : I b1) : Ans I (execMsu b0 b1) := by
  refine ⟨_, rfl, ?_⟩
  refine reedRow_may h (Sub.rfl.inl.trans hm) (fun a0 a1 a2 ha2 => ?_) hb1
  · refine reedMsu_may h (Sub.rfl.inr.trans hm) ha2

def execMacr_m : Nat := reedRow_m ||| reedMacr_m
theorem execMacr_may (h : May M I) (hm : Sub execMacr_m M) {b0} {b1} (hb1 : I b1) : Ans I (execMacr b0 b1) := by
  refine ⟨_, rfl, ?_⟩
  refine reedRow_may h (Sub.rfl.inl.trans hm) (fun a0 a1 a2 ha2 => ?_) hb1
  · refine reedMacr_may h (Sub.rfl.inr.trans hm) ha2

def execMacv_m : Nat := reedRow_m ||| reedMacv_m
theorem execMacv_may (h : May M I) (hm : Sub execMacv_m M) {b0} {b1} (hb1 : I b1) : Ans I (execMacv b0 b1) := by
  refine ⟨_, rfl, ?_⟩
  refine reedRow_may h (Sub.rfl.inl.trans hm) (fun a0 a1 a2 ha2 => ?_) hb1
  · refine reedMacv_may h (Sub.rfl.inr.trans hm) ha2

def execBiq_m : Nat := reedRow_m ||| reedBiq_m
theorem execBiq_may (h : May M I) (hm : Sub execBiq_m M) {b0} {b1} (hb1 : I b1) : Ans I (execBiq b0 b1) := by
  refine ⟨_, rfl, ?_⟩
  refine reedRow_may h (Sub.rfl.inl.trans hm) (fun a0 a1 a2 ha2 => ?_) hb1
  · refine reedBiq_may h (Sub.rfl.inr.trans hm) ha2

def execTlu_m : Nat := reedRow_m ||| reedTlu_m
theorem execTlu_may (h : May M I) (hm : Sub execTlu_m M) {b0} {b1} (hb1 : I b1) : Ans I (execTlu b0 b1) := by
  refine ⟨_, rfl, ?_⟩
  refine reedRow_may h (Sub.rfl.inl.trans hm) (fun a0 a1 a2 ha2 => ?_) hb1
  · refine reedTlu_may h (Sub.rfl.inr.trans hm) ha2

def execValu_m : Nat := reedRow_m ||| reedValu_m
theorem execValu_may (h : May M I) (hm : Sub execValu_m M) {b0} {b1} (hb1 : I b1) : Ans I (execValu b0 b1) := by
  refine ⟨_, rfl, ?_⟩
  refine reedRow_may h (Sub.rfl.inl.trans hm) (fun a0 a1 a2 ha2 => ?_) hb1
  · refine reedValu_may h (Sub.rfl.inr.trans hm) ha2

def execReeWrite_m : Nat := ringCmd_m ||| reeWriteBody_m
theorem execReeWrite_may (h : May M I) (hm : Sub execReeWrite_m M) (hr : Run M I) {b0} {b1} {b2} {b3} {b4} (hb4 : I b4) : Ans I (execReeWrite b0 b1 b2 b3 b4) := by
  refine ⟨_, rfl, ?_⟩
  refine ringCmd_may h (Sub.rfl.inl.trans hm) hr (fun I h a0 a1 ha1 => ?_) hb4
  · refine reeWriteBody_may h (Sub.rfl.inr.trans hm) ha1

def execReeClrCnt_m : Nat := mask reeCounters ||| whenHost_m ||| clearFlds_m
theorem execReeClrCnt_may (h : May M I) (hm : Sub execReeClrCnt_m M) {b0} (hb0 : I b0) : Ans I (execReeClrCnt b0) := by
  refine ⟨_, rfl, ?_⟩
  refine whenHost_may h (Sub.rfl.inr.inl.trans hm) (fun a0 ha0 => ?_) hb0
  · refine clearFlds_may h (Sub.rfl.inr.trans hm) ((Sub.rfl.inl.inl.trans hm).okAll (by decide +kernel)) ha0

def execPkClrMax_m : Nat := whenHost_m ||| pkClear_m
theorem execPkClrMax_may (h : May M I) (hm : Sub execPkClrMax_m M) {b0} {b1} (hb1 : I b1) : Ans I (execPkClrMax b0 b1) := by
  refine ⟨_, rfl, ?_⟩
  refine whenHost_may h (Sub.rfl.inl.trans hm) (fun a0 ha0 => ?_) hb1
  · refine pkClear_may h (Sub.rfl.inr.trans hm) ha0

def execLdClrMax_m : Nat := whenHost_m ||| ldClear_m
theorem execLdClrMax_may (h : May M I) (hm : Sub execLdClrMax_m M) {b0} {b1} (hb1 : I b1) : Ans I (execLdClrMax b0 b1) := by
  refine ⟨_, rfl, ?_⟩
  refine whenHost_may h (Sub.rfl.inl.trans hm) (fun a0 ha0 => ?_) hb1
  · refine ldClear_may h (Sub.rfl.inr.trans hm) ha0

def execLdResetInt_m : Nat := whenHost_m ||| ldRestart_m
theorem execLdResetInt_may (h : May M I) (hm : Sub execLdResetInt_m M) {b0} {b1} (hb1 : I b1) : Ans I (execLdResetInt b0 b1) := by
  refine ⟨_, rfl, ?_⟩
  refine whenHost_may h (Sub.rfl.inl.trans hm) (fun a0 ha0 => ?_) hb1
  · refine ldRestart_may h (Sub.rfl.inr.trans hm) ha0

def execMeterConfigWrite_m : Nat := whenHost_m ||| meterWrite_m
theorem execMeterConfigWrite_may (h : May M I) (hm : Sub execMeterConfigWrite_m M) {b0} {b1} {b2} (hb2 : I b2) : Ans I (execMeterConfigWrite b0 b1 b2) := by
  refine ⟨_, rfl, ?_⟩
  refine whenHost_may h (Sub.rfl.inl.trans hm) (fun a0 ha0 => ?_) hb2
  · refine meterWrite_may h (Sub.rfl.inr.trans hm) ha0

def audMapApply_m : Nat := setAud_m
theorem audMapApply_may (h : May M I) (hm : Sub audMapApply_m M) {b0} {b1} {b2} {b3} {b4} (hb4 : I b4) : I (audMapApply b0 b1 b2 b3 b4) := by
  unfold audMapApply
  refine setAud_may h (Sub.rfl.trans hm) hb4

def audMapBody_m : Nat := refuse_m ||| acceptTimed_m ||| audMapApply_m
theorem audMapBody_may (h : May M I) (hm : Sub audMapBody_m M) {b0} {b1} {b2} {b3} {b4} (hb4 : I b4) : I (audMapBody b0 b1 b2 b3 b4) := by
  unfold audMapBody
  refine may_ite ?_ ?_
  · refine refuse_may h (Sub.rfl.inl.inl.trans hm) hb4
  · split
    · refine refuse_may h (Sub.rfl.inl.inl.trans hm) hb4
    · refine may_ite ?_ ?_
      · refine refuse_may h (Sub.rfl.inl.inl.trans hm) hb4
      · split
        · refine refuse_may h (Sub.rfl.inl.inl.trans hm) hb4
        · refine acceptTimed_may h (Sub.rfl.inr.inl.trans hm) (fun a0 a1 a2 ha2 => ?_) hb4
          · refine audMapApply_may h (Sub.rfl.inr.trans hm) ha2

def applyEmbed_m : Nat := mask [AUD_OUT_RINGS.GROUPS, AUD_OUT_MUTE.GROUPS, AUD_OUT_STATUS.INACTIVE] ||| setF_m ||| setAud_m ||| setBit_m ||| raise_m
theorem applyEmbed_may (h : May M I) (hm : Sub applyEmbed_m M) {b0} {b1} {b2} {b3} {b4} {b5} {b6} (hb6 : I b6) : I (applyEmbed b0 b1 b2 b3 b4 b5 b6) := by
  have ho := (Sub.rfl.inl.inl.inl.inl.trans hm)
  unfold applyEmbed
  extract_lets -merge -useContext x0 x1 x2 x3 x4 x5 x6
  have hx3 : ∀ a0 a1, Ok M a0 → I a1 → I (x3 a0 a1) := by
    intro a7 a8 hf8 ha8
    unfold x3
    refine setF_may h (Sub.rfl.inr.inl.inl.inl.trans hm) hf8 ha8
  clear_value x3
  have hx4 : I x4 := by
    unfold x4
    refine setAud_may h (Sub.rfl.inr.inl.inl.trans hm) ?_
    · refine hx3 _ _ (ho.ok (by decide +kernel)) ?_
      · refine hx3 _ _ (ho.ok (by decide +kernel)) hb6
  clear_value x4
  have hx6 : I x6 := by
    unfold x6
    refine may_ite ?_ ?_
    · refine setAud_may h (Sub.rfl.inr.inl.inl.trans hm) ?_
      · refine setBit_may h (Sub.rfl.inr.inl.trans hm) (ho.ok (by decide +kernel)) hx4
    · refine may_ite ?_ ?_
      · refine setBit_may h (Sub.rfl.inr.inl.trans hm) (ho.ok (by decide +kernel)) hx4
      · exact hx4
  clear_value x6
  refine may_ite ?_ ?_
  · refine raise_may h (Sub.rfl.inr.trans hm) (ho.okAll (by decide +kernel)) hx6
  · exact hx6

def applyFill_m : Nat := forEach_m ||| setAud_m
theorem applyFill_may (h : May M I) (hm : Sub applyFill_m M) {b0} {b1} {b2} {b3} (hb3 : I b3) : I (applyFill b0 b1 b2 b3) := by
  unfold applyFill
  refine forEach_may h (Sub.rfl.inl.trans hm) (fun a0 a1 ha1 => ?_) hb3
  · refine setAud_may h (Sub.rfl.inr.trans hm) ha1

def pendLength_m : Nat := mask [AUD_RING_STATUS.PEND, AUD_RING_CFG.PEND_LOG2] ||| setF_m
theorem pendLength_may (h : May M I) (hm : Sub pendLength_m M) {b0} {b1} {b2} (hb2 : I b2) : I (pendLength b0 b1 b2) := by
  have ho := (Sub.rfl.inl.trans hm)
  unfold pendLength
  refine setF_may h (Sub.rfl.inr.trans hm) (ho.ok (by decide +kernel)) ?_
  · refine setF_may h (Sub.rfl.inr.trans hm) (ho.ok (by decide +kernel)) hb2

def applyRecord_m : Nat := mask [AUD_IN_MASK.GROUPS] ||| setF_m ||| applyEmbed_m ||| applyFill_m ||| pendLength_m
theorem applyRecord_may (h : May M I) (hm : Sub applyRecord_m M) {b0} {b1} (hb1 : I b1) : I (applyRecord b0 b1) := by
  have ho := (Sub.rfl.inl.inl.inl.inl.trans hm)
  unfold applyRecord
  split
  · refine setF_may h (Sub.rfl.inr.inl.inl.inl.trans hm) (ho.ok (by decide +kernel)) hb1
  · refine applyEmbed_may h (Sub.rfl.inr.inl.inl.trans hm) hb1
  · refine applyFill_may h (Sub.rfl.inr.inl.trans hm) hb1
  · extract_lets -merge -useContext x0
    have hx0 : I x0 := by
      unfold x0
      refine pendLength_may h (Sub.rfl.inr.trans hm) hb1
    clear_value x0
    refine may_ite ?_ ?_
    · refine pendLength_may h (Sub.rfl.inr.trans hm) hx0
    · exact hx0

def commitMaps_m : Nat := setAud_m ||| forEach_m ||| memberDone_m ||| applyRecord_m
theorem commitMaps_may (h : May M I) (hm : Sub commitMaps_m M) {b0} {b1} (hb1 : I b1) : I (commitMaps b0 b1) := by
  unfold commitMaps
  extract_lets -merge -useContext x0 x1
  have hx1 : I x1 := by
    unfold x1
    refine setAud_may h (Sub.rfl.inl.inl.inl.trans hm) hb1
  clear_value x1
  refine forEach_may h (Sub.rfl.inr.inl.inl.trans hm) (fun a2 a3 ha3 => ?_) hx1
  · refine memberDone_may h (Sub.rfl.inr.inl.trans hm) ?_
    · refine forEach_may h (Sub.rfl.inr.inl.inl.trans hm) (fun a4 a5 ha5 => ?_) ha3
      · refine applyRecord_may h (Sub.rfl.inr.trans hm) ha5

def execAudMap_m : Nat := ringCmd_m ||| audMapBody_m
theorem execAudMap_may (h : May M I) (hm : Sub execAudMap_m M) (hr : Run M I) {b0} {b1} {b2} {b3} {b4} (hb4 : I b4) : Ans I (execAudMap b0 b1 b2 b3 b4) := by
  refine ⟨_, rfl, ?_⟩
  refine ringCmd_may h (Sub.rfl.inl.trans hm) hr (fun I h a0 a1 ha1 => ?_) hb4
  · refine audMapBody_may h (Sub.rfl.inr.trans hm) ha1

def execAudClrCnt_m : Nat := mask audCounters ||| whenHost_m ||| clearFlds_m
theorem execAudClrCnt_may (h : May M I) (hm : Sub execAudClrCnt_m M) {b0} (hb0 : I b0) : Ans I (execAudClrCnt b0) := by
  refine ⟨_, rfl, ?_⟩
  refine whenHost_may h (Sub.rfl.inr.inl.trans hm) (fun a0 ha0 => ?_) hb0
  · refine clearFlds_may h (Sub.rfl.inr.trans hm) ((Sub.rfl.inl.inl.trans hm).okAll (by decide +kernel)) ha0

end

end Sys2Proof.Machine
end

