-- ==== Sys2Proof/Laws/MayNet.lean ====
section
/-! SUPPORT. Permissions of fabric, Ethernet and flows: each is made of the plain updates that its mask `…_m` names. -/

namespace Sys2Proof.Machine

set_option Elab.async false
set_option linter.unusedVariables false

section
variable {M : Nat} {I : State → Prop}

def setLp_m : Nat := setEth_m
theorem setLp_may (h : May M I) (hm : Sub setLp_m M) {b0} {b1} {b2} (hb2 : I b2) : I (setLp b0 b1 b2) := by
  unfold setLp
  refine setEth_may h (Sub.rfl.trans hm) hb2

def setPort_m : Nat := setEth_m
theorem setPort_may (h : May M I) (hm : Sub setPort_m M) {b0} {b1} {b2} (hb2 : I b2) : I (setPort b0 b1 b2) := by
  unfold setPort
  refine setEth_may h (Sub.rfl.trans hm) hb2

def setNet_m : Nat := setEth_m
theorem setNet_may (h : May M I) (hm : Sub setNet_m M) {b0} {b1} {b2} (hb2 : I b2) : I (setNet b0 b1 b2) := by
  unfold setNet
  refine setEth_may h (Sub.rfl.trans hm) hb2

def setPortBit_m : Nat := setF_m
theorem setPortBit_may (h : May M I) (hm : Sub setPortBit_m M) {b0 : Fld} (hb0 : Ok M b0) {b1} {b2} {b3} (hb3 : I b3) : I (setPortBit b0 b1 b2 b3) := by
  unfold setPortBit
  refine setF_may h (Sub.rfl.trans hm) hb0 hb3

def ethCount64_m : Nat := mask [ETH_LP_CNT_FLAGS.WRAP] ||| bump64F_m
theorem ethCount64_may (h : May M I) (hm : Sub ethCount64_m M) {b0 : Fld} (hb0 : Ok M b0) {b1} {b2} {b3} {b4} (hb4 : I b4) : I (ethCount64 b0 b1 b2 b3 b4) := by
  have ho := (Sub.rfl.inl.trans hm)
  unfold ethCount64
  refine bump64F_may h (Sub.rfl.inr.trans hm) hb0 (ho.ok (by decide +kernel)) hb4

def ethCount32_m : Nat := mask [ETH_LP_CNT_FLAGS.OVF] ||| bump32F_m
theorem ethCount32_may (h : May M I) (hm : Sub ethCount32_m M) {b0 : Fld} (hb0 : Ok M b0) {b1} {b2} {b3} (hb3 : I b3) : I (ethCount32 b0 b1 b2 b3) := by
  have ho := (Sub.rfl.inl.trans hm)
  unfold ethCount32
  refine bump32F_may h (Sub.rfl.inr.trans hm) hb0 (ho.ok (by decide +kernel)) hb3

def ethCount32By_m : Nat := mask [ETH_LP_CNT_FLAGS.OVF] ||| bump32F_m
theorem ethCount32By_may (h : May M I) (hm : Sub ethCount32By_m M) {b0 : Fld} (hb0 : Ok M b0) {b1} {b2} {b3} {b4} (hb4 : I b4) : I (ethCount32By b0 b1 b2 b3 b4) := by
  have ho := (Sub.rfl.inl.trans hm)
  unfold ethCount32By
  refine bump32F_may h (Sub.rfl.inr.trans hm) hb0 (ho.ok (by decide +kernel)) hb4

def changeStep_m : Nat := mask [ETH_PORT_STEP_CHG_CNT.COUNT, ETH_PORT_EVT.STEP_OVF, ETH_PORT_EVT.STEP, ETH_PORT_STATUS.STEP] ||| setPort_m ||| bump32_m ||| raise_m ||| setF_m
theorem changeStep_may (h : May M I) (hm : Sub changeStep_m M) {b0} {b1} {b2} (hb2 : I b2) : I (changeStep b0 b1 b2) := by
  have ho := (Sub.rfl.inl.inl.inl.inl.trans hm)
  unfold changeStep
  extract_lets -merge -useContext x0 x1
  have hx1 : I x1 := by
    unfold x1
    refine may_ite ?_ ?_
    · refine setPort_may h (Sub.rfl.inr.inl.inl.inl.trans hm) hb2
    · exact hb2
  clear_value x1
  refine may_ite ?_ ?_
  · exact hb2
  · refine bump32_may h (Sub.rfl.inr.inl.inl.trans hm) (ho.ok (by decide +kernel)) (ho.ok (by decide +kernel)) ?_
    · refine raise_may h (Sub.rfl.inr.inl.trans hm) (ho.okAll (by decide +kernel)) ?_
      · refine setF_may h (Sub.rfl.inr.trans hm) (ho.ok (by decide +kernel)) hx1

def stepUp_m : Nat := changeStep_m
theorem stepUp_may (h : May M I) (hm : Sub stepUp_m M) {b0} {b1} (hb1 : I b1) : I (stepUp b0 b1) := by
  unfold stepUp
  refine changeStep_may h (Sub.rfl.trans hm) hb1

def stepFor_m : Nat := changeStep_m
theorem stepFor_may (h : May M I) (hm : Sub stepFor_m M) {b0} {b1} (hb1 : I b1) : I (stepFor b0 b1) := by
  unfold stepFor
  extract_lets -merge -useContext x0
  refine may_ite ?_ ?_
  · exact hb1
  · refine changeStep_may h (Sub.rfl.trans hm) hb1

def stepWindow_m : Nat := setPort_m ||| changeStep_m
theorem stepWindow_may (h : May M I) (hm : Sub stepWindow_m M) {b0} {b1} (hb1 : I b1) : I (stepWindow b0 b1) := by
  unfold stepWindow
  extract_lets -merge -useContext x0 x1 x2 x3 x4 x5 x6
  refine setPort_may h (Sub.rfl.inl.trans hm) ?_
  · refine changeStep_may h (Sub.rfl.inr.trans hm) hb1

def deliverCtl_m : Nat := mask [ETH_MGMT_RX_DROP.COUNT, ETH_MGMT_FLAGS.RX_DROP_OVF, HIF_NET_RX_HEAD.HEAD] ||| bump32_m ||| signal_m ||| setF_m ||| emit_m ||| setNet_m
theorem deliverCtl_may (h : May M I) (hm : Sub deliverCtl_m M) {b0} {b1} {b2} (hb2 : I b2) : I (deliverCtl b0 b1 b2) := by
  have ho := (Sub.rfl.inl.inl.inl.inl.inl.trans hm)
  unfold deliverCtl
  extract_lets -merge -useContext x0 x1 x2 x3 x4
  have hx1 : ∀ a0, I a0 → I (x1 a0) := by
    intro a5 ha5
    unfold x1
    refine bump32_may h (Sub.rfl.inr.inl.inl.inl.inl.trans hm) (ho.ok (by decide +kernel)) (ho.ok (by decide +kernel)) ha5
  clear_value x1
  refine may_ite ?_ ?_
  · refine hx1 _ hb2
  · split
    · refine hx1 _ hb2
    · refine may_ite ?_ ?_
      · refine hx1 _ hb2
      · refine signal_may h (Sub.rfl.inr.inl.inl.inl.trans hm) ?_
        · refine setF_may h (Sub.rfl.inr.inl.inl.trans hm) (ho.ok (by decide +kernel)) ?_
          · refine emit_may h (Sub.rfl.inr.inl.trans hm) ?_
            · refine emit_may h (Sub.rfl.inr.inl.trans hm) ?_
              · refine emit_may h (Sub.rfl.inr.inl.trans hm) ?_
                · refine emit_may h (Sub.rfl.inr.inl.trans hm) ?_
                  · refine setNet_may h (Sub.rfl.inr.trans hm) hb2

def drainCtlRx_m : Nat := forEach_m ||| deliverCtl_m ||| setLp_m
theorem drainCtlRx_may (h : May M I) (hm : Sub drainCtlRx_m M) {b0} {b1} (hb1 : I b1) : I (drainCtlRx b0 b1) := by
  unfold drainCtlRx
  extract_lets -merge -useContext x0
  refine may_ite ?_ ?_
  · exact hb1
  · refine forEach_may h (Sub.rfl.inl.inl.trans hm) (fun a1 a2 ha2 => ?_) ?_
    · refine deliverCtl_may h (Sub.rfl.inr.inl.trans hm) ha2
    · refine setLp_may h (Sub.rfl.inr.trans hm) hb1

def moveTxHead_m : Nat := mask [HIF_NET_TX_HEAD.HEAD] ||| setNet_m ||| setF_m
theorem moveTxHead_may (h : May M I) (hm : Sub moveTxHead_m M) {b0} {b1} (hb1 : I b1) : I (moveTxHead b0 b1) := by
  have ho := (Sub.rfl.inl.inl.trans hm)
  unfold moveTxHead
  extract_lets -merge -useContext x0 x1
  split
  · refine setNet_may h (Sub.rfl.inr.inl.trans hm) ?_
    · refine setF_may h (Sub.rfl.inr.trans hm) (ho.ok (by decide +kernel)) hb1
  · exact hb1

def writeBackNow_m : Nat := signal_m ||| moveTxHead_m ||| setNet_m ||| emit_m
theorem writeBackNow_may (h : May M I) (hm : Sub writeBackNow_m M) {b0} {b1} {b2} {b3} {b4} {b5} (hb5 : I b5) : I (writeBackNow b0 b1 b2 b3 b4 b5) := by
  unfold writeBackNow
  extract_lets -merge -useContext x0
  refine may_ite ?_ ?_
  · refine signal_may h (Sub.rfl.inl.inl.inl.trans hm) ?_
    · refine moveTxHead_may h (Sub.rfl.inr.inl.inl.trans hm) ?_
      · refine setNet_may h (Sub.rfl.inr.inl.trans hm) ?_
        · refine emit_may h (Sub.rfl.inr.trans hm) ?_
          · refine emit_may h (Sub.rfl.inr.trans hm) hb5
  · refine moveTxHead_may h (Sub.rfl.inr.inl.inl.trans hm) ?_
    · refine setNet_may h (Sub.rfl.inr.inl.trans hm) ?_
      · refine emit_may h (Sub.rfl.inr.trans hm) ?_
        · refine emit_may h (Sub.rfl.inr.trans hm) hb5

def writeBack_m : Nat := writeBackNow_m ||| setNet_m
theorem writeBack_may (h : May M I) (hm : Sub writeBack_m M) {b0} {b1} {b2} {b3} {b4} {b5} (hb5 : I b5) : I (writeBack b0 b1 b2 b3 b4 b5) := by
  unfold writeBack
  refine may_ite ?_ ?_
  · exact hb5
  · refine may_ite ?_ ?_
    · refine writeBackNow_may h (Sub.rfl.inl.trans hm) hb5
    · refine setNet_may h (Sub.rfl.inr.trans hm) hb5

def releaseBacks_m : Nat := forEach_m ||| writeBackNow_m ||| setNet_m
theorem releaseBacks_may (h : May M I) (hm : Sub releaseBacks_m M) {b0} {b1} (hb1 : I b1) : I (releaseBacks b0 b1) := by
  unfold releaseBacks
  extract_lets -merge -useContext x0
  refine forEach_may h (Sub.rfl.inl.inl.trans hm) (fun a1 a2 ha2 => ?_) ?_
  · refine writeBackNow_may h (Sub.rfl.inr.inl.trans hm) ha2
  · refine setNet_may h (Sub.rfl.inr.trans hm) hb1

def openFrame_m : Nat := setNet_m
theorem openFrame_may (h : May M I) (hm : Sub openFrame_m M) {b0} {b1} {b2} (hb2 : I b2) : I (openFrame b0 b1 b2).2 := by
  unfold openFrame
  extract_lets -merge -useContext x0 x1
  refine setNet_may h (Sub.rfl.trans hm) hb2

def placeOne_m : Nat := openFrame_m ||| writeBack_m ||| setLp_m
theorem placeOne_may (h : May M I) (hm : Sub placeOne_m M) {b0} {b1} (hb1 : I b1) : I (placeOne b0 b1) := by
  unfold placeOne
  split
  · exact hb1
  · extract_lets -merge -useContext x0 x1 x2 x3
    refine may_ite ?_ ?_
    · exact hb1
    · refine may_ite ?_ ?_
      · split
        · rename_i p4 p5 heq6
          have hp5 : I p5 := by
            refine Eq.subst (motive := I) (congrArg Prod.snd heq6) ?_
            refine openFrame_may h (Sub.rfl.inl.inl.trans hm) hb1
          refine writeBack_may h (Sub.rfl.inr.inl.trans hm) hp5
      · refine may_ite ?_ ?_
        · exact hb1
        · split
          · rename_i p7 p8 heq9
            have hp8 : I p8 := by
              refine Eq.subst (motive := I) (congrArg Prod.snd heq9) ?_
              refine openFrame_may h (Sub.rfl.inl.inl.trans hm) hb1
            extract_lets -merge -useContext x10
            refine setLp_may h (Sub.rfl.inr.trans hm) hp8

def placeFrames_m : Nat := placeOne_m
theorem placeFrames_may (h : May M I) (hm : Sub placeFrames_m M) {b0} {b1} (hb1 : I b1) : I (placeFrames b0 b1) := by
  unfold placeFrames
  refine may_ite ?_ ?_
  · refine foldl_may (fun a0 a1 ha0 => ?_) ?_
    · refine placeOne_may h (Sub.rfl.trans hm) ha0
    · exact hb1
  · exact hb1

def fabLog_m : Nat := mask [FAB_EVT.DECODE, FAB_EVT.DENIED, FAB_EVT.ABORT, FAB_EVT.TARGET_ERR, FAB_ERR_CNT.COUNT, FAB_EVT.ERR_OVF, FAB_ERR_HEAD.SLOT, FAB_ERR_HEAD.VALID, FAB_ERR_LOG.SEC, FAB_ERR_LOG.ADDR_HI, FAB_ERR_LOG.ADDR_LO, FAB_ERR_LOG.WRITE, FAB_ERR_LOG.BEATS, FAB_ERR_LOG.TARGET, FAB_ERR_LOG.MASTER, FAB_ERR_LOG.KIND] ||| raise_m ||| bump32_m ||| setF_m ||| setB_m
theorem fabLog_may (h : May M I) (hm : Sub fabLog_m M) {b0} {b1} {b2} {b3} {b4} {b5} {b6} (hb6 : I b6) : I (fabLog b0 b1 b2 b3 b4 b5 b6) := by
  have ho := (Sub.rfl.inl.inl.inl.inl.trans hm)
  unfold fabLog
  extract_lets -merge -useContext x0
  refine raise_may h (Sub.rfl.inr.inl.inl.inl.trans hm) (by
    have hc : okB (mask [FAB_EVT.DECODE, FAB_EVT.DENIED, FAB_EVT.ABORT, FAB_EVT.TARGET_ERR]) (fabEvt b0) = true := by
      unfold fabEvt; split; · decide +kernel
      split; · decide +kernel
      split <;> decide +kernel
    intro f hf
    rw [List.mem_singleton.mp hf]
    exact (Sub.trans (by decide +kernel) ho).ok hc) ?_
  · refine bump32_may h (Sub.rfl.inr.inl.inl.trans hm) (ho.ok (by decide +kernel)) (ho.ok (by decide +kernel)) ?_
    · refine setF_may h (Sub.rfl.inr.inl.trans hm) (ho.ok (by decide +kernel)) ?_
      · refine setF_may h (Sub.rfl.inr.inl.trans hm) (ho.ok (by decide +kernel)) ?_
        · refine setF_may h (Sub.rfl.inr.inl.trans hm) (ho.ok (by decide +kernel)) ?_
          · refine setF_may h (Sub.rfl.inr.inl.trans hm) (ho.ok (by decide +kernel)) ?_
            · refine setF_may h (Sub.rfl.inr.inl.trans hm) (ho.ok (by decide +kernel)) ?_
              · refine setB_may h (Sub.rfl.inr.trans hm) (ho.ok (by decide +kernel)) ?_
                · refine setF_may h (Sub.rfl.inr.inl.trans hm) (ho.ok (by decide +kernel)) ?_
                  · refine setF_may h (Sub.rfl.inr.inl.trans hm) (ho.ok (by decide +kernel)) ?_
                    · refine setF_may h (Sub.rfl.inr.inl.trans hm) (ho.ok (by decide +kernel)) ?_
                      · refine setF_may h (Sub.rfl.inr.inl.trans hm) (ho.ok (by decide +kernel)) hb6

def abortBurst_m : Nat := fabLog_m
theorem abortBurst_may (h : May M I) (hm : Sub abortBurst_m M) {b0} {b1} {b2} (hb2 : I b2) : I (abortBurst b0 b1 b2) := by
  unfold abortBurst
  split
  · exact hb2
  · refine fabLog_may h (Sub.rfl.trans hm) hb2

def abortBursts_m : Nat := forEach_m ||| abortBurst_m
theorem abortBursts_may (h : May M I) (hm : Sub abortBursts_m M) {b0} {b1} (hb1 : I b1) : I (abortBursts b0 b1) := by
  unfold abortBursts
  refine forEach_may h (Sub.rfl.inl.trans hm) (fun a0 a1 ha1 => ?_) hb1
  · refine abortBurst_may h (Sub.rfl.inr.trans hm) ha1

def countDrop__m : Nat := mask [ETH_LP_RUNT.COUNT, ETH_LP_ADDR_DROP.COUNT, ETH_LP_OVERSIZE.COUNT, ETH_PORT_EVT.RX_NOBUF, ETH_LP_RX_NOBUF.COUNT, ETH_LP_FCS_ERR.COUNT, ETH_LP_IP_HDR_ERR.COUNT, ETH_LP_UDP_CSUM_ERR.COUNT] ||| ethCount32_m ||| raise_m
theorem countDrop__may (h : May M I) (hm : Sub countDrop__m M) {b0} {b1} {b2} (hb2 : I b2) : I (countDrop_ b0 b1 b2) := by
  have ho := (Sub.rfl.inl.inl.trans hm)
  unfold countDrop_
  split
  · refine ethCount32_may h (Sub.rfl.inr.inl.trans hm) (ho.ok (by decide +kernel)) hb2
  · refine ethCount32_may h (Sub.rfl.inr.inl.trans hm) (ho.ok (by decide +kernel)) hb2
  · refine ethCount32_may h (Sub.rfl.inr.inl.trans hm) (ho.ok (by decide +kernel)) hb2
  · refine raise_may h (Sub.rfl.inr.trans hm) (ho.okAll (by decide +kernel)) ?_
    · refine ethCount32_may h (Sub.rfl.inr.inl.trans hm) (ho.ok (by decide +kernel)) hb2
  · refine ethCount32_may h (Sub.rfl.inr.inl.trans hm) (ho.ok (by decide +kernel)) hb2
  · refine ethCount32_may h (Sub.rfl.inr.inl.trans hm) (ho.ok (by decide +kernel)) hb2
  · refine ethCount32_may h (Sub.rfl.inr.inl.trans hm) (ho.ok (by decide +kernel)) hb2

def countRx_m : Nat := mask [ETH_LP_RX_FRAMES.COUNT, ETH_LP_RX_OCTETS.COUNT] ||| ethCount64_m
theorem countRx_may (h : May M I) (hm : Sub countRx_m M) {b0} {b1} {b2} (hb2 : I b2) : I (countRx b0 b1 b2) := by
  have ho := (Sub.rfl.inl.trans hm)
  unfold countRx
  refine ethCount64_may h (Sub.rfl.inr.trans hm) (ho.ok (by decide +kernel)) ?_
  · refine ethCount64_may h (Sub.rfl.inr.trans hm) (ho.ok (by decide +kernel)) hb2

def pauseRx_m : Nat := mask [ETH_LP_PAUSE_RX.COUNT, ETH_LP_MEDIA_PAUSE_IGN.COUNT] ||| setLp_m ||| ethCount32_m ||| countRx_m
theorem pauseRx_may (h : May M I) (hm : Sub pauseRx_m M) {b0} {b1} {b2} (hb2 : I b2) : I (pauseRx b0 b1 b2) := by
  have ho := (Sub.rfl.inl.inl.inl.trans hm)
  unfold pauseRx
  extract_lets -merge -useContext x0
  have hx0 : I x0 := by
    unfold x0
    refine setLp_may h (Sub.rfl.inr.inl.inl.trans hm) ?_
    · refine ethCount32_may h (Sub.rfl.inr.inl.trans hm) (ho.ok (by decide +kernel)) ?_
      · refine countRx_may h (Sub.rfl.inr.trans hm) hb2
  clear_value x0
  refine may_ite ?_ ?_
  · exact hx0
  · refine ethCount32_may h (Sub.rfl.inr.inl.trans hm) (ho.ok (by decide +kernel)) hx0

def commitFrame_m : Nat := mask [ETH_LP_UNSUP_CTL.COUNT, ETH_LP_RX_MEDIA.COUNT, ETH_LP_RX_CTL.COUNT] ||| pauseRx_m ||| ethCount32_m ||| setLp_m ||| ethCount64_m ||| countRx_m ||| drainCtlRx_m
theorem commitFrame_may (h : May M I) (hm : Sub commitFrame_m M) {b0} {b1} {b2} (hb2 : I b2) : I (commitFrame b0 b1 b2) := by
  have ho := (Sub.rfl.inl.inl.inl.inl.inl.inl.trans hm)
  unfold commitFrame
  extract_lets -merge -useContext x0 x1
  refine may_ite ?_ ?_
  · refine pauseRx_may h (Sub.rfl.inr.inl.inl.inl.inl.inl.trans hm) hb2
  · refine may_ite ?_ ?_
    · refine ethCount32_may h (Sub.rfl.inr.inl.inl.inl.inl.trans hm) (ho.ok (by decide +kernel)) hb2
    · refine may_ite ?_ ?_
      · refine setLp_may h (Sub.rfl.inr.inl.inl.inl.trans hm) ?_
        · refine ethCount64_may h (Sub.rfl.inr.inl.inl.trans hm) (ho.ok (by decide +kernel)) ?_
          · refine countRx_may h (Sub.rfl.inr.inl.trans hm) hb2
      · refine drainCtlRx_may h (Sub.rfl.inr.trans hm) ?_
        · refine setLp_may h (Sub.rfl.inr.inl.inl.inl.trans hm) ?_
          · refine ethCount64_may h (Sub.rfl.inr.inl.inl.trans hm) (ho.ok (by decide +kernel)) ?_
            · refine countRx_may h (Sub.rfl.inr.inl.trans hm) hb2

def macRx_m : Nat := mask [ETH_LP_FEC_UNCORR.COUNT, ETH_LP_FEC_CORR.COUNT, ETH_LP_FLUSH_DROP.COUNT] ||| ethCount32By_m ||| setPort_m ||| stepUp_m ||| countDrop__m ||| ethCount32_m ||| commitFrame_m
theorem macRx_may (h : May M I) (hm : Sub macRx_m M) {b0} {b1} {b2} {b3} {b4} {b5} {b6} (hb6 : I b6) : I (macRx b0 b1 b2 b3 b4 b5 b6) := by
  have ho := (Sub.rfl.inl.inl.inl.inl.inl.inl.trans hm)
  unfold macRx
  extract_lets -merge -useContext x0 x1 x2 x3 x4
  have hx1 : I x1 := by
    unfold x1
    refine ethCount32By_may h (Sub.rfl.inr.inl.inl.inl.inl.inl.trans hm) (ho.ok (by decide +kernel)) ?_
    · refine ethCount32By_may h (Sub.rfl.inr.inl.inl.inl.inl.inl.trans hm) (ho.ok (by decide +kernel)) ?_
      · refine setPort_may h (Sub.rfl.inr.inl.inl.inl.inl.trans hm) hb6
  clear_value x1
  have hx2 : I x2 := by
    unfold x2
    refine may_ite ?_ ?_
    · refine stepUp_may h (Sub.rfl.inr.inl.inl.inl.trans hm) hx1
    · exact hx1
  clear_value x2
  refine may_ite ?_ ?_
  · exact hb6
  · refine may_ite ?_ ?_
    · refine countDrop__may h (Sub.rfl.inr.inl.inl.trans hm) hx2
    · refine may_ite ?_ ?_
      · refine ethCount32_may h (Sub.rfl.inr.inl.trans hm) (ho.ok (by decide +kernel)) hx2
      · refine may_ite ?_ ?_
        · refine countDrop__may h (Sub.rfl.inr.inl.inl.trans hm) hx2
        · refine commitFrame_may h (Sub.rfl.inr.trans hm) hx2

def pauseEffect_m : Nat := mask [ETH_PORT_STATUS.PAUSED] ||| setPortBit_m ||| setLp_m
theorem pauseEffect_may (h : May M I) (hm : Sub pauseEffect_m M) {b0} {b1} (hb1 : I b1) : I (pauseEffect b0 b1) := by
  have ho := (Sub.rfl.inl.inl.trans hm)
  unfold pauseEffect
  split
  · refine setPortBit_may h (Sub.rfl.inr.inl.trans hm) (ho.ok (by decide +kernel)) ?_
    · refine setLp_may h (Sub.rfl.inr.trans hm) hb1
  · exact hb1

def pauseExpire_m : Nat := mask [ETH_PORT_STATUS.PAUSED] ||| setPortBit_m ||| setLp_m
theorem pauseExpire_may (h : May M I) (hm : Sub pauseExpire_m M) {b0} {b1} (hb1 : I b1) : I (pauseExpire b0 b1) := by
  have ho := (Sub.rfl.inl.inl.trans hm)
  unfold pauseExpire
  split
  · refine may_ite ?_ ?_
    · refine setPortBit_may h (Sub.rfl.inr.inl.trans hm) (ho.ok (by decide +kernel)) ?_
      · refine setLp_may h (Sub.rfl.inr.trans hm) hb1
    · exact hb1
  · exact hb1

def countTx_m : Nat := mask [ETH_LP_TX_FRAMES.COUNT, ETH_LP_TX_OCTETS.COUNT] ||| setPort_m ||| ethCount64_m
theorem countTx_may (h : May M I) (hm : Sub countTx_m M) {b0} {b1} {b2} (hb2 : I b2) : I (countTx b0 b1 b2) := by
  have ho := (Sub.rfl.inl.inl.trans hm)
  unfold countTx
  refine setPort_may h (Sub.rfl.inr.inl.trans hm) ?_
  · refine ethCount64_may h (Sub.rfl.inr.trans hm) (ho.ok (by decide +kernel)) ?_
    · refine ethCount64_may h (Sub.rfl.inr.trans hm) (ho.ok (by decide +kernel)) hb2

def sendMedia_m : Nat := countTx_m ||| emit_m ||| setLp_m
theorem sendMedia_may (h : May M I) (hm : Sub sendMedia_m M) {b0} {b1} {b2} (hb2 : I b2) : I (sendMedia b0 b1 b2) := by
  unfold sendMedia
  extract_lets -merge -useContext x0
  refine countTx_may h (Sub.rfl.inl.inl.trans hm) ?_
  · refine emit_may h (Sub.rfl.inr.inl.trans hm) ?_
    · refine setLp_may h (Sub.rfl.inr.trans hm) hb2

def sendCtl_m : Nat := mask [ETH_LP_OVERSIZE.COUNT, ETH_LP_UNSUP_CTL.COUNT] ||| setLp_m ||| writeBack_m ||| ethCount32_m ||| countTx_m ||| emit_m ||| placeFrames_m
theorem sendCtl_may (h : May M I) (hm : Sub sendCtl_m M) {b0} {b1} {b2} (hb2 : I b2) : I (sendCtl b0 b1 b2) := by
  have ho := (Sub.rfl.inl.inl.inl.inl.inl.inl.trans hm)
  unfold sendCtl
  extract_lets -merge -useContext x0 x1 x2
  have hx1 : I x1 := by
    unfold x1
    refine setLp_may h (Sub.rfl.inr.inl.inl.inl.inl.inl.trans hm) hb2
  clear_value x1
  have hx2 : I x2 := by
    unfold x2
    refine may_ite ?_ ?_
    · refine writeBack_may h (Sub.rfl.inr.inl.inl.inl.inl.trans hm) ?_
      · refine ethCount32_may h (Sub.rfl.inr.inl.inl.inl.trans hm) (ho.ok (by decide +kernel)) hx1
    · refine may_ite ?_ ?_
      · refine writeBack_may h (Sub.rfl.inr.inl.inl.inl.inl.trans hm) ?_
        · refine ethCount32_may h (Sub.rfl.inr.inl.inl.inl.trans hm) (ho.ok (by decide +kernel)) hx1
      · refine writeBack_may h (Sub.rfl.inr.inl.inl.inl.inl.trans hm) ?_
        · refine countTx_may h (Sub.rfl.inr.inl.inl.trans hm) ?_
          · refine emit_may h (Sub.rfl.inr.inl.trans hm) hx1
  clear_value x2
  refine placeFrames_may h (Sub.rfl.inr.trans hm) hx2

def linkDiscard_m : Nat := mask [ETH_LP_TX_LINK_DROP.COUNT] ||| ethCount32By_m ||| setLp_m ||| placeFrames_m ||| writeBack_m ||| ethCount32_m
theorem linkDiscard_may (h : May M I) (hm : Sub linkDiscard_m M) {b0} {b1} (hb1 : I b1) : I (linkDiscard b0 b1) := by
  have ho := (Sub.rfl.inl.inl.inl.inl.inl.trans hm)
  unfold linkDiscard
  extract_lets -merge -useContext x0 x1
  have hx1 : I x1 := by
    unfold x1
    refine ethCount32By_may h (Sub.rfl.inr.inl.inl.inl.inl.trans hm) (ho.ok (by decide +kernel)) ?_
    · refine setLp_may h (Sub.rfl.inr.inl.inl.inl.trans hm) hb1
  clear_value x1
  split
  · refine placeFrames_may h (Sub.rfl.inr.inl.inl.trans hm) ?_
    · refine writeBack_may h (Sub.rfl.inr.inl.trans hm) ?_
      · refine ethCount32_may h (Sub.rfl.inr.trans hm) (ho.ok (by decide +kernel)) ?_
        · refine setLp_may h (Sub.rfl.inr.inl.inl.inl.trans hm) hx1
  · exact hx1

def macNext_m : Nat := mask [ETH_LP_MEDIA_PAUSE_DROP.COUNT] ||| linkDiscard_m ||| ethCount32_m ||| setLp_m ||| sendMedia_m ||| sendCtl_m
theorem macNext_may (h : May M I) (hm : Sub macNext_m M) {b0} {b1} (hb1 : I b1) : I (macNext b0 b1) := by
  have ho := (Sub.rfl.inl.inl.inl.inl.inl.trans hm)
  unfold macNext
  extract_lets -merge -useContext x0 x1
  refine may_ite ?_ ?_
  · refine linkDiscard_may h (Sub.rfl.inr.inl.inl.inl.inl.trans hm) hb1
  · split
    · refine may_ite ?_ ?_
      · refine ethCount32_may h (Sub.rfl.inr.inl.inl.inl.trans hm) (ho.ok (by decide +kernel)) ?_
        · refine setLp_may h (Sub.rfl.inr.inl.inl.trans hm) hb1
      · refine sendMedia_may h (Sub.rfl.inr.inl.trans hm) hb1
    · split
      · refine may_ite ?_ ?_
        · exact hb1
        · refine sendCtl_may h (Sub.rfl.inr.trans hm) hb1
      · exact hb1

def macTx_m : Nat := pauseEffect_m ||| macNext_m
theorem macTx_may (h : May M I) (hm : Sub macTx_m M) {b0} {b1} (hb1 : I b1) : I (macTx b0 b1) := by
  unfold macTx
  refine may_ite ?_ ?_
  · refine pauseEffect_may h (Sub.rfl.inl.trans hm) ?_
    · refine macNext_may h (Sub.rfl.inr.trans hm) hb1
  · exact hb1

def showLine_m : Nat := emit_m
theorem showLine_may (h : May M I) (hm : Sub showLine_m M) {b0} {b1} {b2} (hb2 : I b2) : I (showLine b0 b1 b2) := by
  unfold showLine
  refine may_ite ?_ ?_
  · exact hb2
  · refine emit_may h (Sub.rfl.trans hm) hb2

def wakeDom_m : Nat := mask [PWR_DOM.STATE] ||| setF_m
theorem wakeDom_may (h : May M I) (hm : Sub wakeDom_m M) {b0} {b1} (hb1 : I b1) : I (wakeDom b0 b1) := by
  have ho := (Sub.rfl.inl.trans hm)
  unfold wakeDom
  refine may_ite ?_ ?_
  · refine setF_may h (Sub.rfl.inr.trans hm) (ho.ok (by decide +kernel)) hb1
  · exact hb1

def linkRise_m : Nat := mask [ETH_PORT_STATUS.LFAULT, ETH_PORT_STATUS.RFAULT, ETH_PORT_EVT.LINK_UP, ETH_PORT_STATUS.LINK] ||| showLine_m ||| setPortBit_m ||| wakeDom_m ||| raise_m
theorem linkRise_may (h : May M I) (hm : Sub linkRise_m M) {b0} {b1} {b2} (hb2 : I b2) : I (linkRise b0 b1 b2) := by
  have ho := (Sub.rfl.inl.inl.inl.inl.trans hm)
  unfold linkRise
  extract_lets -merge -useContext x0
  have hx0 : I x0 := by
    unfold x0
    refine showLine_may h (Sub.rfl.inr.inl.inl.inl.trans hm) ?_
    · refine setPortBit_may h (Sub.rfl.inr.inl.inl.trans hm) (ho.ok (by decide +kernel)) ?_
      · refine setPortBit_may h (Sub.rfl.inr.inl.inl.trans hm) (ho.ok (by decide +kernel)) ?_
        · refine wakeDom_may h (Sub.rfl.inr.inl.trans hm) ?_
          · refine wakeDom_may h (Sub.rfl.inr.inl.trans hm) hb2
  clear_value x0
  refine may_ite ?_ ?_
  · exact hb2
  · refine may_ite ?_ ?_
    · exact hx0
    · refine raise_may h (Sub.rfl.inr.trans hm) (ho.okAll (by decide +kernel)) ?_
      · refine setPortBit_may h (Sub.rfl.inr.inl.inl.trans hm) (ho.ok (by decide +kernel)) hx0

def linkFall_m : Nat := mask [ETH_PORT_STATUS.LFAULT, ETH_LP_LINK_DOWN_CNT.COUNT, ETH_PORT_EVT.LINK_DOWN, ETH_PORT_STATUS.LINK] ||| showLine_m ||| setPortBit_m ||| ethCount32_m ||| raise_m
theorem linkFall_may (h : May M I) (hm : Sub linkFall_m M) {b0} {b1} {b2} (hb2 : I b2) : I (linkFall b0 b1 b2) := by
  have ho := (Sub.rfl.inl.inl.inl.inl.trans hm)
  unfold linkFall
  extract_lets -merge -useContext x0
  have hx0 : I x0 := by
    unfold x0
    refine showLine_may h (Sub.rfl.inr.inl.inl.inl.trans hm) ?_
    · refine setPortBit_may h (Sub.rfl.inr.inl.inl.trans hm) (ho.ok (by decide +kernel)) hb2
  clear_value x0
  refine may_ite ?_ ?_
  · exact hb2
  · refine may_ite ?_ ?_
    · refine ethCount32_may h (Sub.rfl.inr.inl.trans hm) (ho.ok (by decide +kernel)) ?_
      · refine raise_may h (Sub.rfl.inr.trans hm) (ho.okAll (by decide +kernel)) ?_
        · refine setPortBit_may h (Sub.rfl.inr.inl.inl.trans hm) (ho.ok (by decide +kernel)) hx0
    · exact hx0

def portIdle_m : Nat := mask [PWR_DOM.STATE] ||| changeStep_m ||| setF_m
theorem portIdle_may (h : May M I) (hm : Sub portIdle_m M) {b0} {b1} (hb1 : I b1) : I (portIdle b0 b1) := by
  have ho := (Sub.rfl.inl.inl.trans hm)
  unfold portIdle
  extract_lets -merge -useContext x0
  have hx0 : I x0 := by
    unfold x0
    refine changeStep_may h (Sub.rfl.inr.inl.trans hm) ?_
    · refine setF_may h (Sub.rfl.inr.trans hm) (ho.ok (by decide +kernel)) hb1
  clear_value x0
  refine may_ite ?_ ?_
  · refine may_ite ?_ ?_
    · refine setF_may h (Sub.rfl.inr.trans hm) (ho.ok (by decide +kernel)) hx0
    · exact hx0
  · exact hb1

def flushMediaRx_m : Nat := mask [ETH_LP_CTL.MEDIA_RX_BUSY, ETH_LP_FLUSH_DROP.COUNT] ||| setF_m ||| setLp_m ||| ethCount32By_m
theorem flushMediaRx_may (h : May M I) (hm : Sub flushMediaRx_m M) {b0} {b1} (hb1 : I b1) : I (flushMediaRx b0 b1) := by
  have ho := (Sub.rfl.inl.inl.inl.trans hm)
  unfold flushMediaRx
  refine may_ite ?_ ?_
  · exact hb1
  · refine setF_may h (Sub.rfl.inr.inl.inl.trans hm) (ho.ok (by decide +kernel)) ?_
    · refine setLp_may h (Sub.rfl.inr.inl.trans hm) ?_
      · refine ethCount32By_may h (Sub.rfl.inr.trans hm) (ho.ok (by decide +kernel)) hb1

def flushCtlRx_m : Nat := mask [ETH_LP_CTL.CTL_RX_BUSY, ETH_LP_FLUSH_DROP.COUNT] ||| setF_m ||| setLp_m ||| ethCount32By_m
theorem flushCtlRx_may (h : May M I) (hm : Sub flushCtlRx_m M) {b0} {b1} (hb1 : I b1) : I (flushCtlRx b0 b1) := by
  have ho := (Sub.rfl.inl.inl.inl.trans hm)
  unfold flushCtlRx
  refine may_ite ?_ ?_
  · exact hb1
  · refine setF_may h (Sub.rfl.inr.inl.inl.trans hm) (ho.ok (by decide +kernel)) ?_
    · refine setLp_may h (Sub.rfl.inr.inl.trans hm) ?_
      · refine ethCount32By_may h (Sub.rfl.inr.trans hm) (ho.ok (by decide +kernel)) hb1

def flushPartial_m : Nat := mask [ETH_LP_FLUSH_DROP.COUNT] ||| openFrame_m ||| writeBack_m ||| ethCount32_m
theorem flushPartial_may (h : May M I) (hm : Sub flushPartial_m M) {b0} {b1} (hb1 : I b1) : I (flushPartial b0 b1) := by
  have ho := (Sub.rfl.inl.inl.inl.trans hm)
  unfold flushPartial
  extract_lets -merge -useContext x0
  split
  · extract_lets -merge -useContext x1
    refine may_ite ?_ ?_
    · split
      · rename_i p2 p3 heq4
        have hp3 : I p3 := by
          refine Eq.subst (motive := I) (congrArg Prod.snd heq4) ?_
          refine openFrame_may h (Sub.rfl.inr.inl.inl.trans hm) hb1
        refine writeBack_may h (Sub.rfl.inr.inl.trans hm) ?_
        · refine ethCount32_may h (Sub.rfl.inr.trans hm) (ho.ok (by decide +kernel)) hp3
    · exact hb1
  · exact hb1

def flushCtlTx_m : Nat := mask [ETH_LP_CTL.CTL_TX_BUSY, ETH_LP_FLUSH_DROP.COUNT] ||| placeFrames_m ||| setF_m ||| flushPartial_m ||| forEach_m ||| writeBack_m ||| ethCount32By_m ||| setLp_m
theorem flushCtlTx_may (h : May M I) (hm : Sub flushCtlTx_m M) {b0} {b1} (hb1 : I b1) : I (flushCtlTx b0 b1) := by
  have ho := (Sub.rfl.inl.inl.inl.inl.inl.inl.inl.trans hm)
  unfold flushCtlTx
  extract_lets -merge -useContext x0
  refine may_ite ?_ ?_
  · exact hb1
  · refine placeFrames_may h (Sub.rfl.inr.inl.inl.inl.inl.inl.inl.trans hm) ?_
    · refine setF_may h (Sub.rfl.inr.inl.inl.inl.inl.inl.trans hm) (ho.ok (by decide +kernel)) ?_
      · refine flushPartial_may h (Sub.rfl.inr.inl.inl.inl.inl.trans hm) ?_
        · refine forEach_may h (Sub.rfl.inr.inl.inl.inl.trans hm) (fun a1 a2 ha2 => ?_) ?_
          · refine writeBack_may h (Sub.rfl.inr.inl.inl.trans hm) ha2
          · refine ethCount32By_may h (Sub.rfl.inr.inl.trans hm) (ho.ok (by decide +kernel)) ?_
            · refine setLp_may h (Sub.rfl.inr.trans hm) hb1

def flushEnd_m : Nat := mask [ETH_PORT_EVT.FLUSH_DONE, ETH_LP_CTL.MEDIA_RX_BUSY, ETH_LP_CTL.CTL_RX_BUSY, ETH_LP_CTL.CTL_TX_BUSY] ||| raise_m ||| setF_m
theorem flushEnd_may (h : May M I) (hm : Sub flushEnd_m M) {b0} {b1} {b2} (hb2 : I b2) : I (flushEnd b0 b1 b2) := by
  have ho := (Sub.rfl.inl.inl.trans hm)
  unfold flushEnd
  extract_lets -merge -useContext x0
  refine may_ite ?_ ?_
  · refine raise_may h (Sub.rfl.inr.inl.trans hm) (ho.okAll (by decide +kernel)) ?_
    · refine setF_may h (Sub.rfl.inr.trans hm) (by
      unfold x0; split
      · exact ho.ok (by decide +kernel)
      · split <;> exact ho.ok (by decide +kernel)) hb2
  · exact hb2

def snapArm_m : Nat := mask [MON_SNAP_STATUS.ARMED] ||| setF_m
theorem snapArm_may (h : May M I) (hm : Sub snapArm_m M) {b0} (hb0 : I b0) : I (snapArm b0) := by
  have ho := (Sub.rfl.inl.trans hm)
  unfold snapArm
  refine setF_may h (Sub.rfl.inr.trans hm) (ho.ok (by decide +kernel)) hb0

def snapHold_m : Nat := mask [MON_SNAP_CTL.HOLD] ||| setB_m
theorem snapHold_may (h : May M I) (hm : Sub snapHold_m M) {b0} {b1} (hb1 : I b1) : I (snapHold b0 b1) := by
  have ho := (Sub.rfl.inl.trans hm)
  unfold snapHold
  refine setB_may h (Sub.rfl.inr.trans hm) (ho.ok (by decide +kernel)) hb1

def snapBoundary_m : Nat := mask [MON_SNAP_STATUS.COPYING, MON_SNAP_STATUS.ARMED] ||| pmask [.snap] ||| 0 ||| setEth_m ||| setF_m
theorem snapBoundary_may (h : May M I) (hm : Sub snapBoundary_m M) {b0} (hb0 : I b0) : I (snapBoundary b0) := by
  have ho := (Sub.rfl.inl.inl.inl.inl.trans hm)
  have hp := (Sub.rfl.inr.inl.inl.inl.trans hm)
  unfold snapBoundary
  extract_lets -merge -useContext x0 x1 x2
  clear_value x0
  refine may_ite ?_ ?_
  · refine setEth_may h (Sub.rfl.inr.inl.trans hm) ?_
    · refine setF_may h (Sub.rfl.inr.trans hm) (ho.ok (by decide +kernel)) ?_
      · refine setF_may h (Sub.rfl.inr.trans hm) (ho.ok (by decide +kernel)) ?_
        · exact h.snap (hp.testBit (by decide +kernel)) (hb0)
  · exact hb0

def snapDone_m : Nat := mask [MON_SNAP_SEQ.SEQ, MON_SNAP_NS.NS, MON_SNAP_SEC.SEC, MON_SNAP_STATUS.COPYING] ||| post_m ||| setF_m ||| setEth_m
theorem snapDone_may (h : May M I) (hm : Sub snapDone_m M) {b0} (hb0 : I b0) : I (snapDone b0) := by
  have ho := (Sub.rfl.inl.inl.inl.trans hm)
  unfold snapDone
  split
  · refine post_may h (Sub.rfl.inr.inl.inl.trans hm) ?_
    · refine setF_may h (Sub.rfl.inr.inl.trans hm) (ho.ok (by decide +kernel)) ?_
      · refine setF_may h (Sub.rfl.inr.inl.trans hm) (ho.ok (by decide +kernel)) ?_
        · refine setF_may h (Sub.rfl.inr.inl.trans hm) (ho.ok (by decide +kernel)) ?_
          · refine setEth_may h (Sub.rfl.inr.trans hm) ?_
            · refine setF_may h (Sub.rfl.inr.inl.trans hm) (ho.ok (by decide +kernel)) hb0
  · exact hb0

def netTxTail_m : Nat := mask [HIF_NET_TX_TAIL.TAIL] ||| placeFrames_m ||| setNet_m ||| setF_m
theorem netTxTail_may (h : May M I) (hm : Sub netTxTail_m M) {b0} {b1} {b2} {b3} (hb3 : I b3) : I (netTxTail b0 b1 b2 b3) := by
  have ho := (Sub.rfl.inl.inl.inl.trans hm)
  unfold netTxTail
  extract_lets -merge -useContext x0
  refine may_ite ?_ ?_
  · exact hb3
  · refine placeFrames_may h (Sub.rfl.inr.inl.inl.trans hm) ?_
    · refine setNet_may h (Sub.rfl.inr.inl.trans hm) ?_
      · refine setF_may h (Sub.rfl.inr.trans hm) (ho.ok (by decide +kernel)) hb3

def netTxReadError_m : Nat := openFrame_m ||| placeFrames_m ||| writeBack_m ||| abortBurst_m
theorem netTxReadError_may (h : May M I) (hm : Sub netTxReadError_m M) {b0} {b1} {b2} (hb2 : I b2) : I (netTxReadError b0 b1 b2) := by
  unfold netTxReadError
  refine may_ite ?_ ?_
  · exact hb2
  · split
    · extract_lets -merge -useContext x0
      refine may_ite ?_ ?_
      · split
        · rename_i p1 p2 heq3
          have hp2 : I p2 := by
            refine Eq.subst (motive := I) (congrArg Prod.snd heq3) ?_
            refine openFrame_may h (Sub.rfl.inl.inl.inl.trans hm) hb2
          refine placeFrames_may h (Sub.rfl.inr.inl.inl.trans hm) ?_
          · refine writeBack_may h (Sub.rfl.inr.inl.trans hm) ?_
            · refine abortBurst_may h (Sub.rfl.inr.trans hm) hp2
      · exact hb2
    · exact hb2

def netRxTail_m : Nat := mask [HIF_NET_RX_TAIL.TAIL] ||| setNet_m ||| setF_m
theorem netRxTail_may (h : May M I) (hm : Sub netRxTail_m M) {b0} {b1} {b2} {b3} (hb3 : I b3) : I (netRxTail b0 b1 b2 b3) := by
  have ho := (Sub.rfl.inl.inl.trans hm)
  unfold netRxTail
  extract_lets -merge -useContext x0
  refine may_ite ?_ ?_
  · exact hb3
  · refine setNet_may h (Sub.rfl.inr.inl.trans hm) ?_
    · refine setF_may h (Sub.rfl.inr.trans hm) (ho.ok (by decide +kernel)) hb3

def execMacFrameRx_m : Nat := onService_m ||| macRx_m
theorem execMacFrameRx_may (h : May M I) (hm : Sub execMacFrameRx_m M) (hr : Run M I) {b0} {b1} {b2} {b3} {b4} {b5} {b6} {b7} (hb7 : I b7) : Ans I (execMacFrameRx b0 b1 b2 b3 b4 b5 b6 b7) := by
  refine ⟨_, rfl, ?_⟩
  refine onService_may h (Sub.rfl.inl.trans hm) hr (fun I h a0 ha0 => ?_) hb7
  · refine macRx_may h (Sub.rfl.inr.trans hm) ha0

def execPauseTakeEffect_m : Nat := onService_m ||| pauseEffect_m
theorem execPauseTakeEffect_may (h : May M I) (hm : Sub execPauseTakeEffect_m M) (hr : Run M I) {b0} {b1} {b2} (hb2 : I b2) : Ans I (execPauseTakeEffect b0 b1 b2) := by
  refine ⟨_, rfl, ?_⟩
  refine onService_may h (Sub.rfl.inl.trans hm) hr (fun I h a0 ha0 => ?_) hb2
  · refine pauseEffect_may h (Sub.rfl.inr.trans hm) ha0

def execPauseTimerExpire_m : Nat := onService_m ||| pauseExpire_m
theorem execPauseTimerExpire_may (h : May M I) (hm : Sub execPauseTimerExpire_m M) (hr : Run M I) {b0} {b1} {b2} (hb2 : I b2) : Ans I (execPauseTimerExpire b0 b1 b2) := by
  refine ⟨_, rfl, ?_⟩
  refine onService_may h (Sub.rfl.inl.trans hm) hr (fun I h a0 ha0 => ?_) hb2
  · refine pauseExpire_may h (Sub.rfl.inr.trans hm) ha0

def execMacFrameTx_m : Nat := onService_m ||| macTx_m
theorem execMacFrameTx_may (h : May M I) (hm : Sub execMacFrameTx_m M) (hr : Run M I) {b0} {b1} {b2} (hb2 : I b2) : Ans I (execMacFrameTx b0 b1 b2) := by
  refine ⟨_, rfl, ?_⟩
  refine onService_may h (Sub.rfl.inl.trans hm) hr (fun I h a0 ha0 => ?_) hb2
  · refine macTx_may h (Sub.rfl.inr.trans hm) ha0

def execLinkUp_m : Nat := onService_m ||| linkRise_m
theorem execLinkUp_may (h : May M I) (hm : Sub execLinkUp_m M) (hr : Run M I) {b0} {b1} {b2} {b3} (hb3 : I b3) : Ans I (execLinkUp b0 b1 b2 b3) := by
  refine ⟨_, rfl, ?_⟩
  refine onService_may h (Sub.rfl.inl.trans hm) hr (fun I h a0 ha0 => ?_) hb3
  · refine linkRise_may h (Sub.rfl.inr.trans hm) ha0

def execLinkDown_m : Nat := onService_m ||| linkFall_m
theorem execLinkDown_may (h : May M I) (hm : Sub execLinkDown_m M) (hr : Run M I) {b0} {b1} {b2} {b3} (hb3 : I b3) : Ans I (execLinkDown b0 b1 b2 b3) := by
  refine ⟨_, rfl, ?_⟩
  refine onService_may h (Sub.rfl.inl.trans hm) hr (fun I h a0 ha0 => ?_) hb3
  · refine linkFall_may h (Sub.rfl.inr.trans hm) ha0

def execEthStepWindow_m : Nat := onService_m ||| stepWindow_m
theorem execEthStepWindow_may (h : May M I) (hm : Sub execEthStepWindow_m M) (hr : Run M I) {b0} {b1} {b2} (hb2 : I b2) : Ans I (execEthStepWindow b0 b1 b2) := by
  refine ⟨_, rfl, ?_⟩
  refine onService_may h (Sub.rfl.inl.trans hm) hr (fun I h a0 ha0 => ?_) hb2
  · refine may_ite ?_ ?_
    · refine stepWindow_may h (Sub.rfl.inr.trans hm) ha0
    · exact ha0

def execEthPortIdleTimeout_m : Nat := onService_m ||| portIdle_m
theorem execEthPortIdleTimeout_may (h : May M I) (hm : Sub execEthPortIdleTimeout_m M) (hr : Run M I) {b0} {b1} {b2} (hb2 : I b2) : Ans I (execEthPortIdleTimeout b0 b1 b2) := by
  refine ⟨_, rfl, ?_⟩
  refine onService_may h (Sub.rfl.inl.trans hm) hr (fun I h a0 ha0 => ?_) hb2
  · refine portIdle_may h (Sub.rfl.inr.trans hm) ha0

def execFlushMediaRx_m : Nat := onHost_m ||| flushMediaRx_m
theorem execFlushMediaRx_may (h : May M I) (hm : Sub execFlushMediaRx_m M) (hr : Run M I) {b0} {b1} {b2} (hb2 : I b2) : Ans I (execFlushMediaRx b0 b1 b2) := by
  refine ⟨_, rfl, ?_⟩
  refine onHost_may h (Sub.rfl.inl.trans hm) hr (fun I h a0 ha0 => ?_) hb2
  · refine flushMediaRx_may h (Sub.rfl.inr.trans hm) ha0

def execFlushCtlRx_m : Nat := onHost_m ||| flushCtlRx_m
theorem execFlushCtlRx_may (h : May M I) (hm : Sub execFlushCtlRx_m M) (hr : Run M I) {b0} {b1} {b2} (hb2 : I b2) : Ans I (execFlushCtlRx b0 b1 b2) := by
  refine ⟨_, rfl, ?_⟩
  refine onHost_may h (Sub.rfl.inl.trans hm) hr (fun I h a0 ha0 => ?_) hb2
  · refine flushCtlRx_may h (Sub.rfl.inr.trans hm) ha0

def execFlushCtlTx_m : Nat := onHost_m ||| flushCtlTx_m
theorem execFlushCtlTx_may (h : May M I) (hm : Sub execFlushCtlTx_m M) (hr : Run M I) {b0} {b1} {b2} (hb2 : I b2) : Ans I (execFlushCtlTx b0 b1 b2) := by
  refine ⟨_, rfl, ?_⟩
  refine onHost_may h (Sub.rfl.inl.trans hm) hr (fun I h a0 ha0 => ?_) hb2
  · refine flushCtlTx_may h (Sub.rfl.inr.trans hm) ha0

def execFlushDone_m : Nat := onService_m ||| flushEnd_m
theorem execFlushDone_may (h : May M I) (hm : Sub execFlushDone_m M) (hr : Run M I) {b0} {b1} {b2} {b3} (hb3 : I b3) : Ans I (execFlushDone b0 b1 b2 b3) := by
  refine ⟨_, rfl, ?_⟩
  refine onService_may h (Sub.rfl.inl.trans hm) hr (fun I h a0 ha0 => ?_) hb3
  · refine flushEnd_may h (Sub.rfl.inr.trans hm) ha0

def execEthClrCnt_m : Nat := mask ethCounters ||| whenHost_m ||| clearFlds_m
theorem execEthClrCnt_may (h : May M I) (hm : Sub execEthClrCnt_m M) {b0} (hb0 : I b0) : Ans I (execEthClrCnt b0) := by
  refine ⟨_, rfl, ?_⟩
  refine whenHost_may h (Sub.rfl.inr.inl.trans hm) (fun a0 ha0 => ?_) hb0
  · refine clearFlds_may h (Sub.rfl.inr.trans hm) ((Sub.rfl.inl.inl.trans hm).okAll (by decide +kernel)) ha0

def execSnapArm_m : Nat := whenHost_m ||| snapArm_m
theorem execSnapArm_may (h : May M I) (hm : Sub execSnapArm_m M) {b0} (hb0 : I b0) : Ans I (execSnapArm b0) := by
  refine ⟨_, rfl, ?_⟩
  refine whenHost_may h (Sub.rfl.inl.trans hm) (fun a0 ha0 => ?_) hb0
  · refine snapArm_may h (Sub.rfl.inr.trans hm) ha0

def execSnapHold_m : Nat := whenHost_m ||| snapHold_m
theorem execSnapHold_may (h : May M I) (hm : Sub execSnapHold_m M) {b0} {b1} (hb1 : I b1) : Ans I (execSnapHold b0 b1) := by
  refine ⟨_, rfl, ?_⟩
  refine whenHost_may h (Sub.rfl.inl.trans hm) (fun a0 ha0 => ?_) hb1
  · refine snapHold_may h (Sub.rfl.inr.trans hm) ha0

def execSnapshotBoundary_m : Nat := onService_m ||| snapBoundary_m
theorem execSnapshotBoundary_may (h : May M I) (hm : Sub execSnapshotBoundary_m M) (hr : Run M I) {b0} {b1} (hb1 : I b1) : Ans I (execSnapshotBoundary b0 b1) := by
  refine ⟨_, rfl, ?_⟩
  refine onService_may h (Sub.rfl.inl.trans hm) hr (fun I h a0 ha0 => ?_) hb1
  · refine snapBoundary_may h (Sub.rfl.inr.trans hm) ha0

def execSnapshotCopyDone_m : Nat := onService_m ||| snapDone_m
theorem execSnapshotCopyDone_may (h : May M I) (hm : Sub execSnapshotCopyDone_m M) (hr : Run M I) {b0} {b1} (hb1 : I b1) : Ans I (execSnapshotCopyDone b0 b1) := by
  refine ⟨_, rfl, ?_⟩
  refine onService_may h (Sub.rfl.inl.trans hm) hr (fun I h a0 ha0 => ?_) hb1
  · refine snapDone_may h (Sub.rfl.inr.trans hm) ha0

def execNetTxDoorbell_m : Nat := onHost_m ||| netTxTail_m
theorem execNetTxDoorbell_may (h : May M I) (hm : Sub execNetTxDoorbell_m M) (hr : Run M I) {b0} {b1} {b2} {b3} {b4} (hb4 : I b4) : Ans I (execNetTxDoorbell b0 b1 b2 b3 b4) := by
  refine ⟨_, rfl, ?_⟩
  refine onHost_may h (Sub.rfl.inl.trans hm) hr (fun I h a0 ha0 => ?_) hb4
  · refine netTxTail_may h (Sub.rfl.inr.trans hm) ha0

def execNetTxReadError_m : Nat := onService_m ||| netTxReadError_m
theorem execNetTxReadError_may (h : May M I) (hm : Sub execNetTxReadError_m M) (hr : Run M I) {b0} {b1} {b2} {b3} (hb3 : I b3) : Ans I (execNetTxReadError b0 b1 b2 b3) := by
  refine ⟨_, rfl, ?_⟩
  refine onService_may h (Sub.rfl.inl.trans hm) hr (fun I h a0 ha0 => ?_) hb3
  · refine netTxReadError_may h (Sub.rfl.inr.trans hm) ha0

def execNetRxTail_m : Nat := onHost_m ||| netRxTail_m
theorem execNetRxTail_may (h : May M I) (hm : Sub execNetRxTail_m M) (hr : Run M I) {b0} {b1} {b2} {b3} {b4} (hb4 : I b4) : Ans I (execNetRxTail b0 b1 b2 b3 b4) := by
  refine ⟨_, rfl, ?_⟩
  refine onHost_may h (Sub.rfl.inl.trans hm) hr (fun I h a0 ha0 => ?_) hb4
  · refine netRxTail_may h (Sub.rfl.inr.trans hm) ha0

def setRx_m : Nat := setEth_m
theorem setRx_may (h : May M I) (hm : Sub setRx_m M) {b0} {b1} {b2} (hb2 : I b2) : I (setRx b0 b1 b2) := by
  unfold setRx
  refine setEth_may h (Sub.rfl.trans hm) hb2

def setTx_m : Nat := setEth_m
theorem setTx_may (h : May M I) (hm : Sub setTx_m M) {b0} {b1} {b2} (hb2 : I b2) : I (setTx b0 b1 b2) := by
  unfold setTx
  refine setEth_may h (Sub.rfl.trans hm) hb2

def rxCount64_m : Nat := mask [FLW_RX_FLAGS.WRAP] ||| bump64F_m
theorem rxCount64_may (h : May M I) (hm : Sub rxCount64_m M) {b0 : Fld} (hb0 : Ok M b0) {b1} {b2} {b3} {b4} (hb4 : I b4) : I (rxCount64 b0 b1 b2 b3 b4) := by
  have ho := (Sub.rfl.inl.trans hm)
  unfold rxCount64
  refine bump64F_may h (Sub.rfl.inr.trans hm) hb0 (ho.ok (by decide +kernel)) hb4

def rxCount32_m : Nat := mask [FLW_RX_FLAGS.OVF] ||| bump32F_m
theorem rxCount32_may (h : May M I) (hm : Sub rxCount32_m M) {b0 : Fld} (hb0 : Ok M b0) {b1} {b2} {b3} {b4} (hb4 : I b4) : I (rxCount32 b0 b1 b2 b3 b4) := by
  have ho := (Sub.rfl.inl.trans hm)
  unfold rxCount32
  refine may_ite ?_ ?_
  · exact hb4
  · refine bump32F_may h (Sub.rfl.inr.trans hm) hb0 (ho.ok (by decide +kernel)) hb4

def rxLate_m : Nat := mask [FLW_RX_LATE.COUNT] ||| rxCount32_m
theorem rxLate_may (h : May M I) (hm : Sub rxLate_m M) {b0} {b1} (hb1 : I b1) : I (rxLate b0 b1) := by
  have ho := (Sub.rfl.inl.trans hm)
  unfold rxLate
  refine rxCount32_may h (Sub.rfl.inr.trans hm) (ho.ok (by decide +kernel)) hb1

def rxBadHdr_m : Nat := mask [FLW_RX_BAD_HDR.COUNT] ||| rxCount32_m
theorem rxBadHdr_may (h : May M I) (hm : Sub rxBadHdr_m M) {b0} {b1} (hb1 : I b1) : I (rxBadHdr b0 b1) := by
  have ho := (Sub.rfl.inl.trans hm)
  unfold rxBadHdr
  refine rxCount32_may h (Sub.rfl.inr.trans hm) (ho.ok (by decide +kernel)) hb1

def pathPacket_m : Nat := mask [FLW_RX_EVT.PATH_UP, FLW_RX_STATUS.PATH_B_UP, FLW_RX_STATUS.PATH_A_UP] ||| setRx_m ||| raise_m ||| setF_m
theorem pathPacket_may (h : May M I) (hm : Sub pathPacket_m M) {b0} {b1} {b2} (hb2 : I b2) : I (pathPacket b0 b1 b2) := by
  have ho := (Sub.rfl.inl.inl.inl.trans hm)
  unfold pathPacket
  extract_lets -merge -useContext x0
  have hx0 : I x0 := by
    unfold x0
    refine setRx_may h (Sub.rfl.inr.inl.inl.trans hm) hb2
  clear_value x0
  refine may_ite ?_ ?_
  · exact hx0
  · refine raise_may h (Sub.rfl.inr.inl.trans hm) (ho.okAll (by decide +kernel)) ?_
    · refine setF_may h (Sub.rfl.inr.trans hm) (by unfold pathUpFld; split <;> exact ho.ok (by decide +kernel)) hx0

def pathDown_m : Nat := mask [FLW_RX_EVT.PATH_DOWN, FLW_RX_STATUS.PATH_B_UP, FLW_RX_STATUS.PATH_A_UP, FLW_RX_EVT.LOSS, FLW_RX_STATUS.LOSS] ||| raise_m ||| setF_m
theorem pathDown_may (h : May M I) (hm : Sub pathDown_m M) {b0} {b1} {b2} (hb2 : I b2) : I (pathDown b0 b1 b2) := by
  have ho := (Sub.rfl.inl.inl.trans hm)
  unfold pathDown
  dsimp only
  have hx : ∀ f : Fld, Ok M f → I (if getB f b0 b2 then b2 |> setF f b0 0 |> raise [FLW_RX_EVT.PATH_DOWN] b0 else b2) := fun f hf =>
    may_ite (raise_may h (Sub.rfl.inr.inl.trans hm) (ho.okAll (by decide +kernel)) (setF_may h (Sub.rfl.inr.trans hm) hf hb2)) hb2
  have hp : Ok M (pathUpFld b1) := by unfold pathUpFld; split <;> exact ho.ok (by decide +kernel)
  split
  · exact hb2
  · refine may_ite (may_ite ?_ (hx _ hp)) hb2
    exact raise_may h (Sub.rfl.inr.inl.trans hm) (ho.okAll (by decide +kernel)) (setF_may h (Sub.rfl.inr.trans hm) (ho.ok (by decide +kernel)) (hx _ hp))

def closeFrame_m : Nat := setRx_m
theorem closeFrame_may (h : May M I) (hm : Sub closeFrame_m M) {b0} {b1} (hb1 : I b1) : I (closeFrame b0 b1) := by
  unfold closeFrame
  refine setRx_may h (Sub.rfl.trans hm) hb1

def tellFrame_m : Nat := sendTwin_m
theorem tellFrame_may (h : May M I) (hm : Sub tellFrame_m M) {b0} {b1} {b2} (hb2 : I b2) : I (tellFrame b0 b1 b2) := by
  unfold tellFrame
  refine may_ite ?_ ?_
  · refine sendTwin_may h (Sub.rfl.trans hm) hb2
  · exact hb2

def flowFreezes_m : Nat := applyFreezes_m
theorem flowFreezes_may (h : May M I) (hm : Sub flowFreezes_m M) {b0} {b1} (hb1 : I b1) : I (flowFreezes b0 b1) := by
  unfold flowFreezes
  refine applyFreezes_may h (Sub.rfl.trans hm) (fun a0 ha0 => ?_) hb1
  · exact ha0

def damageFrame_m : Nat := mask [FLW_RX_EVT.DAMAGED, FLW_RX_DAMAGED.COUNT] ||| closeFrame_m ||| flowFreezes_m ||| writerFrameEnd_m ||| setAlloc_m ||| raise_m ||| rxCount32_m ||| tellFrame_m
theorem damageFrame_may (h : May M I) (hm : Sub damageFrame_m M) {b0} {b1} (hb1 : I b1) : I (damageFrame b0 b1) := by
  have ho := (Sub.rfl.inl.inl.inl.inl.inl.inl.inl.trans hm)
  unfold damageFrame
  refine may_ite ?_ ?_
  · exact hb1
  · refine closeFrame_may h (Sub.rfl.inr.inl.inl.inl.inl.inl.inl.trans hm) ?_
    · refine flowFreezes_may h (Sub.rfl.inr.inl.inl.inl.inl.inl.trans hm) ?_
      · refine writerFrameEnd_may h (Sub.rfl.inr.inl.inl.inl.inl.trans hm) ?_
        · refine setAlloc_may h (Sub.rfl.inr.inl.inl.inl.trans hm) ?_
          · refine raise_may h (Sub.rfl.inr.inl.inl.trans hm) (ho.okAll (by decide +kernel)) ?_
            · refine rxCount32_may h (Sub.rfl.inr.inl.trans hm) (ho.ok (by decide +kernel)) ?_
              · refine tellFrame_may h (Sub.rfl.inr.trans hm) hb1

def completeFrame_m : Nat := closeFrame_m ||| flowFreezes_m ||| writerFrameEnd_m ||| tellFrame_m
theorem completeFrame_may (h : May M I) (hm : Sub completeFrame_m M) {b0} {b1} (hb1 : I b1) : I (completeFrame b0 b1) := by
  unfold completeFrame
  extract_lets -merge -useContext x0 x1
  refine closeFrame_may h (Sub.rfl.inl.inl.inl.trans hm) ?_
  · refine flowFreezes_may h (Sub.rfl.inr.inl.inl.trans hm) ?_
    · refine writerFrameEnd_may h (Sub.rfl.inr.inl.trans hm) ?_
      · refine tellFrame_may h (Sub.rfl.inr.trans hm) hb1

def judgeVideo_m : Nat := damageFrame_m ||| completeFrame_m
theorem judgeVideo_may (h : May M I) (hm : Sub judgeVideo_m M) {b0} {b1} (hb1 : I b1) : I (judgeVideo b0 b1) := by
  unfold judgeVideo
  extract_lets -merge -useContext x0 x1
  split
  · refine may_ite ?_ ?_
    · exact hb1
    · refine may_ite ?_ ?_
      · refine damageFrame_may h (Sub.rfl.inl.trans hm) hb1
      · refine completeFrame_may h (Sub.rfl.inr.trans hm) hb1
  · exact hb1

def beginFrame_m : Nat := writerStart_m ||| setRx_m
theorem beginFrame_may (h : May M I) (hm : Sub beginFrame_m M) {b0} {b1} {b2} (hb2 : I b2) : I (beginFrame b0 b1 b2) := by
  unfold beginFrame
  refine writerStart_may h (Sub.rfl.inl.trans hm) ?_
  · refine setRx_may h (Sub.rfl.inr.trans hm) hb2

def videoPacket_m : Nat := setAlloc_m ||| beginFrame_m ||| damageFrame_m ||| rxLate_m ||| judgeVideo_m ||| setRx_m
theorem videoPacket_may (h : May M I) (hm : Sub videoPacket_m M) {b0} {b1} {b2} {b3} {b4} {b5} {b6} (hb6 : I b6) : I (videoPacket b0 b1 b2 b3 b4 b5 b6) := by
  unfold videoPacket
  extract_lets -merge -useContext x0 x1 x2 x3 x4 x5
  have hx2 : I x2 := by
    unfold x2
    refine setAlloc_may h (Sub.rfl.inl.inl.inl.inl.inl.trans hm) hb6
  clear_value x2
  have hx5 : I x5 := by
    unfold x5
    refine may_ite ?_ ?_
    · exact hx2
    · refine beginFrame_may h (Sub.rfl.inr.inl.inl.inl.inl.trans hm) ?_
      · refine damageFrame_may h (Sub.rfl.inr.inl.inl.inl.trans hm) hx2
  clear_value x5
  refine may_ite ?_ ?_
  · refine rxLate_may h (Sub.rfl.inr.inl.inl.trans hm) hx2
  · refine judgeVideo_may h (Sub.rfl.inr.inl.trans hm) ?_
    · refine setRx_may h (Sub.rfl.inr.trans hm) hx5

def ancPacket_m : Nat := forEach_m ||| storePacket_m ||| rxLate_m
theorem ancPacket_may (h : May M I) (hm : Sub ancPacket_m M) {b0} {b1} {b2} {b3} {b4} (hb4 : I b4) : I (ancPacket b0 b1 b2 b3 b4) := by
  unfold ancPacket
  extract_lets -merge -useContext x0
  refine may_ite ?_ ?_
  · refine forEach_may h (Sub.rfl.inl.inl.trans hm) (fun a1 a2 ha2 => ?_) hb4
    · refine storePacket_may h (Sub.rfl.inr.inl.trans hm) ha2
  · refine rxLate_may h (Sub.rfl.inr.trans hm) hb4

def audioPacketRx_m : Nat := rxLate_m ||| forEach_m ||| setRing_m
theorem audioPacketRx_may (h : May M I) (hm : Sub audioPacketRx_m M) {b0} {b1} {b2} {b3} (hb3 : I b3) : I (audioPacketRx b0 b1 b2 b3) := by
  unfold audioPacketRx
  extract_lets -merge -useContext x0 x1
  refine may_ite ?_ ?_
  · refine rxLate_may h (Sub.rfl.inl.inl.trans hm) hb3
  · refine forEach_may h (Sub.rfl.inr.inl.trans hm) (fun a2 a3 ha3 => ?_) hb3
    · extract_lets -merge -useContext x4 x5
      refine forEach_may h (Sub.rfl.inr.inl.trans hm) (fun a6 a7 ha7 => ?_) ha3
      · refine setRing_may h (Sub.rfl.inr.trans hm) ha7

def acceptPacket_m : Nat := mask [FLW_RX_PKTS_B.COUNT, FLW_RX_OCTETS.COUNT, FLW_RX_PKTS.COUNT, FLW_RX_PKTS_A.COUNT, FLW_RX_EVT.RESTORE, FLW_RX_STATUS.LOSS] ||| rxCount64_m ||| setRx_m ||| raise_m ||| setF_m
theorem acceptPacket_may (h : May M I) (hm : Sub acceptPacket_m M) {b0} {b1} {b2} {b3} {b4} (hb4 : I b4) : I (acceptPacket b0 b1 b2 b3 b4) := by
  have ho := (Sub.rfl.inl.inl.inl.inl.trans hm)
  unfold acceptPacket
  extract_lets -merge -useContext x0 x1 x2
  have hx0 : I x0 := by
    unfold x0
    split
    · refine rxCount64_may h (Sub.rfl.inr.inl.inl.inl.trans hm) (ho.ok (by decide +kernel)) ?_
      · refine rxCount64_may h (Sub.rfl.inr.inl.inl.inl.trans hm) (ho.ok (by decide +kernel)) ?_
        · refine rxCount64_may h (Sub.rfl.inr.inl.inl.inl.trans hm) (ho.ok (by decide +kernel)) hb4
    · refine rxCount64_may h (Sub.rfl.inr.inl.inl.inl.trans hm) (ho.ok (by decide +kernel)) ?_
      · refine rxCount64_may h (Sub.rfl.inr.inl.inl.inl.trans hm) (ho.ok (by decide +kernel)) ?_
        · refine rxCount64_may h (Sub.rfl.inr.inl.inl.inl.trans hm) (ho.ok (by decide +kernel)) hb4
  clear_value x0
  have hx2 : I x2 := by
    unfold x2
    refine setRx_may h (Sub.rfl.inr.inl.inl.trans hm) hx0
  clear_value x2
  refine may_ite ?_ ?_
  · refine raise_may h (Sub.rfl.inr.inl.trans hm) (ho.okAll (by decide +kernel)) ?_
    · refine setF_may h (Sub.rfl.inr.trans hm) (ho.ok (by decide +kernel)) hx2
  · exact hx2

def usePacket_m : Nat := videoPacket_m ||| ancPacket_m ||| audioPacketRx_m ||| setRx_m
theorem usePacket_may (h : May M I) (hm : Sub usePacket_m M) {b0} {b1} {b2} {b3} {b4} (hb4 : I b4) : I (usePacket b0 b1 b2 b3 b4) := by
  unfold usePacket
  extract_lets -merge -useContext x0 x1
  split
  · refine may_ite ?_ ?_
    · refine videoPacket_may h (Sub.rfl.inl.inl.inl.trans hm) hb4
    · exact hb4
  · refine may_ite ?_ ?_
    · refine ancPacket_may h (Sub.rfl.inr.inl.inl.trans hm) hb4
    · exact hb4
  · refine may_ite ?_ ?_
    · refine audioPacketRx_may h (Sub.rfl.inr.inl.trans hm) hb4
    · exact hb4
  · refine may_ite ?_ ?_
    · refine setRx_may h (Sub.rfl.inr.trans hm) hb4
    · exact hb4

def countGap_m : Nat := mask [FLW_RX_GAP_B.COUNT, FLW_RX_GAP_A.COUNT] ||| rxCount32_m ||| setRx_m
theorem countGap_may (h : May M I) (hm : Sub countGap_m M) {b0} {b1} {b2} {b3} (hb3 : I b3) : I (countGap b0 b1 b2 b3) := by
  have ho := (Sub.rfl.inl.inl.trans hm)
  unfold countGap
  extract_lets -merge -useContext x0 x1 x2 x3 x4
  have hx3 : I x3 := by
    unfold x3
    refine may_ite ?_ ?_
    · refine rxCount32_may h (Sub.rfl.inr.inl.trans hm) (ho.ok (by decide +kernel)) hb3
    · refine rxCount32_may h (Sub.rfl.inr.inl.trans hm) (ho.ok (by decide +kernel)) hb3
  clear_value x3
  refine setRx_may h (Sub.rfl.inr.trans hm) hx3

def restartStream_m : Nat := mask [FLW_RX_EVT.RESTART, FLW_RX_RESTART.COUNT] ||| damageFrame_m ||| raise_m ||| rxCount32_m ||| setRx_m
theorem restartStream_may (h : May M I) (hm : Sub restartStream_m M) {b0} {b1} (hb1 : I b1) : I (restartStream b0 b1) := by
  have ho := (Sub.rfl.inl.inl.inl.inl.trans hm)
  unfold restartStream
  extract_lets -merge -useContext x0
  have hx0 : I x0 := by
    unfold x0
    refine may_ite ?_ ?_
    · refine damageFrame_may h (Sub.rfl.inr.inl.inl.inl.trans hm) hb1
    · exact hb1
  clear_value x0
  refine raise_may h (Sub.rfl.inr.inl.inl.trans hm) (ho.okAll (by decide +kernel)) ?_
  · refine rxCount32_may h (Sub.rfl.inr.inl.trans hm) (ho.ok (by decide +kernel)) ?_
    · refine setRx_may h (Sub.rfl.inr.trans hm) hx0

def mergePacket_m : Nat := mask [FLW_RX_DUP.COUNT] ||| acceptPacket_m ||| countGap_m ||| setRx_m ||| restartStream_m ||| rxCount64_m ||| rxLate_m
theorem mergePacket_may (h : May M I) (hm : Sub mergePacket_m M) {b0} {b1} {b2} {b3} {b4} (hb4 : ∀ a0, I a0 → I (b4 a0)) {b5} (hb5 : I b5) : I (mergePacket b0 b1 b2 b3 b4 b5) := by
  have ho := (Sub.rfl.inl.inl.inl.inl.inl.inl.trans hm)
  unfold mergePacket
  extract_lets -merge -useContext x0 x1 x2 x3
  have hx1 : ∀ a0, I a0 → I (x1 a0) := by
    intro a4 ha4
    unfold x1
    refine hb4 _ ?_
    · refine acceptPacket_may h (Sub.rfl.inr.inl.inl.inl.inl.inl.trans hm) ?_
      · refine countGap_may h (Sub.rfl.inr.inl.inl.inl.inl.trans hm) ha4
  clear_value x1
  split
  · refine hx1 _ hb5
  · extract_lets -merge -useContext x5 x6 x7
    have hx7 : I x7 := by
      unfold x7
      refine setRx_may h (Sub.rfl.inr.inl.inl.inl.trans hm) hb5
    clear_value x7
    refine may_ite ?_ ?_
    · refine hx1 _ ?_
      · refine restartStream_may h (Sub.rfl.inr.inl.inl.trans hm) hx7
    · refine may_ite ?_ ?_
      · refine rxCount64_may h (Sub.rfl.inr.inl.trans hm) (ho.ok (by decide +kernel)) ?_
        · refine countGap_may h (Sub.rfl.inr.inl.inl.inl.inl.trans hm) hx7
      · refine may_ite ?_ ?_
        · refine rxLate_may h (Sub.rfl.inr.trans hm) hx7
        · refine may_ite ?_ ?_
          · exact hx7
          · refine hx1 _ hx7

def flowPacket_m : Nat := mask [FLW_PORT_NOFLOW.COUNT, FLW_PORT_FLAGS.NOFLOW_OVF] ||| setLp_m ||| bump32_m ||| pathPacket_m ||| rxBadHdr_m ||| mergePacket_m ||| usePacket_m
theorem flowPacket_may (h : May M I) (hm : Sub flowPacket_m M) {b0} {b1} {b2} (hb2 : I b2) : I (flowPacket b0 b1 b2) := by
  have ho := (Sub.rfl.inl.inl.inl.inl.inl.inl.trans hm)
  unfold flowPacket
  refine may_ite ?_ ?_
  · exact hb2
  · split
    · exact hb2
    · extract_lets -merge -useContext x0 x1 x2
      have hx0 : I x0 := by
        unfold x0
        refine setLp_may h (Sub.rfl.inr.inl.inl.inl.inl.inl.trans hm) hb2
      clear_value x0
      split
      · refine bump32_may h (Sub.rfl.inr.inl.inl.inl.inl.trans hm) (ho.ok (by decide +kernel)) (ho.ok (by decide +kernel)) hx0
      · extract_lets -merge -useContext x3 x4 x5
        have hx4 : I x4 := by
          unfold x4
          refine pathPacket_may h (Sub.rfl.inr.inl.inl.inl.trans hm) hx0
        clear_value x4
        refine may_ite ?_ ?_
        · refine rxBadHdr_may h (Sub.rfl.inr.inl.inl.trans hm) hx4
        · refine mergePacket_may h (Sub.rfl.inr.inl.trans hm) (fun a6 ha6 => ?_) hx4
          · refine usePacket_may h (Sub.rfl.inr.trans hm) ha6

def positionsLost_m : Nat := mask [FLW_RX_LOST.COUNT] ||| rxCount32_m ||| setRx_m ||| judgeVideo_m
theorem positionsLost_may (h : May M I) (hm : Sub positionsLost_m M) {b0} {b1} (hb1 : I b1) : I (positionsLost b0 b1) := by
  have ho := (Sub.rfl.inl.inl.inl.trans hm)
  unfold positionsLost
  extract_lets -merge -useContext x0 x1 x2
  have hx2 : I x2 := by
    unfold x2
    refine rxCount32_may h (Sub.rfl.inr.inl.inl.trans hm) (ho.ok (by decide +kernel)) ?_
    · refine setRx_may h (Sub.rfl.inr.inl.trans hm) hb1
  clear_value x2
  refine may_ite ?_ ?_
  · exact hb1
  · refine may_ite ?_ ?_
    · refine judgeVideo_may h (Sub.rfl.inr.trans hm) hx2
    · exact hx2

def rxDecide_m : Nat := setRx_m ||| completeFrame_m ||| damageFrame_m
theorem rxDecide_may (h : May M I) (hm : Sub rxDecide_m M) {b0} {b1} {b2} {b3} (hb3 : I b3) : I (rxDecide b0 b1 b2 b3) := by
  unfold rxDecide
  extract_lets -merge -useContext x0
  have hx0 : I x0 := by
    unfold x0
    refine setRx_may h (Sub.rfl.inl.inl.trans hm) hb3
  clear_value x0
  refine may_ite ?_ ?_
  · exact hb3
  · refine may_ite ?_ ?_
    · refine completeFrame_may h (Sub.rfl.inr.inl.trans hm) hx0
    · refine damageFrame_may h (Sub.rfl.inr.trans hm) hx0

def txCount64_m : Nat := mask [FLW_TX_FLAGS.WRAP] ||| bump64F_m
theorem txCount64_may (h : May M I) (hm : Sub txCount64_m M) {b0 : Fld} (hb0 : Ok M b0) {b1} {b2} {b3} {b4} (hb4 : I b4) : I (txCount64 b0 b1 b2 b3 b4) := by
  have ho := (Sub.rfl.inl.trans hm)
  unfold txCount64
  refine bump64F_may h (Sub.rfl.inr.trans hm) hb0 (ho.ok (by decide +kernel)) hb4

def stagePacket_m : Nat := mask [FLW_TX_OCTETS.COUNT, FLW_TX_PKTS.COUNT, ETH_LP_TX_LINK_DROP.COUNT, ETH_LP_MEDIA_PAUSE_DROP.COUNT, FLW_TX_EVT.STAGE_DROP, FLW_TX_STAGE_DROP.COUNT, FLW_TX_FLAGS.OVF] ||| txCount64_m ||| setLp_m ||| ethCount32_m ||| raise_m ||| bump32F_m ||| stepUp_m
theorem stagePacket_may (h : May M I) (hm : Sub stagePacket_m M) {b0} {b1} {b2} {b3} {b4} (hb4 : I b4) : I (stagePacket b0 b1 b2 b3 b4) := by
  have ho := (Sub.rfl.inl.inl.inl.inl.inl.inl.trans hm)
  unfold stagePacket
  extract_lets -merge -useContext x0 x1
  have hx0 : ∀ a0, I a0 → I (x0 a0) := by
    intro a2 ha2
    unfold x0
    refine txCount64_may h (Sub.rfl.inr.inl.inl.inl.inl.inl.trans hm) (ho.ok (by decide +kernel)) ?_
    · refine txCount64_may h (Sub.rfl.inr.inl.inl.inl.inl.inl.trans hm) (ho.ok (by decide +kernel)) ha2
  clear_value x0
  have hx1 : I x1 := by
    unfold x1
    refine setLp_may h (Sub.rfl.inr.inl.inl.inl.inl.trans hm) ?_
    · refine hx0 _ hb4
  clear_value x1
  refine may_ite ?_ ?_
  · exact hb4
  · refine may_ite ?_ ?_
    · refine ethCount32_may h (Sub.rfl.inr.inl.inl.inl.trans hm) (ho.ok (by decide +kernel)) ?_
      · refine hx0 _ hb4
    · refine may_ite ?_ ?_
      · refine ethCount32_may h (Sub.rfl.inr.inl.inl.inl.trans hm) (ho.ok (by decide +kernel)) ?_
        · refine hx0 _ hb4
      · refine may_ite ?_ ?_
        · refine raise_may h (Sub.rfl.inr.inl.inl.trans hm) (ho.okAll (by decide +kernel)) ?_
          · refine bump32F_may h (Sub.rfl.inr.inl.trans hm) (ho.ok (by decide +kernel)) (ho.ok (by decide +kernel)) hb4
        · refine may_ite ?_ ?_
          · refine stepUp_may h (Sub.rfl.inr.trans hm) hx1
          · exact hx1

def sendRtp_m : Nat := mask [FLW_TX_STANDBY.COUNT] ||| stagePacket_m ||| txCount64_m
theorem sendRtp_may (h : May M I) (hm : Sub sendRtp_m M) {b0} {b1} {b2} {b3} {b4} (hb4 : I b4) : I (sendRtp b0 b1 b2 b3 b4) := by
  have ho := (Sub.rfl.inl.inl.trans hm)
  unfold sendRtp
  extract_lets -merge -useContext x0 x1 x2
  have hx2 : I x2 := by
    unfold x2
    refine stagePacket_may h (Sub.rfl.inr.inl.trans hm) hb4
  clear_value x2
  refine may_ite ?_ ?_
  · refine txCount64_may h (Sub.rfl.inr.trans hm) (ho.ok (by decide +kernel)) hb4
  · refine may_ite ?_ ?_
    · refine stagePacket_may h (Sub.rfl.inr.inl.trans hm) hx2
    · exact hx2

def txAdvance_m : Nat := setTx_m
theorem txAdvance_may (h : May M I) (hm : Sub txAdvance_m M) {b0} {b1} {b2} (hb2 : I b2) : I (txAdvance b0 b1 b2) := by
  unfold txAdvance
  refine setTx_may h (Sub.rfl.trans hm) hb2

def videoTx_m : Nat := txAdvance_m ||| sendRtp_m
theorem videoTx_may (h : May M I) (hm : Sub videoTx_m M) {b0} {b1} (hb1 : I b1) : I (videoTx b0 b1) := by
  unfold videoTx
  extract_lets -merge -useContext x0
  split
  · exact hb1
  · extract_lets -merge -useContext x1 x2 x3 x4 x5 x6 x7
    refine may_ite ?_ ?_
    · exact hb1
    · refine txAdvance_may h (Sub.rfl.inl.trans hm) ?_
      · refine sendRtp_may h (Sub.rfl.inr.trans hm) hb1

def ancTx_m : Nat := txAdvance_m ||| sendRtp_m
theorem ancTx_may (h : May M I) (hm : Sub ancTx_m M) {b0} {b1} {b2} {b3} (hb3 : I b3) : I (ancTx b0 b1 b2 b3) := by
  unfold ancTx
  extract_lets -merge -useContext x0
  split
  · exact hb3
  · extract_lets -merge -useContext x1 x2 x3 x4 x5 x6 x7
    refine may_ite ?_ ?_
    · exact hb3
    · refine txAdvance_may h (Sub.rfl.inl.trans hm) ?_
      · refine sendRtp_may h (Sub.rfl.inr.trans hm) hb3

def audioTx_m : Nat := setTx_m ||| sendRtp_m
theorem audioTx_may (h : May M I) (hm : Sub audioTx_m M) {b0} {b1} (hb1 : I b1) : I (audioTx b0 b1) := by
  unfold audioTx
  extract_lets -merge -useContext x0 x1 x2 x3 x4
  refine may_ite ?_ ?_
  · exact hb1
  · refine may_ite ?_ ?_
    · exact hb1
    · refine setTx_may h (Sub.rfl.inl.trans hm) ?_
      · refine sendRtp_may h (Sub.rfl.inr.trans hm) hb1

def relayTx_m : Nat := setRx_m ||| sendRtp_m
theorem relayTx_may (h : May M I) (hm : Sub relayTx_m M) {b0} {b1} (hb1 : I b1) : I (relayTx b0 b1) := by
  unfold relayTx
  split
  · exact hb1
  · extract_lets -merge -useContext x0
    have hx0 : I x0 := by
      unfold x0
      refine setRx_may h (Sub.rfl.inl.trans hm) hb1
    clear_value x0
    refine may_ite ?_ ?_
    · exact hb1
    · refine may_ite ?_ ?_
      · exact hx0
      · refine sendRtp_may h (Sub.rfl.inr.trans hm) hx0

def txAudioTake_m : Nat := forEach_m ||| setTx_m
theorem txAudioTake_may (h : May M I) (hm : Sub txAudioTake_m M) {b0} {b1} {b2} (hb2 : I b2) : I (txAudioTake b0 b1 b2) := by
  unfold txAudioTake
  refine forEach_may h (Sub.rfl.inl.trans hm) (fun a0 a1 ha1 => ?_) hb2
  · extract_lets -merge -useContext x2 x3 x4 x5 x6
    refine setTx_may h (Sub.rfl.inr.trans hm) ha1

def setWords_m : Nat := forEach_m ||| setF_m
theorem setWords_may (h : May M I) (hm : Sub setWords_m M) {b0 : Fld} (hb0 : Ok M b0) {b1} {b2} {b3} (hb3 : I b3) : I (setWords b0 b1 b2 b3) := by
  unfold setWords
  refine forEach_may h (Sub.rfl.inl.trans hm) (fun a0 a1 ha1 => ?_) hb3
  · refine setF_may h (Sub.rfl.inr.trans hm) hb0 ha1

def showRecord_m : Nat := mask [FLW_TX_REC.WORD, FLW_TX_STATUS.EN, FLW_RX_REC.WORD, FLW_RX_STATUS.PAIRED, FLW_RX_STATUS.EN, FLW_TX_STATUS.RATE_MBPS, FLW_RX_STATUS.HOLD_WORDS] ||| setWords_m ||| setB_m ||| setF_m
theorem showRecord_may (h : May M I) (hm : Sub showRecord_m M) {b0} {b1} (hb1 : I b1) : I (showRecord b0 b1) := by
  have ho := (Sub.rfl.inl.inl.inl.trans hm)
  unfold showRecord
  extract_lets -merge -useContext x0 x1 x2 x3
  have hx2 : I x2 := by
    unfold x2
    refine setWords_may h (Sub.rfl.inr.inl.inl.trans hm) (ho.ok (by decide +kernel)) ?_
    · refine setB_may h (Sub.rfl.inr.inl.trans hm) (ho.ok (by decide +kernel)) hb1
  clear_value x2
  have hx3 : I x3 := by
    unfold x3
    refine setWords_may h (Sub.rfl.inr.inl.inl.trans hm) (ho.ok (by decide +kernel)) ?_
    · refine setB_may h (Sub.rfl.inr.inl.trans hm) (ho.ok (by decide +kernel)) ?_
      · refine setB_may h (Sub.rfl.inr.inl.trans hm) (ho.ok (by decide +kernel)) hb1
  clear_value x3
  refine may_ite ?_ ?_
  · refine setF_may h (Sub.rfl.inr.trans hm) (ho.ok (by decide +kernel)) hx2
  · refine setF_may h (Sub.rfl.inr.trans hm) (ho.ok (by decide +kernel)) hx3

def projected_m : Nat := forEach_m ||| showRecord_m
theorem projected_may (h : May M I) (hm : Sub projected_m M) {b0} (hb0 : I b0) : I (projected b0) := by
  unfold projected
  refine forEach_may h (Sub.rfl.inl.trans hm) (fun a0 a1 ha1 => ?_) hb0
  · refine showRecord_may h (Sub.rfl.inr.trans hm) ha1

def flwApply_m : Nat := setEth_m
theorem flwApply_may (h : May M I) (hm : Sub flwApply_m M) {b0} {b1} {b2} {b3} {b4} (hb4 : I b4) : I (flwApply b0 b1 b2 b3 b4) := by
  unfold flwApply
  extract_lets -merge -useContext x0
  refine setEth_may h (Sub.rfl.trans hm) hb4

def flwBody_m : Nat := refuse_m ||| openEntry_m ||| flwApply_m
theorem flwBody_may (h : May M I) (hm : Sub flwBody_m M) {b0} {b1} {b2} {b3} {b4} (hb4 : I b4) : I (flwBody b0 b1 b2 b3 b4) := by
  unfold flwBody
  refine may_ite ?_ ?_
  · refine refuse_may h (Sub.rfl.inl.inl.trans hm) hb4
  · split
    · refine refuse_may h (Sub.rfl.inl.inl.trans hm) hb4
    · extract_lets -merge -useContext x0 x1 x2
      refine may_ite ?_ ?_
      · refine refuse_may h (Sub.rfl.inl.inl.trans hm) hb4
      · split
        · refine refuse_may h (Sub.rfl.inl.inl.trans hm) hb4
        · split
          · refine refuse_may h (Sub.rfl.inl.inl.trans hm) hb4
          · extract_lets -merge -useContext x3
            split
            · rename_i p4 p5 heq6
              have hp5 : I p5 := by
                refine Eq.subst (motive := I) (congrArg Prod.snd heq6) ?_
                refine openEntry_may h (Sub.rfl.inr.inl.trans hm) hb4
              refine flwApply_may h (Sub.rfl.inr.trans hm) hp5

def anchorDone_m : Nat := modCmd_m
theorem anchorDone_may (h : May M I) (hm : Sub anchorDone_m M) {b0} {b1} {b2} (hb2 : I b2) : I (anchorDone b0 b1 b2) := by
  unfold anchorDone
  refine modCmd_may h (Sub.rfl.trans hm) hb2

def dropHeld_m : Nat := forEach_m ||| setRing_m
theorem dropHeld_may (h : May M I) (hm : Sub dropHeld_m M) {b0} {b1} (hb1 : I b1) : I (dropHeld b0 b1) := by
  unfold dropHeld
  refine may_ite ?_ ?_
  · refine forEach_may h (Sub.rfl.inl.trans hm) (fun a0 a1 ha1 => ?_) hb1
    · refine setRing_may h (Sub.rfl.inr.trans hm) ha1
  · exact hb1

def commitRx_m : Nat := mask [FLW_RX_STATUS.PATH_A_UP, FLW_RX_STATUS.PATH_B_UP, FLW_RX_STATUS.LOSS] ||| damageFrame_m ||| forEach_m ||| wakeDom_m ||| showRecord_m ||| resetFs_m ||| setRx_m ||| dropHeld_m
theorem commitRx_may (h : May M I) (hm : Sub commitRx_m M) {b0} {b1} (hb1 : I b1) : I (commitRx b0 b1) := by
  have ho := (Sub.rfl.inl.inl.inl.inl.inl.inl.inl.trans hm)
  unfold commitRx
  extract_lets -merge -useContext x0 x1
  have hx1 : I x1 := by
    unfold x1
    refine may_ite ?_ ?_
    · refine damageFrame_may h (Sub.rfl.inr.inl.inl.inl.inl.inl.inl.trans hm) hb1
    · exact hb1
  clear_value x1
  refine forEach_may h (Sub.rfl.inr.inl.inl.inl.inl.inl.trans hm) (fun a2 a3 ha3 => ?_) ?_
  · refine wakeDom_may h (Sub.rfl.inr.inl.inl.inl.inl.trans hm) ha3
  · refine showRecord_may h (Sub.rfl.inr.inl.inl.inl.trans hm) ?_
    · refine resetFs_may h (Sub.rfl.inr.inl.inl.trans hm) (ho.okAll (by decide +kernel)) ?_
      · refine setRx_may h (Sub.rfl.inr.inl.trans hm) ?_
        · refine dropHeld_may h (Sub.rfl.inr.trans hm) hx1

def commitTx_m : Nat := setTx_m ||| forEach_m ||| stepFor_m ||| wakeDom_m ||| showRecord_m
theorem commitTx_may (h : May M I) (hm : Sub commitTx_m M) {b0} {b1} (hb1 : I b1) : I (commitTx b0 b1) := by
  unfold commitTx
  extract_lets -merge -useContext x0 x1 x2
  have hx1 : I x1 := by
    unfold x1
    refine may_ite ?_ ?_
    · refine setTx_may h (Sub.rfl.inl.inl.inl.inl.trans hm) hb1
    · exact hb1
  clear_value x1
  have hx2 : I x2 := by
    unfold x2
    refine may_ite ?_ ?_
    · refine setTx_may h (Sub.rfl.inl.inl.inl.inl.trans hm) hx1
    · exact hx1
  clear_value x2
  refine forEach_may h (Sub.rfl.inr.inl.inl.inl.trans hm) (fun a3 a4 ha4 => ?_) ?_
  · refine stepFor_may h (Sub.rfl.inr.inl.inl.trans hm) ?_
    · refine wakeDom_may h (Sub.rfl.inr.inl.trans hm) ha4
  · refine showRecord_may h (Sub.rfl.inr.trans hm) hx2

def commitRec_m : Nat := commitTx_m ||| commitRx_m ||| anchorDone_m ||| memberDone_m
theorem commitRec_may (h : May M I) (hm : Sub commitRec_m M) {b0} {b1} {b2} (hb2 : I b2) : I (commitRec b0 b1 b2) := by
  unfold commitRec
  extract_lets -merge -useContext x0 x1
  have hx1 : I x1 := by
    unfold x1
    refine may_ite ?_ ?_
    · refine commitTx_may h (Sub.rfl.inl.inl.inl.trans hm) hb2
    · refine commitRx_may h (Sub.rfl.inr.inl.inl.trans hm) hb2
  clear_value x1
  refine may_ite ?_ ?_
  · refine anchorDone_may h (Sub.rfl.inr.inl.trans hm) hx1
  · refine memberDone_may h (Sub.rfl.inr.trans hm) hx1

def commitRecs_m : Nat := setEth_m ||| forEach_m ||| commitRec_m
theorem commitRecs_may (h : May M I) (hm : Sub commitRecs_m M) {b0} {b1} {b2} (hb2 : I b2) : I (commitRecs b0 b1 b2) := by
  unfold commitRecs
  extract_lets -merge -useContext x0 x1
  have hx1 : I x1 := by
    unfold x1
    refine setEth_may h (Sub.rfl.inl.inl.trans hm) hb2
  clear_value x1
  refine forEach_may h (Sub.rfl.inr.inl.trans hm) (fun a2 a3 ha3 => ?_) hx1
  · refine commitRec_may h (Sub.rfl.inr.trans hm) ha3

def execFlowPacketRx_m : Nat := onService_m ||| flowPacket_m
theorem execFlowPacketRx_may (h : May M I) (hm : Sub execFlowPacketRx_m M) (hr : Run M I) {b0} {b1} {b2} {b3} (hb3 : I b3) : Ans I (execFlowPacketRx b0 b1 b2 b3) := by
  refine ⟨_, rfl, ?_⟩
  refine onService_may h (Sub.rfl.inl.trans hm) hr (fun I h a0 ha0 => ?_) hb3
  · refine flowPacket_may h (Sub.rfl.inr.trans hm) ha0

def execPositionLost_m : Nat := onService_m ||| positionsLost_m
theorem execPositionLost_may (h : May M I) (hm : Sub execPositionLost_m M) (hr : Run M I) {b0} {b1} {b2} (hb2 : I b2) : Ans I (execPositionLost b0 b1 b2) := by
  refine ⟨_, rfl, ?_⟩
  refine onService_may h (Sub.rfl.inl.trans hm) hr (fun I h a0 ha0 => ?_) hb2
  · refine positionsLost_may h (Sub.rfl.inr.trans hm) ha0

def execPathDownTimeout_m : Nat := onService_m ||| pathDown_m
theorem execPathDownTimeout_may (h : May M I) (hm : Sub execPathDownTimeout_m M) (hr : Run M I) {b0} {b1} {b2} {b3} (hb3 : I b3) : Ans I (execPathDownTimeout b0 b1 b2 b3) := by
  refine ⟨_, rfl, ?_⟩
  refine onService_may h (Sub.rfl.inl.trans hm) hr (fun I h a0 ha0 => ?_) hb3
  · refine pathDown_may h (Sub.rfl.inr.trans hm) ha0

def execFlowVideoPacketTx_m : Nat := onService_m ||| videoTx_m
theorem execFlowVideoPacketTx_may (h : May M I) (hm : Sub execFlowVideoPacketTx_m M) (hr : Run M I) {b0} {b1} {b2} (hb2 : I b2) : Ans I (execFlowVideoPacketTx b0 b1 b2) := by
  refine ⟨_, rfl, ?_⟩
  refine onService_may h (Sub.rfl.inl.trans hm) hr (fun I h a0 ha0 => ?_) hb2
  · refine videoTx_may h (Sub.rfl.inr.trans hm) ha0

def execFlowAncPacketTx_m : Nat := onService_m ||| ancTx_m
theorem execFlowAncPacketTx_may (h : May M I) (hm : Sub execFlowAncPacketTx_m M) (hr : Run M I) {b0} {b1} {b2} {b3} {b4} (hb4 : I b4) : Ans I (execFlowAncPacketTx b0 b1 b2 b3 b4) := by
  refine ⟨_, rfl, ?_⟩
  refine onService_may h (Sub.rfl.inl.trans hm) hr (fun I h a0 ha0 => ?_) hb4
  · refine ancTx_may h (Sub.rfl.inr.trans hm) ha0

def execFlowAudioPacketTx_m : Nat := onService_m ||| audioTx_m
theorem execFlowAudioPacketTx_may (h : May M I) (hm : Sub execFlowAudioPacketTx_m M) (hr : Run M I) {b0} {b1} {b2} (hb2 : I b2) : Ans I (execFlowAudioPacketTx b0 b1 b2) := by
  refine ⟨_, rfl, ?_⟩
  refine onService_may h (Sub.rfl.inl.trans hm) hr (fun I h a0 ha0 => ?_) hb2
  · refine audioTx_may h (Sub.rfl.inr.trans hm) ha0

def execOpaqueRelayTx_m : Nat := onService_m ||| relayTx_m
theorem execOpaqueRelayTx_may (h : May M I) (hm : Sub execOpaqueRelayTx_m M) (hr : Run M I) {b0} {b1} {b2} (hb2 : I b2) : Ans I (execOpaqueRelayTx b0 b1 b2) := by
  refine ⟨_, rfl, ?_⟩
  refine onService_may h (Sub.rfl.inl.trans hm) hr (fun I h a0 ha0 => ?_) hb2
  · refine relayTx_may h (Sub.rfl.inr.trans hm) ha0

def execFlwCtx_m : Nat := ringCmd_m ||| flwBody_m
theorem execFlwCtx_may (h : May M I) (hm : Sub execFlwCtx_m M) (hr : Run M I) {b0} {b1} {b2} {b3} {b4} (hb4 : I b4) : Ans I (execFlwCtx b0 b1 b2 b3 b4) := by
  refine ⟨_, rfl, ?_⟩
  refine ringCmd_may h (Sub.rfl.inl.trans hm) hr (fun I h a0 a1 ha1 => ?_) hb4
  · refine flwBody_may h (Sub.rfl.inr.trans hm) ha1

def execFlwRxRecordCommit_m : Nat := onService_m ||| commitRecs_m
theorem execFlwRxRecordCommit_may (h : May M I) (hm : Sub execFlwRxRecordCommit_m M) (hr : Run M I) {b0} {b1} (hb1 : I b1) : Ans I (execFlwRxRecordCommit b0 b1) := by
  refine ⟨_, rfl, ?_⟩
  refine onService_may h (Sub.rfl.inl.trans hm) hr (fun I h a0 ha0 => ?_) hb1
  · refine commitRecs_may h (Sub.rfl.inr.trans hm) ha0

def execFlwClrCnt_m : Nat := mask flwCounters ||| whenHost_m ||| clearFlds_m
theorem execFlwClrCnt_may (h : May M I) (hm : Sub execFlwClrCnt_m M) {b0} (hb0 : I b0) : Ans I (execFlwClrCnt b0) := by
  refine ⟨_, rfl, ?_⟩
  refine whenHost_may h (Sub.rfl.inr.inl.trans hm) (fun a0 ha0 => ?_) hb0
  · refine clearFlds_may h (Sub.rfl.inr.trans hm) ((Sub.rfl.inl.inl.trans hm).okAll (by decide +kernel)) ha0

end

end Sys2Proof.Machine
end

