-- ==== Sys2Proof/Laws/MayVideo.lean ====
section
/-! SUPPORT. Permissions of takes, kennel, composition and shofar: each is made of the plain updates that its mask `…_m` names. -/

namespace Sys2Proof.Machine

set_option Elab.async false
set_option linter.unusedVariables false

section
variable {M : Nat} {I : State → Prop}

def slotLoss_m : Nat := inputWriterLoss_m ||| enterWin_m
theorem slotLoss_may (h : May M I) (hm : Sub slotLoss_m M) {b0} {b1} (hb1 : I b1) : I (slotLoss b0 b1) := by
  unfold slotLoss
  refine may_ite ?_ ?_
  · exact hb1
  · refine inputWriterLoss_may h (Sub.rfl.inl.trans hm) ?_
    · refine enterWin_may h (Sub.rfl.inr.trans hm) hb1

def slotGain_m : Nat := enterWin_m
theorem slotGain_may (h : May M I) (hm : Sub slotGain_m M) {b0} {b1} (hb1 : I b1) : I (slotGain b0 b1) := by
  unfold slotGain
  refine may_ite ?_ ?_
  · exact hb1
  · refine may_ite ?_ ?_
    · refine enterWin_may h (Sub.rfl.trans hm) hb1
    · refine enterWin_may h (Sub.rfl.trans hm) hb1

def payLoss_m : Nat := mask [LNI_PAY_LOSS_CNT.COUNT, LNI_PAY_FLAGS.PAY_LOSS_OVF, LNI_PAY_EVT.PAY_LOSS, LNI_PAY_STATUS.PAY_LOSS] ||| setIn_m ||| bump32_m ||| raise_m ||| setF_m ||| forEach_m ||| slotLoss_m
theorem payLoss_may (h : May M I) (hm : Sub payLoss_m M) {b0} {b1} (hb1 : I b1) : I (payLoss b0 b1) := by
  have ho := (Sub.rfl.inl.inl.inl.inl.inl.inl.trans hm)
  unfold payLoss
  extract_lets -merge -useContext x0
  have hx0 : I x0 := by
    unfold x0
    refine setIn_may h (Sub.rfl.inr.inl.inl.inl.inl.inl.trans hm) ?_
    · refine bump32_may h (Sub.rfl.inr.inl.inl.inl.inl.trans hm) (ho.ok (by decide +kernel)) (ho.ok (by decide +kernel)) ?_
      · refine raise_may h (Sub.rfl.inr.inl.inl.inl.trans hm) (ho.okAll (by decide +kernel)) ?_
        · refine setF_may h (Sub.rfl.inr.inl.inl.trans hm) (ho.ok (by decide +kernel)) hb1
  clear_value x0
  refine may_ite ?_ ?_
  · exact hb1
  · refine may_ite ?_ ?_
    · refine setIn_may h (Sub.rfl.inr.inl.inl.inl.inl.inl.trans hm) hb1
    · refine forEach_may h (Sub.rfl.inr.inl.trans hm) (fun a1 a2 ha2 => ?_) hx0
      · refine slotLoss_may h (Sub.rfl.inr.trans hm) ha2

def payRestore_m : Nat := mask [LNI_PAY_EVT.PAY_RESTORE, LNI_PAY_STATUS.PAY_LOSS] ||| raise_m ||| setF_m ||| forEach_m ||| slotGain_m
theorem payRestore_may (h : May M I) (hm : Sub payRestore_m M) {b0} {b1} (hb1 : I b1) : I (payRestore b0 b1) := by
  have ho := (Sub.rfl.inl.inl.inl.inl.trans hm)
  unfold payRestore
  extract_lets -merge -useContext x0
  have hx0 : I x0 := by
    unfold x0
    refine raise_may h (Sub.rfl.inr.inl.inl.inl.trans hm) (ho.okAll (by decide +kernel)) ?_
    · refine setF_may h (Sub.rfl.inr.inl.inl.trans hm) (ho.ok (by decide +kernel)) hb1
  clear_value x0
  refine forEach_may h (Sub.rfl.inr.inl.trans hm) (fun a1 a2 ha2 => ?_) hx0
  · refine may_ite ?_ ?_
    · refine slotGain_may h (Sub.rfl.inr.trans hm) ha2
    · exact ha2

def leaveIn_m : Nat := mask [LNI_EVT.DOWN, LNI_STATUS.ALIGNED] ||| raiseLane_m ||| payLoss_m ||| setIn_m ||| setF_m
theorem leaveIn_may (h : May M I) (hm : Sub leaveIn_m M) {b0} {b1} {b2} (hb2 : I b2) : I (leaveIn b0 b1 b2) := by
  have ho := (Sub.rfl.inl.inl.inl.inl.trans hm)
  unfold leaveIn
  extract_lets -merge -useContext x0
  have hx0 : I x0 := by
    unfold x0
    refine may_ite ?_ ?_
    · exact hb2
    · refine raiseLane_may h (Sub.rfl.inr.inl.inl.inl.trans hm) (ho.okAll (by decide +kernel)) hb2
  clear_value x0
  refine may_ite ?_ ?_
  · refine payLoss_may h (Sub.rfl.inr.inl.inl.trans hm) ?_
    · refine setIn_may h (Sub.rfl.inr.inl.trans hm) ?_
      · refine setF_may h (Sub.rfl.inr.trans hm) (ho.ok (by decide +kernel)) hx0
  · exact hb2

def noteDrop_m : Nat := setTwin_m ||| setDiag_m
theorem noteDrop_may (h : May M I) (hm : Sub noteDrop_m M) {b0} {b1} (hb1 : I b1) : I (noteDrop b0 b1) := by
  unfold noteDrop
  extract_lets -merge -useContext x0 x1
  have hx1 : I x1 := by
    unfold x1
    refine setTwin_may h (Sub.rfl.inl.trans hm) hb1
  clear_value x1
  refine may_ite ?_ ?_
  · exact hb1
  · refine may_ite ?_ ?_
    · refine setDiag_may h (Sub.rfl.inr.trans hm) hx1
    · exact hx1

def leaveOut_m : Nat := mask [LNO_EVT.DOWN] ||| raiseLane_m ||| noteDrop_m
theorem leaveOut_may (h : May M I) (hm : Sub leaveOut_m M) {b0} {b1} {b2} (hb2 : I b2) : I (leaveOut b0 b1 b2) := by
  have ho := (Sub.rfl.inl.inl.trans hm)
  unfold leaveOut
  extract_lets -merge -useContext x0
  have hx0 : I x0 := by
    unfold x0
    refine may_ite ?_ ?_
    · exact hb2
    · refine raiseLane_may h (Sub.rfl.inr.inl.trans hm) (ho.okAll (by decide +kernel)) hb2
  clear_value x0
  refine may_ite ?_ ?_
  · refine noteDrop_may h (Sub.rfl.inr.trans hm) hx0
  · exact hb2

def enterIn_m : Nat := mask [LNI_STATUS.STATE] ||| setF_m ||| leaveIn_m
theorem enterIn_may (h : May M I) (hm : Sub enterIn_m M) {b0} {b1} {b2} (hb2 : I b2) : I (enterIn b0 b1 b2) := by
  have ho := (Sub.rfl.inl.inl.trans hm)
  unfold enterIn
  refine setF_may h (Sub.rfl.inr.inl.trans hm) (ho.ok (by decide +kernel)) ?_
  · refine leaveIn_may h (Sub.rfl.inr.trans hm) hb2

def enterOut_m : Nat := mask [LNO_STATUS.STATE] ||| setF_m ||| leaveOut_m
theorem enterOut_may (h : May M I) (hm : Sub enterOut_m M) {b0} {b1} {b2} (hb2 : I b2) : I (enterOut b0 b1 b2) := by
  have ho := (Sub.rfl.inl.inl.trans hm)
  unfold enterOut
  refine setF_may h (Sub.rfl.inr.inl.trans hm) (ho.ok (by decide +kernel)) ?_
  · refine leaveOut_may h (Sub.rfl.inr.trans hm) hb2

def setPhase_m : Nat := mask [LNI_STATUS.STATE, LNO_STATUS.STATE] ||| setIn_m ||| setOut_m ||| setF_m ||| sendSets_m
theorem setPhase_may (h : May M I) (hm : Sub setPhase_m M) {b0} {b1} {b2} {b3} (hb3 : I b3) : I (setPhase b0 b1 b2 b3) := by
  have ho := (Sub.rfl.inl.inl.inl.inl.trans hm)
  unfold setPhase
  extract_lets -merge -useContext x0 x1
  have hx0 : I x0 := by
    unfold x0
    refine setIn_may h (Sub.rfl.inr.inl.inl.inl.trans hm) hb3
  clear_value x0
  have hx1 : I x1 := by
    unfold x1
    refine setOut_may h (Sub.rfl.inr.inl.inl.trans hm) hb3
  clear_value x1
  split
  · refine may_ite ?_ ?_
    · exact hx0
    · refine setF_may h (Sub.rfl.inr.inl.trans hm) (ho.ok (by decide +kernel)) hx0
  · refine sendSets_may h (Sub.rfl.inr.trans hm) ?_
    · refine may_ite ?_ ?_
      · exact hx1
      · refine setF_may h (Sub.rfl.inr.inl.trans hm) (ho.ok (by decide +kernel)) hx1

def startAttempt_m : Nat := mask [LNI_STATUS.ONE_WAY_ACT, LNI_STATUS.ALIGNED, LNI_STATUS.CDR_LOCK, LNO_STATUS.ONE_WAY_ACT] ||| setIn_m ||| setF_m ||| enterIn_m ||| takeClock_m ||| sendSets_m ||| setOut_m ||| enterOut_m
theorem startAttempt_may (h : May M I) (hm : Sub startAttempt_m M) {b0} {b1} {b2} (hb2 : I b2) : I (startAttempt b0 b1 b2) := by
  have ho := (Sub.rfl.inl.inl.inl.inl.inl.inl.inl.trans hm)
  unfold startAttempt
  extract_lets -merge -useContext x0 x1
  split
  · refine setIn_may h (Sub.rfl.inr.inl.inl.inl.inl.inl.inl.trans hm) ?_
    · refine setF_may h (Sub.rfl.inr.inl.inl.inl.inl.inl.trans hm) (ho.ok (by decide +kernel)) ?_
      · refine setF_may h (Sub.rfl.inr.inl.inl.inl.inl.inl.trans hm) (ho.ok (by decide +kernel)) ?_
        · refine setF_may h (Sub.rfl.inr.inl.inl.inl.inl.inl.trans hm) (ho.ok (by decide +kernel)) ?_
          · refine enterIn_may h (Sub.rfl.inr.inl.inl.inl.inl.trans hm) ?_
            · refine takeClock_may h (Sub.rfl.inr.inl.inl.inl.trans hm) hb2
  · refine sendSets_may h (Sub.rfl.inr.inl.inl.trans hm) ?_
    · refine setOut_may h (Sub.rfl.inr.inl.trans hm) ?_
      · refine setF_may h (Sub.rfl.inr.inl.inl.inl.inl.inl.trans hm) (ho.ok (by decide +kernel)) ?_
        · refine enterOut_may h (Sub.rfl.inr.trans hm) ?_
          · refine takeClock_may h (Sub.rfl.inr.inl.inl.inl.trans hm) hb2

def showLinkFwd_m : Nat := mask [TWN_STATUS.LINK_FWD] ||| setB_m
theorem showLinkFwd_may (h : May M I) (hm : Sub showLinkFwd_m M) {b0} (hb0 : I b0) : I (showLinkFwd b0) := by
  have ho := (Sub.rfl.inl.trans hm)
  unfold showLinkFwd
  extract_lets -merge -useContext x0
  refine setB_may h (Sub.rfl.inr.trans hm) (ho.ok (by decide +kernel)) hb0

def startSeriesOn_m : Nat := mask [LNI_STATUS.CLK_FWD, LNO_STATUS.CLK_FWD] ||| showLinkFwd_m ||| setF_m ||| startAttempt_m ||| setIn_m ||| seriesIn_m ||| leaveIn_m ||| seriesOut_m ||| leaveOut_m
theorem startSeriesOn_may (h : May M I) (hm : Sub startSeriesOn_m M) {b0} {b1} {b2} (hb2 : I b2) : I (startSeriesOn b0 b1 b2) := by
  have ho := (Sub.rfl.inl.inl.inl.inl.inl.inl.inl.inl.trans hm)
  unfold startSeriesOn
  extract_lets -merge -useContext x0 x1
  have hx0 : I x0 := by
    unfold x0
    refine may_ite ?_ ?_
    · refine showLinkFwd_may h (Sub.rfl.inr.inl.inl.inl.inl.inl.inl.inl.trans hm) ?_
      · refine setF_may h (Sub.rfl.inr.inl.inl.inl.inl.inl.inl.trans hm) (ho.ok (by decide +kernel)) hb2
    · exact hb2
  clear_value x0
  have hx1 : I x1 := by
    unfold x1
    refine may_ite ?_ ?_
    · refine showLinkFwd_may h (Sub.rfl.inr.inl.inl.inl.inl.inl.inl.inl.trans hm) ?_
      · refine setF_may h (Sub.rfl.inr.inl.inl.inl.inl.inl.inl.trans hm) (ho.ok (by decide +kernel)) hb2
    · exact hb2
  clear_value x1
  split
  · refine startAttempt_may h (Sub.rfl.inr.inl.inl.inl.inl.inl.trans hm) ?_
    · refine setIn_may h (Sub.rfl.inr.inl.inl.inl.inl.trans hm) ?_
      · refine seriesIn_may h (Sub.rfl.inr.inl.inl.inl.trans hm) ?_
        · refine leaveIn_may h (Sub.rfl.inr.inl.inl.trans hm) hx0
  · refine startAttempt_may h (Sub.rfl.inr.inl.inl.inl.inl.inl.trans hm) ?_
    · refine seriesOut_may h (Sub.rfl.inr.inl.trans hm) ?_
      · refine leaveOut_may h (Sub.rfl.inr.trans hm) hx1

def startSeries_m : Nat := forEach_m ||| startSeriesOn_m
theorem startSeries_may (h : May M I) (hm : Sub startSeries_m M) {b0} {b1} {b2} (hb2 : I b2) : I (startSeries b0 b1 b2) := by
  unfold startSeries
  refine forEach_may h (Sub.rfl.inl.trans hm) (fun a0 a1 ha1 => ?_) hb2
  · refine startSeriesOn_may h (Sub.rfl.inr.trans hm) ha1

def fastOn_m : Nat := mask [LNI_STATUS.ALIGNED, LNI_STATUS.CDR_LOCK] ||| setIn_m ||| setF_m ||| enterIn_m ||| sendSets_m ||| setOut_m ||| enterOut_m
theorem fastOn_may (h : May M I) (hm : Sub fastOn_m M) {b0} {b1} {b2} (hb2 : I b2) : I (fastOn b0 b1 b2) := by
  have ho := (Sub.rfl.inl.inl.inl.inl.inl.inl.trans hm)
  unfold fastOn
  split
  · refine setIn_may h (Sub.rfl.inr.inl.inl.inl.inl.inl.trans hm) ?_
    · refine setF_may h (Sub.rfl.inr.inl.inl.inl.inl.trans hm) (ho.ok (by decide +kernel)) ?_
      · refine setF_may h (Sub.rfl.inr.inl.inl.inl.inl.trans hm) (ho.ok (by decide +kernel)) ?_
        · refine enterIn_may h (Sub.rfl.inr.inl.inl.inl.trans hm) ?_
          · refine setIn_may h (Sub.rfl.inr.inl.inl.inl.inl.inl.trans hm) hb2
  · refine sendSets_may h (Sub.rfl.inr.inl.inl.trans hm) ?_
    · refine setOut_may h (Sub.rfl.inr.inl.trans hm) ?_
      · refine enterOut_may h (Sub.rfl.inr.trans hm) ?_
        · refine setOut_may h (Sub.rfl.inr.inl.trans hm) hb2

def lockLoss_m : Nat := mask [LNI_LOCK_LOSS_CNT.COUNT, LNI_CNT_FLAGS.LOCK_LOSS_OVF, LNI_EVT.LOCK_LOSS] ||| bump32_m ||| raiseLane_m ||| forEach_m ||| fastOn_m
theorem lockLoss_may (h : May M I) (hm : Sub lockLoss_m M) {b0} {b1} (hb1 : I b1) : I (lockLoss b0 b1) := by
  have ho := (Sub.rfl.inl.inl.inl.inl.trans hm)
  unfold lockLoss
  extract_lets -merge -useContext x0 x1
  have hx0 : I x0 := by
    unfold x0
    refine may_ite ?_ ?_
    · exact hb1
    · refine bump32_may h (Sub.rfl.inr.inl.inl.inl.trans hm) (ho.ok (by decide +kernel)) (ho.ok (by decide +kernel)) hb1
  clear_value x0
  have hx1 : I x1 := by
    unfold x1
    refine raiseLane_may h (Sub.rfl.inr.inl.inl.trans hm) (ho.okAll (by decide +kernel)) hx0
  clear_value x1
  refine forEach_may h (Sub.rfl.inr.inl.trans hm) (fun a2 a3 ha3 => ?_) hx1
  · refine fastOn_may h (Sub.rfl.inr.trans hm) ha3

def laneReady_m : Nat := setIn_m ||| sendSets_m ||| setOut_m
theorem laneReady_may (h : May M I) (hm : Sub laneReady_m M) {b0} {b1} {b2} (hb2 : I b2) : I (laneReady b0 b1 b2) := by
  unfold laneReady
  split
  · refine setIn_may h (Sub.rfl.inl.inl.trans hm) hb2
  · refine sendSets_may h (Sub.rfl.inr.inl.trans hm) ?_
    · refine setOut_may h (Sub.rfl.inr.trans hm) hb2

def inActive_m : Nat := mask [LNI_EVT.UP, LNI_STATUS.CDR_LOCK, LNI_STATUS.ALIGNED, LNI_STATUS.ATTEMPT, LNI_STATUS.STATE] ||| raiseLane_m ||| setIn_m ||| setF_m ||| leaveIn_m
theorem inActive_may (h : May M I) (hm : Sub inActive_m M) {b0} {b1} (hb1 : I b1) : I (inActive b0 b1) := by
  have ho := (Sub.rfl.inl.inl.inl.inl.trans hm)
  unfold inActive
  extract_lets -merge -useContext x0
  have hx0 : I x0 := by
    unfold x0
    refine raiseLane_may h (Sub.rfl.inr.inl.inl.inl.trans hm) (ho.okAll (by decide +kernel)) ?_
    · refine setIn_may h (Sub.rfl.inr.inl.inl.trans hm) ?_
      · refine setF_may h (Sub.rfl.inr.inl.trans hm) (ho.ok (by decide +kernel)) ?_
        · refine setF_may h (Sub.rfl.inr.inl.trans hm) (ho.ok (by decide +kernel)) ?_
          · refine setF_may h (Sub.rfl.inr.inl.trans hm) (ho.ok (by decide +kernel)) ?_
            · refine setF_may h (Sub.rfl.inr.inl.trans hm) (ho.ok (by decide +kernel)) hb1
  clear_value x0
  refine may_ite ?_ ?_
  · refine setF_may h (Sub.rfl.inr.inl.trans hm) (ho.ok (by decide +kernel)) ?_
    · refine leaveIn_may h (Sub.rfl.inr.trans hm) hx0
  · exact hx0

def newEqualiser_m : Nat := mask [LNI_EQ.CTLE, LNI_EQ.DFE1] ||| drawn_m ||| setF_m ||| setIn_m
theorem newEqualiser_may (h : May M I) (hm : Sub newEqualiser_m M) {b0} {b1} (hb1 : I b1) : I (newEqualiser b0 b1) := by
  have ho := (Sub.rfl.inl.inl.inl.trans hm)
  unfold newEqualiser
  extract_lets -merge -useContext x0 x1 x2
  have hx0 : I x0 := by
    unfold x0
    refine drawn_may h (Sub.rfl.inr.inl.inl.trans hm) ?_
    · refine setF_may h (Sub.rfl.inr.inl.trans hm) (ho.ok (by decide +kernel)) hb1
  clear_value x0
  have hx1 : I x1 := by
    unfold x1
    refine drawn_may h (Sub.rfl.inr.inl.inl.trans hm) ?_
    · refine setF_may h (Sub.rfl.inr.inl.trans hm) (ho.ok (by decide +kernel)) hx0
  clear_value x1
  refine drawn_may h (Sub.rfl.inr.inl.inl.trans hm) ?_
  · refine setIn_may h (Sub.rfl.inr.trans hm) hx1

def twinFallback_m : Nat := mask [LNI_STATUS.CLK_FWD, LNO_STATUS.CLK_FWD] ||| showLinkFwd_m ||| setF_m
theorem twinFallback_may (h : May M I) (hm : Sub twinFallback_m M) {b0} {b1} {b2} {b3} (hb3 : I b3) : I (twinFallback b0 b1 b2 b3) := by
  have ho := (Sub.rfl.inl.inl.trans hm)
  unfold twinFallback
  refine may_ite ?_ ?_
  · refine showLinkFwd_may h (Sub.rfl.inr.inl.trans hm) ?_
    · split
      · refine setF_may h (Sub.rfl.inr.trans hm) (ho.ok (by decide +kernel)) hb3
      · refine setF_may h (Sub.rfl.inr.trans hm) (ho.ok (by decide +kernel)) hb3
  · exact hb3

def failOn_m : Nat := mask [LNI_STATUS.LAST_FAIL, LNI_PROBE_CNT.COUNT, LNI_CNT_FLAGS.PROBE_OVF, LNI_TRAIN_FAIL_CNT.COUNT, LNI_CNT_FLAGS.TRAIN_FAIL_OVF, LNO_STATUS.LAST_FAIL, LNO_PROBE_CNT.COUNT, LNO_CNT_FLAGS.PROBE_OVF, LNO_TRAIN_FAIL_CNT.COUNT, LNO_CNT_FLAGS.TRAIN_FAIL_OVF, LNI_STATUS.STATE, LNI_EVT.NO_PARTNER, LNO_STATUS.STATE, LNO_EVT.NO_PARTNER] ||| setF_m ||| bump32_m ||| setIn_m ||| raiseLane_m ||| twinFallback_m ||| sendSets_m ||| setOut_m
theorem failOn_may (h : May M I) (hm : Sub failOn_m M) {b0} {b1} {b2} {b3} (hb3 : I b3) : I (failOn b0 b1 b2 b3) := by
  have ho := (Sub.rfl.inl.inl.inl.inl.inl.inl.inl.trans hm)
  unfold failOn
  extract_lets -merge -useContext x0 x1 x2 x3 x4 x5 x6 x7
  have hx1 : I x1 := by
    unfold x1
    refine setF_may h (Sub.rfl.inr.inl.inl.inl.inl.inl.inl.trans hm) (ho.ok (by decide +kernel)) hb3
  clear_value x1
  have hx2 : I x2 := by
    unfold x2
    refine may_ite ?_ ?_
    · exact hx1
    · refine bump32_may h (Sub.rfl.inr.inl.inl.inl.inl.inl.trans hm) (ho.ok (by decide +kernel)) (ho.ok (by decide +kernel)) hx1
  clear_value x2
  have hx3 : I x3 := by
    unfold x3
    refine may_ite ?_ ?_
    · exact hx1
    · refine bump32_may h (Sub.rfl.inr.inl.inl.inl.inl.inl.trans hm) (ho.ok (by decide +kernel)) (ho.ok (by decide +kernel)) hx1
  clear_value x3
  have hx5 : I x5 := by
    unfold x5
    refine setF_may h (Sub.rfl.inr.inl.inl.inl.inl.inl.inl.trans hm) (ho.ok (by decide +kernel)) hb3
  clear_value x5
  have hx6 : I x6 := by
    unfold x6
    refine may_ite ?_ ?_
    · exact hx5
    · refine bump32_may h (Sub.rfl.inr.inl.inl.inl.inl.inl.trans hm) (ho.ok (by decide +kernel)) (ho.ok (by decide +kernel)) hx5
  clear_value x6
  have hx7 : I x7 := by
    unfold x7
    refine may_ite ?_ ?_
    · exact hx5
    · refine bump32_may h (Sub.rfl.inr.inl.inl.inl.inl.inl.trans hm) (ho.ok (by decide +kernel)) (ho.ok (by decide +kernel)) hx5
  clear_value x7
  split
  · refine may_ite ?_ ?_
    · refine setIn_may h (Sub.rfl.inr.inl.inl.inl.inl.trans hm) ?_
      · refine setF_may h (Sub.rfl.inr.inl.inl.inl.inl.inl.inl.trans hm) (ho.ok (by decide +kernel)) hx2
    · refine may_ite ?_ ?_
      · refine raiseLane_may h (Sub.rfl.inr.inl.inl.inl.trans hm) (ho.okAll (by decide +kernel)) ?_
        · refine setIn_may h (Sub.rfl.inr.inl.inl.inl.inl.trans hm) ?_
          · refine setF_may h (Sub.rfl.inr.inl.inl.inl.inl.inl.inl.trans hm) (ho.ok (by decide +kernel)) hx3
      · refine twinFallback_may h (Sub.rfl.inr.inl.inl.trans hm) ?_
        · refine setIn_may h (Sub.rfl.inr.inl.inl.inl.inl.trans hm) ?_
          · refine setF_may h (Sub.rfl.inr.inl.inl.inl.inl.inl.inl.trans hm) (ho.ok (by decide +kernel)) hx3
  · refine may_ite ?_ ?_
    · refine sendSets_may h (Sub.rfl.inr.inl.trans hm) ?_
      · refine setOut_may h (Sub.rfl.inr.trans hm) ?_
        · refine setF_may h (Sub.rfl.inr.inl.inl.inl.inl.inl.inl.trans hm) (ho.ok (by decide +kernel)) hx6
    · refine may_ite ?_ ?_
      · refine raiseLane_may h (Sub.rfl.inr.inl.inl.inl.trans hm) (ho.okAll (by decide +kernel)) ?_
        · refine sendSets_may h (Sub.rfl.inr.inl.trans hm) ?_
          · refine setOut_may h (Sub.rfl.inr.trans hm) ?_
            · refine setF_may h (Sub.rfl.inr.inl.inl.inl.inl.inl.inl.trans hm) (ho.ok (by decide +kernel)) hx7
      · refine sendSets_may h (Sub.rfl.inr.inl.trans hm) ?_
        · refine twinFallback_may h (Sub.rfl.inr.inl.inl.trans hm) ?_
          · refine setOut_may h (Sub.rfl.inr.trans hm) ?_
            · refine setF_may h (Sub.rfl.inr.inl.inl.inl.inl.inl.inl.trans hm) (ho.ok (by decide +kernel)) hx7

def autoFallback_m : Nat := mask [LNO_GRP_CFG.FC_OUT_ON, LNO_GRP_CFG.CLK_MODE_ACT, LNI_GRP_CFG.CLK_MODE_ACT, LNI_EVT.FALLBACK_FWD, LNO_EVT.FALLBACK_FWD] ||| setF_m ||| forEach_m ||| startSeriesOn_m ||| raise_m
theorem autoFallback_may (h : May M I) (hm : Sub autoFallback_m M) {b0} {b1} (hb1 : I b1) : I (autoFallback b0 b1) := by
  have ho := (Sub.rfl.inl.inl.inl.inl.trans hm)
  unfold autoFallback
  extract_lets -merge -useContext x0
  have hx0 : I x0 := by
    unfold x0
    refine setF_may h (Sub.rfl.inr.inl.inl.inl.trans hm) (ho.ok (by decide +kernel)) ?_
    · refine setF_may h (Sub.rfl.inr.inl.inl.inl.trans hm) (ho.ok (by decide +kernel)) ?_
      · refine setF_may h (Sub.rfl.inr.inl.inl.inl.trans hm) (ho.ok (by decide +kernel)) hb1
  clear_value x0
  refine may_ite ?_ ?_
  · exact hb1
  · refine forEach_may h (Sub.rfl.inr.inl.inl.trans hm) (fun a1 a2 ha2 => ?_) hx0
    · extract_lets -merge -useContext x3
      have hx3 : I x3 := by
        unfold x3
        refine may_ite ?_ ?_
        · refine startSeriesOn_may h (Sub.rfl.inr.inl.trans hm) ?_
          · refine raise_may h (Sub.rfl.inr.trans hm) (ho.okAll (by decide +kernel)) ha2
        · exact ha2
      clear_value x3
      refine may_ite ?_ ?_
      · refine startSeriesOn_may h (Sub.rfl.inr.inl.trans hm) ?_
        · refine raise_may h (Sub.rfl.inr.trans hm) (ho.okAll (by decide +kernel)) hx3
      · exact hx3

def failAttempt_m : Nat := autoFallback_m ||| forEach_m ||| failOn_m
theorem failAttempt_may (h : May M I) (hm : Sub failAttempt_m M) {b0} {b1} {b2} {b3} (hb3 : I b3) : I (failAttempt b0 b1 b2 b3) := by
  unfold failAttempt
  extract_lets -merge -useContext x0
  refine autoFallback_may h (Sub.rfl.inl.inl.trans hm) ?_
  · refine forEach_may h (Sub.rfl.inr.inl.trans hm) (fun a1 a2 ha2 => ?_) hb3
    · refine failOn_may h (Sub.rfl.inr.trans hm) ha2

def addTake_m : Nat := mask [XPT_OUT_STATE.PEND] ||| takeWakes_m ||| setF_m ||| setXpt_m
theorem addTake_may (h : May M I) (hm : Sub addTake_m M) {b0} {b1} {b2} {b3} (hb3 : I b3) : I (addTake b0 b1 b2 b3) := by
  have ho := (Sub.rfl.inl.inl.inl.trans hm)
  unfold addTake
  extract_lets -merge -useContext x0
  refine takeWakes_may h (Sub.rfl.inr.inl.inl.trans hm) ?_
  · refine setF_may h (Sub.rfl.inr.inl.trans hm) (ho.ok (by decide +kernel)) ?_
    · refine setXpt_may h (Sub.rfl.inr.trans hm) hb3

def takeApply_m : Nat := addTake_m
theorem takeApply_may (h : May M I) (hm : Sub takeApply_m M) {b0} {b1} {b2} {b3} (hb3 : I b3) : I (takeApply b0 b1 b2 b3) := by
  unfold takeApply
  refine addTake_may h (Sub.rfl.trans hm) hb3

def takeBody_m : Nat := refuse_m ||| acceptTimed_m ||| takeApply_m
theorem takeBody_may (h : May M I) (hm : Sub takeBody_m M) {b0} {b1} {b2} {b3} (hb3 : I b3) : I (takeBody b0 b1 b2 b3) := by
  unfold takeBody
  split
  · refine refuse_may h (Sub.rfl.inl.inl.trans hm) hb3
  · refine acceptTimed_may h (Sub.rfl.inr.inl.trans hm) (fun a0 a1 a2 ha2 => ?_) hb3
    · refine takeApply_may h (Sub.rfl.inr.trans hm) ha2

def salvoApply_m : Nat := forEach_m ||| addTake_m
theorem salvoApply_may (h : May M I) (hm : Sub salvoApply_m M) {b0} {b1} {b2} {b3} {b4} (hb4 : I b4) : I (salvoApply b0 b1 b2 b3 b4) := by
  unfold salvoApply
  refine forEach_may h (Sub.rfl.inl.trans hm) (fun a0 a1 ha1 => ?_) hb4
  · refine addTake_may h (Sub.rfl.inr.trans hm) ha1

def salvoBody_m : Nat := refuse_m ||| acceptTimed_m ||| salvoApply_m
theorem salvoBody_may (h : May M I) (hm : Sub salvoBody_m M) {b0} {b1} {b2} {b3} {b4} (hb4 : I b4) : I (salvoBody b0 b1 b2 b3 b4) := by
  unfold salvoBody
  extract_lets -merge -useContext x0
  refine may_ite ?_ ?_
  · refine refuse_may h (Sub.rfl.inl.inl.trans hm) hb4
  · split
    · refine refuse_may h (Sub.rfl.inl.inl.trans hm) hb4
    · extract_lets -merge -useContext x1
      refine may_ite ?_ ?_
      · refine refuse_may h (Sub.rfl.inl.inl.trans hm) hb4
      · split
        · refine refuse_may h (Sub.rfl.inl.inl.trans hm) hb4
        · refine acceptTimed_may h (Sub.rfl.inr.inl.trans hm) (fun a2 a3 a4 ha4 => ?_) hb4
          · refine salvoApply_may h (Sub.rfl.inr.trans hm) ha4

def armTakes_m : Nat := setXpt_m
theorem armTakes_may (h : May M I) (hm : Sub armTakes_m M) {b0} {b1} {b2} (hb2 : I b2) : I (armTakes b0 b1 b2) := by
  unfold armTakes
  extract_lets -merge -useContext x0 x1
  refine setXpt_may h (Sub.rfl.trans hm) hb2

def armAt_m : Nat := armTakes_m ||| forEach_m ||| modCmd_m ||| sendTwin_m
theorem armAt_may (h : May M I) (hm : Sub armAt_m M) {b0} {b1} (hb1 : I b1) : I (armAt b0 b1) := by
  unfold armAt
  extract_lets -merge -useContext x0 x1 x2
  have hx1 : I x1 := by
    unfold x1
    refine armTakes_may h (Sub.rfl.inl.inl.inl.trans hm) hb1
  clear_value x1
  have hx2 : I x2 := by
    unfold x2
    refine forEach_may h (Sub.rfl.inr.inl.inl.trans hm) (fun a3 a4 ha4 => ?_) hx1
    · refine modCmd_may h (Sub.rfl.inr.inl.trans hm) ha4
  clear_value x2
  refine may_ite ?_ ?_
  · exact hb1
  · split
    · refine may_ite ?_ ?_
      · refine sendTwin_may h (Sub.rfl.inr.trans hm) hx2
      · exact hx2
    · exact hx2

def switchAt_m : Nat := setPst_m ||| dropChoice_m ||| autoMove_m ||| applyTakes_m ||| joinStream_m
theorem switchAt_may (h : May M I) (hm : Sub switchAt_m M) {b0} {b1} {b2} (hb2 : I b2) : I (switchAt b0 b1 b2) := by
  unfold switchAt
  extract_lets -merge -useContext x0 x1
  have hx0 : I x0 := by
    unfold x0
    refine setPst_may h (Sub.rfl.inl.inl.inl.inl.trans hm) hb2
  clear_value x0
  have hx1 : I x1 := by
    unfold x1
    refine may_ite ?_ ?_
    · refine dropChoice_may h (Sub.rfl.inr.inl.inl.inl.trans hm) ?_
      · refine autoMove_may h (Sub.rfl.inr.inl.inl.trans hm) hx0
    · exact hx0
  clear_value x1
  refine may_ite ?_ ?_
  · exact hx0
  · refine may_ite ?_ ?_
    · refine applyTakes_may h (Sub.rfl.inr.inl.trans hm) hx0
    · refine may_ite ?_ ?_
      · refine joinStream_may h (Sub.rfl.inr.trans hm) hx1
      · exact hx1

def windowExit_m : Nat := enterWin_m
theorem windowExit_may (h : May M I) (hm : Sub windowExit_m M) {b0} {b1} (hb1 : I b1) : I (windowExit b0 b1) := by
  unfold windowExit
  refine may_ite ?_ ?_
  · refine enterWin_may h (Sub.rfl.trans hm) hb1
  · exact hb1

def nofmtLate_m : Nat := inputWriterLoss_m ||| forEach_m ||| exitToFree_m
theorem nofmtLate_may (h : May M I) (hm : Sub nofmtLate_m M) {b0} {b1} (hb1 : I b1) : I (nofmtLate b0 b1) := by
  unfold nofmtLate
  refine may_ite ?_ ?_
  · refine inputWriterLoss_may h (Sub.rfl.inl.inl.trans hm) ?_
    · refine forEach_may h (Sub.rfl.inr.inl.trans hm) (fun a0 a1 ha1 => ?_) hb1
      · refine exitToFree_may h (Sub.rfl.inr.trans hm) ha1
  · exact hb1

def execTake_m : Nat := ringCmd_m ||| takeBody_m
theorem execTake_may (h : May M I) (hm : Sub execTake_m M) (hr : Run M I) {b0} {b1} {b2} {b3} (hb3 : I b3) : Ans I (execTake b0 b1 b2 b3) := by
  refine ⟨_, rfl, ?_⟩
  refine ringCmd_may h (Sub.rfl.inl.trans hm) hr (fun I h a0 a1 ha1 => ?_) hb3
  · refine takeBody_may h (Sub.rfl.inr.trans hm) ha1

def execSalvo_m : Nat := ringCmd_m ||| salvoBody_m
theorem execSalvo_may (h : May M I) (hm : Sub execSalvo_m M) (hr : Run M I) {b0} {b1} {b2} {b3} {b4} (hb4 : I b4) : Ans I (execSalvo b0 b1 b2 b3 b4) := by
  refine ⟨_, rfl, ?_⟩
  refine ringCmd_may h (Sub.rfl.inl.trans hm) hr (fun I h a0 a1 ha1 => ?_) hb4
  · refine salvoBody_may h (Sub.rfl.inr.trans hm) ha1

def execArmDeadline_m : Nat := onService_m ||| armAt_m
theorem execArmDeadline_may (h : May M I) (hm : Sub execArmDeadline_m M) (hr : Run M I) {b0} {b1} {b2} (hb2 : I b2) : Ans I (execArmDeadline b0 b1 b2) := by
  refine ⟨_, rfl, ?_⟩
  refine onService_may h (Sub.rfl.inl.trans hm) hr (fun I h a0 ha0 => ?_) hb2
  · refine armAt_may h (Sub.rfl.inr.trans hm) ha0

def execSwitchingPoint_m : Nat := onService_m ||| switchAt_m
theorem execSwitchingPoint_may (h : May M I) (hm : Sub execSwitchingPoint_m M) (hr : Run M I) {b0} {b1} {b2} {b3} (hb3 : I b3) : Ans I (execSwitchingPoint b0 b1 b2 b3) := by
  refine ⟨_, rfl, ?_⟩
  refine onService_may h (Sub.rfl.inl.trans hm) hr (fun I h a0 ha0 => ?_) hb3
  · refine switchAt_may h (Sub.rfl.inr.trans hm) ha0

def execWindowExit_m : Nat := onService_m ||| windowExit_m
theorem execWindowExit_may (h : May M I) (hm : Sub execWindowExit_m M) (hr : Run M I) {b0} {b1} {b2} (hb2 : I b2) : Ans I (execWindowExit b0 b1 b2) := by
  refine ⟨_, rfl, ?_⟩
  refine onService_may h (Sub.rfl.inl.trans hm) hr (fun I h a0 ha0 => ?_) hb2
  · refine windowExit_may h (Sub.rfl.inr.trans hm) ha0

def execNofmtTimeout_m : Nat := onService_m ||| nofmtLate_m
theorem execNofmtTimeout_may (h : May M I) (hm : Sub execNofmtTimeout_m M) (hr : Run M I) {b0} {b1} {b2} (hb2 : I b2) : Ans I (execNofmtTimeout b0 b1 b2) := by
  refine ⟨_, rfl, ?_⟩
  refine onService_may h (Sub.rfl.inl.trans hm) hr (fun I h a0 ha0 => ?_) hb2
  · refine nofmtLate_may h (Sub.rfl.inr.trans hm) ha0

def execXptClrCnt_m : Nat := mask xptCounters ||| whenHost_m ||| clearFlds_m
theorem execXptClrCnt_may (h : May M I) (hm : Sub execXptClrCnt_m M) {b0} (hb0 : I b0) : Ans I (execXptClrCnt b0) := by
  refine ⟨_, rfl, ?_⟩
  refine whenHost_may h (Sub.rfl.inr.inl.trans hm) (fun a0 ha0 => ?_) hb0
  · refine clearFlds_may h (Sub.rfl.inr.trans hm) ((Sub.rfl.inl.inl.trans hm).okAll (by decide +kernel)) ha0

def ensureWriting_m : Nat := writerStart_m
theorem ensureWriting_may (h : May M I) (hm : Sub ensureWriting_m M) {b0} {b1} {b2} (hb2 : I b2) : I (ensureWriting b0 b1 b2) := by
  unfold ensureWriting
  refine may_ite ?_ ?_
  · exact hb2
  · refine writerStart_may h (Sub.rfl.trans hm) hb2

def judgeFrame_m : Nat := judgeWin_m
theorem judgeFrame_may (h : May M I) (hm : Sub judgeFrame_m M) {b0} {b1} {b2} (hb2 : I b2) : I (judgeFrame b0 b1 b2) := by
  unfold judgeFrame
  extract_lets -merge -useContext x0
  refine judgeWin_may h (Sub.rfl.trans hm) hb2

def trackFrame_m : Nat := setXIn_m ||| forEach_m ||| writerLoss_m ||| ensureWriting_m ||| writerFrameEnd_m ||| judgeFrame_m ||| setAlloc_m ||| stopWriting_m ||| enterWin_m ||| setInFmt_m ||| writerStart_m
theorem trackFrame_may (h : May M I) (hm : Sub trackFrame_m M) {b0} {b1} {b2} {b3} {b4} (hb4 : I b4) : I (trackFrame b0 b1 b2 b3 b4) := by
  unfold trackFrame
  extract_lets -merge -useContext x0 x1 x2 x3 x4 x5
  have hx4 : I x4 := by
    unfold x4
    refine setXIn_may h (Sub.rfl.inl.inl.inl.inl.inl.inl.inl.inl.inl.inl.trans hm) hb4
  clear_value x4
  have hx5 : I x5 := by
    unfold x5
    refine may_ite ?_ ?_
    · refine forEach_may h (Sub.rfl.inr.inl.inl.inl.inl.inl.inl.inl.inl.inl.trans hm) (fun a6 a7 ha7 => ?_) hx4
      · refine may_ite ?_ ?_
        · refine writerLoss_may h (Sub.rfl.inr.inl.inl.inl.inl.inl.inl.inl.inl.trans hm) ha7
        · exact ha7
    · exact hx4
  clear_value x5
  refine may_ite ?_ ?_
  · refine may_ite ?_ ?_
    · refine forEach_may h (Sub.rfl.inr.inl.inl.inl.inl.inl.inl.inl.inl.inl.trans hm) (fun a8 a9 ha9 => ?_) ?_
      · refine ensureWriting_may h (Sub.rfl.inr.inl.inl.inl.inl.inl.inl.inl.trans hm) ?_
        · refine writerFrameEnd_may h (Sub.rfl.inr.inl.inl.inl.inl.inl.inl.trans hm) ha9
      · refine judgeFrame_may h (Sub.rfl.inr.inl.inl.inl.inl.inl.trans hm) hx4
    · refine forEach_may h (Sub.rfl.inr.inl.inl.inl.inl.inl.inl.inl.inl.inl.trans hm) (fun a10 a11 ha11 => ?_) ?_
      · refine setAlloc_may h (Sub.rfl.inr.inl.inl.inl.inl.trans hm) ?_
        · refine stopWriting_may h (Sub.rfl.inr.inl.inl.inl.trans hm) ha11
      · refine setXIn_may h (Sub.rfl.inl.inl.inl.inl.inl.inl.inl.inl.inl.inl.trans hm) ?_
        · refine enterWin_may h (Sub.rfl.inr.inl.inl.trans hm) ?_
          · refine setInFmt_may h (Sub.rfl.inr.inl.trans hm) hx4
  · refine may_ite ?_ ?_
    · refine forEach_may h (Sub.rfl.inr.inl.inl.inl.inl.inl.inl.inl.inl.inl.trans hm) (fun a12 a13 ha13 => ?_) ?_
      · refine writerStart_may h (Sub.rfl.inr.trans hm) ?_
        · refine setAlloc_may h (Sub.rfl.inr.inl.inl.inl.inl.trans hm) ha13
      · refine setXIn_may h (Sub.rfl.inl.inl.inl.inl.inl.inl.inl.inl.inl.inl.trans hm) ?_
        · refine judgeFrame_may h (Sub.rfl.inr.inl.inl.inl.inl.inl.trans hm) ?_
          · refine setInFmt_may h (Sub.rfl.inr.inl.trans hm) hx4
    · refine forEach_may h (Sub.rfl.inr.inl.inl.inl.inl.inl.inl.inl.inl.inl.trans hm) (fun a14 a15 ha15 => ?_) ?_
      · refine setAlloc_may h (Sub.rfl.inr.inl.inl.inl.inl.trans hm) ha15
      · refine setXIn_may h (Sub.rfl.inl.inl.inl.inl.inl.inl.inl.inl.inl.inl.trans hm) hx5

def measureVpid_m : Nat := mask [KNL_MEAS_STATUS.VPID_PRESENT, KNL_MEAS_EVT.VPID_CHANGE, KNL_MEAS_VPID.BYTE4, KNL_MEAS_VPID.BYTE3, KNL_MEAS_VPID.BYTE2, KNL_MEAS_VPID.BYTE1, KNL_MEAS_STATUS.VPID_MISMATCH] ||| setMeas_m ||| setF_m ||| raise_m
theorem measureVpid_may (h : May M I) (hm : Sub measureVpid_m M) {b0} {b1} {b2} {b3} (hb3 : I b3) : I (measureVpid b0 b1 b2 b3) := by
  have ho := (Sub.rfl.inl.inl.inl.trans hm)
  unfold measureVpid
  extract_lets -merge -useContext x0 x1
  have hx1 : I x1 := by
    unfold x1
    refine setMeas_may h (Sub.rfl.inr.inl.inl.trans hm) hb3
  clear_value x1
  split
  · refine may_ite ?_ ?_
    · refine setF_may h (Sub.rfl.inr.inl.trans hm) (ho.ok (by decide +kernel)) hx1
    · exact hx1
  · extract_lets -merge -useContext x2 x3 x4 x5 x6 x7
    have hx4 : I x4 := by
      unfold x4
      refine may_ite ?_ ?_
      · exact hb3
      · refine raise_may h (Sub.rfl.inr.trans hm) (ho.okAll (by decide +kernel)) hb3
    clear_value x4
    have hx5 : I x5 := by
      unfold x5
      refine setF_may h (Sub.rfl.inr.inl.trans hm) (ho.ok (by decide +kernel)) ?_
      · refine setF_may h (Sub.rfl.inr.inl.trans hm) (ho.ok (by decide +kernel)) ?_
        · refine setF_may h (Sub.rfl.inr.inl.trans hm) (ho.ok (by decide +kernel)) ?_
          · refine setF_may h (Sub.rfl.inr.inl.trans hm) (ho.ok (by decide +kernel)) ?_
            · refine setF_may h (Sub.rfl.inr.inl.trans hm) (ho.ok (by decide +kernel)) hx4
    clear_value x5
    have hx6 : I x6 := by
      unfold x6
      refine setMeas_may h (Sub.rfl.inr.inl.inl.trans hm) hx5
    clear_value x6
    have hx7 : I x7 := by
      unfold x7
      refine may_ite ?_ ?_
      · refine setF_may h (Sub.rfl.inr.inl.trans hm) (ho.ok (by decide +kernel)) hx6
      · exact hx6
    clear_value x7
    refine may_ite ?_ ?_
    · refine setF_may h (Sub.rfl.inr.inl.trans hm) (ho.ok (by decide +kernel)) hx7
    · exact hx7

def measureCrc_m : Nat := mask [KNL_MEAS_ERR_FRAMES.COUNT, KNL_MEAS_EVT.ERRF_OVF, KNL_MEAS_CRC_LINES.COUNT, KNL_MEAS_EVT.CRC_OVF] ||| bump32_m ||| bump32By_m
theorem measureCrc_may (h : May M I) (hm : Sub measureCrc_m M) {b0} {b1} {b2} (hb2 : I b2) : I (measureCrc b0 b1 b2) := by
  have ho := (Sub.rfl.inl.inl.trans hm)
  unfold measureCrc
  refine may_ite ?_ ?_
  · exact hb2
  · refine bump32_may h (Sub.rfl.inr.inl.trans hm) (ho.ok (by decide +kernel)) (ho.ok (by decide +kernel)) ?_
    · refine bump32By_may h (Sub.rfl.inr.trans hm) (ho.ok (by decide +kernel)) (ho.ok (by decide +kernel)) hb2

def measurePicture_m : Nat := setMeas_m
theorem measurePicture_may (h : May M I) (hm : Sub measurePicture_m M) {b0} {b1} {b2} {b3} {b4} (hb4 : I b4) : I (measurePicture b0 b1 b2 b3 b4) := by
  unfold measurePicture
  extract_lets -merge -useContext x0 x1 x2 x3
  refine may_ite ?_ ?_
  · exact hb4
  · refine setMeas_may h (Sub.rfl.trans hm) hb4

def measureLossEnd_m : Nat := mask [KNL_MEAS_STATUS.LOSS] ||| setF_m
theorem measureLossEnd_may (h : May M I) (hm : Sub measureLossEnd_m M) {b0} {b1} (hb1 : I b1) : I (measureLossEnd b0 b1) := by
  have ho := (Sub.rfl.inl.trans hm)
  unfold measureLossEnd
  refine may_ite ?_ ?_
  · exact hb1
  · refine setF_may h (Sub.rfl.inr.trans hm) (ho.ok (by decide +kernel)) hb1

def measureFrame_m : Nat := measureLossEnd_m ||| measurePicture_m ||| measureCrc_m ||| measureVpid_m
theorem measureFrame_may (h : May M I) (hm : Sub measureFrame_m M) {b0} {b1} {b2} {b3} {b4} (hb4 : I b4) : I (measureFrame b0 b1 b2 b3 b4) := by
  unfold measureFrame
  refine measureLossEnd_may h (Sub.rfl.inl.inl.inl.trans hm) ?_
  · refine measurePicture_may h (Sub.rfl.inr.inl.inl.trans hm) ?_
    · refine measureCrc_may h (Sub.rfl.inr.inl.trans hm) ?_
      · refine measureVpid_may h (Sub.rfl.inr.trans hm) hb4

def endFrame_m : Nat := pmask [.lane] ||| setXIn_m
theorem endFrame_may (h : May M I) (hm : Sub endFrame_m M) {b0} {b1} {b2} (hb2 : I b2) : I (endFrame b0 b1 b2).2 := by
  have hp := (Sub.rfl.inl.trans hm)
  unfold endFrame
  extract_lets -merge -useContext x0 x1
  dsimp only
  refine h.lane (hp.testBit (by decide +kernel)) (?_)
  refine setXIn_may h (Sub.rfl.inr.trans hm) hb2

def inputFrame_m : Nat := endFrame_m ||| forEach_m ||| applyFreezes_m ||| writerStart_m ||| audioFrameEnd_m ||| measureFrame_m ||| trackFrame_m
theorem inputFrame_may (h : May M I) (hm : Sub inputFrame_m M) {b0} {b1} {b2} (hb2 : I b2) : I (inputFrame b0 b1 b2) := by
  unfold inputFrame
  extract_lets -merge -useContext x0
  refine may_ite ?_ ?_
  · exact hb2
  · split
    · rename_i p1 p2 heq3
      have hp2 : I p2 := by
        refine Eq.subst (motive := I) (congrArg Prod.snd heq3) ?_
        refine endFrame_may h (Sub.rfl.inl.inl.inl.inl.inl.inl.trans hm) hb2
      extract_lets -merge -useContext x4
      refine forEach_may h (Sub.rfl.inr.inl.inl.inl.inl.inl.trans hm) (fun a5 a6 ha6 => ?_) ?_
      · refine applyFreezes_may h (Sub.rfl.inr.inl.inl.inl.inl.trans hm) (fun a7 ha7 => ?_) ha6
        · refine may_ite ?_ ?_
          · refine writerStart_may h (Sub.rfl.inr.inl.inl.inl.trans hm) ha7
          · exact ha7
      · refine audioFrameEnd_may h (Sub.rfl.inr.inl.inl.trans hm) ?_
        · refine measureFrame_may h (Sub.rfl.inr.inl.trans hm) ?_
          · refine trackFrame_may h (Sub.rfl.inr.trans hm) hp2

def holdEnd_m : Nat := mask [KNL_MEAS_EVT.LOSS, KNL_MEAS_STATUS.LOSS, KNL_MEAS_EVT.BLACK, KNL_MEAS_STATUS.BLACK, KNL_MEAS_EVT.FREEZE, KNL_MEAS_STATUS.FREEZE] ||| setMeas_m ||| raise_m ||| setF_m
theorem holdEnd_may (h : May M I) (hm : Sub holdEnd_m M) {b0} {b1} {b2} (hb2 : I b2) : I (holdEnd b0 b1 b2) := by
  have ho := (Sub.rfl.inl.inl.inl.trans hm)
  unfold holdEnd
  extract_lets -merge -useContext x0 x1
  refine may_ite ?_ ?_
  · exact hb2
  · split
    · refine may_ite ?_ ?_
      · refine setMeas_may h (Sub.rfl.inr.inl.inl.trans hm) ?_
        · refine raise_may h (Sub.rfl.inr.inl.trans hm) (ho.okAll (by decide +kernel)) ?_
          · refine setF_may h (Sub.rfl.inr.trans hm) (ho.ok (by decide +kernel)) hb2
      · exact hb2
    · refine may_ite ?_ ?_
      · refine raise_may h (Sub.rfl.inr.inl.trans hm) (ho.okAll (by decide +kernel)) ?_
        · refine setF_may h (Sub.rfl.inr.trans hm) (ho.ok (by decide +kernel)) hb2
      · exact hb2
    · refine may_ite ?_ ?_
      · refine setF_may h (Sub.rfl.inr.trans hm) (ho.ok (by decide +kernel)) hb2
      · exact hb2
    · refine may_ite ?_ ?_
      · refine raise_may h (Sub.rfl.inr.inl.trans hm) (ho.okAll (by decide +kernel)) ?_
        · refine setF_may h (Sub.rfl.inr.trans hm) (ho.ok (by decide +kernel)) hb2
      · exact hb2
    · refine may_ite ?_ ?_
      · refine setF_may h (Sub.rfl.inr.trans hm) (ho.ok (by decide +kernel)) hb2
      · exact hb2

def flowWriterLate_m : Nat := writerLoss_m
theorem flowWriterLate_may (h : May M I) (hm : Sub flowWriterLate_m M) {b0} {b1} (hb1 : I b1) : I (flowWriterLate b0 b1) := by
  unfold flowWriterLate
  refine may_ite ?_ ?_
  · refine writerLoss_may h (Sub.rfl.trans hm) hb1
  · exact hb1

def flowsTake_m : Nat := mask [FLW_TX_EVT.SKIP, FLW_TX_SKIP.COUNT, FLW_TX_FLAGS.OVF] ||| raise_m ||| bump32F_m ||| forEach_m ||| setEth_m
theorem flowsTake_may (h : May M I) (hm : Sub flowsTake_m M) {b0} {b1} {b2} (hb2 : I b2) : I (flowsTake b0 b1 b2) := by
  have ho := (Sub.rfl.inl.inl.inl.inl.trans hm)
  unfold flowsTake
  extract_lets -merge -useContext x0 x1
  have hx1 : ∀ a0 a1, I a1 → I (x1 a0 a1) := by
    intro a2 a3 ha3
    unfold x1
    refine raise_may h (Sub.rfl.inr.inl.inl.inl.trans hm) (ho.okAll (by decide +kernel)) ?_
    · refine bump32F_may h (Sub.rfl.inr.inl.inl.trans hm) (ho.ok (by decide +kernel)) (ho.ok (by decide +kernel)) ha3
  clear_value x1
  refine forEach_may h (Sub.rfl.inr.inl.trans hm) (fun a4 a5 ha5 => ?_) hb2
  · extract_lets -merge -useContext x6
    split
    · extract_lets -merge -useContext x7
      refine may_ite ?_ ?_
      · refine hx1 _ _ ha5
      · refine setEth_may h (Sub.rfl.inr.trans hm) ha5
    · refine may_ite ?_ ?_
      · refine hx1 _ _ ha5
      · exact ha5

def readerChoice_m : Nat := flowsTake_m ||| readerPoint_m
theorem readerChoice_may (h : May M I) (hm : Sub readerChoice_m M) {b0} {b1} {b2} (hb2 : I b2) : I (readerChoice b0 b1 b2) := by
  unfold readerChoice
  refine may_ite ?_ ?_
  · refine flowsTake_may h (Sub.rfl.inl.trans hm) ?_
    · refine readerPoint_may h (Sub.rfl.inr.trans hm) hb2
  · exact hb2

def addPendKnl_m : Nat := setAlloc_m
theorem addPendKnl_may (h : May M I) (hm : Sub addPendKnl_m M) {b0} {b1} {b2} (hb2 : I b2) : I (addPendKnl b0 b1 b2) := by
  unfold addPendKnl
  refine setAlloc_may h (Sub.rfl.trans hm) hb2

def freezeApply_m : Nat := addPendKnl_m
theorem freezeApply_may (h : May M I) (hm : Sub freezeApply_m M) {b0} {b1} {b2} {b3} (hb3 : I b3) : I (freezeApply b0 b1 b2 b3) := by
  unfold freezeApply
  refine addPendKnl_may h (Sub.rfl.trans hm) hb3

def freezeBody_m : Nat := refuse_m ||| acceptTimed_m ||| freezeApply_m
theorem freezeBody_may (h : May M I) (hm : Sub freezeBody_m M) {b0} {b1} {b2} {b3} (hb3 : I b3) : I (freezeBody b0 b1 b2 b3) := by
  unfold freezeBody
  split
  · refine refuse_may h (Sub.rfl.inl.inl.trans hm) hb3
  · refine acceptTimed_may h (Sub.rfl.inr.inl.trans hm) (fun a0 a1 a2 ha2 => ?_) hb3
    · refine freezeApply_may h (Sub.rfl.inr.trans hm) ha2

def captureApply_m : Nat := setAlloc_m
theorem captureApply_may (h : May M I) (hm : Sub captureApply_m M) {b0} {b1} {b2} (hb2 : I b2) : I (captureApply b0 b1 b2) := by
  unfold captureApply
  split
  · refine setAlloc_may h (Sub.rfl.trans hm) hb2
  · exact hb2

def captureBody_m : Nat := refuse_m ||| acceptNow_m ||| captureApply_m
theorem captureBody_may (h : May M I) (hm : Sub captureBody_m M) {b0} {b1} {b2} {b3} (hb3 : I b3) : I (captureBody b0 b1 b2 b3) := by
  unfold captureBody
  split
  · refine refuse_may h (Sub.rfl.inl.inl.trans hm) hb3
  · refine acceptNow_may h (Sub.rfl.inr.inl.trans hm) (fun a0 a1 ha1 => ?_) hb3
    · refine captureApply_may h (Sub.rfl.inr.trans hm) ha1

def captureEnd_m : Nat := mask [KNL_ALLOC_STATUS.FORMAT, KNL_ALLOC_STATUS.VALID] ||| memberEnd_m ||| setF_m ||| setAlloc_m
theorem captureEnd_may (h : May M I) (hm : Sub captureEnd_m M) {b0} {b1} (hb1 : I b1) : I (captureEnd b0 b1) := by
  have ho := (Sub.rfl.inl.inl.inl.trans hm)
  unfold captureEnd
  split
  · exact hb1
  · split
    · exact hb1
    · refine memberEnd_may h (Sub.rfl.inr.inl.inl.trans hm) ?_
      · refine setF_may h (Sub.rfl.inr.inl.trans hm) (ho.ok (by decide +kernel)) ?_
        · refine setF_may h (Sub.rfl.inr.inl.trans hm) (ho.ok (by decide +kernel)) ?_
          · refine setAlloc_may h (Sub.rfl.inr.trans hm) hb1

def selectApply_m : Nat := mask [KNL_ALLOC_STATUS.SELECT] ||| memberEnd_m ||| setF_m ||| addPendKnl_m
theorem selectApply_may (h : May M I) (hm : Sub selectApply_m M) {b0} {b1} {b2} {b3} (hb3 : I b3) : I (selectApply b0 b1 b2 b3) := by
  have ho := (Sub.rfl.inl.inl.inl.trans hm)
  unfold selectApply
  extract_lets -merge -useContext x0
  refine may_ite ?_ ?_
  · refine memberEnd_may h (Sub.rfl.inr.inl.inl.trans hm) ?_
    · refine setF_may h (Sub.rfl.inr.inl.trans hm) (ho.ok (by decide +kernel)) hb3
  · refine addPendKnl_may h (Sub.rfl.inr.trans hm) hb3

def selectBody_m : Nat := refuse_m ||| acceptTimed_m ||| selectApply_m
theorem selectBody_may (h : May M I) (hm : Sub selectBody_m M) {b0} {b1} {b2} {b3} (hb3 : I b3) : I (selectBody b0 b1 b2 b3) := by
  unfold selectBody
  split
  · refine refuse_may h (Sub.rfl.inl.inl.trans hm) hb3
  · refine acceptTimed_may h (Sub.rfl.inr.inl.trans hm) (fun a0 a1 a2 ha2 => ?_) hb3
    · refine selectApply_may h (Sub.rfl.inr.trans hm) ha2

def execInputFrameEnd_m : Nat := onService_m ||| inputFrame_m
theorem execInputFrameEnd_may (h : May M I) (hm : Sub execInputFrameEnd_m M) (hr : Run M I) {b0} {b1} {b2} {b3} (hb3 : I b3) : Ans I (execInputFrameEnd b0 b1 b2 b3) := by
  refine ⟨_, rfl, ?_⟩
  refine onService_may h (Sub.rfl.inl.trans hm) hr (fun I h a0 ha0 => ?_) hb3
  · refine inputFrame_may h (Sub.rfl.inr.trans hm) ha0

def execMeasurementHoldExpire_m : Nat := onService_m ||| holdEnd_m
theorem execMeasurementHoldExpire_may (h : May M I) (hm : Sub execMeasurementHoldExpire_m M) (hr : Run M I) {b0} {b1} {b2} {b3} (hb3 : I b3) : Ans I (execMeasurementHoldExpire b0 b1 b2 b3) := by
  refine ⟨_, rfl, ?_⟩
  refine onService_may h (Sub.rfl.inl.trans hm) hr (fun I h a0 ha0 => ?_) hb3
  · refine holdEnd_may h (Sub.rfl.inr.trans hm) ha0

def execFlowWriterTimeout_m : Nat := onService_m ||| flowWriterLate_m
theorem execFlowWriterTimeout_may (h : May M I) (hm : Sub execFlowWriterTimeout_m M) (hr : Run M I) {b0} {b1} {b2} (hb2 : I b2) : Ans I (execFlowWriterTimeout b0 b1 b2) := by
  refine ⟨_, rfl, ?_⟩
  refine onService_may h (Sub.rfl.inl.trans hm) hr (fun I h a0 ha0 => ?_) hb2
  · refine flowWriterLate_may h (Sub.rfl.inr.trans hm) ha0

def execKennelReaderChoice_m : Nat := onService_m ||| readerChoice_m
theorem execKennelReaderChoice_may (h : May M I) (hm : Sub execKennelReaderChoice_m M) (hr : Run M I) {b0} {b1} {b2} {b3} (hb3 : I b3) : Ans I (execKennelReaderChoice b0 b1 b2 b3) := by
  refine ⟨_, rfl, ?_⟩
  refine onService_may h (Sub.rfl.inl.trans hm) hr (fun I h a0 ha0 => ?_) hb3
  · refine readerChoice_may h (Sub.rfl.inr.trans hm) ha0

def execFreeze_m : Nat := ringCmdIf_m ||| freezeBody_m
theorem execFreeze_may (h : May M I) (hm : Sub execFreeze_m M) (hr : Run M I) {b0} {b1} {b2} {b3} (hb3 : I b3) : Ans I (execFreeze b0 b1 b2 b3) := by
  refine ⟨_, rfl, ?_⟩
  refine ringCmdIf_may h (Sub.rfl.inl.trans hm) hr (fun I h a0 a1 ha1 => ?_) hb3
  · refine freezeBody_may h (Sub.rfl.inr.trans hm) ha1

def execUnfreeze_m : Nat := ringCmdIf_m ||| freezeBody_m
theorem execUnfreeze_may (h : May M I) (hm : Sub execUnfreeze_m M) (hr : Run M I) {b0} {b1} {b2} {b3} (hb3 : I b3) : Ans I (execUnfreeze b0 b1 b2 b3) := by
  refine ⟨_, rfl, ?_⟩
  refine ringCmdIf_may h (Sub.rfl.inl.trans hm) hr (fun I h a0 a1 ha1 => ?_) hb3
  · refine freezeBody_may h (Sub.rfl.inr.trans hm) ha1

def execCapture_m : Nat := ringCmd_m ||| captureBody_m
theorem execCapture_may (h : May M I) (hm : Sub execCapture_m M) (hr : Run M I) {b0} {b1} {b2} {b3} (hb3 : I b3) : Ans I (execCapture b0 b1 b2 b3) := by
  refine ⟨_, rfl, ?_⟩
  refine ringCmd_may h (Sub.rfl.inl.trans hm) hr (fun I h a0 a1 ha1 => ?_) hb3
  · refine captureBody_may h (Sub.rfl.inr.trans hm) ha1

def execCaptureDone_m : Nat := onService_m ||| captureEnd_m
theorem execCaptureDone_may (h : May M I) (hm : Sub execCaptureDone_m M) (hr : Run M I) {b0} {b1} {b2} (hb2 : I b2) : Ans I (execCaptureDone b0 b1 b2) := by
  refine ⟨_, rfl, ?_⟩
  refine onService_may h (Sub.rfl.inl.trans hm) hr (fun I h a0 ha0 => ?_) hb2
  · refine captureEnd_may h (Sub.rfl.inr.trans hm) ha0

def execStillSelect_m : Nat := ringCmd_m ||| selectBody_m
theorem execStillSelect_may (h : May M I) (hm : Sub execStillSelect_m M) (hr : Run M I) {b0} {b1} {b2} {b3} (hb3 : I b3) : Ans I (execStillSelect b0 b1 b2 b3) := by
  refine ⟨_, rfl, ?_⟩
  refine ringCmd_may h (Sub.rfl.inl.trans hm) hr (fun I h a0 a1 ha1 => ?_) hb3
  · refine selectBody_may h (Sub.rfl.inr.trans hm) ha1

def execKnlClrCnt_m : Nat := mask knlCounters ||| whenHost_m ||| clearFlds_m
theorem execKnlClrCnt_may (h : May M I) (hm : Sub execKnlClrCnt_m M) {b0} (hb0 : I b0) : Ans I (execKnlClrCnt b0) := by
  refine ⟨_, rfl, ?_⟩
  refine whenHost_may h (Sub.rfl.inr.inl.trans hm) (fun a0 ha0 => ?_) hb0
  · refine clearFlds_may h (Sub.rfl.inr.trans hm) ((Sub.rfl.inl.inl.trans hm).okAll (by decide +kernel)) ha0

def storeBundle_m : Nat := forEach_m ||| storeRow_m ||| setShf_m
theorem storeBundle_may (h : May M I) (hm : Sub storeBundle_m M) {b0} {b1} (hb1 : I b1) : I (storeBundle b0 b1) := by
  unfold storeBundle
  extract_lets -merge -useContext x0 x1 x2
  have hx2 : I x2 := by
    unfold x2
    refine forEach_may h (Sub.rfl.inl.inl.trans hm) (fun a3 a4 ha4 => ?_) hb1
    · refine storeRow_may h (Sub.rfl.inr.inl.trans hm) (fun a5 ha5 => ?_) ha4
      · exact ha5
  clear_value x2
  refine storeRow_may h (Sub.rfl.inr.inl.trans hm) (fun a6 ha6 => ?_) ?_
  · refine setShf_may h (Sub.rfl.inr.trans hm) ha6
  · refine setShf_may h (Sub.rfl.inr.trans hm) hx2

def showRaised_m : Nat := mask [SHF_BUNDLE.BUILTIN, SHF_RAISED.BY_CMD, SHF_RAISED.RAISED] ||| setShf_m ||| setB_m ||| setF_m
theorem showRaised_may (h : May M I) (hm : Sub showRaised_m M) {b0} (hb0 : I b0) : I (showRaised b0) := by
  have ho := (Sub.rfl.inl.inl.inl.trans hm)
  unfold showRaised
  refine setShf_may h (Sub.rfl.inr.inl.inl.trans hm) ?_
  · refine setB_may h (Sub.rfl.inr.inl.trans hm) (ho.ok (by decide +kernel)) ?_
    · refine setF_may h (Sub.rfl.inr.trans hm) (ho.ok (by decide +kernel)) ?_
      · refine setF_may h (Sub.rfl.inr.trans hm) (ho.ok (by decide +kernel)) hb0

def addCause_m : Nat := mask [SHF_RAISE_CNT.COUNT, SHF_CNT_FLAGS.RAISE_OVF] ||| showRaised_m ||| storeRow_m ||| setShf_m ||| post_m ||| audit_m ||| bump32_m
theorem addCause_may (h : May M I) (hm : Sub addCause_m M) {b0} {b1} {b2} (hb2 : I b2) : I (addCause b0 b1 b2) := by
  have ho := (Sub.rfl.inl.inl.inl.inl.inl.inl.trans hm)
  unfold addCause
  extract_lets -merge -useContext x0 x1
  have hx1 : I x1 := by
    unfold x1
    refine showRaised_may h (Sub.rfl.inr.inl.inl.inl.inl.inl.trans hm) ?_
    · refine storeRow_may h (Sub.rfl.inr.inl.inl.inl.inl.trans hm) (fun a2 ha2 => ?_) ?_
      · exact ha2
      · refine setShf_may h (Sub.rfl.inr.inl.inl.inl.trans hm) hb2
  clear_value x1
  refine may_ite ?_ ?_
  · exact hb2
  · refine may_ite ?_ ?_
    · refine post_may h (Sub.rfl.inr.inl.inl.trans hm) ?_
      · refine audit_may h (Sub.rfl.inr.inl.trans hm) ?_
        · refine bump32_may h (Sub.rfl.inr.trans hm) (ho.ok (by decide +kernel)) (ho.ok (by decide +kernel)) hx1
    · exact hx1

def dropCause_m : Nat := showRaised_m ||| storeRow_m ||| setShf_m ||| post_m ||| audit_m
theorem dropCause_may (h : May M I) (hm : Sub dropCause_m M) {b0} {b1} {b2} (hb2 : I b2) : I (dropCause b0 b1 b2) := by
  unfold dropCause
  extract_lets -merge -useContext x0 x1
  have hx1 : I x1 := by
    unfold x1
    refine showRaised_may h (Sub.rfl.inl.inl.inl.inl.trans hm) ?_
    · refine storeRow_may h (Sub.rfl.inr.inl.inl.inl.trans hm) (fun a2 ha2 => ?_) ?_
      · exact ha2
      · refine setShf_may h (Sub.rfl.inr.inl.inl.trans hm) hb2
  clear_value x1
  refine may_ite ?_ ?_
  · exact hb2
  · refine may_ite ?_ ?_
    · refine post_may h (Sub.rfl.inr.inl.trans hm) ?_
      · refine audit_may h (Sub.rfl.inr.trans hm) hx1
    · exact hx1

def startRestore_m : Nat := setShf_m
theorem startRestore_may (h : May M I) (hm : Sub startRestore_m M) {b0} {b1} {b2} (hb2 : I b2) : I (startRestore b0 b1 b2) := by
  unfold startRestore
  refine setShf_may h (Sub.rfl.trans hm) hb2

def stopRestore_m : Nat := setShf_m
theorem stopRestore_may (h : May M I) (hm : Sub stopRestore_m M) {b0} {b1} (hb1 : I b1) : I (stopRestore b0 b1) := by
  unfold stopRestore
  refine setShf_may h (Sub.rfl.trans hm) hb1

def judgeContact_m : Nat := addCause_m ||| stopRestore_m ||| startRestore_m
theorem judgeContact_may (h : May M I) (hm : Sub judgeContact_m M) {b0} {b1} (hb1 : I b1) : I (judgeContact b0 b1) := by
  unfold judgeContact
  extract_lets -merge -useContext x0
  have hx0 : I x0 := by
    unfold x0
    refine may_ite ?_ ?_
    · refine addCause_may h (Sub.rfl.inl.inl.trans hm) ?_
      · refine stopRestore_may h (Sub.rfl.inr.inl.trans hm) hb1
    · refine may_ite ?_ ?_
      · refine stopRestore_may h (Sub.rfl.inr.inl.trans hm) hb1
      · refine may_ite ?_ ?_
        · refine startRestore_may h (Sub.rfl.inr.trans hm) hb1
        · exact hb1
  clear_value x0
  refine may_ite ?_ ?_
  · exact hb1
  · split
    · exact hx0
    · refine may_ite ?_ ?_
      · refine addCause_may h (Sub.rfl.inl.inl.trans hm) ?_
        · refine stopRestore_may h (Sub.rfl.inr.inl.trans hm) hx0
      · refine may_ite ?_ ?_
        · refine startRestore_may h (Sub.rfl.inr.trans hm) hx0
        · exact hx0

def setContact_m : Nat := mask [SHF_CONTACT.A_OWN, SHF_CONTACT.B_OWN, SHF_FAULT_CNT.COUNT, SHF_CNT_FLAGS.FAULT_OVF] ||| post_m ||| setF_m ||| bump32_m ||| judgeContact_m
theorem setContact_may (h : May M I) (hm : Sub setContact_m M) {b0} {b1} {b2} (hb2 : I b2) : I (setContact b0 b1 b2) := by
  have ho := (Sub.rfl.inl.inl.inl.inl.trans hm)
  unfold setContact
  extract_lets -merge -useContext x0 x1 x2
  have hx1 : I x1 := by
    unfold x1
    refine post_may h (Sub.rfl.inr.inl.inl.inl.trans hm) ?_
    · refine setF_may h (Sub.rfl.inr.inl.inl.trans hm) (by unfold ownFld; split <;> exact ho.ok (by decide +kernel)) hb2
  clear_value x1
  have hx2 : I x2 := by
    unfold x2
    refine may_ite ?_ ?_
    · refine bump32_may h (Sub.rfl.inr.inl.trans hm) (ho.ok (by decide +kernel)) (ho.ok (by decide +kernel)) hx1
    · exact hx1
  clear_value x2
  refine may_ite ?_ ?_
  · exact hb2
  · refine judgeContact_may h (Sub.rfl.inr.trans hm) hx2

def setTwinContact_m : Nat := mask [SHF_CONTACT.A_TWIN, SHF_CONTACT.B_TWIN] ||| judgeContact_m ||| setF_m
theorem setTwinContact_may (h : May M I) (hm : Sub setTwinContact_m M) {b0} {b1} {b2} (hb2 : I b2) : I (setTwinContact b0 b1 b2) := by
  have ho := (Sub.rfl.inl.inl.trans hm)
  unfold setTwinContact
  refine may_ite ?_ ?_
  · exact hb2
  · refine judgeContact_may h (Sub.rfl.inr.inl.trans hm) ?_
    · refine setF_may h (Sub.rfl.inr.trans hm) (by unfold twinFld; split <;> exact ho.ok (by decide +kernel)) hb2

def lowerMsg_m : Nat := forEach_m ||| dropCause_m
theorem lowerMsg_may (h : May M I) (hm : Sub lowerMsg_m M) {b0} {b1} (hb1 : I b1) : I (lowerMsg b0 b1) := by
  unfold lowerMsg
  extract_lets -merge -useContext x0
  have hx0 : I x0 := by
    unfold x0
    refine forEach_may h (Sub.rfl.inl.trans hm) (fun a1 a2 ha2 => ?_) hb1
    · refine may_ite ?_ ?_
      · refine dropCause_may h (Sub.rfl.inr.trans hm) ha2
      · exact ha2
  clear_value x0
  refine may_ite ?_ ?_
  · refine dropCause_may h (Sub.rfl.inr.trans hm) hx0
  · exact hx0

def shofarFrame_m : Nat := mask [SHF_HEAD.VISIBLE, SHF_HEAD.MSG] ||| setShf_m ||| setB_m ||| setF_m
theorem shofarFrame_may (h : May M I) (hm : Sub shofarFrame_m M) {b0} {b1} {b2} (hb2 : I b2) : I (shofarFrame b0 b1 b2) := by
  have ho := (Sub.rfl.inl.inl.inl.trans hm)
  unfold shofarFrame
  extract_lets -merge -useContext x0 x1
  refine setShf_may h (Sub.rfl.inr.inl.inl.trans hm) ?_
  · refine setB_may h (Sub.rfl.inr.inl.trans hm) (ho.ok (by decide +kernel)) ?_
    · refine setF_may h (Sub.rfl.inr.trans hm) (ho.ok (by decide +kernel)) hb2

def putLayer_m : Nat := mask [CMP_LAYER.WORD] ||| forEach_m ||| setF_m
theorem putLayer_may (h : May M I) (hm : Sub putLayer_m M) {b0} {b1} {b2} {b3} (hb3 : I b3) : I (putLayer b0 b1 b2 b3) := by
  have ho := (Sub.rfl.inl.inl.trans hm)
  unfold putLayer
  refine forEach_may h (Sub.rfl.inr.inl.trans hm) (fun a0 a1 ha1 => ?_) hb3
  · refine setF_may h (Sub.rfl.inr.trans hm) (ho.ok (by decide +kernel)) ha1

def writeShadow_m : Nat := mask [CMP_HEAD_SHD2.WORD, CMP_HEAD_SHD1.WORD] ||| putLayer_m ||| setF_m ||| setCmp_m
theorem writeShadow_may (h : May M I) (hm : Sub writeShadow_m M) {b0} {b1} {b2} (hb2 : I b2) : I (writeShadow b0 b1 b2) := by
  have ho := (Sub.rfl.inl.inl.inl.trans hm)
  unfold writeShadow
  extract_lets -merge -useContext x0
  split
  · refine putLayer_may h (Sub.rfl.inr.inl.inl.trans hm) hb2
  · refine setF_may h (Sub.rfl.inr.inl.trans hm) (ho.ok (by decide +kernel)) ?_
    · refine setF_may h (Sub.rfl.inr.inl.trans hm) (ho.ok (by decide +kernel)) hb2
  · refine setCmp_may h (Sub.rfl.inr.trans hm) hb2
  · exact hb2

def showUsage_m : Nat := mask [CMP_ENG_LOAD.READ_KPPS, CMP_ENG_STATUS.LB_USED] ||| setF_m
theorem showUsage_may (h : May M I) (hm : Sub showUsage_m M) {b0} {b1} (hb1 : I b1) : I (showUsage b0 b1) := by
  have ho := (Sub.rfl.inl.trans hm)
  unfold showUsage
  extract_lets -merge -useContext x0 x1
  split
  · refine setF_may h (Sub.rfl.inr.trans hm) (ho.ok (by decide +kernel)) ?_
    · refine setF_may h (Sub.rfl.inr.trans hm) (ho.ok (by decide +kernel)) hb1

def setLayer_m : Nat := setCmp_m
theorem setLayer_may (h : May M I) (hm : Sub setLayer_m M) {b0} {b1} {b2} (hb2 : I b2) : I (setLayer b0 b1 b2) := by
  unfold setLayer
  refine setCmp_may h (Sub.rfl.trans hm) hb2

def activateLayer_m : Nat := setLayer_m ||| putLayer_m
theorem activateLayer_may (h : May M I) (hm : Sub activateLayer_m M) {b0} {b1} {b2} (hb2 : I b2) : I (activateLayer b0 b1 b2) := by
  unfold activateLayer
  extract_lets -merge -useContext x0 x1
  have hx1 : I x1 := by
    unfold x1
    refine may_ite ?_ ?_
    · refine setLayer_may h (Sub.rfl.inl.trans hm) hb2
    · exact hb2
  clear_value x1
  refine putLayer_may h (Sub.rfl.inr.trans hm) hx1

def applyCopy_m : Nat := mask [CMP_HEAD_ACT2.WORD, CMP_HEAD_ACT1.WORD] ||| showUsage_m ||| setCmp_m ||| forEach_m ||| setF_m ||| activateLayer_m
theorem applyCopy_may (h : May M I) (hm : Sub applyCopy_m M) {b0} {b1} {b2} (hb2 : I b2) : I (applyCopy b0 b1 b2) := by
  have ho := (Sub.rfl.inl.inl.inl.inl.inl.trans hm)
  unfold applyCopy
  refine showUsage_may h (Sub.rfl.inr.inl.inl.inl.inl.trans hm) ?_
  · refine setCmp_may h (Sub.rfl.inr.inl.inl.inl.trans hm) ?_
    · refine forEach_may h (Sub.rfl.inr.inl.inl.trans hm) (fun a0 a1 ha1 => ?_) ?_
      · refine setF_may h (Sub.rfl.inr.inl.trans hm) (ho.ok (by decide +kernel)) ?_
        · refine setF_may h (Sub.rfl.inr.inl.trans hm) (ho.ok (by decide +kernel)) ha1
      · refine forEach_may h (Sub.rfl.inr.inl.inl.trans hm) (fun a2 a3 ha3 => ?_) hb2
        · refine may_ite ?_ ?_
          · exact ha3
          · refine activateLayer_may h (Sub.rfl.inr.trans hm) ha3

def applyCommits_m : Nat := mask [CMP_ENG_EVT.COMMIT, CMP_ENG_COMMIT_CNT.COUNT, CMP_ENG_EVT.COMMIT_OVF] ||| forEach_m ||| modCmd_m ||| memberDone_m ||| setCmp_m ||| raise_m ||| bump32_m ||| applyCopy_m
theorem applyCommits_may (h : May M I) (hm : Sub applyCommits_m M) {b0} {b1} {b2} (hb2 : I b2) : I (applyCommits b0 b1 b2) := by
  have ho := (Sub.rfl.inl.inl.inl.inl.inl.inl.inl.trans hm)
  unfold applyCommits
  extract_lets -merge -useContext x0
  split
  · exact hb2
  · refine may_ite ?_ ?_
    · refine forEach_may h (Sub.rfl.inr.inl.inl.inl.inl.inl.inl.trans hm) (fun a1 a2 ha2 => ?_) hb2
      · refine modCmd_may h (Sub.rfl.inr.inl.inl.inl.inl.inl.trans hm) ha2
    · refine memberDone_may h (Sub.rfl.inr.inl.inl.inl.inl.trans hm) ?_
      · refine setCmp_may h (Sub.rfl.inr.inl.inl.inl.trans hm) ?_
        · refine raise_may h (Sub.rfl.inr.inl.inl.trans hm) (ho.okAll (by decide +kernel)) ?_
          · refine bump32_may h (Sub.rfl.inr.inl.trans hm) (ho.ok (by decide +kernel)) (ho.ok (by decide +kernel)) ?_
            · refine applyCopy_may h (Sub.rfl.inr.trans hm) ?_
              · refine forEach_may h (Sub.rfl.inr.inl.inl.inl.inl.inl.inl.trans hm) (fun a3 a4 ha4 => ?_) hb2
                · refine modCmd_may h (Sub.rfl.inr.inl.inl.inl.inl.inl.trans hm) ha4

def setBaseAlloc_m : Nat := mask [CMP_LAYER.WORD] ||| setF_m ||| setLayer_m
theorem setBaseAlloc_may (h : May M I) (hm : Sub setBaseAlloc_m M) {b0} {b1} {b2} (hb2 : I b2) : I (setBaseAlloc b0 b1 b2) := by
  have ho := (Sub.rfl.inl.inl.trans hm)
  unfold setBaseAlloc
  extract_lets -merge -useContext x0 x1 x2
  refine may_ite ?_ ?_
  · exact hb2
  · refine setF_may h (Sub.rfl.inr.inl.trans hm) (ho.ok (by decide +kernel)) ?_
    · refine setF_may h (Sub.rfl.inr.inl.trans hm) (ho.ok (by decide +kernel)) ?_
      · refine setLayer_may h (Sub.rfl.inr.trans hm) hb2

def commitSafety_m : Nat := mask [XPT_OUT_EVT.SWITCH, XPT_OUT_SWITCH_CNT.COUNT, XPT_OUT_EVT.SWITCH_OVF, XPT_OUT_SRC.SOURCE] ||| setBaseAlloc_m ||| setF_m ||| bump32_m ||| countTake_m ||| storeRoute_m ||| memberDone_m
theorem commitSafety_may (h : May M I) (hm : Sub commitSafety_m M) {b0} {b1} {b2} {b3} (hb3 : I b3) : I (commitSafety b0 b1 b2 b3) := by
  have ho := (Sub.rfl.inl.inl.inl.inl.inl.inl.trans hm)
  unfold commitSafety
  extract_lets -merge -useContext x0 x1 x2 x3 x4
  have hx1 : I x1 := by
    unfold x1
    split
    · refine setBaseAlloc_may h (Sub.rfl.inr.inl.inl.inl.inl.inl.trans hm) hb3
    · exact hb3
  clear_value x1
  have hx2 : I x2 := by
    unfold x2
    refine may_ite ?_ ?_
    · exact hx1
    · refine setF_may h (Sub.rfl.inr.inl.inl.inl.inl.trans hm) (ho.ok (by decide +kernel)) ?_
      · refine bump32_may h (Sub.rfl.inr.inl.inl.inl.trans hm) (ho.ok (by decide +kernel)) (ho.ok (by decide +kernel)) hx1
  clear_value x2
  have hx3 : I x3 := by
    unfold x3
    refine countTake_may h (Sub.rfl.inr.inl.inl.trans hm) ?_
    · refine setF_may h (Sub.rfl.inr.inl.inl.inl.inl.trans hm) (ho.ok (by decide +kernel)) hx2
  clear_value x3
  have hx4 : I x4 := by
    unfold x4
    refine may_ite ?_ ?_
    · exact hx3
    · refine storeRoute_may h (Sub.rfl.inr.inl.trans hm) hx3
  clear_value x4
  refine may_ite ?_ ?_
  · exact hx4
  · refine memberDone_may h (Sub.rfl.inr.trans hm) hx4

def applySafetyTakes_m : Nat := forEach_m ||| dropPend_m ||| commitSafety_m ||| supersede_m
theorem applySafetyTakes_may (h : May M I) (hm : Sub applySafetyTakes_m M) {b0} {b1} {b2} (hb2 : I b2) : I (applySafetyTakes b0 b1 b2) := by
  unfold applySafetyTakes
  extract_lets -merge -useContext x0 x1
  refine forEach_may h (Sub.rfl.inl.inl.inl.trans hm) (fun a2 a3 ha3 => ?_) ?_
  · refine dropPend_may h (Sub.rfl.inr.inl.inl.trans hm) ha3
  · refine forEach_may h (Sub.rfl.inl.inl.inl.trans hm) (fun a4 a5 ha5 => ?_) hb2
    · refine may_ite ?_ ?_
      · refine commitSafety_may h (Sub.rfl.inr.inl.trans hm) ha5
      · refine supersede_may h (Sub.rfl.inr.trans hm) ha5

def dropLayerChoice_m : Nat := setTwin_m
theorem dropLayerChoice_may (h : May M I) (hm : Sub dropLayerChoice_m M) {b0} {b1} (hb1 : I b1) : I (dropLayerChoice b0 b1) := by
  unfold dropLayerChoice
  refine setTwin_may h (Sub.rfl.trans hm) hb1

def showLayer_m : Nat := mask [CMP_LAYER_STATUS.STATE, CMP_LAYER_STATUS.SRC_FORMAT] ||| setF_m
theorem showLayer_may (h : May M I) (hm : Sub showLayer_m M) {b0} {b1} {b2} (hb2 : I b2) : I (showLayer b0 b1 b2) := by
  have ho := (Sub.rfl.inl.trans hm)
  unfold showLayer
  extract_lets -merge -useContext x0
  have hx0 : I x0 := by
    unfold x0
    refine setF_may h (Sub.rfl.inr.trans hm) (ho.ok (by decide +kernel)) hb2
  clear_value x0
  split
  · refine setF_may h (Sub.rfl.inr.trans hm) (ho.ok (by decide +kernel)) hx0
  · exact hx0

def layerReady_m : Nat := mask [CMP_LAYER_EVT.RECOVER, CMP_LAYER_EVT.COLOUR] ||| setLayer_m ||| raise_m ||| showLayer_m
theorem layerReady_may (h : May M I) (hm : Sub layerReady_m M) {b0} {b1} {b2} {b3} (hb3 : I b3) : I (layerReady b0 b1 b2 b3) := by
  have ho := (Sub.rfl.inl.inl.inl.trans hm)
  unfold layerReady
  extract_lets -merge -useContext x0 x1 x2 x3
  have hx1 : I x1 := by
    unfold x1
    refine setLayer_may h (Sub.rfl.inr.inl.inl.trans hm) hb3
  clear_value x1
  have hx2 : I x2 := by
    unfold x2
    refine may_ite ?_ ?_
    · refine raise_may h (Sub.rfl.inr.inl.trans hm) (ho.okAll (by decide +kernel)) hx1
    · exact hx1
  clear_value x2
  have hx3 : I x3 := by
    unfold x3
    split
    · split
      · refine may_ite ?_ ?_
        · refine raise_may h (Sub.rfl.inr.inl.trans hm) (ho.okAll (by decide +kernel)) hx2
        · exact hx2
      · exact hx2
    · exact hx2
  clear_value x3
  refine showLayer_may h (Sub.rfl.inr.trans hm) hx3

def layerNotReady_m : Nat := mask [CMP_LAYER_EVT.NOT_READY, CMP_LAYER_EVT.FALLBACK, CMP_LAYER_NOT_READY_CNT.COUNT, CMP_LAYER_EVT.NOT_READY_OVF, CMP_LAYER_FB_CNT.COUNT, CMP_LAYER_EVT.FB_OVF, CMP_LAYER_STATUS.STATE] ||| bump32_m ||| raise_m ||| setF_m ||| setLayer_m ||| showLayer_m
theorem layerNotReady_may (h : May M I) (hm : Sub layerNotReady_m M) {b0} {b1} (hb1 : I b1) : I (layerNotReady b0 b1) := by
  have ho := (Sub.rfl.inl.inl.inl.inl.inl.trans hm)
  unfold layerNotReady
  extract_lets -merge -useContext x0 x1 x2 x3 x4 x5 x6
  have hx2 : I x2 := by
    unfold x2
    refine bump32_may h (Sub.rfl.inr.inl.inl.inl.inl.trans hm) (ho.ok (by decide +kernel)) (ho.ok (by decide +kernel)) hb1
  clear_value x2
  have hx5 : I x5 := by
    unfold x5
    refine raise_may h (Sub.rfl.inr.inl.inl.inl.trans hm) (by
      have hc : OkAll M [CMP_LAYER_EVT.NOT_READY, CMP_LAYER_EVT.FALLBACK] := ho.okAll (by decide +kernel)
      intro f hf
      apply hc
      unfold x4 at hf
      rcases List.mem_append.mp hf with hf | hf <;> split at hf <;> simp_all) hx2
  clear_value x5
  have hx6 : I x6 := by
    unfold x6
    refine may_ite ?_ ?_
    · refine bump32_may h (Sub.rfl.inr.inl.inl.inl.inl.trans hm) (ho.ok (by decide +kernel)) (ho.ok (by decide +kernel)) hx5
    · exact hx5
  clear_value x6
  refine may_ite ?_ ?_
  · refine setF_may h (Sub.rfl.inr.inl.inl.trans hm) (ho.ok (by decide +kernel)) ?_
    · refine setLayer_may h (Sub.rfl.inr.inl.trans hm) hx6
  · refine showLayer_may h (Sub.rfl.inr.trans hm) ?_
    · refine setLayer_may h (Sub.rfl.inr.inl.trans hm) hx5

def layerPoint_m : Nat := mask [CMP_LAYER_STATUS.SRC_FORMAT, CMP_LAYER_STATUS.STATE] ||| dropLayerChoice_m ||| setLayer_m ||| setF_m ||| layerNotReady_m ||| layerReady_m
theorem layerPoint_may (h : May M I) (hm : Sub layerPoint_m M) {b0} {b1} {b2} (hb2 : I b2) : I (layerPoint b0 b1 b2) := by
  have ho := (Sub.rfl.inl.inl.inl.inl.inl.trans hm)
  unfold layerPoint
  dsimp only
  have hx5 : I (dropLayerChoice b0 b2) := by
    refine dropLayerChoice_may h (Sub.rfl.inr.inl.inl.inl.inl.trans hm) hb2
  refine may_ite ?_ ?_
  · refine setLayer_may h (Sub.rfl.inr.inl.inl.inl.trans hm) ?_
    · refine setF_may h (Sub.rfl.inr.inl.inl.trans hm) (ho.ok (by decide +kernel)) ?_
      · refine setF_may h (Sub.rfl.inr.inl.inl.trans hm) (ho.ok (by decide +kernel)) hb2
  · refine may_ite ?_ ?_
    · refine layerNotReady_may h (Sub.rfl.inr.inl.trans hm) ?_
      · refine dropLayerChoice_may h (Sub.rfl.inr.inl.inl.inl.inl.trans hm) hb2
    · refine may_ite ?_ ?_
      · refine layerReady_may h (Sub.rfl.inr.trans hm) hb2
      · split
        · refine layerNotReady_may h (Sub.rfl.inr.inl.trans hm) hx5
        · refine layerReady_may h (Sub.rfl.inr.trans hm) hx5
        · refine layerReady_may h (Sub.rfl.inr.trans hm) hx5
        · refine layerReady_may h (Sub.rfl.inr.trans hm) hx5
        · refine may_ite ?_ ?_
          · refine layerNotReady_may h (Sub.rfl.inr.inl.trans hm) hx5
          · refine layerReady_may h (Sub.rfl.inr.trans hm) hx5

def sendHead_m : Nat := setCmp_m
theorem sendHead_may (h : May M I) (hm : Sub sendHead_m M) {b0} {b1} (hb1 : I b1) : I (sendHead b0 b1) := by
  unfold sendHead
  extract_lets -merge -useContext x0 x1
  refine setCmp_may h (Sub.rfl.trans hm) hb1

def fitBase_m : Nat := mask [CMP_LAYER.WORD] ||| showUsage_m ||| setF_m
theorem fitBase_may (h : May M I) (hm : Sub fitBase_m M) {b0} {b1} (hb1 : I b1) : I (fitBase b0 b1) := by
  have ho := (Sub.rfl.inl.inl.trans hm)
  unfold fitBase
  extract_lets -merge -useContext x0
  split
  · exact hb1
  · extract_lets -merge -useContext x1
    refine may_ite ?_ ?_
    · exact hb1
    · refine showUsage_may h (Sub.rfl.inr.inl.trans hm) ?_
      · refine setF_may h (Sub.rfl.inr.trans hm) (ho.ok (by decide +kernel)) ?_
        · refine setF_may h (Sub.rfl.inr.trans hm) (ho.ok (by decide +kernel)) ?_
          · refine setF_may h (Sub.rfl.inr.trans hm) (ho.ok (by decide +kernel)) ?_
            · refine setF_may h (Sub.rfl.inr.trans hm) (ho.ok (by decide +kernel)) hb1

def headBoundary_m : Nat := forEach_m ||| sendHead_m ||| shofarFrame_m ||| fitBase_m ||| layerPoint_m ||| applySafetyTakes_m ||| applyCommits_m
theorem headBoundary_may (h : May M I) (hm : Sub headBoundary_m M) {b0} {b1} {b2} (hb2 : I b2) : I (headBoundary b0 b1 b2) := by
  unfold headBoundary
  extract_lets -merge -useContext x0
  refine may_ite ?_ ?_
  · exact hb2
  · refine forEach_may h (Sub.rfl.inl.inl.inl.inl.inl.inl.trans hm) (fun a1 a2 ha2 => ?_) ?_
    · refine sendHead_may h (Sub.rfl.inr.inl.inl.inl.inl.inl.trans hm) ?_
      · refine shofarFrame_may h (Sub.rfl.inr.inl.inl.inl.inl.trans hm) ha2
    · refine forEach_may h (Sub.rfl.inl.inl.inl.inl.inl.inl.trans hm) (fun a3 a4 ha4 => ?_) ?_
      · refine fitBase_may h (Sub.rfl.inr.inl.inl.inl.trans hm) ha4
      · refine forEach_may h (Sub.rfl.inl.inl.inl.inl.inl.inl.trans hm) (fun a5 a6 ha6 => ?_) ?_
        · refine layerPoint_may h (Sub.rfl.inr.inl.inl.trans hm) ha6
        · refine forEach_may h (Sub.rfl.inl.inl.inl.inl.inl.inl.trans hm) (fun a7 a8 ha8 => ?_) ?_
          · refine applySafetyTakes_may h (Sub.rfl.inr.inl.trans hm) ha8
          · refine applyCommits_may h (Sub.rfl.inr.trans hm) hb2

def writeShadows_m : Nat := forEach_m ||| writeShadow_m
theorem writeShadows_may (h : May M I) (hm : Sub writeShadows_m M) {b0} {b1} {b2} (hb2 : I b2) : I (writeShadows b0 b1 b2) := by
  unfold writeShadows
  refine forEach_may h (Sub.rfl.inl.trans hm) (fun a0 a1 ha1 => ?_) hb2
  · refine writeShadow_may h (Sub.rfl.inr.trans hm) ha1

def addCommit_m : Nat := setCmp_m
theorem addCommit_may (h : May M I) (hm : Sub addCommit_m M) {b0} {b1} {b2} {b3} (hb3 : I b3) : I (addCommit b0 b1 b2 b3) := by
  unfold addCommit
  refine setCmp_may h (Sub.rfl.trans hm) hb3

def noteRefused_m : Nat := mask [CMP_ENG_EVT.REFUSED, CMP_ENG_REFUSE_CNT.COUNT, CMP_ENG_EVT.REFUSE_OVF] ||| raise_m ||| bump32_m
theorem noteRefused_may (h : May M I) (hm : Sub noteRefused_m M) {b0} {b1} (hb1 : I b1) : I (noteRefused b0 b1) := by
  have ho := (Sub.rfl.inl.inl.trans hm)
  unfold noteRefused
  refine raise_may h (Sub.rfl.inr.inl.trans hm) (ho.okAll (by decide +kernel)) ?_
  · refine bump32_may h (Sub.rfl.inr.trans hm) (ho.ok (by decide +kernel)) (ho.ok (by decide +kernel)) hb1

def shadowApply_m : Nat := writeShadows_m ||| addCommit_m ||| memberEnd_m
theorem shadowApply_may (h : May M I) (hm : Sub shadowApply_m M) {b0} {b1} {b2} {b3} {b4} (hb4 : I b4) : I (shadowApply b0 b1 b2 b3 b4) := by
  unfold shadowApply
  extract_lets -merge -useContext x0
  have hx0 : I x0 := by
    unfold x0
    refine writeShadows_may h (Sub.rfl.inl.inl.trans hm) hb4
  clear_value x0
  refine may_ite ?_ ?_
  · refine addCommit_may h (Sub.rfl.inr.inl.trans hm) hx0
  · refine memberEnd_may h (Sub.rfl.inr.trans hm) hx0

def shadowBody_m : Nat := refuse_m ||| writeShadows_m ||| acceptTimed_m ||| shadowApply_m ||| noteRefused_m
theorem shadowBody_may (h : May M I) (hm : Sub shadowBody_m M) {b0} {b1} {b2} {b3} {b4} (hb4 : I b4) : I (shadowBody b0 b1 b2 b3 b4) := by
  unfold shadowBody
  extract_lets -merge -useContext x0
  refine may_ite ?_ ?_
  · refine refuse_may h (Sub.rfl.inl.inl.inl.inl.trans hm) hb4
  · refine may_ite ?_ ?_
    · refine refuse_may h (Sub.rfl.inl.inl.inl.inl.trans hm) hb4
    · split
      · refine refuse_may h (Sub.rfl.inl.inl.inl.inl.trans hm) hb4
      · extract_lets -merge -useContext x1 x2
        have hx2 : I x2 := by
          unfold x2
          refine writeShadows_may h (Sub.rfl.inr.inl.inl.inl.trans hm) hb4
        clear_value x2
        refine may_ite ?_ ?_
        · refine refuse_may h (Sub.rfl.inl.inl.inl.inl.trans hm) hb4
        · split
          · refine refuse_may h (Sub.rfl.inl.inl.inl.inl.trans hm) hb4
          · refine may_ite ?_ ?_
            · refine acceptTimed_may h (Sub.rfl.inr.inl.inl.trans hm) (fun a3 a4 a5 ha5 => ?_) hb4
              · refine shadowApply_may h (Sub.rfl.inr.inl.trans hm) ha5
            · split
              · refine refuse_may h (Sub.rfl.inl.inl.inl.inl.trans hm) ?_
                · refine noteRefused_may h (Sub.rfl.inr.trans hm) hx2
              · refine acceptTimed_may h (Sub.rfl.inr.inl.inl.trans hm) (fun a6 a7 a8 ha8 => ?_) hb4
                · refine shadowApply_may h (Sub.rfl.inr.inl.trans hm) ha8

def commitApply_m : Nat := addCommit_m
theorem commitApply_may (h : May M I) (hm : Sub commitApply_m M) {b0} {b1} {b2} {b3} (hb3 : I b3) : I (commitApply b0 b1 b2 b3) := by
  unfold commitApply
  refine addCommit_may h (Sub.rfl.trans hm) hb3

def commitBody_m : Nat := refuse_m ||| noteRefused_m ||| acceptTimed_m ||| commitApply_m
theorem commitBody_may (h : May M I) (hm : Sub commitBody_m M) {b0} {b1} {b2} {b3} (hb3 : I b3) : I (commitBody b0 b1 b2 b3) := by
  unfold commitBody
  extract_lets -merge -useContext x0
  refine may_ite ?_ ?_
  · refine refuse_may h (Sub.rfl.inl.inl.inl.trans hm) hb3
  · split
    · refine refuse_may h (Sub.rfl.inl.inl.inl.trans hm) ?_
      · refine noteRefused_may h (Sub.rfl.inr.inl.inl.trans hm) hb3
    · refine acceptTimed_may h (Sub.rfl.inr.inl.trans hm) (fun a1 a2 a3 ha3 => ?_) hb3
      · refine commitApply_may h (Sub.rfl.inr.trans hm) ha3

def execHeadFrameBoundary_m : Nat := onService_m ||| headBoundary_m ||| setPst_m
theorem execHeadFrameBoundary_may (h : May M I) (hm : Sub execHeadFrameBoundary_m M) (hr : Run M I) {b0} {b1} {b2} {b3} (hb3 : I b3) : Ans I (execHeadFrameBoundary b0 b1 b2 b3) := by
  refine ⟨_, rfl, ?_⟩
  refine onService_may h (Sub.rfl.inl.inl.trans hm) hr (fun I h a0 ha0 => ?_) hb3
  · refine headBoundary_may h (Sub.rfl.inr.inl.trans hm) ?_
    · refine setPst_may h (Sub.rfl.inr.trans hm) ha0

def execCmpShadow_m : Nat := ringCmd_m ||| shadowBody_m
theorem execCmpShadow_may (h : May M I) (hm : Sub execCmpShadow_m M) (hr : Run M I) {b0} {b1} {b2} {b3} {b4} (hb4 : I b4) : Ans I (execCmpShadow b0 b1 b2 b3 b4) := by
  refine ⟨_, rfl, ?_⟩
  refine ringCmd_may h (Sub.rfl.inl.trans hm) hr (fun I h a0 a1 ha1 => ?_) hb4
  · refine shadowBody_may h (Sub.rfl.inr.trans hm) ha1

def execCmpCommit_m : Nat := ringCmd_m ||| commitBody_m
theorem execCmpCommit_may (h : May M I) (hm : Sub execCmpCommit_m M) (hr : Run M I) {b0} {b1} {b2} {b3} (hb3 : I b3) : Ans I (execCmpCommit b0 b1 b2 b3) := by
  refine ⟨_, rfl, ?_⟩
  refine ringCmd_may h (Sub.rfl.inl.trans hm) hr (fun I h a0 a1 ha1 => ?_) hb3
  · refine commitBody_may h (Sub.rfl.inr.trans hm) ha1

def execCmpClrCnt_m : Nat := mask cmpCounters ||| whenHost_m ||| clearFlds_m
theorem execCmpClrCnt_may (h : May M I) (hm : Sub execCmpClrCnt_m M) {b0} (hb0 : I b0) : Ans I (execCmpClrCnt b0) := by
  refine ⟨_, rfl, ?_⟩
  refine whenHost_may h (Sub.rfl.inr.inl.trans hm) (fun a0 ha0 => ?_) hb0
  · refine clearFlds_may h (Sub.rfl.inr.trans hm) ((Sub.rfl.inl.inl.trans hm).okAll (by decide +kernel)) ha0

def moveMembers_m : Nat := setEth_m ||| setAud_m ||| setReedS_m ||| setCmp_m ||| setXpt_m ||| modCmd_m
theorem moveMembers_may (h : May M I) (hm : Sub moveMembers_m M) {b0} {b1} {b2} (hb2 : I b2) : I (moveMembers b0 b1 b2) := by
  unfold moveMembers
  refine setEth_may h (Sub.rfl.inl.inl.inl.inl.inl.trans hm) ?_
  · refine setAud_may h (Sub.rfl.inr.inl.inl.inl.inl.trans hm) ?_
    · refine setReedS_may h (Sub.rfl.inr.inl.inl.inl.trans hm) ?_
      · refine setCmp_may h (Sub.rfl.inr.inl.inl.trans hm) ?_
        · refine setXpt_may h (Sub.rfl.inr.inl.trans hm) ?_
          · refine modCmd_may h (Sub.rfl.inr.trans hm) hb2

def dropMembers_m : Nat := mask [XPT_OUT_STATE.PEND] ||| forEach_m ||| setB_m ||| setShf_m ||| setEth_m ||| setAud_m ||| setReedS_m ||| setCmp_m ||| setXpt_m
theorem dropMembers_may (h : May M I) (hm : Sub dropMembers_m M) {b0} {b1} (hb1 : I b1) : I (dropMembers b0 b1) := by
  have ho := (Sub.rfl.inl.inl.inl.inl.inl.inl.inl.inl.trans hm)
  unfold dropMembers
  extract_lets -merge -useContext x0
  refine forEach_may h (Sub.rfl.inr.inl.inl.inl.inl.inl.inl.inl.trans hm) (fun a1 a2 ha2 => ?_) ?_
  · refine setB_may h (Sub.rfl.inr.inl.inl.inl.inl.inl.inl.trans hm) (ho.ok (by decide +kernel)) ha2
  · refine setShf_may h (Sub.rfl.inr.inl.inl.inl.inl.inl.trans hm) ?_
    · refine setEth_may h (Sub.rfl.inr.inl.inl.inl.inl.trans hm) ?_
      · refine setAud_may h (Sub.rfl.inr.inl.inl.inl.trans hm) ?_
        · refine setReedS_may h (Sub.rfl.inr.inl.inl.trans hm) ?_
          · refine setCmp_may h (Sub.rfl.inr.inl.trans hm) ?_
            · refine setXpt_may h (Sub.rfl.inr.trans hm) hb1

def tellPoints_m : Nat := sendTwin_m
theorem tellPoints_may (h : May M I) (hm : Sub tellPoints_m M) {b0} {b1} {b2} (hb2 : I b2) : I (tellPoints b0 b1 b2) := by
  unfold tellPoints
  refine may_ite ?_ ?_
  · refine sendTwin_may h (Sub.rfl.trans hm) hb2
  · exact hb2

def relate_m : Nat := failCmd_m ||| tellPoints_m ||| dropMembers_m ||| modCmd_m ||| moveMembers_m
theorem relate_may (h : May M I) (hm : Sub relate_m M) {b0} {b1} (hb1 : I b1) : I (relate b0 b1) := by
  unfold relate
  extract_lets -merge -useContext x0
  split
  · exact hb1
  · refine may_ite ?_ ?_
    · exact hb1
    · refine may_ite ?_ ?_
      · refine failCmd_may h (Sub.rfl.inl.inl.inl.inl.trans hm) ?_
        · refine tellPoints_may h (Sub.rfl.inr.inl.inl.inl.trans hm) ?_
          · refine dropMembers_may h (Sub.rfl.inr.inl.inl.trans hm) hb1
      · refine tellPoints_may h (Sub.rfl.inr.inl.inl.inl.trans hm) ?_
        · refine modCmd_may h (Sub.rfl.inr.inl.trans hm) ?_
          · refine moveMembers_may h (Sub.rfl.inr.trans hm) hb1

def reevaluate_m : Nat := forEach_m ||| relate_m
theorem reevaluate_may (h : May M I) (hm : Sub reevaluate_m M) {b0} {b1} (hb1 : I b1) : I (reevaluate b0 b1) := by
  unfold reevaluate
  extract_lets -merge -useContext x0 x1
  refine forEach_may h (Sub.rfl.inl.trans hm) (fun a2 a3 ha3 => ?_) hb1
  · refine relate_may h (Sub.rfl.inr.trans hm) ha3

def bundleApply_m : Nat := setShf_m
theorem bundleApply_may (h : May M I) (hm : Sub bundleApply_m M) {b0} {b1} {b2} (hb2 : I b2) : I (bundleApply b0 b1 b2) := by
  unfold bundleApply
  refine setShf_may h (Sub.rfl.trans hm) hb2

def bundleBody_m : Nat := refuse_m ||| acceptNow_m ||| bundleApply_m
theorem bundleBody_may (h : May M I) (hm : Sub bundleBody_m M) {b0} {b1} {b2} {b3} {b4} (hb4 : I b4) : I (bundleBody b0 b1 b2 b3 b4) := by
  unfold bundleBody
  refine may_ite ?_ ?_
  · refine refuse_may h (Sub.rfl.inl.inl.trans hm) hb4
  · split
    · refine refuse_may h (Sub.rfl.inl.inl.trans hm) hb4
    · refine may_ite ?_ ?_
      · refine refuse_may h (Sub.rfl.inl.inl.trans hm) hb4
      · refine acceptNow_may h (Sub.rfl.inr.inl.trans hm) (fun a0 a1 ha1 => ?_) hb4
        · refine bundleApply_may h (Sub.rfl.inr.trans hm) ha1

def takeBundle_m : Nat := mask [SHF_BUNDLE.BCOUNTER_LO, SHF_BUNDLE.N_MSG_M1, SHF_BUNDLE.VALID] ||| forEach_m ||| setShf_m ||| setF_m ||| storeBundle_m
theorem takeBundle_may (h : May M I) (hm : Sub takeBundle_m M) {b0} {b1} (hb1 : I b1) : I (takeBundle b0 b1) := by
  have ho := (Sub.rfl.inl.inl.inl.inl.trans hm)
  unfold takeBundle
  extract_lets -merge -useContext x0
  have hx0 : I x0 := by
    unfold x0
    exact hb1
  clear_value x0
  refine forEach_may h (Sub.rfl.inr.inl.inl.inl.trans hm) (fun a1 a2 ha2 => ?_) ?_
  · refine may_ite ?_ ?_
    · exact ha2
    · refine setShf_may h (Sub.rfl.inr.inl.inl.trans hm) ha2
  · refine setF_may h (Sub.rfl.inr.inl.trans hm) (ho.ok (by decide +kernel)) ?_
    · refine setF_may h (Sub.rfl.inr.inl.trans hm) (ho.ok (by decide +kernel)) ?_
      · refine setF_may h (Sub.rfl.inr.inl.trans hm) (ho.ok (by decide +kernel)) ?_
        · refine setShf_may h (Sub.rfl.inr.inl.inl.trans hm) ?_
          · refine storeBundle_may h (Sub.rfl.inr.trans hm) hb1

def prinelRefuses_m : Nat := sendTwin_m ||| setCmd_m ||| failCmd_m
theorem prinelRefuses_may (h : May M I) (hm : Sub prinelRefuses_m M) {b0} {b1} {b2} (hb2 : I b2) : I (prinelRefuses b0 b1 b2) := by
  unfold prinelRefuses
  split
  · exact hb2
  · refine may_ite ?_ ?_
    · refine sendTwin_may h (Sub.rfl.inl.inl.trans hm) ?_
      · refine setCmd_may h (Sub.rfl.inr.inl.trans hm) hb2
    · refine failCmd_may h (Sub.rfl.inr.trans hm) hb2

def bundleDone_m : Nat := mask [SHF_AUTH_FAIL_CNT.COUNT, SHF_CNT_FLAGS.AUTH_FAIL_OVF] ||| setShf_m ||| setPst_m ||| bump32_m ||| prinelRefuses_m ||| audit_m ||| memberEnd_m ||| judgeContact_m ||| post_m ||| takeBundle_m
theorem bundleDone_may (h : May M I) (hm : Sub bundleDone_m M) {b0} {b1} {b2} (hb2 : I b2) : I (bundleDone b0 b1 b2) := by
  have ho := (Sub.rfl.inl.inl.inl.inl.inl.inl.inl.inl.inl.trans hm)
  unfold bundleDone
  extract_lets -merge -useContext x0
  have hx0 : I x0 := by
    unfold x0
    refine setShf_may h (Sub.rfl.inr.inl.inl.inl.inl.inl.inl.inl.inl.trans hm) ?_
    · refine setPst_may h (Sub.rfl.inr.inl.inl.inl.inl.inl.inl.inl.trans hm) hb2
  clear_value x0
  split
  · exact hb2
  · split
    · extract_lets -merge -useContext x1
      have hx1 : I x1 := by
        unfold x1
        refine may_ite ?_ ?_
        · refine bump32_may h (Sub.rfl.inr.inl.inl.inl.inl.inl.inl.trans hm) (ho.ok (by decide +kernel)) (ho.ok (by decide +kernel)) hx0
        · exact hx0
      clear_value x1
      refine prinelRefuses_may h (Sub.rfl.inr.inl.inl.inl.inl.inl.trans hm) ?_
      · refine audit_may h (Sub.rfl.inr.inl.inl.inl.inl.trans hm) hx1
    · refine memberEnd_may h (Sub.rfl.inr.inl.inl.inl.trans hm) ?_
      · refine judgeContact_may h (Sub.rfl.inr.inl.inl.trans hm) ?_
        · refine judgeContact_may h (Sub.rfl.inr.inl.inl.trans hm) ?_
          · refine post_may h (Sub.rfl.inr.inl.trans hm) ?_
            · refine audit_may h (Sub.rfl.inr.inl.inl.inl.inl.trans hm) ?_
              · refine takeBundle_may h (Sub.rfl.inr.trans hm) hx0

def reqApply_m : Nat := setShf_m
theorem reqApply_may (h : May M I) (hm : Sub reqApply_m M) {b0} {b1} {b2} (hb2 : I b2) : I (reqApply b0 b1 b2) := by
  unfold reqApply
  refine setShf_may h (Sub.rfl.trans hm) hb2

def reqBody_m : Nat := refuse_m ||| acceptNow_m ||| reqApply_m
theorem reqBody_may (h : May M I) (hm : Sub reqBody_m M) {b0} {b1} {b2} {b3} {b4} (hb4 : I b4) : I (reqBody b0 b1 b2 b3 b4) := by
  unfold reqBody
  split
  · refine refuse_may h (Sub.rfl.inl.inl.trans hm) hb4
  · refine may_ite ?_ ?_
    · refine refuse_may h (Sub.rfl.inl.inl.trans hm) hb4
    · refine acceptNow_may h (Sub.rfl.inr.inl.trans hm) (fun a0 a1 ha1 => ?_) hb4
      · refine reqApply_may h (Sub.rfl.inr.trans hm) ha1

def reqAct_m : Nat := addCause_m ||| lowerMsg_m ||| forEach_m
theorem reqAct_may (h : May M I) (hm : Sub reqAct_m M) {b0} {b1} (hb1 : I b1) : I (reqAct b0 b1) := by
  unfold reqAct
  split
  · refine addCause_may h (Sub.rfl.inl.inl.trans hm) hb1
  · refine lowerMsg_may h (Sub.rfl.inr.inl.trans hm) hb1
  · refine forEach_may h (Sub.rfl.inr.trans hm) (fun a0 a1 ha1 => ?_) hb1
    · refine lowerMsg_may h (Sub.rfl.inr.inl.trans hm) ha1

def reqDone_m : Nat := mask [SHF_AUTH_FAIL_CNT.COUNT, SHF_CNT_FLAGS.AUTH_FAIL_OVF, SHF_SEQ.SEQ] ||| setShf_m ||| setPst_m ||| bump32_m ||| prinelRefuses_m ||| audit_m ||| memberEnd_m ||| reqAct_m ||| storeRow_m ||| setF_m
theorem reqDone_may (h : May M I) (hm : Sub reqDone_m M) {b0} {b1} {b2} (hb2 : I b2) : I (reqDone b0 b1 b2) := by
  have ho := (Sub.rfl.inl.inl.inl.inl.inl.inl.inl.inl.inl.trans hm)
  unfold reqDone
  extract_lets -merge -useContext x0
  have hx0 : I x0 := by
    unfold x0
    refine setShf_may h (Sub.rfl.inr.inl.inl.inl.inl.inl.inl.inl.inl.trans hm) ?_
    · refine setPst_may h (Sub.rfl.inr.inl.inl.inl.inl.inl.inl.inl.trans hm) hb2
  clear_value x0
  split
  · exact hb2
  · split
    · extract_lets -merge -useContext x1
      have hx1 : I x1 := by
        unfold x1
        refine may_ite ?_ ?_
        · refine bump32_may h (Sub.rfl.inr.inl.inl.inl.inl.inl.inl.trans hm) (ho.ok (by decide +kernel)) (ho.ok (by decide +kernel)) hx0
        · exact hx0
      clear_value x1
      refine prinelRefuses_may h (Sub.rfl.inr.inl.inl.inl.inl.inl.trans hm) ?_
      · refine audit_may h (Sub.rfl.inr.inl.inl.inl.inl.trans hm) hx1
    · refine memberEnd_may h (Sub.rfl.inr.inl.inl.inl.trans hm) ?_
      · refine reqAct_may h (Sub.rfl.inr.inl.inl.trans hm) ?_
        · refine audit_may h (Sub.rfl.inr.inl.inl.inl.inl.trans hm) ?_
          · refine storeRow_may h (Sub.rfl.inr.inl.trans hm) (fun a2 ha2 => ?_) hx0
            · refine setF_may h (Sub.rfl.inr.trans hm) (ho.ok (by decide +kernel)) ha2

def classify_m : Nat := setShf_m
theorem classify_may (h : May M I) (hm : Sub classify_m M) {b0} {b1} {b2} (hb2 : I b2) : I (classify b0 b1 b2) := by
  unfold classify
  extract_lets -merge -useContext x0
  have hx0 : I x0 := by
    unfold x0
    refine setShf_may h (Sub.rfl.trans hm) hb2
  clear_value x0
  refine may_ite ?_ ?_
  · exact hx0
  · refine setShf_may h (Sub.rfl.trans hm) hx0

def loopSample_m : Nat := setShf_m ||| classify_m
theorem loopSample_may (h : May M I) (hm : Sub loopSample_m M) {b0} {b1} {b2} (hb2 : I b2) : I (loopSample b0 b1 b2) := by
  unfold loopSample
  extract_lets -merge -useContext x0
  have hx0 : I x0 := by
    unfold x0
    refine may_ite ?_ ?_
    · refine setShf_may h (Sub.rfl.inl.trans hm) hb2
    · exact hb2
  clear_value x0
  refine may_ite ?_ ?_
  · exact hb2
  · split
    · refine classify_may h (Sub.rfl.inr.trans hm) ?_
      · refine setShf_may h (Sub.rfl.inl.trans hm) hb2
    · split
      · refine classify_may h (Sub.rfl.inr.trans hm) hx0
      · exact hx0

def gapTimeout_m : Nat := classify_m
theorem gapTimeout_may (h : May M I) (hm : Sub gapTimeout_m M) {b0} {b1} (hb1 : I b1) : I (gapTimeout b0 b1) := by
  unfold gapTimeout
  split
  · refine may_ite ?_ ?_
    · refine classify_may h (Sub.rfl.trans hm) hb1
    · exact hb1
  · exact hb1

def debounced_m : Nat := setContact_m ||| setShf_m ||| setPst_m
theorem debounced_may (h : May M I) (hm : Sub debounced_m M) {b0} {b1} {b2} (hb2 : I b2) : I (debounced b0 b1 b2) := by
  unfold debounced
  split
  · refine may_ite ?_ ?_
    · refine setContact_may h (Sub.rfl.inl.inl.trans hm) ?_
      · refine setShf_may h (Sub.rfl.inr.inl.trans hm) ?_
        · refine setPst_may h (Sub.rfl.inr.trans hm) hb2
    · exact hb2
  · exact hb2

def restoreEnd_m : Nat := stopRestore_m ||| setPst_m ||| dropCause_m
theorem restoreEnd_may (h : May M I) (hm : Sub restoreEnd_m M) {b0} {b1} {b2} (hb2 : I b2) : I (restoreEnd b0 b1 b2) := by
  unfold restoreEnd
  extract_lets -merge -useContext x0
  have hx0 : I x0 := by
    unfold x0
    refine stopRestore_may h (Sub.rfl.inl.inl.trans hm) ?_
    · refine setPst_may h (Sub.rfl.inr.inl.trans hm) hb2
  clear_value x0
  split
  · refine may_ite ?_ ?_
    · exact hb2
    · refine may_ite ?_ ?_
      · refine dropCause_may h (Sub.rfl.inr.trans hm) hx0
      · split
        · refine dropCause_may h (Sub.rfl.inr.trans hm) hx0
        · exact hx0
  · exact hb2

def execBundleLoad_m : Nat := ringCmd_m ||| bundleBody_m
theorem execBundleLoad_may (h : May M I) (hm : Sub execBundleLoad_m M) (hr : Run M I) {b0} {b1} {b2} {b3} {b4} (hb4 : I b4) : Ans I (execBundleLoad b0 b1 b2 b3 b4) := by
  refine ⟨_, rfl, ?_⟩
  refine ringCmd_may h (Sub.rfl.inl.trans hm) hr (fun I h a0 a1 ha1 => ?_) hb4
  · refine bundleBody_may h (Sub.rfl.inr.trans hm) ha1

def execBundleInForce_m : Nat := onService_m ||| bundleDone_m
theorem execBundleInForce_may (h : May M I) (hm : Sub execBundleInForce_m M) (hr : Run M I) {b0} {b1} {b2} {b3} (hb3 : I b3) : Ans I (execBundleInForce b0 b1 b2 b3) := by
  refine ⟨_, rfl, ?_⟩
  refine onService_may h (Sub.rfl.inl.trans hm) hr (fun I h a0 ha0 => ?_) hb3
  · refine bundleDone_may h (Sub.rfl.inr.trans hm) ha0

def execShofarReq_m : Nat := ringCmd_m ||| reqBody_m
theorem execShofarReq_may (h : May M I) (hm : Sub execShofarReq_m M) (hr : Run M I) {b0} {b1} {b2} {b3} {b4} (hb4 : I b4) : Ans I (execShofarReq b0 b1 b2 b3 b4) := by
  refine ⟨_, rfl, ?_⟩
  refine ringCmd_may h (Sub.rfl.inl.trans hm) hr (fun I h a0 a1 ha1 => ?_) hb4
  · refine reqBody_may h (Sub.rfl.inr.trans hm) ha1

def execShofarReqChecked_m : Nat := onService_m ||| reqDone_m
theorem execShofarReqChecked_may (h : May M I) (hm : Sub execShofarReqChecked_m M) (hr : Run M I) {b0} {b1} {b2} {b3} (hb3 : I b3) : Ans I (execShofarReqChecked b0 b1 b2 b3) := by
  refine ⟨_, rfl, ?_⟩
  refine onService_may h (Sub.rfl.inl.trans hm) hr (fun I h a0 ha0 => ?_) hb3
  · refine reqDone_may h (Sub.rfl.inr.trans hm) ha0

def execAlarmLoopSample_m : Nat := whenPowered_m ||| loopSample_m ||| advance_m
theorem execAlarmLoopSample_may (h : May M I) (hm : Sub execAlarmLoopSample_m M) {b0} {b1} {b2} {b3} (hb3 : I b3) : Ans I (execAlarmLoopSample b0 b1 b2 b3) := by
  refine ⟨_, rfl, ?_⟩
  refine whenPowered_may h (Sub.rfl.inl.inl.trans hm) (fun a0 ha0 => ?_) hb3
  · refine loopSample_may h (Sub.rfl.inr.inl.trans hm) ?_
    · refine advance_may h (Sub.rfl.inr.trans hm) ha0

def execAlarmLoopGapTimeout_m : Nat := whenPowered_m ||| gapTimeout_m ||| advance_m
theorem execAlarmLoopGapTimeout_may (h : May M I) (hm : Sub execAlarmLoopGapTimeout_m M) {b0} {b1} {b2} (hb2 : I b2) : Ans I (execAlarmLoopGapTimeout b0 b1 b2) := by
  refine ⟨_, rfl, ?_⟩
  refine whenPowered_may h (Sub.rfl.inl.inl.trans hm) (fun a0 ha0 => ?_) hb2
  · refine gapTimeout_may h (Sub.rfl.inr.inl.trans hm) ?_
    · refine advance_may h (Sub.rfl.inr.trans hm) ha0

def execContactDebounceDone_m : Nat := whenPowered_m ||| debounced_m ||| advance_m
theorem execContactDebounceDone_may (h : May M I) (hm : Sub execContactDebounceDone_m M) {b0} {b1} {b2} {b3} (hb3 : I b3) : Ans I (execContactDebounceDone b0 b1 b2 b3) := by
  refine ⟨_, rfl, ?_⟩
  refine whenPowered_may h (Sub.rfl.inl.inl.trans hm) (fun a0 ha0 => ?_) hb3
  · refine debounced_may h (Sub.rfl.inr.inl.trans hm) ?_
    · refine advance_may h (Sub.rfl.inr.trans hm) ha0

def execContactRestoreExpire_m : Nat := onService_m ||| restoreEnd_m
theorem execContactRestoreExpire_may (h : May M I) (hm : Sub execContactRestoreExpire_m M) (hr : Run M I) {b0} {b1} {b2} {b3} (hb3 : I b3) : Ans I (execContactRestoreExpire b0 b1 b2 b3) := by
  refine ⟨_, rfl, ?_⟩
  refine onService_may h (Sub.rfl.inl.trans hm) hr (fun I h a0 ha0 => ?_) hb3
  · refine restoreEnd_may h (Sub.rfl.inr.trans hm) ha0

def restoreTake_m : Nat := mask [XPT_OUT_EVT.RESTORE_INVALID] ||| raise_m ||| addTake_m
theorem restoreTake_may (h : May M I) (hm : Sub restoreTake_m M) {b0} {b1} {b2} {b3} (hb3 : I b3) : I (restoreTake b0 b1 b2 b3) := by
  have ho := (Sub.rfl.inl.inl.trans hm)
  unfold restoreTake
  extract_lets -merge -useContext x0 x1
  have hx1 : I x1 := by
    unfold x1
    refine raise_may h (Sub.rfl.inr.inl.trans hm) (ho.okAll (by decide +kernel)) hb3
  clear_value x1
  refine may_ite ?_ ?_
  · exact hb3
  · refine may_ite ?_ ?_
    · refine addTake_may h (Sub.rfl.inr.trans hm) hb3
    · refine may_ite ?_ ?_
      · exact hx1
      · refine addTake_may h (Sub.rfl.inr.trans hm) hx1

def serveResync_m : Nat := sendAcked_m ||| setTwin_m
theorem serveResync_may (h : May M I) (hm : Sub serveResync_m M) {b0} (hb0 : I b0) : I (serveResync b0) := by
  unfold serveResync
  extract_lets -merge -useContext x0
  split
  · exact hb0
  · refine may_ite ?_ ?_
    · refine sendAcked_may h (Sub.rfl.inl.trans hm) ?_
      · refine setTwin_may h (Sub.rfl.inr.trans hm) hb0
    · exact hb0

def takeRoutes_m : Nat := forEach_m ||| restoreTake_m
theorem takeRoutes_may (h : May M I) (hm : Sub takeRoutes_m M) {b0} {b1} (hb1 : I b1) : I (takeRoutes b0 b1) := by
  unfold takeRoutes
  extract_lets -merge -useContext x0 x1
  refine forEach_may h (Sub.rfl.inl.trans hm) (fun a2 a3 ha3 => ?_) hb1
  · refine may_ite ?_ ?_
    · exact ha3
    · refine restoreTake_may h (Sub.rfl.inr.trans hm) ha3

def setAllF_m : Nat := forEach_m ||| setF_m ||| clearFld_m
theorem setAllF_may (h : May M I) (hm : Sub setAllF_m M) {b0 : Fld} (hb0 : Ok M b0) {b1} {b2} (hb2 : I b2) : I (setAllF b0 b1 b2) := by
  unfold setAllF
  refine forEach_may h (Sub.rfl.inl.inl.trans hm) (fun a0 a1 ha1 => ?_) ?_
  · refine setF_may h (Sub.rfl.inr.inl.trans hm) hb0 ha1
  · refine clearFld_may h (Sub.rfl.inr.trans hm) hb0 hb2

def takeAudio_m : Nat := mask [AUD_OUT_MUTE.GROUPS, AUD_OUT_RINGS.GROUPS, AUD_IN_MASK.GROUPS, REE_COEF.COEF] ||| setTwin_m ||| setAud_m ||| setAllF_m ||| forEach_m ||| applyLength_m ||| setF_m ||| setReed_m ||| setCoef_m
theorem takeAudio_may (h : May M I) (hm : Sub takeAudio_m M) {b0} (hb0 : I b0) : I (takeAudio b0) := by
  have ho := (Sub.rfl.inl.inl.inl.inl.inl.inl.inl.inl.trans hm)
  unfold takeAudio
  extract_lets -merge -useContext x0
  have hx0 : I x0 := by
    unfold x0
    refine setTwin_may h (Sub.rfl.inr.inl.inl.inl.inl.inl.inl.inl.trans hm) hb0
  clear_value x0
  split
  · exact hb0
  · extract_lets -merge -useContext x1 x2
    have hx1 : I x1 := by
      unfold x1
      refine setAud_may h (Sub.rfl.inr.inl.inl.inl.inl.inl.inl.trans hm) ?_
      · refine setAllF_may h (Sub.rfl.inr.inl.inl.inl.inl.inl.trans hm) (ho.ok (by decide +kernel)) ?_
        · refine setAllF_may h (Sub.rfl.inr.inl.inl.inl.inl.inl.trans hm) (ho.ok (by decide +kernel)) ?_
          · refine setAllF_may h (Sub.rfl.inr.inl.inl.inl.inl.inl.trans hm) (ho.ok (by decide +kernel)) hx0
    clear_value x1
    have hx2 : I x2 := by
      unfold x2
      refine forEach_may h (Sub.rfl.inr.inl.inl.inl.inl.trans hm) (fun a3 a4 ha4 => ?_) hx1
      · refine may_ite ?_ ?_
        · exact ha4
        · refine applyLength_may h (Sub.rfl.inr.inl.inl.inl.trans hm) ha4
    clear_value x2
    refine forEach_may h (Sub.rfl.inr.inl.inl.inl.inl.trans hm) (fun a5 a6 ha6 => ?_) hx2
    · extract_lets -merge -useContext x7
      have hx7 : I x7 := by
        unfold x7
        refine forEach_may h (Sub.rfl.inr.inl.inl.inl.inl.trans hm) (fun a8 a9 ha9 => ?_) ha6
        · refine setF_may h (Sub.rfl.inr.inl.inl.trans hm) (ho.ok (by decide +kernel)) ha9
      clear_value x7
      refine setReed_may h (Sub.rfl.inr.inl.trans hm) ?_
      · refine forEach_may h (Sub.rfl.inr.inl.inl.inl.inl.trans hm) (fun a10 a11 ha11 => ?_) hx7
        · refine setCoef_may h (Sub.rfl.inr.trans hm) ha11

def takeCmp_m : Nat := mask [CMP_HEAD_SHD2.WORD, CMP_HEAD_SHD1.WORD] ||| setCmp_m ||| forEach_m ||| setF_m ||| putLayer_m
theorem takeCmp_may (h : May M I) (hm : Sub takeCmp_m M) {b0} {b1} (hb1 : I b1) : I (takeCmp b0 b1) := by
  have ho := (Sub.rfl.inl.inl.inl.inl.trans hm)
  unfold takeCmp
  refine may_ite ?_ ?_
  · exact hb1
  · refine setCmp_may h (Sub.rfl.inr.inl.inl.inl.trans hm) ?_
    · refine forEach_may h (Sub.rfl.inr.inl.inl.trans hm) (fun a0 a1 ha1 => ?_) ?_
      · refine setF_may h (Sub.rfl.inr.inl.trans hm) (ho.ok (by decide +kernel)) ?_
        · refine setF_may h (Sub.rfl.inr.inl.trans hm) (ho.ok (by decide +kernel)) ha1
      · refine forEach_may h (Sub.rfl.inr.inl.inl.trans hm) (fun a2 a3 ha3 => ?_) hb1
        · refine putLayer_may h (Sub.rfl.inr.trans hm) ha3

def takeRecs_m : Nat := setEth_m
theorem takeRecs_may (h : May M I) (hm : Sub takeRecs_m M) {b0} {b1} (hb1 : I b1) : I (takeRecs b0 b1) := by
  unfold takeRecs
  extract_lets -merge -useContext x0 x1 x2
  refine setEth_may h (Sub.rfl.trans hm) hb1

def takeFreezes_m : Nat := mask [KNL_ALLOC_STATUS.SELECT] ||| forEach_m ||| setF_m ||| addPendKnl_m
theorem takeFreezes_may (h : May M I) (hm : Sub takeFreezes_m M) {b0} {b1} (hb1 : I b1) : I (takeFreezes b0 b1) := by
  have ho := (Sub.rfl.inl.inl.inl.trans hm)
  unfold takeFreezes
  extract_lets -merge -useContext x0 x1
  refine forEach_may h (Sub.rfl.inr.inl.inl.trans hm) (fun a2 a3 ha3 => ?_) ?_
  · refine may_ite ?_ ?_
    · exact ha3
    · refine may_ite ?_ ?_
      · refine setF_may h (Sub.rfl.inr.inl.trans hm) (ho.ok (by decide +kernel)) ha3
      · refine addPendKnl_may h (Sub.rfl.inr.trans hm) ha3
  · refine forEach_may h (Sub.rfl.inr.inl.inl.trans hm) (fun a4 a5 ha5 => ?_) ?_
    · refine addPendKnl_may h (Sub.rfl.inr.trans hm) ha5
    · refine forEach_may h (Sub.rfl.inr.inl.inl.trans hm) (fun a6 a7 ha7 => ?_) hb1
      · refine addPendKnl_may h (Sub.rfl.inr.trans hm) ha7

def takeStills_m : Nat := mask [KNL_ALLOC_STATUS.FORMAT, KNL_ALLOC_STATUS.VALID] ||| forEach_m ||| setF_m ||| setAlloc_m
theorem takeStills_may (h : May M I) (hm : Sub takeStills_m M) {b0} {b1} (hb1 : I b1) : I (takeStills b0 b1) := by
  have ho := (Sub.rfl.inl.inl.inl.trans hm)
  unfold takeStills
  refine forEach_may h (Sub.rfl.inr.inl.inl.trans hm) (fun a0 a1 ha1 => ?_) hb1
  · refine setF_may h (Sub.rfl.inr.inl.trans hm) (ho.ok (by decide +kernel)) ?_
    · refine setF_may h (Sub.rfl.inr.inl.trans hm) (ho.ok (by decide +kernel)) ?_
      · refine setAlloc_may h (Sub.rfl.inr.trans hm) ha1

def takeShofar_m : Nat := mask [SHF_SEQ.SEQ] ||| takeBundle_m ||| audit_m ||| setTwin_m ||| judgeContact_m ||| showRaised_m ||| storeRow_m ||| setF_m ||| setShf_m
theorem takeShofar_may (h : May M I) (hm : Sub takeShofar_m M) {b0} {b1} (hb1 : I b1) : I (takeShofar b0 b1) := by
  have ho := (Sub.rfl.inl.inl.inl.inl.inl.inl.inl.inl.trans hm)
  unfold takeShofar
  extract_lets -merge -useContext x0 x1
  have hx1 : I x1 := by
    unfold x1
    refine may_ite ?_ ?_
    · exact hb1
    · refine takeBundle_may h (Sub.rfl.inr.inl.inl.inl.inl.inl.inl.inl.trans hm) hb1
  clear_value x1
  refine may_ite ?_ ?_
  · refine audit_may h (Sub.rfl.inr.inl.inl.inl.inl.inl.inl.trans hm) ?_
    · refine setTwin_may h (Sub.rfl.inr.inl.inl.inl.inl.inl.trans hm) hb1
  · refine judgeContact_may h (Sub.rfl.inr.inl.inl.inl.inl.trans hm) ?_
    · refine judgeContact_may h (Sub.rfl.inr.inl.inl.inl.inl.trans hm) ?_
      · refine showRaised_may h (Sub.rfl.inr.inl.inl.inl.trans hm) ?_
        · refine storeRow_may h (Sub.rfl.inr.inl.inl.trans hm) (fun a2 ha2 => ?_) ?_
          · refine setF_may h (Sub.rfl.inr.inl.trans hm) (ho.ok (by decide +kernel)) ha2
          · refine setShf_may h (Sub.rfl.inr.trans hm) hx1

def takeState_m : Nat := takeShofar_m ||| takeStills_m ||| takeFreezes_m ||| takeRecs_m ||| forEach_m ||| takeCmp_m ||| setTwin_m ||| takeRoutes_m
theorem takeState_may (h : May M I) (hm : Sub takeState_m M) {b0} {b1} (hb1 : I b1) : I (takeState b0 b1) := by
  unfold takeState
  refine takeShofar_may h (Sub.rfl.inl.inl.inl.inl.inl.inl.inl.trans hm) ?_
  · refine takeStills_may h (Sub.rfl.inr.inl.inl.inl.inl.inl.inl.trans hm) ?_
    · refine takeFreezes_may h (Sub.rfl.inr.inl.inl.inl.inl.inl.trans hm) ?_
      · refine takeRecs_may h (Sub.rfl.inr.inl.inl.inl.inl.trans hm) ?_
        · refine forEach_may h (Sub.rfl.inr.inl.inl.inl.trans hm) (fun a0 a1 ha1 => ?_) ?_
          · refine takeCmp_may h (Sub.rfl.inr.inl.inl.trans hm) ha1
          · refine setTwin_may h (Sub.rfl.inr.inl.trans hm) ?_
            · refine takeRoutes_may h (Sub.rfl.inr.trans hm) hb1

def stepBlocks_m : Nat := pmask [.lane] ||| drawn_m
theorem stepBlocks_may (h : May M I) (hm : Sub stepBlocks_m M) {b0} (hb0 : I b0) : I (stepBlocks b0) := by
  have hp := (Sub.rfl.inl.trans hm)
  unfold stepBlocks
  extract_lets -merge -useContext x0 x1
  have hx0 : I x0 := by
    unfold x0
    refine drawn_may h (Sub.rfl.inr.trans hm) hb0
  clear_value x0
  exact h.lane (hp.testBit (by decide +kernel)) (hx0)

def overrun_m : Nat := mask [REE_ENG_EVT.OVERRUN, REE_ENG_OVERRUN_CNT.COUNT, REE_ENG_EVT.OVERRUN_OVF] ||| rampWrites_m ||| raise_m ||| bump32_m
theorem overrun_may (h : May M I) (hm : Sub overrun_m M) {b0} {b1} (hb1 : I b1) : I (overrun b0 b1) := by
  have ho := (Sub.rfl.inl.inl.inl.trans hm)
  unfold overrun
  extract_lets -merge -useContext x0 x1
  have hx1 : I x1 := by
    unfold x1
    refine may_ite ?_ ?_
    · exact hb1
    · refine rampWrites_may h (Sub.rfl.inr.inl.inl.trans hm) hb1
  clear_value x1
  refine may_ite ?_ ?_
  · refine raise_may h (Sub.rfl.inr.inl.trans hm) (ho.okAll (by decide +kernel)) ?_
    · refine bump32_may h (Sub.rfl.inr.trans hm) (ho.ok (by decide +kernel)) (ho.ok (by decide +kernel)) hx1
  · exact hb1

def startEngine_m : Nat := mask [DBG_EVT.HALT, DBG_ENG_STATUS.PC, DBG_ENG_STATUS.CAUSE, DBG_ENG_STATUS.HALTED, REE_ENG_STATUS.STATE] ||| pmask [.dbg] ||| setReed_m ||| raiseAs_m ||| setF_m
theorem startEngine_may (h : May M I) (hm : Sub startEngine_m M) {b0} {b1} (hb1 : I b1) : I (startEngine b0 b1) := by
  have ho := (Sub.rfl.inl.inl.inl.inl.trans hm)
  have hp := (Sub.rfl.inr.inl.inl.inl.trans hm)
  unfold startEngine
  extract_lets -merge -useContext x0
  have hx0 : I x0 := by
    unfold x0
    refine setReed_may h (Sub.rfl.inr.inl.inl.trans hm) hb1
  clear_value x0
  refine may_ite ?_ ?_
  · refine setReed_may h (Sub.rfl.inr.inl.inl.trans hm) hb1
  · refine may_ite ?_ ?_
    · extract_lets -merge -useContext x1
      refine h.dbg (hp.testBit (by decide +kernel)) (?_)
      refine raiseAs_may h (Sub.rfl.inr.inl.trans hm) (ho.okAll (by decide +kernel)) ?_
      · refine setF_may h (Sub.rfl.inr.trans hm) (ho.ok (by decide +kernel)) ?_
        · refine setF_may h (Sub.rfl.inr.trans hm) (ho.ok (by decide +kernel)) ?_
          · refine setF_may h (Sub.rfl.inr.trans hm) (ho.ok (by decide +kernel)) ?_
            · refine setF_may h (Sub.rfl.inr.trans hm) (ho.ok (by decide +kernel)) hx0
    · exact hx0

def engineBlock_m : Nat := mask [AUD_RING_STATUS.NONPCM_FILL] ||| startEngine_m ||| setReed_m ||| forEach_m ||| raise_m
theorem engineBlock_may (h : May M I) (hm : Sub engineBlock_m M) {b0} {b1} (hb1 : I b1) : I (engineBlock b0 b1) := by
  have ho := (Sub.rfl.inl.inl.inl.inl.trans hm)
  unfold engineBlock
  refine may_ite ?_ ?_
  · exact hb1
  · split
    · refine startEngine_may h (Sub.rfl.inr.inl.inl.inl.trans hm) ?_
      · refine setReed_may h (Sub.rfl.inr.inl.inl.trans hm) ?_
        · refine forEach_may h (Sub.rfl.inr.inl.trans hm) (fun a0 a1 ha1 => ?_) hb1
          · refine raise_may h (Sub.rfl.inr.trans hm) (ho.okAll (by decide +kernel)) ha1

def audioBoundary_m : Nat := mask [AUD_BLOCK.COUNT] ||| setTwin_m ||| setAud_m ||| metersStep_m ||| txAudioTake_m ||| embedTake_m ||| forEach_m ||| engineBlock_m ||| commitReeWrites_m ||| overrun_m ||| commitRecs_m ||| commitMaps_m ||| takeAudio_m ||| dueLengths_m ||| commitRing_m ||| setF_m
theorem audioBoundary_may (h : May M I) (hm : Sub audioBoundary_m M) {b0} {b1} (hb1 : I b1) : I (audioBoundary b0 b1) := by
  have ho := (Sub.rfl.inl.inl.inl.inl.inl.inl.inl.inl.inl.inl.inl.inl.inl.inl.inl.trans hm)
  unfold audioBoundary
  extract_lets -merge -useContext x0
  refine setTwin_may h (Sub.rfl.inr.inl.inl.inl.inl.inl.inl.inl.inl.inl.inl.inl.inl.inl.inl.trans hm) ?_
  · refine setAud_may h (Sub.rfl.inr.inl.inl.inl.inl.inl.inl.inl.inl.inl.inl.inl.inl.inl.trans hm) ?_
    · refine metersStep_may h (Sub.rfl.inr.inl.inl.inl.inl.inl.inl.inl.inl.inl.inl.inl.inl.trans hm) ?_
      · refine txAudioTake_may h (Sub.rfl.inr.inl.inl.inl.inl.inl.inl.inl.inl.inl.inl.inl.trans hm) ?_
        · refine embedTake_may h (Sub.rfl.inr.inl.inl.inl.inl.inl.inl.inl.inl.inl.inl.trans hm) ?_
          · refine forEach_may h (Sub.rfl.inr.inl.inl.inl.inl.inl.inl.inl.inl.inl.trans hm) (fun a1 a2 ha2 => ?_) ?_
            · refine engineBlock_may h (Sub.rfl.inr.inl.inl.inl.inl.inl.inl.inl.inl.trans hm) ha2
            · refine commitReeWrites_may h (Sub.rfl.inr.inl.inl.inl.inl.inl.inl.inl.trans hm) ?_
              · refine forEach_may h (Sub.rfl.inr.inl.inl.inl.inl.inl.inl.inl.inl.inl.trans hm) (fun a3 a4 ha4 => ?_) ?_
                · refine overrun_may h (Sub.rfl.inr.inl.inl.inl.inl.inl.inl.trans hm) ha4
                · refine commitRecs_may h (Sub.rfl.inr.inl.inl.inl.inl.inl.trans hm) ?_
                  · refine commitMaps_may h (Sub.rfl.inr.inl.inl.inl.inl.trans hm) ?_
                    · refine takeAudio_may h (Sub.rfl.inr.inl.inl.inl.trans hm) ?_
                      · refine dueLengths_may h (Sub.rfl.inr.inl.inl.trans hm) ?_
                        · refine forEach_may h (Sub.rfl.inr.inl.inl.inl.inl.inl.inl.inl.inl.inl.trans hm) (fun a5 a6 ha6 => ?_) ?_
                          · refine commitRing_may h (Sub.rfl.inr.inl.trans hm) ha6
                          · refine setAud_may h (Sub.rfl.inr.inl.inl.inl.inl.inl.inl.inl.inl.inl.inl.inl.inl.inl.trans hm) ?_
                            · refine setF_may h (Sub.rfl.inr.trans hm) (ho.ok (by decide +kernel)) hb1

def audioStep_m : Nat := audioBoundary_m
theorem audioStep_may (h : May M I) (hm : Sub audioStep_m M) {b0} (hb0 : I b0) : I (audioStep b0) := by
  unfold audioStep
  refine may_ite ?_ ?_
  · refine audioBoundary_may h (Sub.rfl.trans hm) hb0
  · exact hb0

def execAudioBlockBoundary_m : Nat := onService_m ||| audioStep_m
theorem execAudioBlockBoundary_may (h : May M I) (hm : Sub execAudioBlockBoundary_m M) (hr : Run M I) {b0} {b1} (hb1 : I b1) : Ans I (execAudioBlockBoundary b0 b1) := by
  refine ⟨_, rfl, ?_⟩
  refine onService_may h (Sub.rfl.inl.trans hm) hr (fun I h a0 ha0 => ?_) hb1
  · refine audioStep_may h (Sub.rfl.inr.trans hm) ha0

end

end Sys2Proof.Machine
end

