-- ==== Sys2Proof/Laws/MayTime.lean ====
section
/-! SUPPORT. Permissions of the Pitch Pipe, the twin and the host interface: each is made of the plain updates that its mask `…_m` names. -/

namespace Sys2Proof.Machine

set_option Elab.async false
set_option linter.unusedVariables false

section
variable {M : Nat} {I : State → Prop}

def setRef_m : Nat := setTime_m
theorem setRef_may (h : May M I) (hm : Sub setRef_m M) {b0} {b1} {b2} (hb2 : I b2) : I (setRef b0 b1 b2) := by
  unfold setRef
  refine setTime_may h (Sub.rfl.trans hm) hb2

def noteForce_m : Nat := mask [PIP_EVT.FORCE_IGNORED] ||| raise_m
theorem noteForce_may (h : May M I) (hm : Sub noteForce_m M) {b0} (hb0 : I b0) : I (noteForce b0) := by
  have ho := (Sub.rfl.inl.trans hm)
  unfold noteForce
  refine may_ite ?_ ?_
  · refine raise_may h (Sub.rfl.inr.trans hm) (ho.okAll (by decide +kernel)) hb0
  · exact hb0

def disqualify_m : Nat := mask [PIP_REF_STATUS.WARN, PIP_REF_STATUS.WTR_LEFT, PIP_REF_STATUS.QUAL, PIP_REF_EVT.DISQUAL, PIP_REF_DISQ_CNT.COUNT, PIP_REF_EVT.DISQ_OVF] ||| setRef_m ||| setF_m ||| noteForce_m ||| reselect_m ||| raise_m ||| bump32_m
theorem disqualify_may (h : May M I) (hm : Sub disqualify_m M) {b0} {b1} {b2} (hb2 : I b2) : I (disqualify b0 b1 b2) := by
  have ho := (Sub.rfl.inl.inl.inl.inl.inl.inl.trans hm)
  unfold disqualify
  extract_lets -merge -useContext x0 x1
  have hx1 : I x1 := by
    unfold x1
    refine setRef_may h (Sub.rfl.inr.inl.inl.inl.inl.inl.trans hm) ?_
    · refine setF_may h (Sub.rfl.inr.inl.inl.inl.inl.trans hm) (ho.ok (by decide +kernel)) ?_
      · refine setF_may h (Sub.rfl.inr.inl.inl.inl.inl.trans hm) (ho.ok (by decide +kernel)) ?_
        · refine setF_may h (Sub.rfl.inr.inl.inl.inl.inl.trans hm) (ho.ok (by decide +kernel)) hb2
  clear_value x1
  refine may_ite ?_ ?_
  · refine noteForce_may h (Sub.rfl.inr.inl.inl.inl.trans hm) ?_
    · refine reselect_may h (Sub.rfl.inr.inl.inl.trans hm) ?_
      · refine raise_may h (Sub.rfl.inr.inl.trans hm) (ho.okAll (by decide +kernel)) ?_
        · refine bump32_may h (Sub.rfl.inr.trans hm) (ho.ok (by decide +kernel)) (ho.ok (by decide +kernel)) hx1
  · exact hx1

def refLoss_m : Nat := mask [PIP_REF_EVT.ABSENT, PIP_REF_FREQ.FREQ_PPB, PIP_REF_DRIFT.DRIFT_PPB_S, PIP_REF_STATUS.FREQ, PIP_REF_STATUS.DRIFT, PIP_REF_STATUS.NOISE, PIP_REF_STATUS.RATE] ||| raise_m ||| disqualify_m ||| resetFs_m
theorem refLoss_may (h : May M I) (hm : Sub refLoss_m M) {b0} {b1} (hb1 : I b1) : I (refLoss b0 b1) := by
  have ho := (Sub.rfl.inl.inl.inl.trans hm)
  unfold refLoss
  refine may_ite ?_ ?_
  · exact hb1
  · refine may_ite ?_ ?_
    · refine raise_may h (Sub.rfl.inr.inl.inl.trans hm) (ho.okAll (by decide +kernel)) ?_
      · refine disqualify_may h (Sub.rfl.inr.inl.trans hm) ?_
        · refine resetFs_may h (Sub.rfl.inr.trans hm) (ho.okAll (by decide +kernel)) hb1
    · refine disqualify_may h (Sub.rfl.inr.inl.trans hm) ?_
      · refine resetFs_may h (Sub.rfl.inr.trans hm) (ho.okAll (by decide +kernel)) hb1

def startWait_m : Nat := mask [PIP_REF_STATUS.WTR_LEFT, PIP_REF_STATUS.QUAL] ||| setRef_m ||| setF_m
theorem startWait_may (h : May M I) (hm : Sub startWait_m M) {b0} {b1} (hb1 : I b1) : I (startWait b0 b1) := by
  have ho := (Sub.rfl.inl.inl.trans hm)
  unfold startWait
  extract_lets -merge -useContext x0
  refine setRef_may h (Sub.rfl.inr.inl.trans hm) ?_
  · refine setF_may h (Sub.rfl.inr.trans hm) (ho.ok (by decide +kernel)) ?_
    · refine setF_may h (Sub.rfl.inr.trans hm) (ho.ok (by decide +kernel)) hb1

def showMeas_m : Nat := mask [PIP_REF_STATUS.RATE, PIP_REF_STATUS.NOISE, PIP_REF_STATUS.DRIFT, PIP_REF_STATUS.FREQ, PIP_REF_DRIFT.DRIFT_PPB_S, PIP_REF_FREQ.FREQ_PPB] ||| setF_m ||| setB_m
theorem showMeas_may (h : May M I) (hm : Sub showMeas_m M) {b0} {b1} {b2} (hb2 : I b2) : I (showMeas b0 b1 b2) := by
  have ho := (Sub.rfl.inl.inl.trans hm)
  unfold showMeas
  refine setF_may h (Sub.rfl.inr.inl.trans hm) (ho.ok (by decide +kernel)) ?_
  · refine setB_may h (Sub.rfl.inr.trans hm) (ho.ok (by decide +kernel)) ?_
    · refine setB_may h (Sub.rfl.inr.trans hm) (ho.ok (by decide +kernel)) ?_
      · refine setB_may h (Sub.rfl.inr.trans hm) (ho.ok (by decide +kernel)) ?_
        · refine setF_may h (Sub.rfl.inr.inl.trans hm) (ho.ok (by decide +kernel)) ?_
          · refine setF_may h (Sub.rfl.inr.inl.trans hm) (ho.ok (by decide +kernel)) hb2

def refWindow_m : Nat := mask [PIP_REF_STATUS.WARN, PIP_REF_EVT.WARN, PIP_REF_STATUS.WTR_LEFT, PIP_REF_STATUS.QUAL] ||| showMeas_m ||| setB_m ||| refLoss_m ||| disqualify_m ||| raise_m ||| setF_m ||| startWait_m
theorem refWindow_may (h : May M I) (hm : Sub refWindow_m M) {b0} {b1} {b2} (hb2 : I b2) : I (refWindow b0 b1 b2) := by
  have ho := (Sub.rfl.inl.inl.inl.inl.inl.inl.inl.trans hm)
  unfold refWindow
  extract_lets -merge -useContext x0 x1 x2 x3 x4
  have hx0 : I x0 := by
    unfold x0
    refine showMeas_may h (Sub.rfl.inr.inl.inl.inl.inl.inl.inl.trans hm) hb2
  clear_value x0
  have hx4 : I x4 := by
    unfold x4
    refine setB_may h (Sub.rfl.inr.inl.inl.inl.inl.inl.trans hm) (ho.ok (by decide +kernel)) hx0
  clear_value x4
  refine may_ite ?_ ?_
  · exact hb2
  · refine may_ite ?_ ?_
    · refine refLoss_may h (Sub.rfl.inr.inl.inl.inl.inl.trans hm) hb2
    · refine may_ite ?_ ?_
      · refine may_ite ?_ ?_
        · refine disqualify_may h (Sub.rfl.inr.inl.inl.inl.trans hm) hx0
        · refine may_ite ?_ ?_
          · refine raise_may h (Sub.rfl.inr.inl.inl.trans hm) (ho.okAll (by decide +kernel)) hx4
          · exact hx4
      · refine may_ite ?_ ?_
        · refine may_ite ?_ ?_
          · split
            · refine setF_may h (Sub.rfl.inr.inl.trans hm) (ho.ok (by decide +kernel)) hx0
            · exact hx0
          · refine disqualify_may h (Sub.rfl.inr.inl.inl.inl.trans hm) hx0
        · refine may_ite ?_ ?_
          · refine startWait_may h (Sub.rfl.inr.trans hm) hx0
          · refine setF_may h (Sub.rfl.inr.inl.trans hm) (ho.ok (by decide +kernel)) hx0

def refWtr_m : Nat := mask [PIP_REF_EVT.QUALIFY, PIP_REF_STATUS.WTR_LEFT, PIP_REF_STATUS.QUAL] ||| reselect_m ||| raise_m ||| setRef_m ||| setF_m
theorem refWtr_may (h : May M I) (hm : Sub refWtr_m M) {b0} {b1} (hb1 : I b1) : I (refWtr b0 b1) := by
  have ho := (Sub.rfl.inl.inl.inl.inl.trans hm)
  unfold refWtr
  refine may_ite ?_ ?_
  · refine reselect_may h (Sub.rfl.inr.inl.inl.inl.trans hm) ?_
    · refine may_ite ?_ ?_
      · refine raise_may h (Sub.rfl.inr.inl.inl.trans hm) (ho.okAll (by decide +kernel)) ?_
        · refine setRef_may h (Sub.rfl.inr.inl.trans hm) ?_
          · refine setF_may h (Sub.rfl.inr.trans hm) (ho.ok (by decide +kernel)) ?_
            · refine setF_may h (Sub.rfl.inr.trans hm) (ho.ok (by decide +kernel)) hb1
      · refine setRef_may h (Sub.rfl.inr.inl.trans hm) ?_
        · refine setF_may h (Sub.rfl.inr.trans hm) (ho.ok (by decide +kernel)) ?_
          · refine setF_may h (Sub.rfl.inr.trans hm) (ho.ok (by decide +kernel)) hb1
  · exact hb1

def transEnd_m : Nat := mask [PIP_SWITCH_CNT.COUNT, PIP_EVT.SWITCH_OVF, PIP_EVT.SWITCH, PIP_EVT.LOCKED, PIP_STATUS.TARGET, PIP_STATUS.SELECTED, PIP_STATUS.STATE] ||| reselect_m ||| bump32_m ||| raise_m ||| setTime_m ||| setF_m
theorem transEnd_may (h : May M I) (hm : Sub transEnd_m M) {b0} (hb0 : I b0) : I (transEnd b0) := by
  have ho := (Sub.rfl.inl.inl.inl.inl.inl.trans hm)
  unfold transEnd
  extract_lets -merge -useContext x0
  refine may_ite ?_ ?_
  · refine reselect_may h (Sub.rfl.inr.inl.inl.inl.inl.trans hm) ?_
    · refine bump32_may h (Sub.rfl.inr.inl.inl.inl.trans hm) (ho.ok (by decide +kernel)) (ho.ok (by decide +kernel)) ?_
      · refine raise_may h (Sub.rfl.inr.inl.inl.trans hm) (by split <;> exact ho.okAll (by decide +kernel)) ?_
        · refine setTime_may h (Sub.rfl.inr.inl.trans hm) ?_
          · refine setF_may h (Sub.rfl.inr.trans hm) (ho.ok (by decide +kernel)) ?_
            · refine setF_may h (Sub.rfl.inr.trans hm) (ho.ok (by decide +kernel)) ?_
              · refine setF_may h (Sub.rfl.inr.trans hm) (ho.ok (by decide +kernel)) hb0
  · exact hb0

def forceEn_m : Nat := mask [PIP_CTL.FORCE_REF, PIP_CTL.FORCE_EN] ||| reselect_m ||| noteForce_m ||| setF_m ||| setB_m
theorem forceEn_may (h : May M I) (hm : Sub forceEn_m M) {b0} {b1} {b2} (hb2 : I b2) : I (forceEn b0 b1 b2) := by
  have ho := (Sub.rfl.inl.inl.inl.inl.trans hm)
  unfold forceEn
  refine reselect_may h (Sub.rfl.inr.inl.inl.inl.trans hm) ?_
  · refine noteForce_may h (Sub.rfl.inr.inl.inl.trans hm) ?_
    · refine setF_may h (Sub.rfl.inr.inl.trans hm) (ho.ok (by decide +kernel)) ?_
      · refine setB_may h (Sub.rfl.inr.trans hm) (ho.ok (by decide +kernel)) hb2

def forceHold_m : Nat := mask [PIP_CTL.FORCE_HOLD] ||| reselect_m ||| setB_m
theorem forceHold_may (h : May M I) (hm : Sub forceHold_m M) {b0} {b1} (hb1 : I b1) : I (forceHold b0 b1) := by
  have ho := (Sub.rfl.inl.inl.trans hm)
  unfold forceHold
  refine reselect_may h (Sub.rfl.inr.inl.trans hm) ?_
  · refine setB_may h (Sub.rfl.inr.trans hm) (ho.ok (by decide +kernel)) hb1

def refPrio_m : Nat := mask [PIP_REF_CFG.LOCKOUT, PIP_REF_CFG.PRIO] ||| reselect_m ||| noteForce_m ||| storePref_m ||| setPst_m ||| setB_m ||| setF_m
theorem refPrio_may (h : May M I) (hm : Sub refPrio_m M) {b0} {b1} {b2} {b3} {b4} (hb4 : I b4) : I (refPrio b0 b1 b2 b3 b4) := by
  have ho := (Sub.rfl.inl.inl.inl.inl.inl.inl.trans hm)
  unfold refPrio
  refine may_ite ?_ ?_
  · exact hb4
  · refine reselect_may h (Sub.rfl.inr.inl.inl.inl.inl.inl.trans hm) ?_
    · refine noteForce_may h (Sub.rfl.inr.inl.inl.inl.inl.trans hm) ?_
      · refine storePref_may h (Sub.rfl.inr.inl.inl.inl.trans hm) (fun a0 ha0 => ?_) ?_
        · refine setPst_may h (Sub.rfl.inr.inl.inl.trans hm) ?_
          · refine setB_may h (Sub.rfl.inr.inl.trans hm) (ho.ok (by decide +kernel)) ?_
            · refine setF_may h (Sub.rfl.inr.trans hm) (ho.ok (by decide +kernel)) ha0
        · refine setPst_may h (Sub.rfl.inr.inl.inl.trans hm) hb4

def noteMismatch_m : Nat := mask [PIP_PLANE_STATUS.MISMATCH, PIP_PLANE_EVT.MISMATCH] ||| setB_m ||| raise_m
theorem noteMismatch_may (h : May M I) (hm : Sub noteMismatch_m M) {b0} {b1} (hb1 : I b1) : I (noteMismatch b0 b1) := by
  have ho := (Sub.rfl.inl.inl.trans hm)
  unfold noteMismatch
  extract_lets -merge -useContext x0 x1 x2
  have hx2 : I x2 := by
    unfold x2
    refine setB_may h (Sub.rfl.inr.inl.trans hm) (ho.ok (by decide +kernel)) hb1
  clear_value x2
  refine may_ite ?_ ?_
  · refine raise_may h (Sub.rfl.inr.trans hm) (ho.okAll (by decide +kernel)) hx2
  · exact hx2

def slewPlane_m : Nat := mask [PIP_PLANE_ERR.ERR_NS, PIP_PLANE_STATUS.STATE, PIP_PLANE_EVT.ALIGNED, PIP_PLANE_EVT.SLEW_START] ||| setF_m ||| raise_m
theorem slewPlane_may (h : May M I) (hm : Sub slewPlane_m M) {b0} {b1} {b2} (hb2 : I b2) : I (slewPlane b0 b1 b2).2 := by
  have ho := (Sub.rfl.inl.inl.trans hm)
  unfold slewPlane
  extract_lets -merge -useContext x0
  split
  · refine setF_may h (Sub.rfl.inr.inl.trans hm) (ho.ok (by decide +kernel)) ?_
    · refine setF_may h (Sub.rfl.inr.inl.trans hm) (ho.ok (by decide +kernel)) hb2
  · extract_lets -merge -useContext x1 x2 x3 x4 x5 x6
    have hx3 : I x3 := by
      unfold x3
      refine setF_may h (Sub.rfl.inr.inl.trans hm) (ho.ok (by decide +kernel)) hb2
    clear_value x3
    have hx5 : I x5 := by
      unfold x5
      refine setF_may h (Sub.rfl.inr.inl.trans hm) (ho.ok (by decide +kernel)) hx3
    clear_value x5
    have hx6 : I x6 := by
      unfold x6
      refine setF_may h (Sub.rfl.inr.inl.trans hm) (ho.ok (by decide +kernel)) hx3
    clear_value x6
    refine may_ite2 ?_ ?_
    · refine setF_may h (Sub.rfl.inr.inl.trans hm) (ho.ok (by decide +kernel)) hx3
    · refine may_ite2 ?_ ?_
      · refine may_ite ?_ ?_
        · refine raise_may h (Sub.rfl.inr.trans hm) (ho.okAll (by decide +kernel)) hx5
        · exact hx5
      · refine may_ite ?_ ?_
        · exact hx6
        · refine raise_may h (Sub.rfl.inr.trans hm) (ho.okAll (by decide +kernel)) hx6

def showDev_m : Nat := mask [PIP_PLANE_DEV.DEV] ||| setF_m
theorem showDev_may (h : May M I) (hm : Sub showDev_m M) {b0} {b1} {b2} (hb2 : I b2) : I (showDev b0 b1 b2) := by
  have ho := (Sub.rfl.inl.trans hm)
  unfold showDev
  refine setF_may h (Sub.rfl.inr.trans hm) (ho.ok (by decide +kernel)) hb2

def rearm_m : Nat := setXpt_m
theorem rearm_may (h : May M I) (hm : Sub rearm_m M) {b0} {b1} (hb1 : I b1) : I (rearm b0 b1) := by
  unfold rearm
  extract_lets -merge -useContext x0
  refine setXpt_may h (Sub.rfl.trans hm) hb1

def realign_m : Nat := mask [PIP_PLANE_EVT.HARD, PIP_PLANE_ERR.ERR_NS, PIP_PLANE_STATUS.STATE, PIP_PLANE_COUNT.COUNT] ||| setPlane_m ||| reevaluate_m ||| rearm_m ||| raise_m ||| setF_m
theorem realign_may (h : May M I) (hm : Sub realign_m M) {b0} {b1} {b2} {b3} (hb3 : I b3) : I (realign b0 b1 b2 b3) := by
  have ho := (Sub.rfl.inl.inl.inl.inl.inl.trans hm)
  unfold realign
  extract_lets -merge -useContext x0 x1 x2
  have hx2 : I x2 := by
    unfold x2
    refine setPlane_may h (Sub.rfl.inr.inl.inl.inl.inl.trans hm) hb3
  clear_value x2
  refine reevaluate_may h (Sub.rfl.inr.inl.inl.inl.trans hm) ?_
  · refine rearm_may h (Sub.rfl.inr.inl.inl.trans hm) ?_
    · refine raise_may h (Sub.rfl.inr.inl.trans hm) (ho.okAll (by decide +kernel)) ?_
      · refine setF_may h (Sub.rfl.inr.trans hm) (ho.ok (by decide +kernel)) ?_
        · refine setF_may h (Sub.rfl.inr.trans hm) (ho.ok (by decide +kernel)) ?_
          · refine setF_may h (Sub.rfl.inr.trans hm) (ho.ok (by decide +kernel)) hx2

def timeStep_m : Nat := mask [FLW_RX_EVT.RESYNC, FLW_TX_EVT.TS_STEP, TIM_EVT.STEP, TIM_EVT.STEP_BACK, TIM_STEP_CNT.COUNT, TIM_EVT.STEP_OVF, TIM_LAST_STEP.STEP] ||| pmask [.timeOff] ||| reevaluate_m ||| forEach_m ||| raise_m ||| setTime_m ||| bump32_m ||| setF_m
theorem timeStep_may (h : May M I) (hm : Sub timeStep_m M) {b0} {b1} (hb1 : I b1) : I (timeStep b0 b1) := by
  have ho := (Sub.rfl.inl.inl.inl.inl.inl.inl.inl.trans hm)
  have hp := (Sub.rfl.inr.inl.inl.inl.inl.inl.inl.trans hm)
  unfold timeStep
  extract_lets -merge -useContext x0
  refine reevaluate_may h (Sub.rfl.inr.inl.inl.inl.inl.inl.trans hm) ?_
  · refine forEach_may h (Sub.rfl.inr.inl.inl.inl.inl.trans hm) (fun a1 a2 ha2 => ?_) ?_
    · refine raise_may h (Sub.rfl.inr.inl.inl.inl.trans hm) (ho.okAll (by decide +kernel)) ha2
    · refine setTime_may h (Sub.rfl.inr.inl.inl.trans hm) ?_
      · refine forEach_may h (Sub.rfl.inr.inl.inl.inl.inl.trans hm) (fun a3 a4 ha4 => ?_) ?_
        · refine raise_may h (Sub.rfl.inr.inl.inl.inl.trans hm) (ho.okAll (by decide +kernel)) ha4
        · refine raise_may h (Sub.rfl.inr.inl.inl.inl.trans hm) (by split <;> exact ho.okAll (by decide +kernel)) ?_
          · refine bump32_may h (Sub.rfl.inr.inl.trans hm) (ho.ok (by decide +kernel)) (ho.ok (by decide +kernel)) ?_
            · refine setF_may h (Sub.rfl.inr.trans hm) (ho.ok (by decide +kernel)) ?_
              · exact h.timeOff (hp.testBit (by decide +kernel)) (hb1)

def twinStep_m : Nat := setTwin_m ||| forEach_m ||| setPlane_m ||| stepBlocks_m ||| timeStep_m ||| serveResync_m
theorem twinStep_may (h : May M I) (hm : Sub twinStep_m M) {b0} (hb0 : I b0) : I (twinStep b0) := by
  unfold twinStep
  extract_lets -merge -useContext x0 x1
  have hx0 : I x0 := by
    unfold x0
    refine setTwin_may h (Sub.rfl.inl.inl.inl.inl.inl.trans hm) ?_
    · refine forEach_may h (Sub.rfl.inr.inl.inl.inl.inl.trans hm) (fun a2 a3 ha3 => ?_) ?_
      · refine setPlane_may h (Sub.rfl.inr.inl.inl.inl.trans hm) ha3
      · refine stepBlocks_may h (Sub.rfl.inr.inl.inl.trans hm) hb0
  clear_value x0
  have hx1 : I x1 := by
    unfold x1
    refine may_ite ?_ ?_
    · refine may_ite ?_ ?_
      · exact hx0
      · refine timeStep_may h (Sub.rfl.inr.inl.trans hm) hx0
    · exact hb0
  clear_value x1
  refine serveResync_may h (Sub.rfl.inr.trans hm) hx1

def planeFrame_m : Nat := mask [PIP_PLANE_COUNT.COUNT] ||| twinStep_m ||| setF_m ||| noteMismatch_m ||| realign_m ||| slewPlane_m ||| setPlane_m ||| commitRecs_m ||| forEach_m ||| reacquire_m ||| showDev_m
theorem planeFrame_may (h : May M I) (hm : Sub planeFrame_m M) {b0} {b1} {b2} (hb2 : I b2) : I (planeFrame b0 b1 b2) := by
  have ho := (Sub.rfl.inl.inl.inl.inl.inl.inl.inl.inl.inl.inl.trans hm)
  unfold planeFrame
  dsimp only
  refine may_ite hb2 ?_
  refine commitRecs_may h (Sub.rfl.inr.inl.inl.inl.trans hm) ?_
  refine forEach_may h (Sub.rfl.inr.inl.inl.trans hm) (fun _ _ hs => reacquire_may h (Sub.rfl.inr.inl.trans hm) hs) ?_
  refine showDev_may h (Sub.rfl.inr.trans hm) ?_
  have hx : I (setF PIP_PLANE_COUNT.COUNT b0 (getF PIP_PLANE_COUNT.COUNT b0 (if (planesOn b2).head? = some b0 then twinStep b2 else b2) + 1)
      (noteMismatch b0 (if (planesOn b2).head? = some b0 then twinStep b2 else b2))) :=
    setF_may h (Sub.rfl.inr.inl.inl.inl.inl.inl.inl.inl.inl.trans hm) (ho.ok (by decide +kernel))
      (noteMismatch_may h (Sub.rfl.inr.inl.inl.inl.inl.inl.inl.inl.trans hm)
        (may_ite (twinStep_may h (Sub.rfl.inr.inl.inl.inl.inl.inl.inl.inl.inl.inl.trans hm) hb2) hb2))
  split
  · exact may_ite (realign_may h (Sub.rfl.inr.inl.inl.inl.inl.inl.inl.trans hm) hx)
      (setPlane_may h (Sub.rfl.inr.inl.inl.inl.inl.trans hm) (slewPlane_may h (Sub.rfl.inr.inl.inl.inl.inl.inl.trans hm) hx))
  · exact setPlane_may h (Sub.rfl.inr.inl.inl.inl.inl.trans hm) (slewPlane_may h (Sub.rfl.inr.inl.inl.inl.inl.inl.trans hm) hx)

def orderRealign_m : Nat := setPlane_m
theorem orderRealign_may (h : May M I) (hm : Sub orderRealign_m M) {b0} {b1} (hb1 : I b1) : I (orderRealign b0 b1) := by
  unfold orderRealign
  refine may_ite ?_ ?_
  · refine setPlane_may h (Sub.rfl.trans hm) hb1
  · exact hb1

def setPulse_m : Nat := setTime_m
theorem setPulse_may (h : May M I) (hm : Sub setPulse_m M) {b0} {b1} {b2} (hb2 : I b2) : I (setPulse b0 b1 b2) := by
  unfold setPulse
  refine setTime_may h (Sub.rfl.trans hm) hb2

def pulse_m : Nat := setPulse_m ||| emit_m
theorem pulse_may (h : May M I) (hm : Sub pulse_m M) {b0} {b1} {b2} (hb2 : I b2) : I (pulse b0 b1 b2) := by
  unfold pulse
  extract_lets -merge -useContext x0 x1 x2
  have hx1 : I x1 := by
    unfold x1
    split
    · refine may_ite ?_ ?_
      · refine setPulse_may h (Sub.rfl.inl.trans hm) hb2
      · exact hb2
    · exact hb2
  clear_value x1
  refine may_ite ?_ ?_
  · exact hb2
  · refine may_ite ?_ ?_
    · refine emit_may h (Sub.rfl.inr.trans hm) hx1
    · exact hx1

def pulseWrite_m : Nat := mask [PIP_PULSE_OFFSET.OFFSET_NS, PIP_PULSE_CFG.SRC, PIP_PULSE_CFG.WIDTH, PIP_PULSE_CFG.POL, PIP_PULSE_CFG.EN] ||| setPulse_m ||| setF_m ||| setB_m
theorem pulseWrite_may (h : May M I) (hm : Sub pulseWrite_m M) {b0} {b1} {b2} {b3} (hb3 : I b3) : I (pulseWrite b0 b1 b2 b3) := by
  have ho := (Sub.rfl.inl.inl.inl.trans hm)
  unfold pulseWrite
  extract_lets -merge -useContext x0
  refine may_ite ?_ ?_
  · exact hb3
  · refine setPulse_may h (Sub.rfl.inr.inl.inl.trans hm) ?_
    · refine setF_may h (Sub.rfl.inr.inl.trans hm) (ho.ok (by decide +kernel)) ?_
      · refine setF_may h (Sub.rfl.inr.inl.trans hm) (ho.ok (by decide +kernel)) ?_
        · refine setF_may h (Sub.rfl.inr.inl.trans hm) (ho.ok (by decide +kernel)) ?_
          · refine setB_may h (Sub.rfl.inr.trans hm) (ho.ok (by decide +kernel)) ?_
            · refine setB_may h (Sub.rfl.inr.trans hm) (ho.ok (by decide +kernel)) hb3

def planesFollow_m : Nat := forEach_m ||| setPlane_m
theorem planesFollow_may (h : May M I) (hm : Sub planesFollow_m M) {b0} {b1} {b2} (hb2 : I b2) : I (planesFollow b0 b1 b2) := by
  unfold planesFollow
  refine forEach_may h (Sub.rfl.inl.trans hm) (fun a0 a1 ha1 => ?_) hb2
  · extract_lets -merge -useContext x2
    refine setPlane_may h (Sub.rfl.inr.trans hm) ha1

def slewTime_m : Nat := pmask [.timeOff] ||| drawn_m ||| planesFollow_m
theorem slewTime_may (h : May M I) (hm : Sub slewTime_m M) {b0} {b1} (hb1 : I b1) : I (slewTime b0 b1) := by
  have hp := (Sub.rfl.inl.inl.trans hm)
  unfold slewTime
  extract_lets -merge -useContext x0 x1 x2 x3 x4
  have hx4 : I x4 := by
    unfold x4
    refine drawn_may h (Sub.rfl.inr.inl.trans hm) hb1
  clear_value x4
  refine planesFollow_may h (Sub.rfl.inr.trans hm) ?_
  · exact h.timeOff (hp.testBit (by decide +kernel)) (hx4)

def servo_m : Nat := slewTime_m ||| timeStep_m ||| setTime_m
theorem servo_may (h : May M I) (hm : Sub servo_m M) {b0} {b1} (hb1 : I b1) : I (servo b0 b1) := by
  unfold servo
  extract_lets -merge -useContext x0 x1 x2
  have hx2 : I x2 := by
    unfold x2
    refine may_ite ?_ ?_
    · exact hb1
    · refine may_ite ?_ ?_
      · refine slewTime_may h (Sub.rfl.inl.inl.trans hm) hb1
      · refine timeStep_may h (Sub.rfl.inr.inl.trans hm) hb1
  clear_value x2
  refine setTime_may h (Sub.rfl.inr.trans hm) hx2

def lapseGrants_m : Nat := mask [SEC_GRANT_A.VALID] ||| forEach_m ||| setF_m
theorem lapseGrants_may (h : May M I) (hm : Sub lapseGrants_m M) {b0} (hb0 : I b0) : I (lapseGrants b0) := by
  have ho := (Sub.rfl.inl.inl.trans hm)
  unfold lapseGrants
  refine forEach_may h (Sub.rfl.inr.inl.trans hm) (fun a0 a1 ha1 => ?_) hb0
  · refine may_ite ?_ ?_
    · refine setF_may h (Sub.rfl.inr.trans hm) (ho.ok (by decide +kernel)) ha1
    · exact ha1

def second_m : Nat := mask [TIM_EVT.SET_DONE, TIM_STATUS.SET_PEND] ||| timeStep_m ||| raise_m ||| setF_m ||| lapseGrants_m
theorem second_may (h : May M I) (hm : Sub second_m M) {b0} (hb0 : I b0) : I (second b0) := by
  have ho := (Sub.rfl.inl.inl.inl.inl.trans hm)
  unfold second
  extract_lets -merge -useContext x0 x1 x2
  have hx1 : I x1 := by
    unfold x1
    refine may_ite ?_ ?_
    · exact hb0
    · refine timeStep_may h (Sub.rfl.inr.inl.inl.inl.trans hm) hb0
  clear_value x1
  have hx2 : I x2 := by
    unfold x2
    refine may_ite ?_ ?_
    · refine raise_may h (Sub.rfl.inr.inl.inl.trans hm) (ho.okAll (by decide +kernel)) ?_
      · refine setF_may h (Sub.rfl.inr.inl.trans hm) (ho.ok (by decide +kernel)) hx1
    · exact hb0
  clear_value x2
  refine may_ite ?_ ?_
  · exact hb0
  · refine lapseGrants_may h (Sub.rfl.inr.trans hm) hx2

def timApply_m : Nat := mask [TIM_EVT.SET_REFUSED, TIM_STATUS.SET_PEND] ||| raise_m ||| setF_m ||| setTime_m
theorem timApply_may (h : May M I) (hm : Sub timApply_m M) {b0} (hb0 : I b0) : I (timApply b0) := by
  have ho := (Sub.rfl.inl.inl.inl.trans hm)
  unfold timApply
  extract_lets -merge -useContext x0
  refine may_ite ?_ ?_
  · refine raise_may h (Sub.rfl.inr.inl.inl.trans hm) (ho.okAll (by decide +kernel)) hb0
  · refine setF_may h (Sub.rfl.inr.inl.trans hm) (ho.ok (by decide +kernel)) ?_
    · refine setTime_may h (Sub.rfl.inr.trans hm) hb0

def setPtp_m : Nat := setTime_m
theorem setPtp_may (h : May M I) (hm : Sub setPtp_m M) {b0} {b1} {b2} (hb2 : I b2) : I (setPtp b0 b1 b2) := by
  unfold setPtp
  refine setTime_may h (Sub.rfl.trans hm) hb2

def setPtpState_m : Nat := mask [TIM_PTP_EVT.STATE, TIM_PTP_STATUS.PORT_STATE, TIM_PTP_OFFS_SEC.OFFS_SEC, TIM_PTP_OFFS_NS.OFFS_NS] ||| raise_m ||| setF_m ||| resetFs_m ||| refLoss_m
theorem setPtpState_may (h : May M I) (hm : Sub setPtpState_m M) {b0} {b1} {b2} (hb2 : I b2) : I (setPtpState b0 b1 b2) := by
  have ho := (Sub.rfl.inl.inl.inl.inl.trans hm)
  unfold setPtpState
  extract_lets -merge -useContext x0 x1 x2
  have hx1 : I x1 := by
    unfold x1
    refine raise_may h (Sub.rfl.inr.inl.inl.inl.trans hm) (ho.okAll (by decide +kernel)) ?_
    · refine setF_may h (Sub.rfl.inr.inl.inl.trans hm) (ho.ok (by decide +kernel)) hb2
  clear_value x1
  have hx2 : I x2 := by
    unfold x2
    refine may_ite ?_ ?_
    · exact hx1
    · refine resetFs_may h (Sub.rfl.inr.inl.trans hm) (ho.okAll (by decide +kernel)) hx1
  clear_value x2
  refine may_ite ?_ ?_
  · exact hb2
  · refine may_ite ?_ ?_
    · refine refLoss_may h (Sub.rfl.inr.trans hm) hx2
    · exact hx2

def ptpRestart_m : Nat := setPtp_m ||| setPtpState_m
theorem ptpRestart_may (h : May M I) (hm : Sub ptpRestart_m M) {b0} {b1} (hb1 : I b1) : I (ptpRestart b0 b1) := by
  unfold ptpRestart
  extract_lets -merge -useContext x0 x1
  have hx1 : I x1 := by
    unfold x1
    refine setPtp_may h (Sub.rfl.inl.trans hm) hb1
  clear_value x1
  refine may_ite ?_ ?_
  · refine setPtpState_may h (Sub.rfl.inr.trans hm) ?_
    · refine setPtpState_may h (Sub.rfl.inr.trans hm) hx1
  · refine setPtpState_may h (Sub.rfl.inr.trans hm) hx1

def ptpCfg_m : Nat := mask [TIM_PTP_CFG.DOMAIN, TIM_PTP_CFG.LP, TIM_PTP_CFG.VID, TIM_PTP_CFG.TAG, TIM_PTP_CFG.PCP, TIM_PTP_CFG.DELAY_UC] ||| ptpRestart_m ||| setF_m
theorem ptpCfg_may (h : May M I) (hm : Sub ptpCfg_m M) {b0} {b1} {b2} (hb2 : I b2) : I (ptpCfg b0 b1 b2) := by
  have ho := (Sub.rfl.inl.inl.trans hm)
  unfold ptpCfg
  refine may_ite ?_ ?_
  · exact hb2
  · refine ptpRestart_may h (Sub.rfl.inr.inl.trans hm) ?_
    · refine setF_may h (Sub.rfl.inr.trans hm) (ho.ok (by decide +kernel)) ?_
      · refine setF_may h (Sub.rfl.inr.trans hm) (ho.ok (by decide +kernel)) ?_
        · refine setF_may h (Sub.rfl.inr.trans hm) (ho.ok (by decide +kernel)) ?_
          · refine setF_may h (Sub.rfl.inr.trans hm) (ho.ok (by decide +kernel)) ?_
            · refine setF_may h (Sub.rfl.inr.trans hm) (ho.ok (by decide +kernel)) ?_
              · refine setF_may h (Sub.rfl.inr.trans hm) (ho.ok (by decide +kernel)) hb2

def showMaster_m : Nat := mask [TIM_PTP_STATUS.UTC_VALID, TIM_PTP_STATUS.UTC_OFFSET, TIM_PTP_STATUS.STEPS_REMOVED, TIM_PTP_EVT.GM_CHANGE, TIM_PTP_GM.GM_ID] ||| setB_m ||| setF_m ||| raise_m
theorem showMaster_may (h : May M I) (hm : Sub showMaster_m M) {b0} {b1} {b2} {b3} {b4} {b5} (hb5 : I b5) : I (showMaster b0 b1 b2 b3 b4 b5) := by
  have ho := (Sub.rfl.inl.inl.inl.trans hm)
  unfold showMaster
  extract_lets -merge -useContext x0
  have hx0 : I x0 := by
    unfold x0
    refine setB_may h (Sub.rfl.inr.inl.inl.trans hm) (ho.ok (by decide +kernel)) ?_
    · refine setF_may h (Sub.rfl.inr.inl.trans hm) (ho.ok (by decide +kernel)) ?_
      · refine setF_may h (Sub.rfl.inr.inl.trans hm) (ho.ok (by decide +kernel)) hb5
  clear_value x0
  refine may_ite ?_ ?_
  · exact hx0
  · refine raise_may h (Sub.rfl.inr.trans hm) (ho.okAll (by decide +kernel)) ?_
    · refine setF_may h (Sub.rfl.inr.inl.trans hm) (ho.ok (by decide +kernel)) hx0

def chooseMaster_m : Nat := setPtpState_m ||| setPtp_m
theorem chooseMaster_may (h : May M I) (hm : Sub chooseMaster_m M) {b0} {b1} {b2} {b3} (hb3 : I b3) : I (chooseMaster b0 b1 b2 b3) := by
  unfold chooseMaster
  refine setPtpState_may h (Sub.rfl.inl.trans hm) ?_
  · refine setPtp_may h (Sub.rfl.inr.trans hm) hb3

def announce_m : Nat := showMaster_m ||| setPtp_m ||| chooseMaster_m
theorem announce_may (h : May M I) (hm : Sub announce_m M) {b0} {b1} {b2} {b3} {b4} {b5} {b6} {b7} (hb7 : I b7) : I (announce b0 b1 b2 b3 b4 b5 b6 b7) := by
  unfold announce
  extract_lets -merge -useContext x0 x1 x2 x3 x4
  have hx1 : ∀ a0, I a0 → I (x1 a0) := by
    intro a5 ha5
    unfold x1
    refine showMaster_may h (Sub.rfl.inl.inl.trans hm) ?_
    · refine setPtp_may h (Sub.rfl.inr.inl.trans hm) ha5
  clear_value x1
  have hx2 : ∀ a0, I a0 → I (x2 a0) := by
    intro a6 ha6
    unfold x2
    refine hx1 _ ?_
    · refine chooseMaster_may h (Sub.rfl.inr.trans hm) ha6
  clear_value x2
  have hx4 : ∀ a0, I a0 → I (x4 a0) := by
    intro a7 ha7
    unfold x4
    refine setPtp_may h (Sub.rfl.inr.inl.trans hm) ha7
  clear_value x4
  split
  · refine may_ite ?_ ?_
    · refine hx2 _ hb7
    · refine hx4 _ hb7
  · refine may_ite ?_ ?_
    · refine hx1 _ ?_
      · refine setPtp_may h (Sub.rfl.inr.inl.trans hm) hb7
    · refine may_ite ?_ ?_
      · refine hx2 _ hb7
      · refine hx4 _ hb7

def measured_m : Nat := mask [TIM_PTP_MPD.MPD_NS, TIM_PTP_OFFS_NS.OFFS_NS, TIM_PTP_OFFS_SEC.OFFS_SEC] ||| setF_m ||| setPtp_m ||| setPtpState_m
theorem measured_may (h : May M I) (hm : Sub measured_m M) {b0} {b1} {b2} {b3} (hb3 : I b3) : I (measured b0 b1 b2 b3) := by
  have ho := (Sub.rfl.inl.inl.inl.trans hm)
  unfold measured
  extract_lets -merge -useContext x0 x1 x2 x3
  have hx3 : I x3 := by
    unfold x3
    refine setF_may h (Sub.rfl.inr.inl.inl.trans hm) (ho.ok (by decide +kernel)) ?_
    · refine setF_may h (Sub.rfl.inr.inl.inl.trans hm) (ho.ok (by decide +kernel)) ?_
      · refine setF_may h (Sub.rfl.inr.inl.inl.trans hm) (ho.ok (by decide +kernel)) ?_
        · refine setPtp_may h (Sub.rfl.inr.inl.trans hm) hb3
  clear_value x3
  refine may_ite ?_ ?_
  · refine setPtpState_may h (Sub.rfl.inr.trans hm) hx3
  · exact hx3

def ptpMessage_m : Nat := announce_m ||| setPtp_m ||| measured_m
theorem ptpMessage_may (h : May M I) (hm : Sub ptpMessage_m M) {b0} {b1} {b2} {b3} {b4} (hb4 : I b4) : I (ptpMessage b0 b1 b2 b3 b4) := by
  unfold ptpMessage
  extract_lets -merge -useContext x0 x1 x2
  refine may_ite ?_ ?_
  · exact hb4
  · split
    · refine announce_may h (Sub.rfl.inl.inl.trans hm) hb4
    · extract_lets -merge -useContext x3
      refine may_ite ?_ ?_
      · exact hb4
      · split
        · refine setPtp_may h (Sub.rfl.inr.inl.trans hm) hb4
        · refine setPtp_may h (Sub.rfl.inr.inl.trans hm) hb4
    · split
      · refine may_ite ?_ ?_
        · refine setPtp_may h (Sub.rfl.inr.inl.trans hm) hb4
        · exact hb4
      · exact hb4
    · split
      · extract_lets -merge -useContext x4 x5
        refine may_ite ?_ ?_
        · refine measured_may h (Sub.rfl.inr.trans hm) ?_
          · refine setPtp_may h (Sub.rfl.inr.inl.trans hm) hb4
        · exact hb4
      · exact hb4
    · exact hb4

def announceLate_m : Nat := mask [TIM_PTP_EVT.TIMEOUT, TIM_PTP_TIMEOUT_CNT.COUNT, TIM_PTP_EVT.TIMEOUT_OVF] ||| setPtpState_m ||| setPtp_m ||| raise_m ||| bump32_m
theorem announceLate_may (h : May M I) (hm : Sub announceLate_m M) {b0} {b1} (hb1 : I b1) : I (announceLate b0 b1) := by
  have ho := (Sub.rfl.inl.inl.inl.inl.trans hm)
  unfold announceLate
  refine may_ite ?_ ?_
  · refine setPtpState_may h (Sub.rfl.inr.inl.inl.inl.trans hm) ?_
    · refine setPtp_may h (Sub.rfl.inr.inl.inl.trans hm) ?_
      · refine raise_may h (Sub.rfl.inr.inl.trans hm) (ho.okAll (by decide +kernel)) ?_
        · refine bump32_may h (Sub.rfl.inr.trans hm) (ho.ok (by decide +kernel)) (ho.ok (by decide +kernel)) hb1
  · exact hb1

def sendDelayReq_m : Nat := emit_m ||| setPtp_m
theorem sendDelayReq_may (h : May M I) (hm : Sub sendDelayReq_m M) {b0} {b1} (hb1 : I b1) : I (sendDelayReq b0 b1) := by
  unfold sendDelayReq
  extract_lets -merge -useContext x0 x1 x2 x3
  refine may_ite ?_ ?_
  · refine emit_may h (Sub.rfl.inl.trans hm) ?_
    · refine setPtp_may h (Sub.rfl.inr.trans hm) hb1
  · exact hb1

def execRefActivityLoss_m : Nat := onService_m ||| refLoss_m
theorem execRefActivityLoss_may (h : May M I) (hm : Sub execRefActivityLoss_m M) (hr : Run M I) {b0} {b1} {b2} (hb2 : I b2) : Ans I (execRefActivityLoss b0 b1 b2) := by
  refine ⟨_, rfl, ?_⟩
  refine onService_may h (Sub.rfl.inl.trans hm) hr (fun I h a0 ha0 => ?_) hb2
  · refine refLoss_may h (Sub.rfl.inr.trans hm) ha0

def execRefWindowUpdate_m : Nat := onService_m ||| refWindow_m
theorem execRefWindowUpdate_may (h : May M I) (hm : Sub execRefWindowUpdate_m M) (hr : Run M I) {b0} {b1} {b2} {b3} (hb3 : I b3) : Ans I (execRefWindowUpdate b0 b1 b2 b3) := by
  refine ⟨_, rfl, ?_⟩
  refine onService_may h (Sub.rfl.inl.trans hm) hr (fun I h a0 ha0 => ?_) hb3
  · refine refWindow_may h (Sub.rfl.inr.trans hm) ha0

def execRefWtrExpire_m : Nat := onService_m ||| refWtr_m
theorem execRefWtrExpire_may (h : May M I) (hm : Sub execRefWtrExpire_m M) (hr : Run M I) {b0} {b1} {b2} (hb2 : I b2) : Ans I (execRefWtrExpire b0 b1 b2) := by
  refine ⟨_, rfl, ?_⟩
  refine onService_may h (Sub.rfl.inl.trans hm) hr (fun I h a0 ha0 => ?_) hb2
  · refine refWtr_may h (Sub.rfl.inr.trans hm) ha0

def execTransitionMeasureEnd_m : Nat := onService_m ||| transEnd_m
theorem execTransitionMeasureEnd_may (h : May M I) (hm : Sub execTransitionMeasureEnd_m M) (hr : Run M I) {b0} {b1} (hb1 : I b1) : Ans I (execTransitionMeasureEnd b0 b1) := by
  refine ⟨_, rfl, ?_⟩
  refine onService_may h (Sub.rfl.inl.trans hm) hr (fun I h a0 ha0 => ?_) hb1
  · refine transEnd_may h (Sub.rfl.inr.trans hm) ha0

def execPipForceEn_m : Nat := onHost_m ||| forceEn_m
theorem execPipForceEn_may (h : May M I) (hm : Sub execPipForceEn_m M) (hr : Run M I) {b0} {b1} {b2} {b3} (hb3 : I b3) : Ans I (execPipForceEn b0 b1 b2 b3) := by
  refine ⟨_, rfl, ?_⟩
  refine onHost_may h (Sub.rfl.inl.trans hm) hr (fun I h a0 ha0 => ?_) hb3
  · refine forceEn_may h (Sub.rfl.inr.trans hm) ha0

def execPipForceHold_m : Nat := onHost_m ||| forceHold_m
theorem execPipForceHold_may (h : May M I) (hm : Sub execPipForceHold_m M) (hr : Run M I) {b0} {b1} {b2} (hb2 : I b2) : Ans I (execPipForceHold b0 b1 b2) := by
  refine ⟨_, rfl, ?_⟩
  refine onHost_may h (Sub.rfl.inl.trans hm) hr (fun I h a0 ha0 => ?_) hb2
  · refine forceHold_may h (Sub.rfl.inr.trans hm) ha0

def execRefPrioWrite_m : Nat := onHost_m ||| refPrio_m
theorem execRefPrioWrite_may (h : May M I) (hm : Sub execRefPrioWrite_m M) (hr : Run M I) {b0} {b1} {b2} {b3} {b4} {b5} (hb5 : I b5) : Ans I (execRefPrioWrite b0 b1 b2 b3 b4 b5) := by
  refine ⟨_, rfl, ?_⟩
  refine onHost_may h (Sub.rfl.inl.trans hm) hr (fun I h a0 ha0 => ?_) hb5
  · refine refPrio_may h (Sub.rfl.inr.trans hm) ha0

def execPipClrCnt_m : Nat := mask pipCounters ||| whenHost_m ||| clearFlds_m
theorem execPipClrCnt_may (h : May M I) (hm : Sub execPipClrCnt_m M) {b0} (hb0 : I b0) : Ans I (execPipClrCnt b0) := by
  refine ⟨_, rfl, ?_⟩
  refine whenHost_may h (Sub.rfl.inr.inl.trans hm) (fun a0 ha0 => ?_) hb0
  · refine clearFlds_may h (Sub.rfl.inr.trans hm) ((Sub.rfl.inl.inl.trans hm).okAll (by decide +kernel)) ha0

def execPlaneFrameBoundary_m : Nat := onService_m ||| planeFrame_m
theorem execPlaneFrameBoundary_may (h : May M I) (hm : Sub execPlaneFrameBoundary_m M) (hr : Run M I) {b0} {b1} {b2} {b3} (hb3 : I b3) : Ans I (execPlaneFrameBoundary b0 b1 b2 b3) := by
  refine ⟨_, rfl, ?_⟩
  refine onService_may h (Sub.rfl.inl.trans hm) hr (fun I h a0 ha0 => ?_) hb3
  · refine planeFrame_may h (Sub.rfl.inr.trans hm) ha0

def execHardRealign_m : Nat := onHost_m ||| orderRealign_m
theorem execHardRealign_may (h : May M I) (hm : Sub execHardRealign_m M) (hr : Run M I) {b0} {b1} {b2} (hb2 : I b2) : Ans I (execHardRealign b0 b1 b2) := by
  refine ⟨_, rfl, ?_⟩
  refine onHost_may h (Sub.rfl.inl.trans hm) hr (fun I h a0 ha0 => ?_) hb2
  · refine orderRealign_may h (Sub.rfl.inr.trans hm) ha0

def execPulseEvent_m : Nat := onService_m ||| pulse_m
theorem execPulseEvent_may (h : May M I) (hm : Sub execPulseEvent_m M) (hr : Run M I) {b0} {b1} {b2} {b3} (hb3 : I b3) : Ans I (execPulseEvent b0 b1 b2 b3) := by
  refine ⟨_, rfl, ?_⟩
  refine onService_may h (Sub.rfl.inl.trans hm) hr (fun I h a0 ha0 => ?_) hb3
  · refine pulse_may h (Sub.rfl.inr.trans hm) ha0

def execPulseConfigWrite_m : Nat := onHost_m ||| pulseWrite_m
theorem execPulseConfigWrite_may (h : May M I) (hm : Sub execPulseConfigWrite_m M) (hr : Run M I) {b0} {b1} {b2} {b3} {b4} (hb4 : I b4) : Ans I (execPulseConfigWrite b0 b1 b2 b3 b4) := by
  refine ⟨_, rfl, ?_⟩
  refine onHost_may h (Sub.rfl.inl.trans hm) hr (fun I h a0 ha0 => ?_) hb4
  · refine pulseWrite_may h (Sub.rfl.inr.trans hm) ha0

def execTimeServoUpdate_m : Nat := onService_m ||| servo_m
theorem execTimeServoUpdate_may (h : May M I) (hm : Sub execTimeServoUpdate_m M) (hr : Run M I) {b0} {b1} {b2} (hb2 : I b2) : Ans I (execTimeServoUpdate b0 b1 b2) := by
  refine ⟨_, rfl, ?_⟩
  refine onService_may h (Sub.rfl.inl.trans hm) hr (fun I h a0 ha0 => ?_) hb2
  · refine servo_may h (Sub.rfl.inr.trans hm) ha0

def execLocalTimeSecond_m : Nat := onService_m ||| second_m
theorem execLocalTimeSecond_may (h : May M I) (hm : Sub execLocalTimeSecond_m M) (hr : Run M I) {b0} {b1} (hb1 : I b1) : Ans I (execLocalTimeSecond b0 b1) := by
  refine ⟨_, rfl, ?_⟩
  refine onService_may h (Sub.rfl.inl.trans hm) hr (fun I h a0 ha0 => ?_) hb1
  · refine second_may h (Sub.rfl.inr.trans hm) ha0

def execTimSetApply_m : Nat := onHost_m ||| timApply_m
theorem execTimSetApply_may (h : May M I) (hm : Sub execTimSetApply_m M) (hr : Run M I) {b0} {b1} (hb1 : I b1) : Ans I (execTimSetApply b0 b1) := by
  refine ⟨_, rfl, ?_⟩
  refine onHost_may h (Sub.rfl.inl.trans hm) hr (fun I h a0 ha0 => ?_) hb1
  · refine timApply_may h (Sub.rfl.inr.trans hm) ha0

def execTimClrCnt_m : Nat := mask timCounters ||| whenHost_m ||| clearFlds_m
theorem execTimClrCnt_may (h : May M I) (hm : Sub execTimClrCnt_m M) {b0} (hb0 : I b0) : Ans I (execTimClrCnt b0) := by
  refine ⟨_, rfl, ?_⟩
  refine whenHost_may h (Sub.rfl.inr.inl.trans hm) (fun a0 ha0 => ?_) hb0
  · refine clearFlds_may h (Sub.rfl.inr.trans hm) ((Sub.rfl.inl.inl.trans hm).okAll (by decide +kernel)) ha0

def execPtpCfgWrite_m : Nat := onHost_m ||| ptpCfg_m
theorem execPtpCfgWrite_may (h : May M I) (hm : Sub execPtpCfgWrite_m M) (hr : Run M I) {b0} {b1} {b2} {b3} (hb3 : I b3) : Ans I (execPtpCfgWrite b0 b1 b2 b3) := by
  refine ⟨_, rfl, ?_⟩
  refine onHost_may h (Sub.rfl.inl.trans hm) hr (fun I h a0 ha0 => ?_) hb3
  · refine ptpCfg_may h (Sub.rfl.inr.trans hm) ha0

def execPtpMessageRx_m : Nat := onService_m ||| ptpMessage_m
theorem execPtpMessageRx_may (h : May M I) (hm : Sub execPtpMessageRx_m M) (hr : Run M I) {b0} {b1} {b2} {b3} {b4} {b5} (hb5 : I b5) : Ans I (execPtpMessageRx b0 b1 b2 b3 b4 b5) := by
  refine ⟨_, rfl, ?_⟩
  refine onService_may h (Sub.rfl.inl.trans hm) hr (fun I h a0 ha0 => ?_) hb5
  · refine ptpMessage_may h (Sub.rfl.inr.trans hm) ha0

def execAnnounceTimeout_m : Nat := onService_m ||| announceLate_m
theorem execAnnounceTimeout_may (h : May M I) (hm : Sub execAnnounceTimeout_m M) (hr : Run M I) {b0} {b1} {b2} (hb2 : I b2) : Ans I (execAnnounceTimeout b0 b1 b2) := by
  refine ⟨_, rfl, ?_⟩
  refine onService_may h (Sub.rfl.inl.trans hm) hr (fun I h a0 ha0 => ?_) hb2
  · refine announceLate_may h (Sub.rfl.inr.trans hm) ha0

def execDelayReqTx_m : Nat := onService_m ||| sendDelayReq_m
theorem execDelayReqTx_may (h : May M I) (hm : Sub execDelayReqTx_m M) (hr : Run M I) {b0} {b1} {b2} (hb2 : I b2) : Ans I (execDelayReqTx b0 b1 b2) := by
  refine ⟨_, rfl, ?_⟩
  refine onService_may h (Sub.rfl.inl.trans hm) hr (fun I h a0 ha0 => ?_) hb2
  · refine sendDelayReq_may h (Sub.rfl.inr.trans hm) ha0

def withdraw_m : Nat := mask [TWN_STATUS.WITHDRAWN, LNO_EVT.DOWN, LNO_STATUS.STATE] ||| setTwin_m ||| setF_m ||| forEach_m ||| raiseLane_m ||| noteDrop_m
theorem withdraw_may (h : May M I) (hm : Sub withdraw_m M) {b0} (hb0 : I b0) : I (withdraw b0) := by
  have ho := (Sub.rfl.inl.inl.inl.inl.inl.trans hm)
  unfold withdraw
  extract_lets -merge -useContext x0
  refine setTwin_may h (Sub.rfl.inr.inl.inl.inl.inl.trans hm) ?_
  · refine setF_may h (Sub.rfl.inr.inl.inl.inl.trans hm) (ho.ok (by decide +kernel)) ?_
    · refine forEach_may h (Sub.rfl.inr.inl.inl.trans hm) (fun a1 a2 ha2 => ?_) hb0
      · refine may_ite ?_ ?_
        · refine raiseLane_may h (Sub.rfl.inr.inl.trans hm) (ho.okAll (by decide +kernel)) ?_
          · refine setF_may h (Sub.rfl.inr.inl.inl.inl.trans hm) (ho.ok (by decide +kernel)) ha2
        · refine noteDrop_may h (Sub.rfl.inr.trans hm) ?_
          · refine raiseLane_may h (Sub.rfl.inr.inl.trans hm) (ho.okAll (by decide +kernel)) ?_
            · refine setF_may h (Sub.rfl.inr.inl.inl.inl.trans hm) (ho.ok (by decide +kernel)) ha2

def returnLanes_m : Nat := mask [TWN_STATUS.WITHDRAWN] ||| forEach_m ||| outActive_m ||| setTwin_m ||| setF_m
theorem returnLanes_may (h : May M I) (hm : Sub returnLanes_m M) {b0} (hb0 : I b0) : I (returnLanes b0) := by
  have ho := (Sub.rfl.inl.inl.inl.inl.trans hm)
  unfold returnLanes
  extract_lets -merge -useContext x0
  refine forEach_may h (Sub.rfl.inr.inl.inl.inl.trans hm) (fun a1 a2 ha2 => ?_) ?_
  · refine may_ite ?_ ?_
    · refine outActive_may h (Sub.rfl.inr.inl.inl.trans hm) ha2
    · exact ha2
  · refine setTwin_may h (Sub.rfl.inr.inl.trans hm) ?_
    · refine setF_may h (Sub.rfl.inr.trans hm) (ho.ok (by decide +kernel)) hb0

def yieldedToHeel_m : Nat := enterRole_m ||| returnLanes_m
theorem yieldedToHeel_may (h : May M I) (hm : Sub yieldedToHeel_m M) {b0} (hb0 : I b0) : I (yieldedToHeel b0) := by
  unfold yieldedToHeel
  refine enterRole_may h (Sub.rfl.inl.trans hm) ?_
  · refine may_ite ?_ ?_
    · refine returnLanes_may h (Sub.rfl.inr.trans hm) hb0
    · exact hb0

def setPath_m : Nat := setTwin_m
theorem setPath_may (h : May M I) (hm : Sub setPath_m M) {b0} {b1} {b2} (hb2 : I b2) : I (setPath b0 b1 b2) := by
  unfold setPath
  refine setTwin_may h (Sub.rfl.trans hm) hb2

def linkLost_m : Nat := mask [TWN_STATUS.SYNC, TWN_PHASE.PHASE_NS] ||| refLoss_m ||| setTwin_m ||| setF_m ||| markStale_m ||| setCmd_m
theorem linkLost_may (h : May M I) (hm : Sub linkLost_m M) {b0} (hb0 : I b0) : I (linkLost b0) := by
  have ho := (Sub.rfl.inl.inl.inl.inl.inl.trans hm)
  unfold linkLost
  extract_lets -merge -useContext x0 x1
  have hx0 : I x0 := by
    unfold x0
    refine refLoss_may h (Sub.rfl.inr.inl.inl.inl.inl.trans hm) ?_
    · refine setTwin_may h (Sub.rfl.inr.inl.inl.inl.trans hm) ?_
      · refine setF_may h (Sub.rfl.inr.inl.inl.trans hm) (ho.ok (by decide +kernel)) ?_
        · refine setF_may h (Sub.rfl.inr.inl.inl.trans hm) (ho.ok (by decide +kernel)) hb0
  clear_value x0
  have hx1 : I x1 := by
    unfold x1
    refine may_ite ?_ ?_
    · refine markStale_may h (Sub.rfl.inr.inl.trans hm) hx0
    · exact hx0
  clear_value x1
  refine may_ite ?_ ?_
  · refine setCmd_may h (Sub.rfl.inr.trans hm) hx1
  · exact hx1

def losePath_m : Nat := mask [TWN_EVT.PATH, TWN_STATUS.LINK_UP, TWN_STATUS.WATCH_UP, TWN_EVT.TWIN_LOST] ||| raise_m ||| setPath_m ||| setF_m ||| linkLost_m ||| setTwin_m
theorem losePath_may (h : May M I) (hm : Sub losePath_m M) {b0} {b1} (hb1 : I b1) : I (losePath b0 b1) := by
  have ho := (Sub.rfl.inl.inl.inl.inl.inl.trans hm)
  unfold losePath
  extract_lets -merge -useContext x0 x1
  have hx0 : I x0 := by
    unfold x0
    refine raise_may h (Sub.rfl.inr.inl.inl.inl.inl.trans hm) (ho.okAll (by decide +kernel)) ?_
    · refine setPath_may h (Sub.rfl.inr.inl.inl.inl.trans hm) ?_
      · refine setF_may h (Sub.rfl.inr.inl.inl.trans hm) (by unfold pathFld; split <;> exact ho.ok (by decide +kernel)) hb1
  clear_value x0
  have hx1 : I x1 := by
    unfold x1
    refine may_ite ?_ ?_
    · refine linkLost_may h (Sub.rfl.inr.inl.trans hm) hx0
    · exact hx0
  clear_value x1
  refine may_ite ?_ ?_
  · exact hb1
  · refine may_ite ?_ ?_
    · refine setTwin_may h (Sub.rfl.inr.trans hm) ?_
      · refine raise_may h (Sub.rfl.inr.inl.inl.inl.inl.trans hm) (ho.okAll (by decide +kernel)) hx1
    · exact hx1

def goodBark_m : Nat := mask [TWN_EVT.PATH, TWN_STATUS.LINK_UP, TWN_STATUS.WATCH_UP, TWN_STATUS.TWIN_PRESENT] ||| setPath_m ||| setTwin_m ||| raise_m ||| setF_m
theorem goodBark_may (h : May M I) (hm : Sub goodBark_m M) {b0} {b1} {b2} (hb2 : I b2) : I (goodBark b0 b1 b2) := by
  have ho := (Sub.rfl.inl.inl.inl.inl.trans hm)
  unfold goodBark
  extract_lets -merge -useContext x0 x1 x2
  have hx1 : I x1 := by
    unfold x1
    refine setPath_may h (Sub.rfl.inr.inl.inl.inl.trans hm) hb2
  clear_value x1
  have hx2 : I x2 := by
    unfold x2
    refine setTwin_may h (Sub.rfl.inr.inl.inl.trans hm) ?_
    · refine raise_may h (Sub.rfl.inr.inl.trans hm) (ho.okAll (by decide +kernel)) ?_
      · refine setF_may h (Sub.rfl.inr.trans hm) (by unfold pathFld; split <;> exact ho.ok (by decide +kernel)) hx1
  clear_value x2
  refine may_ite ?_ ?_
  · refine may_ite ?_ ?_
    · exact hx2
    · refine setF_may h (Sub.rfl.inr.trans hm) (ho.ok (by decide +kernel)) hx2
  · exact hx1

def missBark_m : Nat := mask [TWN_LINK_MISS_CNT.COUNT, TWN_CNT_FLAGS.OVF, TWN_WATCH_MISS_CNT.COUNT] ||| bump32F_m ||| setPath_m
theorem missBark_may (h : May M I) (hm : Sub missBark_m M) {b0} {b1} (hb1 : I b1) : I (missBark b0 b1) := by
  have ho := (Sub.rfl.inl.inl.trans hm)
  unfold missBark
  extract_lets -merge -useContext x0
  have hx0 : I x0 := by
    unfold x0
    refine may_ite ?_ ?_
    · refine bump32F_may h (Sub.rfl.inr.inl.trans hm) (ho.ok (by decide +kernel)) (ho.ok (by decide +kernel)) hb1
    · refine bump32F_may h (Sub.rfl.inr.inl.trans hm) (ho.ok (by decide +kernel)) (ho.ok (by decide +kernel)) hb1
  clear_value x0
  refine may_ite ?_ ?_
  · refine setPath_may h (Sub.rfl.inr.trans hm) hb1
  · refine may_ite ?_ ?_
    · exact hx0
    · refine setPath_may h (Sub.rfl.inr.trans hm) hx0

def lapseContacts_m : Nat := setTwinContact_m ||| setTwin_m
theorem lapseContacts_may (h : May M I) (hm : Sub lapseContacts_m M) {b0} (hb0 : I b0) : I (lapseContacts b0) := by
  unfold lapseContacts
  split
  · refine may_ite ?_ ?_
    · refine setTwinContact_may h (Sub.rfl.inl.trans hm) ?_
      · refine setTwinContact_may h (Sub.rfl.inl.trans hm) ?_
        · refine setTwin_may h (Sub.rfl.inr.trans hm) hb0
    · exact hb0
  · exact hb0

def loseCode_m : Nat := refLoss_m
theorem loseCode_may (h : May M I) (hm : Sub loseCode_m M) {b0} (hb0 : I b0) : I (loseCode b0) := by
  unfold loseCode
  refine may_ite ?_ ?_
  · exact hb0
  · refine refLoss_may h (Sub.rfl.trans hm) hb0

def stepNoPlane_m : Nat := setTwin_m ||| twinStep_m
theorem stepNoPlane_may (h : May M I) (hm : Sub stepNoPlane_m M) {b0} (hb0 : I b0) : I (stepNoPlane b0) := by
  unfold stepNoPlane
  extract_lets -merge -useContext x0
  refine may_ite ?_ ?_
  · exact hb0
  · split
    · refine may_ite ?_ ?_
      · refine setTwin_may h (Sub.rfl.inl.trans hm) hb0
      · refine may_ite ?_ ?_
        · refine twinStep_may h (Sub.rfl.inr.trans hm) ?_
          · refine setTwin_may h (Sub.rfl.inl.trans hm) hb0
        · exact hb0
    · refine may_ite ?_ ?_
      · refine setTwin_may h (Sub.rfl.inl.trans hm) hb0
      · exact hb0

def sendBarks_m : Nat := setTwin_m ||| emit_m ||| stepNoPlane_m ||| loseCode_m ||| lapseContacts_m ||| missBark_m
theorem sendBarks_may (h : May M I) (hm : Sub sendBarks_m M) {b0} (hb0 : I b0) : I (sendBarks b0) := by
  unfold sendBarks
  extract_lets -merge -useContext x0 x1 x2
  have hx0 : I x0 := by
    unfold x0
    refine setTwin_may h (Sub.rfl.inl.inl.inl.inl.inl.trans hm) hb0
  clear_value x0
  have hx1 : I x1 := by
    unfold x1
    refine may_ite ?_ ?_
    · exact hx0
    · refine emit_may h (Sub.rfl.inr.inl.inl.inl.inl.trans hm) hx0
  clear_value x1
  have hx2 : I x2 := by
    unfold x2
    refine may_ite ?_ ?_
    · exact hx1
    · refine emit_may h (Sub.rfl.inr.inl.inl.inl.inl.trans hm) hx1
  clear_value x2
  refine may_ite ?_ ?_
  · exact hb0
  · refine may_ite ?_ ?_
    · exact hx2
    · refine stepNoPlane_may h (Sub.rfl.inr.inl.inl.inl.trans hm) ?_
      · refine loseCode_may h (Sub.rfl.inr.inl.inl.trans hm) ?_
        · refine lapseContacts_may h (Sub.rfl.inr.inl.trans hm) ?_
          · refine missBark_may h (Sub.rfl.inr.trans hm) ?_
            · refine missBark_may h (Sub.rfl.inr.trans hm) hx2

def noteDouble_m : Nat := mask [TWN_EVT.DOUBLE_CLAIM, TWN_DOUBLE_CLAIM_CNT.COUNT, TWN_CNT_FLAGS.OVF] ||| raise_m ||| bump32F_m ||| setTwin_m
theorem noteDouble_may (h : May M I) (hm : Sub noteDouble_m M) {b0} {b1} (hb1 : I b1) : I (noteDouble b0 b1) := by
  have ho := (Sub.rfl.inl.inl.inl.trans hm)
  unfold noteDouble
  refine may_ite ?_ ?_
  · refine may_ite ?_ ?_
    · exact hb1
    · refine raise_may h (Sub.rfl.inr.inl.inl.trans hm) (ho.okAll (by decide +kernel)) ?_
      · refine bump32F_may h (Sub.rfl.inr.inl.trans hm) (ho.ok (by decide +kernel)) (ho.ok (by decide +kernel)) ?_
        · refine setTwin_may h (Sub.rfl.inr.trans hm) hb1
  · refine setTwin_may h (Sub.rfl.inr.trans hm) hb1

def barkRole_m : Nat := enterRole_m ||| yieldedToHeel_m
theorem barkRole_may (h : May M I) (hm : Sub barkRole_m M) {b0} {b1} (hb1 : I b1) : I (barkRole b0 b1) := by
  unfold barkRole
  extract_lets -merge -useContext x0
  refine may_ite ?_ ?_
  · exact hb1
  · refine may_ite ?_ ?_
    · refine may_ite ?_ ?_
      · exact hb1
      · refine may_ite ?_ ?_
        · refine enterRole_may h (Sub.rfl.inl.trans hm) hb1
        · refine may_ite ?_ ?_
          · refine may_ite ?_ ?_
            · refine enterRole_may h (Sub.rfl.inl.trans hm) hb1
            · refine enterRole_may h (Sub.rfl.inl.trans hm) hb1
          · refine enterRole_may h (Sub.rfl.inl.trans hm) hb1
    · refine may_ite ?_ ?_
      · refine may_ite ?_ ?_
        · refine enterRole_may h (Sub.rfl.inl.trans hm) hb1
        · exact hb1
      · refine may_ite ?_ ?_
        · refine may_ite ?_ ?_
          · refine enterRole_may h (Sub.rfl.inl.trans hm) hb1
          · exact hb1
        · refine may_ite ?_ ?_
          · refine yieldedToHeel_may h (Sub.rfl.inr.trans hm) hb1
          · exact hb1

def linkMeasures_m : Nat := mask [TWN_LINK_DELAY.DELAY_NS, TWN_PHASE.PHASE_NS] ||| setF_m ||| setTwin_m ||| drawn_m
theorem linkMeasures_may (h : May M I) (hm : Sub linkMeasures_m M) {b0} {b1} (hb1 : I b1) : I (linkMeasures b0 b1) := by
  have ho := (Sub.rfl.inl.inl.inl.trans hm)
  unfold linkMeasures
  extract_lets -merge -useContext x0 x1 x2 x3 x4
  have hx2 : I x2 := by
    unfold x2
    refine may_ite ?_ ?_
    · exact hb1
    · refine setF_may h (Sub.rfl.inr.inl.inl.trans hm) (ho.ok (by decide +kernel)) hb1
  clear_value x2
  have hx3 : I x3 := by
    unfold x3
    refine setTwin_may h (Sub.rfl.inr.inl.trans hm) hx2
  clear_value x3
  refine setF_may h (Sub.rfl.inr.inl.inl.trans hm) (ho.ok (by decide +kernel)) ?_
  · refine drawn_may h (Sub.rfl.inr.trans hm) hx3

def noteTwin_m : Nat := mask [TWN_STATUS.DIGEST_OK, TWN_STATUS.TWIN_FIT, TWN_STATUS.TWIN_CLAIM, TWN_STATUS.TWIN_ROLE] ||| setTwin_m ||| setF_m ||| setB_m ||| setTwinContact_m
theorem noteTwin_may (h : May M I) (hm : Sub noteTwin_m M) {b0} {b1} {b2} (hb2 : I b2) : I (noteTwin b0 b1 b2) := by
  have ho := (Sub.rfl.inl.inl.inl.inl.trans hm)
  unfold noteTwin
  extract_lets -merge -useContext x0 x1 x2
  have hx0 : I x0 := by
    unfold x0
    refine may_ite ?_ ?_
    · exact hb2
    · refine setTwin_may h (Sub.rfl.inr.inl.inl.inl.trans hm) hb2
  clear_value x0
  have hx1 : I x1 := by
    unfold x1
    refine may_ite ?_ ?_
    · refine setTwin_may h (Sub.rfl.inr.inl.inl.inl.trans hm) ?_
      · refine setF_may h (Sub.rfl.inr.inl.inl.trans hm) (ho.ok (by decide +kernel)) hx0
    · exact hx0
  clear_value x1
  have hx2 : I x2 := by
    unfold x2
    refine setB_may h (Sub.rfl.inr.inl.trans hm) (ho.ok (by decide +kernel)) ?_
    · refine setB_may h (Sub.rfl.inr.inl.trans hm) (ho.ok (by decide +kernel)) ?_
      · refine setF_may h (Sub.rfl.inr.inl.inl.trans hm) (ho.ok (by decide +kernel)) ?_
        · refine setTwin_may h (Sub.rfl.inr.inl.inl.inl.trans hm) hx1
  clear_value x2
  refine may_ite ?_ ?_
  · refine setTwinContact_may h (Sub.rfl.inr.trans hm) ?_
    · refine setTwinContact_may h (Sub.rfl.inr.trans hm) hx2
  · exact hx2

def rxBark_m : Nat := mask [TWN_EVT.PAIR_MISMATCH] ||| noteTwin_m ||| goodBark_m ||| linkMeasures_m ||| setTwin_m ||| raise_m ||| yieldedToHeel_m ||| barkRole_m ||| noteDouble_m
theorem rxBark_may (h : May M I) (hm : Sub rxBark_m M) {b0} {b1} {b2} (hb2 : I b2) : I (rxBark b0 b1 b2) := by
  have ho := (Sub.rfl.inl.inl.inl.inl.inl.inl.inl.inl.trans hm)
  unfold rxBark
  split
  · exact hb2
  · extract_lets -merge -useContext x0 x1 x2
    have hx0 : I x0 := by
      unfold x0
      refine noteTwin_may h (Sub.rfl.inr.inl.inl.inl.inl.inl.inl.inl.trans hm) ?_
      · refine goodBark_may h (Sub.rfl.inr.inl.inl.inl.inl.inl.inl.trans hm) hb2
    clear_value x0
    have hx1 : I x1 := by
      unfold x1
      refine may_ite ?_ ?_
      · refine linkMeasures_may h (Sub.rfl.inr.inl.inl.inl.inl.inl.trans hm) hx0
      · exact hx0
    clear_value x1
    have hx2 : I x2 := by
      unfold x2
      refine may_ite ?_ ?_
      · refine setTwin_may h (Sub.rfl.inr.inl.inl.inl.inl.trans hm) hx1
      · exact hx1
    clear_value x2
    refine may_ite ?_ ?_
    · exact hb2
    · refine may_ite ?_ ?_
      · refine raise_may h (Sub.rfl.inr.inl.inl.inl.trans hm) (ho.okAll (by decide +kernel)) hb2
      · refine may_ite ?_ ?_
        · refine may_ite ?_ ?_
          · refine yieldedToHeel_may h (Sub.rfl.inr.inl.inl.trans hm) hb2
          · exact hb2
        · refine may_ite ?_ ?_
          · exact hb2
          · refine barkRole_may h (Sub.rfl.inr.inl.trans hm) ?_
            · refine noteDouble_may h (Sub.rfl.inr.trans hm) hx2

def handshakeEnd_m : Nat := mask [TWN_STATUS.TWIN_PRESENT] ||| enterRole_m ||| setF_m
theorem handshakeEnd_may (h : May M I) (hm : Sub handshakeEnd_m M) {b0} (hb0 : I b0) : I (handshakeEnd b0) := by
  have ho := (Sub.rfl.inl.inl.trans hm)
  unfold handshakeEnd
  split
  · refine may_ite ?_ ?_
    · refine enterRole_may h (Sub.rfl.inr.inl.trans hm) ?_
      · refine setF_may h (Sub.rfl.inr.trans hm) (ho.ok (by decide +kernel)) hb0
    · exact hb0
  · exact hb0

def evidence_m : Nat := updateEvidence_m ||| enterRole_m
theorem evidence_may (h : May M I) (hm : Sub evidence_m M) {b0} (hb0 : I b0) : I (evidence b0) := by
  unfold evidence
  extract_lets -merge -useContext x0
  have hx0 : I x0 := by
    unfold x0
    refine updateEvidence_may h (Sub.rfl.inl.trans hm) hb0
  clear_value x0
  refine may_ite ?_ ?_
  · exact hx0
  · refine may_ite ?_ ?_
    · refine enterRole_may h (Sub.rfl.inr.trans hm) hx0
    · refine may_ite ?_ ?_
      · refine enterRole_may h (Sub.rfl.inr.trans hm) hx0
      · exact hx0

def watchdog_m : Nat := setDiag_m ||| enterRole_m ||| setTwin_m
theorem watchdog_may (h : May M I) (hm : Sub watchdog_m M) {b0} (hb0 : I b0) : I (watchdog b0) := by
  unfold watchdog
  extract_lets -merge -useContext x0
  have hx0 : I x0 := by
    unfold x0
    refine setDiag_may h (Sub.rfl.inl.inl.trans hm) hb0
  clear_value x0
  refine may_ite ?_ ?_
  · exact hb0
  · refine may_ite ?_ ?_
    · exact hx0
    · refine enterRole_may h (Sub.rfl.inr.inl.trans hm) ?_
      · refine setTwin_may h (Sub.rfl.inr.trans hm) hx0

def yieldEnd_m : Nat := withdraw_m
theorem yieldEnd_may (h : May M I) (hm : Sub yieldEnd_m M) {b0} (hb0 : I b0) : I (yieldEnd b0) := by
  unfold yieldEnd
  refine may_ite ?_ ?_
  · refine withdraw_may h (Sub.rfl.trans hm) hb0
  · exact hb0

def withdrawOver_m : Nat := yieldedToHeel_m
theorem withdrawOver_may (h : May M I) (hm : Sub withdrawOver_m M) {b0} (hb0 : I b0) : I (withdrawOver b0) := by
  unfold withdrawOver
  refine may_ite ?_ ?_
  · refine yieldedToHeel_may h (Sub.rfl.trans hm) hb0
  · exact hb0

def fitRestore_m : Nat := clearDiag_m
theorem fitRestore_may (h : May M I) (hm : Sub fitRestore_m M) {b0} {b1} (hb1 : I b1) : I (fitRestore b0 b1) := by
  unfold fitRestore
  refine may_ite ?_ ?_
  · refine may_ite ?_ ?_
    · refine clearDiag_may h (Sub.rfl.trans hm) hb1
    · exact hb1
  · refine may_ite ?_ ?_
    · split
      · refine may_ite ?_ ?_
        · refine clearDiag_may h (Sub.rfl.trans hm) hb1
        · exact hb1
      · exact hb1
    · exact hb1

def mirrorApply_m : Nat := takeApply_m ||| salvoApply_m ||| freezeApply_m ||| captureApply_m ||| memberEnd_m ||| selectApply_m ||| shadowApply_m ||| commitApply_m ||| bundleApply_m ||| reqApply_m ||| audMapApply_m ||| reeWriteApply_m ||| flwApply_m
theorem mirrorApply_may (h : May M I) (hm : Sub mirrorApply_m M) {b0} {b1} {b2} {b3} (hb3 : I b3) : I (mirrorApply b0 b1 b2 b3) := by
  unfold mirrorApply
  split
  · refine takeApply_may h (Sub.rfl.inl.inl.inl.inl.inl.inl.inl.inl.inl.inl.inl.inl.trans hm) hb3
  · refine salvoApply_may h (Sub.rfl.inr.inl.inl.inl.inl.inl.inl.inl.inl.inl.inl.inl.trans hm) hb3
  · refine freezeApply_may h (Sub.rfl.inr.inl.inl.inl.inl.inl.inl.inl.inl.inl.inl.trans hm) hb3
  · refine may_ite ?_ ?_
    · refine captureApply_may h (Sub.rfl.inr.inl.inl.inl.inl.inl.inl.inl.inl.inl.trans hm) hb3
    · refine memberEnd_may h (Sub.rfl.inr.inl.inl.inl.inl.inl.inl.inl.inl.trans hm) hb3
  · refine selectApply_may h (Sub.rfl.inr.inl.inl.inl.inl.inl.inl.inl.trans hm) hb3
  · refine shadowApply_may h (Sub.rfl.inr.inl.inl.inl.inl.inl.inl.trans hm) hb3
  · refine commitApply_may h (Sub.rfl.inr.inl.inl.inl.inl.inl.trans hm) hb3
  · refine bundleApply_may h (Sub.rfl.inr.inl.inl.inl.inl.trans hm) hb3
  · refine reqApply_may h (Sub.rfl.inr.inl.inl.inl.trans hm) hb3
  · refine audMapApply_may h (Sub.rfl.inr.inl.inl.trans hm) hb3
  · refine reeWriteApply_may h (Sub.rfl.inr.inl.trans hm) hb3
  · refine flwApply_may h (Sub.rfl.inr.trans hm) hb3
  · refine memberEnd_may h (Sub.rfl.inr.inl.inl.inl.inl.inl.inl.inl.inl.trans hm) hb3

def takeMirror_m : Nat := mask [TWN_MSEQ.MSEQ] ||| setTwin_m ||| markStale_m ||| sendTwin_m ||| openMirror_m ||| mirrorApply_m ||| setF_m
theorem takeMirror_may (h : May M I) (hm : Sub takeMirror_m M) {b0} {b1} {b2} (hb2 : I b2) : I (takeMirror b0 b1 b2) := by
  have ho := (Sub.rfl.inl.inl.inl.inl.inl.inl.trans hm)
  unfold takeMirror
  dsimp only
  have hx : I (setTwin (fun w => { w with mseqWant := some (b1.mseq + 1) }) b2) := setTwin_may h (Sub.rfl.inr.inl.inl.inl.inl.inl.trans hm) hb2
  have hs := markStale_may h (Sub.rfl.inr.inl.inl.inl.inl.trans hm) (b0 := true) hx
  have hc : I (if (mirrorCheck b1 (setTwin (fun w => { w with mseqWant := some (b1.mseq + 1) }) b2)).isSome then
      markStale true (setTwin (fun w => { w with mseqWant := some (b1.mseq + 1) }) b2)
    else setTwin (fun w => { w with mseqWant := some (b1.mseq + 1) }) b2) := may_ite hs hx
  split
  all_goals
    refine may_ite hs (may_ite (sendTwin_may h (Sub.rfl.inr.inl.inl.inl.trans hm) hs) ?_)
    exact mirrorApply_may h (Sub.rfl.inr.inl.trans hm) (setF_may h (Sub.rfl.inr.trans hm) (ho.ok (by decide +kernel)) (openMirror_may h (Sub.rfl.inr.inl.inl.trans hm) hc))

def rxMirror_m : Nat := mask [TWN_RING_LAST.INDEX, TWN_RING_LAST.VALID] ||| setF_m ||| sendTwin_m ||| setTwin_m ||| takeMirror_m ||| markStale_m
theorem rxMirror_may (h : May M I) (hm : Sub rxMirror_m M) {b0} {b1} (hb1 : I b1) : I (rxMirror b0 b1) := by
  have ho := (Sub.rfl.inl.inl.inl.inl.inl.trans hm)
  unfold rxMirror
  extract_lets -merge -useContext x0
  have hx0 : I x0 := by
    unfold x0
    refine setF_may h (Sub.rfl.inr.inl.inl.inl.inl.trans hm) (ho.ok (by decide +kernel)) ?_
    · refine setF_may h (Sub.rfl.inr.inl.inl.inl.inl.trans hm) (ho.ok (by decide +kernel)) ?_
      · refine sendTwin_may h (Sub.rfl.inr.inl.inl.inl.trans hm) hb1
  clear_value x0
  refine may_ite ?_ ?_
  · exact hb1
  · refine may_ite ?_ ?_
    · refine may_ite ?_ ?_
      · exact hx0
      · refine setTwin_may h (Sub.rfl.inr.inl.inl.trans hm) hx0
    · split
      · refine may_ite ?_ ?_
        · exact hx0
        · refine takeMirror_may h (Sub.rfl.inr.inl.trans hm) ?_
          · refine may_ite ?_ ?_
            · refine markStale_may h (Sub.rfl.inr.trans hm) hx0
            · exact hx0
      · refine takeMirror_may h (Sub.rfl.inr.inl.trans hm) hx0

def modMirrored_m : Nat := setCmd_m
theorem modMirrored_may (h : May M I) (hm : Sub modMirrored_m M) {b0} {b1} {b2} (hb2 : I b2) : I (modMirrored b0 b1 b2) := by
  unfold modMirrored
  refine setCmd_may h (Sub.rfl.trans hm) hb2

def rxMirrorAck_m : Nat := setTwin_m ||| modMirrored_m
theorem rxMirrorAck_may (h : May M I) (hm : Sub rxMirrorAck_m M) {b0} {b1} (hb1 : I b1) : I (rxMirrorAck b0 b1) := by
  unfold rxMirrorAck
  refine may_ite ?_ ?_
  · exact hb1
  · refine setTwin_may h (Sub.rfl.inl.trans hm) ?_
    · refine modMirrored_may h (Sub.rfl.inr.trans hm) hb1

def rxCommitRpt_m : Nat := modMirrored_m
theorem rxCommitRpt_may (h : May M I) (hm : Sub rxCommitRpt_m M) {b0} {b1} {b2} (hb2 : I b2) : I (rxCommitRpt b0 b1 b2) := by
  unfold rxCommitRpt
  refine may_ite ?_ ?_
  · exact hb2
  · refine modMirrored_may h (Sub.rfl.trans hm) hb2

def putChoice_m : Nat := setTwin_m
theorem putChoice_may (h : May M I) (hm : Sub putChoice_m M) {b0} {b1} (hb1 : I b1) : I (putChoice b0 b1) := by
  unfold putChoice
  refine setTwin_may h (Sub.rfl.trans hm) hb1

def lateChoice_m : Nat := mask [TWN_EVT.DECIDE_LATE, TWN_DECIDE_LATE_CNT.COUNT, TWN_CNT_FLAGS.OVF] ||| raise_m ||| bump32F_m
theorem lateChoice_may (h : May M I) (hm : Sub lateChoice_m M) {b0} (hb0 : I b0) : I (lateChoice b0) := by
  have ho := (Sub.rfl.inl.inl.trans hm)
  unfold lateChoice
  refine raise_may h (Sub.rfl.inr.inl.trans hm) (ho.okAll (by decide +kernel)) ?_
  · refine bump32F_may h (Sub.rfl.inr.trans hm) (ho.ok (by decide +kernel)) (ho.ok (by decide +kernel)) hb0

def rxDecision_m : Nat := lateChoice_m ||| putChoice_m ||| orderMove_m ||| rxDecide_m ||| moveMembers_m ||| setCmd_m ||| dropMembers_m
theorem rxDecision_may (h : May M I) (hm : Sub rxDecision_m M) {b0} {b1} (hb1 : I b1) : I (rxDecision b0 b1) := by
  unfold rxDecision
  extract_lets -merge -useContext x0 x1 x2
  have hx0 : I x0 := by
    unfold x0
    refine lateChoice_may h (Sub.rfl.inl.inl.inl.inl.inl.inl.trans hm) hb1
  clear_value x0
  have hx1 : I x1 := by
    unfold x1
    refine lateChoice_may h (Sub.rfl.inl.inl.inl.inl.inl.inl.trans hm) hb1
  clear_value x1
  have hx2 : I x2 := by
    unfold x2
    refine lateChoice_may h (Sub.rfl.inl.inl.inl.inl.inl.inl.trans hm) hb1
  clear_value x2
  refine may_ite ?_ ?_
  · exact hb1
  · split
    · refine may_ite ?_ ?_
      · refine putChoice_may h (Sub.rfl.inr.inl.inl.inl.inl.inl.trans hm) hb1
      · refine putChoice_may h (Sub.rfl.inr.inl.inl.inl.inl.inl.trans hm) ?_
        · refine lateChoice_may h (Sub.rfl.inl.inl.inl.inl.inl.inl.trans hm) hb1
    · refine may_ite ?_ ?_
      · refine putChoice_may h (Sub.rfl.inr.inl.inl.inl.inl.inl.trans hm) hb1
      · refine may_ite ?_ ?_
        · refine orderMove_may h (Sub.rfl.inr.inl.inl.inl.inl.trans hm) hx0
        · exact hx0
    · refine may_ite ?_ ?_
      · refine putChoice_may h (Sub.rfl.inr.inl.inl.inl.inl.inl.trans hm) hb1
      · split
        · refine putChoice_may h (Sub.rfl.inr.inl.inl.inl.inl.inl.trans hm) hx1
        · exact hx1
    · refine may_ite ?_ ?_
      · refine putChoice_may h (Sub.rfl.inr.inl.inl.inl.inl.inl.trans hm) hb1
      · split
        · refine putChoice_may h (Sub.rfl.inr.inl.inl.inl.inl.inl.trans hm) hx2
        · exact hx2
    · refine rxDecide_may h (Sub.rfl.inr.inl.inl.inl.trans hm) hb1
    · split
      · exact hb1
      · split
        · refine moveMembers_may h (Sub.rfl.inr.inl.inl.trans hm) hb1
        · refine setCmd_may h (Sub.rfl.inr.inl.trans hm) ?_
          · refine dropMembers_may h (Sub.rfl.inr.trans hm) hb1

def rxResyncReq_m : Nat := setTwin_m ||| sendTwin_m
theorem rxResyncReq_may (h : May M I) (hm : Sub rxResyncReq_m M) {b0} {b1} (hb1 : I b1) : I (rxResyncReq b0 b1) := by
  unfold rxResyncReq
  refine may_ite ?_ ?_
  · exact hb1
  · refine setTwin_may h (Sub.rfl.inl.trans hm) ?_
    · refine sendTwin_may h (Sub.rfl.inr.trans hm) hb1

def rxResyncAck_m : Nat := setTwin_m
theorem rxResyncAck_may (h : May M I) (hm : Sub rxResyncAck_m M) {b0} {b1} (hb1 : I b1) : I (rxResyncAck b0 b1) := by
  unfold rxResyncAck
  refine may_ite ?_ ?_
  · refine setTwin_may h (Sub.rfl.trans hm) hb1
  · exact hb1

def rxState_m : Nat := mask [TWN_MSEQ.MSEQ] ||| sendTwin_m ||| forEach_m ||| takeMirror_m ||| takeState_m ||| setTwin_m ||| setF_m
theorem rxState_may (h : May M I) (hm : Sub rxState_m M) {b0} {b1} {b2} (hb2 : I b2) : I (rxState b0 b1 b2) := by
  have ho := (Sub.rfl.inl.inl.inl.inl.inl.inl.trans hm)
  unfold rxState
  extract_lets -merge -useContext x0
  refine may_ite ?_ ?_
  · exact hb2
  · refine may_ite ?_ ?_
    · refine sendTwin_may h (Sub.rfl.inr.inl.inl.inl.inl.inl.trans hm) hb2
    · refine may_ite ?_ ?_
      · exact hb2
      · refine forEach_may h (Sub.rfl.inr.inl.inl.inl.inl.trans hm) (fun a1 a2 ha2 => ?_) ?_
        · refine takeMirror_may h (Sub.rfl.inr.inl.inl.inl.trans hm) ha2
        · refine takeState_may h (Sub.rfl.inr.inl.inl.trans hm) ?_
          · refine setTwin_may h (Sub.rfl.inr.inl.trans hm) ?_
            · refine setF_may h (Sub.rfl.inr.trans hm) (ho.ok (by decide +kernel)) ?_
              · refine sendTwin_may h (Sub.rfl.inr.inl.inl.inl.inl.inl.trans hm) hb2

def rxStateAck_m : Nat := setTwin_m
theorem rxStateAck_may (h : May M I) (hm : Sub rxStateAck_m M) {b0} (hb0 : I b0) : I (rxStateAck b0) := by
  unfold rxStateAck
  refine may_ite ?_ ?_
  · refine setTwin_may h (Sub.rfl.trans hm) hb0
  · exact hb0

def retransmit_m : Nat := forEach_m ||| sendTwin_m ||| setTwin_m
theorem retransmit_may (h : May M I) (hm : Sub retransmit_m M) {b0} (hb0 : I b0) : I (retransmit b0) := by
  unfold retransmit
  extract_lets -merge -useContext x0 x1 x2
  refine forEach_may h (Sub.rfl.inl.inl.trans hm) (fun a3 a4 ha4 => ?_) ?_
  · refine sendTwin_may h (Sub.rfl.inr.inl.trans hm) ha4
  · refine setTwin_may h (Sub.rfl.inr.trans hm) hb0

def setHealth_m : Nat := forEach_m ||| setF_m
theorem setHealth_may (h : May M I) (hm : Sub setHealth_m M) {b0 : Fld} (hb0 : Ok M b0) {b1} {b2} (hb2 : I b2) : I (setHealth b0 b1 b2) := by
  unfold setHealth
  refine forEach_may h (Sub.rfl.inl.trans hm) (fun a0 a1 ha1 => ?_) hb2
  · refine setF_may h (Sub.rfl.inr.trans hm) hb0 ha1

def sendHealth_m : Nat := mask [TWN_HEALTH_OWN.WORD] ||| setTwin_m ||| sendTwin_m ||| setHealth_m
theorem sendHealth_may (h : May M I) (hm : Sub sendHealth_m M) {b0} (hb0 : I b0) : I (sendHealth b0) := by
  have ho := (Sub.rfl.inl.inl.inl.trans hm)
  unfold sendHealth
  extract_lets -merge -useContext x0
  have hx0 : I x0 := by
    unfold x0
    refine setTwin_may h (Sub.rfl.inr.inl.inl.trans hm) hb0
  clear_value x0
  refine may_ite ?_ ?_
  · exact hb0
  · refine sendTwin_may h (Sub.rfl.inr.inl.trans hm) ?_
    · refine setHealth_may h (Sub.rfl.inr.trans hm) (ho.ok (by decide +kernel)) hx0

def rxHealth_m : Nat := mask [TWN_HEALTH_TWIN.WORD, TWN_STATUS.DIGEST_OK, TWN_EVT.PAIR_MISMATCH] ||| setHealth_m ||| setF_m ||| setTwin_m ||| raise_m
theorem rxHealth_may (h : May M I) (hm : Sub rxHealth_m M) {b0} {b1} (hb1 : I b1) : I (rxHealth b0 b1) := by
  have ho := (Sub.rfl.inl.inl.inl.inl.trans hm)
  unfold rxHealth
  extract_lets -merge -useContext x0
  have hx0 : I x0 := by
    unfold x0
    refine setHealth_may h (Sub.rfl.inr.inl.inl.inl.trans hm) (ho.ok (by decide +kernel)) hb1
  clear_value x0
  refine may_ite ?_ ?_
  · exact hb1
  · refine may_ite ?_ ?_
    · refine setF_may h (Sub.rfl.inr.inl.inl.trans hm) (ho.ok (by decide +kernel)) ?_
      · refine setTwin_may h (Sub.rfl.inr.inl.trans hm) hx0
    · refine raise_may h (Sub.rfl.inr.trans hm) (ho.okAll (by decide +kernel)) ?_
      · refine setF_may h (Sub.rfl.inr.inl.inl.trans hm) (ho.ok (by decide +kernel)) ?_
        · refine setTwin_may h (Sub.rfl.inr.inl.trans hm) hx0

def sniff_m : Nat := mask [TWN_EVT.SNIFF_FAIL, TWN_SNIFF_FAIL_CNT.COUNT, TWN_CNT_FLAGS.OVF] ||| setTwin_m ||| correctedReads_m ||| rowError_m ||| raise_m ||| bump32F_m ||| setDiag_m ||| clearDiag_m
theorem sniff_may (h : May M I) (hm : Sub sniff_m M) {b0} {b1} {b2} {b3} (hb3 : I b3) : I (sniff b0 b1 b2 b3) := by
  have ho := (Sub.rfl.inl.inl.inl.inl.inl.inl.inl.trans hm)
  unfold sniff
  extract_lets -merge -useContext x0 x1 x2 x3 x4 x5 x6
  have hx3 : I x3 := by
    unfold x3
    refine setTwin_may h (Sub.rfl.inr.inl.inl.inl.inl.inl.inl.trans hm) hb3
  clear_value x3
  have hx4 : I x4 := by
    unfold x4
    refine correctedReads_may h (Sub.rfl.inr.inl.inl.inl.inl.inl.trans hm) hx3
  clear_value x4
  have hx5 : I x5 := by
    unfold x5
    refine may_ite ?_ ?_
    · refine rowError_may h (Sub.rfl.inr.inl.inl.inl.inl.trans hm) hx4
    · exact hx4
  clear_value x5
  have hx6 : I x6 := by
    unfold x6
    refine may_ite ?_ ?_
    · exact hx5
    · refine raise_may h (Sub.rfl.inr.inl.inl.inl.trans hm) (ho.okAll (by decide +kernel)) ?_
      · refine bump32F_may h (Sub.rfl.inr.inl.inl.trans hm) (ho.ok (by decide +kernel)) (ho.ok (by decide +kernel)) hx5
  clear_value x6
  refine may_ite ?_ ?_
  · exact hb3
  · refine may_ite ?_ ?_
    · refine setDiag_may h (Sub.rfl.inr.inl.trans hm) hx6
    · refine clearDiag_may h (Sub.rfl.inr.trans hm) hx6

def withFrameInProgress_m : Nat := setAlloc_m
theorem withFrameInProgress_may (h : May M I) (hm : Sub withFrameInProgress_m M) {b0} {b1} {b2} (hb2 : I b2) : I (withFrameInProgress b0 b1 b2) := by
  unfold withFrameInProgress
  split
  · refine may_ite ?_ ?_
    · refine setAlloc_may h (Sub.rfl.trans hm) hb2
    · exact hb2
  · exact hb2

def leadDecides_m : Nat := withFrameInProgress_m ||| sendTwin_m ||| putChoice_m
theorem leadDecides_may (h : May M I) (hm : Sub leadDecides_m M) {b0} {b1} {b2} {b3} {b4} (hb4 : I b4) : I (leadDecides b0 b1 b2 b3 b4) := by
  unfold leadDecides
  extract_lets -merge -useContext x0 x1 x2 x3
  have hx2 : I x2 := by
    unfold x2
    refine withFrameInProgress_may h (Sub.rfl.inl.inl.trans hm) hb4
  clear_value x2
  refine may_ite ?_ ?_
  · exact hb4
  · refine may_ite ?_ ?_
    · exact hb4
    · split
      · exact hb4
      · extract_lets -merge -useContext x4
        refine sendTwin_may h (Sub.rfl.inr.inl.trans hm) ?_
        · refine putChoice_may h (Sub.rfl.inr.trans hm) hb4

def accessErr_m : Nat := mask [HIF_ACCESS_LAST.OFFSET, HIF_ACCESS_LAST.BAR2, HIF_ACCESS_LAST.WRITE, HIF_ACCESS_ERR.COUNT, HIF_CNT_FLAGS.ACCESS_OVF] ||| pmask [.pcie] ||| setF_m ||| setB_m ||| bump32_m ||| post_m
theorem accessErr_may (h : May M I) (hm : Sub accessErr_m M) {b0} {b1} {b2} {b3} (hb3 : I b3) : I (accessErr b0 b1 b2 b3) := by
  have ho := (Sub.rfl.inl.inl.inl.inl.inl.trans hm)
  have hp := (Sub.rfl.inr.inl.inl.inl.inl.trans hm)
  unfold accessErr
  extract_lets -merge -useContext x0 x1
  have hx0 : I x0 := by
    unfold x0
    refine setF_may h (Sub.rfl.inr.inl.inl.inl.trans hm) (ho.ok (by decide +kernel)) ?_
    · refine setB_may h (Sub.rfl.inr.inl.inl.trans hm) (ho.ok (by decide +kernel)) ?_
      · refine setB_may h (Sub.rfl.inr.inl.inl.trans hm) (ho.ok (by decide +kernel)) ?_
        · refine bump32_may h (Sub.rfl.inr.inl.trans hm) (ho.ok (by decide +kernel)) (ho.ok (by decide +kernel)) hb3
  clear_value x0
  refine may_ite ?_ ?_
  · exact hx0
  · refine post_may h (Sub.rfl.inr.trans hm) ?_
    · exact h.pcie (hp.testBit (by decide +kernel)) (hx0)

def ringStop_m : Nat := mask [HIF_SQ_STATUS.FAULT] ||| setCmd_m ||| post_m ||| setF_m
theorem ringStop_may (h : May M I) (hm : Sub ringStop_m M) {b0} {b1} (hb1 : I b1) : I (ringStop b0 b1) := by
  have ho := (Sub.rfl.inl.inl.inl.trans hm)
  unfold ringStop
  extract_lets -merge -useContext x0
  have hx0 : I x0 := by
    unfold x0
    refine setCmd_may h (Sub.rfl.inr.inl.inl.trans hm) hb1
  clear_value x0
  refine may_ite ?_ ?_
  · exact hx0
  · refine post_may h (Sub.rfl.inr.inl.trans hm) ?_
    · refine setF_may h (Sub.rfl.inr.trans hm) (ho.ok (by decide +kernel)) hx0

def sqTail_m : Nat := mask [HIF_SQ_TAIL.TAIL] ||| setF_m ||| ringStop_m
theorem sqTail_may (h : May M I) (hm : Sub sqTail_m M) {b0} {b1} {b2} (hb2 : I b2) : I (sqTail b0 b1 b2) := by
  have ho := (Sub.rfl.inl.inl.trans hm)
  unfold sqTail
  extract_lets -merge -useContext x0
  have hx0 : I x0 := by
    unfold x0
    refine setF_may h (Sub.rfl.inr.inl.trans hm) (ho.ok (by decide +kernel)) hb2
  clear_value x0
  refine may_ite ?_ ?_
  · exact hb2
  · refine may_ite ?_ ?_
    · refine ringStop_may h (Sub.rfl.inr.trans hm) hx0
    · exact hx0

def sqReadError_m : Nat := abortBurst_m ||| ringStop_m
theorem sqReadError_may (h : May M I) (hm : Sub sqReadError_m M) {b0} {b1} {b2} (hb2 : I b2) : I (sqReadError b0 b1 b2) := by
  unfold sqReadError
  refine may_ite ?_ ?_
  · exact hb2
  · refine abortBurst_may h (Sub.rfl.inl.trans hm) ?_
    · refine ringStop_may h (Sub.rfl.inr.trans hm) hb2

def sqConfig_m : Nat := mask [HIF_SQ_CFG.EN, HIF_SQ_CFG.SIZE_LOG2, HIF_CQ_TAIL.PHASE, HIF_CQ_TAIL.TAIL, HIF_SQ_HEAD.HEAD] ||| pmask [.coal] ||| setB_m ||| setF_m ||| setCmd_m ||| accessErr_m
theorem sqConfig_may (h : May M I) (hm : Sub sqConfig_m M) {b0} {b1} {b2} (hb2 : I b2) : I (sqConfig b0 b1 b2) := by
  have ho := (Sub.rfl.inl.inl.inl.inl.inl.trans hm)
  have hp := (Sub.rfl.inr.inl.inl.inl.inl.trans hm)
  unfold sqConfig
  extract_lets -merge -useContext x0
  have hx0 : I x0 := by
    unfold x0
    refine setB_may h (Sub.rfl.inr.inl.inl.inl.trans hm) (ho.ok (by decide +kernel)) ?_
    · refine setF_may h (Sub.rfl.inr.inl.inl.trans hm) (ho.ok (by decide +kernel)) hb2
  clear_value x0
  refine may_ite ?_ ?_
  · exact hb2
  · refine may_ite ?_ ?_
    · refine may_ite ?_ ?_
      · refine setCmd_may h (Sub.rfl.inr.inl.trans hm) ?_
        · refine setF_may h (Sub.rfl.inr.inl.inl.trans hm) (ho.ok (by decide +kernel)) ?_
          · refine setF_may h (Sub.rfl.inr.inl.inl.trans hm) (ho.ok (by decide +kernel)) ?_
            · refine setF_may h (Sub.rfl.inr.inl.inl.trans hm) (ho.ok (by decide +kernel)) ?_
              · exact h.coal (hp.testBit (by decide +kernel)) (hx0)
      · exact hx0
    · refine may_ite ?_ ?_
      · refine setF_may h (Sub.rfl.inr.inl.inl.trans hm) (ho.ok (by decide +kernel)) hb2
      · refine accessErr_may h (Sub.rfl.inr.trans hm) hb2

def cqHead_m : Nat := mask [HIF_CQ_HEAD.HEAD] ||| releaseHeld_m ||| setF_m
theorem cqHead_may (h : May M I) (hm : Sub cqHead_m M) {b0} {b1} {b2} (hb2 : I b2) : I (cqHead b0 b1 b2) := by
  have ho := (Sub.rfl.inl.inl.trans hm)
  unfold cqHead
  refine may_ite ?_ ?_
  · exact hb2
  · refine releaseHeld_may h (Sub.rfl.inr.inl.trans hm) ?_
    · refine setF_may h (Sub.rfl.inr.trans hm) (ho.ok (by decide +kernel)) hb2

def fenceBody_m : Nat := acceptNow_m ||| modCmd_m
theorem fenceBody_may (h : May M I) (hm : Sub fenceBody_m M) {b0} {b1} {b2} {b3} (hb3 : I b3) : I (fenceBody b0 b1 b2 b3) := by
  unfold fenceBody
  extract_lets -merge -useContext x0
  refine acceptNow_may h (Sub.rfl.inl.trans hm) (fun a1 a2 ha2 => ?_) hb3
  · refine modCmd_may h (Sub.rfl.inr.trans hm) ha2

def popEvent_m : Nat := mask [HIF_EVT_STATUS.UNDERRUN] ||| pmask [.evtFifo, .evtLast] ||| setF_m
theorem popEvent_may (h : May M I) (hm : Sub popEvent_m M) {b0} (hb0 : I b0) : I (popEvent b0).2 := by
  have ho := (Sub.rfl.inl.inl.trans hm)
  have hp := (Sub.rfl.inr.inl.trans hm)
  unfold popEvent
  split
  · rename_i r rs _
    have k := h.evtLast (x := r) (hp.testBit (by decide +kernel)) hb0
    exact h.evtFifo (x := rs) (hp.testBit (by decide +kernel)) k
  · refine setF_may h (Sub.rfl.inr.trans hm) (ho.ok (by decide +kernel)) hb0

def armEvents_m : Nat := mask [HIF_EVT_STATUS.ARMED] ||| setF_m ||| signal_m
theorem armEvents_may (h : May M I) (hm : Sub armEvents_m M) {b0} (hb0 : I b0) : I (armEvents b0) := by
  have ho := (Sub.rfl.inl.inl.trans hm)
  unfold armEvents
  extract_lets -merge -useContext x0
  have hx0 : I x0 := by
    unfold x0
    refine setF_may h (Sub.rfl.inr.inl.trans hm) (ho.ok (by decide +kernel)) hb0
  clear_value x0
  refine may_ite ?_ ?_
  · exact hx0
  · refine signal_may h (Sub.rfl.inr.trans hm) ?_
    · refine setF_may h (Sub.rfl.inr.inl.trans hm) (ho.ok (by decide +kernel)) hx0

def readAccessErr_m : Nat := pmask [.pcie]
theorem readAccessErr_may (h : May M I) (hm : Sub readAccessErr_m M) {b0} (hb0 : I b0) : I (readAccessErr b0).2 := by
  have hp := (Sub.rfl.trans hm)
  unfold readAccessErr
  extract_lets -merge -useContext x0
  exact h.pcie (hp.testBit (by decide +kernel)) (hb0)

def answerRead_m : Nat := emit_m
theorem answerRead_may (h : May M I) (hm : Sub answerRead_m M) {b0} {b1} (hb1 : I b1.2) : I (answerRead b0 b1) := by
  unfold answerRead
  refine emit_may h (Sub.rfl.trans hm) ?_
  · exact hb1

def sendPending_m : Nat := pmask [.msix] ||| emit_m
theorem sendPending_may (h : May M I) (hm : Sub sendPending_m M) {b0} {b1} (hb1 : I b1) : I (sendPending b0 b1) := by
  have hp := (Sub.rfl.inl.trans hm)
  unfold sendPending
  extract_lets -merge -useContext x0
  refine may_ite ?_ ?_
  · refine emit_may h (Sub.rfl.inr.trans hm) ?_
    · exact h.msix (hp.testBit (by decide +kernel)) (hb1)
  · exact hb1

def maskVector_m : Nat := pmask [.msix] ||| sendPending_m
theorem maskVector_may (h : May M I) (hm : Sub maskVector_m M) {b0} {b1} {b2} (hb2 : I b2) : I (maskVector b0 b1 b2) := by
  have hp := (Sub.rfl.inl.trans hm)
  unfold maskVector
  extract_lets -merge -useContext x0
  refine may_ite ?_ ?_
  · exact hb2
  · refine sendPending_may h (Sub.rfl.inr.trans hm) ?_
    · exact h.msix (hp.testBit (by decide +kernel)) (hb2)

def coalesceEnd_m : Nat := pmask [.coal] ||| signal_m
theorem coalesceEnd_may (h : May M I) (hm : Sub coalesceEnd_m M) {b0} {b1} (hb1 : I b1) : I (coalesceEnd b0 b1) := by
  have hp := (Sub.rfl.inl.trans hm)
  unfold coalesceEnd
  extract_lets -merge -useContext x0
  refine may_ite ?_ ?_
  · refine signal_may h (Sub.rfl.inr.trans hm) ?_
    · exact h.coal (hp.testBit (by decide +kernel)) (hb1)
  · exact hb1

def pcieReset_m : Nat := pmask [.msix, .pcie]
theorem pcieReset_may (h : May M I) (hm : Sub pcieReset_m M) {b0} (hb0 : I b0) : I (pcieReset b0) := by
  have hp := (Sub.rfl.trans hm)
  unfold pcieReset
  extract_lets -merge -useContext x0
  have k := h.pcie (x := { b0.pcie with d3hot := false, accessSet := false, latch := [] }) (hp.testBit (by decide +kernel)) hb0
  exact h.msix (x := []) (hp.testBit (by decide +kernel)) k

def fnReset_m : Nat := mask [HIF_DROP_CPL.COUNT, HIF_CNT_FLAGS.DROP_OVF] ||| mask hifFields ||| pmask [.evtFifo, .evtLost, .evtLast, .cplHeld, .coal] ||| clearFlds_m ||| setEth_m ||| bump32By_m ||| setCmd_m ||| pcieReset_m
theorem fnReset_may (h : May M I) (hm : Sub fnReset_m M) {b0} (hb0 : I b0) : I (fnReset b0) := by
  have ho := (Sub.rfl.inl.inl.inl.inl.inl.inl.inl.trans hm)
  have hp := (Sub.rfl.inr.inl.inl.inl.inl.inl.trans hm)
  unfold fnReset
  extract_lets -merge -useContext x0 x1
  have hx1 : I x1 := by
    unfold x1
    refine clearFlds_may h (Sub.rfl.inr.inl.inl.inl.inl.trans hm) ((Sub.rfl.inr.inl.inl.inl.inl.inl.inl.trans hm).okAll (by decide +kernel)) hb0
  clear_value x1
  refine setEth_may h (Sub.rfl.inr.inl.inl.inl.trans hm) ?_
  · refine bump32By_may h (Sub.rfl.inr.inl.inl.trans hm) (ho.ok (by decide +kernel)) (ho.ok (by decide +kernel)) ?_
    · refine setCmd_may h (Sub.rfl.inr.inl.trans hm) ?_
      · refine pcieReset_may h (Sub.rfl.inr.trans hm) ?_
        have k0 := h.coal (x := []) (hp.testBit (by decide +kernel)) hx1
        have k1 := h.cplHeld (x := []) (hp.testBit (by decide +kernel)) k0
        have k2 := h.evtLast (x := {}) (hp.testBit (by decide +kernel)) k1
        have k3 := h.evtLost (x := false) (hp.testBit (by decide +kernel)) k2
        have k4 := h.evtFifo (x := []) (hp.testBit (by decide +kernel)) k3
        exact k4

def fnDrop_m : Nat := fnReset_m ||| abortBurst_m ||| flushEvents_m
theorem fnDrop_may (h : May M I) (hm : Sub fnDrop_m M) {b0} {b1} (hb1 : I b1) : I (fnDrop b0 b1) := by
  unfold fnDrop
  extract_lets -merge -useContext x0
  have hx0 : I x0 := by
    unfold x0
    refine fnReset_may h (Sub.rfl.inl.inl.trans hm) hb1
  clear_value x0
  refine abortBurst_may h (Sub.rfl.inr.inl.trans hm) ?_
  · refine may_ite ?_ ?_
    · refine flushEvents_may h (Sub.rfl.inr.trans hm) hx0
    · exact hx0

def perst_m : Nat := pmask [.pcie] ||| fnDrop_m ||| pcieReset_m
theorem perst_may (h : May M I) (hm : Sub perst_m M) {b0} {b1} (hb1 : I b1) : I (perst b0 b1) := by
  have hp := (Sub.rfl.inl.inl.trans hm)
  unfold perst
  extract_lets -merge -useContext x0 x1
  have hx0 : I x0 := by
    unfold x0
    refine may_ite ?_ ?_
    · refine fnDrop_may h (Sub.rfl.inr.inl.trans hm) hb1
    · refine pcieReset_may h (Sub.rfl.inr.trans hm) hb1
  clear_value x0
  exact h.pcie (hp.testBit (by decide +kernel)) (hx0)

def perstEnd_m : Nat := pmask [.pcie]
theorem perstEnd_may (h : May M I) (hm : Sub perstEnd_m M) {b0} (hb0 : I b0) : I (perstEnd b0) := by
  have hp := (Sub.rfl.trans hm)
  unfold perstEnd
  extract_lets -merge -useContext x0
  exact h.pcie (hp.testBit (by decide +kernel)) (hb0)

def configReady_m : Nat := pmask [.pcie]
theorem configReady_may (h : May M I) (hm : Sub configReady_m M) {b0} (hb0 : I b0) : I (configReady b0) := by
  have hp := (Sub.rfl.trans hm)
  unfold configReady
  extract_lets -merge -useContext x0
  refine may_ite ?_ ?_
  · exact h.pcie (hp.testBit (by decide +kernel)) (hb0)
  · exact hb0

def enterD3_m : Nat := pmask [.pcie]
theorem enterD3_may (h : May M I) (hm : Sub enterD3_m M) {b0} (hb0 : I b0) : I (enterD3 b0) := by
  have hp := (Sub.rfl.trans hm)
  unfold enterD3
  extract_lets -merge -useContext x0
  refine may_ite ?_ ?_
  · exact h.pcie (hp.testBit (by decide +kernel)) (hb0)
  · exact hb0

def leaveD3_m : Nat := pmask [.pcie] ||| forEach_m ||| sendPending_m ||| flushEvents_m ||| placeFrames_m ||| drainCtlRx_m ||| releaseBacks_m ||| releaseHeld_m
theorem leaveD3_may (h : May M I) (hm : Sub leaveD3_m M) {b0} (hb0 : I b0) : I (leaveD3 b0) := by
  have hp := (Sub.rfl.inl.inl.inl.inl.inl.inl.inl.trans hm)
  unfold leaveD3
  extract_lets -merge -useContext x0 x1 x2 x3
  have hx1 : I x1 := by
    unfold x1
    exact h.pcie (hp.testBit (by decide +kernel)) (hb0)
  clear_value x1
  have hx2 : I x2 := by
    unfold x2
    refine forEach_may h (Sub.rfl.inr.inl.inl.inl.inl.inl.inl.trans hm) (fun a4 a5 ha5 => ?_) hx1
    · refine sendPending_may h (Sub.rfl.inr.inl.inl.inl.inl.inl.trans hm) ha5
  clear_value x2
  have hx3 : I x3 := by
    unfold x3
    refine may_ite ?_ ?_
    · refine flushEvents_may h (Sub.rfl.inr.inl.inl.inl.inl.trans hm) hx2
    · exact hx2
  clear_value x3
  refine may_ite ?_ ?_
  · exact hb0
  · refine forEach_may h (Sub.rfl.inr.inl.inl.inl.inl.inl.inl.trans hm) (fun a6 a7 ha7 => ?_) ?_
    · refine placeFrames_may h (Sub.rfl.inr.inl.inl.inl.trans hm) ha7
    · refine forEach_may h (Sub.rfl.inr.inl.inl.inl.inl.inl.inl.trans hm) (fun a8 a9 ha9 => ?_) ?_
      · refine drainCtlRx_may h (Sub.rfl.inr.inl.inl.trans hm) ha9
      · refine forEach_may h (Sub.rfl.inr.inl.inl.inl.inl.inl.inl.trans hm) (fun a10 a11 ha11 => ?_) ?_
        · refine releaseBacks_may h (Sub.rfl.inr.inl.trans hm) ha11
        · refine forEach_may h (Sub.rfl.inr.inl.inl.inl.inl.inl.inl.trans hm) (fun a12 a13 ha13 => ?_) hx3
          · refine releaseHeld_may h (Sub.rfl.inr.trans hm) ha13

def refusedAccess_m : Nat := accessErr_m ||| emit_m
theorem refusedAccess_may (h : May M I) (hm : Sub refusedAccess_m M) {b0} {b1} {b2} {b3} (hb3 : I b3) : I (refusedAccess b0 b1 b2 b3) := by
  unfold refusedAccess
  extract_lets -merge -useContext x0
  have hx0 : I x0 := by
    unfold x0
    refine may_ite ?_ ?_
    · exact hb3
    · refine accessErr_may h (Sub.rfl.inl.trans hm) hb3
  clear_value x0
  refine may_ite ?_ ?_
  · exact hb3
  · split
    · exact hx0
    · refine emit_may h (Sub.rfl.inr.trans hm) hx0

def regRead_m : Nat := mask [DBG_EVT.REFUSED] ||| pmask [.pcie] ||| popEvent_m ||| readAccessErr_m ||| raiseAs_m
theorem regRead_may (h : May M I) (hm : Sub regRead_m M) {b0} {b1} (hb1 : I b1) : I (regRead b0 b1).2 := by
  have ho := (Sub.rfl.inl.inl.inl.inl.trans hm)
  have hp := (Sub.rfl.inr.inl.inl.inl.trans hm)
  unfold regRead
  extract_lets -merge -useContext x0 x1 x2 x3
  refine may_ite2 ?_ ?_
  · refine popEvent_may h (Sub.rfl.inr.inl.inl.trans hm) hb1
  · refine may_ite2 ?_ ?_
    · refine readAccessErr_may h (Sub.rfl.inr.inl.trans hm) hb1
    · refine may_ite2 ?_ ?_
      · refine raiseAs_may h (Sub.rfl.inr.trans hm) (ho.okAll (by decide +kernel)) hb1
      · exact h.pcie (hp.testBit (by decide +kernel)) (hb1)

def hostRead_m : Nat := refusedAccess_m ||| emit_m ||| answerRead_m ||| regRead_m
theorem hostRead_may (h : May M I) (hm : Sub hostRead_m M) {b0} {b1} (hb1 : I b1) : I (hostRead b0 b1) := by
  unfold hostRead
  refine may_ite ?_ ?_
  · exact hb1
  · refine may_ite ?_ ?_
    · refine refusedAccess_may h (Sub.rfl.inl.inl.inl.trans hm) hb1
    · refine may_ite ?_ ?_
      · refine emit_may h (Sub.rfl.inr.inl.inl.trans hm) hb1
      · refine answerRead_may h (Sub.rfl.inr.inl.trans hm) ?_
        · refine regRead_may h (Sub.rfl.inr.trans hm) hb1

def putKennel_m : Nat := mask [KNL_ALLOC_STATUS.FORMAT, KNL_ALLOC_STATUS.VALID] ||| setXpt_m ||| setF_m ||| setAlloc_m
theorem putKennel_may (h : May M I) (hm : Sub putKennel_m M) {b0} {b1} {b2} (hb2 : I b2) : I (putKennel b0 b1 b2) := by
  have ho := (Sub.rfl.inl.inl.inl.trans hm)
  unfold putKennel
  extract_lets -merge -useContext x0
  have hx0 : ∀ a0, I a0 → I (x0 a0) := by
    intro a1 ha1
    unfold x0
    refine setXpt_may h (Sub.rfl.inr.inl.inl.trans hm) ha1
  clear_value x0
  refine may_ite ?_ ?_
  · exact hb2
  · split
    · refine hx0 _ hb2
    · extract_lets -merge -useContext x2
      refine may_ite ?_ ?_
      · refine may_ite ?_ ?_
        · refine setF_may h (Sub.rfl.inr.inl.trans hm) (ho.ok (by decide +kernel)) ?_
          · refine setF_may h (Sub.rfl.inr.inl.trans hm) (ho.ok (by decide +kernel)) ?_
            · refine setAlloc_may h (Sub.rfl.inr.trans hm) hb2
        · refine hx0 _ hb2
      · split
        · refine hx0 _ hb2
        · refine may_ite ?_ ?_
          · refine setAlloc_may h (Sub.rfl.inr.trans hm) hb2
          · refine hx0 _ hb2

def putSram_m : Nat := putRingWord_m ||| setXpt_m
theorem putSram_may (h : May M I) (hm : Sub putSram_m M) {b0} {b1} {b2} (hb2 : I b2) : I (putSram b0 b1 b2) := by
  unfold putSram
  refine may_ite ?_ ?_
  · exact hb2
  · split
    · extract_lets -merge -useContext x0
      refine putRingWord_may h (Sub.rfl.inl.trans hm) hb2
    · refine setXpt_may h (Sub.rfl.inr.trans hm) hb2

def memWrite_m : Nat := forEach_m ||| putKennel_m ||| putSram_m
theorem memWrite_may (h : May M I) (hm : Sub memWrite_m M) {b0} {b1} {b2} {b3} (hb3 : I b3) : I (memWrite b0 b1 b2 b3) := by
  unfold memWrite
  refine forEach_may h (Sub.rfl.inl.inl.trans hm) (fun a0 a1 ha1 => ?_) hb3
  · refine may_ite ?_ ?_
    · refine putKennel_may h (Sub.rfl.inr.inl.trans hm) ha1
    · refine putSram_may h (Sub.rfl.inr.trans hm) ha1

def bar2_m : Nat := emit_m ||| accessErr_m ||| drawn_m ||| memWrite_m
theorem bar2_may (h : May M I) (hm : Sub bar2_m M) {b0} {b1} {b2} {b3} (hb3 : I b3) : I (bar2 b0 b1 b2 b3) := by
  unfold bar2
  extract_lets -merge -useContext x0 x1 x2
  have hx0 : ∀ a0 a1, I a1 → I (x0 a0 a1) := by
    intro a3 a4 ha4
    unfold x0
    refine emit_may h (Sub.rfl.inl.inl.inl.trans hm) ha4
  clear_value x0
  refine may_ite ?_ ?_
  · refine may_ite ?_ ?_
    · refine hx0 _ _ hb3
    · exact hb3
  · split
    · refine hx0 _ _ ?_
      · refine accessErr_may h (Sub.rfl.inr.inl.inl.trans hm) hb3
    · refine accessErr_may h (Sub.rfl.inr.inl.inl.trans hm) hb3
    · refine hx0 _ _ ?_
      · refine drawn_may h (Sub.rfl.inr.inl.trans hm) hb3
    · refine may_ite ?_ ?_
      · refine memWrite_may h (Sub.rfl.inr.trans hm) hb3
      · refine accessErr_may h (Sub.rfl.inr.inl.inl.trans hm) hb3

end

end Sys2Proof.Machine
end

