-- ==== Sys2Proof/Laws/MaySys.lean ====
section
/-! SUPPORT. Permissions of image, bring-up, security and debug operations: each is made of the plain updates that its mask `…_m` names. -/

namespace Sys2Proof.Machine

set_option Elab.async false
set_option linter.unusedVariables false

section
variable {M : Nat} {I : State → Prop}

def regsModule_m : Nat := mask [SYS_IMG_STATUS.EVAL_CFG, PIP_CFG.SPREAD, PIP_CFG.REVERT, TWN_PAIR_ID.ID, TWN_CFG.HANDSHAKE_MS, AUD_CFG.AUDIO_PLANE, TWN_CFG.SOLO] ||| setF_m
theorem regsModule_may (h : May M I) (hm : Sub regsModule_m M) {b0} {b1} (hb1 : I b1) : I (regsModule b0 b1) := by
  have ho := (Sub.rfl.inl.trans hm)
  unfold regsModule
  extract_lets -merge -useContext x0
  refine setF_may h (Sub.rfl.inr.trans hm) (ho.ok (by decide +kernel)) ?_
  · refine setF_may h (Sub.rfl.inr.trans hm) (ho.ok (by decide +kernel)) ?_
    · refine setF_may h (Sub.rfl.inr.trans hm) (ho.ok (by decide +kernel)) ?_
      · refine setF_may h (Sub.rfl.inr.trans hm) (ho.ok (by decide +kernel)) ?_
        · refine setF_may h (Sub.rfl.inr.trans hm) (ho.ok (by decide +kernel)) ?_
          · refine setF_may h (Sub.rfl.inr.trans hm) (ho.ok (by decide +kernel)) ?_
            · refine setF_may h (Sub.rfl.inr.trans hm) (ho.ok (by decide +kernel)) hb1

def regsTime_m : Nat := mask [TIM_PTP_CFG.ENABLED, TIM_PTP_CFG.TRANSPORT, TIM_PTP_CFG.DELAY_UC, TIM_PTP_CFG.PCP, TIM_PTP_CFG.TAG, TIM_PTP_CFG.VID, TIM_PTP_CFG.LP, TIM_PTP_CFG.DOMAIN, PIP_REF_CFG.USED, PIP_REF_CFG.MODE, PIP_REF_CFG.WTR_S, PIP_PLANE_OFFSET.OFFSET_NS, PIP_PLANE_CFG.ENABLED, PIP_PLANE_CFG.ALIGN, PIP_PLANE_CFG.RATE] ||| setWords32_m
theorem regsTime_may (h : May M I) (hm : Sub regsTime_m M) {b0} {b1} (hb1 : I b1) : I (regsTime b0 b1) := by
  have ho := (Sub.rfl.inl.trans hm)
  unfold regsTime
  extract_lets -merge -useContext x0 x1
  refine setWords32_may h (Sub.rfl.inr.trans hm) (ho.okAll (by decide +kernel)) ?_
  · refine setWords32_may h (Sub.rfl.inr.trans hm) (ho.okAll (by decide +kernel)) ?_
    · refine setWords32_may h (Sub.rfl.inr.trans hm) (ho.okAll (by decide +kernel)) ?_
      · refine setWords32_may h (Sub.rfl.inr.trans hm) (ho.okAll (by decide +kernel)) hb1

def regsLanes_m : Nat := mask [LNO_PAY_CFG.SLOT_MODE, LNI_PAY_CFG.SLOT_MODE, LNO_TX_CFG.PRESET_ACT, LNO_TX_CFG.PRESET, LNO_TX_CFG.AMPLITUDE, LNO_GRP_CFG.ONE_WAY, LNI_GRP_CFG.ONE_WAY, LNO_GRP_CFG.FC_OUT_ON, LNO_GRP_CFG.CLK_MODE_ACT, LNI_GRP_CFG.CLK_MODE_ACT, LNO_GRP_CFG.CLK_MODE, LNI_GRP_CFG.CLK_MODE, LNO_GRP_CFG.ENABLED, LNI_GRP_CFG.ENABLED] ||| setColumn_m
theorem regsLanes_may (h : May M I) (hm : Sub regsLanes_m M) {b0} {b1} (hb1 : I b1) : I (regsLanes b0 b1) := by
  have ho := (Sub.rfl.inl.trans hm)
  unfold regsLanes
  extract_lets -merge -useContext x0 x1 x2
  refine setColumn_may h (Sub.rfl.inr.trans hm) (ho.ok (by decide +kernel)) ?_
  · refine setColumn_may h (Sub.rfl.inr.trans hm) (ho.ok (by decide +kernel)) ?_
    · refine setColumn_may h (Sub.rfl.inr.trans hm) (ho.ok (by decide +kernel)) ?_
      · refine setColumn_may h (Sub.rfl.inr.trans hm) (ho.ok (by decide +kernel)) ?_
        · refine setColumn_may h (Sub.rfl.inr.trans hm) (ho.ok (by decide +kernel)) ?_
          · refine setColumn_may h (Sub.rfl.inr.trans hm) (ho.ok (by decide +kernel)) ?_
            · refine setColumn_may h (Sub.rfl.inr.trans hm) (ho.ok (by decide +kernel)) ?_
              · refine setColumn_may h (Sub.rfl.inr.trans hm) (ho.ok (by decide +kernel)) ?_
                · refine setColumn_may h (Sub.rfl.inr.trans hm) (ho.ok (by decide +kernel)) ?_
                  · refine setColumn_may h (Sub.rfl.inr.trans hm) (ho.ok (by decide +kernel)) ?_
                    · refine setColumn_may h (Sub.rfl.inr.trans hm) (ho.ok (by decide +kernel)) ?_
                      · refine setColumn_may h (Sub.rfl.inr.trans hm) (ho.ok (by decide +kernel)) ?_
                        · refine setColumn_may h (Sub.rfl.inr.trans hm) (ho.ok (by decide +kernel)) ?_
                          · refine setColumn_may h (Sub.rfl.inr.trans hm) (ho.ok (by decide +kernel)) hb1

def regsXpt_m : Nat := mask [XPT_OUT_CFG.SAFETY, XPT_OUT_CFG.FALLBACK_EN, XPT_OUT_CFG.LOSS_FALLBACK, XPT_OUT_CFG.RETURN, XPT_OUT_CFG.PLANE, XPT_IN_CFG.PLANE] ||| setWords32_m
theorem regsXpt_may (h : May M I) (hm : Sub regsXpt_m M) {b0} {b1} (hb1 : I b1) : I (regsXpt b0 b1) := by
  have ho := (Sub.rfl.inl.trans hm)
  unfold regsXpt
  extract_lets -merge -useContext x0
  refine setWords32_may h (Sub.rfl.inr.trans hm) (ho.okAll (by decide +kernel)) ?_
  · refine setWords32_may h (Sub.rfl.inr.trans hm) (ho.okAll (by decide +kernel)) hb1

def regsKennel_m : Nat := mask [KNL_ALLOC_BW.CHARGE, KNL_ALLOC_PAGES.PAGES, KNL_ALLOC_CFG.CLASS, KNL_ALLOC_CFG.N_F, KNL_ALLOC_CFG.FMT_MAX, KNL_ALLOC_CFG.WRITER, XPT_IN_CFG.KNL_ANY, XPT_IN_CFG.KNL_FSYNC, KNL_BUDGET_BW.CHARGE, KNL_BUDGET_CAP.PAGES, KNL_BUDGET_CAP.N_P8, KNL_BUDGET_CAP.N_P] ||| setF_m ||| setSome_m ||| setB_m
theorem regsKennel_may (h : May M I) (hm : Sub regsKennel_m M) {b0} {b1} (hb1 : I b1) : I (regsKennel b0 b1) := by
  have ho := (Sub.rfl.inl.inl.inl.trans hm)
  unfold regsKennel
  extract_lets -merge -useContext x0 x1 x2 x3 x4
  have hx2 : ∀ a0 a1, I a0 → I (x2 a0 a1) := by
    intro a5 a6 ha5
    unfold x2
    extract_lets -merge -useContext x7 x8 x9 x10 x11
    have hx11 : I x11 := by
      unfold x11
      refine setF_may h (Sub.rfl.inr.inl.inl.trans hm) (ho.ok (by decide +kernel)) ?_
      · refine setF_may h (Sub.rfl.inr.inl.inl.trans hm) (ho.ok (by decide +kernel)) ?_
        · refine setSome_may h (Sub.rfl.inr.inl.trans hm) (ho.okAll (by decide +kernel)) ha5
    clear_value x11
    refine may_ite ?_ ?_
    · refine setF_may h (Sub.rfl.inr.inl.inl.trans hm) (ho.ok (by decide +kernel)) ?_
      · refine setF_may h (Sub.rfl.inr.inl.inl.trans hm) (ho.ok (by decide +kernel)) hx11
    · refine may_ite ?_ ?_
      · refine setF_may h (Sub.rfl.inr.inl.inl.trans hm) (ho.ok (by decide +kernel)) hx11
      · exact hx11
  clear_value x2
  have hx3 : I x3 := by
    unfold x3
    refine foldl_may (fun a12 a13 ha12 => ?_) ?_
    · refine hx2 _ _ ha12
    · exact hb1
  clear_value x3
  refine setF_may h (Sub.rfl.inr.inl.inl.trans hm) (ho.ok (by decide +kernel)) ?_
  · refine setF_may h (Sub.rfl.inr.inl.inl.trans hm) (ho.ok (by decide +kernel)) ?_
    · refine setB_may h (Sub.rfl.inr.trans hm) (ho.ok (by decide +kernel)) ?_
      · refine setF_may h (Sub.rfl.inr.inl.inl.trans hm) (ho.ok (by decide +kernel)) hx3

def regsEngine_m : Nat := mask [CMP_ENG_CFG.LOAD_Q, CMP_ENG_CFG.COMPREAD, CMP_ENG_CFG.PLANE, CMP_ENG_CFG.N_HEADS, CMP_ENG_CFG.ENABLED] ||| setF_m
theorem regsEngine_may (h : May M I) (hm : Sub regsEngine_m M) {b0} {b1} {b2} {b3} (hb3 : I b3) : I (regsEngine b0 b1 b2 b3) := by
  have ho := (Sub.rfl.inl.trans hm)
  unfold regsEngine
  extract_lets -merge -useContext x0 x1 x2 x3
  have hx3 : I x3 := by
    unfold x3
    refine setF_may h (Sub.rfl.inr.trans hm) (ho.ok (by decide +kernel)) ?_
    · refine setF_may h (Sub.rfl.inr.trans hm) (ho.ok (by decide +kernel)) hb3
  clear_value x3
  refine may_ite ?_ ?_
  · exact hx3
  · refine setF_may h (Sub.rfl.inr.trans hm) (ho.ok (by decide +kernel)) ?_
    · refine setF_may h (Sub.rfl.inr.trans hm) (ho.ok (by decide +kernel)) ?_
      · refine setF_may h (Sub.rfl.inr.trans hm) (ho.ok (by decide +kernel)) hx3

def regsSafety_m : Nat := mask [CMP_HEAD_SHD2.WORD, CMP_HEAD_ACT2.WORD] ||| putLayer_m ||| setF_m
theorem regsSafety_may (h : May M I) (hm : Sub regsSafety_m M) {b0} {b1} {b2} (hb2 : I b2) : I (regsSafety b0 b1 b2) := by
  have ho := (Sub.rfl.inl.inl.trans hm)
  unfold regsSafety
  extract_lets -merge -useContext x0
  refine may_ite ?_ ?_
  · exact hb2
  · refine putLayer_may h (Sub.rfl.inr.inl.trans hm) ?_
    · refine putLayer_may h (Sub.rfl.inr.inl.trans hm) ?_
      · refine setF_may h (Sub.rfl.inr.trans hm) (ho.ok (by decide +kernel)) ?_
        · refine setF_may h (Sub.rfl.inr.trans hm) (ho.ok (by decide +kernel)) hb2

def regsComp_m : Nat := mask [CMP_HEAD_CFG.FORMAT, CMP_HEAD_CFG.SAFETY, CMP_HEAD_CFG.ENABLED, CMP_HEAD_CFG.BASE_LAYER, CMP_HEAD_CFG.LOCAL, CMP_HEAD_CFG.ENGINE, CMP_HEAD_SHD1.WORD, CMP_HEAD_ACT1.WORD, CMP_LAYER.WORD] ||| setSome_m ||| forEach_m ||| regsSafety_m ||| setColumn_m ||| regsEngine_m ||| showUsage_m
theorem regsComp_may (h : May M I) (hm : Sub regsComp_m M) {b0} {b1} (hb1 : I b1) : I (regsComp b0 b1) := by
  have ho := (Sub.rfl.inl.inl.inl.inl.inl.inl.trans hm)
  unfold regsComp
  extract_lets -merge -useContext x0 x1 x2 x3
  have hx1 : I x1 := by
    unfold x1
    refine foldl_may (fun a4 a5 ha4 => ?_) ?_
    · refine setSome_may h (Sub.rfl.inr.inl.inl.inl.inl.inl.trans hm) (ho.okAll (by decide +kernel)) ha4
    · exact hb1
  clear_value x1
  have hx3 : I x3 := by
    unfold x3
    refine forEach_may h (Sub.rfl.inr.inl.inl.inl.inl.trans hm) (fun a6 a7 ha7 => ?_) ?_
    · refine regsSafety_may h (Sub.rfl.inr.inl.inl.inl.trans hm) ha7
    · refine setColumn_may h (Sub.rfl.inr.inl.inl.trans hm) (ho.ok (by decide +kernel)) ?_
      · refine setColumn_may h (Sub.rfl.inr.inl.inl.trans hm) (ho.ok (by decide +kernel)) ?_
        · refine setColumn_may h (Sub.rfl.inr.inl.inl.trans hm) (ho.ok (by decide +kernel)) ?_
          · refine forEach_may h (Sub.rfl.inr.inl.inl.inl.inl.trans hm) (fun a8 a9 ha9 => ?_) hx1
            · refine regsEngine_may h (Sub.rfl.inr.inl.trans hm) ha9
  clear_value x3
  refine forEach_may h (Sub.rfl.inr.inl.inl.inl.inl.trans hm) (fun a10 a11 ha11 => ?_) hx3
  · refine showUsage_may h (Sub.rfl.inr.trans hm) ha11

def regsAudio_m : Nat := mask [AUD_POOL.USED, AUD_RING_CFG.WKIND, AUD_RING_CFG.R96, AUD_RING_CFG.CAP_LOG2, AUD_RING_CFG.LEN_LOG2, AUD_RING_CFG.WRITER] ||| setF_m ||| setWords32_m
theorem regsAudio_may (h : May M I) (hm : Sub regsAudio_m M) {b0} {b1} (hb1 : I b1) : I (regsAudio b0 b1) := by
  have ho := (Sub.rfl.inl.inl.trans hm)
  unfold regsAudio
  extract_lets -merge -useContext x0
  refine setF_may h (Sub.rfl.inr.inl.trans hm) (ho.ok (by decide +kernel)) ?_
  · refine setWords32_may h (Sub.rfl.inr.trans hm) (ho.okAll (by decide +kernel)) hb1

def regsReed_m : Nat := mask [REE_ENG_PROG.STATIC_CYCLES, REE_ENG_PROG.PROG_LEN, REE_ENG_CFG.ENABLED] ||| setF_m ||| setCoefs_m
theorem regsReed_may (h : May M I) (hm : Sub regsReed_m M) {b0} {b1} (hb1 : I b1) : I (regsReed b0 b1) := by
  have ho := (Sub.rfl.inl.inl.trans hm)
  unfold regsReed
  extract_lets -merge -useContext x0
  have hx0 : I x0 := by
    unfold x0
    refine foldl_may (fun a1 a2 ha1 => ?_) ?_
    · refine setF_may h (Sub.rfl.inr.inl.trans hm) (ho.ok (by decide +kernel)) ?_
      · refine setF_may h (Sub.rfl.inr.inl.trans hm) (ho.ok (by decide +kernel)) ?_
        · refine setF_may h (Sub.rfl.inr.inl.trans hm) (ho.ok (by decide +kernel)) ha1
    · exact hb1
  clear_value x0
  refine setCoefs_may h (Sub.rfl.inr.trans hm) hx0

def regsEth_m : Nat := mask [FLW_LP_IP.ADDR, ETH_LP_PTP_DELAY.TX_DELAY, ETH_LP_PTP_DELAY.RX_DELAY, ETH_LP_MAC_HI.ADDR_HI, ETH_LP_MAC_LO.ADDR_LO, ETH_PORT_CFG.ENABLED, ETH_PORT_CFG.SPLIT, ETH_PORT_CFG.LANE_RATE, ETH_PORT_CFG.NET_MAP] ||| setWords32_m
theorem regsEth_may (h : May M I) (hm : Sub regsEth_m M) {b0} {b1} (hb1 : I b1) : I (regsEth b0 b1) := by
  have ho := (Sub.rfl.inl.trans hm)
  unfold regsEth
  extract_lets -merge -useContext x0 x1
  refine may_ite ?_ ?_
  · exact hb1
  · refine setWords32_may h (Sub.rfl.inr.trans hm) (ho.okAll (by decide +kernel)) ?_
    · refine setWords32_may h (Sub.rfl.inr.trans hm) (ho.okAll (by decide +kernel)) ?_
      · refine setWords32_may h (Sub.rfl.inr.trans hm) (ho.okAll (by decide +kernel)) ?_
        · refine setWords32_may h (Sub.rfl.inr.trans hm) (ho.okAll (by decide +kernel)) ?_
          · refine setWords32_may h (Sub.rfl.inr.trans hm) (ho.okAll (by decide +kernel)) hb1

def regsFlows_m : Nat := mask [FLW_TX_CFG.KIND, FLW_TX_CFG.PLANE, FLW_RX_CFG.KIND, FLW_RX_CFG.R96, FLW_RX_CFG.N_CH_M1, FLW_RX_CFG.BIND] ||| setSome_m
theorem regsFlows_may (h : May M I) (hm : Sub regsFlows_m M) {b0} {b1} (hb1 : I b1) : I (regsFlows b0 b1) := by
  have ho := (Sub.rfl.inl.trans hm)
  unfold regsFlows
  refine foldl_may (fun a0 a1 ha0 => ?_) ?_
  · extract_lets -merge -useContext x2
    refine may_ite ?_ ?_
    · refine setSome_may h (Sub.rfl.inr.trans hm) (ho.okAll (by decide +kernel)) ha0
    · refine setSome_may h (Sub.rfl.inr.trans hm) (ho.okAll (by decide +kernel)) ha0
  · exact hb1

def regsStatus_m : Nat := mask [SYS_IMG_DIGEST.WORD, SYS_IMG_ROLLBACK.VALUE, SYS_IMG_STATUS.SOURCE] ||| forEach_m ||| setF_m
theorem regsStatus_may (h : May M I) (hm : Sub regsStatus_m M) {b0} {b1} {b2} (hb2 : I b2) : I (regsStatus b0 b1 b2) := by
  have ho := (Sub.rfl.inl.inl.trans hm)
  unfold regsStatus
  extract_lets -merge -useContext x0
  refine forEach_may h (Sub.rfl.inr.inl.trans hm) (fun a1 a2 ha2 => ?_) ?_
  · refine setF_may h (Sub.rfl.inr.trans hm) (ho.ok (by decide +kernel)) ha2
  · refine setF_may h (Sub.rfl.inr.trans hm) (ho.ok (by decide +kernel)) ?_
    · refine setF_may h (Sub.rfl.inr.trans hm) (ho.ok (by decide +kernel)) hb2

def imageRegs_m : Nat := regsStatus_m ||| regsEth_m ||| regsReed_m ||| regsAudio_m ||| regsComp_m ||| regsKennel_m ||| regsFlows_m ||| regsXpt_m ||| regsLanes_m ||| regsTime_m ||| regsModule_m ||| resetDomains_m
theorem imageRegs_may (h : May M I) (hm : Sub imageRegs_m M) {b0} {b1} {b2} (hb2 : I b2) : I (imageRegs b0 b1 b2) := by
  unfold imageRegs
  refine regsStatus_may h (Sub.rfl.inl.inl.inl.inl.inl.inl.inl.inl.inl.inl.inl.trans hm) ?_
  · refine regsEth_may h (Sub.rfl.inr.inl.inl.inl.inl.inl.inl.inl.inl.inl.inl.trans hm) ?_
    · refine regsReed_may h (Sub.rfl.inr.inl.inl.inl.inl.inl.inl.inl.inl.inl.trans hm) ?_
      · refine regsAudio_may h (Sub.rfl.inr.inl.inl.inl.inl.inl.inl.inl.inl.trans hm) ?_
        · refine regsComp_may h (Sub.rfl.inr.inl.inl.inl.inl.inl.inl.inl.trans hm) ?_
          · refine regsKennel_may h (Sub.rfl.inr.inl.inl.inl.inl.inl.inl.trans hm) ?_
            · refine regsFlows_may h (Sub.rfl.inr.inl.inl.inl.inl.inl.trans hm) ?_
              · refine regsXpt_may h (Sub.rfl.inr.inl.inl.inl.inl.trans hm) ?_
                · refine regsLanes_may h (Sub.rfl.inr.inl.inl.inl.trans hm) ?_
                  · refine regsTime_may h (Sub.rfl.inr.inl.inl.trans hm) ?_
                    · refine regsModule_may h (Sub.rfl.inr.inl.trans hm) ?_
                      · refine resetDomains_may h (Sub.rfl.inr.trans hm) hb2

def initialRecord_m : Nat := mask [AUD_OUT_RINGS.GROUPS, AUD_OUT_MUTE.GROUPS] ||| setAud_m ||| setBit_m ||| applyRecord_m
theorem initialRecord_may (h : May M I) (hm : Sub initialRecord_m M) {b0} {b1} (hb1 : I b1) : I (initialRecord b0 b1) := by
  have ho := (Sub.rfl.inl.inl.inl.trans hm)
  unfold initialRecord
  split
  · refine setAud_may h (Sub.rfl.inr.inl.inl.trans hm) ?_
    · refine setBit_may h (Sub.rfl.inr.inl.trans hm) (ho.ok (by decide +kernel)) hb1
  · refine setBit_may h (Sub.rfl.inr.inl.trans hm) (ho.ok (by decide +kernel)) hb1
  · exact hb1
  · refine applyRecord_may h (Sub.rfl.inr.trans hm) hb1

def imageState_m : Nat := mask [FLW_RX_STATUS.EN, FLW_TX_STATUS.EN] ||| pmask [.xpt, .aud, .eth] ||| imageRegs_m ||| clearFlds_m
theorem imageState_may (h : May M I) (hm : Sub imageState_m M) {b0} {b1} (hb1 : I b1) : I (imageState b0 b1) := by
  have ho := (Sub.rfl.inl.inl.inl.trans hm)
  have hp := (Sub.rfl.inr.inl.inl.trans hm)
  unfold imageState
  extract_lets -merge -useContext x0 x1 x2
  have hx0 : I x0 := by
    unfold x0
    refine imageRegs_may h (Sub.rfl.inr.inl.trans hm) hb1
  clear_value x0
  refine clearFlds_may h (Sub.rfl.inr.trans hm) (ho.okAll (by decide +kernel)) ?_
  · have k0 := h.eth (x := { x0.eth with recs := [], rx := [], tx := [] }) (hp.testBit (by decide +kernel)) hx0
    have k1 := h.aud (x := {}) (hp.testBit (by decide +kernel)) k0
    have k2 := h.xpt (x := { x0.xpt with safety := safetyPairs b0, pend := [], allocs := [] }) (hp.testBit (by decide +kernel)) k1
    exact k2

def abortWhere_m : Nat := finishReady_m ||| setCmd_m ||| dropMembers_m
theorem abortWhere_may (h : May M I) (hm : Sub abortWhere_m M) {b0} {b1} {b2} (hb2 : I b2) : I (abortWhere b0 b1 b2) := by
  unfold abortWhere
  extract_lets -merge -useContext x0
  refine finishReady_may h (Sub.rfl.inl.inl.trans hm) ?_
  · refine setCmd_may h (Sub.rfl.inr.inl.trans hm) ?_
    · refine dropMembers_may h (Sub.rfl.inr.trans hm) hb2

def abortOpen_m : Nat := abortWhere_m
theorem abortOpen_may (h : May M I) (hm : Sub abortOpen_m M) {b0} {b1} (hb1 : I b1) : I (abortOpen b0 b1) := by
  unfold abortOpen
  refine abortWhere_may h (Sub.rfl.trans hm) hb1

def abortSalvos_m : Nat := abortWhere_m
theorem abortSalvos_may (h : May M I) (hm : Sub abortSalvos_m M) {b0} (hb0 : I b0) : I (abortSalvos b0) := by
  unfold abortSalvos
  refine abortWhere_may h (Sub.rfl.trans hm) hb0

def loseBank_m : Nat := setXpt_m
theorem loseBank_may (h : May M I) (hm : Sub loseBank_m M) {b0} {b1} (hb1 : I b1) : I (loseBank b0 b1) := by
  unfold loseBank
  refine setXpt_may h (Sub.rfl.trans hm) hb1

def orderStart_m : Nat := setBoot_m
theorem orderStart_may (h : May M I) (hm : Sub orderStart_m M) {b0} {b1} (hb1 : I b1) : I (orderStart b0 b1) := by
  unfold orderStart
  refine setBoot_may h (Sub.rfl.trans hm) hb1

def domReset_m : Nat := mask [PWR_DOM.ASSIGNED] ||| setB_m ||| loseBank_m ||| setDom_m ||| orderStart_m
theorem domReset_may (h : May M I) (hm : Sub domReset_m M) {b0} {b1} {b2} (hb2 : I b2) : I (domReset b0 b1 b2) := by
  have ho := (Sub.rfl.inl.inl.inl.inl.trans hm)
  unfold domReset
  extract_lets -merge -useContext x0 x1 x2
  have hx1 : I x1 := by
    unfold x1
    refine setB_may h (Sub.rfl.inr.inl.inl.inl.trans hm) (ho.ok (by decide +kernel)) hb2
  clear_value x1
  have hx2 : I x2 := by
    unfold x2
    refine may_ite ?_ ?_
    · refine loseBank_may h (Sub.rfl.inr.inl.inl.trans hm) hx1
    · exact hx1
  clear_value x2
  refine may_ite ?_ ?_
  · refine may_ite ?_ ?_
    · exact hx2
    · refine setDom_may h (Sub.rfl.inr.inl.trans hm) hx2
  · refine may_ite ?_ ?_
    · refine orderStart_may h (Sub.rfl.inr.trans hm) ?_
      · refine setDom_may h (Sub.rfl.inr.inl.trans hm) hx2
    · refine may_ite ?_ ?_
      · refine orderStart_may h (Sub.rfl.inr.trans hm) hx2
      · exact hx2

def usedBank_m : Nat := setXpt_m
theorem usedBank_may (h : May M I) (hm : Sub usedBank_m M) {b0} {b1} (hb1 : I b1) : I (usedBank b0 b1) := by
  unfold usedBank
  refine setXpt_may h (Sub.rfl.trans hm) hb1

def failedBanks_m : Nat := setDiag_m
theorem failedBanks_may (h : May M I) (hm : Sub failedBanks_m M) {b0} (hb0 : I b0) : I (failedBanks b0) := by
  unfold failedBanks
  refine may_ite ?_ ?_
  · refine setDiag_may h (Sub.rfl.trans hm) hb0
  · exact hb0

def blankInput_m : Nat := mask [XPT_IN_PHASE.PHASE_NS, XPT_IN_STATUS.FORMAT, XPT_IN_STATUS.WIN] ||| setMeas_m ||| setXIn_m ||| setF_m
theorem blankInput_may (h : May M I) (hm : Sub blankInput_m M) {b0} {b1} (hb1 : I b1) : I (blankInput b0 b1) := by
  have ho := (Sub.rfl.inl.inl.inl.trans hm)
  unfold blankInput
  refine setMeas_may h (Sub.rfl.inr.inl.inl.trans hm) ?_
  · refine setXIn_may h (Sub.rfl.inr.inl.trans hm) ?_
    · refine setF_may h (Sub.rfl.inr.trans hm) (ho.ok (by decide +kernel)) ?_
      · refine setF_may h (Sub.rfl.inr.trans hm) (ho.ok (by decide +kernel)) ?_
        · refine setF_may h (Sub.rfl.inr.trans hm) (ho.ok (by decide +kernel)) hb1

def gateLane_m : Nat := mask (laneFields .inp) ||| mask (laneFields .out) ||| forEach_m ||| blankInput_m ||| setIn_m ||| resetFs_m ||| setOut_m
theorem gateLane_may (h : May M I) (hm : Sub gateLane_m M) {b0} {b1} {b2} (hb2 : I b2) : I (gateLane b0 b1 b2) := by
  unfold gateLane
  extract_lets -merge -useContext x0
  split
  · refine forEach_may h (Sub.rfl.inr.inl.inl.inl.inl.trans hm) (fun a1 a2 ha2 => ?_) ?_
    · refine blankInput_may h (Sub.rfl.inr.inl.inl.inl.trans hm) ha2
    · refine setIn_may h (Sub.rfl.inr.inl.inl.trans hm) ?_
      · refine resetFs_may h (Sub.rfl.inr.inl.trans hm) (fun f hf => ((Sub.rfl.inl.inl.inl.inl.inl.inl.trans hm)).okAll (by decide +kernel) f (List.mem_filter.mp hf).1) hb2
  · refine setOut_may h (Sub.rfl.inr.trans hm) ?_
    · refine resetFs_may h (Sub.rfl.inr.inl.trans hm) (fun f hf => ((Sub.rfl.inr.inl.inl.inl.inl.inl.trans hm)).okAll (by decide +kernel) f (List.mem_filter.mp hf).1) hb2

def keepLane_m : Nat := setIn_m ||| setOut_m ||| startSeriesOn_m
theorem keepLane_may (h : May M I) (hm : Sub keepLane_m M) {b0} {b1} {b2} {b3} (hb3 : I b3) : I (keepLane b0 b1 b2 b3) := by
  unfold keepLane
  extract_lets -merge -useContext x0
  have hx0 : I x0 := by
    unfold x0
    split
    · refine setIn_may h (Sub.rfl.inl.inl.trans hm) hb3
    · refine setOut_may h (Sub.rfl.inr.inl.trans hm) hb3
  clear_value x0
  refine may_ite ?_ ?_
  · refine startSeriesOn_may h (Sub.rfl.inr.trans hm) hx0
  · exact hx0

def laneReset_m : Nat := mask [LNO_TX_CFG.PRESET_ACT] ||| keepFs_m ||| gateLane_m ||| keepLane_m
theorem laneReset_may (h : May M I) (hm : Sub laneReset_m M) {b0} (hb0 : I b0) {b1} {b2} {b3} (hb3 : I b3) : I (laneReset b0 b1 b2 b3) := by
  have ho := (Sub.rfl.inl.inl.inl.trans hm)
  unfold laneReset
  extract_lets -merge -useContext x0 x1 x2 x3 x4
  have hx4 : I x4 := by
    unfold x4
    split
    · refine may_ite ?_ ?_
      · exact hb3
      · refine keepFs_may h (Sub.rfl.inr.inl.inl.trans hm) (ho.okAll (by decide +kernel)) hb0 hb3
    · exact hb3
  clear_value x4
  refine may_ite ?_ ?_
  · refine may_ite ?_ ?_
    · refine gateLane_may h (Sub.rfl.inr.inl.trans hm) hb3
    · exact hb3
  · refine may_ite ?_ ?_
    · exact hb3
    · refine keepLane_may h (Sub.rfl.inr.trans hm) hx4

def groupReset_m : Nat := mask [LNI_GRP_CFG.FC_ACTIVE] ||| keepFs_m
theorem groupReset_may (h : May M I) (hm : Sub groupReset_m M) {b0} (hb0 : I b0) {b1} {b2} (hb2 : I b2) : I (groupReset b0 b1 b2) := by
  have ho := (Sub.rfl.inl.trans hm)
  unfold groupReset
  refine may_ite ?_ ?_
  · refine keepFs_may h (Sub.rfl.inr.trans hm) (ho.okAll (by decide +kernel)) hb0 hb2
  · exact hb2

def inputReset_m : Nat := blankInput_m ||| slotGain_m ||| enterWin_m
theorem inputReset_may (h : May M I) (hm : Sub inputReset_m M) {b0} (hb0 : I b0) {b1} {b2} (hb2 : I b2) : I (inputReset b0 b1 b2) := by
  unfold inputReset
  extract_lets -merge -useContext x0 x1
  refine may_ite ?_ ?_
  · refine may_ite ?_ ?_
    · exact hb2
    · refine blankInput_may h (Sub.rfl.inl.inl.trans hm) hb2
  · refine may_ite ?_ ?_
    · refine may_ite ?_ ?_
      · refine slotGain_may h (Sub.rfl.inr.inl.trans hm) hb2
      · exact hb2
    · refine may_ite ?_ ?_
      · exact hb2
      · refine may_ite ?_ ?_
        · refine enterWin_may h (Sub.rfl.inr.trans hm) hb2
        · exact hb2

def lanesReset_m : Nat := pmask [.lane] ||| setImg_m ||| forEach_m ||| inputReset_m ||| laneReset_m ||| groupReset_m
theorem lanesReset_may (h : May M I) (hm : Sub lanesReset_m M) {b0} (hb0 : I b0) {b1} {b2} (hb2 : I b2) : I (lanesReset b0 b1 b2) := by
  have hp := (Sub.rfl.inl.inl.inl.inl.inl.trans hm)
  unfold lanesReset
  extract_lets -merge -useContext x0 x1
  have hx0 : I x0 := by
    unfold x0
    refine setImg_may h (Sub.rfl.inr.inl.inl.inl.inl.trans hm) hb2
  clear_value x0
  refine forEach_may h (Sub.rfl.inr.inl.inl.inl.trans hm) (fun a2 a3 ha3 => ?_) ?_
  · refine inputReset_may h (Sub.rfl.inr.inl.inl.trans hm) hb0 ha3
  · extract_lets -merge -useContext x4
    refine h.lane (hp.testBit (by decide +kernel)) (?_)
    refine forEach_may h (Sub.rfl.inr.inl.inl.inl.trans hm) (fun a5 a6 ha6 => ?_) ?_
    · refine laneReset_may h (Sub.rfl.inr.inl.trans hm) hb0 ?_
      · refine laneReset_may h (Sub.rfl.inr.inl.trans hm) hb0 ha6
    · refine forEach_may h (Sub.rfl.inr.inl.inl.inl.trans hm) (fun a7 a8 ha8 => ?_) hx0
      · refine groupReset_may h (Sub.rfl.inr.trans hm) hb0 ha8

def safetyShown_m : Nat := showOut_m
theorem safetyShown_may (h : May M I) (hm : Sub safetyShown_m M) {b0} {b1} (hb1 : I b1) : I (safetyShown b0 b1) := by
  unfold safetyShown
  refine may_ite ?_ ?_
  · refine showOut_may h (Sub.rfl.trans hm) hb1
  · exact hb1

def mediaReset_m : Nat := mask [DBG_ENG_STATUS.HALTED, DBG_ENG_STATUS.CAUSE, DBG_ENG_STATUS.BP_HIT, REE_ENG_STATUS.STATE] ||| mask ldWindows ||| pmask [.dbg] ||| forEach_m ||| setF_m ||| clearFlds_m ||| setReedS_m ||| setAud_m ||| setCmp_m ||| setXpt_m ||| initialRecord_m ||| safetyShown_m
theorem mediaReset_may (h : May M I) (hm : Sub mediaReset_m M) {b0} {b1} (hb1 : I b1) : I (mediaReset b0 b1) := by
  have ho := (Sub.rfl.inl.inl.inl.inl.inl.inl.inl.inl.inl.inl.inl.trans hm)
  have hp := (Sub.rfl.inr.inl.inl.inl.inl.inl.inl.inl.inl.inl.trans hm)
  unfold mediaReset
  extract_lets -merge -useContext x0 x1 x2 x3
  have hx2 : I x2 := by
    unfold x2
    refine forEach_may h (Sub.rfl.inr.inl.inl.inl.inl.inl.inl.inl.inl.trans hm) (fun a4 a5 ha5 => ?_) ?_
    · refine setF_may h (Sub.rfl.inr.inl.inl.inl.inl.inl.inl.inl.trans hm) (ho.ok (by decide +kernel)) ha5
    · refine clearFlds_may h (Sub.rfl.inr.inl.inl.inl.inl.inl.inl.trans hm) (ho.okAll (by decide +kernel)) ?_
      · refine clearFlds_may h (Sub.rfl.inr.inl.inl.inl.inl.inl.inl.trans hm) ((Sub.rfl.inr.inl.inl.inl.inl.inl.inl.inl.inl.inl.inl.trans hm).okAll (by decide +kernel)) ?_
        · refine setReedS_may h (Sub.rfl.inr.inl.inl.inl.inl.inl.trans hm) ?_
          · refine setAud_may h (Sub.rfl.inr.inl.inl.inl.inl.trans hm) ?_
            · refine setCmp_may h (Sub.rfl.inr.inl.inl.inl.trans hm) ?_
              · refine setXpt_may h (Sub.rfl.inr.inl.inl.trans hm) hb1
  clear_value x2
  refine forEach_may h (Sub.rfl.inr.inl.inl.inl.inl.inl.inl.inl.inl.trans hm) (fun a6 a7 ha7 => ?_) ?_
  · refine setF_may h (Sub.rfl.inr.inl.inl.inl.inl.inl.inl.inl.trans hm) (ho.ok (by decide +kernel)) ha7
  · refine forEach_may h (Sub.rfl.inr.inl.inl.inl.inl.inl.inl.inl.inl.trans hm) (fun a8 a9 ha9 => ?_) ?_
    · refine initialRecord_may h (Sub.rfl.inr.inl.trans hm) ha9
    · refine forEach_may h (Sub.rfl.inr.inl.inl.inl.inl.inl.inl.inl.inl.trans hm) (fun a10 a11 ha11 => ?_) ?_
      · refine safetyShown_may h (Sub.rfl.inr.trans hm) ha11
      · exact h.dbg (hp.testBit (by decide +kernel)) (hx2)

def headsReset_m : Nat := mask [SHF_HEAD.VISIBLE, SHF_HEAD.MSG] ||| forEach_m ||| setShf_m ||| setF_m
theorem headsReset_may (h : May M I) (hm : Sub headsReset_m M) {b0} (hb0 : I b0) : I (headsReset b0) := by
  have ho := (Sub.rfl.inl.inl.inl.trans hm)
  unfold headsReset
  refine forEach_may h (Sub.rfl.inr.inl.inl.trans hm) (fun a0 a1 ha1 => ?_) hb0
  · refine setShf_may h (Sub.rfl.inr.inl.trans hm) ?_
    · refine setF_may h (Sub.rfl.inr.trans hm) (ho.ok (by decide +kernel)) ?_
      · refine setF_may h (Sub.rfl.inr.trans hm) (ho.ok (by decide +kernel)) ha1

def restoreRoutes_m : Nat := forEach_m ||| restoreTake_m
theorem restoreRoutes_may (h : May M I) (hm : Sub restoreRoutes_m M) {b0} (hb0 : I b0) : I (restoreRoutes b0) := by
  unfold restoreRoutes
  refine forEach_may h (Sub.rfl.inl.trans hm) (fun a0 a1 ha1 => ?_) hb0
  · refine restoreTake_may h (Sub.rfl.inr.trans hm) ha1

def dropPort_m : Nat := mask [ETH_LP_LINK_DOWN_CNT.COUNT, ETH_PORT_EVT.LINK_DOWN, ETH_PORT_STATUS.LINK, ETH_PORT_STATUS.PAUSED, ETH_PORT_STATUS.LFAULT, ETH_PORT_STATUS.RFAULT] ||| ethCount32_m ||| raise_m ||| setPortBit_m ||| forEach_m ||| writeBack_m ||| setLp_m ||| showLine_m
theorem dropPort_may (h : May M I) (hm : Sub dropPort_m M) {b0} {b1} (hb1 : I b1) : I (dropPort b0 b1) := by
  have ho := (Sub.rfl.inl.inl.inl.inl.inl.inl.inl.trans hm)
  unfold dropPort
  extract_lets -merge -useContext x0 x1 x2
  have hx0 : I x0 := by
    unfold x0
    refine may_ite ?_ ?_
    · refine ethCount32_may h (Sub.rfl.inr.inl.inl.inl.inl.inl.inl.trans hm) (ho.ok (by decide +kernel)) ?_
      · refine raise_may h (Sub.rfl.inr.inl.inl.inl.inl.inl.trans hm) (ho.okAll (by decide +kernel)) ?_
        · refine setPortBit_may h (Sub.rfl.inr.inl.inl.inl.inl.trans hm) (ho.ok (by decide +kernel)) hb1
    · exact hb1
  clear_value x0
  refine forEach_may h (Sub.rfl.inr.inl.inl.inl.trans hm) (fun a3 a4 ha4 => ?_) ?_
  · refine writeBack_may h (Sub.rfl.inr.inl.inl.trans hm) ha4
  · refine setLp_may h (Sub.rfl.inr.inl.trans hm) ?_
    · refine showLine_may h (Sub.rfl.inr.trans hm) ?_
      · refine setPortBit_may h (Sub.rfl.inr.inl.inl.inl.inl.trans hm) (ho.ok (by decide +kernel)) ?_
        · refine setPortBit_may h (Sub.rfl.inr.inl.inl.inl.inl.trans hm) (ho.ok (by decide +kernel)) ?_
          · refine setPortBit_may h (Sub.rfl.inr.inl.inl.inl.inl.trans hm) (ho.ok (by decide +kernel)) hx0

def portReset_m : Nat := forEach_m ||| flushMediaRx_m ||| dropPort_m
theorem portReset_may (h : May M I) (hm : Sub portReset_m M) {b0} (hb0 : I b0) {b1} {b2} (hb2 : I b2) : I (portReset b0 b1 b2) := by
  unfold portReset
  extract_lets -merge -useContext x0 x1
  refine may_ite ?_ ?_
  · refine forEach_may h (Sub.rfl.inl.inl.trans hm) (fun a2 a3 ha3 => ?_) hb2
    · refine flushMediaRx_may h (Sub.rfl.inr.inl.trans hm) ha3
  · refine may_ite ?_ ?_
    · refine forEach_may h (Sub.rfl.inl.inl.trans hm) (fun a4 a5 ha5 => ?_) hb2
      · refine dropPort_may h (Sub.rfl.inr.trans hm) ha5
    · exact hb2

def flowsReset_m : Nat := mask [FLW_RX_STATUS.EN, FLW_RX_STATUS.PAIRED, FLW_RX_STATUS.PATH_A_UP, FLW_RX_STATUS.PATH_B_UP, FLW_RX_STATUS.LOSS, FLW_RX_STATUS.HOLD_WORDS, FLW_TX_STATUS.EN, FLW_TX_STATUS.SENDING, FLW_TX_STATUS.RATE_MBPS] ||| forEach_m ||| commitTx_m ||| commitRx_m ||| clearFlds_m ||| setEth_m
theorem flowsReset_may (h : May M I) (hm : Sub flowsReset_m M) {b0} {b1} (hb1 : I b1) : I (flowsReset b0 b1) := by
  have ho := (Sub.rfl.inl.inl.inl.inl.inl.trans hm)
  unfold flowsReset
  refine forEach_may h (Sub.rfl.inr.inl.inl.inl.inl.trans hm) (fun a0 a1 ha1 => ?_) ?_
  · refine may_ite ?_ ?_
    · refine commitTx_may h (Sub.rfl.inr.inl.inl.inl.trans hm) ha1
    · refine commitRx_may h (Sub.rfl.inr.inl.inl.trans hm) ha1
  · refine clearFlds_may h (Sub.rfl.inr.inl.trans hm) (ho.okAll (by decide +kernel)) ?_
    · refine setEth_may h (Sub.rfl.inr.trans hm) hb1

def planeReset_m : Nat := mask [PIP_PLANE_COUNT.COUNT, PIP_PLANE_DEV.DEV, PIP_PLANE_STATUS.STATE, PIP_PLANE_STATUS.MISMATCH, PIP_PLANE_ERR.ERR_NS] ||| setPlane_m ||| resetFs_m ||| keepFs_m ||| showDev_m ||| setF_m
theorem planeReset_may (h : May M I) (hm : Sub planeReset_m M) {b0} (hb0 : I b0) {b1} {b2} {b3} (hb3 : I b3) : I (planeReset b0 b1 b2 b3) := by
  have ho := (Sub.rfl.inl.inl.inl.inl.inl.trans hm)
  unfold planeReset
  refine may_ite ?_ ?_
  · refine setPlane_may h (Sub.rfl.inr.inl.inl.inl.inl.trans hm) ?_
    · refine resetFs_may h (Sub.rfl.inr.inl.inl.inl.trans hm) (ho.okAll (by decide +kernel)) hb3
  · refine may_ite ?_ ?_
    · refine keepFs_may h (Sub.rfl.inr.inl.inl.trans hm) (ho.okAll (by decide +kernel)) hb0 hb3
    · split
      · extract_lets -merge -useContext x0
        have hx0 : I x0 := by
          unfold x0
          refine setPlane_may h (Sub.rfl.inr.inl.inl.inl.inl.trans hm) hb3
        clear_value x0
        refine showDev_may h (Sub.rfl.inr.inl.trans hm) ?_
        · refine setF_may h (Sub.rfl.inr.trans hm) (ho.ok (by decide +kernel)) ?_
          · refine setF_may h (Sub.rfl.inr.trans hm) (ho.ok (by decide +kernel)) ?_
            · refine setF_may h (Sub.rfl.inr.trans hm) (ho.ok (by decide +kernel)) hx0

def prefReset_m : Nat := mask [PIP_REF_CFG.LOCKOUT, PIP_REF_CFG.PRIO] ||| setTime_m ||| forEach_m ||| setF_m ||| storePref_m ||| setPst_m
theorem prefReset_may (h : May M I) (hm : Sub prefReset_m M) {b0} {b1} (hb1 : I b1) : I (prefReset b0 b1) := by
  have ho := (Sub.rfl.inl.inl.inl.inl.inl.trans hm)
  unfold prefReset
  extract_lets -merge -useContext x0 x1 x2 x3
  have hx2 : I x2 := by
    unfold x2
    refine setTime_may h (Sub.rfl.inr.inl.inl.inl.inl.trans hm) hb1
  clear_value x2
  have hx3 : I x3 := by
    unfold x3
    refine forEach_may h (Sub.rfl.inr.inl.inl.inl.trans hm) (fun a4 a5 ha5 => ?_) hx2
    · refine setF_may h (Sub.rfl.inr.inl.inl.trans hm) (ho.ok (by decide +kernel)) ?_
      · refine setF_may h (Sub.rfl.inr.inl.inl.trans hm) (ho.ok (by decide +kernel)) ha5
  clear_value x3
  refine may_ite ?_ ?_
  · exact hx2
  · refine storePref_may h (Sub.rfl.inr.inl.trans hm) (fun a6 ha6 => ?_) hx3
    · refine setPst_may h (Sub.rfl.inr.trans hm) ha6

def refReset_m : Nat := mask [PIP_REF_STATUS.QUAL] ||| setRef_m ||| setF_m ||| disqualify_m
theorem refReset_may (h : May M I) (hm : Sub refReset_m M) {b0} (hb0 : I b0) {b1} {b2} (hb2 : I b2) : I (refReset b0 b1 b2) := by
  have ho := (Sub.rfl.inl.inl.inl.trans hm)
  unfold refReset
  extract_lets -merge -useContext x0 x1
  refine may_ite ?_ ?_
  · refine may_ite ?_ ?_
    · exact hb2
    · refine setRef_may h (Sub.rfl.inr.inl.inl.trans hm) ?_
      · refine setF_may h (Sub.rfl.inr.inl.trans hm) (ho.ok (by decide +kernel)) hb2
  · refine may_ite ?_ ?_
    · refine disqualify_may h (Sub.rfl.inr.trans hm) hb2
    · refine may_ite ?_ ?_
      · refine setRef_may h (Sub.rfl.inr.inl.inl.trans hm) ?_
        · refine setF_may h (Sub.rfl.inr.inl.trans hm) (ho.ok (by decide +kernel)) hb2
      · exact hb2

def ptpReset_m : Nat := ptpRestart_m
theorem ptpReset_may (h : May M I) (hm : Sub ptpReset_m M) {b0} (hb0 : I b0) {b1} {b2} (hb2 : I b2) : I (ptpReset b0 b1 b2) := by
  unfold ptpReset
  refine may_ite ?_ ?_
  · refine ptpRestart_may h (Sub.rfl.trans hm) hb2
  · exact hb2

def timeReset_m : Nat := forEach_m ||| ptpReset_m ||| planeReset_m ||| refReset_m ||| prefReset_m
theorem timeReset_may (h : May M I) (hm : Sub timeReset_m M) {b0} (hb0 : I b0) {b1} {b2} {b3} (hb3 : I b3) : I (timeReset b0 b1 b2 b3) := by
  unfold timeReset
  refine forEach_may h (Sub.rfl.inl.inl.inl.inl.trans hm) (fun a0 a1 ha1 => ?_) ?_
  · refine ptpReset_may h (Sub.rfl.inr.inl.inl.inl.trans hm) hb0 ha1
  · refine forEach_may h (Sub.rfl.inl.inl.inl.inl.trans hm) (fun a2 a3 ha3 => ?_) ?_
    · refine planeReset_may h (Sub.rfl.inr.inl.inl.trans hm) hb0 ha3
    · refine forEach_may h (Sub.rfl.inl.inl.inl.inl.trans hm) (fun a4 a5 ha5 => ?_) ?_
      · refine refReset_may h (Sub.rfl.inr.inl.trans hm) hb0 ha5
      · refine prefReset_may h (Sub.rfl.inr.trans hm) hb3

def twinReset_m : Nat := mask [TWN_STATUS.STALE, TWN_STATUS.SYNC, TWN_STATUS.DIGEST_OK, TWN_STATUS.TWIN_PRESENT] ||| storePref_m ||| setPst_m ||| setTwin_m ||| setF_m ||| enterRole_m
theorem twinReset_may (h : May M I) (hm : Sub twinReset_m M) {b0} (hb0 : I b0) : I (twinReset b0) := by
  have ho := (Sub.rfl.inl.inl.inl.inl.inl.trans hm)
  unfold twinReset
  extract_lets -merge -useContext x0 x1 x2
  have hx1 : I x1 := by
    unfold x1
    refine may_ite ?_ ?_
    · exact hb0
    · refine storePref_may h (Sub.rfl.inr.inl.inl.inl.inl.trans hm) (fun a3 ha3 => ?_) hb0
      · refine setPst_may h (Sub.rfl.inr.inl.inl.inl.trans hm) ha3
  clear_value x1
  have hx2 : I x2 := by
    unfold x2
    refine setTwin_may h (Sub.rfl.inr.inl.inl.trans hm) ?_
    · refine setF_may h (Sub.rfl.inr.inl.trans hm) (ho.ok (by decide +kernel)) ?_
      · refine setF_may h (Sub.rfl.inr.inl.trans hm) (ho.ok (by decide +kernel)) ?_
        · refine setF_may h (Sub.rfl.inr.inl.trans hm) (ho.ok (by decide +kernel)) hx1
  clear_value x2
  refine may_ite ?_ ?_
  · refine enterRole_may h (Sub.rfl.inr.trans hm) ?_
    · refine setF_may h (Sub.rfl.inr.inl.trans hm) (ho.ok (by decide +kernel)) hx2
  · exact hx2

def applyImage_m : Nat := mask [SYS_IMG_STATUS.FALLBACK, SYS_IMG_EVT.LOADED, SYS_IMG_EVT.FALLBACK] ||| pmask [.hold] ||| enterRole_m ||| abortOpen_m ||| setB_m ||| imageRegs_m ||| raiseAs_m ||| audit_m ||| twinReset_m ||| forEach_m ||| usedBank_m ||| failedBanks_m ||| restoreRoutes_m ||| flowsReset_m ||| portReset_m ||| headsReset_m ||| mediaReset_m ||| timeReset_m ||| lanesReset_m ||| domReset_m
theorem applyImage_may (h : May M I) (hm : Sub applyImage_m M) {b0} {b1} {b2} (hb2 : I b2) : I (applyImage b0 b1 b2) := by
  have ho := (Sub.rfl.inl.inl.inl.inl.inl.inl.inl.inl.inl.inl.inl.inl.inl.inl.inl.inl.inl.inl.inl.trans hm)
  have hp := (Sub.rfl.inr.inl.inl.inl.inl.inl.inl.inl.inl.inl.inl.inl.inl.inl.inl.inl.inl.inl.inl.trans hm)
  unfold applyImage
  extract_lets -merge -useContext x0 x1 x2 x3 x4
  have hx1 : I x1 := by
    unfold x1
    exact h.hold (hp.testBit (by decide +kernel)) (hb2)
  clear_value x1
  have hx2 : I x2 := by
    unfold x2
    refine enterRole_may h (Sub.rfl.inr.inl.inl.inl.inl.inl.inl.inl.inl.inl.inl.inl.inl.inl.inl.inl.inl.inl.trans hm) ?_
    · refine abortOpen_may h (Sub.rfl.inr.inl.inl.inl.inl.inl.inl.inl.inl.inl.inl.inl.inl.inl.inl.inl.inl.trans hm) hx1
  clear_value x2
  have hx3 : I x3 := by
    unfold x3
    exact hx2
  clear_value x3
  have hx4 : I x4 := by
    unfold x4
    refine setB_may h (Sub.rfl.inr.inl.inl.inl.inl.inl.inl.inl.inl.inl.inl.inl.inl.inl.inl.inl.trans hm) (ho.ok (by decide +kernel)) ?_
    · refine imageRegs_may h (Sub.rfl.inr.inl.inl.inl.inl.inl.inl.inl.inl.inl.inl.inl.inl.inl.inl.trans hm) hx2
  clear_value x4
  refine raiseAs_may h (Sub.rfl.inr.inl.inl.inl.inl.inl.inl.inl.inl.inl.inl.inl.inl.inl.trans hm) (by split <;> exact ho.okAll (by decide +kernel)) ?_
  · refine audit_may h (Sub.rfl.inr.inl.inl.inl.inl.inl.inl.inl.inl.inl.inl.inl.inl.trans hm) ?_
    · refine twinReset_may h (Sub.rfl.inr.inl.inl.inl.inl.inl.inl.inl.inl.inl.inl.inl.trans hm) ?_
      · refine forEach_may h (Sub.rfl.inr.inl.inl.inl.inl.inl.inl.inl.inl.inl.inl.trans hm) (fun a5 a6 ha6 => ?_) ?_
        · refine usedBank_may h (Sub.rfl.inr.inl.inl.inl.inl.inl.inl.inl.inl.inl.trans hm) ha6
        · refine failedBanks_may h (Sub.rfl.inr.inl.inl.inl.inl.inl.inl.inl.inl.trans hm) ?_
          · refine restoreRoutes_may h (Sub.rfl.inr.inl.inl.inl.inl.inl.inl.inl.trans hm) ?_
            · refine flowsReset_may h (Sub.rfl.inr.inl.inl.inl.inl.inl.inl.trans hm) ?_
              · refine forEach_may h (Sub.rfl.inr.inl.inl.inl.inl.inl.inl.inl.inl.inl.inl.trans hm) (fun a7 a8 ha8 => ?_) ?_
                · refine portReset_may h (Sub.rfl.inr.inl.inl.inl.inl.inl.trans hm) hx3 ha8
                · refine headsReset_may h (Sub.rfl.inr.inl.inl.inl.inl.trans hm) ?_
                  · refine mediaReset_may h (Sub.rfl.inr.inl.inl.inl.trans hm) ?_
                    · refine timeReset_may h (Sub.rfl.inr.inl.inl.trans hm) hx3 ?_
                      · refine lanesReset_may h (Sub.rfl.inr.inl.trans hm) hx3 ?_
                        · refine forEach_may h (Sub.rfl.inr.inl.inl.inl.inl.inl.inl.inl.inl.inl.inl.trans hm) (fun a9 a10 ha10 => ?_) hx4
                          · refine domReset_may h (Sub.rfl.inr.trans hm) ha10

def setSlot_m : Nat := mask [SYS_IMG_SLOT_RB_A.VALUE, SYS_IMG_SLOT_A.DIGEST16, SYS_IMG_SLOT_A.STATE, SYS_IMG_SLOT_RB_B.VALUE, SYS_IMG_SLOT_B.DIGEST16, SYS_IMG_SLOT_B.STATE] ||| setF_m
theorem setSlot_may (h : May M I) (hm : Sub setSlot_m M) {b0} {b1} {b2} {b3} {b4} (hb4 : I b4) : I (setSlot b0 b1 b2 b3 b4) := by
  have ho := (Sub.rfl.inl.trans hm)
  unfold setSlot
  refine may_ite ?_ ?_
  · refine setF_may h (Sub.rfl.inr.trans hm) (ho.ok (by decide +kernel)) ?_
    · refine setF_may h (Sub.rfl.inr.trans hm) (ho.ok (by decide +kernel)) ?_
      · refine setF_may h (Sub.rfl.inr.trans hm) (ho.ok (by decide +kernel)) hb4
  · refine setF_may h (Sub.rfl.inr.trans hm) (ho.ok (by decide +kernel)) ?_
    · refine setF_may h (Sub.rfl.inr.trans hm) (ho.ok (by decide +kernel)) ?_
      · refine setF_may h (Sub.rfl.inr.trans hm) (ho.ok (by decide +kernel)) hb4

def emptySlot_m : Nat := setImg_m ||| setSlot_m
theorem emptySlot_may (h : May M I) (hm : Sub emptySlot_m M) {b0} {b1} (hb1 : I b1) : I (emptySlot b0 b1) := by
  unfold emptySlot
  refine setImg_may h (Sub.rfl.inl.trans hm) ?_
  · refine setSlot_may h (Sub.rfl.inr.trans hm) hb1

def fillSlot_m : Nat := setImg_m ||| setSlot_m
theorem fillSlot_may (h : May M I) (hm : Sub fillSlot_m M) {b0} {b1} {b2} (hb2 : I b2) : I (fillSlot b0 b1 b2) := by
  unfold fillSlot
  refine setImg_may h (Sub.rfl.inl.trans hm) ?_
  · refine setSlot_may h (Sub.rfl.inr.trans hm) hb2

def noteImageRefused_m : Nat := mask [SYS_IMG_EVT.REFUSED, SYS_IMG_REFUSE_SECT.SECTION, SYS_IMG_REFUSE.REASON] ||| raiseAs_m ||| audit_m ||| setF_m
theorem noteImageRefused_may (h : May M I) (hm : Sub noteImageRefused_m M) {b0} {b1} {b2} (hb2 : I b2) : I (noteImageRefused b0 b1 b2) := by
  have ho := (Sub.rfl.inl.inl.inl.trans hm)
  unfold noteImageRefused
  refine raiseAs_may h (Sub.rfl.inr.inl.inl.trans hm) (ho.okAll (by decide +kernel)) ?_
  · refine audit_may h (Sub.rfl.inr.inl.trans hm) ?_
    · refine setF_may h (Sub.rfl.inr.trans hm) (ho.ok (by decide +kernel)) ?_
      · refine setF_may h (Sub.rfl.inr.trans hm) (ho.ok (by decide +kernel)) hb2

def failImage_m : Nat := failCmd_m ||| modCmd_m
theorem failImage_may (h : May M I) (hm : Sub failImage_m M) {b0} {b1} {b2} {b3} (hb3 : I b3) : I (failImage b0 b1 b2 b3) := by
  unfold failImage
  refine failCmd_may h (Sub.rfl.inl.trans hm) ?_
  · refine modCmd_may h (Sub.rfl.inr.trans hm) hb3

def imageWrite_m : Nat := refuse_m ||| noteImageRefused_m ||| acceptNow_m ||| setImg_m ||| emptySlot_m
theorem imageWrite_may (h : May M I) (hm : Sub imageWrite_m M) {b0} {b1} {b2} {b3} {b4} (hb4 : I b4) : I (imageWrite b0 b1 b2 b3 b4) := by
  unfold imageWrite
  extract_lets -merge -useContext x0
  refine may_ite ?_ ?_
  · refine refuse_may h (Sub.rfl.inl.inl.inl.inl.trans hm) hb4
  · split
    · refine refuse_may h (Sub.rfl.inl.inl.inl.inl.trans hm) hb4
    · split
      · refine refuse_may h (Sub.rfl.inl.inl.inl.inl.trans hm) ?_
        · refine noteImageRefused_may h (Sub.rfl.inr.inl.inl.inl.trans hm) hb4
      · refine acceptNow_may h (Sub.rfl.inr.inl.inl.trans hm) (fun a1 a2 ha2 => ?_) hb4
        · refine setImg_may h (Sub.rfl.inr.inl.trans hm) ?_
          · refine emptySlot_may h (Sub.rfl.inr.trans hm) ha2

def imageWritten_m : Nat := setImg_m ||| memberEnd_m ||| fillSlot_m ||| failImage_m
theorem imageWritten_may (h : May M I) (hm : Sub imageWritten_m M) {b0} {b1} (hb1 : I b1) : I (imageWritten b0 b1) := by
  unfold imageWritten
  extract_lets -merge -useContext x0
  have hx0 : I x0 := by
    unfold x0
    refine setImg_may h (Sub.rfl.inl.inl.inl.trans hm) hb1
  clear_value x0
  split
  · exact hb1
  · refine may_ite ?_ ?_
    · refine memberEnd_may h (Sub.rfl.inr.inl.inl.trans hm) ?_
      · refine fillSlot_may h (Sub.rfl.inr.inl.trans hm) hx0
    · refine failImage_may h (Sub.rfl.inr.trans hm) hx0

def imageReload_m : Nat := acceptNow_m ||| setImg_m ||| refuse_m
theorem imageReload_may (h : May M I) (hm : Sub imageReload_m M) {b0} {b1} {b2} {b3} {b4} (hb4 : I b4) : I (imageReload b0 b1 b2 b3 b4) := by
  unfold imageReload
  extract_lets -merge -useContext x0 x1
  have hx1 : ∀ a0 a1, I a1 → I (x1 a0 a1) := by
    intro a2 a3 ha3
    unfold x1
    refine acceptNow_may h (Sub.rfl.inl.inl.trans hm) (fun a4 a5 ha5 => ?_) ha3
    · refine setImg_may h (Sub.rfl.inr.inl.trans hm) ha5
  clear_value x1
  refine may_ite ?_ ?_
  · refine refuse_may h (Sub.rfl.inr.trans hm) hb4
  · refine may_ite ?_ ?_
    · split
      · refine refuse_may h (Sub.rfl.inr.trans hm) hb4
      · refine hx1 _ _ hb4
    · refine hx1 _ _ hb4

def imageValidated_m : Nat := failImage_m ||| noteImageRefused_m ||| setImg_m ||| setCmd_m
theorem imageValidated_may (h : May M I) (hm : Sub imageValidated_m M) {b0} (hb0 : I b0) : I (imageValidated b0) := by
  unfold imageValidated
  split
  · exact hb0
  · refine may_ite ?_ ?_
    · exact hb0
    · split
      · refine failImage_may h (Sub.rfl.inl.inl.inl.trans hm) ?_
        · refine noteImageRefused_may h (Sub.rfl.inr.inl.inl.trans hm) ?_
          · refine setImg_may h (Sub.rfl.inr.inl.trans hm) hb0
      · refine setCmd_may h (Sub.rfl.inr.trans hm) ?_
        · refine setImg_may h (Sub.rfl.inr.inl.trans hm) hb0

def trySlot_m : Nat := noteImageRefused_m
theorem trySlot_may (h : May M I) (hm : Sub trySlot_m M) {b0} {b1} {b2} (hb2 : I b2) : I (trySlot b0 b1 b2).2 := by
  unfold trySlot
  refine may_ite2 ?_ ?_
  · exact hb2
  · split
    · refine noteImageRefused_may h (Sub.rfl.trans hm) hb2
    · exact hb2

def imageBootLoad_m : Nat := setImg_m ||| trySlot_m
theorem imageBootLoad_may (h : May M I) (hm : Sub imageBootLoad_m M) {b0} (hb0 : I b0) : I (imageBootLoad b0) := by
  unfold imageBootLoad
  extract_lets -merge -useContext x0 x1
  have hx0 : I x0 := by
    unfold x0
    refine setImg_may h (Sub.rfl.inl.trans hm) hb0
  clear_value x0
  refine may_ite ?_ ?_
  · exact hb0
  · split
    · rename_i p2 p3 heq4
      have hp3 : I p3 := by
        refine Eq.subst (motive := I) (congrArg Prod.snd heq4) ?_
        refine trySlot_may h (Sub.rfl.inr.trans hm) hx0
      split
      · refine setImg_may h (Sub.rfl.inl.trans hm) hp3
      · split
        · rename_i p5 p6 heq7
          have hp6 : I p6 := by
            refine Eq.subst (motive := I) (congrArg Prod.snd heq7) ?_
            refine trySlot_may h (Sub.rfl.inr.trans hm) hp3
          refine setImg_may h (Sub.rfl.inl.trans hm) hp6

def imageResetStep_m : Nat := abortSalvos_m ||| applyImage_m ||| setImg_m ||| modCmd_m ||| setCmd_m
theorem imageResetStep_may (h : May M I) (hm : Sub imageResetStep_m M) {b0} {b1} (hb1 : I b1) : I (imageResetStep b0 b1) := by
  unfold imageResetStep
  refine may_ite ?_ ?_
  · refine may_ite ?_ ?_
    · refine abortSalvos_may h (Sub.rfl.inl.inl.inl.inl.trans hm) hb1
    · exact hb1
  · split
    · refine applyImage_may h (Sub.rfl.inr.inl.inl.inl.trans hm) ?_
      · refine setImg_may h (Sub.rfl.inr.inl.inl.trans hm) hb1
    · refine may_ite ?_ ?_
      · exact hb1
      · refine setImg_may h (Sub.rfl.inr.inl.inl.trans hm) ?_
        · refine applyImage_may h (Sub.rfl.inr.inl.inl.inl.trans hm) ?_
          · refine modCmd_may h (Sub.rfl.inr.inl.trans hm) ?_
            · refine setCmd_may h (Sub.rfl.inr.trans hm) ?_
              · refine setImg_may h (Sub.rfl.inr.inl.inl.trans hm) hb1
    · exact hb1

def rbCommit_m : Nat := mask [SYS_IMG_RB_STORED.VALUE, SYS_IMG_SLOT_A.STATE, SYS_IMG_SLOT_B.STATE, SYS_IMG_EVT.RB_NOCHANGE, SYS_IMG_EVT.SLOT_STALE] ||| audit_m ||| storeRow_m ||| setF_m ||| raiseAs_m
theorem rbCommit_may (h : May M I) (hm : Sub rbCommit_m M) {b0} (hb0 : I b0) : I (rbCommit b0) := by
  have ho := (Sub.rfl.inl.inl.inl.inl.trans hm)
  unfold rbCommit
  extract_lets -merge -useContext x0 x1 x2 x3 x4 x5 x6
  have hx2 : I x2 := by
    unfold x2
    refine audit_may h (Sub.rfl.inr.inl.inl.inl.trans hm) ?_
    · refine storeRow_may h (Sub.rfl.inr.inl.inl.trans hm) (fun a7 ha7 => ?_) hb0
      · refine setF_may h (Sub.rfl.inr.inl.trans hm) (ho.ok (by decide +kernel)) ha7
  clear_value x2
  have hx5 : I x5 := by
    unfold x5
    refine may_ite ?_ ?_
    · refine setF_may h (Sub.rfl.inr.inl.trans hm) (ho.ok (by decide +kernel)) hx2
    · exact hx2
  clear_value x5
  have hx6 : I x6 := by
    unfold x6
    refine may_ite ?_ ?_
    · refine setF_may h (Sub.rfl.inr.inl.trans hm) (ho.ok (by decide +kernel)) hx5
    · exact hx5
  clear_value x6
  refine may_ite ?_ ?_
  · refine raiseAs_may h (Sub.rfl.inr.trans hm) (ho.okAll (by decide +kernel)) hb0
  · refine may_ite ?_ ?_
    · refine raiseAs_may h (Sub.rfl.inr.trans hm) (ho.okAll (by decide +kernel)) hx6
    · exact hx6

def execImageWrite_m : Nat := ringCmd_m ||| withBad_m ||| imageWrite_m
theorem execImageWrite_may (h : May M I) (hm : Sub execImageWrite_m M) (hr : Run M I) {b0} {b1} {b2} {b3} {b4} {b5} (hb5 : I b5) : Ans I (execImageWrite b0 b1 b2 b3 b4 b5) := by
  refine ⟨_, rfl, ?_⟩
  refine ringCmd_may h (Sub.rfl.inl.inl.trans hm) hr (fun I h a0 a1 ha1 => ?_) hb5
  · refine withBad_may h (Sub.rfl.inr.inl.trans hm) (fun a2 ha2 => ?_) ha1
    · refine imageWrite_may h (Sub.rfl.inr.trans hm) ha2

def execImageWriteDone_m : Nat := onService_m ||| imageWritten_m
theorem execImageWriteDone_may (h : May M I) (hm : Sub execImageWriteDone_m M) (hr : Run M I) {b0} {b1} {b2} (hb2 : I b2) : Ans I (execImageWriteDone b0 b1 b2) := by
  refine ⟨_, rfl, ?_⟩
  refine onService_may h (Sub.rfl.inl.trans hm) hr (fun I h a0 ha0 => ?_) hb2
  · refine imageWritten_may h (Sub.rfl.inr.trans hm) ha0

def execImageReload_m : Nat := ringCmd_m ||| imageReload_m
theorem execImageReload_may (h : May M I) (hm : Sub execImageReload_m M) (hr : Run M I) {b0} {b1} {b2} {b3} {b4} (hb4 : I b4) : Ans I (execImageReload b0 b1 b2 b3 b4) := by
  refine ⟨_, rfl, ?_⟩
  refine ringCmd_may h (Sub.rfl.inl.trans hm) hr (fun I h a0 a1 ha1 => ?_) hb4
  · refine imageReload_may h (Sub.rfl.inr.trans hm) ha1

def execImageValidated_m : Nat := onService_m ||| withBad_m ||| imageValidated_m
theorem execImageValidated_may (h : May M I) (hm : Sub execImageValidated_m M) (hr : Run M I) {b0} {b1} {b2} (hb2 : I b2) : Ans I (execImageValidated b0 b1 b2) := by
  refine ⟨_, rfl, ?_⟩
  refine onService_may h (Sub.rfl.inl.inl.trans hm) hr (fun I h a0 ha0 => ?_) hb2
  · refine withBad_may h (Sub.rfl.inr.inl.trans hm) (fun a1 ha1 => ?_) ha0
    · refine imageValidated_may h (Sub.rfl.inr.trans hm) ha1

def execImageBootLoad_m : Nat := whenReady_m ||| onService_m ||| withBad_m ||| imageBootLoad_m
theorem execImageBootLoad_may (h : May M I) (hm : Sub execImageBootLoad_m M) (hr : Run M I) {b0} {b1} {b2} (hb2 : I b2) : Ans I (execImageBootLoad b0 b1 b2) := by
  refine ⟨_, rfl, ?_⟩
  refine whenReady_may h (Sub.rfl.inl.inl.inl.trans hm) (fun a0 ha0 => ?_) hb2
  · refine onService_may h (Sub.rfl.inr.inl.inl.trans hm) hr (fun I h a1 ha1 => ?_) ha0
    · refine withBad_may h (Sub.rfl.inr.inl.trans hm) (fun a2 ha2 => ?_) ha1
      · refine imageBootLoad_may h (Sub.rfl.inr.trans hm) ha2

def execImageReset_m : Nat := whenReady_m ||| onService_m ||| withBad_m ||| imageResetStep_m
theorem execImageReset_may (h : May M I) (hm : Sub execImageReset_m M) (hr : Run M I) {b0} {b1} {b2} {b3} (hb3 : I b3) : Ans I (execImageReset b0 b1 b2 b3) := by
  refine ⟨_, rfl, ?_⟩
  refine whenReady_may h (Sub.rfl.inl.inl.inl.trans hm) (fun a0 ha0 => ?_) hb3
  · refine onService_may h (Sub.rfl.inr.inl.inl.trans hm) hr (fun I h a1 ha1 => ?_) ha0
    · refine withBad_may h (Sub.rfl.inr.inl.trans hm) (fun a2 ha2 => ?_) ha1
      · refine imageResetStep_may h (Sub.rfl.inr.trans hm) ha2

def execRbCommit_m : Nat := onSys_m ||| withBad_m ||| rbCommit_m
theorem execRbCommit_may (h : May M I) (hm : Sub execRbCommit_m M) (hr : Run M I) {b0} {b1} {b2} (hb2 : I b2) : Ans I (execRbCommit b0 b1 b2) := by
  refine ⟨_, rfl, ?_⟩
  refine onSys_may h (Sub.rfl.inl.inl.trans hm) hr (fun I h a0 ha0 => ?_) hb2
  · refine withBad_may h (Sub.rfl.inr.inl.trans hm) (fun a1 ha1 => ?_) ha0
    · refine rbCommit_may h (Sub.rfl.inr.trans hm) ha1

def haltModule_m : Nat := mask [SYS_STATUS.READY, SYS_STATUS.HALTED] ||| forEach_m ||| setDom_m ||| setF_m
theorem haltModule_may (h : May M I) (hm : Sub haltModule_m M) {b0} (hb0 : I b0) : I (haltModule b0) := by
  have ho := (Sub.rfl.inl.inl.inl.trans hm)
  unfold haltModule
  refine forEach_may h (Sub.rfl.inr.inl.inl.trans hm) (fun a0 a1 ha1 => ?_) ?_
  · refine setDom_may h (Sub.rfl.inr.inl.trans hm) ha1
  · refine setF_may h (Sub.rfl.inr.trans hm) (ho.ok (by decide +kernel)) ?_
    · refine setF_may h (Sub.rfl.inr.trans hm) (ho.ok (by decide +kernel)) hb0

def markFailed_m : Nat := mask [SYS_FAIL_LGI.MAP, SYS_FAIL_LGO.MAP, SYS_FAIL_MISC.ETH, SYS_FAIL_MISC.STACK, SYS_FAIL_BANK.MAP] ||| setBit_m
theorem markFailed_may (h : May M I) (hm : Sub markFailed_m M) {b0} {b1} (hb1 : I b1) : I (markFailed b0 b1) := by
  have ho := (Sub.rfl.inl.trans hm)
  unfold markFailed
  refine may_ite ?_ ?_
  · refine setBit_may h (Sub.rfl.inr.trans hm) (ho.ok (by decide +kernel)) hb1
  · refine may_ite ?_ ?_
    · refine setBit_may h (Sub.rfl.inr.trans hm) (ho.ok (by decide +kernel)) hb1
    · refine may_ite ?_ ?_
      · refine setBit_may h (Sub.rfl.inr.trans hm) (ho.ok (by decide +kernel)) hb1
      · refine may_ite ?_ ?_
        · refine setBit_may h (Sub.rfl.inr.trans hm) (ho.ok (by decide +kernel)) hb1
        · refine may_ite ?_ ?_
          · refine setBit_may h (Sub.rfl.inr.trans hm) (ho.ok (by decide +kernel)) hb1
          · exact hb1

def killDomain_m : Nat := setDom_m ||| setBoot_m ||| markFailed_m
theorem killDomain_may (h : May M I) (hm : Sub killDomain_m M) {b0} {b1} (hb1 : I b1) : I (killDomain b0 b1) := by
  unfold killDomain
  refine setDom_may h (Sub.rfl.inl.inl.trans hm) ?_
  · refine setBoot_may h (Sub.rfl.inr.inl.trans hm) ?_
    · refine markFailed_may h (Sub.rfl.inr.trans hm) hb1

def recordFault_m : Nat := mask [SYS_BOOT_FAIL.UNIT, SYS_BOOT_FAIL.STEP, SYS_BOOT_FAIL.CODE] ||| setF_m
theorem recordFault_may (h : May M I) (hm : Sub recordFault_m M) {b0} {b1} {b2} (hb2 : I b2) : I (recordFault b0 b1 b2) := by
  have ho := (Sub.rfl.inl.trans hm)
  unfold recordFault
  refine setF_may h (Sub.rfl.inr.trans hm) (ho.ok (by decide +kernel)) ?_
  · refine setF_may h (Sub.rfl.inr.trans hm) (ho.ok (by decide +kernel)) ?_
    · refine setF_may h (Sub.rfl.inr.trans hm) (ho.ok (by decide +kernel)) hb2

def areaDefaults_m : Nat := mask vaultFields ||| setShf_m ||| setPst_m ||| clearFlds_m
theorem areaDefaults_may (h : May M I) (hm : Sub areaDefaults_m M) {b0} (hb0 : I b0) : I (areaDefaults b0) := by
  unfold areaDefaults
  refine setShf_may h (Sub.rfl.inr.inl.inl.trans hm) ?_
  · refine setPst_may h (Sub.rfl.inr.inl.trans hm) ?_
    · refine clearFlds_may h (Sub.rfl.inr.trans hm) ((Sub.rfl.inl.inl.inl.trans hm).okAll (by decide +kernel)) hb0

def degrade_m : Nat := mask [SYS_FAIL_MISC.TWIN, SYS_FAIL_MISC.WATCH, SYS_FAIL_MISC.PST_ROW, SYS_FAIL_MISC.PST] ||| killDomain_m ||| setBoot_m ||| setF_m ||| setDiag_m ||| deadStore_m
theorem degrade_may (h : May M I) (hm : Sub degrade_m M) {b0} {b1} {b2} (hb2 : I b2) : I (degrade b0 b1 b2) := by
  have ho := (Sub.rfl.inl.inl.inl.inl.inl.trans hm)
  unfold degrade
  refine may_ite ?_ ?_
  · refine killDomain_may h (Sub.rfl.inr.inl.inl.inl.inl.trans hm) hb2
  · refine may_ite ?_ ?_
    · refine killDomain_may h (Sub.rfl.inr.inl.inl.inl.inl.trans hm) hb2
    · refine may_ite ?_ ?_
      · refine setBoot_may h (Sub.rfl.inr.inl.inl.inl.trans hm) hb2
      · refine may_ite ?_ ?_
        · refine may_ite ?_ ?_
          · refine setF_may h (Sub.rfl.inr.inl.inl.trans hm) (ho.ok (by decide +kernel)) hb2
          · refine setF_may h (Sub.rfl.inr.inl.inl.trans hm) (ho.ok (by decide +kernel)) hb2
        · refine may_ite ?_ ?_
          · refine setDiag_may h (Sub.rfl.inr.inl.trans hm) ?_
            · refine killDomain_may h (Sub.rfl.inr.inl.inl.inl.inl.trans hm) hb2
          · refine may_ite ?_ ?_
            · refine killDomain_may h (Sub.rfl.inr.inl.inl.inl.inl.trans hm) hb2
            · refine may_ite ?_ ?_
              · refine setF_may h (Sub.rfl.inr.inl.inl.trans hm) (ho.ok (by decide +kernel)) hb2
              · refine deadStore_may h (Sub.rfl.inr.trans hm) ?_
                · refine setF_may h (Sub.rfl.inr.inl.inl.trans hm) (ho.ok (by decide +kernel)) hb2

def bootFault_m : Nat := recordFault_m ||| haltModule_m ||| degrade_m ||| setBoot_m
theorem bootFault_may (h : May M I) (hm : Sub bootFault_m M) {b0} {b1} {b2} (hb2 : I b2) : I (bootFault b0 b1 b2) := by
  unfold bootFault
  extract_lets -merge -useContext x0
  have hx0 : I x0 := by
    unfold x0
    refine may_ite ?_ ?_
    · refine recordFault_may h (Sub.rfl.inl.inl.inl.trans hm) hb2
    · exact hb2
  clear_value x0
  refine may_ite ?_ ?_
  · exact hb2
  · refine may_ite ?_ ?_
    · refine haltModule_may h (Sub.rfl.inr.inl.inl.trans hm) ?_
      · refine recordFault_may h (Sub.rfl.inl.inl.inl.trans hm) hb2
    · refine degrade_may h (Sub.rfl.inr.inl.trans hm) ?_
      · refine setBoot_may h (Sub.rfl.inr.trans hm) hx0

def powerOff_m : Nat := mask [SEC_CHAL_CTL.LOCKOUT_S] ||| pmask [.powered] ||| setF_m
theorem powerOff_may (h : May M I) (hm : Sub powerOff_m M) {b0} (hb0 : I b0) : I (powerOff b0) := by
  have ho := (Sub.rfl.inl.inl.trans hm)
  have hp := (Sub.rfl.inr.inl.trans hm)
  unfold powerOff
  extract_lets -merge -useContext x0
  have hx0 : I x0 := by
    unfold x0
    refine setF_may h (Sub.rfl.inr.trans hm) (ho.ok (by decide +kernel)) hb0
  clear_value x0
  exact h.powered (hp.testBit (by decide +kernel)) (hx0)

def readFuses_m : Nat := mask [SEC_STATUS.AE, SYS_INFO.STEP_MIN, SYS_INFO.STEP_MAJ, SYS_INFO.AE, SYS_ID.ID, SEC_KEYS.SLOTS, SEC_STATUS.CLASS_REQ, SEC_STATUS.EVAL_FIXED] ||| setB_m ||| setF_m
theorem readFuses_may (h : May M I) (hm : Sub readFuses_m M) {b0} {b1} (hb1 : I b1) : I (readFuses b0 b1) := by
  have ho := (Sub.rfl.inl.inl.trans hm)
  unfold readFuses
  extract_lets -merge -useContext x0
  have hx0 : I x0 := by
    unfold x0
    refine setB_may h (Sub.rfl.inr.inl.trans hm) (ho.ok (by decide +kernel)) ?_
    · refine setF_may h (Sub.rfl.inr.trans hm) (ho.ok (by decide +kernel)) ?_
      · refine setF_may h (Sub.rfl.inr.trans hm) (ho.ok (by decide +kernel)) ?_
        · refine setB_may h (Sub.rfl.inr.inl.trans hm) (ho.ok (by decide +kernel)) ?_
          · refine setF_may h (Sub.rfl.inr.trans hm) (ho.ok (by decide +kernel)) hb1
  clear_value x0
  refine may_ite ?_ ?_
  · refine may_ite ?_ ?_
    · refine setF_may h (Sub.rfl.inr.trans hm) (ho.ok (by decide +kernel)) ?_
      · refine setF_may h (Sub.rfl.inr.trans hm) (ho.ok (by decide +kernel)) ?_
        · refine setF_may h (Sub.rfl.inr.trans hm) (ho.ok (by decide +kernel)) hx0
    · refine setF_may h (Sub.rfl.inr.trans hm) (ho.ok (by decide +kernel)) ?_
      · refine setF_may h (Sub.rfl.inr.trans hm) (ho.ok (by decide +kernel)) hx0
  · exact hx0

def powerCore_m : Nat := forEach_m ||| setDom_m
theorem powerCore_may (h : May M I) (hm : Sub powerCore_m M) {b0} (hb0 : I b0) : I (powerCore b0) := by
  unfold powerCore
  refine forEach_may h (Sub.rfl.inl.trans hm) (fun a0 a1 ha1 => ?_) hb0
  · refine setDom_may h (Sub.rfl.inr.trans hm) ha1

def startTwinLink_m : Nat := forEach_m ||| startSeriesOn_m
theorem startTwinLink_may (h : May M I) (hm : Sub startTwinLink_m M) {b0} (hb0 : I b0) : I (startTwinLink b0) := by
  unfold startTwinLink
  refine may_ite ?_ ?_
  · exact hb0
  · refine forEach_may h (Sub.rfl.inl.trans hm) (fun a0 a1 ha1 => ?_) hb0
    · refine startSeriesOn_may h (Sub.rfl.inr.trans hm) ?_
      · refine startSeriesOn_may h (Sub.rfl.inr.trans hm) ha1

def restStacks_m : Nat := forEach_m ||| setDom_m
theorem restStacks_may (h : May M I) (hm : Sub restStacks_m M) {b0} (hb0 : I b0) : I (restStacks b0) := by
  unfold restStacks
  refine forEach_may h (Sub.rfl.inl.trans hm) (fun a0 a1 ha1 => ?_) hb0
  · refine may_ite ?_ ?_
    · exact ha1
    · refine setDom_may h (Sub.rfl.inr.trans hm) ha1

def emptyShofar_m : Nat := setShf_m
theorem emptyShofar_may (h : May M I) (hm : Sub emptyShofar_m M) {b0} (hb0 : I b0) : I (emptyShofar b0) := by
  unfold emptyShofar
  refine setShf_may h (Sub.rfl.trans hm) hb0

def rowDefault_m : Nat := mask [PST_ROUTE.SOURCE, PST_LABEL.WORD, PIP_REF_CFG.PRIO, PIP_REF_CFG.LOCKOUT, TWN_EPOCH.EPOCH, PST_STATUS.LAST_ROLE, SYS_IMG_BOOT.PREFER, SHF_BUNDLE.VALID, SHF_BUNDLE.N_MSG_M1, SHF_BUNDLE.BCOUNTER_LO, SHF_SEQ.SEQ] ||| forEach_m ||| setF_m ||| setPst_m ||| clearFlds_m ||| setShf_m ||| emptyShofar_m
theorem rowDefault_may (h : May M I) (hm : Sub rowDefault_m M) {b0} {b1} (hb1 : I b1) : I (rowDefault b0 b1) := by
  have ho := (Sub.rfl.inl.inl.inl.inl.inl.inl.trans hm)
  unfold rowDefault
  extract_lets -merge -useContext x0
  split
  · refine forEach_may h (Sub.rfl.inr.inl.inl.inl.inl.inl.trans hm) (fun a1 a2 ha2 => ?_) hb1
    · refine setF_may h (Sub.rfl.inr.inl.inl.inl.inl.trans hm) (ho.ok (by decide +kernel)) ha2
  · split
    · refine forEach_may h (Sub.rfl.inr.inl.inl.inl.inl.inl.trans hm) (fun a3 a4 ha4 => ?_) hb1
      · refine setF_may h (Sub.rfl.inr.inl.inl.inl.inl.trans hm) (ho.ok (by decide +kernel)) ha4
    · split
      · refine setPst_may h (Sub.rfl.inr.inl.inl.inl.trans hm) ?_
        · refine clearFlds_may h (Sub.rfl.inr.inl.inl.trans hm) (ho.okAll (by decide +kernel)) hb1
      · split
        · refine setPst_may h (Sub.rfl.inr.inl.inl.inl.trans hm) hb1
        · split
          · dsimp only
            have hx : I (setShf (fun f => { f with copies := mput [] f.copies ((b0 - 290) / 32) [] }) b1) :=
              setShf_may h (Sub.rfl.inr.inl.trans hm) hb1
            refine may_ite ?_ hx
            refine emptyShofar_may h (Sub.rfl.inr.trans hm) ?_
            · refine clearFlds_may h (Sub.rfl.inr.inl.inl.trans hm) (ho.okAll (by decide +kernel)) ?_
              · refine setShf_may h (Sub.rfl.inr.inl.trans hm) hx
          · split
            · refine emptyShofar_may h (Sub.rfl.inr.trans hm) ?_
              · refine clearFlds_may h (Sub.rfl.inr.inl.inl.trans hm) (ho.okAll (by decide +kernel)) ?_
                · refine setShf_may h (Sub.rfl.inr.inl.trans hm) hb1
            · exact hb1

def repairRow_m : Nat := mask [SYS_EVT.PST_REPAIR] ||| raise_m ||| storeRow_m ||| rowDefault_m
theorem repairRow_may (h : May M I) (hm : Sub repairRow_m M) {b0} {b1} (hb1 : I b1) : I (repairRow b0 b1) := by
  have ho := (Sub.rfl.inl.inl.inl.trans hm)
  unfold repairRow
  refine raise_may h (Sub.rfl.inr.inl.inl.trans hm) (ho.okAll (by decide +kernel)) ?_
  · refine storeRow_may h (Sub.rfl.inr.inl.trans hm) (fun a0 ha0 => ?_) hb1
    · refine rowDefault_may h (Sub.rfl.inr.trans hm) ha0

def eraseAreas_m : Nat := showRaised_m ||| forEach_m ||| storeRow_m ||| rowDefault_m
theorem eraseAreas_may (h : May M I) (hm : Sub eraseAreas_m M) {b0} (hb0 : I b0) : I (eraseAreas b0) := by
  unfold eraseAreas
  extract_lets -merge -useContext x0
  refine showRaised_may h (Sub.rfl.inl.inl.inl.trans hm) ?_
  · refine forEach_may h (Sub.rfl.inr.inl.inl.trans hm) (fun a1 a2 ha2 => ?_) hb0
    · refine storeRow_may h (Sub.rfl.inr.inl.trans hm) (fun a3 ha3 => ?_) ha2
      · refine rowDefault_may h (Sub.rfl.inr.trans hm) ha3

def placeLabel_m : Nat := mask [PST_LABEL.WORD] ||| setPst_m ||| storeRow_m ||| forEach_m ||| setF_m
theorem placeLabel_may (h : May M I) (hm : Sub placeLabel_m M) {b0} (hb0 : I b0) : I (placeLabel b0) := by
  have ho := (Sub.rfl.inl.inl.inl.inl.trans hm)
  unfold placeLabel
  split
  · exact hb0
  · extract_lets -merge -useContext x0 x1
    refine setPst_may h (Sub.rfl.inr.inl.inl.inl.trans hm) ?_
    · refine storeRow_may h (Sub.rfl.inr.inl.inl.trans hm) (fun a2 ha2 => ?_) ?_
      · exact ha2
      · refine storeRow_may h (Sub.rfl.inr.inl.inl.trans hm) (fun a3 ha3 => ?_) hb0
        · refine forEach_may h (Sub.rfl.inr.inl.trans hm) (fun a4 a5 ha5 => ?_) ha3
          · refine setF_may h (Sub.rfl.inr.trans hm) (ho.ok (by decide +kernel)) ha5

def restoreShofar_m : Nat := judgeContact_m ||| showRaised_m ||| setShf_m ||| forEach_m ||| setContact_m
theorem restoreShofar_may (h : May M I) (hm : Sub restoreShofar_m M) {b0} (hb0 : I b0) : I (restoreShofar b0) := by
  unfold restoreShofar
  refine may_ite ?_ ?_
  · exact hb0
  · refine judgeContact_may h (Sub.rfl.inl.inl.inl.inl.trans hm) ?_
    · refine judgeContact_may h (Sub.rfl.inl.inl.inl.inl.trans hm) ?_
      · refine showRaised_may h (Sub.rfl.inr.inl.inl.inl.trans hm) ?_
        · refine setShf_may h (Sub.rfl.inr.inl.inl.trans hm) ?_
          · refine forEach_may h (Sub.rfl.inr.inl.trans hm) (fun a0 a1 ha1 => ?_) ?_
            · split
              · refine setContact_may h (Sub.rfl.inr.trans hm) ha1
              · exact ha1
            · refine setShf_may h (Sub.rfl.inr.inl.inl.trans hm) hb0

def truncateLog_m : Nat := mask [SEC_AUDIT_NEW.ASEQ] ||| audit_m ||| setF_m ||| setSec_m
theorem truncateLog_may (h : May M I) (hm : Sub truncateLog_m M) {b0} (hb0 : I b0) : I (truncateLog b0) := by
  have ho := (Sub.rfl.inl.inl.inl.trans hm)
  unfold truncateLog
  split
  · exact hb0
  · refine audit_may h (Sub.rfl.inr.inl.inl.trans hm) ?_
    · refine setF_may h (Sub.rfl.inr.inl.trans hm) (ho.ok (by decide +kernel)) ?_
      · refine setSec_may h (Sub.rfl.inr.trans hm) hb0

def checkStore_m : Nat := mask [PST_STATUS.WARN_ROWS, PST_STATUS.SPARES_LEFT] ||| placeLabel_m ||| forEach_m ||| bootFault_m ||| repairRow_m ||| correctedReads_m ||| setPst_m ||| truncateLog_m ||| restoreShofar_m ||| setBoot_m ||| audit_m ||| setF_m
theorem checkStore_may (h : May M I) (hm : Sub checkStore_m M) {b0} {b1} (hb1 : I b1) : I (checkStore b0 b1) := by
  have ho := (Sub.rfl.inl.inl.inl.inl.inl.inl.inl.inl.inl.inl.inl.trans hm)
  unfold checkStore
  extract_lets -merge -useContext x0 x1 x2
  have hx1 : I x1 := by
    unfold x1
    refine may_ite ?_ ?_
    · exact hb1
    · refine placeLabel_may h (Sub.rfl.inr.inl.inl.inl.inl.inl.inl.inl.inl.inl.inl.trans hm) ?_
      · refine forEach_may h (Sub.rfl.inr.inl.inl.inl.inl.inl.inl.inl.inl.inl.trans hm) (fun a3 a4 ha4 => ?_) ?_
        · refine bootFault_may h (Sub.rfl.inr.inl.inl.inl.inl.inl.inl.inl.inl.trans hm) ?_
          · refine repairRow_may h (Sub.rfl.inr.inl.inl.inl.inl.inl.inl.inl.trans hm) ha4
        · refine forEach_may h (Sub.rfl.inr.inl.inl.inl.inl.inl.inl.inl.inl.inl.trans hm) (fun a5 a6 ha6 => ?_) ?_
          · refine correctedReads_may h (Sub.rfl.inr.inl.inl.inl.inl.inl.inl.trans hm) ha6
          · refine setPst_may h (Sub.rfl.inr.inl.inl.inl.inl.inl.trans hm) hb1
  clear_value x1
  have hx2 : I x2 := by
    unfold x2
    refine may_ite ?_ ?_
    · refine truncateLog_may h (Sub.rfl.inr.inl.inl.inl.inl.trans hm) hx1
    · exact hx1
  clear_value x2
  refine restoreShofar_may h (Sub.rfl.inr.inl.inl.inl.trans hm) ?_
  · refine setBoot_may h (Sub.rfl.inr.inl.inl.trans hm) ?_
    · refine audit_may h (Sub.rfl.inr.inl.trans hm) ?_
      · refine setF_may h (Sub.rfl.inr.trans hm) (ho.ok (by decide +kernel)) ?_
        · refine setF_may h (Sub.rfl.inr.trans hm) (ho.ok (by decide +kernel)) hx2

def becomeReady_m : Nat := mask [TWN_STATUS.FIT, SYS_BOOT_TIME.TIME_US, SYS_STATUS.DEGRADED, SYS_EVT.READY, SYS_EVT.DEGRADED, PWR_EVT.WOKE, SYS_STATUS.READY] ||| setB_m ||| setF_m ||| raise_m ||| flushEvents_m
theorem becomeReady_may (h : May M I) (hm : Sub becomeReady_m M) {b0} (hb0 : I b0) : I (becomeReady b0) := by
  have ho := (Sub.rfl.inl.inl.inl.inl.trans hm)
  unfold becomeReady
  extract_lets -merge -useContext x0 x1 x2
  have hx0 : I x0 := by
    unfold x0
    refine setB_may h (Sub.rfl.inr.inl.inl.inl.trans hm) (ho.ok (by decide +kernel)) ?_
    · refine setF_may h (Sub.rfl.inr.inl.inl.trans hm) (ho.ok (by decide +kernel)) ?_
      · refine setB_may h (Sub.rfl.inr.inl.inl.inl.trans hm) (ho.ok (by decide +kernel)) ?_
        · refine raise_may h (Sub.rfl.inr.inl.trans hm) (by split <;> exact ho.okAll (by decide +kernel)) hb0
  clear_value x0
  have hx1 : I x1 := by
    unfold x1
    refine may_ite ?_ ?_
    · refine raise_may h (Sub.rfl.inr.inl.trans hm) (ho.okAll (by decide +kernel)) hx0
    · exact hx0
  clear_value x1
  have hx2 : I x2 := by
    unfold x2
    refine setF_may h (Sub.rfl.inr.inl.inl.trans hm) (ho.ok (by decide +kernel)) hx1
  clear_value x2
  refine may_ite ?_ ?_
  · refine flushEvents_may h (Sub.rfl.inr.trans hm) hx2
  · exact hx2

def clearSram_m : Nat := mask [SYS_REMAP.REMAP] ||| setF_m ||| setXpt_m
theorem clearSram_may (h : May M I) (hm : Sub clearSram_m M) {b0} (hb0 : I b0) : I (clearSram b0) := by
  have ho := (Sub.rfl.inl.inl.trans hm)
  unfold clearSram
  refine setF_may h (Sub.rfl.inr.inl.trans hm) (ho.ok (by decide +kernel)) ?_
  · refine setXpt_may h (Sub.rfl.inr.trans hm) hb0

def stepWork_m : Nat := readFuses_m ||| powerCore_m ||| startTwinLink_m ||| restStacks_m ||| clearSram_m ||| checkStore_m ||| becomeReady_m
theorem stepWork_may (h : May M I) (hm : Sub stepWork_m M) {b0} {b1} (hb1 : I b1) : I (stepWork b0 b1) := by
  unfold stepWork
  split
  · refine readFuses_may h (Sub.rfl.inl.inl.inl.inl.inl.inl.trans hm) hb1
  · refine powerCore_may h (Sub.rfl.inr.inl.inl.inl.inl.inl.trans hm) hb1
  · refine startTwinLink_may h (Sub.rfl.inr.inl.inl.inl.inl.trans hm) hb1
  · refine restStacks_may h (Sub.rfl.inr.inl.inl.inl.trans hm) hb1
  · refine clearSram_may h (Sub.rfl.inr.inl.inl.trans hm) hb1
  · refine checkStore_may h (Sub.rfl.inr.inl.trans hm) hb1
  · refine becomeReady_may h (Sub.rfl.inr.trans hm) hb1
  · exact hb1

def endStep_m : Nat := mask [SYS_STATUS.STEP] ||| forEach_m ||| bootFault_m ||| setF_m ||| stepWork_m
theorem endStep_may (h : May M I) (hm : Sub endStep_m M) {b0} {b1} (hb1 : I b1) : I (endStep b0 b1) := by
  have ho := (Sub.rfl.inl.inl.inl.inl.trans hm)
  unfold endStep
  extract_lets -merge -useContext x0 x1
  have hx1 : I x1 := by
    unfold x1
    refine forEach_may h (Sub.rfl.inr.inl.inl.inl.trans hm) (fun a2 a3 ha3 => ?_) hb1
    · refine bootFault_may h (Sub.rfl.inr.inl.inl.trans hm) ha3
  clear_value x1
  refine may_ite ?_ ?_
  · exact hx1
  · refine may_ite ?_ ?_
    · refine setF_may h (Sub.rfl.inr.inl.trans hm) (ho.ok (by decide +kernel)) ?_
      · refine stepWork_may h (Sub.rfl.inr.trans hm) hx1
    · refine stepWork_may h (Sub.rfl.inr.trans hm) hx1

def bringupEnd_m : Nat := endStep_m
theorem bringupEnd_may (h : May M I) (hm : Sub bringupEnd_m M) {b0} {b1} (hb1 : I b1) : I (bringupEnd b0 b1) := by
  unfold bringupEnd
  refine may_ite ?_ ?_
  · refine endStep_may h (Sub.rfl.trans hm) hb1
  · exact hb1

def bringupLate_m : Nat := endStep_m
theorem bringupLate_may (h : May M I) (hm : Sub bringupLate_m M) {b0} {b1} {b2} (hb2 : I b2) : I (bringupLate b0 b1 b2) := by
  unfold bringupLate
  refine may_ite ?_ ?_
  · refine endStep_may h (Sub.rfl.trans hm) hb2
  · exact hb2

def releaseCold_m : Nat := setBoot_m
theorem releaseCold_may (h : May M I) (hm : Sub releaseCold_m M) {b0} (hb0 : I b0) : I (releaseCold b0) := by
  unfold releaseCold
  refine may_ite ?_ ?_
  · refine setBoot_may h (Sub.rfl.trans hm) hb0
  · exact hb0

def clearBlocks_m : Nat := pmask [.snap, .lane, .time, .xpt, .cmp, .aud, .reed, .eth, .dbg, .cmd, .twin, .sec, .shf, .img, .mon, .evtHeld]
theorem clearBlocks_may (h : May M I) (hm : Sub clearBlocks_m M) {b0} (hb0 : I b0) : I (clearBlocks b0) := by
  have hp := (Sub.rfl.trans hm)
  unfold clearBlocks
  have k0 := h.snap (x := []) (hp.testBit (by decide +kernel)) hb0
  have k1 := h.xpt (x := {}) (hp.testBit (by decide +kernel)) k0
  have k2 := h.cmp (x := {}) (hp.testBit (by decide +kernel)) k1
  have k3 := h.aud (x := { boundary := b0.aud.boundary }) (hp.testBit (by decide +kernel)) k2
  have k4 := h.reed (x := {}) (hp.testBit (by decide +kernel)) k3
  have k5 := h.eth (x := { ports := b0.eth.ports }) (hp.testBit (by decide +kernel)) k4
  have k6 := h.cmd (x := { uid := b0.cmd.uid }) (hp.testBit (by decide +kernel)) k5
  have k7 := h.twin (x := { bseq := b0.twin.bseq, roleAt := b0.now, hseq := b0.twin.hseq, silentAt := some (b0.twin.silentAt.getD b0.now) }) (hp.testBit (by decide +kernel)) k6
  have k8 := h.sec (x := { b0.sec with nonceAt := none }) (hp.testBit (by decide +kernel)) k7
  have k9 := h.shf (x := { b0.shf with pendBundle := [], pendReq := [], flash := [] }) (hp.testBit (by decide +kernel)) k8
  have k10 := h.img (x := { slots := b0.img.slots, presets := b0.img.presets }) (hp.testBit (by decide +kernel)) k9
  have k11 := h.dbg (x := { tapTest := b0.dbg.tapTest, ir := b0.dbg.ir, scan := b0.dbg.scan }) (hp.testBit (by decide +kernel)) k10
  have k12 := h.mon (x := {}) (hp.testBit (by decide +kernel)) k11
  have k13 := h.evtHeld (x := []) (hp.testBit (by decide +kernel)) k12
  have k14 := h.lane (x := { b0.lane with rx := [], inp := b0.lane.inp.map (fun p => (p.1, { p.2 with sideSeen := false })) }) (hp.testBit (by decide +kernel)) k13
  have k15 := h.time (x := { b0.time with pulses := [] }) (hp.testBit (by decide +kernel)) k14
  exact k15

def moduleReset_m : Nat := mask [PWR_WAKE.SLEPT, SYS_RESET_CAUSE.CAUSE, SYS_STATUS.STEP] ||| mask runningFields ||| pmask [.hold] ||| resetExcept_m ||| clearBlocks_m ||| fnReset_m ||| enterRole_m ||| abortBursts_m ||| setBoot_m ||| setF_m ||| forEach_m ||| setDom_m
theorem moduleReset_may (h : May M I) (hm : Sub moduleReset_m M) {b0} {b1} {b2} (hb2 : I b2) : I (moduleReset b0 b1 b2) := by
  have ho := (Sub.rfl.inl.inl.inl.inl.inl.inl.inl.inl.inl.inl.inl.trans hm)
  have hp := (Sub.rfl.inr.inl.inl.inl.inl.inl.inl.inl.inl.inl.trans hm)
  unfold moduleReset
  extract_lets -merge -useContext x0
  have hx0 : I x0 := by
    unfold x0
    refine resetExcept_may h (Sub.rfl.inr.inl.inl.inl.inl.inl.inl.inl.inl.trans hm) ((Sub.rfl.inr.inl.inl.inl.inl.inl.inl.inl.inl.inl.inl.trans hm).okAll (by decide +kernel)) ?_
    · refine clearBlocks_may h (Sub.rfl.inr.inl.inl.inl.inl.inl.inl.inl.trans hm) ?_
      · refine fnReset_may h (Sub.rfl.inr.inl.inl.inl.inl.inl.inl.trans hm) ?_
        · refine enterRole_may h (Sub.rfl.inr.inl.inl.inl.inl.inl.trans hm) hb2
  clear_value x0
  refine abortBursts_may h (Sub.rfl.inr.inl.inl.inl.inl.trans hm) ?_
  · refine setBoot_may h (Sub.rfl.inr.inl.inl.inl.trans hm) ?_
    · refine setF_may h (Sub.rfl.inr.inl.inl.trans hm) (ho.ok (by decide +kernel)) ?_
      · refine setF_may h (Sub.rfl.inr.inl.inl.trans hm) (ho.ok (by decide +kernel)) ?_
        · refine setF_may h (Sub.rfl.inr.inl.inl.trans hm) (ho.ok (by decide +kernel)) ?_
          · refine forEach_may h (Sub.rfl.inr.inl.trans hm) (fun a1 a2 ha2 => ?_) ?_
            · refine setDom_may h (Sub.rfl.inr.trans hm) ha2
            · exact h.hold (hp.testBit (by decide +kernel)) (hx0)

def orderReset_m : Nat := setBoot_m ||| setTwin_m ||| enterRole_m ||| moduleReset_m
theorem orderReset_may (h : May M I) (hm : Sub orderReset_m M) {b0} {b1} {b2} (hb2 : I b2) : I (orderReset b0 b1 b2) := by
  unfold orderReset
  refine may_ite ?_ ?_
  · exact hb2
  · refine may_ite ?_ ?_
    · refine setBoot_may h (Sub.rfl.inl.inl.inl.trans hm) ?_
      · refine setTwin_may h (Sub.rfl.inr.inl.inl.trans hm) ?_
        · refine enterRole_may h (Sub.rfl.inr.inl.trans hm) hb2
    · refine moduleReset_may h (Sub.rfl.inr.trans hm) hb2

def resetProceeds_m : Nat := moduleReset_m
theorem resetProceeds_may (h : May M I) (hm : Sub resetProceeds_m M) {b0} {b1} (hb1 : I b1) : I (resetProceeds b0 b1) := by
  unfold resetProceeds
  refine may_ite ?_ ?_
  · refine moduleReset_may h (Sub.rfl.trans hm) hb1
  · exact hb1

def softReset_m : Nat := mask [SYS_EVT.KEY_REFUSED] ||| orderReset_m ||| raise_m
theorem softReset_may (h : May M I) (hm : Sub softReset_m M) {b0} {b1} {b2} (hb2 : I b2) : I (softReset b0 b1 b2) := by
  have ho := (Sub.rfl.inl.inl.trans hm)
  unfold softReset
  refine may_ite ?_ ?_
  · refine orderReset_may h (Sub.rfl.inr.inl.trans hm) hb2
  · refine raise_may h (Sub.rfl.inr.trans hm) (ho.okAll (by decide +kernel)) hb2

def enterSleep_m : Nat := mask [SYS_STATUS.READY] ||| pmask [.pcie] ||| setBoot_m ||| setTwin_m ||| forEach_m ||| setDom_m ||| enterRole_m ||| setF_m ||| abortOpen_m
theorem enterSleep_may (h : May M I) (hm : Sub enterSleep_m M) {b0} (hb0 : I b0) : I (enterSleep b0) := by
  have ho := (Sub.rfl.inl.inl.inl.inl.inl.inl.inl.inl.trans hm)
  have hp := (Sub.rfl.inr.inl.inl.inl.inl.inl.inl.inl.trans hm)
  unfold enterSleep
  show I { (_ : State) with pcie := _ }
  refine h.pcie (hp.testBit (by decide +kernel)) (?_)
  refine setBoot_may h (Sub.rfl.inr.inl.inl.inl.inl.inl.inl.trans hm) ?_
  · refine setTwin_may h (Sub.rfl.inr.inl.inl.inl.inl.inl.trans hm) ?_
    · refine forEach_may h (Sub.rfl.inr.inl.inl.inl.inl.trans hm) (fun a1 a2 ha2 => ?_) ?_
      · refine setDom_may h (Sub.rfl.inr.inl.inl.inl.trans hm) ha2
      · refine enterRole_may h (Sub.rfl.inr.inl.inl.trans hm) ?_
        · refine setF_may h (Sub.rfl.inr.inl.trans hm) (ho.ok (by decide +kernel)) ?_
          · refine abortOpen_may h (Sub.rfl.inr.trans hm) hb0

def sleepOrder_m : Nat := mask [PWR_EVT.SLEEP_REFUSED] ||| raise_m ||| enterSleep_m
theorem sleepOrder_may (h : May M I) (hm : Sub sleepOrder_m M) {b0} {b1} (hb1 : I b1) : I (sleepOrder b0 b1) := by
  have ho := (Sub.rfl.inl.inl.trans hm)
  unfold sleepOrder
  refine may_ite ?_ ?_
  · refine raise_may h (Sub.rfl.inr.inl.trans hm) (ho.okAll (by decide +kernel)) hb1
  · refine enterSleep_may h (Sub.rfl.inr.trans hm) hb1

def wakeUp_m : Nat := mask [PWR_WAKE.CAUSE, PWR_WAKE.SLEPT, SYS_RESET_CAUSE.CAUSE, SYS_STATUS.STEP, TWN_STATUS.SIDE_B] ||| pmask [.hold, .pcie, .lane, .time, .eth] ||| clearBlocks_m ||| fnReset_m ||| setBoot_m ||| setF_m ||| setShf_m ||| resetExcept_m
theorem wakeUp_may (h : May M I) (hm : Sub wakeUp_m M) {b0} {b1} (hb1 : I b1) : I (wakeUp b0 b1) := by
  have ho := (Sub.rfl.inl.inl.inl.inl.inl.inl.inl.trans hm)
  have hp := (Sub.rfl.inr.inl.inl.inl.inl.inl.inl.trans hm)
  unfold wakeUp
  extract_lets -merge -useContext x0 x1 x2
  have hx2 : I x2 := by
    unfold x2
    refine clearBlocks_may h (Sub.rfl.inr.inl.inl.inl.inl.inl.trans hm) ?_
    · refine fnReset_may h (Sub.rfl.inr.inl.inl.inl.inl.trans hm) hb1
  clear_value x2
  refine may_ite ?_ ?_
  · exact hb1
  · have hpc : ∀ s : State, I s → I { s with pcie := { s.pcie with crs := true } } := fun s hs => h.pcie (hp.testBit (by decide +kernel)) hs
    refine hpc _ ?_
    refine setBoot_may h (Sub.rfl.inr.inl.inl.inl.trans hm) ?_
    · refine setF_may h (Sub.rfl.inr.inl.inl.trans hm) (ho.ok (by decide +kernel)) ?_
      · refine setF_may h (Sub.rfl.inr.inl.inl.trans hm) (ho.ok (by decide +kernel)) ?_
        · refine setF_may h (Sub.rfl.inr.inl.inl.trans hm) (ho.ok (by decide +kernel)) ?_
          · refine setF_may h (Sub.rfl.inr.inl.inl.trans hm) (ho.ok (by decide +kernel)) ?_
            · refine setShf_may h (Sub.rfl.inr.inl.trans hm) ?_
              · refine h.hold (hp.testBit (by decide +kernel)) ?_
                refine resetExcept_may h (Sub.rfl.inr.trans hm) (ho.okAll (by decide +kernel)) ?_
                · have k0 := h.time (x := { everSelected := b1.time.everSelected }) (hp.testBit (by decide +kernel)) hx2
                  have k1 := h.eth (x := {}) (hp.testBit (by decide +kernel)) k0
                  have k2 := h.lane (x := {}) (hp.testBit (by decide +kernel)) k1
                  exact k2

def powerRise_m : Nat := powerOn_m
theorem powerRise_may (h : May M I) (hm : Sub powerRise_m M) {b0} {b1} {b2} {b3} {b4} (hb4 : I b4) : I (powerRise b0 b1 b2 b3 b4) := by
  unfold powerRise
  refine may_ite ?_ ?_
  · exact hb4
  · refine powerOn_may h (Sub.rfl.trans hm) hb4

def fuseOpens_m : Nat := setBoot_m ||| powerOff_m
theorem fuseOpens_may (h : May M I) (hm : Sub fuseOpens_m M) {b0} (hb0 : I b0) : I (fuseOpens b0) := by
  unfold fuseOpens
  refine setBoot_may h (Sub.rfl.inl.trans hm) ?_
  · refine powerOff_may h (Sub.rfl.inr.trans hm) hb0

def lockstep_m : Nat := abortBurst_m ||| setDiag_m ||| bootFault_m
theorem lockstep_may (h : May M I) (hm : Sub lockstep_m M) {b0} {b1} {b2} (hb2 : I b2) : I (lockstep b0 b1 b2) := by
  unfold lockstep
  refine may_ite ?_ ?_
  · refine abortBurst_may h (Sub.rfl.inl.inl.trans hm) ?_
    · refine setDiag_may h (Sub.rfl.inr.inl.trans hm) hb2
  · refine bootFault_may h (Sub.rfl.inr.trans hm) hb2

def sramError_m : Nat := fabLog_m ||| setDiag_m
theorem sramError_may (h : May M I) (hm : Sub sramError_m M) {b0} {b1} {b2} (hb2 : I b2) : I (sramError b0 b1 b2) := by
  unfold sramError
  extract_lets -merge -useContext x0
  have hx0 : I x0 := by
    unfold x0
    split
    · refine fabLog_may h (Sub.rfl.inl.trans hm) hb2
    · exact hb2
  clear_value x0
  refine may_ite ?_ ?_
  · refine setDiag_may h (Sub.rfl.inr.trans hm) hx0
  · exact hx0

def writersLoss_m : Nat := forEach_m ||| writerLoss_m
theorem writersLoss_may (h : May M I) (hm : Sub writersLoss_m M) {b0} (hb0 : I b0) : I (writersLoss b0) := by
  unfold writersLoss
  refine forEach_may h (Sub.rfl.inl.trans hm) (fun a0 a1 ha1 => ?_) hb0
  · refine writerLoss_may h (Sub.rfl.inr.trans hm) ha1

def stackFails_m : Nat := writersLoss_m ||| setDiag_m ||| setTwin_m
theorem stackFails_may (h : May M I) (hm : Sub stackFails_m M) {b0} {b1} (hb1 : I b1) : I (stackFails b0 b1) := by
  unfold stackFails
  refine may_ite ?_ ?_
  · exact hb1
  · refine writersLoss_may h (Sub.rfl.inl.inl.trans hm) ?_
    · refine setDiag_may h (Sub.rfl.inr.inl.trans hm) ?_
      · refine setTwin_may h (Sub.rfl.inr.trans hm) hb1

def execPowerGoodRise_m : Nat := powerRise_m
theorem execPowerGoodRise_may (h : May M I) (hm : Sub execPowerGoodRise_m M) {b0} {b1} {b2} {b3} {b4} (hb4 : I b4) : Ans I (execPowerGoodRise b0 b1 b2 b3 b4) := by
  refine ⟨_, rfl, ?_⟩
  refine powerRise_may h (Sub.rfl.trans hm) hb4

def execPowerGoodFall_m : Nat := whenPowered_m ||| powerOff_m ||| advance_m
theorem execPowerGoodFall_may (h : May M I) (hm : Sub execPowerGoodFall_m M) {b0} {b1} (hb1 : I b1) : Ans I (execPowerGoodFall b0 b1) := by
  refine ⟨_, rfl, ?_⟩
  refine whenPowered_may h (Sub.rfl.inl.inl.trans hm) (fun a0 ha0 => ?_) hb1
  · refine powerOff_may h (Sub.rfl.inr.inl.trans hm) ?_
    · refine advance_may h (Sub.rfl.inr.trans hm) ha0

def execElectronicFuseOpen_m : Nat := whenPowered_m ||| fuseOpens_m ||| advance_m
theorem execElectronicFuseOpen_may (h : May M I) (hm : Sub execElectronicFuseOpen_m M) {b0} {b1} (hb1 : I b1) : Ans I (execElectronicFuseOpen b0 b1) := by
  refine ⟨_, rfl, ?_⟩
  refine whenPowered_may h (Sub.rfl.inl.inl.trans hm) (fun a0 ha0 => ?_) hb1
  · refine fuseOpens_may h (Sub.rfl.inr.inl.trans hm) ?_
    · refine advance_may h (Sub.rfl.inr.trans hm) ha0

def execBringupStepEnd_m : Nat := whenService_m ||| withBad_m ||| bringupEnd_m ||| advance_m
theorem execBringupStepEnd_may (h : May M I) (hm : Sub execBringupStepEnd_m M) (hr : Run M I) {b0} {b1} {b2} {b3} (hb3 : I b3) : Ans I (execBringupStepEnd b0 b1 b2 b3) := by
  refine ⟨_, rfl, ?_⟩
  refine whenService_may h (Sub.rfl.inl.inl.inl.trans hm) hr (fun I h a0 ha0 => ?_) hb3
  · refine withBad_may h (Sub.rfl.inr.inl.inl.trans hm) (fun a1 ha1 => ?_) ?_
    · refine bringupEnd_may h (Sub.rfl.inr.inl.trans hm) ha1
    · refine advance_may h (Sub.rfl.inr.trans hm) ha0

def execBringupStepTimeout_m : Nat := whenService_m ||| withBad_m ||| bringupLate_m ||| advance_m
theorem execBringupStepTimeout_may (h : May M I) (hm : Sub execBringupStepTimeout_m M) (hr : Run M I) {b0} {b1} {b2} {b3} {b4} (hb4 : I b4) : Ans I (execBringupStepTimeout b0 b1 b2 b3 b4) := by
  refine ⟨_, rfl, ?_⟩
  refine whenService_may h (Sub.rfl.inl.inl.inl.trans hm) hr (fun I h a0 ha0 => ?_) hb4
  · refine withBad_may h (Sub.rfl.inr.inl.inl.trans hm) (fun a1 ha1 => ?_) ?_
    · refine bringupLate_may h (Sub.rfl.inr.inl.trans hm) ha1
    · refine advance_may h (Sub.rfl.inr.trans hm) ha0

def execColdHoldRelease_m : Nat := whenService_m ||| releaseCold_m ||| advance_m
theorem execColdHoldRelease_may (h : May M I) (hm : Sub execColdHoldRelease_m M) (hr : Run M I) {b0} {b1} (hb1 : I b1) : Ans I (execColdHoldRelease b0 b1) := by
  refine ⟨_, rfl, ?_⟩
  refine whenService_may h (Sub.rfl.inl.inl.trans hm) hr (fun I h a0 ha0 => ?_) hb1
  · refine releaseCold_may h (Sub.rfl.inr.inl.trans hm) ?_
    · refine advance_may h (Sub.rfl.inr.trans hm) ha0

def execSoftReset_m : Nat := hideRunning_m ||| onSys_m ||| withBad_m ||| softReset_m
theorem execSoftReset_may (h : May M I) (hm : Sub execSoftReset_m M) (hr : Run M I) {b0} {b1} {b2} {b3} {b4} (hb4 : I b4) : Ans I (execSoftReset b0 b1 b2 b3 b4) := by
  refine ⟨_, rfl, ?_⟩
  refine hideRunning_may h (Sub.rfl.inl.inl.inl.trans hm) hr ?_
  · refine onSys_may h (Sub.rfl.inr.inl.inl.trans hm) hr (fun I h a0 ha0 => ?_) hb4
    · refine withBad_may h (Sub.rfl.inr.inl.trans hm) (fun a1 ha1 => ?_) ha0
      · refine softReset_may h (Sub.rfl.inr.trans hm) ha1

def execModuleResetProceed_m : Nat := hideRunning_m ||| onService_m ||| withBad_m ||| resetProceeds_m
theorem execModuleResetProceed_may (h : May M I) (hm : Sub execModuleResetProceed_m M) (hr : Run M I) {b0} {b1} {b2} {b3} (hb3 : I b3) : Ans I (execModuleResetProceed b0 b1 b2 b3) := by
  refine ⟨_, rfl, ?_⟩
  refine hideRunning_may h (Sub.rfl.inl.inl.inl.trans hm) hr ?_
  · refine onService_may h (Sub.rfl.inr.inl.inl.trans hm) hr (fun I h a0 ha0 => ?_) hb3
    · refine withBad_may h (Sub.rfl.inr.inl.trans hm) (fun a1 ha1 => ?_) ha0
      · refine resetProceeds_may h (Sub.rfl.inr.trans hm) ha1

def execLockstepMismatch_m : Nat := onService_m ||| lockstep_m
theorem execLockstepMismatch_may (h : May M I) (hm : Sub execLockstepMismatch_m M) (hr : Run M I) {b0} {b1} {b2} {b3} (hb3 : I b3) : Ans I (execLockstepMismatch b0 b1 b2 b3) := by
  refine ⟨_, rfl, ?_⟩
  refine onService_may h (Sub.rfl.inl.trans hm) hr (fun I h a0 ha0 => ?_) hb3
  · refine lockstep_may h (Sub.rfl.inr.trans hm) ha0

def execSramUncorrectableError_m : Nat := whenReady_m ||| onService_m ||| sramError_m
theorem execSramUncorrectableError_may (h : May M I) (hm : Sub execSramUncorrectableError_m M) (hr : Run M I) {b0} {b1} {b2} {b3} (hb3 : I b3) : Ans I (execSramUncorrectableError b0 b1 b2 b3) := by
  refine ⟨_, rfl, ?_⟩
  refine whenReady_may h (Sub.rfl.inl.inl.trans hm) (fun a0 ha0 => ?_) hb3
  · refine onService_may h (Sub.rfl.inr.inl.trans hm) hr (fun I h a1 ha1 => ?_) ha0
    · refine sramError_may h (Sub.rfl.inr.trans hm) ha1

def execKennelStackFailure_m : Nat := whenReady_m ||| onService_m ||| stackFails_m
theorem execKennelStackFailure_may (h : May M I) (hm : Sub execKennelStackFailure_m M) (hr : Run M I) {b0} {b1} {b2} (hb2 : I b2) : Ans I (execKennelStackFailure b0 b1 b2) := by
  refine ⟨_, rfl, ?_⟩
  refine whenReady_may h (Sub.rfl.inl.inl.trans hm) (fun a0 ha0 => ?_) hb2
  · refine onService_may h (Sub.rfl.inr.inl.trans hm) hr (fun I h a1 ha1 => ?_) ha0
    · refine stackFails_may h (Sub.rfl.inr.trans hm) ha1

def execClockMonitorFailure_m : Nat := whenReady_m ||| onService_m ||| setDiag_m
theorem execClockMonitorFailure_may (h : May M I) (hm : Sub execClockMonitorFailure_m M) (hr : Run M I) {b0} {b1} (hb1 : I b1) : Ans I (execClockMonitorFailure b0 b1) := by
  refine ⟨_, rfl, ?_⟩
  refine whenReady_may h (Sub.rfl.inl.inl.trans hm) (fun a0 ha0 => ?_) hb1
  · refine onService_may h (Sub.rfl.inr.inl.trans hm) hr (fun I h a1 ha1 => ?_) ha0
    · refine setDiag_may h (Sub.rfl.inr.trans hm) ha1

def execSleep_m : Nat := onHost_m ||| withBad_m ||| sleepOrder_m
theorem execSleep_may (h : May M I) (hm : Sub execSleep_m M) (hr : Run M I) {b0} {b1} {b2} {b3} (hb3 : I b3) : Ans I (execSleep b0 b1 b2 b3) := by
  refine ⟨_, rfl, ?_⟩
  refine onHost_may h (Sub.rfl.inl.inl.trans hm) hr (fun I h a0 ha0 => ?_) hb3
  · refine withBad_may h (Sub.rfl.inr.inl.trans hm) (fun a1 ha1 => ?_) ha0
    · refine sleepOrder_may h (Sub.rfl.inr.trans hm) ha1

def execSleepWake_m : Nat := whenPowered_m ||| wakeUp_m ||| advance_m
theorem execSleepWake_may (h : May M I) (hm : Sub execSleepWake_m M) {b0} {b1} {b2} (hb2 : I b2) : Ans I (execSleepWake b0 b1 b2) := by
  refine ⟨_, rfl, ?_⟩
  refine whenPowered_may h (Sub.rfl.inl.inl.trans hm) (fun a0 ha0 => ?_) hb2
  · refine wakeUp_may h (Sub.rfl.inr.inl.trans hm) ?_
    · refine advance_may h (Sub.rfl.inr.trans hm) ha0

def labelCommit_m : Nat := mask [PST_LABEL_CTL.INDEX, PST_EVT.LABEL_REFUSED, PST_STATUS.LABEL_BUSY, PST_LABEL_CTL.BUSY] ||| setF_m ||| raiseAs_m ||| storeRow_m ||| setPst_m
theorem labelCommit_may (h : May M I) (hm : Sub labelCommit_m M) {b0} {b1} (hb1 : I b1) : I (labelCommit b0 b1) := by
  have ho := (Sub.rfl.inl.inl.inl.inl.trans hm)
  unfold labelCommit
  extract_lets -merge -useContext x0 x1
  have hx0 : I x0 := by
    unfold x0
    refine setF_may h (Sub.rfl.inr.inl.inl.inl.trans hm) (ho.ok (by decide +kernel)) hb1
  clear_value x0
  refine may_ite ?_ ?_
  · refine raiseAs_may h (Sub.rfl.inr.inl.inl.trans hm) (ho.okAll (by decide +kernel)) hx0
  · refine setF_may h (Sub.rfl.inr.inl.inl.inl.trans hm) (ho.ok (by decide +kernel)) ?_
    · refine setF_may h (Sub.rfl.inr.inl.inl.inl.trans hm) (ho.ok (by decide +kernel)) ?_
      · refine storeRow_may h (Sub.rfl.inr.inl.trans hm) (fun a2 ha2 => ?_) hx0
        · refine setPst_may h (Sub.rfl.inr.trans hm) ha2

def labelDone_m : Nat := mask [PST_EVT.LABEL_DONE, PST_STATUS.LABEL_BUSY, PST_LABEL_CTL.BUSY] ||| raiseAs_m ||| setF_m ||| placeLabel_m
theorem labelDone_may (h : May M I) (hm : Sub labelDone_m M) {b0} (hb0 : I b0) : I (labelDone b0) := by
  have ho := (Sub.rfl.inl.inl.inl.trans hm)
  unfold labelDone
  refine may_ite ?_ ?_
  · exact hb0
  · refine raiseAs_may h (Sub.rfl.inr.inl.inl.trans hm) (ho.okAll (by decide +kernel)) ?_
    · refine setF_may h (Sub.rfl.inr.inl.trans hm) (ho.ok (by decide +kernel)) ?_
      · refine setF_may h (Sub.rfl.inr.inl.trans hm) (ho.ok (by decide +kernel)) ?_
        · refine placeLabel_may h (Sub.rfl.inr.trans hm) hb0

def respond_m : Nat := mask [SEC_REQ_RESP.WORD] ||| forEach_m ||| setF_m
theorem respond_may (h : May M I) (hm : Sub respond_m M) {b0} {b1} (hb1 : I b1) : I (respond b0 b1) := by
  have ho := (Sub.rfl.inl.inl.trans hm)
  unfold respond
  refine forEach_may h (Sub.rfl.inr.inl.trans hm) (fun a0 a1 ha1 => ?_) hb1
  · refine setF_may h (Sub.rfl.inr.trans hm) (ho.ok (by decide +kernel)) ha1

def grantEffect_m : Nat := mask [SEC_GRANT_B.NOT_AFTER_LO, SEC_GRANT_A.NOT_AFTER_HI, SEC_GRANT_A.CLASSES, SEC_GRANT_A.SIGNER, SEC_GRANT_A.VALID] ||| audit_m ||| setF_m
theorem grantEffect_may (h : May M I) (hm : Sub grantEffect_m M) {b0} {b1} (hb1 : I b1) : I (grantEffect b0 b1) := by
  have ho := (Sub.rfl.inl.inl.trans hm)
  unfold grantEffect
  extract_lets -merge -useContext x0
  refine audit_may h (Sub.rfl.inr.inl.trans hm) ?_
  · refine setF_may h (Sub.rfl.inr.trans hm) (ho.ok (by decide +kernel)) ?_
    · refine setF_may h (Sub.rfl.inr.trans hm) (ho.ok (by decide +kernel)) ?_
      · refine setF_may h (Sub.rfl.inr.trans hm) (ho.ok (by decide +kernel)) ?_
        · refine setF_may h (Sub.rfl.inr.trans hm) (ho.ok (by decide +kernel)) ?_
          · refine setF_may h (Sub.rfl.inr.trans hm) (ho.ok (by decide +kernel)) hb1

def grantClearEffect_m : Nat := mask grantFields ||| clearFlds_m ||| resetFs_m ||| audit_m
theorem grantClearEffect_may (h : May M I) (hm : Sub grantClearEffect_m M) {b0} {b1} (hb1 : I b1) : I (grantClearEffect b0 b1) := by
  unfold grantClearEffect
  extract_lets -merge -useContext x0 x1 x2
  have hx2 : I x2 := by
    unfold x2
    refine may_ite ?_ ?_
    · refine clearFlds_may h (Sub.rfl.inr.inl.inl.trans hm) ((Sub.rfl.inl.inl.inl.trans hm).okAll (by decide +kernel)) hb1
    · refine resetFs_may h (Sub.rfl.inr.inl.trans hm) ((Sub.rfl.inl.inl.inl.trans hm).okAll (by decide +kernel)) hb1
  clear_value x2
  refine audit_may h (Sub.rfl.inr.trans hm) hx2

def setKeyState_m : Nat := mask [SEC_KEYS.SLOTS] ||| setF_m
theorem setKeyState_may (h : May M I) (hm : Sub setKeyState_m M) {b0} {b1} {b2} (hb2 : I b2) : I (setKeyState b0 b1 b2) := by
  have ho := (Sub.rfl.inl.trans hm)
  unfold setKeyState
  refine setF_may h (Sub.rfl.inr.trans hm) (ho.ok (by decide +kernel)) hb2

def installKey_m : Nat := setKeyState_m ||| setSec_m
theorem installKey_may (h : May M I) (hm : Sub installKey_m M) {b0} {b1} {b2} (hb2 : I b2) : I (installKey b0 b1 b2) := by
  unfold installKey
  refine setKeyState_may h (Sub.rfl.inl.trans hm) ?_
  · refine setSec_may h (Sub.rfl.inr.trans hm) hb2

def keySetEffect_m : Nat := installKey_m ||| setKeyState_m ||| audit_m ||| storeRow_m
theorem keySetEffect_may (h : May M I) (hm : Sub keySetEffect_m M) {b0} {b1} (hb1 : I b1) : I (keySetEffect b0 b1) := by
  unfold keySetEffect
  extract_lets -merge -useContext x0 x1
  have hx1 : ∀ a0, I a0 → I (x1 a0) := by
    intro a2 ha2
    unfold x1
    split
    · refine installKey_may h (Sub.rfl.inl.inl.inl.trans hm) ha2
    · refine setKeyState_may h (Sub.rfl.inr.inl.inl.trans hm) ha2
  clear_value x1
  refine audit_may h (Sub.rfl.inr.inl.trans hm) ?_
  · refine storeRow_may h (Sub.rfl.inr.trans hm) hx1 hb1

def enterReturn_m : Nat := mask [SEC_STATUS.CLASS_REQ, SEC_STATUS.EVAL_FIXED] ||| mask grantFields ||| clearFlds_m ||| forEach_m ||| setKeyState_m ||| setSec_m ||| emptySlot_m ||| eraseAreas_m ||| setF_m
theorem enterReturn_may (h : May M I) (hm : Sub enterReturn_m M) {b0} (hb0 : I b0) : I (enterReturn b0) := by
  have ho := (Sub.rfl.inl.inl.inl.inl.inl.inl.inl.inl.trans hm)
  unfold enterReturn
  extract_lets -merge -useContext x0 x1
  have hx0 : I x0 := by
    unfold x0
    refine clearFlds_may h (Sub.rfl.inr.inl.inl.inl.inl.inl.inl.trans hm) ((Sub.rfl.inr.inl.inl.inl.inl.inl.inl.inl.trans hm).okAll (by decide +kernel)) ?_
    · refine forEach_may h (Sub.rfl.inr.inl.inl.inl.inl.inl.trans hm) (fun a2 a3 ha3 => ?_) ?_
      · refine setKeyState_may h (Sub.rfl.inr.inl.inl.inl.inl.trans hm) ha3
      · refine setSec_may h (Sub.rfl.inr.inl.inl.inl.trans hm) hb0
  clear_value x0
  have hx1 : I x1 := by
    unfold x1
    refine emptySlot_may h (Sub.rfl.inr.inl.inl.trans hm) ?_
    · refine emptySlot_may h (Sub.rfl.inr.inl.inl.trans hm) ?_
      · refine eraseAreas_may h (Sub.rfl.inr.inl.trans hm) hx0
  clear_value x1
  refine may_ite ?_ ?_
  · exact hx1
  · refine setF_may h (Sub.rfl.inr.trans hm) (ho.ok (by decide +kernel)) ?_
    · refine setF_may h (Sub.rfl.inr.trans hm) (ho.ok (by decide +kernel)) hx1

def lifecycleEffect_m : Nat := mask [SEC_STATUS.LIFECYCLE] ||| storeRow_m ||| setF_m ||| audit_m ||| enterReturn_m ||| installKey_m
theorem lifecycleEffect_may (h : May M I) (hm : Sub lifecycleEffect_m M) {b0} {b1} (hb1 : I b1) : I (lifecycleEffect b0 b1) := by
  have ho := (Sub.rfl.inl.inl.inl.inl.inl.trans hm)
  unfold lifecycleEffect
  extract_lets -merge -useContext x0 x1 x2
  have hx2 : I x2 := by
    unfold x2
    refine storeRow_may h (Sub.rfl.inr.inl.inl.inl.inl.trans hm) (fun a3 ha3 => ?_) ?_
    · refine setF_may h (Sub.rfl.inr.inl.inl.inl.trans hm) (ho.ok (by decide +kernel)) ha3
    · refine audit_may h (Sub.rfl.inr.inl.inl.trans hm) hb1
  clear_value x2
  refine may_ite ?_ ?_
  · refine enterReturn_may h (Sub.rfl.inr.inl.trans hm) hx2
  · refine may_ite ?_ ?_
    · refine installKey_may h (Sub.rfl.inr.trans hm) hx2
    · exact hx2

def evalFixEffect_m : Nat := mask [SEC_STATUS.EVAL_FIXED] ||| storeRow_m ||| setF_m ||| audit_m
theorem evalFixEffect_may (h : May M I) (hm : Sub evalFixEffect_m M) {b0} (hb0 : I b0) : I (evalFixEffect b0) := by
  have ho := (Sub.rfl.inl.inl.inl.trans hm)
  unfold evalFixEffect
  extract_lets -merge -useContext x0
  have hx0 : I x0 := by
    unfold x0
    refine may_ite ?_ ?_
    · exact hb0
    · refine storeRow_may h (Sub.rfl.inr.inl.inl.trans hm) (fun a1 ha1 => ?_) hb0
      · refine setF_may h (Sub.rfl.inr.inl.trans hm) (ho.ok (by decide +kernel)) ha1
  clear_value x0
  refine audit_may h (Sub.rfl.inr.trans hm) hx0

def classReqEffect_m : Nat := mask [SEC_STATUS.CLASS_REQ] ||| storeRow_m ||| setF_m ||| audit_m
theorem classReqEffect_may (h : May M I) (hm : Sub classReqEffect_m M) {b0} {b1} (hb1 : I b1) : I (classReqEffect b0 b1) := by
  have ho := (Sub.rfl.inl.inl.inl.trans hm)
  unfold classReqEffect
  extract_lets -merge -useContext x0 x1
  have hx1 : I x1 := by
    unfold x1
    refine may_ite ?_ ?_
    · exact hb1
    · refine storeRow_may h (Sub.rfl.inr.inl.inl.trans hm) (fun a2 ha2 => ?_) hb1
      · refine setF_may h (Sub.rfl.inr.inl.trans hm) (ho.ok (by decide +kernel)) ha2
  clear_value x1
  refine audit_may h (Sub.rfl.inr.trans hm) hx1

def auditReadEffect_m : Nat := respond_m
theorem auditReadEffect_may (h : May M I) (hm : Sub auditReadEffect_m M) {b0} {b1} (hb1 : I b1) : I (auditReadEffect b0 b1) := by
  unfold auditReadEffect
  refine respond_may h (Sub.rfl.trans hm) hb1

def auditSignEffect_m : Nat := audit_m ||| respond_m
theorem auditSignEffect_may (h : May M I) (hm : Sub auditSignEffect_m M) {b0} {b1} (hb1 : I b1) : I (auditSignEffect b0 b1) := by
  unfold auditSignEffect
  extract_lets -merge -useContext x0 x1 x2
  have hx0 : I x0 := by
    unfold x0
    refine audit_may h (Sub.rfl.inl.trans hm) hb1
  clear_value x0
  refine respond_may h (Sub.rfl.inr.trans hm) hx0

def deviceKeyEffect_m : Nat := respond_m
theorem deviceKeyEffect_may (h : May M I) (hm : Sub deviceKeyEffect_m M) {b0} (hb0 : I b0) : I (deviceKeyEffect b0) := by
  unfold deviceKeyEffect
  refine respond_may h (Sub.rfl.trans hm) hb0

def reqEffect_m : Nat := grantEffect_m ||| grantClearEffect_m ||| keySetEffect_m ||| lifecycleEffect_m ||| evalFixEffect_m ||| classReqEffect_m ||| auditReadEffect_m ||| auditSignEffect_m ||| deviceKeyEffect_m
theorem reqEffect_may (h : May M I) (hm : Sub reqEffect_m M) {b0} {b1} (hb1 : I b1) : I (reqEffect b0 b1) := by
  unfold reqEffect
  extract_lets -merge -useContext x0
  refine may_ite ?_ ?_
  · refine grantEffect_may h (Sub.rfl.inl.inl.inl.inl.inl.inl.inl.inl.trans hm) hb1
  · refine may_ite ?_ ?_
    · refine grantClearEffect_may h (Sub.rfl.inr.inl.inl.inl.inl.inl.inl.inl.trans hm) hb1
    · refine may_ite ?_ ?_
      · refine keySetEffect_may h (Sub.rfl.inr.inl.inl.inl.inl.inl.inl.trans hm) hb1
      · refine may_ite ?_ ?_
        · refine lifecycleEffect_may h (Sub.rfl.inr.inl.inl.inl.inl.inl.trans hm) hb1
        · refine may_ite ?_ ?_
          · refine evalFixEffect_may h (Sub.rfl.inr.inl.inl.inl.inl.trans hm) hb1
          · refine may_ite ?_ ?_
            · refine classReqEffect_may h (Sub.rfl.inr.inl.inl.inl.trans hm) hb1
            · refine may_ite ?_ ?_
              · refine auditReadEffect_may h (Sub.rfl.inr.inl.inl.trans hm) hb1
              · refine may_ite ?_ ?_
                · refine auditSignEffect_may h (Sub.rfl.inr.inl.trans hm) hb1
                · refine deviceKeyEffect_may h (Sub.rfl.inr.trans hm) hb1

def noteReqRefused_m : Nat := mask [SEC_AUTH_FAIL.COUNT, SEC_CNT_FLAGS.AUTH_FAIL_OVF, SEC_DENIED.COUNT, SEC_CNT_FLAGS.DENIED_OVF] ||| audit_m ||| bump32_m
theorem noteReqRefused_may (h : May M I) (hm : Sub noteReqRefused_m M) {b0} {b1} {b2} (hb2 : I b2) : I (noteReqRefused b0 b1 b2) := by
  have ho := (Sub.rfl.inl.inl.trans hm)
  unfold noteReqRefused
  refine may_ite ?_ ?_
  · refine audit_may h (Sub.rfl.inr.inl.trans hm) ?_
    · refine bump32_may h (Sub.rfl.inr.trans hm) (ho.ok (by decide +kernel)) (ho.ok (by decide +kernel)) hb2
  · refine may_ite ?_ ?_
    · refine bump32_may h (Sub.rfl.inr.trans hm) (ho.ok (by decide +kernel)) (ho.ok (by decide +kernel)) hb2
    · exact hb2

def requestBy_m : Nat := mask [SEC_REQ_CTL.OP_LAST, SEC_SEQ.SEQ, SEC_REQ_CTL.STATUS] ||| setF_m ||| storeRow_m ||| noteReqRefused_m
theorem requestBy_may (h : May M I) (hm : Sub requestBy_m M) {b0} (hb0 : ∀ a0 a1, I a1 → I (b0 a0 a1)) {b1} (hb1 : I b1) : I (requestBy b0 b1) := by
  have ho := (Sub.rfl.inl.inl.inl.trans hm)
  unfold requestBy
  extract_lets -merge -useContext x0 x1 x2
  have hx1 : I x1 := by
    unfold x1
    refine setF_may h (Sub.rfl.inr.inl.inl.trans hm) (ho.ok (by decide +kernel)) hb1
  clear_value x1
  have hx2 : I x2 := by
    unfold x2
    refine may_ite ?_ ?_
    · refine storeRow_may h (Sub.rfl.inr.inl.trans hm) (fun a3 ha3 => ?_) hx1
      · refine setF_may h (Sub.rfl.inr.inl.inl.trans hm) (ho.ok (by decide +kernel)) ha3
    · exact hx1
  clear_value x2
  split
  · refine setF_may h (Sub.rfl.inr.inl.inl.trans hm) (ho.ok (by decide +kernel)) ?_
    · refine noteReqRefused_may h (Sub.rfl.inr.trans hm) hx1
  · refine setF_may h (Sub.rfl.inr.inl.inl.trans hm) (ho.ok (by decide +kernel)) ?_
    · refine hb0 _ _ hx2

def request_m : Nat := requestBy_m ||| reqEffect_m ||| orderReset_m
theorem request_may (h : May M I) (hm : Sub request_m M) {b0} {b1} (hb1 : I b1) : I (request b0 b1) := by
  unfold request
  extract_lets -merge -useContext x0 x1
  have hx1 : I x1 := by
    unfold x1
    refine requestBy_may h (Sub.rfl.inl.inl.trans hm) (fun a2 a3 ha3 => ?_) hb1
    · refine reqEffect_may h (Sub.rfl.inr.inl.trans hm) ha3
  clear_value x1
  refine may_ite ?_ ?_
  · refine orderReset_may h (Sub.rfl.inr.trans hm) hx1
  · exact hx1

def requestOf_m : Nat := requestBy_m
theorem requestOf_may (h : May M I) (hm : Sub requestOf_m M) {b0} {b1} (hb1 : ∀ a0 a1, I a1 → I (b1 a0 a1)) {b2} (hb2 : I b2) : I (requestOf b0 b1 b2) := by
  unfold requestOf
  extract_lets -merge -useContext x0
  refine may_ite ?_ ?_
  · refine requestBy_may h (Sub.rfl.trans hm) hb1 hb2
  · exact hb2

def lifecycleGo_m : Nat := requestOf_m ||| lifecycleEffect_m ||| orderReset_m
theorem lifecycleGo_may (h : May M I) (hm : Sub lifecycleGo_m M) {b0} {b1} (hb1 : I b1) : I (lifecycleGo b0 b1) := by
  unfold lifecycleGo
  extract_lets -merge -useContext x0 x1
  have hx1 : I x1 := by
    unfold x1
    refine requestOf_may h (Sub.rfl.inl.inl.trans hm) (fun a2 a3 ha3 => ?_) hb1
    · refine lifecycleEffect_may h (Sub.rfl.inr.inl.trans hm) ha3
  clear_value x1
  refine may_ite ?_ ?_
  · refine orderReset_may h (Sub.rfl.inr.trans hm) hx1
  · exact hx1

def dropNonce_m : Nat := mask [SEC_CHAL_CTL.NONCE_VALID] ||| setSec_m ||| setF_m
theorem dropNonce_may (h : May M I) (hm : Sub dropNonce_m M) {b0} (hb0 : I b0) : I (dropNonce b0) := by
  have ho := (Sub.rfl.inl.inl.trans hm)
  unfold dropNonce
  refine setSec_may h (Sub.rfl.inr.inl.trans hm) ?_
  · refine setF_may h (Sub.rfl.inr.trans hm) (ho.ok (by decide +kernel)) hb0

def chalGet_m : Nat := mask [SEC_CHAL_CTL.STATUS, SEC_CHAL_CTL.NONCE_VALID, SEC_CHAL_NONCE.WORD] ||| setF_m ||| setSec_m ||| forEach_m ||| drawn_m
theorem chalGet_may (h : May M I) (hm : Sub chalGet_m M) {b0} (hb0 : I b0) : I (chalGet b0) := by
  have ho := (Sub.rfl.inl.inl.inl.inl.trans hm)
  unfold chalGet
  refine may_ite ?_ ?_
  · refine setF_may h (Sub.rfl.inr.inl.inl.inl.trans hm) (ho.ok (by decide +kernel)) hb0
  · refine setSec_may h (Sub.rfl.inr.inl.inl.trans hm) ?_
    · refine setF_may h (Sub.rfl.inr.inl.inl.inl.trans hm) (ho.ok (by decide +kernel)) ?_
      · refine setF_may h (Sub.rfl.inr.inl.inl.inl.trans hm) (ho.ok (by decide +kernel)) ?_
        · refine forEach_may h (Sub.rfl.inr.inl.trans hm) (fun a0 a1 ha1 => ?_) hb0
          · refine drawn_may h (Sub.rfl.inr.trans hm) ?_
            · refine setF_may h (Sub.rfl.inr.inl.inl.inl.trans hm) (ho.ok (by decide +kernel)) ha1

def answerFailed_m : Nat := mask [SEC_CHAL_FAIL.COUNT, SEC_CNT_FLAGS.CHAL_FAIL_OVF, SEC_AUTH_FAIL.COUNT, SEC_CNT_FLAGS.AUTH_FAIL_OVF] ||| bump32_m ||| storeRow_m ||| setSec_m ||| audit_m
theorem answerFailed_may (h : May M I) (hm : Sub answerFailed_m M) {b0} {b1} (hb1 : I b1) : I (answerFailed b0 b1) := by
  have ho := (Sub.rfl.inl.inl.inl.inl.trans hm)
  unfold answerFailed
  extract_lets -merge -useContext x0 x1
  have hx0 : I x0 := by
    unfold x0
    refine bump32_may h (Sub.rfl.inr.inl.inl.inl.trans hm) (ho.ok (by decide +kernel)) (ho.ok (by decide +kernel)) hb1
  clear_value x0
  have hx1 : I x1 := by
    unfold x1
    refine may_ite ?_ ?_
    · refine bump32_may h (Sub.rfl.inr.inl.inl.inl.trans hm) (ho.ok (by decide +kernel)) (ho.ok (by decide +kernel)) hx0
    · exact hx0
  clear_value x1
  refine may_ite ?_ ?_
  · refine storeRow_may h (Sub.rfl.inr.inl.inl.trans hm) (fun a2 ha2 => ?_) hx1
    · refine setSec_may h (Sub.rfl.inr.inl.trans hm) ha2
  · refine audit_may h (Sub.rfl.inr.trans hm) ?_
    · refine setSec_may h (Sub.rfl.inr.inl.trans hm) ?_
      · refine storeRow_may h (Sub.rfl.inr.inl.inl.trans hm) (fun a3 ha3 => ?_) hx1
        · exact ha3

def chalAnswer_m : Nat := mask [SEC_CHAL_CTL.LEVEL, SEC_CHAL_CTL.STATUS, SEC_STATUS.DEBUG_LEVEL] ||| setF_m ||| dropNonce_m ||| storeRow_m ||| setSec_m ||| audit_m ||| answerFailed_m
theorem chalAnswer_may (h : May M I) (hm : Sub chalAnswer_m M) {b0} {b1} (hb1 : I b1) : I (chalAnswer b0 b1) := by
  have ho := (Sub.rfl.inl.inl.inl.inl.inl.inl.trans hm)
  unfold chalAnswer
  extract_lets -merge -useContext x0 x1 x2 x3
  have hx0 : I x0 := by
    unfold x0
    refine setF_may h (Sub.rfl.inr.inl.inl.inl.inl.inl.trans hm) (ho.ok (by decide +kernel)) hb1
  clear_value x0
  have hx2 : I x2 := by
    unfold x2
    refine setF_may h (Sub.rfl.inr.inl.inl.inl.inl.inl.trans hm) (ho.ok (by decide +kernel)) ?_
    · refine dropNonce_may h (Sub.rfl.inr.inl.inl.inl.inl.trans hm) hx0
  clear_value x2
  have hx3 : I x3 := by
    unfold x3
    refine may_ite ?_ ?_
    · exact hx2
    · refine storeRow_may h (Sub.rfl.inr.inl.inl.inl.trans hm) (fun a4 ha4 => ?_) hx2
      · refine setSec_may h (Sub.rfl.inr.inl.inl.trans hm) ha4
  clear_value x3
  refine may_ite ?_ ?_
  · refine audit_may h (Sub.rfl.inr.inl.trans hm) ?_
    · refine setF_may h (Sub.rfl.inr.inl.inl.inl.inl.inl.trans hm) (ho.ok (by decide +kernel)) hx3
  · refine answerFailed_may h (Sub.rfl.inr.trans hm) hx2

def nonceEnd_m : Nat := dropNonce_m
theorem nonceEnd_may (h : May M I) (hm : Sub nonceEnd_m M) {b0} (hb0 : I b0) : I (nonceEnd b0) := by
  unfold nonceEnd
  split
  · refine may_ite ?_ ?_
    · refine dropNonce_may h (Sub.rfl.trans hm) hb0
    · exact hb0
  · exact hb0

def lockoutEnd_m : Nat := mask [SEC_CHAL_CTL.LOCKOUT_S] ||| setF_m ||| setSec_m
theorem lockoutEnd_may (h : May M I) (hm : Sub lockoutEnd_m M) {b0} (hb0 : I b0) : I (lockoutEnd b0) := by
  have ho := (Sub.rfl.inl.inl.trans hm)
  unfold lockoutEnd
  split
  · refine may_ite ?_ ?_
    · refine setF_may h (Sub.rfl.inr.inl.trans hm) (ho.ok (by decide +kernel)) ?_
      · refine setSec_may h (Sub.rfl.inr.trans hm) hb0
    · exact hb0
  · exact hb0

def execLabelCommit_m : Nat := onHost_m ||| withBad_m ||| labelCommit_m
theorem execLabelCommit_may (h : May M I) (hm : Sub execLabelCommit_m M) (hr : Run M I) {b0} {b1} {b2} {b3} (hb3 : I b3) : Ans I (execLabelCommit b0 b1 b2 b3) := by
  refine ⟨_, rfl, ?_⟩
  refine onHost_may h (Sub.rfl.inl.inl.trans hm) hr (fun I h a0 ha0 => ?_) hb3
  · refine withBad_may h (Sub.rfl.inr.inl.trans hm) (fun a1 ha1 => ?_) ha0
    · refine labelCommit_may h (Sub.rfl.inr.trans hm) ha1

def execLabelCommitDone_m : Nat := onService_m ||| withBad_m ||| labelDone_m
theorem execLabelCommitDone_may (h : May M I) (hm : Sub execLabelCommitDone_m M) (hr : Run M I) {b0} {b1} {b2} (hb2 : I b2) : Ans I (execLabelCommitDone b0 b1 b2) := by
  refine ⟨_, rfl, ?_⟩
  refine onService_may h (Sub.rfl.inl.inl.trans hm) hr (fun I h a0 ha0 => ?_) hb2
  · refine withBad_may h (Sub.rfl.inr.inl.trans hm) (fun a1 ha1 => ?_) ha0
    · refine labelDone_may h (Sub.rfl.inr.trans hm) ha1

def execGrant_m : Nat := onHost_m ||| withBad_m ||| requestOf_m ||| grantEffect_m
theorem execGrant_may (h : May M I) (hm : Sub execGrant_m M) (hr : Run M I) {b0} {b1} {b2} (hb2 : I b2) : Ans I (execGrant b0 b1 b2) := by
  refine ⟨_, rfl, ?_⟩
  refine onHost_may h (Sub.rfl.inl.inl.inl.trans hm) hr (fun I h a0 ha0 => ?_) hb2
  · refine withBad_may h (Sub.rfl.inr.inl.inl.trans hm) (fun a1 ha1 => ?_) ha0
    · refine requestOf_may h (Sub.rfl.inr.inl.trans hm) (fun a2 a3 ha3 => ?_) ha1
      · refine grantEffect_may h (Sub.rfl.inr.trans hm) ha3

def execGrantClear_m : Nat := onHost_m ||| withBad_m ||| requestOf_m ||| grantClearEffect_m
theorem execGrantClear_may (h : May M I) (hm : Sub execGrantClear_m M) (hr : Run M I) {b0} {b1} {b2} (hb2 : I b2) : Ans I (execGrantClear b0 b1 b2) := by
  refine ⟨_, rfl, ?_⟩
  refine onHost_may h (Sub.rfl.inl.inl.inl.trans hm) hr (fun I h a0 ha0 => ?_) hb2
  · refine withBad_may h (Sub.rfl.inr.inl.inl.trans hm) (fun a1 ha1 => ?_) ha0
    · refine requestOf_may h (Sub.rfl.inr.inl.trans hm) (fun a2 a3 ha3 => ?_) ha1
      · refine grantClearEffect_may h (Sub.rfl.inr.trans hm) ha3

def execKeySet_m : Nat := onHost_m ||| withBad_m ||| requestOf_m ||| keySetEffect_m
theorem execKeySet_may (h : May M I) (hm : Sub execKeySet_m M) (hr : Run M I) {b0} {b1} {b2} (hb2 : I b2) : Ans I (execKeySet b0 b1 b2) := by
  refine ⟨_, rfl, ?_⟩
  refine onHost_may h (Sub.rfl.inl.inl.inl.trans hm) hr (fun I h a0 ha0 => ?_) hb2
  · refine withBad_may h (Sub.rfl.inr.inl.inl.trans hm) (fun a1 ha1 => ?_) ha0
    · refine requestOf_may h (Sub.rfl.inr.inl.trans hm) (fun a2 a3 ha3 => ?_) ha1
      · refine keySetEffect_may h (Sub.rfl.inr.trans hm) ha3

def execLifecycle_m : Nat := hideRunning_m ||| onHost_m ||| withBad_m ||| lifecycleGo_m
theorem execLifecycle_may (h : May M I) (hm : Sub execLifecycle_m M) (hr : Run M I) {b0} {b1} {b2} (hb2 : I b2) : Ans I (execLifecycle b0 b1 b2) := by
  refine ⟨_, rfl, ?_⟩
  refine hideRunning_may h (Sub.rfl.inl.inl.inl.trans hm) hr ?_
  · refine onHost_may h (Sub.rfl.inr.inl.inl.trans hm) hr (fun I h a0 ha0 => ?_) hb2
    · refine withBad_may h (Sub.rfl.inr.inl.trans hm) (fun a1 ha1 => ?_) ha0
      · refine lifecycleGo_may h (Sub.rfl.inr.trans hm) ha1

def execEvalFix_m : Nat := onHost_m ||| withBad_m ||| requestOf_m ||| evalFixEffect_m
theorem execEvalFix_may (h : May M I) (hm : Sub execEvalFix_m M) (hr : Run M I) {b0} {b1} {b2} (hb2 : I b2) : Ans I (execEvalFix b0 b1 b2) := by
  refine ⟨_, rfl, ?_⟩
  refine onHost_may h (Sub.rfl.inl.inl.inl.trans hm) hr (fun I h a0 ha0 => ?_) hb2
  · refine withBad_may h (Sub.rfl.inr.inl.inl.trans hm) (fun a1 ha1 => ?_) ha0
    · refine requestOf_may h (Sub.rfl.inr.inl.trans hm) (fun a2 a3 ha3 => ?_) ha1
      · refine evalFixEffect_may h (Sub.rfl.inr.trans hm) ha3

def execClassReq_m : Nat := onHost_m ||| withBad_m ||| requestOf_m ||| classReqEffect_m
theorem execClassReq_may (h : May M I) (hm : Sub execClassReq_m M) (hr : Run M I) {b0} {b1} {b2} (hb2 : I b2) : Ans I (execClassReq b0 b1 b2) := by
  refine ⟨_, rfl, ?_⟩
  refine onHost_may h (Sub.rfl.inl.inl.inl.trans hm) hr (fun I h a0 ha0 => ?_) hb2
  · refine withBad_may h (Sub.rfl.inr.inl.inl.trans hm) (fun a1 ha1 => ?_) ha0
    · refine requestOf_may h (Sub.rfl.inr.inl.trans hm) (fun a2 a3 ha3 => ?_) ha1
      · refine classReqEffect_may h (Sub.rfl.inr.trans hm) ha3

def execAuditRead_m : Nat := onHost_m ||| withBad_m ||| requestOf_m ||| auditReadEffect_m
theorem execAuditRead_may (h : May M I) (hm : Sub execAuditRead_m M) (hr : Run M I) {b0} {b1} {b2} (hb2 : I b2) : Ans I (execAuditRead b0 b1 b2) := by
  refine ⟨_, rfl, ?_⟩
  refine onHost_may h (Sub.rfl.inl.inl.inl.trans hm) hr (fun I h a0 ha0 => ?_) hb2
  · refine withBad_may h (Sub.rfl.inr.inl.inl.trans hm) (fun a1 ha1 => ?_) ha0
    · refine requestOf_may h (Sub.rfl.inr.inl.trans hm) (fun a2 a3 ha3 => ?_) ha1
      · refine auditReadEffect_may h (Sub.rfl.inr.trans hm) ha3

def execAuditSign_m : Nat := onHost_m ||| withBad_m ||| requestOf_m ||| auditSignEffect_m
theorem execAuditSign_may (h : May M I) (hm : Sub execAuditSign_m M) (hr : Run M I) {b0} {b1} {b2} (hb2 : I b2) : Ans I (execAuditSign b0 b1 b2) := by
  refine ⟨_, rfl, ?_⟩
  refine onHost_may h (Sub.rfl.inl.inl.inl.trans hm) hr (fun I h a0 ha0 => ?_) hb2
  · refine withBad_may h (Sub.rfl.inr.inl.inl.trans hm) (fun a1 ha1 => ?_) ha0
    · refine requestOf_may h (Sub.rfl.inr.inl.trans hm) (fun a2 a3 ha3 => ?_) ha1
      · refine auditSignEffect_may h (Sub.rfl.inr.trans hm) ha3

def execDeviceKey_m : Nat := onHost_m ||| withBad_m ||| requestOf_m ||| deviceKeyEffect_m
theorem execDeviceKey_may (h : May M I) (hm : Sub execDeviceKey_m M) (hr : Run M I) {b0} {b1} {b2} (hb2 : I b2) : Ans I (execDeviceKey b0 b1 b2) := by
  refine ⟨_, rfl, ?_⟩
  refine onHost_may h (Sub.rfl.inl.inl.inl.trans hm) hr (fun I h a0 ha0 => ?_) hb2
  · refine withBad_may h (Sub.rfl.inr.inl.inl.trans hm) (fun a1 ha1 => ?_) ha0
    · refine requestOf_may h (Sub.rfl.inr.inl.trans hm) (fun a2 a3 ha3 => ?_) ha1
      · refine deviceKeyEffect_may h (Sub.rfl.inr.trans hm) ha3

def execChallengeGet_m : Nat := onHost_m ||| chalGet_m
theorem execChallengeGet_may (h : May M I) (hm : Sub execChallengeGet_m M) (hr : Run M I) {b0} {b1} (hb1 : I b1) : Ans I (execChallengeGet b0 b1) := by
  refine ⟨_, rfl, ?_⟩
  refine onHost_may h (Sub.rfl.inl.trans hm) hr (fun I h a0 ha0 => ?_) hb1
  · refine chalGet_may h (Sub.rfl.inr.trans hm) ha0

def execChallengeAnswer_m : Nat := onHost_m ||| withBad_m ||| chalAnswer_m
theorem execChallengeAnswer_may (h : May M I) (hm : Sub execChallengeAnswer_m M) (hr : Run M I) {b0} {b1} {b2} {b3} (hb3 : I b3) : Ans I (execChallengeAnswer b0 b1 b2 b3) := by
  refine ⟨_, rfl, ?_⟩
  refine onHost_may h (Sub.rfl.inl.inl.trans hm) hr (fun I h a0 ha0 => ?_) hb3
  · refine withBad_may h (Sub.rfl.inr.inl.trans hm) (fun a1 ha1 => ?_) ha0
    · refine chalAnswer_may h (Sub.rfl.inr.trans hm) ha1

def execNonceExpire_m : Nat := onService_m ||| nonceEnd_m
theorem execNonceExpire_may (h : May M I) (hm : Sub execNonceExpire_m M) (hr : Run M I) {b0} {b1} (hb1 : I b1) : Ans I (execNonceExpire b0 b1) := by
  refine ⟨_, rfl, ?_⟩
  refine onService_may h (Sub.rfl.inl.trans hm) hr (fun I h a0 ha0 => ?_) hb1
  · refine nonceEnd_may h (Sub.rfl.inr.trans hm) ha0

def execDebugLockoutExpire_m : Nat := onService_m ||| lockoutEnd_m
theorem execDebugLockoutExpire_may (h : May M I) (hm : Sub execDebugLockoutExpire_m M) (hr : Run M I) {b0} {b1} (hb1 : I b1) : Ans I (execDebugLockoutExpire b0 b1) := by
  refine ⟨_, rfl, ?_⟩
  refine onService_may h (Sub.rfl.inl.trans hm) hr (fun I h a0 ha0 => ?_) hb1
  · refine lockoutEnd_may h (Sub.rfl.inr.trans hm) ha0

def showPc_m : Nat := mask [DBG_ENG_STATUS.PC] ||| setF_m ||| drawn_m
theorem showPc_may (h : May M I) (hm : Sub showPc_m M) {b0} {b1} (hb1 : I b1) : I (showPc b0 b1) := by
  have ho := (Sub.rfl.inl.inl.trans hm)
  unfold showPc
  refine may_ite ?_ ?_
  · refine setF_may h (Sub.rfl.inr.inl.trans hm) (ho.ok (by decide +kernel)) hb1
  · refine drawn_may h (Sub.rfl.inr.trans hm) ?_
    · refine setF_may h (Sub.rfl.inr.inl.trans hm) (ho.ok (by decide +kernel)) hb1

def haltUnit_m : Nat := mask [DBG_EVT.HALT, DBG_ENG_STATUS.BP_HIT, DBG_ENG_STATUS.CAUSE, DBG_ENG_STATUS.HALTED, REE_ENG_STATUS.STATE] ||| raiseAs_m ||| showPc_m ||| setF_m
theorem haltUnit_may (h : May M I) (hm : Sub haltUnit_m M) {b0} {b1} {b2} {b3} (hb3 : I b3) : I (haltUnit b0 b1 b2 b3) := by
  have ho := (Sub.rfl.inl.inl.inl.trans hm)
  unfold haltUnit
  refine may_ite ?_ ?_
  · exact hb3
  · refine raiseAs_may h (Sub.rfl.inr.inl.inl.trans hm) (ho.okAll (by decide +kernel)) ?_
    · refine showPc_may h (Sub.rfl.inr.inl.trans hm) ?_
      · refine setF_may h (Sub.rfl.inr.trans hm) (ho.ok (by decide +kernel)) ?_
        · refine setF_may h (Sub.rfl.inr.trans hm) (ho.ok (by decide +kernel)) ?_
          · refine setF_may h (Sub.rfl.inr.trans hm) (ho.ok (by decide +kernel)) ?_
            · refine may_ite ?_ ?_
              · refine setF_may h (Sub.rfl.inr.trans hm) (ho.ok (by decide +kernel)) hb3
              · exact hb3

def resumeUnit_m : Nat := mask [DBG_ENG_STATUS.BP_HIT, DBG_ENG_STATUS.CAUSE, DBG_ENG_STATUS.HALTED, REE_ENG_STATUS.STATE] ||| setF_m ||| setReed_m ||| setTwin_m
theorem resumeUnit_may (h : May M I) (hm : Sub resumeUnit_m M) {b0} {b1} (hb1 : I b1) : I (resumeUnit b0 b1) := by
  have ho := (Sub.rfl.inl.inl.inl.trans hm)
  unfold resumeUnit
  extract_lets -merge -useContext x0
  have hx0 : I x0 := by
    unfold x0
    refine setF_may h (Sub.rfl.inr.inl.inl.trans hm) (ho.ok (by decide +kernel)) ?_
    · refine setF_may h (Sub.rfl.inr.inl.inl.trans hm) (ho.ok (by decide +kernel)) ?_
      · refine setF_may h (Sub.rfl.inr.inl.inl.trans hm) (ho.ok (by decide +kernel)) hb1
  clear_value x0
  refine may_ite ?_ ?_
  · exact hb1
  · refine may_ite ?_ ?_
    · refine setReed_may h (Sub.rfl.inr.inl.trans hm) ?_
      · refine setF_may h (Sub.rfl.inr.inl.inl.trans hm) (ho.ok (by decide +kernel)) hx0
    · refine may_ite ?_ ?_
      · refine setTwin_may h (Sub.rfl.inr.trans hm) hx0
      · exact hx0

def stepUnit_m : Nat := mask [DBG_EVT.HALT, DBG_ENG_STATUS.BP_HIT, DBG_ENG_STATUS.CAUSE] ||| raiseAs_m ||| showPc_m ||| setF_m ||| reedStep_m
theorem stepUnit_may (h : May M I) (hm : Sub stepUnit_m M) {b0} {b1} (hb1 : I b1) : I (stepUnit b0 b1) := by
  have ho := (Sub.rfl.inl.inl.inl.inl.trans hm)
  unfold stepUnit
  refine may_ite ?_ ?_
  · exact hb1
  · refine raiseAs_may h (Sub.rfl.inr.inl.inl.inl.trans hm) (ho.okAll (by decide +kernel)) ?_
    · refine showPc_may h (Sub.rfl.inr.inl.inl.trans hm) ?_
      · refine setF_may h (Sub.rfl.inr.inl.trans hm) (ho.ok (by decide +kernel)) ?_
        · refine setF_may h (Sub.rfl.inr.inl.trans hm) (ho.ok (by decide +kernel)) ?_
          · refine may_ite ?_ ?_
            · refine reedStep_may h (Sub.rfl.inr.trans hm) hb1
            · exact hb1

def haltAtBlock_m : Nat := setDbg_m
theorem haltAtBlock_may (h : May M I) (hm : Sub haltAtBlock_m M) {b0} {b1} (hb1 : I b1) : I (haltAtBlock b0 b1) := by
  unfold haltAtBlock
  refine may_ite ?_ ?_
  · refine setDbg_may h (Sub.rfl.trans hm) hb1
  · exact hb1

def unitRefusal_m : Nat := mask [DBG_EVT.REFUSED] ||| raiseAs_m
theorem unitRefusal_may (h : May M I) (hm : Sub unitRefusal_m M) {b0} (hb0 : I b0) : I (unitRefusal b0) := by
  have ho := (Sub.rfl.inl.trans hm)
  unfold unitRefusal
  refine raiseAs_may h (Sub.rfl.inr.trans hm) (ho.okAll (by decide +kernel)) hb0

def engCtl_m : Nat := unitRefusal_m ||| when__m ||| haltAtBlock_m ||| stepUnit_m ||| resumeUnit_m ||| haltUnit_m
theorem engCtl_may (h : May M I) (hm : Sub engCtl_m M) {b0} {b1} (hb1 : I b1) : I (engCtl b0 b1) := by
  unfold engCtl
  extract_lets -merge -useContext x0
  refine may_ite ?_ ?_
  · refine unitRefusal_may h (Sub.rfl.inl.inl.inl.inl.inl.trans hm) hb1
  · refine when__may h (Sub.rfl.inr.inl.inl.inl.inl.trans hm) (fun a1 ha1 => ?_) ?_
    · refine haltAtBlock_may h (Sub.rfl.inr.inl.inl.inl.trans hm) ha1
    · refine when__may h (Sub.rfl.inr.inl.inl.inl.inl.trans hm) (fun a2 ha2 => ?_) ?_
      · refine stepUnit_may h (Sub.rfl.inr.inl.inl.trans hm) ha2
      · refine when__may h (Sub.rfl.inr.inl.inl.inl.inl.trans hm) (fun a3 ha3 => ?_) ?_
        · refine resumeUnit_may h (Sub.rfl.inr.inl.trans hm) ha3
        · refine when__may h (Sub.rfl.inr.inl.inl.inl.inl.trans hm) (fun a4 ha4 => ?_) hb1
          · refine haltUnit_may h (Sub.rfl.inr.trans hm) ha4

def breakpoint_m : Nat := haltUnit_m
theorem breakpoint_may (h : May M I) (hm : Sub breakpoint_m M) {b0} {b1} {b2} (hb2 : I b2) : I (breakpoint b0 b1 b2) := by
  unfold breakpoint
  extract_lets -merge -useContext x0
  refine may_ite ?_ ?_
  · refine haltUnit_may h (Sub.rfl.trans hm) hb2
  · exact hb2

def relock_m : Nat := mask [SEC_STATUS.DEBUG_LEVEL, DBG_MEM_CTL.BUSY, DBG_BP.EN, DBG_BP.ADDR] ||| abortBurst_m ||| setF_m ||| setDbg_m ||| clearFlds_m ||| forEach_m ||| resumeUnit_m
theorem relock_may (h : May M I) (hm : Sub relock_m M) {b0} {b1} (hb1 : I b1) : I (relock b0 b1) := by
  have ho := (Sub.rfl.inl.inl.inl.inl.inl.inl.trans hm)
  unfold relock
  refine abortBurst_may h (Sub.rfl.inr.inl.inl.inl.inl.inl.trans hm) ?_
  · refine setF_may h (Sub.rfl.inr.inl.inl.inl.inl.trans hm) (ho.ok (by decide +kernel)) ?_
    · refine setF_may h (Sub.rfl.inr.inl.inl.inl.inl.trans hm) (ho.ok (by decide +kernel)) ?_
      · refine setDbg_may h (Sub.rfl.inr.inl.inl.inl.trans hm) ?_
        · refine clearFlds_may h (Sub.rfl.inr.inl.inl.trans hm) (ho.okAll (by decide +kernel)) ?_
          · refine forEach_may h (Sub.rfl.inr.inl.trans hm) (fun a0 a1 ha1 => ?_) hb1
            · refine resumeUnit_may h (Sub.rfl.inr.trans hm) ha1

def dbgReset_m : Nat := orderReset_m
theorem dbgReset_may (h : May M I) (hm : Sub dbgReset_m M) {b0} {b1} {b2} (hb2 : I b2) : I (dbgReset b0 b1 b2) := by
  unfold dbgReset
  refine may_ite ?_ ?_
  · refine orderReset_may h (Sub.rfl.trans hm) hb2
  · exact hb2

def memCtl_m : Nat := mask [DBG_MEM_CTL.DONE, DBG_MEM_CTL.SIZE, DBG_MEM_CTL.WRITE] ||| when__m ||| setF_m
theorem memCtl_may (h : May M I) (hm : Sub memCtl_m M) {b0} {b1} (hb1 : I b1) : I (memCtl b0 b1) := by
  have ho := (Sub.rfl.inl.inl.trans hm)
  unfold memCtl
  refine when__may h (Sub.rfl.inr.inl.trans hm) (fun a0 ha0 => ?_) ?_
  · refine setF_may h (Sub.rfl.inr.trans hm) (ho.ok (by decide +kernel)) ha0
  · refine setF_may h (Sub.rfl.inr.trans hm) (ho.ok (by decide +kernel)) ?_
    · refine setF_may h (Sub.rfl.inr.trans hm) (ho.ok (by decide +kernel)) hb1

def memGo_m : Nat := mask [DBG_MEM_CTL.BUSY] ||| setF_m ||| setDbg_m
theorem memGo_may (h : May M I) (hm : Sub memGo_m M) {b0} (hb0 : I b0) : I (memGo b0) := by
  have ho := (Sub.rfl.inl.inl.trans hm)
  unfold memGo
  extract_lets -merge -useContext x0 x1 x2
  refine may_ite ?_ ?_
  · exact hb0
  · refine setF_may h (Sub.rfl.inr.inl.trans hm) (ho.ok (by decide +kernel)) ?_
    · refine setDbg_may h (Sub.rfl.inr.trans hm) hb0

end

end Sys2Proof.Machine
end

