-- ==== Sys2Proof/Laws/MayCmd.lean ====
section
/-! SUPPORT. Permissions of lanes, sensors, twin, registers, debug and host commands: each is made of the plain updates that its mask `…_m` names. -/

namespace Sys2Proof.Machine

set_option Elab.async false
set_option linter.unusedVariables false

section
variable {M : Nat} {I : State → Prop}

def startProbe_m : Nat := forEach_m ||| startAttempt_m
theorem startProbe_may (h : May M I) (hm : Sub startProbe_m M) {b0} {b1} {b2} (hb2 : I b2) : I (startProbe b0 b1 b2) := by
  unfold startProbe
  refine forEach_may h (Sub.rfl.inl.trans hm) (fun a0 a1 ha1 => ?_) hb2
  · refine startAttempt_may h (Sub.rfl.inr.trans hm) ha1

def wakeIn_m : Nat := mask [LNI_STATUS.STATE] ||| setIn_m ||| setF_m
theorem wakeIn_may (h : May M I) (hm : Sub wakeIn_m M) {b0} {b1} (hb1 : I b1) : I (wakeIn b0 b1) := by
  have ho := (Sub.rfl.inl.inl.trans hm)
  unfold wakeIn
  refine setIn_may h (Sub.rfl.inr.inl.trans hm) ?_
  · refine setF_may h (Sub.rfl.inr.trans hm) (ho.ok (by decide +kernel)) hb1

def signalRise_m : Nat := mask [LNI_STATUS.SIGDET] ||| setF_m ||| startProbe_m ||| wakeIn_m ||| inActive_m
theorem signalRise_may (h : May M I) (hm : Sub signalRise_m M) {b0} {b1} (hb1 : I b1) : I (signalRise b0 b1) := by
  have ho := (Sub.rfl.inl.inl.inl.inl.trans hm)
  unfold signalRise
  extract_lets -merge -useContext x0 x1
  have hx0 : I x0 := by
    unfold x0
    refine setF_may h (Sub.rfl.inr.inl.inl.inl.trans hm) (ho.ok (by decide +kernel)) hb1
  clear_value x0
  refine may_ite ?_ ?_
  · exact hb1
  · refine may_ite ?_ ?_
    · refine startProbe_may h (Sub.rfl.inr.inl.inl.trans hm) hx0
    · refine may_ite ?_ ?_
      · refine wakeIn_may h (Sub.rfl.inr.inl.trans hm) hx0
      · refine may_ite ?_ ?_
        · refine inActive_may h (Sub.rfl.inr.trans hm) hx0
        · exact hx0

def signalFall_m : Nat := mask [LNI_STATUS.SIGDET] ||| setF_m ||| setIn_m ||| enterIn_m ||| lockLoss_m ||| failAttempt_m
theorem signalFall_may (h : May M I) (hm : Sub signalFall_m M) {b0} {b1} (hb1 : I b1) : I (signalFall b0 b1) := by
  have ho := (Sub.rfl.inl.inl.inl.inl.inl.trans hm)
  unfold signalFall
  extract_lets -merge -useContext x0
  have hx0 : I x0 := by
    unfold x0
    refine setF_may h (Sub.rfl.inr.inl.inl.inl.inl.trans hm) (ho.ok (by decide +kernel)) hb1
  clear_value x0
  refine may_ite ?_ ?_
  · exact hb1
  · refine may_ite ?_ ?_
    · refine may_ite ?_ ?_
      · refine setIn_may h (Sub.rfl.inr.inl.inl.inl.trans hm) ?_
        · refine enterIn_may h (Sub.rfl.inr.inl.inl.trans hm) hx0
      · refine lockLoss_may h (Sub.rfl.inr.inl.trans hm) hx0
    · refine may_ite ?_ ?_
      · refine failAttempt_may h (Sub.rfl.inr.trans hm) hx0
      · exact hx0

def recordPartner_m : Nat := mask [LNI_EQ.PARTNER_PRESET, LNI_PARTNER_HI.PARTNER_LANE, LNI_PARTNER_HI.ID_HI, LNI_PARTNER_LO.ID_LO, LNO_TX_CFG.PRESET_ACT] ||| setF_m ||| sendSets_m
theorem recordPartner_may (h : May M I) (hm : Sub recordPartner_m M) {b0} {b1} {b2} (hb2 : I b2) : I (recordPartner b0 b1 b2) := by
  have ho := (Sub.rfl.inl.inl.trans hm)
  unfold recordPartner
  extract_lets -merge -useContext x0
  have hx0 : I x0 := by
    unfold x0
    refine setF_may h (Sub.rfl.inr.inl.trans hm) (ho.ok (by decide +kernel)) ?_
    · refine setF_may h (Sub.rfl.inr.inl.trans hm) (ho.ok (by decide +kernel)) ?_
      · refine setF_may h (Sub.rfl.inr.inl.trans hm) (ho.ok (by decide +kernel)) ?_
        · refine setF_may h (Sub.rfl.inr.inl.trans hm) (ho.ok (by decide +kernel)) hb2
  clear_value x0
  refine may_ite ?_ ?_
  · refine sendSets_may h (Sub.rfl.inr.trans hm) ?_
    · refine setF_may h (Sub.rfl.inr.inl.trans hm) (ho.ok (by decide +kernel)) hx0
  · exact hx0

def trainingDone_m : Nat := forEach_m ||| laneReady_m
theorem trainingDone_may (h : May M I) (hm : Sub trainingDone_m M) {b0} {b1} (hb1 : I b1) : I (trainingDone b0 b1) := by
  unfold trainingDone
  refine forEach_may h (Sub.rfl.inl.trans hm) (fun a0 a1 ha1 => ?_) hb1
  · refine laneReady_may h (Sub.rfl.inr.trans hm) ha1

def pairPhase_m : Nat := forEach_m ||| setPhase_m
theorem pairPhase_may (h : May M I) (hm : Sub pairPhase_m M) {b0} {b1} {b2} (hb2 : I b2) : I (pairPhase b0 b1 b2) := by
  unfold pairPhase
  refine forEach_may h (Sub.rfl.inl.trans hm) (fun a0 a1 ha1 => ?_) hb2
  · refine setPhase_may h (Sub.rfl.inr.trans hm) ha1

def lockHeld_m : Nat := pairPhase_m
theorem lockHeld_may (h : May M I) (hm : Sub lockHeld_m M) {b0} {b1} (hb1 : I b1) : I (lockHeld b0 b1) := by
  unfold lockHeld
  refine may_ite ?_ ?_
  · refine pairPhase_may h (Sub.rfl.trans hm) hb1
  · exact hb1

def trainPhase_m : Nat := mask [LNI_STATUS.POL_INV, LNI_STATUS.ALIGNED, LNI_EQ.PRESET_REQ] ||| setIn_m ||| setB_m ||| pairPhase_m ||| setF_m ||| sendSets_m ||| drawn_m ||| newEqualiser_m ||| trainingDone_m
theorem trainPhase_may (h : May M I) (hm : Sub trainPhase_m M) {b0} {b1} {b2} {b3} {b4} {b5} {b6} (hb6 : I b6) : I (trainPhase b0 b1 b2 b3 b4 b5 b6) := by
  have ho := (Sub.rfl.inl.inl.inl.inl.inl.inl.inl.inl.trans hm)
  unfold trainPhase
  extract_lets -merge -useContext x0 x1 x2 x3
  have hx1 : I x1 := by
    unfold x1
    refine setIn_may h (Sub.rfl.inr.inl.inl.inl.inl.inl.inl.inl.trans hm) ?_
    · refine setB_may h (Sub.rfl.inr.inl.inl.inl.inl.inl.inl.trans hm) (ho.ok (by decide +kernel)) hb6
  clear_value x1
  have hx2 : I x2 := by
    unfold x2
    refine pairPhase_may h (Sub.rfl.inr.inl.inl.inl.inl.inl.trans hm) ?_
    · refine setF_may h (Sub.rfl.inr.inl.inl.inl.inl.trans hm) (ho.ok (by decide +kernel)) hx1
  clear_value x2
  have hx3 : I x3 := by
    unfold x3
    refine setIn_may h (Sub.rfl.inr.inl.inl.inl.inl.inl.inl.inl.trans hm) hb6
  clear_value x3
  split
  · refine may_ite ?_ ?_
    · refine may_ite ?_ ?_
      · exact hx2
      · refine sendSets_may h (Sub.rfl.inr.inl.inl.inl.trans hm) ?_
        · refine setF_may h (Sub.rfl.inr.inl.inl.inl.inl.trans hm) (ho.ok (by decide +kernel)) hx2
    · exact hx1
  · refine may_ite ?_ ?_
    · refine pairPhase_may h (Sub.rfl.inr.inl.inl.inl.inl.inl.trans hm) ?_
      · refine newEqualiser_may h (Sub.rfl.inr.inl.trans hm) hb6
    · exact hb6
  · refine may_ite ?_ ?_
    · refine trainingDone_may h (Sub.rfl.inr.trans hm) hx3
    · exact hx3
  · exact hb6

def fastPhase_m : Nat := mask [LNI_STATUS.ALIGNED, LNI_STATUS.CDR_LOCK, LNI_STATUS.POL_INV] ||| sendSets_m ||| setOut_m ||| setIn_m ||| setF_m ||| setB_m ||| forEach_m ||| laneReady_m
theorem fastPhase_may (h : May M I) (hm : Sub fastPhase_m M) {b0} {b1} {b2} {b3} (hb3 : I b3) : I (fastPhase b0 b1 b2 b3) := by
  have ho := (Sub.rfl.inl.inl.inl.inl.inl.inl.inl.trans hm)
  unfold fastPhase
  extract_lets -merge -useContext x0 x1
  have hx0 : I x0 := by
    unfold x0
    refine may_ite ?_ ?_
    · refine sendSets_may h (Sub.rfl.inr.inl.inl.inl.inl.inl.inl.trans hm) ?_
      · refine setOut_may h (Sub.rfl.inr.inl.inl.inl.inl.inl.trans hm) hb3
    · exact hb3
  clear_value x0
  have hx1 : I x1 := by
    unfold x1
    refine setIn_may h (Sub.rfl.inr.inl.inl.inl.inl.trans hm) ?_
    · refine setF_may h (Sub.rfl.inr.inl.inl.inl.trans hm) (ho.ok (by decide +kernel)) ?_
      · refine setF_may h (Sub.rfl.inr.inl.inl.inl.trans hm) (ho.ok (by decide +kernel)) ?_
        · refine setB_may h (Sub.rfl.inr.inl.inl.trans hm) (ho.ok (by decide +kernel)) hx0
  clear_value x1
  refine may_ite ?_ ?_
  · refine forEach_may h (Sub.rfl.inr.inl.trans hm) (fun a2 a3 ha3 => ?_) ?_
    · refine laneReady_may h (Sub.rfl.inr.trans hm) ha3
    · refine setIn_may h (Sub.rfl.inr.inl.inl.inl.inl.trans hm) hx1
  · exact hx1

def trainingSet_m : Nat := mask [LNI_EVT.MISWIRE, LNO_EVT.MISWIRE, LNI_EVT.MODE_MISMATCH, LNO_EVT.MODE_MISMATCH] ||| lockHeld_m ||| recordPartner_m ||| raiseLane_m ||| failAttempt_m ||| trainPhase_m ||| fastPhase_m
theorem trainingSet_may (h : May M I) (hm : Sub trainingSet_m M) {b0} {b1} {b2} {b3} {b4} {b5} {b6} (hb6 : I b6) : I (trainingSet b0 b1 b2 b3 b4 b5 b6) := by
  have ho := (Sub.rfl.inl.inl.inl.inl.inl.inl.trans hm)
  unfold trainingSet
  extract_lets -merge -useContext x0 x1 x2 x3 x4 x5
  have hx0 : I x0 := by
    unfold x0
    refine lockHeld_may h (Sub.rfl.inr.inl.inl.inl.inl.inl.trans hm) ?_
    · refine recordPartner_may h (Sub.rfl.inr.inl.inl.inl.inl.trans hm) hb6
  clear_value x0
  have hx2 : I x2 := by
    unfold x2
    refine may_ite ?_ ?_
    · exact hx0
    · refine raiseLane_may h (Sub.rfl.inr.inl.inl.inl.trans hm) (ho.okAll (by decide +kernel)) hx0
  clear_value x2
  have hx3 : I x3 := by
    unfold x3
    refine may_ite ?_ ?_
    · exact hx2
    · refine raiseLane_may h (Sub.rfl.inr.inl.inl.inl.trans hm) (ho.okAll (by decide +kernel)) hx2
  clear_value x3
  have hx4 : I x4 := by
    unfold x4
    refine may_ite ?_ ?_
    · exact hx0
    · refine raiseLane_may h (Sub.rfl.inr.inl.inl.inl.trans hm) (ho.okAll (by decide +kernel)) hx0
  clear_value x4
  have hx5 : I x5 := by
    unfold x5
    refine may_ite ?_ ?_
    · exact hx4
    · refine raiseLane_may h (Sub.rfl.inr.inl.inl.inl.trans hm) (ho.okAll (by decide +kernel)) hx4
  clear_value x5
  refine may_ite ?_ ?_
  · exact hb6
  · refine may_ite ?_ ?_
    · refine may_ite ?_ ?_
      · refine failAttempt_may h (Sub.rfl.inr.inl.inl.trans hm) hx3
      · refine may_ite ?_ ?_
        · refine failAttempt_may h (Sub.rfl.inr.inl.inl.trans hm) hx5
        · refine trainPhase_may h (Sub.rfl.inr.inl.trans hm) hx0
    · refine may_ite ?_ ?_
      · refine fastPhase_may h (Sub.rfl.inr.trans hm) hx0
      · exact hx0

def attemptTimeout_m : Nat := failAttempt_m
theorem attemptTimeout_may (h : May M I) (hm : Sub attemptTimeout_m M) {b0} {b1} {b2} (hb2 : I b2) : I (attemptTimeout b0 b1 b2) := by
  unfold attemptTimeout
  refine may_ite ?_ ?_
  · refine failAttempt_may h (Sub.rfl.trans hm) hb2
  · exact hb2

def nextAttemptOn_m : Nat := mask [LNI_STATUS.ATTEMPT, LNO_STATUS.ATTEMPT] ||| startAttempt_m ||| setF_m
theorem nextAttemptOn_may (h : May M I) (hm : Sub nextAttemptOn_m M) {b0} {b1} {b2} (hb2 : I b2) : I (nextAttemptOn b0 b1 b2) := by
  have ho := (Sub.rfl.inl.inl.trans hm)
  unfold nextAttemptOn
  refine may_ite ?_ ?_
  · exact hb2
  · split
    · refine startAttempt_may h (Sub.rfl.inr.inl.trans hm) ?_
      · refine setF_may h (Sub.rfl.inr.trans hm) (ho.ok (by decide +kernel)) hb2
    · refine startAttempt_may h (Sub.rfl.inr.inl.trans hm) ?_
      · refine setF_may h (Sub.rfl.inr.trans hm) (ho.ok (by decide +kernel)) hb2

def backoffEnd_m : Nat := forEach_m ||| nextAttemptOn_m
theorem backoffEnd_may (h : May M I) (hm : Sub backoffEnd_m M) {b0} {b1} {b2} (hb2 : I b2) : I (backoffEnd b0 b1 b2) := by
  unfold backoffEnd
  refine may_ite ?_ ?_
  · refine forEach_may h (Sub.rfl.inl.trans hm) (fun a0 a1 ha1 => ?_) hb2
    · refine nextAttemptOn_may h (Sub.rfl.inr.trans hm) ha1
  · exact hb2

def quietProbe_m : Nat := startProbe_m
theorem quietProbe_may (h : May M I) (hm : Sub quietProbe_m M) {b0} {b1} {b2} (hb2 : I b2) : I (quietProbe b0 b1 b2) := by
  unfold quietProbe
  refine may_ite ?_ ?_
  · refine startProbe_may h (Sub.rfl.trans hm) hb2
  · exact hb2

def oneWayTimer_m : Nat := sendSets_m ||| setOut_m ||| setPhase_m ||| laneReady_m
theorem oneWayTimer_may (h : May M I) (hm : Sub oneWayTimer_m M) {b0} {b1} (hb1 : I b1) : I (oneWayTimer b0 b1) := by
  unfold oneWayTimer
  extract_lets -merge -useContext x0 x1
  refine may_ite ?_ ?_
  · exact hb1
  · split
    · refine may_ite ?_ ?_
      · exact hb1
      · refine may_ite ?_ ?_
        · refine sendSets_may h (Sub.rfl.inl.inl.inl.trans hm) ?_
          · refine setOut_may h (Sub.rfl.inr.inl.inl.trans hm) hb1
        · refine setPhase_may h (Sub.rfl.inr.inl.trans hm) hb1
    · refine may_ite ?_ ?_
      · refine laneReady_may h (Sub.rfl.inr.trans hm) hb1
      · exact hb1
    · exact hb1

def fastFailOn_m : Nat := mask [LNI_STATUS.LAST_FAIL, LNI_TRAIN_FAIL_CNT.COUNT, LNI_CNT_FLAGS.TRAIN_FAIL_OVF, LNO_STATUS.LAST_FAIL, LNO_TRAIN_FAIL_CNT.COUNT, LNO_CNT_FLAGS.TRAIN_FAIL_OVF] ||| setF_m ||| bump32_m
theorem fastFailOn_may (h : May M I) (hm : Sub fastFailOn_m M) {b0} {b1} {b2} (hb2 : I b2) : I (fastFailOn b0 b1 b2) := by
  have ho := (Sub.rfl.inl.inl.trans hm)
  unfold fastFailOn
  split
  · refine may_ite ?_ ?_
    · refine setF_may h (Sub.rfl.inr.inl.trans hm) (ho.ok (by decide +kernel)) hb2
    · refine bump32_may h (Sub.rfl.inr.trans hm) (ho.ok (by decide +kernel)) (ho.ok (by decide +kernel)) ?_
      · refine setF_may h (Sub.rfl.inr.inl.trans hm) (ho.ok (by decide +kernel)) hb2
  · refine may_ite ?_ ?_
    · refine setF_may h (Sub.rfl.inr.inl.trans hm) (ho.ok (by decide +kernel)) hb2
    · refine bump32_may h (Sub.rfl.inr.trans hm) (ho.ok (by decide +kernel)) (ho.ok (by decide +kernel)) ?_
      · refine setF_may h (Sub.rfl.inr.inl.trans hm) (ho.ok (by decide +kernel)) hb2

def fastTimeout_m : Nat := startSeries_m ||| forEach_m ||| fastFailOn_m
theorem fastTimeout_may (h : May M I) (hm : Sub fastTimeout_m M) {b0} {b1} {b2} (hb2 : I b2) : I (fastTimeout b0 b1 b2) := by
  unfold fastTimeout
  refine may_ite ?_ ?_
  · exact hb2
  · refine startSeries_may h (Sub.rfl.inl.inl.trans hm) ?_
    · refine forEach_may h (Sub.rfl.inr.inl.trans hm) (fun a0 a1 ha1 => ?_) hb2
      · refine fastFailOn_may h (Sub.rfl.inr.trans hm) ha1

def idleLimit_m : Nat := mask [LNI_EVT.IDLE_TIMEOUT] ||| startSeries_m ||| raiseLane_m
theorem idleLimit_may (h : May M I) (hm : Sub idleLimit_m M) {b0} {b1} (hb1 : I b1) : I (idleLimit b0 b1) := by
  have ho := (Sub.rfl.inl.inl.trans hm)
  unfold idleLimit
  refine may_ite ?_ ?_
  · refine startSeries_may h (Sub.rfl.inr.inl.trans hm) ?_
    · refine raiseLane_may h (Sub.rfl.inr.trans hm) (ho.okAll (by decide +kernel)) hb1
  · exact hb1

def pllLock_m : Nat := startProbe_m ||| fastOn_m
theorem pllLock_may (h : May M I) (hm : Sub pllLock_m M) {b0} {b1} {b2} (hb2 : I b2) : I (pllLock b0 b1 b2) := by
  unfold pllLock
  refine may_ite ?_ ?_
  · exact hb2
  · refine may_ite ?_ ?_
    · refine startProbe_may h (Sub.rfl.inl.trans hm) hb2
    · refine fastOn_may h (Sub.rfl.inr.trans hm) hb2

def cdrLocked_m : Nat := mask [LNI_STATUS.CDR_LOCK] ||| setIn_m ||| setF_m ||| lockHeld_m
theorem cdrLocked_may (h : May M I) (hm : Sub cdrLocked_m M) {b0} {b1} (hb1 : I b1) : I (cdrLocked b0 b1) := by
  have ho := (Sub.rfl.inl.inl.inl.trans hm)
  unfold cdrLocked
  extract_lets -merge -useContext x0
  have hx0 : I x0 := by
    unfold x0
    refine may_ite ?_ ?_
    · exact hb1
    · refine setIn_may h (Sub.rfl.inr.inl.inl.trans hm) ?_
      · refine setF_may h (Sub.rfl.inr.inl.trans hm) (ho.ok (by decide +kernel)) hb1
  clear_value x0
  refine may_ite ?_ ?_
  · exact hb1
  · refine lockHeld_may h (Sub.rfl.inr.trans hm) hx0

def cdrLost_m : Nat := mask [LNI_STATUS.CDR_LOCK] ||| setF_m ||| lockLoss_m
theorem cdrLost_may (h : May M I) (hm : Sub cdrLost_m M) {b0} {b1} (hb1 : I b1) : I (cdrLost b0 b1) := by
  have ho := (Sub.rfl.inl.inl.trans hm)
  unfold cdrLost
  extract_lets -merge -useContext x0
  have hx0 : I x0 := by
    unfold x0
    refine setF_may h (Sub.rfl.inr.inl.trans hm) (ho.ok (by decide +kernel)) hb1
  clear_value x0
  refine may_ite ?_ ?_
  · exact hb1
  · refine may_ite ?_ ?_
    · refine lockLoss_may h (Sub.rfl.inr.trans hm) hx0
    · exact hx0

def alignmentLate_m : Nat := lockLoss_m
theorem alignmentLate_may (h : May M I) (hm : Sub alignmentLate_m M) {b0} {b1} (hb1 : I b1) : I (alignmentLate b0 b1) := by
  unfold alignmentLate
  refine may_ite ?_ ?_
  · refine lockLoss_may h (Sub.rfl.trans hm) hb1
  · exact hb1

def fcActivity_m : Nat := mask [LNI_GRP_CFG.FC_ACTIVE] ||| autoFallback_m ||| setB_m
theorem fcActivity_may (h : May M I) (hm : Sub fcActivity_m M) {b0} {b1} {b2} (hb2 : I b2) : I (fcActivity b0 b1 b2) := by
  have ho := (Sub.rfl.inl.inl.trans hm)
  unfold fcActivity
  refine may_ite ?_ ?_
  · refine autoFallback_may h (Sub.rfl.inr.inl.trans hm) ?_
    · refine setB_may h (Sub.rfl.inr.trans hm) (ho.ok (by decide +kernel)) hb2
  · exact hb2

def deepOn_m : Nat := mask [LNI_STATUS.ALIGNED, LNI_STATUS.CDR_LOCK] ||| setIn_m ||| setF_m ||| enterIn_m ||| sendSets_m ||| setOut_m ||| enterOut_m
theorem deepOn_may (h : May M I) (hm : Sub deepOn_m M) {b0} {b1} {b2} (hb2 : I b2) : I (deepOn b0 b1 b2) := by
  have ho := (Sub.rfl.inl.inl.inl.inl.inl.inl.trans hm)
  unfold deepOn
  split
  · refine setIn_may h (Sub.rfl.inr.inl.inl.inl.inl.inl.trans hm) ?_
    · refine setF_may h (Sub.rfl.inr.inl.inl.inl.inl.trans hm) (ho.ok (by decide +kernel)) ?_
      · refine setF_may h (Sub.rfl.inr.inl.inl.inl.inl.trans hm) (ho.ok (by decide +kernel)) ?_
        · refine enterIn_may h (Sub.rfl.inr.inl.inl.inl.trans hm) hb2
  · refine sendSets_may h (Sub.rfl.inr.inl.inl.trans hm) ?_
    · refine setOut_may h (Sub.rfl.inr.inl.trans hm) ?_
      · refine enterOut_may h (Sub.rfl.inr.trans hm) hb2

def orderIn_m : Nat := mask [LNI_CTL.TARGET_STATE, LNI_STATUS.STATE] ||| setF_m ||| deepOn_m ||| setIn_m ||| leaveIn_m ||| inActive_m ||| wakeIn_m ||| startSeries_m
theorem orderIn_may (h : May M I) (hm : Sub orderIn_m M) {b0} {b1} {b2} (hb2 : I b2) : I (orderIn b0 b1 b2) := by
  have ho := (Sub.rfl.inl.inl.inl.inl.inl.inl.inl.trans hm)
  unfold orderIn
  extract_lets -merge -useContext x0 x1
  have hx0 : I x0 := by
    unfold x0
    refine setF_may h (Sub.rfl.inr.inl.inl.inl.inl.inl.inl.trans hm) (ho.ok (by decide +kernel)) hb2
  clear_value x0
  refine may_ite ?_ ?_
  · exact hb2
  · refine may_ite ?_ ?_
    · refine may_ite ?_ ?_
      · exact hx0
      · refine deepOn_may h (Sub.rfl.inr.inl.inl.inl.inl.inl.trans hm) hx0
    · refine may_ite ?_ ?_
      · refine may_ite ?_ ?_
        · refine setIn_may h (Sub.rfl.inr.inl.inl.inl.inl.trans hm) ?_
          · refine setF_may h (Sub.rfl.inr.inl.inl.inl.inl.inl.inl.trans hm) (ho.ok (by decide +kernel)) ?_
            · refine leaveIn_may h (Sub.rfl.inr.inl.inl.inl.trans hm) hx0
        · exact hx0
      · refine may_ite ?_ ?_
        · refine inActive_may h (Sub.rfl.inr.inl.inl.trans hm) hx0
        · refine may_ite ?_ ?_
          · refine wakeIn_may h (Sub.rfl.inr.inl.trans hm) hx0
          · refine may_ite ?_ ?_
            · refine startSeries_may h (Sub.rfl.inr.trans hm) hx0
            · exact hx0

def retrain_m : Nat := startSeries_m
theorem retrain_may (h : May M I) (hm : Sub retrain_m M) {b0} {b1} {b2} (hb2 : I b2) : I (retrain b0 b1 b2) := by
  unfold retrain
  extract_lets -merge -useContext x0
  refine may_ite ?_ ?_
  · refine startSeries_may h (Sub.rfl.trans hm) hb2
  · exact hb2

def orderOut_m : Nat := mask [LNO_CTL.TARGET_STATE, LNO_STATUS.REFUSED, LNO_STATUS.STATE] ||| setF_m ||| deepOn_m ||| leaveOut_m ||| startSeries_m ||| exitOut_m
theorem orderOut_may (h : May M I) (hm : Sub orderOut_m M) {b0} {b1} {b2} (hb2 : I b2) : I (orderOut b0 b1 b2) := by
  have ho := (Sub.rfl.inl.inl.inl.inl.inl.trans hm)
  unfold orderOut
  extract_lets -merge -useContext x0 x1
  have hx0 : I x0 := by
    unfold x0
    refine setF_may h (Sub.rfl.inr.inl.inl.inl.inl.trans hm) (ho.ok (by decide +kernel)) hb2
  clear_value x0
  refine may_ite ?_ ?_
  · exact hb2
  · refine may_ite ?_ ?_
    · refine setF_may h (Sub.rfl.inr.inl.inl.inl.inl.trans hm) (ho.ok (by decide +kernel)) hb2
    · refine may_ite ?_ ?_
      · refine may_ite ?_ ?_
        · exact hx0
        · refine deepOn_may h (Sub.rfl.inr.inl.inl.inl.trans hm) hx0
      · refine may_ite ?_ ?_
        · refine may_ite ?_ ?_
          · refine setF_may h (Sub.rfl.inr.inl.inl.inl.inl.trans hm) (ho.ok (by decide +kernel)) ?_
            · refine leaveOut_may h (Sub.rfl.inr.inl.inl.trans hm) hx0
          · exact hx0
        · refine may_ite ?_ ?_
          · refine startSeries_may h (Sub.rfl.inr.inl.trans hm) hx0
          · refine exitOut_may h (Sub.rfl.inr.trans hm) hx0

def lniClear_m : Nat := mask lniCounters ||| resetFs_m
theorem lniClear_may (h : May M I) (hm : Sub lniClear_m M) {b0} {b1} (hb1 : I b1) : I (lniClear b0 b1) := by
  unfold lniClear
  refine may_ite ?_ ?_
  · refine resetFs_may h (Sub.rfl.inr.trans hm) ((Sub.rfl.inl.trans hm).okAll (by decide +kernel)) hb1
  · exact hb1

def lnoClear_m : Nat := mask lnoCounters ||| resetFs_m
theorem lnoClear_may (h : May M I) (hm : Sub lnoClear_m M) {b0} {b1} (hb1 : I b1) : I (lnoClear b0 b1) := by
  unfold lnoClear
  refine may_ite ?_ ?_
  · refine resetFs_may h (Sub.rfl.inr.trans hm) ((Sub.rfl.inl.trans hm).okAll (by decide +kernel)) hb1
  · exact hb1

def orderTest_m : Nat := mask [LNO_PAY_CFG.TEST_REFUSED, LNO_PAY_CFG.TEST] ||| setF_m ||| setB_m
theorem orderTest_may (h : May M I) (hm : Sub orderTest_m M) {b0} {b1} {b2} (hb2 : I b2) : I (orderTest b0 b1 b2) := by
  have ho := (Sub.rfl.inl.inl.trans hm)
  unfold orderTest
  refine may_ite ?_ ?_
  · exact hb2
  · refine may_ite ?_ ?_
    · refine setF_may h (Sub.rfl.inr.inl.trans hm) (ho.ok (by decide +kernel)) hb2
    · refine setB_may h (Sub.rfl.inr.trans hm) (ho.ok (by decide +kernel)) hb2

def execSignalDetectRise_m : Nat := onService_m ||| signalRise_m
theorem execSignalDetectRise_may (h : May M I) (hm : Sub execSignalDetectRise_m M) (hr : Run M I) {b0} {b1} {b2} (hb2 : I b2) : Ans I (execSignalDetectRise b0 b1 b2) := by
  refine ⟨_, rfl, ?_⟩
  refine onService_may h (Sub.rfl.inl.trans hm) hr (fun I h a0 ha0 => ?_) hb2
  · refine signalRise_may h (Sub.rfl.inr.trans hm) ha0

def execSignalDetectFall_m : Nat := onService_m ||| signalFall_m
theorem execSignalDetectFall_may (h : May M I) (hm : Sub execSignalDetectFall_m M) (hr : Run M I) {b0} {b1} {b2} (hb2 : I b2) : Ans I (execSignalDetectFall b0 b1 b2) := by
  refine ⟨_, rfl, ?_⟩
  refine onService_may h (Sub.rfl.inl.trans hm) hr (fun I h a0 ha0 => ?_) hb2
  · refine signalFall_may h (Sub.rfl.inr.trans hm) ha0

def execTrainingSetRx_m : Nat := onService_m ||| trainingSet_m
theorem execTrainingSetRx_may (h : May M I) (hm : Sub execTrainingSetRx_m M) (hr : Run M I) {b0} {b1} {b2} {b3} {b4} {b5} {b6} {b7} (hb7 : I b7) : Ans I (execTrainingSetRx b0 b1 b2 b3 b4 b5 b6 b7) := by
  refine ⟨_, rfl, ?_⟩
  refine onService_may h (Sub.rfl.inl.trans hm) hr (fun I h a0 ha0 => ?_) hb7
  · refine trainingSet_may h (Sub.rfl.inr.trans hm) ha0

def execTrainingAttemptTimeout_m : Nat := onService_m ||| attemptTimeout_m
theorem execTrainingAttemptTimeout_may (h : May M I) (hm : Sub execTrainingAttemptTimeout_m M) (hr : Run M I) {b0} {b1} {b2} {b3} (hb3 : I b3) : Ans I (execTrainingAttemptTimeout b0 b1 b2 b3) := by
  refine ⟨_, rfl, ?_⟩
  refine onService_may h (Sub.rfl.inl.trans hm) hr (fun I h a0 ha0 => ?_) hb3
  · refine attemptTimeout_may h (Sub.rfl.inr.trans hm) ha0

def execBackoffExpire_m : Nat := onService_m ||| backoffEnd_m
theorem execBackoffExpire_may (h : May M I) (hm : Sub execBackoffExpire_m M) (hr : Run M I) {b0} {b1} {b2} {b3} (hb3 : I b3) : Ans I (execBackoffExpire b0 b1 b2 b3) := by
  refine ⟨_, rfl, ?_⟩
  refine onService_may h (Sub.rfl.inl.trans hm) hr (fun I h a0 ha0 => ?_) hb3
  · refine backoffEnd_may h (Sub.rfl.inr.trans hm) ha0

def execQuietProbeTimer_m : Nat := onService_m ||| quietProbe_m
theorem execQuietProbeTimer_may (h : May M I) (hm : Sub execQuietProbeTimer_m M) (hr : Run M I) {b0} {b1} {b2} {b3} (hb3 : I b3) : Ans I (execQuietProbeTimer b0 b1 b2 b3) := by
  refine ⟨_, rfl, ?_⟩
  refine onService_may h (Sub.rfl.inl.trans hm) hr (fun I h a0 ha0 => ?_) hb3
  · refine quietProbe_may h (Sub.rfl.inr.trans hm) ha0

def execOneWayTrainTimer_m : Nat := onService_m ||| oneWayTimer_m
theorem execOneWayTrainTimer_may (h : May M I) (hm : Sub execOneWayTrainTimer_m M) (hr : Run M I) {b0} {b1} {b2} (hb2 : I b2) : Ans I (execOneWayTrainTimer b0 b1 b2) := by
  refine ⟨_, rfl, ?_⟩
  refine onService_may h (Sub.rfl.inl.trans hm) hr (fun I h a0 ha0 => ?_) hb2
  · refine oneWayTimer_may h (Sub.rfl.inr.trans hm) ha0

def execAlignmentTimeout_m : Nat := onService_m ||| alignmentLate_m
theorem execAlignmentTimeout_may (h : May M I) (hm : Sub execAlignmentTimeout_m M) (hr : Run M I) {b0} {b1} {b2} (hb2 : I b2) : Ans I (execAlignmentTimeout b0 b1 b2) := by
  refine ⟨_, rfl, ?_⟩
  refine onService_may h (Sub.rfl.inl.trans hm) hr (fun I h a0 ha0 => ?_) hb2
  · refine alignmentLate_may h (Sub.rfl.inr.trans hm) ha0

def execCdrLockLoss_m : Nat := onService_m ||| cdrLost_m
theorem execCdrLockLoss_may (h : May M I) (hm : Sub execCdrLockLoss_m M) (hr : Run M I) {b0} {b1} {b2} (hb2 : I b2) : Ans I (execCdrLockLoss b0 b1 b2) := by
  refine ⟨_, rfl, ?_⟩
  refine onService_may h (Sub.rfl.inl.trans hm) hr (fun I h a0 ha0 => ?_) hb2
  · refine cdrLost_may h (Sub.rfl.inr.trans hm) ha0

def execFastRetrainTimeout_m : Nat := onService_m ||| fastTimeout_m
theorem execFastRetrainTimeout_may (h : May M I) (hm : Sub execFastRetrainTimeout_m M) (hr : Run M I) {b0} {b1} {b2} {b3} (hb3 : I b3) : Ans I (execFastRetrainTimeout b0 b1 b2 b3) := by
  refine ⟨_, rfl, ?_⟩
  refine onService_may h (Sub.rfl.inl.trans hm) hr (fun I h a0 ha0 => ?_) hb3
  · refine fastTimeout_may h (Sub.rfl.inr.trans hm) ha0

def execIdleLimitExpire_m : Nat := onService_m ||| idleLimit_m
theorem execIdleLimitExpire_may (h : May M I) (hm : Sub execIdleLimitExpire_m M) (hr : Run M I) {b0} {b1} {b2} (hb2 : I b2) : Ans I (execIdleLimitExpire b0 b1 b2) := by
  refine ⟨_, rfl, ?_⟩
  refine onService_may h (Sub.rfl.inl.trans hm) hr (fun I h a0 ha0 => ?_) hb2
  · refine idleLimit_may h (Sub.rfl.inr.trans hm) ha0

def execLniTargetState_m : Nat := onHost_m ||| orderIn_m
theorem execLniTargetState_may (h : May M I) (hm : Sub execLniTargetState_m M) (hr : Run M I) {b0} {b1} {b2} {b3} (hb3 : I b3) : Ans I (execLniTargetState b0 b1 b2 b3) := by
  refine ⟨_, rfl, ?_⟩
  refine onHost_may h (Sub.rfl.inl.trans hm) hr (fun I h a0 ha0 => ?_) hb3
  · refine orderIn_may h (Sub.rfl.inr.trans hm) ha0

def execLniRetrain_m : Nat := onHost_m ||| retrain_m
theorem execLniRetrain_may (h : May M I) (hm : Sub execLniRetrain_m M) (hr : Run M I) {b0} {b1} {b2} (hb2 : I b2) : Ans I (execLniRetrain b0 b1 b2) := by
  refine ⟨_, rfl, ?_⟩
  refine onHost_may h (Sub.rfl.inl.trans hm) hr (fun I h a0 ha0 => ?_) hb2
  · refine retrain_may h (Sub.rfl.inr.trans hm) ha0

def execLniClrCnt_m : Nat := whenHost_m ||| lniClear_m
theorem execLniClrCnt_may (h : May M I) (hm : Sub execLniClrCnt_m M) {b0} {b1} (hb1 : I b1) : Ans I (execLniClrCnt b0 b1) := by
  refine ⟨_, rfl, ?_⟩
  refine whenHost_may h (Sub.rfl.inl.trans hm) (fun a0 ha0 => ?_) hb1
  · refine lniClear_may h (Sub.rfl.inr.trans hm) ha0

def execLnoTargetState_m : Nat := onHost_m ||| orderOut_m
theorem execLnoTargetState_may (h : May M I) (hm : Sub execLnoTargetState_m M) (hr : Run M I) {b0} {b1} {b2} {b3} (hb3 : I b3) : Ans I (execLnoTargetState b0 b1 b2 b3) := by
  refine ⟨_, rfl, ?_⟩
  refine onHost_may h (Sub.rfl.inl.trans hm) hr (fun I h a0 ha0 => ?_) hb3
  · refine orderOut_may h (Sub.rfl.inr.trans hm) ha0

def execLnoRetrain_m : Nat := onHost_m ||| retrain_m
theorem execLnoRetrain_may (h : May M I) (hm : Sub execLnoRetrain_m M) (hr : Run M I) {b0} {b1} {b2} (hb2 : I b2) : Ans I (execLnoRetrain b0 b1 b2) := by
  refine ⟨_, rfl, ?_⟩
  refine onHost_may h (Sub.rfl.inl.trans hm) hr (fun I h a0 ha0 => ?_) hb2
  · refine retrain_may h (Sub.rfl.inr.trans hm) ha0

def execLnoClrCnt_m : Nat := whenHost_m ||| lnoClear_m
theorem execLnoClrCnt_may (h : May M I) (hm : Sub execLnoClrCnt_m M) {b0} {b1} (hb1 : I b1) : Ans I (execLnoClrCnt b0 b1) := by
  refine ⟨_, rfl, ?_⟩
  refine whenHost_may h (Sub.rfl.inl.trans hm) (fun a0 ha0 => ?_) hb1
  · refine lnoClear_may h (Sub.rfl.inr.trans hm) ha0

def execLnoTest_m : Nat := whenHost_m ||| running_m ||| orderTest_m
theorem execLnoTest_may (h : May M I) (hm : Sub execLnoTest_m M) (hr : Run M I) {b0} {b1} {b2} (hb2 : I b2) : Ans I (execLnoTest b0 b1 b2) := by
  refine ⟨_, rfl, ?_⟩
  refine whenHost_may h (Sub.rfl.inl.inl.trans hm) (fun a0 ha0 => ?_) hb2
  · refine running_may h (Sub.rfl.inr.inl.trans hm) hr (fun I h a1 ha1 => ?_) ha0
    · refine orderTest_may h (Sub.rfl.inr.trans hm) ha1

def execPllLocked_m : Nat := onService_m ||| pllLock_m
theorem execPllLocked_may (h : May M I) (hm : Sub execPllLocked_m M) (hr : Run M I) {b0} {b1} {b2} {b3} (hb3 : I b3) : Ans I (execPllLocked b0 b1 b2 b3) := by
  refine ⟨_, rfl, ?_⟩
  refine onService_may h (Sub.rfl.inl.trans hm) hr (fun I h a0 ha0 => ?_) hb3
  · refine pllLock_may h (Sub.rfl.inr.trans hm) ha0

def execCdrLockAcquired_m : Nat := onService_m ||| cdrLocked_m
theorem execCdrLockAcquired_may (h : May M I) (hm : Sub execCdrLockAcquired_m M) (hr : Run M I) {b0} {b1} {b2} (hb2 : I b2) : Ans I (execCdrLockAcquired b0 b1 b2) := by
  refine ⟨_, rfl, ?_⟩
  refine onService_may h (Sub.rfl.inl.trans hm) hr (fun I h a0 ha0 => ?_) hb2
  · refine cdrLocked_may h (Sub.rfl.inr.trans hm) ha0

def execForwardedClockActivity_m : Nat := onService_m ||| fcActivity_m
theorem execForwardedClockActivity_may (h : May M I) (hm : Sub execForwardedClockActivity_m M) (hr : Run M I) {b0} {b1} {b2} {b3} (hb3 : I b3) : Ans I (execForwardedClockActivity b0 b1 b2 b3) := by
  refine ⟨_, rfl, ?_⟩
  refine onService_may h (Sub.rfl.inl.trans hm) hr (fun I h a0 ha0 => ?_) hb3
  · refine fcActivity_may h (Sub.rfl.inr.trans hm) ha0

def bootBarks_m : Nat := emit_m ||| setTwin_m
theorem bootBarks_may (h : May M I) (hm : Sub bootBarks_m M) {b0} (hb0 : I b0) : I (bootBarks b0) := by
  unfold bootBarks
  refine may_ite ?_ ?_
  · exact hb0
  · refine emit_may h (Sub.rfl.inl.trans hm) ?_
    · refine setTwin_may h (Sub.rfl.inr.trans hm) hb0

def yieldOrder_m : Nat := mask [TWN_EVT.TAKE_REFUSED] ||| enterRole_m ||| raise_m
theorem yieldOrder_may (h : May M I) (hm : Sub yieldOrder_m M) {b0} (hb0 : I b0) : I (yieldOrder b0) := by
  have ho := (Sub.rfl.inl.inl.trans hm)
  unfold yieldOrder
  refine may_ite ?_ ?_
  · refine enterRole_may h (Sub.rfl.inr.inl.trans hm) hb0
  · refine raise_may h (Sub.rfl.inr.trans hm) (ho.okAll (by decide +kernel)) hb0

def takeOrder_m : Nat := mask [TWN_EVT.TAKE_REFUSED] ||| updateEvidence_m ||| enterRole_m ||| raise_m
theorem takeOrder_may (h : May M I) (hm : Sub takeOrder_m M) {b0} (hb0 : I b0) : I (takeOrder b0) := by
  have ho := (Sub.rfl.inl.inl.inl.trans hm)
  unfold takeOrder
  extract_lets -merge -useContext x0
  have hx0 : I x0 := by
    unfold x0
    refine updateEvidence_may h (Sub.rfl.inr.inl.inl.trans hm) hb0
  clear_value x0
  refine may_ite ?_ ?_
  · refine enterRole_may h (Sub.rfl.inr.inl.trans hm) hx0
  · refine raise_may h (Sub.rfl.inr.trans hm) (ho.okAll (by decide +kernel)) hx0

def resyncOrder_m : Nat := setTwin_m
theorem resyncOrder_may (h : May M I) (hm : Sub resyncOrder_m M) {b0} (hb0 : I b0) : I (resyncOrder b0) := by
  unfold resyncOrder
  refine may_ite ?_ ?_
  · refine setTwin_may h (Sub.rfl.trans hm) hb0
  · exact hb0

def execBarkTx_m : Nat := whenReady_m ||| onService_m ||| sendBarks_m
theorem execBarkTx_may (h : May M I) (hm : Sub execBarkTx_m M) (hr : Run M I) {b0} {b1} (hb1 : I b1) : Ans I (execBarkTx b0 b1) := by
  refine ⟨_, rfl, ?_⟩
  refine whenReady_may h (Sub.rfl.inl.inl.trans hm) (fun a0 ha0 => ?_) hb1
  · refine onService_may h (Sub.rfl.inr.inl.trans hm) hr (fun I h a1 ha1 => ?_) ha0
    · refine sendBarks_may h (Sub.rfl.inr.trans hm) ha1

def execBootBark_m : Nat := bootBarks_m ||| advance_m
theorem execBootBark_may (h : May M I) (hm : Sub execBootBark_m M) {b0} {b1} (hb1 : I b1) : Ans I (execBootBark b0 b1) := by
  refine ⟨_, rfl, ?_⟩
  refine may_ite ?_ ?_
  · refine bootBarks_may h (Sub.rfl.inl.trans hm) ?_
    · refine advance_may h (Sub.rfl.inr.trans hm) hb1
  · exact hb1

def execBarkRx_m : Nat := onService_m ||| rxBark_m
theorem execBarkRx_may (h : May M I) (hm : Sub execBarkRx_m M) (hr : Run M I) {b0} {b1} {b2} {b3} (hb3 : I b3) : Ans I (execBarkRx b0 b1 b2 b3) := by
  refine ⟨_, rfl, ?_⟩
  refine onService_may h (Sub.rfl.inl.trans hm) hr (fun I h a0 ha0 => ?_) hb3
  · refine rxBark_may h (Sub.rfl.inr.trans hm) ha0

def execPathLost_m : Nat := onService_m ||| losePath_m
theorem execPathLost_may (h : May M I) (hm : Sub execPathLost_m M) (hr : Run M I) {b0} {b1} {b2} (hb2 : I b2) : Ans I (execPathLost b0 b1 b2) := by
  refine ⟨_, rfl, ?_⟩
  refine onService_may h (Sub.rfl.inl.trans hm) hr (fun I h a0 ha0 => ?_) hb2
  · refine losePath_may h (Sub.rfl.inr.trans hm) ha0

def execHandshakeTimeout_m : Nat := onService_m ||| handshakeEnd_m
theorem execHandshakeTimeout_may (h : May M I) (hm : Sub execHandshakeTimeout_m M) (hr : Run M I) {b0} {b1} (hb1 : I b1) : Ans I (execHandshakeTimeout b0 b1) := by
  refine ⟨_, rfl, ?_⟩
  refine onService_may h (Sub.rfl.inl.trans hm) hr (fun I h a0 ha0 => ?_) hb1
  · refine handshakeEnd_may h (Sub.rfl.inr.trans hm) ha0

def execEvidenceTimer_m : Nat := onService_m ||| evidence_m
theorem execEvidenceTimer_may (h : May M I) (hm : Sub execEvidenceTimer_m M) (hr : Run M I) {b0} {b1} (hb1 : I b1) : Ans I (execEvidenceTimer b0 b1) := by
  refine ⟨_, rfl, ?_⟩
  refine onService_may h (Sub.rfl.inl.trans hm) hr (fun I h a0 ha0 => ?_) hb1
  · refine evidence_may h (Sub.rfl.inr.trans hm) ha0

def execClaimWatchdogExpiry_m : Nat := onService_m ||| watchdog_m
theorem execClaimWatchdogExpiry_may (h : May M I) (hm : Sub execClaimWatchdogExpiry_m M) (hr : Run M I) {b0} {b1} (hb1 : I b1) : Ans I (execClaimWatchdogExpiry b0 b1) := by
  refine ⟨_, rfl, ?_⟩
  refine onService_may h (Sub.rfl.inl.trans hm) hr (fun I h a0 ha0 => ?_) hb1
  · refine watchdog_may h (Sub.rfl.inr.trans hm) ha0

def execYieldTimer_m : Nat := onService_m ||| yieldEnd_m
theorem execYieldTimer_may (h : May M I) (hm : Sub execYieldTimer_m M) (hr : Run M I) {b0} {b1} (hb1 : I b1) : Ans I (execYieldTimer b0 b1) := by
  refine ⟨_, rfl, ?_⟩
  refine onService_may h (Sub.rfl.inl.trans hm) hr (fun I h a0 ha0 => ?_) hb1
  · refine yieldEnd_may h (Sub.rfl.inr.trans hm) ha0

def execWithdrawEnd_m : Nat := onService_m ||| withdrawOver_m
theorem execWithdrawEnd_may (h : May M I) (hm : Sub execWithdrawEnd_m M) (hr : Run M I) {b0} {b1} (hb1 : I b1) : Ans I (execWithdrawEnd b0 b1) := by
  refine ⟨_, rfl, ?_⟩
  refine onService_may h (Sub.rfl.inl.trans hm) hr (fun I h a0 ha0 => ?_) hb1
  · refine withdrawOver_may h (Sub.rfl.inr.trans hm) ha0

def execFitRestoreTimer_m : Nat := onService_m ||| fitRestore_m
theorem execFitRestoreTimer_may (h : May M I) (hm : Sub execFitRestoreTimer_m M) (hr : Run M I) {b0} {b1} {b2} (hb2 : I b2) : Ans I (execFitRestoreTimer b0 b1 b2) := by
  refine ⟨_, rfl, ?_⟩
  refine onService_may h (Sub.rfl.inl.trans hm) hr (fun I h a0 ha0 => ?_) hb2
  · refine fitRestore_may h (Sub.rfl.inr.trans hm) ha0

def execMirror_m : Nat := onService_m ||| rxMirror_m
theorem execMirror_may (h : May M I) (hm : Sub execMirror_m M) (hr : Run M I) {b0} {b1} {b2} (hb2 : I b2) : Ans I (execMirror b0 b1 b2) := by
  refine ⟨_, rfl, ?_⟩
  refine onService_may h (Sub.rfl.inl.trans hm) hr (fun I h a0 ha0 => ?_) hb2
  · refine rxMirror_may h (Sub.rfl.inr.trans hm) ha0

def execMirrorAck_m : Nat := onService_m ||| rxMirrorAck_m
theorem execMirrorAck_may (h : May M I) (hm : Sub execMirrorAck_m M) (hr : Run M I) {b0} {b1} {b2} (hb2 : I b2) : Ans I (execMirrorAck b0 b1 b2) := by
  refine ⟨_, rfl, ?_⟩
  refine onService_may h (Sub.rfl.inl.trans hm) hr (fun I h a0 ha0 => ?_) hb2
  · refine rxMirrorAck_may h (Sub.rfl.inr.trans hm) ha0

def execCommitRpt_m : Nat := onService_m ||| rxCommitRpt_m
theorem execCommitRpt_may (h : May M I) (hm : Sub execCommitRpt_m M) (hr : Run M I) {b0} {b1} {b2} {b3} (hb3 : I b3) : Ans I (execCommitRpt b0 b1 b2 b3) := by
  refine ⟨_, rfl, ?_⟩
  refine onService_may h (Sub.rfl.inl.trans hm) hr (fun I h a0 ha0 => ?_) hb3
  · refine rxCommitRpt_may h (Sub.rfl.inr.trans hm) ha0

def execDecision_m : Nat := onService_m ||| rxDecision_m
theorem execDecision_may (h : May M I) (hm : Sub execDecision_m M) (hr : Run M I) {b0} {b1} {b2} (hb2 : I b2) : Ans I (execDecision b0 b1 b2) := by
  refine ⟨_, rfl, ?_⟩
  refine onService_may h (Sub.rfl.inl.trans hm) hr (fun I h a0 ha0 => ?_) hb2
  · refine rxDecision_may h (Sub.rfl.inr.trans hm) ha0

def execHealth_m : Nat := onService_m ||| rxHealth_m
theorem execHealth_may (h : May M I) (hm : Sub execHealth_m M) (hr : Run M I) {b0} {b1} {b2} (hb2 : I b2) : Ans I (execHealth b0 b1 b2) := by
  refine ⟨_, rfl, ?_⟩
  refine onService_may h (Sub.rfl.inl.trans hm) hr (fun I h a0 ha0 => ?_) hb2
  · refine rxHealth_may h (Sub.rfl.inr.trans hm) ha0

def execResyncReq_m : Nat := onService_m ||| rxResyncReq_m
theorem execResyncReq_may (h : May M I) (hm : Sub execResyncReq_m M) (hr : Run M I) {b0} {b1} {b2} (hb2 : I b2) : Ans I (execResyncReq b0 b1 b2) := by
  refine ⟨_, rfl, ?_⟩
  refine onService_may h (Sub.rfl.inl.trans hm) hr (fun I h a0 ha0 => ?_) hb2
  · refine rxResyncReq_may h (Sub.rfl.inr.trans hm) ha0

def execResyncAck_m : Nat := onService_m ||| rxResyncAck_m
theorem execResyncAck_may (h : May M I) (hm : Sub execResyncAck_m M) (hr : Run M I) {b0} {b1} {b2} (hb2 : I b2) : Ans I (execResyncAck b0 b1 b2) := by
  refine ⟨_, rfl, ?_⟩
  refine onService_may h (Sub.rfl.inl.trans hm) hr (fun I h a0 ha0 => ?_) hb2
  · refine rxResyncAck_may h (Sub.rfl.inr.trans hm) ha0

def execState_m : Nat := onService_m ||| rxState_m
theorem execState_may (h : May M I) (hm : Sub execState_m M) (hr : Run M I) {b0} {b1} {b2} {b3} (hb3 : I b3) : Ans I (execState b0 b1 b2 b3) := by
  refine ⟨_, rfl, ?_⟩
  refine onService_may h (Sub.rfl.inl.trans hm) hr (fun I h a0 ha0 => ?_) hb3
  · refine rxState_may h (Sub.rfl.inr.trans hm) ha0

def execStateAck_m : Nat := onService_m ||| rxStateAck_m
theorem execStateAck_may (h : May M I) (hm : Sub execStateAck_m M) (hr : Run M I) {b0} {b1} (hb1 : I b1) : Ans I (execStateAck b0 b1) := by
  refine ⟨_, rfl, ?_⟩
  refine onService_may h (Sub.rfl.inl.trans hm) hr (fun I h a0 ha0 => ?_) hb1
  · refine rxStateAck_may h (Sub.rfl.inr.trans hm) ha0

def execMessageRetransmit_m : Nat := onService_m ||| retransmit_m
theorem execMessageRetransmit_may (h : May M I) (hm : Sub execMessageRetransmit_m M) (hr : Run M I) {b0} {b1} (hb1 : I b1) : Ans I (execMessageRetransmit b0 b1) := by
  refine ⟨_, rfl, ?_⟩
  refine onService_may h (Sub.rfl.inl.trans hm) hr (fun I h a0 ha0 => ?_) hb1
  · refine retransmit_may h (Sub.rfl.inr.trans hm) ha0

def execHealthRecordTx_m : Nat := onService_m ||| sendHealth_m
theorem execHealthRecordTx_may (h : May M I) (hm : Sub execHealthRecordTx_m M) (hr : Run M I) {b0} {b1} (hb1 : I b1) : Ans I (execHealthRecordTx b0 b1) := by
  refine ⟨_, rfl, ?_⟩
  refine onService_may h (Sub.rfl.inl.trans hm) hr (fun I h a0 ha0 => ?_) hb1
  · refine sendHealth_may h (Sub.rfl.inr.trans hm) ha0

def execSniffCycleStart_m : Nat := onService_m ||| withBad_m ||| sniff_m
theorem execSniffCycleStart_may (h : May M I) (hm : Sub execSniffCycleStart_m M) (hr : Run M I) {b0} {b1} {b2} (hb2 : I b2) : Ans I (execSniffCycleStart b0 b1 b2) := by
  refine ⟨_, rfl, ?_⟩
  refine onService_may h (Sub.rfl.inl.inl.trans hm) hr (fun I h a0 ha0 => ?_) hb2
  · refine withBad_may h (Sub.rfl.inr.inl.trans hm) (fun a1 ha1 => ?_) ha0
    · refine sniff_may h (Sub.rfl.inr.trans hm) ha1

def execLeadFrameDecision_m : Nat := onService_m ||| leadDecides_m
theorem execLeadFrameDecision_may (h : May M I) (hm : Sub execLeadFrameDecision_m M) (hr : Run M I) {b0} {b1} {b2} {b3} {b4} {b5} (hb5 : I b5) : Ans I (execLeadFrameDecision b0 b1 b2 b3 b4 b5) := by
  refine ⟨_, rfl, ?_⟩
  refine onService_may h (Sub.rfl.inl.trans hm) hr (fun I h a0 ha0 => ?_) hb5
  · refine leadDecides_may h (Sub.rfl.inr.trans hm) ha0

def execTwnYield_m : Nat := onHost_m ||| yieldOrder_m
theorem execTwnYield_may (h : May M I) (hm : Sub execTwnYield_m M) (hr : Run M I) {b0} {b1} (hb1 : I b1) : Ans I (execTwnYield b0 b1) := by
  refine ⟨_, rfl, ?_⟩
  refine onHost_may h (Sub.rfl.inl.trans hm) hr (fun I h a0 ha0 => ?_) hb1
  · refine yieldOrder_may h (Sub.rfl.inr.trans hm) ha0

def execTwnTake_m : Nat := onHost_m ||| takeOrder_m
theorem execTwnTake_may (h : May M I) (hm : Sub execTwnTake_m M) (hr : Run M I) {b0} {b1} (hb1 : I b1) : Ans I (execTwnTake b0 b1) := by
  refine ⟨_, rfl, ?_⟩
  refine onHost_may h (Sub.rfl.inl.trans hm) hr (fun I h a0 ha0 => ?_) hb1
  · refine takeOrder_may h (Sub.rfl.inr.trans hm) ha0

def execTwnResync_m : Nat := onHost_m ||| resyncOrder_m
theorem execTwnResync_may (h : May M I) (hm : Sub execTwnResync_m M) (hr : Run M I) {b0} {b1} (hb1 : I b1) : Ans I (execTwnResync b0 b1) := by
  refine ⟨_, rfl, ?_⟩
  refine onHost_may h (Sub.rfl.inl.trans hm) hr (fun I h a0 ha0 => ?_) hb1
  · refine resyncOrder_may h (Sub.rfl.inr.trans hm) ha0

def execTwnFeedBoth_m : Nat := mask [TWN_CTL.FEED_BOTH] ||| onHost_m ||| setB_m
theorem execTwnFeedBoth_may (h : May M I) (hm : Sub execTwnFeedBoth_m M) (hr : Run M I) {b0} {b1} {b2} (hb2 : I b2) : Ans I (execTwnFeedBoth b0 b1 b2) := by
  have ho := (Sub.rfl.inl.inl.trans hm)
  refine ⟨_, rfl, ?_⟩
  refine onHost_may h (Sub.rfl.inr.inl.trans hm) hr (fun I h a0 ha0 => ?_) hb2
  · refine setB_may h (Sub.rfl.inr.trans hm) (ho.ok (by decide +kernel)) ha0

def execTwnClrCnt_m : Nat := mask twnCounters ||| whenHost_m ||| clearFlds_m
theorem execTwnClrCnt_may (h : May M I) (hm : Sub execTwnClrCnt_m M) {b0} (hb0 : I b0) : Ans I (execTwnClrCnt b0) := by
  refine ⟨_, rfl, ?_⟩
  refine whenHost_may h (Sub.rfl.inr.inl.trans hm) (fun a0 ha0 => ?_) hb0
  · refine clearFlds_may h (Sub.rfl.inr.trans hm) ((Sub.rfl.inl.inl.trans hm).okAll (by decide +kernel)) ha0

def domainWork_m : Nat := forEach_m ||| startSeriesOn_m
theorem domainWork_may (h : May M I) (hm : Sub domainWork_m M) {b0} {b1} (hb1 : I b1) : I (domainWork b0 b1) := by
  unfold domainWork
  refine may_ite ?_ ?_
  · refine forEach_may h (Sub.rfl.inl.trans hm) (fun a0 a1 ha1 => ?_) hb1
    · refine may_ite ?_ ?_
      · refine startSeriesOn_may h (Sub.rfl.inr.trans hm) ha1
      · exact ha1
  · refine may_ite ?_ ?_
    · refine forEach_may h (Sub.rfl.inl.trans hm) (fun a2 a3 ha3 => ?_) hb1
      · refine may_ite ?_ ?_
        · refine startSeriesOn_may h (Sub.rfl.inr.trans hm) ha3
        · exact ha3
    · exact hb1

def startEnds_m : Nat := setBoot_m
theorem startEnds_may (h : May M I) (hm : Sub startEnds_m M) {b0} {b1} (hb1 : I b1) : I (startEnds b0 b1) := by
  unfold startEnds
  refine setBoot_may h (Sub.rfl.trans hm) hb1

def domainOn_m : Nat := domainWork_m ||| startEnds_m ||| setDom_m
theorem domainOn_may (h : May M I) (hm : Sub domainOn_m M) {b0} {b1} (hb1 : I b1) : I (domainOn b0 b1) := by
  unfold domainOn
  refine may_ite ?_ ?_
  · refine domainWork_may h (Sub.rfl.inl.inl.trans hm) ?_
    · refine startEnds_may h (Sub.rfl.inr.inl.trans hm) ?_
      · refine setDom_may h (Sub.rfl.inr.trans hm) hb1
  · exact hb1

def domainFails_m : Nat := mask [PWR_START_FAIL_CNT.COUNT, PWR_EVT.START_FAIL_OVF, PWR_EVT.START_FAIL] ||| bump32_m ||| raiseAs_m ||| markFailed_m ||| setDom_m ||| startEnds_m ||| forEach_m ||| writerLoss_m ||| setDiag_m
theorem domainFails_may (h : May M I) (hm : Sub domainFails_m M) {b0} {b1} (hb1 : I b1) : I (domainFails b0 b1) := by
  have ho := (Sub.rfl.inl.inl.inl.inl.inl.inl.inl.inl.trans hm)
  unfold domainFails
  extract_lets -merge -useContext x0
  have hx0 : I x0 := by
    unfold x0
    refine bump32_may h (Sub.rfl.inr.inl.inl.inl.inl.inl.inl.inl.trans hm) (ho.ok (by decide +kernel)) (ho.ok (by decide +kernel)) ?_
    · refine raiseAs_may h (Sub.rfl.inr.inl.inl.inl.inl.inl.inl.trans hm) (ho.okAll (by decide +kernel)) ?_
      · refine markFailed_may h (Sub.rfl.inr.inl.inl.inl.inl.inl.trans hm) ?_
        · refine setDom_may h (Sub.rfl.inr.inl.inl.inl.inl.trans hm) ?_
          · refine startEnds_may h (Sub.rfl.inr.inl.inl.inl.trans hm) hb1
  clear_value x0
  refine may_ite ?_ ?_
  · exact hb1
  · refine may_ite ?_ ?_
    · refine forEach_may h (Sub.rfl.inr.inl.inl.trans hm) (fun a1 a2 ha2 => ?_) ?_
      · refine writerLoss_may h (Sub.rfl.inr.inl.trans hm) ha2
      · refine setDiag_may h (Sub.rfl.inr.trans hm) hx0
    · refine may_ite ?_ ?_
      · refine setDiag_may h (Sub.rfl.inr.trans hm) hx0
      · exact hx0

def showTemps_m : Nat := mask [MON_TEMP.MAX_C, MON_TEMP.TEMP_C, MON_THERM_STATUS.MAX_C, MON_THERM_STATUS.HOT_SENSOR] ||| forEach_m ||| setF_m
theorem showTemps_may (h : May M I) (hm : Sub showTemps_m M) {b0} {b1} (hb1 : I b1) : I (showTemps b0 b1) := by
  have ho := (Sub.rfl.inl.inl.trans hm)
  unfold showTemps
  extract_lets -merge -useContext x0
  have hx0 : I x0 := by
    unfold x0
    refine forEach_may h (Sub.rfl.inr.inl.trans hm) (fun a1 a2 ha2 => ?_) hb1
    · refine setF_may h (Sub.rfl.inr.trans hm) (ho.ok (by decide +kernel)) ?_
      · refine setF_may h (Sub.rfl.inr.trans hm) (ho.ok (by decide +kernel)) ha2
  clear_value x0
  refine setF_may h (Sub.rfl.inr.trans hm) (ho.ok (by decide +kernel)) ?_
  · refine setF_may h (Sub.rfl.inr.trans hm) (ho.ok (by decide +kernel)) hx0

def judgeWarn_m : Nat := mask [MON_WARN_CNT.COUNT, MON_EVT.WARN_OVF, MON_EVT.WARN, MON_THERM_STATUS.WARN, MON_EVT.WARN_CLEAR] ||| setMon_m ||| bump32_m ||| raiseAs_m ||| setF_m
theorem judgeWarn_may (h : May M I) (hm : Sub judgeWarn_m M) {b0} {b1} (hb1 : I b1) : I (judgeWarn b0 b1) := by
  have ho := (Sub.rfl.inl.inl.inl.inl.trans hm)
  unfold judgeWarn
  extract_lets -merge -useContext x0 x1 x2
  have hx2 : I x2 := by
    unfold x2
    refine may_ite ?_ ?_
    · refine setMon_may h (Sub.rfl.inr.inl.inl.inl.trans hm) hb1
    · exact hb1
  clear_value x2
  refine may_ite ?_ ?_
  · refine may_ite ?_ ?_
    · refine setMon_may h (Sub.rfl.inr.inl.inl.inl.trans hm) ?_
      · refine bump32_may h (Sub.rfl.inr.inl.inl.trans hm) (ho.ok (by decide +kernel)) (ho.ok (by decide +kernel)) ?_
        · refine raiseAs_may h (Sub.rfl.inr.inl.trans hm) (ho.okAll (by decide +kernel)) ?_
          · refine setF_may h (Sub.rfl.inr.trans hm) (ho.ok (by decide +kernel)) hb1
    · exact hb1
  · refine may_ite ?_ ?_
    · refine may_ite ?_ ?_
      · refine setMon_may h (Sub.rfl.inr.inl.inl.inl.trans hm) ?_
        · refine raiseAs_may h (Sub.rfl.inr.inl.trans hm) (ho.okAll (by decide +kernel)) ?_
          · refine setF_may h (Sub.rfl.inr.trans hm) (ho.ok (by decide +kernel)) hx2
      · exact hx2
    · refine setMon_may h (Sub.rfl.inr.inl.inl.inl.trans hm) hb1

def judgeStack_m : Nat := mask [MON_EVT.STACK_HOT] ||| raiseAs_m ||| setMon_m
theorem judgeStack_may (h : May M I) (hm : Sub judgeStack_m M) {b0} {b1} {b2} (hb2 : I b2) : I (judgeStack b0 b1 b2) := by
  have ho := (Sub.rfl.inl.inl.trans hm)
  unfold judgeStack
  extract_lets -merge -useContext x0
  split
  · refine may_ite ?_ ?_
    · refine raiseAs_may h (Sub.rfl.inr.inl.trans hm) (ho.okAll (by decide +kernel)) ?_
      · refine setMon_may h (Sub.rfl.inr.trans hm) hb2
    · exact hb2
  · extract_lets -merge -useContext x1
    refine may_ite ?_ ?_
    · refine may_ite ?_ ?_
      · refine setMon_may h (Sub.rfl.inr.trans hm) hb2
      · refine setMon_may h (Sub.rfl.inr.trans hm) hb2
    · refine setMon_may h (Sub.rfl.inr.trans hm) hb2

def judgeStacks_m : Nat := mask [MON_THERM_STATUS.STACK_HOT] ||| forEach_m ||| judgeStack_m ||| setB_m
theorem judgeStacks_may (h : May M I) (hm : Sub judgeStacks_m M) {b0} {b1} (hb1 : I b1) : I (judgeStacks b0 b1) := by
  have ho := (Sub.rfl.inl.inl.inl.trans hm)
  unfold judgeStacks
  extract_lets -merge -useContext x0
  have hx0 : I x0 := by
    unfold x0
    refine forEach_may h (Sub.rfl.inr.inl.inl.trans hm) (fun a1 a2 ha2 => ?_) hb1
    · refine judgeStack_may h (Sub.rfl.inr.inl.trans hm) ha2
  clear_value x0
  refine setB_may h (Sub.rfl.inr.trans hm) (ho.ok (by decide +kernel)) hx0

def judgeTrip_m : Nat := setMon_m ||| bootFault_m
theorem judgeTrip_may (h : May M I) (hm : Sub judgeTrip_m M) {b0} {b1} (hb1 : I b1) : I (judgeTrip b0 b1) := by
  unfold judgeTrip
  refine may_ite ?_ ?_
  · refine setMon_may h (Sub.rfl.inl.trans hm) hb1
  · refine may_ite ?_ ?_
    · refine setMon_may h (Sub.rfl.inl.trans hm) hb1
    · refine may_ite ?_ ?_
      · refine bootFault_may h (Sub.rfl.inr.trans hm) hb1
      · exact hb1

def sensors_m : Nat := judgeStacks_m ||| judgeWarn_m ||| showTemps_m ||| judgeTrip_m
theorem sensors_may (h : May M I) (hm : Sub sensors_m M) {b0} {b1} (hb1 : I b1) : I (sensors b0 b1) := by
  unfold sensors
  extract_lets -merge -useContext x0
  have hx0 : I x0 := by
    unfold x0
    refine may_ite ?_ ?_
    · refine judgeStacks_may h (Sub.rfl.inl.inl.inl.trans hm) ?_
      · refine judgeWarn_may h (Sub.rfl.inr.inl.inl.trans hm) ?_
        · refine showTemps_may h (Sub.rfl.inr.inl.trans hm) hb1
    · exact hb1
  clear_value x0
  refine judgeTrip_may h (Sub.rfl.inr.trans hm) hx0

def warnHeld_m : Nat := setDiag_m
theorem warnHeld_may (h : May M I) (hm : Sub warnHeld_m M) {b0} (hb0 : I b0) : I (warnHeld b0) := by
  unfold warnHeld
  refine may_ite ?_ ?_
  · refine setDiag_may h (Sub.rfl.trans hm) hb0
  · exact hb0

def feed_m : Nat := mask [MON_FEED_MAX.POWER_MAX_DW, MON_FEED.POWER_DW, MON_FEED.VOLT_DV, MON_EVT.FEED_LOW] ||| setF_m ||| setMon_m ||| raiseAs_m
theorem feed_may (h : May M I) (hm : Sub feed_m M) {b0} {b1} {b2} (hb2 : I b2) : I (feed b0 b1 b2) := by
  have ho := (Sub.rfl.inl.inl.inl.trans hm)
  unfold feed
  extract_lets -merge -useContext x0
  have hx0 : I x0 := by
    unfold x0
    refine setF_may h (Sub.rfl.inr.inl.inl.trans hm) (ho.ok (by decide +kernel)) ?_
    · refine setF_may h (Sub.rfl.inr.inl.inl.trans hm) (ho.ok (by decide +kernel)) ?_
      · refine setF_may h (Sub.rfl.inr.inl.inl.trans hm) (ho.ok (by decide +kernel)) hb2
  clear_value x0
  refine may_ite ?_ ?_
  · refine may_ite ?_ ?_
    · refine setMon_may h (Sub.rfl.inr.inl.trans hm) hx0
    · exact hx0
  · refine may_ite ?_ ?_
    · refine raiseAs_may h (Sub.rfl.inr.trans hm) (ho.okAll (by decide +kernel)) ?_
      · refine setMon_may h (Sub.rfl.inr.inl.trans hm) hx0
    · exact hx0

def execDomainReachesOn_m : Nat := onService_m ||| domainOn_m
theorem execDomainReachesOn_may (h : May M I) (hm : Sub execDomainReachesOn_m M) (hr : Run M I) {b0} {b1} {b2} (hb2 : I b2) : Ans I (execDomainReachesOn b0 b1 b2) := by
  refine ⟨_, rfl, ?_⟩
  refine onService_may h (Sub.rfl.inl.trans hm) hr (fun I h a0 ha0 => ?_) hb2
  · refine domainOn_may h (Sub.rfl.inr.trans hm) ha0

def execDomainStartFail_m : Nat := onService_m ||| domainFails_m
theorem execDomainStartFail_may (h : May M I) (hm : Sub execDomainStartFail_m M) (hr : Run M I) {b0} {b1} {b2} (hb2 : I b2) : Ans I (execDomainStartFail b0 b1 b2) := by
  refine ⟨_, rfl, ?_⟩
  refine onService_may h (Sub.rfl.inl.trans hm) hr (fun I h a0 ha0 => ?_) hb2
  · refine domainFails_may h (Sub.rfl.inr.trans hm) ha0

def execSensorUpdate_m : Nat := sensors_m ||| advance_m
theorem execSensorUpdate_may (h : May M I) (hm : Sub execSensorUpdate_m M) {b0} {b1} {b2} (hb2 : I b2) : Ans I (execSensorUpdate b0 b1 b2) := by
  refine ⟨_, rfl, ?_⟩
  refine may_ite ?_ ?_
  · refine sensors_may h (Sub.rfl.inl.trans hm) ?_
    · refine advance_may h (Sub.rfl.inr.trans hm) hb2
  · exact hb2

def execThermalWarningHeld_m : Nat := onService_m ||| warnHeld_m
theorem execThermalWarningHeld_may (h : May M I) (hm : Sub execThermalWarningHeld_m M) (hr : Run M I) {b0} {b1} (hb1 : I b1) : Ans I (execThermalWarningHeld b0 b1) := by
  refine ⟨_, rfl, ?_⟩
  refine onService_may h (Sub.rfl.inl.trans hm) hr (fun I h a0 ha0 => ?_) hb1
  · refine warnHeld_may h (Sub.rfl.inr.trans hm) ha0

def execFeedMeasure_m : Nat := onService_m ||| feed_m
theorem execFeedMeasure_may (h : May M I) (hm : Sub execFeedMeasure_m M) (hr : Run M I) {b0} {b1} {b2} {b3} (hb3 : I b3) : Ans I (execFeedMeasure b0 b1 b2 b3) := by
  refine ⟨_, rfl, ?_⟩
  refine onService_may h (Sub.rfl.inl.trans hm) hr (fun I h a0 ha0 => ?_) hb3
  · refine feed_may h (Sub.rfl.inr.trans hm) ha0

def execMonClrMax_m : Nat := mask monMaxima ||| whenHost_m ||| clearFlds_m
theorem execMonClrMax_may (h : May M I) (hm : Sub execMonClrMax_m M) {b0} (hb0 : I b0) : Ans I (execMonClrMax b0) := by
  refine ⟨_, rfl, ?_⟩
  refine whenHost_may h (Sub.rfl.inr.inl.trans hm) (fun a0 ha0 => ?_) hb0
  · refine clearFlds_may h (Sub.rfl.inr.trans hm) ((Sub.rfl.inl.inl.trans hm).okAll (by decide +kernel)) ha0

def execMonClrCnt_m : Nat := mask monCounters ||| whenHost_m ||| clearFlds_m
theorem execMonClrCnt_may (h : May M I) (hm : Sub execMonClrCnt_m M) {b0} (hb0 : I b0) : Ans I (execMonClrCnt b0) := by
  refine ⟨_, rfl, ?_⟩
  refine whenHost_may h (Sub.rfl.inr.inl.trans hm) (fun a0 ha0 => ?_) hb0
  · refine clearFlds_may h (Sub.rfl.inr.trans hm) ((Sub.rfl.inl.inl.trans hm).okAll (by decide +kernel)) ha0

def writeField_m : Nat := setF_m
theorem writeField_may (h : May M I) (_ : Sub writeField_m M) {b0 : Fld} (hb0 : Ok M b0) {b1} {b2} {b3} {b4} (hb4 : I b4)
    (hacc : b0.acc ≠ .wo := by decide) : I (writeField b0 b1 b2 b3 b4) := by
  unfold writeField
  dsimp only
  split
  · exact may_ite (h.fld hb0 hb4) (may_ite hb4 (h.fld hb0 hb4))
  · exact h.fld hb0 hb4
  · exact h.fld hb0 hb4
  · contradiction
  · exact hb4
  · exact hb4

/-- The fields a register write reaches: those software may write, and those a clear clears. -/
def writable : List Fld :=
  allFields.filter (fun f => f.acc == .rw || f.acc == .w1c || f.acc == .w1s) ++ clearTable.flatMap Prod.snd

theorem writeField_plain (h : May M I) (hm : Sub (mask writable) M) {b0 : Fld} (hb0 : b0 ∈ allFields) {b1} {b2} {b3} {b4} (hb4 : I b4) :
    I (writeField b0 b1 b2 b3 b4) := by
  have hall : OkAll M writable := hm.okAll (by decide +kernel)
  have hw : (b0.acc == .rw || b0.acc == .w1c || b0.acc == .w1s) = true → Ok M b0 := fun ha =>
    hall b0 (List.mem_append_left _ (List.mem_filter.mpr ⟨hb0, ha⟩))
  unfold writeField
  dsimp only
  split
  · rename_i ha
    have hb : Ok M b0 := hw (by rw [ha]; rfl)
    exact may_ite (h.fld hb hb4) (may_ite hb4 (h.fld hb hb4))
  · rename_i ha
    exact h.fld (hw (by rw [ha]; rfl)) hb4
  · rename_i ha
    exact h.fld (hw (by rw [ha]; rfl)) hb4
  · split
    · rename_i p hp
      refine may_ite (foldl_mem_may (fun f hf s hs => h.clear (hall f ?_) hs) hb4) hb4
      exact List.mem_append_right _ (List.mem_flatMap.mpr ⟨p, List.mem_of_find?_eq_some hp, hf⟩)
    · exact hb4
  · exact hb4
  · exact hb4

def plainWrite_m : Nat := mask writable
theorem plainWrite_may (h : May M I) (hm : Sub plainWrite_m M) {b0} {b1} {b2} (hb2 : I b2) : I (plainWrite b0 b1 b2) := by
  refine foldl_mem_may (fun p hp s hs => writeField_plain h hm ?_ hs) hb2
  obtain ⟨f, hf, he⟩ := List.mem_filterMap.mp hp
  cases hi : instAt f b0 b2 with
  | none => rw [hi] at he; simp at he
  | some q => rw [hi] at he; simp at he; rw [← he]; exact hf

def writeSys_m : Nat := mask [SYS_IMG_BOOT.PREFER] ||| softReset_m ||| storePref_m ||| setF_m ||| rbCommit_m ||| plainWrite_m
theorem writeSys_may (h : May M I) (hm : Sub writeSys_m M) {b0} {b1} {b2} {b3} (hb3 : I b3) : I (writeSys b0 b1 b2 b3) := by
  have ho := (Sub.rfl.inl.inl.inl.inl.inl.trans hm)
  unfold writeSys
  refine may_ite ?_ ?_
  · refine may_ite ?_ ?_
    · refine softReset_may h (Sub.rfl.inr.inl.inl.inl.inl.trans hm) hb3
    · exact hb3
  · refine may_ite ?_ ?_
    · refine storePref_may h (Sub.rfl.inr.inl.inl.inl.trans hm) (fun a0 ha0 => ?_) hb3
      · refine setF_may h (Sub.rfl.inr.inl.inl.trans hm) (ho.ok (by decide +kernel)) ha0
    · refine may_ite ?_ ?_
      · refine may_ite ?_ ?_
        · refine rbCommit_may h (Sub.rfl.inr.inl.trans hm) hb3
        · exact hb3
      · refine plainWrite_may h (Sub.rfl.inr.trans hm) hb3

def writePwr_m : Nat := plainWrite_m ||| sleepOrder_m
theorem writePwr_may (h : May M I) (hm : Sub writePwr_m M) {b0} {b1} {b2} (hb2 : I b2) : I (writePwr b0 b1 b2) := by
  unfold writePwr
  extract_lets -merge -useContext x0
  have hx0 : I x0 := by
    unfold x0
    refine plainWrite_may h (Sub.rfl.inl.trans hm) hb2
  clear_value x0
  refine may_ite ?_ ?_
  · refine may_ite ?_ ?_
    · refine sleepOrder_may h (Sub.rfl.inr.trans hm) hx0
    · exact hx0
  · refine plainWrite_may h (Sub.rfl.inl.trans hm) hb2

def writeBase_m : Nat := plainWrite_m
theorem writeBase_may (h : May M I) (hm : Sub writeBase_m M) {b0 : Fld} (hb0 : Ok M b0) {b1} {b2} {b3} (hb3 : I b3) : I (writeBase b0 b1 b2 b3) := by
  unfold writeBase
  split
  · refine plainWrite_may h (Sub.rfl.trans hm) hb3
  · exact hb3

def whenIdle_m : Nat := accessErr_m
theorem whenIdle_may (h : May M I) (hm : Sub whenIdle_m M) {b0} {b1} {b2} (hb2 : ∀ a0, I a0 → I (b2 a0)) {b3} (hb3 : I b3) : I (whenIdle b0 b1 b2 b3) := by
  unfold whenIdle
  refine may_ite ?_ ?_
  · refine hb2 _ hb3
  · refine accessErr_may h (Sub.rfl.trans hm) hb3

def writeNetCfg_m : Nat := plainWrite_m ||| accessErr_m ||| setF_m
theorem writeNetCfg_may (h : May M I) (hm : Sub writeNetCfg_m M) {b0 : Fld} (hb0 : Ok M b0) {b1 : Fld} (hb1 : Ok M b1) {b2} {b3} {b4} {b5} (hb5 : I b5) : I (writeNetCfg b0 b1 b2 b3 b4 b5) := by
  unfold writeNetCfg
  refine may_ite ?_ ?_
  · refine plainWrite_may h (Sub.rfl.inl.inl.trans hm) hb5
  · refine may_ite ?_ ?_
    · refine accessErr_may h (Sub.rfl.inr.inl.trans hm) hb5
    · refine setF_may h (Sub.rfl.inr.trans hm) hb0 hb5

def writeRing_m : Nat := mask [HIF_SQ_BASE.ADDR, HIF_CQ_BASE.ADDR, HIF_NET_TX_BASE.ADDR, HIF_NET_TX_CFG.EN, HIF_NET_TX_CFG.SIZE_LOG2, HIF_NET_RX_BASE.ADDR, HIF_NET_RX_CFG.EN, HIF_NET_RX_CFG.SIZE_LOG2] ||| whenIdle_m ||| writeBase_m ||| sqConfig_m ||| sqTail_m ||| plainWrite_m ||| cqHead_m ||| writeNetCfg_m ||| netTxTail_m ||| netRxTail_m
theorem writeRing_may (h : May M I) (hm : Sub writeRing_m M) {b0} {b1} {b2} {b3} (hb3 : I b3) : I (writeRing b0 b1 b2 b3) := by
  have ho := (Sub.rfl.inl.inl.inl.inl.inl.inl.inl.inl.inl.trans hm)
  unfold writeRing
  extract_lets -merge -useContext x0 x1
  refine may_ite ?_ ?_
  · split
    · refine whenIdle_may h (Sub.rfl.inr.inl.inl.inl.inl.inl.inl.inl.inl.trans hm) (fun a2 ha2 => ?_) hb3
      · refine writeBase_may h (Sub.rfl.inr.inl.inl.inl.inl.inl.inl.inl.trans hm) (ho.ok (by decide +kernel)) ha2
    · refine whenIdle_may h (Sub.rfl.inr.inl.inl.inl.inl.inl.inl.inl.inl.trans hm) (fun a3 ha3 => ?_) hb3
      · refine writeBase_may h (Sub.rfl.inr.inl.inl.inl.inl.inl.inl.inl.trans hm) (ho.ok (by decide +kernel)) ha3
    · refine sqConfig_may h (Sub.rfl.inr.inl.inl.inl.inl.inl.inl.trans hm) hb3
    · refine sqTail_may h (Sub.rfl.inr.inl.inl.inl.inl.inl.trans hm) hb3
    · refine whenIdle_may h (Sub.rfl.inr.inl.inl.inl.inl.inl.inl.inl.inl.trans hm) (fun a4 ha4 => ?_) hb3
      · refine writeBase_may h (Sub.rfl.inr.inl.inl.inl.inl.inl.inl.inl.trans hm) (ho.ok (by decide +kernel)) ha4
    · refine whenIdle_may h (Sub.rfl.inr.inl.inl.inl.inl.inl.inl.inl.inl.trans hm) (fun a5 ha5 => ?_) hb3
      · refine writeBase_may h (Sub.rfl.inr.inl.inl.inl.inl.inl.inl.inl.trans hm) (ho.ok (by decide +kernel)) ha5
    · refine whenIdle_may h (Sub.rfl.inr.inl.inl.inl.inl.inl.inl.inl.inl.trans hm) (fun a6 ha6 => ?_) hb3
      · refine plainWrite_may h (Sub.rfl.inr.inl.inl.inl.inl.trans hm) ha6
    · refine cqHead_may h (Sub.rfl.inr.inl.inl.inl.trans hm) hb3
    · refine plainWrite_may h (Sub.rfl.inr.inl.inl.inl.inl.trans hm) hb3
  · split
    · refine whenIdle_may h (Sub.rfl.inr.inl.inl.inl.inl.inl.inl.inl.inl.trans hm) (fun a7 ha7 => ?_) hb3
      · refine writeBase_may h (Sub.rfl.inr.inl.inl.inl.inl.inl.inl.inl.trans hm) (ho.ok (by decide +kernel)) ha7
    · refine whenIdle_may h (Sub.rfl.inr.inl.inl.inl.inl.inl.inl.inl.inl.trans hm) (fun a8 ha8 => ?_) hb3
      · refine writeBase_may h (Sub.rfl.inr.inl.inl.inl.inl.inl.inl.inl.trans hm) (ho.ok (by decide +kernel)) ha8
    · refine writeNetCfg_may h (Sub.rfl.inr.inl.inl.trans hm) (ho.ok (by decide +kernel)) (ho.ok (by decide +kernel)) hb3
    · refine netTxTail_may h (Sub.rfl.inr.inl.trans hm) hb3
    · refine whenIdle_may h (Sub.rfl.inr.inl.inl.inl.inl.inl.inl.inl.inl.trans hm) (fun a9 ha9 => ?_) hb3
      · refine writeBase_may h (Sub.rfl.inr.inl.inl.inl.inl.inl.inl.inl.trans hm) (ho.ok (by decide +kernel)) ha9
    · refine whenIdle_may h (Sub.rfl.inr.inl.inl.inl.inl.inl.inl.inl.inl.trans hm) (fun a10 ha10 => ?_) hb3
      · refine writeBase_may h (Sub.rfl.inr.inl.inl.inl.inl.inl.inl.inl.trans hm) (ho.ok (by decide +kernel)) ha10
    · refine writeNetCfg_may h (Sub.rfl.inr.inl.inl.trans hm) (ho.ok (by decide +kernel)) (ho.ok (by decide +kernel)) hb3
    · refine netRxTail_may h (Sub.rfl.inr.trans hm) hb3
    · refine plainWrite_may h (Sub.rfl.inr.inl.inl.inl.inl.trans hm) hb3

def writeHif_m : Nat := mask [HIF_EVT_STATUS.UNDERRUN] ||| writeField_m ||| writeRing_m ||| armEvents_m ||| plainWrite_m
theorem writeHif_may (h : May M I) (hm : Sub writeHif_m M) {b0} {b1} {b2} {b3} (hb3 : I b3) : I (writeHif b0 b1 b2 b3) := by
  have ho := (Sub.rfl.inl.inl.inl.inl.trans hm)
  unfold writeHif
  extract_lets -merge -useContext x0
  have hx0 : I x0 := by
    unfold x0
    refine writeField_may h (Sub.rfl.inr.inl.inl.inl.trans hm) (ho.ok (by decide +kernel)) hb3
  clear_value x0
  refine may_ite ?_ ?_
  · refine writeRing_may h (Sub.rfl.inr.inl.inl.trans hm) hb3
  · refine may_ite ?_ ?_
    · refine may_ite ?_ ?_
      · refine armEvents_may h (Sub.rfl.inr.inl.trans hm) hx0
      · exact hx0
    · refine plainWrite_may h (Sub.rfl.inr.trans hm) hb3

def writeLni_m : Nat := when__m ||| retrain_m ||| orderIn_m ||| lniClear_m ||| plainWrite_m
theorem writeLni_may (h : May M I) (hm : Sub writeLni_m M) {b0} {b1} {b2} (hb2 : I b2) : I (writeLni b0 b1 b2) := by
  unfold writeLni
  extract_lets -merge -useContext x0
  refine may_ite ?_ ?_
  · refine may_ite ?_ ?_
    · exact hb2
    · refine may_ite ?_ ?_
      · refine when__may h (Sub.rfl.inl.inl.inl.inl.trans hm) (fun a1 ha1 => ?_) ?_
        · refine retrain_may h (Sub.rfl.inr.inl.inl.inl.trans hm) ha1
        · refine orderIn_may h (Sub.rfl.inr.inl.inl.trans hm) ?_
          · refine when__may h (Sub.rfl.inl.inl.inl.inl.trans hm) (fun a2 ha2 => ?_) ?_
            · refine lniClear_may h (Sub.rfl.inr.inl.trans hm) ha2
            · refine plainWrite_may h (Sub.rfl.inr.trans hm) hb2
      · refine plainWrite_may h (Sub.rfl.inr.trans hm) hb2
  · refine plainWrite_may h (Sub.rfl.inr.trans hm) hb2

def writeLno_m : Nat := mask [LNO_PAY_CFG.TEST_REFUSED, LNO_PAY_CFG.SCR_DIS] ||| when__m ||| retrain_m ||| orderOut_m ||| lnoClear_m ||| orderTest_m ||| writeField_m ||| setF_m ||| plainWrite_m
theorem writeLno_may (h : May M I) (hm : Sub writeLno_m M) {b0} {b1} {b2} (hb2 : I b2) : I (writeLno b0 b1 b2) := by
  have ho := (Sub.rfl.inl.inl.inl.inl.inl.inl.inl.inl.trans hm)
  unfold writeLno
  extract_lets -merge -useContext x0
  refine may_ite ?_ ?_
  · refine may_ite ?_ ?_
    · exact hb2
    · refine may_ite ?_ ?_
      · refine when__may h (Sub.rfl.inr.inl.inl.inl.inl.inl.inl.inl.trans hm) (fun a1 ha1 => ?_) ?_
        · refine retrain_may h (Sub.rfl.inr.inl.inl.inl.inl.inl.inl.trans hm) ha1
        · refine orderOut_may h (Sub.rfl.inr.inl.inl.inl.inl.inl.trans hm) ?_
          · refine when__may h (Sub.rfl.inr.inl.inl.inl.inl.inl.inl.inl.trans hm) (fun a2 ha2 => ?_) hb2
            · refine lnoClear_may h (Sub.rfl.inr.inl.inl.inl.inl.trans hm) ha2
      · refine may_ite ?_ ?_
        · refine orderTest_may h (Sub.rfl.inr.inl.inl.inl.trans hm) ?_
          · refine writeField_may h (Sub.rfl.inr.inl.inl.trans hm) (ho.ok (by decide +kernel)) ?_
            · refine setF_may h (Sub.rfl.inr.inl.trans hm) (ho.ok (by decide +kernel)) hb2
        · refine plainWrite_may h (Sub.rfl.inr.trans hm) hb2
  · refine plainWrite_may h (Sub.rfl.inr.trans hm) hb2

def writeRee_m : Nat := when__m ||| pkClear_m ||| meterWrite_m ||| ldRestart_m ||| ldClear_m ||| plainWrite_m
theorem writeRee_may (h : May M I) (hm : Sub writeRee_m M) {b0} {b1} {b2} (hb2 : I b2) : I (writeRee b0 b1 b2) := by
  unfold writeRee
  split
  · refine when__may h (Sub.rfl.inl.inl.inl.inl.inl.trans hm) (fun a0 ha0 => ?_) ?_
    · refine pkClear_may h (Sub.rfl.inr.inl.inl.inl.inl.trans hm) ha0
    · refine meterWrite_may h (Sub.rfl.inr.inl.inl.inl.trans hm) hb2
  · refine when__may h (Sub.rfl.inl.inl.inl.inl.inl.trans hm) (fun a1 ha1 => ?_) ?_
    · refine ldRestart_may h (Sub.rfl.inr.inl.inl.trans hm) ha1
    · refine when__may h (Sub.rfl.inl.inl.inl.inl.inl.trans hm) (fun a2 ha2 => ?_) ?_
      · refine ldClear_may h (Sub.rfl.inr.inl.trans hm) ha2
      · refine meterWrite_may h (Sub.rfl.inr.inl.inl.inl.trans hm) ?_
        · refine plainWrite_may h (Sub.rfl.inr.trans hm) hb2
  · refine may_ite ?_ ?_
    · refine meterWrite_may h (Sub.rfl.inr.inl.inl.inl.trans hm) hb2
    · refine plainWrite_may h (Sub.rfl.inr.trans hm) hb2
  · refine plainWrite_may h (Sub.rfl.inr.trans hm) hb2

def writeEth_m : Nat := when__m ||| flushCtlTx_m ||| flushCtlRx_m ||| flushMediaRx_m ||| plainWrite_m
theorem writeEth_may (h : May M I) (hm : Sub writeEth_m M) {b0} {b1} {b2} (hb2 : I b2) : I (writeEth b0 b1 b2) := by
  unfold writeEth
  split
  · refine when__may h (Sub.rfl.inl.inl.inl.inl.trans hm) (fun a0 ha0 => ?_) ?_
    · refine flushCtlTx_may h (Sub.rfl.inr.inl.inl.inl.trans hm) ha0
    · refine when__may h (Sub.rfl.inl.inl.inl.inl.trans hm) (fun a1 ha1 => ?_) ?_
      · refine flushCtlRx_may h (Sub.rfl.inr.inl.inl.trans hm) ha1
      · refine when__may h (Sub.rfl.inl.inl.inl.inl.trans hm) (fun a2 ha2 => ?_) hb2
        · refine flushMediaRx_may h (Sub.rfl.inr.inl.trans hm) ha2
  · refine plainWrite_may h (Sub.rfl.inr.trans hm) hb2

def writePip_m : Nat := mask [PIP_CTL.FORCE_HOLD] ||| refPrio_m ||| when__m ||| orderRealign_m ||| plainWrite_m ||| pulseWrite_m ||| forceEn_m ||| setF_m
theorem writePip_may (h : May M I) (hm : Sub writePip_m M) {b0} {b1} {b2} (hb2 : I b2) : I (writePip b0 b1 b2) := by
  have ho := (Sub.rfl.inl.inl.inl.inl.inl.inl.inl.trans hm)
  unfold writePip
  split
  · refine refPrio_may h (Sub.rfl.inr.inl.inl.inl.inl.inl.inl.trans hm) hb2
  · refine when__may h (Sub.rfl.inr.inl.inl.inl.inl.inl.trans hm) (fun a0 ha0 => ?_) ?_
    · refine orderRealign_may h (Sub.rfl.inr.inl.inl.inl.inl.trans hm) ha0
    · refine plainWrite_may h (Sub.rfl.inr.inl.inl.inl.trans hm) hb2
  · refine pulseWrite_may h (Sub.rfl.inr.inl.inl.trans hm) hb2
  · refine pulseWrite_may h (Sub.rfl.inr.inl.inl.trans hm) hb2
  · refine may_ite ?_ ?_
    · refine forceEn_may h (Sub.rfl.inr.inl.trans hm) ?_
      · refine setF_may h (Sub.rfl.inr.trans hm) (ho.ok (by decide +kernel)) hb2
    · refine plainWrite_may h (Sub.rfl.inr.inl.inl.inl.trans hm) hb2

def writeTim_m : Nat := ptpCfg_m ||| timApply_m ||| plainWrite_m
theorem writeTim_may (h : May M I) (hm : Sub writeTim_m M) {b0} {b1} {b2} (hb2 : I b2) : I (writeTim b0 b1 b2) := by
  unfold writeTim
  split
  · refine ptpCfg_may h (Sub.rfl.inl.inl.trans hm) hb2
  · refine may_ite ?_ ?_
    · refine may_ite ?_ ?_
      · refine timApply_may h (Sub.rfl.inr.inl.trans hm) hb2
      · exact hb2
    · refine plainWrite_may h (Sub.rfl.inr.trans hm) hb2

def writeTwn_m : Nat := when__m ||| resyncOrder_m ||| takeOrder_m ||| yieldOrder_m ||| plainWrite_m
theorem writeTwn_may (h : May M I) (hm : Sub writeTwn_m M) {b0} {b1} {b2} (hb2 : I b2) : I (writeTwn b0 b1 b2) := by
  unfold writeTwn
  refine may_ite ?_ ?_
  · refine when__may h (Sub.rfl.inl.inl.inl.inl.trans hm) (fun a0 ha0 => ?_) ?_
    · refine resyncOrder_may h (Sub.rfl.inr.inl.inl.inl.trans hm) ha0
    · refine when__may h (Sub.rfl.inl.inl.inl.inl.trans hm) (fun a1 ha1 => ?_) ?_
      · refine takeOrder_may h (Sub.rfl.inr.inl.inl.trans hm) ha1
      · refine when__may h (Sub.rfl.inl.inl.inl.inl.trans hm) (fun a2 ha2 => ?_) ?_
        · refine yieldOrder_may h (Sub.rfl.inr.inl.trans hm) ha2
        · refine plainWrite_may h (Sub.rfl.inr.trans hm) hb2
  · refine plainWrite_may h (Sub.rfl.inr.trans hm) hb2

def writePst_m : Nat := labelCommit_m ||| plainWrite_m
theorem writePst_may (h : May M I) (hm : Sub writePst_m M) {b0} {b1} {b2} (hb2 : I b2) : I (writePst b0 b1 b2) := by
  unfold writePst
  refine may_ite ?_ ?_
  · refine may_ite ?_ ?_
    · refine labelCommit_may h (Sub.rfl.inl.trans hm) hb2
    · refine plainWrite_may h (Sub.rfl.inr.trans hm) hb2
  · refine may_ite ?_ ?_
    · exact hb2
    · refine plainWrite_may h (Sub.rfl.inr.trans hm) hb2

def writeChal_m : Nat := mask [SEC_CHAL_CTL.LEVEL, SEC_CHAL_DATA.WORD] ||| when__m ||| chalAnswer_m ||| chalGet_m ||| setF_m
theorem writeChal_may (h : May M I) (hm : Sub writeChal_m M) {b0} {b1} {b2} (hb2 : I b2) : I (writeChal b0 b1 b2) := by
  have ho := (Sub.rfl.inl.inl.inl.inl.trans hm)
  unfold writeChal
  refine may_ite ?_ ?_
  · refine when__may h (Sub.rfl.inr.inl.inl.inl.trans hm) (fun a0 ha0 => ?_) ?_
    · refine chalAnswer_may h (Sub.rfl.inr.inl.inl.trans hm) ha0
    · refine when__may h (Sub.rfl.inr.inl.inl.inl.trans hm) (fun a1 ha1 => ?_) ?_
      · refine chalGet_may h (Sub.rfl.inr.inl.trans hm) ha1
      · refine setF_may h (Sub.rfl.inr.trans hm) (ho.ok (by decide +kernel)) hb2
  · split
    · refine setF_may h (Sub.rfl.inr.trans hm) (ho.ok (by decide +kernel)) hb2
    · exact hb2

def writeSec_m : Nat := request_m ||| writeChal_m ||| plainWrite_m
theorem writeSec_may (h : May M I) (hm : Sub writeSec_m M) {b0} {b1} {b2} {b3} (hb3 : I b3) : I (writeSec b0 b1 b2 b3) := by
  unfold writeSec
  refine may_ite ?_ ?_
  · refine may_ite ?_ ?_
    · refine request_may h (Sub.rfl.inl.inl.trans hm) hb3
    · exact hb3
  · refine may_ite ?_ ?_
    · refine writeChal_may h (Sub.rfl.inr.inl.trans hm) hb3
    · refine plainWrite_may h (Sub.rfl.inr.trans hm) hb3

def writeDbg_m : Nat := relock_m ||| orderReset_m ||| engCtl_m ||| unitRefusal_m ||| when__m ||| memGo_m ||| memCtl_m ||| plainWrite_m
theorem writeDbg_may (h : May M I) (hm : Sub writeDbg_m M) {b0} {b1} {b2} {b3} (hb3 : I b3) : I (writeDbg b0 b1 b2 b3) := by
  unfold writeDbg
  extract_lets -merge -useContext x0 x1
  have hx1 : I x1 := by
    unfold x1
    refine may_ite ?_ ?_
    · refine relock_may h (Sub.rfl.inl.inl.inl.inl.inl.inl.inl.trans hm) hb3
    · exact hb3
  clear_value x1
  refine may_ite ?_ ?_
  · refine may_ite ?_ ?_
    · refine orderReset_may h (Sub.rfl.inr.inl.inl.inl.inl.inl.inl.trans hm) hx1
    · exact hx1
  · refine may_ite ?_ ?_
    · exact hb3
    · refine may_ite ?_ ?_
      · refine engCtl_may h (Sub.rfl.inr.inl.inl.inl.inl.inl.trans hm) hb3
      · refine may_ite ?_ ?_
        · refine unitRefusal_may h (Sub.rfl.inr.inl.inl.inl.inl.trans hm) hb3
        · refine may_ite ?_ ?_
          · refine unitRefusal_may h (Sub.rfl.inr.inl.inl.inl.inl.trans hm) hb3
          · refine may_ite ?_ ?_
            · refine when__may h (Sub.rfl.inr.inl.inl.inl.trans hm) (fun a2 ha2 => ?_) ?_
              · refine memGo_may h (Sub.rfl.inr.inl.inl.trans hm) ha2
              · refine memCtl_may h (Sub.rfl.inr.inl.trans hm) hb3
            · refine plainWrite_may h (Sub.rfl.inr.trans hm) hb3

def writeMon_m : Nat := when__m ||| snapArm_m ||| snapHold_m ||| plainWrite_m
theorem writeMon_may (h : May M I) (hm : Sub writeMon_m M) {b0} {b1} {b2} (hb2 : I b2) : I (writeMon b0 b1 b2) := by
  unfold writeMon
  refine may_ite ?_ ?_
  · refine when__may h (Sub.rfl.inl.inl.inl.trans hm) (fun a0 ha0 => ?_) ?_
    · refine snapArm_may h (Sub.rfl.inr.inl.inl.trans hm) ha0
    · refine snapHold_may h (Sub.rfl.inr.inl.trans hm) hb2
  · refine plainWrite_may h (Sub.rfl.inr.trans hm) hb2

def regWrite_m : Nat := writeSys_m ||| writePwr_m ||| writeHif_m ||| writeLni_m ||| writeLno_m ||| writeRee_m ||| writeEth_m ||| writePip_m ||| writeTim_m ||| writeTwn_m ||| writePst_m ||| writeSec_m ||| writeDbg_m ||| writeMon_m ||| plainWrite_m
theorem regWrite_may (h : May M I) (hm : Sub regWrite_m M) {b0} {b1} {b2} {b3} (hb3 : I b3) : I (regWrite b0 b1 b2 b3) := by
  unfold regWrite
  refine may_ite ?_ ?_
  · refine writeSys_may h (Sub.rfl.inl.inl.inl.inl.inl.inl.inl.inl.inl.inl.inl.inl.inl.inl.trans hm) hb3
  · refine may_ite ?_ ?_
    · refine writePwr_may h (Sub.rfl.inr.inl.inl.inl.inl.inl.inl.inl.inl.inl.inl.inl.inl.inl.trans hm) hb3
    · refine may_ite ?_ ?_
      · refine writeHif_may h (Sub.rfl.inr.inl.inl.inl.inl.inl.inl.inl.inl.inl.inl.inl.inl.trans hm) hb3
      · refine may_ite ?_ ?_
        · refine writeLni_may h (Sub.rfl.inr.inl.inl.inl.inl.inl.inl.inl.inl.inl.inl.inl.trans hm) hb3
        · refine may_ite ?_ ?_
          · refine writeLno_may h (Sub.rfl.inr.inl.inl.inl.inl.inl.inl.inl.inl.inl.inl.trans hm) hb3
          · refine may_ite ?_ ?_
            · refine writeRee_may h (Sub.rfl.inr.inl.inl.inl.inl.inl.inl.inl.inl.inl.trans hm) hb3
            · refine may_ite ?_ ?_
              · refine writeEth_may h (Sub.rfl.inr.inl.inl.inl.inl.inl.inl.inl.inl.trans hm) hb3
              · refine may_ite ?_ ?_
                · refine writePip_may h (Sub.rfl.inr.inl.inl.inl.inl.inl.inl.inl.trans hm) hb3
                · refine may_ite ?_ ?_
                  · refine writeTim_may h (Sub.rfl.inr.inl.inl.inl.inl.inl.inl.trans hm) hb3
                  · refine may_ite ?_ ?_
                    · refine writeTwn_may h (Sub.rfl.inr.inl.inl.inl.inl.inl.trans hm) hb3
                    · refine may_ite ?_ ?_
                      · refine writePst_may h (Sub.rfl.inr.inl.inl.inl.inl.trans hm) hb3
                      · refine may_ite ?_ ?_
                        · refine writeSec_may h (Sub.rfl.inr.inl.inl.inl.trans hm) hb3
                        · refine may_ite ?_ ?_
                          · refine writeDbg_may h (Sub.rfl.inr.inl.inl.trans hm) hb3
                          · refine may_ite ?_ ?_
                            · refine writeMon_may h (Sub.rfl.inr.inl.trans hm) hb3
                            · refine plainWrite_may h (Sub.rfl.inr.trans hm) hb3

def hostWrite_m : Nat := accessErr_m ||| regWrite_m
theorem hostWrite_may (h : May M I) (hm : Sub hostWrite_m M) {b0} {b1} {b2} {b3} (hb3 : I b3) : I (hostWrite b0 b1 b2 b3) := by
  unfold hostWrite
  extract_lets -merge -useContext x0
  refine may_ite ?_ ?_
  · refine accessErr_may h (Sub.rfl.inl.trans hm) hb3
  · refine regWrite_may h (Sub.rfl.inr.trans hm) hb3

def memReadBytes_m : Nat := regRead_m ||| drawn_m
theorem memReadBytes_may (h : May M I) (hm : Sub memReadBytes_m M) {b0} {b1} {b2} {b3} (hb3 : I b3) : I (memReadBytes b0 b1 b2 b3).2 := by
  unfold memReadBytes
  refine may_ite2 ?_ ?_
  · exact hb3
  · refine may_ite2 ?_ ?_
    · have key : ∀ (l : List Nat) (p : List Byte × State), I p.2 →
          I ((l.foldl (fun p o => let q := regRead o p.2; (p.1 ++ leBytes 4 q.1, q.2)) p)).2 := by
        intro l
        induction l with
        | nil => exact fun p hp => hp
        | cons o l ih => exact fun p hp => ih _ (regRead_may h (Sub.rfl.inl.trans hm) hp)
      exact key _ _ hb3
    · refine may_ite2 ?_ ?_
      · refine drawn_may h (Sub.rfl.inr.trans hm) hb3
      · refine drawn_may h (Sub.rfl.inr.trans hm) hb3

def memWriteBytes_m : Nat := forEach_m ||| regWrite_m ||| memWrite_m
theorem memWriteBytes_may (h : May M I) (hm : Sub memWriteBytes_m M) {b0} {b1} {b2} {b3} (hb3 : I b3) : I (memWriteBytes b0 b1 b2 b3) := by
  unfold memWriteBytes
  refine may_ite ?_ ?_
  · refine forEach_may h (Sub.rfl.inl.inl.trans hm) (fun a0 a1 ha1 => ?_) hb3
    · refine regWrite_may h (Sub.rfl.inr.inl.trans hm) ha1
  · refine memWrite_may h (Sub.rfl.inr.trans hm) hb3

def setMemData_m : Nat := mask [DBG_MEM_DATA.WORD] ||| forEach_m ||| setF_m
theorem setMemData_may (h : May M I) (hm : Sub setMemData_m M) {b0} {b1} (hb1 : I b1) : I (setMemData b0 b1) := by
  have ho := (Sub.rfl.inl.inl.trans hm)
  unfold setMemData
  refine forEach_may h (Sub.rfl.inr.inl.trans hm) (fun a0 a1 ha1 => ?_) hb1
  · refine setF_may h (Sub.rfl.inr.trans hm) (ho.ok (by decide +kernel)) ha1

def memEnd_m : Nat := mask [DBG_MEM_CTL.RESP, DBG_MEM_CTL.DONE, DBG_MEM_CTL.BUSY] ||| setB_m ||| setF_m ||| setDbg_m
theorem memEnd_may (h : May M I) (hm : Sub memEnd_m M) {b0} {b1} (hb1 : I b1) : I (memEnd b0 b1) := by
  have ho := (Sub.rfl.inl.inl.inl.trans hm)
  unfold memEnd
  refine setB_may h (Sub.rfl.inr.inl.inl.trans hm) (ho.ok (by decide +kernel)) ?_
  · refine setF_may h (Sub.rfl.inr.inl.trans hm) (ho.ok (by decide +kernel)) ?_
    · refine setF_may h (Sub.rfl.inr.inl.trans hm) (ho.ok (by decide +kernel)) ?_
      · refine setDbg_may h (Sub.rfl.inr.trans hm) hb1

def memRun_m : Nat := memEnd_m ||| when__m ||| setMemData_m ||| fabLog_m ||| memWriteBytes_m ||| memReadBytes_m
theorem memRun_may (h : May M I) (hm : Sub memRun_m M) {b0} {b1} (hb1 : I b1) : I (memRun b0 b1) := by
  unfold memRun
  extract_lets -merge -useContext x0
  split
  · extract_lets -merge -useContext x1
    have hx1 : ∀ a0 a1, I a1 → I (x1 a0 a1) := by
      intro a2 a3 ha3
      unfold x1
      refine memEnd_may h (Sub.rfl.inl.inl.inl.inl.inl.trans hm) ?_
      · refine when__may h (Sub.rfl.inr.inl.inl.inl.inl.trans hm) (fun a4 ha4 => ?_) ?_
        · refine setMemData_may h (Sub.rfl.inr.inl.inl.inl.trans hm) ha4
        · refine fabLog_may h (Sub.rfl.inr.inl.inl.trans hm) ha3
    clear_value x1
    refine may_ite ?_ ?_
    · refine hx1 _ _ hb1
    · refine may_ite ?_ ?_
      · refine hx1 _ _ hb1
      · refine may_ite ?_ ?_
        · refine memEnd_may h (Sub.rfl.inl.inl.inl.inl.inl.trans hm) ?_
          · refine memWriteBytes_may h (Sub.rfl.inr.inl.trans hm) hb1
        · split
          · rename_i p5 p6 heq7
            have hp6 : I p6 := by
              refine Eq.subst (motive := I) (congrArg Prod.snd heq7) ?_
              refine memReadBytes_may h (Sub.rfl.inr.trans hm) hb1
            extract_lets -merge -useContext x8
            refine memEnd_may h (Sub.rfl.inl.inl.inl.inl.inl.trans hm) ?_
            · refine when__may h (Sub.rfl.inr.inl.inl.inl.inl.trans hm) (fun a9 ha9 => ?_) ?_
              · refine fabLog_may h (Sub.rfl.inr.inl.inl.trans hm) ha9
              · refine setMemData_may h (Sub.rfl.inr.inl.inl.inl.trans hm) hp6

def memDone_m : Nat := memRun_m
theorem memDone_may (h : May M I) (hm : Sub memDone_m M) {b0} (hb0 : I b0) : I (memDone b0) := by
  unfold memDone
  split
  · refine memRun_may h (Sub.rfl.trans hm) hb0
  · exact hb0

def whenTap_m : Nat := 0
theorem whenTap_may (h : May M I) (hm : Sub whenTap_m M) {b0} (hb0 : ∀ a0, I a0 → I (b0 a0)) {b1} (hb1 : I b1) : I (whenTap b0 b1) := by
  unfold whenTap
  refine may_ite ?_ ?_
  · refine hb0 _ hb1
  · exact hb1

def loadIr_m : Nat := setDbg_m
theorem loadIr_may (h : May M I) (hm : Sub loadIr_m M) {b0} {b1} (hb1 : I b1) : I (loadIr b0 b1) := by
  unfold loadIr
  refine setDbg_may h (Sub.rfl.trans hm) hb1

def tapTest_m : Nat := mask [DBG_EVT.TAP_REFUSED] ||| setDbg_m ||| raiseAs_m ||| loadIr_m
theorem tapTest_may (h : May M I) (hm : Sub tapTest_m M) {b0} {b1} (hb1 : I b1) : I (tapTest b0 b1) := by
  have ho := (Sub.rfl.inl.inl.inl.trans hm)
  unfold tapTest
  refine may_ite ?_ ?_
  · refine setDbg_may h (Sub.rfl.inr.inl.inl.trans hm) hb1
  · refine raiseAs_may h (Sub.rfl.inr.inl.trans hm) (ho.okAll (by decide +kernel)) ?_
    · refine loadIr_may h (Sub.rfl.inr.trans hm) hb1

def shiftScan_m : Nat := setDbg_m ||| drawn_m ||| emit_m
theorem shiftScan_may (h : May M I) (hm : Sub shiftScan_m M) {b0} {b1} (hb1 : I b1) : I (shiftScan b0 b1) := by
  unfold shiftScan
  refine setDbg_may h (Sub.rfl.inl.inl.trans hm) ?_
  · refine drawn_may h (Sub.rfl.inr.inl.trans hm) ?_
    · refine emit_may h (Sub.rfl.inr.trans hm) hb1

def shiftBypass_m : Nat := emit_m
theorem shiftBypass_may (h : May M I) (hm : Sub shiftBypass_m M) {b0} {b1} (hb1 : I b1) : I (shiftBypass b0 b1) := by
  unfold shiftBypass
  refine emit_may h (Sub.rfl.trans hm) hb1

def dbgAccess_m : Nat := regRead_m ||| regWrite_m
theorem dbgAccess_may (h : May M I) (hm : Sub dbgAccess_m M) {b0} {b1} {b2} {b3} (hb3 : I b3) : I (dbgAccess b0 b1 b2 b3).2 := by
  unfold dbgAccess
  extract_lets -merge -useContext x0 x1 x2
  have hx2 : I x2.2 := by
    unfold x2
    refine regRead_may h (Sub.rfl.inl.trans hm) hb3
  clear_value x2
  refine may_ite2 ?_ ?_
  · exact hb3
  · refine may_ite2 ?_ ?_
    · refine may_ite2 ?_ ?_
      · exact hb3
      · refine regWrite_may h (Sub.rfl.inr.trans hm) hb3
    · exact hx2

def dbgChal_m : Nat := regRead_m ||| writeChal_m
theorem dbgChal_may (h : May M I) (hm : Sub dbgChal_m M) {b0} {b1} {b2} {b3} (hb3 : I b3) : I (dbgChal b0 b1 b2 b3).2 := by
  unfold dbgChal
  extract_lets -merge -useContext x0 x1
  have hx1 : I x1.2 := by
    unfold x1
    refine regRead_may h (Sub.rfl.inl.trans hm) hb3
  clear_value x1
  refine may_ite2 ?_ ?_
  · exact hb3
  · refine may_ite2 ?_ ?_
    · refine writeChal_may h (Sub.rfl.inr.trans hm) hb3
    · exact hx1

def tapAccess_m : Nat := emit_m ||| loadIr_m ||| dbgAccess_m ||| setDbg_m
theorem tapAccess_may (h : May M I) (hm : Sub tapAccess_m M) {b0} {b1} {b2} {b3} (hb3 : I b3) : I (tapAccess b0 b1 b2 b3) := by
  unfold tapAccess
  extract_lets -merge -useContext x0 x1
  have hx0 : I x0 := by
    unfold x0
    refine emit_may h (Sub.rfl.inl.inl.inl.trans hm) ?_
    · refine loadIr_may h (Sub.rfl.inr.inl.inl.trans hm) hb3
  clear_value x0
  have hx1 : I x1.2 := by
    unfold x1
    refine dbgAccess_may h (Sub.rfl.inr.inl.trans hm) hx0
  clear_value x1
  refine may_ite ?_ ?_
  · refine setDbg_may h (Sub.rfl.inr.trans hm) ?_
    · exact hx1
  · exact hx0

def tapChal_m : Nat := emit_m ||| loadIr_m ||| dbgChal_m ||| setDbg_m
theorem tapChal_may (h : May M I) (hm : Sub tapChal_m M) {b0} {b1} {b2} {b3} (hb3 : I b3) : I (tapChal b0 b1 b2 b3) := by
  unfold tapChal
  extract_lets -merge -useContext x0 x1
  have hx0 : I x0 := by
    unfold x0
    refine emit_may h (Sub.rfl.inl.inl.inl.trans hm) ?_
    · refine loadIr_may h (Sub.rfl.inr.inl.inl.trans hm) hb3
  clear_value x0
  have hx1 : I x1.2 := by
    unfold x1
    refine dbgChal_may h (Sub.rfl.inr.inl.trans hm) hx0
  clear_value x1
  refine may_ite ?_ ?_
  · refine setDbg_may h (Sub.rfl.inr.trans hm) ?_
    · exact hx1
  · exact hx0

def hostDbg_m : Nat := accessErr_m
theorem hostDbg_may (h : May M I) (hm : Sub hostDbg_m M) {b0} {b1} {b2} (hb2 : ∀ a0, I a0 → I (b2 a0)) {b3} (hb3 : I b3) : I (hostDbg b0 b1 b2 b3) := by
  unfold hostDbg
  refine may_ite ?_ ?_
  · refine accessErr_may h (Sub.rfl.trans hm) hb3
  · refine hb2 _ hb3

def execRegisterWrite_m : Nat := hideRunning_m ||| onSys_m ||| withBad_m ||| hostWrite_m ||| onHost_m
theorem execRegisterWrite_may (h : May M I) (hm : Sub execRegisterWrite_m M) (hr : Run M I) {b0} {b1} {b2} {b3} {b4} (hb4 : I b4) : Ans I (execRegisterWrite b0 b1 b2 b3 b4) := by
  refine ⟨_, rfl, ?_⟩
  refine hideRunning_may h (Sub.rfl.inl.inl.inl.inl.trans hm) hr ?_
  · refine may_ite ?_ ?_
    · refine onSys_may h (Sub.rfl.inr.inl.inl.inl.trans hm) hr (fun I h a0 ha0 => ?_) hb4
      · refine withBad_may h (Sub.rfl.inr.inl.inl.trans hm) (fun a1 ha1 => ?_) ha0
        · refine hostWrite_may h (Sub.rfl.inr.inl.trans hm) ha1
    · refine onHost_may h (Sub.rfl.inr.trans hm) hr (fun I h a2 ha2 => ?_) hb4
      · refine withBad_may h (Sub.rfl.inr.inl.inl.trans hm) (fun a3 ha3 => ?_) ha2
        · refine hostWrite_may h (Sub.rfl.inr.inl.trans hm) ha3

def execExtest_m : Nat := whenTap_m ||| tapTest_m ||| advance_m ||| shiftScan_m ||| shiftBypass_m
theorem execExtest_may (h : May M I) (hm : Sub execExtest_m M) {b0} {b1} {b2} (hb2 : I b2) : Ans I (execExtest b0 b1 b2) := by
  refine ⟨_, rfl, ?_⟩
  refine whenTap_may h (Sub.rfl.inl.inl.inl.inl.trans hm) (fun a0 ha0 => ?_) hb2
  · extract_lets -merge -useContext x1
    have hx1 : I x1 := by
      unfold x1
      refine tapTest_may h (Sub.rfl.inr.inl.inl.inl.trans hm) ?_
      · refine advance_may h (Sub.rfl.inr.inl.inl.trans hm) ha0
    clear_value x1
    refine may_ite ?_ ?_
    · refine shiftScan_may h (Sub.rfl.inr.inl.trans hm) hx1
    · refine shiftBypass_may h (Sub.rfl.inr.trans hm) hx1

def execSamplePreload_m : Nat := whenTap_m ||| shiftScan_m ||| loadIr_m ||| advance_m
theorem execSamplePreload_may (h : May M I) (hm : Sub execSamplePreload_m M) {b0} {b1} {b2} (hb2 : I b2) : Ans I (execSamplePreload b0 b1 b2) := by
  refine ⟨_, rfl, ?_⟩
  refine whenTap_may h (Sub.rfl.inl.inl.inl.trans hm) (fun a0 ha0 => ?_) hb2
  · refine shiftScan_may h (Sub.rfl.inr.inl.inl.trans hm) ?_
    · refine loadIr_may h (Sub.rfl.inr.inl.trans hm) ?_
      · refine advance_may h (Sub.rfl.inr.trans hm) ha0

def execIdcode_m : Nat := whenTap_m ||| emit_m ||| loadIr_m ||| advance_m
theorem execIdcode_may (h : May M I) (hm : Sub execIdcode_m M) {b0} {b1} (hb1 : I b1) : Ans I (execIdcode b0 b1) := by
  refine ⟨_, rfl, ?_⟩
  refine whenTap_may h (Sub.rfl.inl.inl.inl.trans hm) (fun a0 ha0 => ?_) hb1
  · refine emit_may h (Sub.rfl.inr.inl.inl.trans hm) ?_
    · refine loadIr_may h (Sub.rfl.inr.inl.trans hm) ?_
      · refine advance_may h (Sub.rfl.inr.trans hm) ha0

def execHighz_m : Nat := whenTap_m ||| shiftBypass_m ||| tapTest_m ||| advance_m
theorem execHighz_may (h : May M I) (hm : Sub execHighz_m M) {b0} {b1} {b2} (hb2 : I b2) : Ans I (execHighz b0 b1 b2) := by
  refine ⟨_, rfl, ?_⟩
  refine whenTap_may h (Sub.rfl.inl.inl.inl.trans hm) (fun a0 ha0 => ?_) hb2
  · refine shiftBypass_may h (Sub.rfl.inr.inl.inl.trans hm) ?_
    · refine tapTest_may h (Sub.rfl.inr.inl.trans hm) ?_
      · refine advance_may h (Sub.rfl.inr.trans hm) ha0

def execClamp_m : Nat := whenTap_m ||| shiftBypass_m ||| tapTest_m ||| advance_m
theorem execClamp_may (h : May M I) (hm : Sub execClamp_m M) {b0} {b1} {b2} (hb2 : I b2) : Ans I (execClamp b0 b1 b2) := by
  refine ⟨_, rfl, ?_⟩
  refine whenTap_may h (Sub.rfl.inl.inl.inl.trans hm) (fun a0 ha0 => ?_) hb2
  · refine shiftBypass_may h (Sub.rfl.inr.inl.inl.trans hm) ?_
    · refine tapTest_may h (Sub.rfl.inr.inl.trans hm) ?_
      · refine advance_may h (Sub.rfl.inr.trans hm) ha0

def execDbgAccess_m : Nat := hideRunning_m ||| whenTap_m ||| onService_m ||| withBad_m ||| tapAccess_m
theorem execDbgAccess_may (h : May M I) (hm : Sub execDbgAccess_m M) (hr : Run M I) {b0} {b1} {b2} {b3} {b4} {b5} (hb5 : I b5) : Ans I (execDbgAccess b0 b1 b2 b3 b4 b5) := by
  refine ⟨_, rfl, ?_⟩
  refine hideRunning_may h (Sub.rfl.inl.inl.inl.inl.trans hm) hr ?_
  · refine whenTap_may h (Sub.rfl.inr.inl.inl.inl.trans hm) (fun a0 ha0 => ?_) hb5
    · refine onService_may h (Sub.rfl.inr.inl.inl.trans hm) hr (fun I h a1 ha1 => ?_) ha0
      · refine withBad_may h (Sub.rfl.inr.inl.trans hm) (fun a2 ha2 => ?_) ha1
        · refine tapAccess_may h (Sub.rfl.inr.trans hm) ha2

def execDbgChal_m : Nat := whenTap_m ||| onService_m ||| withBad_m ||| tapChal_m
theorem execDbgChal_may (h : May M I) (hm : Sub execDbgChal_m M) (hr : Run M I) {b0} {b1} {b2} {b3} {b4} {b5} (hb5 : I b5) : Ans I (execDbgChal b0 b1 b2 b3 b4 b5) := by
  refine ⟨_, rfl, ?_⟩
  refine whenTap_may h (Sub.rfl.inl.inl.inl.trans hm) (fun a0 ha0 => ?_) hb5
  · refine onService_may h (Sub.rfl.inr.inl.inl.trans hm) hr (fun I h a1 ha1 => ?_) ha0
    · refine withBad_may h (Sub.rfl.inr.inl.trans hm) (fun a2 ha2 => ?_) ha1
      · refine tapChal_may h (Sub.rfl.inr.trans hm) ha2

def execBypass_m : Nat := whenTap_m ||| shiftBypass_m ||| loadIr_m ||| advance_m
theorem execBypass_may (h : May M I) (hm : Sub execBypass_m M) {b0} {b1} {b2} {b3} (hb3 : I b3) : Ans I (execBypass b0 b1 b2 b3) := by
  refine ⟨_, rfl, ?_⟩
  refine whenTap_may h (Sub.rfl.inl.inl.inl.trans hm) (fun a0 ha0 => ?_) hb3
  · refine may_ite ?_ ?_
    · exact ha0
    · refine shiftBypass_may h (Sub.rfl.inr.inl.inl.trans hm) ?_
      · refine loadIr_may h (Sub.rfl.inr.inl.trans hm) ?_
        · refine advance_may h (Sub.rfl.inr.trans hm) ha0

def execTrstN_m : Nat := whenPowered_m ||| loadIr_m ||| advance_m
theorem execTrstN_may (h : May M I) (hm : Sub execTrstN_m M) {b0} {b1} (hb1 : I b1) : Ans I (execTrstN b0 b1) := by
  refine ⟨_, rfl, ?_⟩
  refine whenPowered_may h (Sub.rfl.inl.inl.trans hm) (fun a0 ha0 => ?_) hb1
  · refine loadIr_may h (Sub.rfl.inr.inl.trans hm) ?_
    · refine advance_may h (Sub.rfl.inr.trans hm) ha0

def execDbgRelock_m : Nat := onHost_m ||| relock_m
theorem execDbgRelock_may (h : May M I) (hm : Sub execDbgRelock_m M) (hr : Run M I) {b0} {b1} {b2} (hb2 : I b2) : Ans I (execDbgRelock b0 b1 b2) := by
  refine ⟨_, rfl, ?_⟩
  refine onHost_may h (Sub.rfl.inl.trans hm) hr (fun I h a0 ha0 => ?_) hb2
  · refine relock_may h (Sub.rfl.inr.trans hm) ha0

def execDbgModuleReset_m : Nat := hideRunning_m ||| onHost_m ||| withBad_m ||| hostDbg_m ||| dbgReset_m
theorem execDbgModuleReset_may (h : May M I) (hm : Sub execDbgModuleReset_m M) (hr : Run M I) {b0} {b1} {b2} {b3} {b4} (hb4 : I b4) : Ans I (execDbgModuleReset b0 b1 b2 b3 b4) := by
  refine ⟨_, rfl, ?_⟩
  refine hideRunning_may h (Sub.rfl.inl.inl.inl.inl.trans hm) hr ?_
  · refine onHost_may h (Sub.rfl.inr.inl.inl.inl.trans hm) hr (fun I h a0 ha0 => ?_) hb4
    · refine withBad_may h (Sub.rfl.inr.inl.inl.trans hm) (fun a1 ha1 => ?_) ha0
      · refine hostDbg_may h (Sub.rfl.inr.inl.trans hm) (fun a2 ha2 => ?_) ha1
        · refine dbgReset_may h (Sub.rfl.inr.trans hm) ha2

def execDbgHalt_m : Nat := onHost_m ||| hostDbg_m ||| engCtl_m
theorem execDbgHalt_may (h : May M I) (hm : Sub execDbgHalt_m M) (hr : Run M I) {b0} {b1} (hb1 : I b1) : Ans I (execDbgHalt b0 b1) := by
  refine ⟨_, rfl, ?_⟩
  refine onHost_may h (Sub.rfl.inl.inl.trans hm) hr (fun I h a0 ha0 => ?_) hb1
  · refine hostDbg_may h (Sub.rfl.inr.inl.trans hm) (fun a1 ha1 => ?_) ha0
    · refine engCtl_may h (Sub.rfl.inr.trans hm) ha1

def execDbgResume_m : Nat := onHost_m ||| hostDbg_m ||| engCtl_m
theorem execDbgResume_may (h : May M I) (hm : Sub execDbgResume_m M) (hr : Run M I) {b0} {b1} (hb1 : I b1) : Ans I (execDbgResume b0 b1) := by
  refine ⟨_, rfl, ?_⟩
  refine onHost_may h (Sub.rfl.inl.inl.trans hm) hr (fun I h a0 ha0 => ?_) hb1
  · refine hostDbg_may h (Sub.rfl.inr.inl.trans hm) (fun a1 ha1 => ?_) ha0
    · refine engCtl_may h (Sub.rfl.inr.trans hm) ha1

def execDbgStep_m : Nat := onHost_m ||| hostDbg_m ||| engCtl_m
theorem execDbgStep_may (h : May M I) (hm : Sub execDbgStep_m M) (hr : Run M I) {b0} {b1} (hb1 : I b1) : Ans I (execDbgStep b0 b1) := by
  refine ⟨_, rfl, ?_⟩
  refine onHost_may h (Sub.rfl.inl.inl.trans hm) hr (fun I h a0 ha0 => ?_) hb1
  · refine hostDbg_may h (Sub.rfl.inr.inl.trans hm) (fun a1 ha1 => ?_) ha0
    · refine engCtl_may h (Sub.rfl.inr.trans hm) ha1

def execDbgHaltAtBlock_m : Nat := onHost_m ||| hostDbg_m ||| engCtl_m
theorem execDbgHaltAtBlock_may (h : May M I) (hm : Sub execDbgHaltAtBlock_m M) (hr : Run M I) {b0} {b1} (hb1 : I b1) : Ans I (execDbgHaltAtBlock b0 b1) := by
  refine ⟨_, rfl, ?_⟩
  refine onHost_may h (Sub.rfl.inl.inl.trans hm) hr (fun I h a0 ha0 => ?_) hb1
  · refine hostDbg_may h (Sub.rfl.inr.inl.trans hm) (fun a1 ha1 => ?_) ha0
    · refine engCtl_may h (Sub.rfl.inr.trans hm) ha1

def execBreakpointHit_m : Nat := onService_m ||| breakpoint_m
theorem execBreakpointHit_may (h : May M I) (hm : Sub execBreakpointHit_m M) (hr : Run M I) {b0} {b1} {b2} {b3} (hb3 : I b3) : Ans I (execBreakpointHit b0 b1 b2 b3) := by
  refine ⟨_, rfl, ?_⟩
  refine onService_may h (Sub.rfl.inl.trans hm) hr (fun I h a0 ha0 => ?_) hb3
  · refine breakpoint_may h (Sub.rfl.inr.trans hm) ha0

def execDbgMemGo_m : Nat := onHost_m ||| hostDbg_m ||| memGo_m ||| memCtl_m
theorem execDbgMemGo_may (h : May M I) (hm : Sub execDbgMemGo_m M) (hr : Run M I) {b0} {b1} {b2} (hb2 : I b2) : Ans I (execDbgMemGo b0 b1 b2) := by
  refine ⟨_, rfl, ?_⟩
  refine onHost_may h (Sub.rfl.inl.inl.inl.trans hm) hr (fun I h a0 ha0 => ?_) hb2
  · refine hostDbg_may h (Sub.rfl.inr.inl.inl.trans hm) (fun a1 ha1 => ?_) ha0
    · refine memGo_may h (Sub.rfl.inr.inl.trans hm) ?_
      · refine memCtl_may h (Sub.rfl.inr.trans hm) ha1

def execDbgMemDone_m : Nat := hideRunning_m ||| onService_m ||| withBad_m ||| memDone_m
theorem execDbgMemDone_may (h : May M I) (hm : Sub execDbgMemDone_m M) (hr : Run M I) {b0} {b1} {b2} (hb2 : I b2) : Ans I (execDbgMemDone b0 b1 b2) := by
  refine ⟨_, rfl, ?_⟩
  refine hideRunning_may h (Sub.rfl.inl.inl.inl.trans hm) hr ?_
  · refine onService_may h (Sub.rfl.inr.inl.inl.trans hm) hr (fun I h a0 ha0 => ?_) hb2
    · refine withBad_may h (Sub.rfl.inr.inl.trans hm) (fun a1 ha1 => ?_) ha0
      · refine memDone_may h (Sub.rfl.inr.trans hm) ha1

def execSqDoorbell_m : Nat := onHost_m ||| sqTail_m
theorem execSqDoorbell_may (h : May M I) (hm : Sub execSqDoorbell_m M) (hr : Run M I) {b0} {b1} {b2} {b3} (hb3 : I b3) : Ans I (execSqDoorbell b0 b1 b2 b3) := by
  refine ⟨_, rfl, ?_⟩
  refine onHost_may h (Sub.rfl.inl.trans hm) hr (fun I h a0 ha0 => ?_) hb3
  · refine sqTail_may h (Sub.rfl.inr.trans hm) ha0

def execSqReadError_m : Nat := onHost_m ||| sqReadError_m
theorem execSqReadError_may (h : May M I) (hm : Sub execSqReadError_m M) (hr : Run M I) {b0} {b1} {b2} {b3} (hb3 : I b3) : Ans I (execSqReadError b0 b1 b2 b3) := by
  refine ⟨_, rfl, ?_⟩
  refine onHost_may h (Sub.rfl.inl.trans hm) hr (fun I h a0 ha0 => ?_) hb3
  · refine sqReadError_may h (Sub.rfl.inr.trans hm) ha0

def execSqEnable_m : Nat := onHost_m ||| sqConfig_m
theorem execSqEnable_may (h : May M I) (hm : Sub execSqEnable_m M) (hr : Run M I) {b0} {b1} {b2} {b3} (hb3 : I b3) : Ans I (execSqEnable b0 b1 b2 b3) := by
  refine ⟨_, rfl, ?_⟩
  refine onHost_may h (Sub.rfl.inl.trans hm) hr (fun I h a0 ha0 => ?_) hb3
  · refine sqConfig_may h (Sub.rfl.inr.trans hm) ha0

def execCqHeadWrite_m : Nat := onHost_m ||| cqHead_m
theorem execCqHeadWrite_may (h : May M I) (hm : Sub execCqHeadWrite_m M) (hr : Run M I) {b0} {b1} {b2} {b3} (hb3 : I b3) : Ans I (execCqHeadWrite b0 b1 b2 b3) := by
  refine ⟨_, rfl, ?_⟩
  refine onHost_may h (Sub.rfl.inl.trans hm) hr (fun I h a0 ha0 => ?_) hb3
  · refine cqHead_may h (Sub.rfl.inr.trans hm) ha0

def execNop_m : Nat := ringCmd_m ||| acceptNow_m
theorem execNop_may (h : May M I) (hm : Sub execNop_m M) (hr : Run M I) {b0} {b1} {b2} {b3} (hb3 : I b3) : Ans I (execNop b0 b1 b2 b3) := by
  refine ⟨_, rfl, ?_⟩
  refine ringCmd_may h (Sub.rfl.inl.trans hm) hr (fun I h a0 a1 ha1 => ?_) hb3
  · refine acceptNow_may h (Sub.rfl.inr.trans hm) (fun a2 a3 ha3 => ?_) ha1
    · exact ha3

def execFence_m : Nat := ringCmd_m ||| fenceBody_m
theorem execFence_may (h : May M I) (hm : Sub execFence_m M) (hr : Run M I) {b0} {b1} {b2} {b3} (hb3 : I b3) : Ans I (execFence b0 b1 b2 b3) := by
  refine ⟨_, rfl, ?_⟩
  refine ringCmd_may h (Sub.rfl.inl.trans hm) hr (fun I h a0 a1 ha1 => ?_) hb3
  · refine fenceBody_may h (Sub.rfl.inr.trans hm) ha1

def execEventPop_m : Nat := whenHost_m ||| answerRead_m ||| popEvent_m
theorem execEventPop_may (h : May M I) (hm : Sub execEventPop_m M) {b0} (hb0 : I b0) : Ans I (execEventPop b0) := by
  refine ⟨_, rfl, ?_⟩
  refine whenHost_may h (Sub.rfl.inl.inl.trans hm) (fun a0 ha0 => ?_) hb0
  · refine answerRead_may h (Sub.rfl.inr.inl.trans hm) ?_
    · refine popEvent_may h (Sub.rfl.inr.trans hm) ha0

def execEventArm_m : Nat := whenHost_m ||| armEvents_m
theorem execEventArm_may (h : May M I) (hm : Sub execEventArm_m M) {b0} (hb0 : I b0) : Ans I (execEventArm b0) := by
  refine ⟨_, rfl, ?_⟩
  refine whenHost_may h (Sub.rfl.inl.trans hm) (fun a0 ha0 => ?_) hb0
  · refine armEvents_may h (Sub.rfl.inr.trans hm) ha0

def execAccessErrRead_m : Nat := whenHost_m ||| answerRead_m ||| readAccessErr_m
theorem execAccessErrRead_may (h : May M I) (hm : Sub execAccessErrRead_m M) {b0} (hb0 : I b0) : Ans I (execAccessErrRead b0) := by
  refine ⟨_, rfl, ?_⟩
  refine whenHost_may h (Sub.rfl.inl.inl.trans hm) (fun a0 ha0 => ?_) hb0
  · refine answerRead_may h (Sub.rfl.inr.inl.trans hm) ?_
    · refine readAccessErr_may h (Sub.rfl.inr.trans hm) ha0

def execMsixCoalesceTimeout_m : Nat := onService_m ||| coalesceEnd_m
theorem execMsixCoalesceTimeout_may (h : May M I) (hm : Sub execMsixCoalesceTimeout_m M) (hr : Run M I) {b0} {b1} {b2} (hb2 : I b2) : Ans I (execMsixCoalesceTimeout b0 b1 b2) := by
  refine ⟨_, rfl, ?_⟩
  refine onService_may h (Sub.rfl.inl.trans hm) hr (fun I h a0 ha0 => ?_) hb2
  · refine coalesceEnd_may h (Sub.rfl.inr.trans hm) ha0

def execHifClrCnt_m : Nat := mask hifCounters ||| whenHost_m ||| clearFlds_m
theorem execHifClrCnt_may (h : May M I) (hm : Sub execHifClrCnt_m M) {b0} (hb0 : I b0) : Ans I (execHifClrCnt b0) := by
  refine ⟨_, rfl, ?_⟩
  refine whenHost_may h (Sub.rfl.inr.inl.trans hm) (fun a0 ha0 => ?_) hb0
  · refine clearFlds_may h (Sub.rfl.inr.trans hm) ((Sub.rfl.inl.inl.trans hm).okAll (by decide +kernel)) ha0

def execHostPerstN_m : Nat := whenPowered_m ||| perst_m ||| advance_m
theorem execHostPerstN_may (h : May M I) (hm : Sub execHostPerstN_m M) {b0} {b1} {b2} (hb2 : I b2) : Ans I (execHostPerstN b0 b1 b2) := by
  refine ⟨_, rfl, ?_⟩
  refine whenPowered_may h (Sub.rfl.inl.inl.trans hm) (fun a0 ha0 => ?_) hb2
  · refine perst_may h (Sub.rfl.inr.inl.trans hm) ?_
    · refine advance_may h (Sub.rfl.inr.trans hm) ha0

def execHostPerstNDeassert_m : Nat := whenPowered_m ||| perstEnd_m ||| advance_m
theorem execHostPerstNDeassert_may (h : May M I) (hm : Sub execHostPerstNDeassert_m M) {b0} {b1} (hb1 : I b1) : Ans I (execHostPerstNDeassert b0 b1) := by
  refine ⟨_, rfl, ?_⟩
  refine whenPowered_may h (Sub.rfl.inl.inl.trans hm) (fun a0 ha0 => ?_) hb1
  · refine perstEnd_may h (Sub.rfl.inr.inl.trans hm) ?_
    · refine advance_may h (Sub.rfl.inr.trans hm) ha0

def execConfigurationSpaceReady_m : Nat := whenPowered_m ||| configReady_m ||| advance_m
theorem execConfigurationSpaceReady_may (h : May M I) (hm : Sub execConfigurationSpaceReady_m M) {b0} {b1} (hb1 : I b1) : Ans I (execConfigurationSpaceReady b0 b1) := by
  refine ⟨_, rfl, ?_⟩
  refine whenPowered_may h (Sub.rfl.inl.inl.trans hm) (fun a0 ha0 => ?_) hb1
  · refine configReady_may h (Sub.rfl.inr.inl.trans hm) ?_
    · refine advance_may h (Sub.rfl.inr.trans hm) ha0

def execFunctionLevelReset_m : Nat := onService_m ||| fnDrop_m
theorem execFunctionLevelReset_may (h : May M I) (hm : Sub execFunctionLevelReset_m M) (hr : Run M I) {b0} {b1} {b2} (hb2 : I b2) : Ans I (execFunctionLevelReset b0 b1 b2) := by
  refine ⟨_, rfl, ?_⟩
  refine onService_may h (Sub.rfl.inl.trans hm) hr (fun I h a0 ha0 => ?_) hb2
  · refine fnDrop_may h (Sub.rfl.inr.trans hm) ha0

def execD3hotEntry_m : Nat := onService_m ||| enterD3_m
theorem execD3hotEntry_may (h : May M I) (hm : Sub execD3hotEntry_m M) (hr : Run M I) {b0} {b1} (hb1 : I b1) : Ans I (execD3hotEntry b0 b1) := by
  refine ⟨_, rfl, ?_⟩
  refine onService_may h (Sub.rfl.inl.trans hm) hr (fun I h a0 ha0 => ?_) hb1
  · refine enterD3_may h (Sub.rfl.inr.trans hm) ha0

def execD0Return_m : Nat := onService_m ||| leaveD3_m
theorem execD0Return_may (h : May M I) (hm : Sub execD0Return_m M) (hr : Run M I) {b0} {b1} (hb1 : I b1) : Ans I (execD0Return b0 b1) := by
  refine ⟨_, rfl, ?_⟩
  refine onService_may h (Sub.rfl.inl.trans hm) hr (fun I h a0 ha0 => ?_) hb1
  · refine leaveD3_may h (Sub.rfl.inr.trans hm) ha0

def execMsixMaskWrite_m : Nat := whenHost_m ||| maskVector_m
theorem execMsixMaskWrite_may (h : May M I) (hm : Sub execMsixMaskWrite_m M) {b0} {b1} {b2} (hb2 : I b2) : Ans I (execMsixMaskWrite b0 b1 b2) := by
  refine ⟨_, rfl, ?_⟩
  refine whenHost_may h (Sub.rfl.inl.trans hm) (fun a0 ha0 => ?_) hb2
  · refine maskVector_may h (Sub.rfl.inr.trans hm) ha0

def execBar0AccessRefused_m : Nat := whenPowered_m ||| refusedAccess_m ||| advance_m
theorem execBar0AccessRefused_may (h : May M I) (hm : Sub execBar0AccessRefused_m M) {b0} {b1} {b2} {b3} {b4} (hb4 : I b4) : Ans I (execBar0AccessRefused b0 b1 b2 b3 b4) := by
  refine ⟨_, rfl, ?_⟩
  refine whenPowered_may h (Sub.rfl.inl.inl.trans hm) (fun a0 ha0 => ?_) hb4
  · refine refusedAccess_may h (Sub.rfl.inr.inl.trans hm) ?_
    · refine advance_may h (Sub.rfl.inr.trans hm) ha0

def execBar2Access_m : Nat := bar2_m ||| advance_m
theorem execBar2Access_may (h : May M I) (hm : Sub execBar2Access_m M) {b0} {b1} {b2} {b3} {b4} (hb4 : I b4) : Ans I (execBar2Access b0 b1 b2 b3 b4) := by
  refine ⟨_, rfl, ?_⟩
  refine may_ite ?_ ?_
  · refine bar2_may h (Sub.rfl.inl.trans hm) ?_
    · refine advance_may h (Sub.rfl.inr.trans hm) hb4
  · exact hb4

def execLatchedRead_m : Nat := whenPowered_m ||| hostRead_m ||| advance_m
theorem execLatchedRead_may (h : May M I) (hm : Sub execLatchedRead_m M) {b0} {b1} {b2} (hb2 : I b2) : Ans I (execLatchedRead b0 b1 b2) := by
  refine ⟨_, rfl, ?_⟩
  refine whenPowered_may h (Sub.rfl.inl.inl.trans hm) (fun a0 ha0 => ?_) hb2
  · refine hostRead_may h (Sub.rfl.inr.inl.trans hm) ?_
    · refine advance_may h (Sub.rfl.inr.trans hm) ha0

def slotWords_m : Nat := setXOut_m
theorem slotWords_may (h : May M I) (hm : Sub slotWords_m M) {b0} {b1} {b2} (hb2 : I b2) : I (slotWords b0 b1 b2).2 := by
  unfold slotWords
  extract_lets -merge -useContext x0 x1 x2 x3 x4
  refine setXOut_may h (Sub.rfl.trans hm) hb2

def slotBlock_m : Nat := slotWords_m
theorem slotBlock_may (h : May M I) (hm : Sub slotBlock_m M) {b0} {b1} {b2} (hb2 : I b2) : I (slotBlock b0 b1 b2).2 := by
  unfold slotBlock
  split
  · rename_i p0 p1 heq2
    have hp1 : I p1 := by
      refine Eq.subst (motive := I) (congrArg Prod.snd heq2) ?_
      refine slotWords_may h (Sub.rfl.trans hm) hb2
    exact hp1

def slotBlocks_m : Nat := slotBlock_m
theorem slotBlocks_may (h : May M I) (hm : Sub slotBlocks_m M) {b0} {b1} {b2} {b3} (hb3 : I b3) : I (slotBlocks b0 b1 b2 b3).2 := by
  induction b2 generalizing b3 with
  | nil => exact hb3
  | cons j l ih => exact ih (slotBlock_may h hm hb3)

def sendBlock_m : Nat := mask [LNO_BLOCKS.COUNT, LNO_CNT_FLAGS.BLOCKS_WRAP, LNO_FILL_BLOCKS.COUNT, LNO_CNT_FLAGS.FILL_WRAP] ||| slotBlocks_m ||| bump64_m ||| setOut_m ||| setXOut_m ||| emit_m
theorem sendBlock_may (h : May M I) (hm : Sub sendBlock_m M) {b0} {b1} (hb1 : I b1) : I (sendBlock b0 b1) := by
  have ho := (Sub.rfl.inl.inl.inl.inl.inl.trans hm)
  unfold sendBlock
  extract_lets -merge -useContext x0 x1 x2 x3 x4 x5
  split
  · rename_i p6 p7 heq8
    have hp7 : I p7 := by
      refine Eq.subst (motive := I) (congrArg Prod.snd heq8) ?_
      refine slotBlocks_may h (Sub.rfl.inr.inl.inl.inl.inl.trans hm) hb1
    extract_lets -merge -useContext x9 x10 x11 x12 x13
    have hx13 : I x13 := by
      unfold x13
      refine bump64_may h (Sub.rfl.inr.inl.inl.inl.trans hm) (ho.ok (by decide +kernel)) (ho.ok (by decide +kernel)) ?_
      · refine setOut_may h (Sub.rfl.inr.inl.inl.trans hm) ?_
        · refine setXOut_may h (Sub.rfl.inr.inl.trans hm) ?_
          · refine emit_may h (Sub.rfl.inr.trans hm) hp7
    clear_value x13
    refine may_ite ?_ ?_
    · refine bump64_may h (Sub.rfl.inr.inl.inl.inl.trans hm) (ho.ok (by decide +kernel)) (ho.ok (by decide +kernel)) hx13
    · exact hx13

def sendBlocks_m : Nat := pmask [.lane] ||| forEach_m ||| outActive_m ||| sendBlock_m
theorem sendBlocks_may (h : May M I) (hm : Sub sendBlocks_m M) {b0} (hb0 : I b0) : I (sendBlocks b0) := by
  have hp := (Sub.rfl.inl.inl.inl.trans hm)
  unfold sendBlocks
  extract_lets -merge -useContext x0 x1 x2 x3 x4 x5
  have hx2 : I x2 := by
    unfold x2
    refine forEach_may h (Sub.rfl.inr.inl.inl.trans hm) (fun a6 a7 ha7 => ?_) hb0
    · refine outActive_may h (Sub.rfl.inr.inl.trans hm) ha7
  clear_value x2
  have hx4 : I x4 := by
    unfold x4
    refine forEach_may h (Sub.rfl.inr.inl.inl.trans hm) (fun a8 a9 ha9 => ?_) hx2
    · refine sendBlock_may h (Sub.rfl.inr.trans hm) ha9
  clear_value x4
  exact h.lane (hp.testBit (by decide +kernel)) (hx4)

def countSymbols_m : Nat := mask [LNI_DISP_ERR.COUNT, LNI_CNT_FLAGS.DISP_OVF, LNI_CODE_ERR.COUNT, LNI_CNT_FLAGS.CODE_OVF, LNI_BLOCKS.COUNT, LNI_CNT_FLAGS.BLOCKS_WRAP] ||| bump32By_m ||| bump64_m
theorem countSymbols_may (h : May M I) (hm : Sub countSymbols_m M) {b0} {b1} {b2} (hb2 : I b2) : I (countSymbols b0 b1 b2) := by
  have ho := (Sub.rfl.inl.inl.trans hm)
  unfold countSymbols
  extract_lets -merge -useContext x0
  refine may_ite ?_ ?_
  · exact hb2
  · refine bump32By_may h (Sub.rfl.inr.inl.trans hm) (ho.ok (by decide +kernel)) (ho.ok (by decide +kernel)) ?_
    · refine bump32By_may h (Sub.rfl.inr.inl.trans hm) (ho.ok (by decide +kernel)) (ho.ok (by decide +kernel)) ?_
      · refine bump64_may h (Sub.rfl.inr.trans hm) (ho.ok (by decide +kernel)) (ho.ok (by decide +kernel)) hb2

def adapt_m : Nat := mask [LNI_STATUS.ADAPT_FROZEN, LNI_GATED_CNT.COUNT, LNI_CNT_FLAGS.GATED_OVF] ||| setF_m ||| newEqualiser_m ||| bump32_m
theorem adapt_may (h : May M I) (hm : Sub adapt_m M) {b0} {b1} {b2} {b3} (hb3 : I b3) : I (adapt b0 b1 b2 b3) := by
  have ho := (Sub.rfl.inl.inl.inl.trans hm)
  unfold adapt
  refine may_ite ?_ ?_
  · exact hb3
  · refine may_ite ?_ ?_
    · refine setF_may h (Sub.rfl.inr.inl.inl.trans hm) (ho.ok (by decide +kernel)) ?_
      · refine newEqualiser_may h (Sub.rfl.inr.inl.trans hm) hb3
    · refine bump32_may h (Sub.rfl.inr.trans hm) (ho.ok (by decide +kernel)) (ho.ok (by decide +kernel)) ?_
      · refine setF_may h (Sub.rfl.inr.inl.inl.trans hm) (ho.ok (by decide +kernel)) hb3

def adopt_m : Nat := mask [LNI_REALIGN_CNT.COUNT, LNI_CNT_FLAGS.REALIGN_OVF, LNI_STATUS.ALIGNED, LNI_EVT.REALIGN] ||| bump32_m ||| setIn_m ||| setF_m ||| raiseLane_m
theorem adopt_may (h : May M I) (hm : Sub adopt_m M) {b0} {b1} (hb1 : I b1) : I (adopt b0 b1) := by
  have ho := (Sub.rfl.inl.inl.inl.inl.trans hm)
  unfold adopt
  extract_lets -merge -useContext x0
  have hx0 : I x0 := by
    unfold x0
    refine may_ite ?_ ?_
    · exact hb1
    · refine bump32_may h (Sub.rfl.inr.inl.inl.inl.trans hm) (ho.ok (by decide +kernel)) (ho.ok (by decide +kernel)) hb1
  clear_value x0
  refine setIn_may h (Sub.rfl.inr.inl.inl.trans hm) ?_
  · refine setF_may h (Sub.rfl.inr.inl.trans hm) (ho.ok (by decide +kernel)) ?_
    · refine raiseLane_may h (Sub.rfl.inr.trans hm) (ho.okAll (by decide +kernel)) hx0

def loseAlign_m : Nat := mask [LNI_STATUS.ALIGNED] ||| setIn_m ||| setF_m ||| payLoss_m ||| adopt_m
theorem loseAlign_may (h : May M I) (hm : Sub loseAlign_m M) {b0} {b1} {b2} {b3} (hb3 : I b3) : I (loseAlign b0 b1 b2 b3) := by
  have ho := (Sub.rfl.inl.inl.inl.inl.trans hm)
  unfold loseAlign
  extract_lets -merge -useContext x0
  have hx0 : I x0 := by
    unfold x0
    refine setIn_may h (Sub.rfl.inr.inl.inl.inl.trans hm) ?_
    · refine setF_may h (Sub.rfl.inr.inl.inl.trans hm) (ho.ok (by decide +kernel)) ?_
      · refine payLoss_may h (Sub.rfl.inr.inl.trans hm) hb3
  clear_value x0
  refine may_ite ?_ ?_
  · exact hx0
  · refine adopt_may h (Sub.rfl.inr.trans hm) hx0

def align_m : Nat := setIn_m ||| adopt_m ||| loseAlign_m
theorem align_may (h : May M I) (hm : Sub align_m M) {b0} {b1} {b2} (hb2 : I b2) : I (align b0 b1 b2).2 := by
  unfold align
  extract_lets -merge -useContext x0 x1 x2 x3
  refine may_ite2 ?_ ?_
  · refine may_ite ?_ ?_
    · refine setIn_may h (Sub.rfl.inl.inl.trans hm) hb2
    · refine adopt_may h (Sub.rfl.inr.inl.trans hm) hb2
  · refine may_ite2 ?_ ?_
    · refine loseAlign_may h (Sub.rfl.inr.trans hm) hb2
    · refine setIn_may h (Sub.rfl.inl.inl.trans hm) hb2

def countVerdict_m : Nat := mask [LNI_HDR_ERR.COUNT, LNI_PAY_FLAGS.HDR_OVF, LNI_CRC_ERR.COUNT, LNI_CNT_FLAGS.CRC_OVF, LNI_PAY_EVT.MODE_ERR, LNI_MODE_ERR.COUNT, LNI_PAY_FLAGS.MODE_OVF, LNI_SEQ_ERR.COUNT, LNI_PAY_FLAGS.SEQ_OVF] ||| bump32_m ||| raise_m
theorem countVerdict_may (h : May M I) (hm : Sub countVerdict_m M) {b0} {b1} {b2} (hb2 : I b2) : I (countVerdict b0 b1 b2) := by
  have ho := (Sub.rfl.inl.inl.trans hm)
  unfold countVerdict
  refine may_ite ?_ ?_
  · exact hb2
  · split
    · refine bump32_may h (Sub.rfl.inr.inl.trans hm) (ho.ok (by decide +kernel)) (ho.ok (by decide +kernel)) hb2
    · refine bump32_may h (Sub.rfl.inr.inl.trans hm) (ho.ok (by decide +kernel)) (ho.ok (by decide +kernel)) hb2
    · refine raise_may h (Sub.rfl.inr.trans hm) (ho.okAll (by decide +kernel)) ?_
      · refine bump32_may h (Sub.rfl.inr.inl.trans hm) (ho.ok (by decide +kernel)) (ho.ok (by decide +kernel)) hb2
    · refine bump32_may h (Sub.rfl.inr.inl.trans hm) (ho.ok (by decide +kernel)) (ho.ok (by decide +kernel)) hb2
    · exact hb2

def noteHeader_m : Nat := mask [LNI_PAY_STATUS.SEQ_LAST, LNI_PAY_STATUS.TYPE_LAST] ||| setIn_m ||| setF_m
theorem noteHeader_may (h : May M I) (hm : Sub noteHeader_m M) {b0} {b1} {b2} {b3} (hb3 : I b3) : I (noteHeader b0 b1 b2 b3) := by
  have ho := (Sub.rfl.inl.inl.trans hm)
  unfold noteHeader
  extract_lets -merge -useContext x0
  have hx0 : I x0 := by
    unfold x0
    refine setIn_may h (Sub.rfl.inr.inl.trans hm) hb3
  clear_value x0
  refine may_ite ?_ ?_
  · refine setF_may h (Sub.rfl.inr.trans hm) (ho.ok (by decide +kernel)) ?_
    · refine setF_may h (Sub.rfl.inr.trans hm) (ho.ok (by decide +kernel)) hx0
  · exact hx0

def recordSide_m : Nat := mask [LNI_PAY_STATUS.SIDE_A, LNI_PAY_EVT.SIDE_CHANGE] ||| setIn_m ||| setB_m ||| raise_m
theorem recordSide_may (h : May M I) (hm : Sub recordSide_m M) {b0} {b1} {b2} (hb2 : I b2) : I (recordSide b0 b1 b2) := by
  have ho := (Sub.rfl.inl.inl.inl.trans hm)
  unfold recordSide
  extract_lets -merge -useContext x0 x1
  have hx1 : I x1 := by
    unfold x1
    refine setIn_may h (Sub.rfl.inr.inl.inl.trans hm) ?_
    · refine setB_may h (Sub.rfl.inr.inl.trans hm) (ho.ok (by decide +kernel)) hb2
  clear_value x1
  refine may_ite ?_ ?_
  · exact hb2
  · refine may_ite ?_ ?_
    · refine raise_may h (Sub.rfl.inr.trans hm) (ho.okAll (by decide +kernel)) hx1
    · exact hx1

def recordCadence_m : Nat := mask [LNI_CAD_LO.CAD0, LNI_CAD_LO.CAD1, LNI_CAD_LO.CAD2, LNI_CAD_LO.CAD3, LNI_CAD_HI.CAD4, LNI_CAD_HI.CAD5, LNI_CAD_HI.CAD6, LNI_CAD_HI.CAD7, LNI_PAY_EVT.MODE_ERR, LNI_MODE_ERR.COUNT, LNI_PAY_FLAGS.MODE_OVF] ||| setF_m ||| raise_m ||| bump32_m ||| slotGain_m ||| slotLoss_m
theorem recordCadence_may (h : May M I) (hm : Sub recordCadence_m M) {b0} {b1} {b2} {b3} (hb3 : I b3) : I (recordCadence b0 b1 b2 b3) := by
  have ho := (Sub.rfl.inl.inl.inl.inl.inl.trans hm)
  unfold recordCadence
  extract_lets -merge -useContext x0 x1 x2
  have hx1 : I x1 := by
    unfold x1
    refine setF_may h (Sub.rfl.inr.inl.inl.inl.inl.trans hm) (by
      have hc : ∀ k, okB (mask [LNI_CAD_LO.CAD0, LNI_CAD_LO.CAD1, LNI_CAD_LO.CAD2, LNI_CAD_LO.CAD3, LNI_CAD_HI.CAD4, LNI_CAD_HI.CAD5,
          LNI_CAD_HI.CAD6, LNI_CAD_HI.CAD7, LNI_PAY_EVT.MODE_ERR, LNI_MODE_ERR.COUNT, LNI_PAY_FLAGS.MODE_OVF]) (cadFld k) = true := by
        intro k; unfold cadFld; split <;> decide +kernel
      exact ho.ok (hc _)) hb3
  clear_value x1
  have hx2 : I x2 := by
    unfold x2
    refine may_ite ?_ ?_
    · exact hx1
    · refine raise_may h (Sub.rfl.inr.inl.inl.inl.trans hm) (ho.okAll (by decide +kernel)) ?_
      · refine bump32_may h (Sub.rfl.inr.inl.inl.trans hm) (ho.ok (by decide +kernel)) (ho.ok (by decide +kernel)) hx1
  clear_value x2
  refine may_ite ?_ ?_
  · exact hx2
  · refine may_ite ?_ ?_
    · refine slotGain_may h (Sub.rfl.inr.inl.trans hm) hx2
    · refine slotLoss_may h (Sub.rfl.inr.trans hm) hx2

def runs_m : Nat := setIn_m ||| payRestore_m ||| payLoss_m
theorem runs_may (h : May M I) (hm : Sub runs_m M) {b0} {b1} {b2} (hb2 : I b2) : I (runs b0 b1 b2).2 := by
  unfold runs
  extract_lets -merge -useContext x0 x1
  have hx1 : I x1 := by
    unfold x1
    refine setIn_may h (Sub.rfl.inl.inl.trans hm) hb2
  clear_value x1
  refine may_ite2 ?_ ?_
  · exact hx1
  · refine may_ite2 ?_ ?_
    · refine may_ite2 ?_ ?_
      · refine payRestore_may h (Sub.rfl.inr.inl.trans hm) hx1
      · exact hx1
    · refine may_ite2 ?_ ?_
      · refine payLoss_may h (Sub.rfl.inr.trans hm) hx1
      · exact hx1

def deliverSlot_m : Nat := pmask [.lane] ||| setXIn_m
theorem deliverSlot_may (h : May M I) (hm : Sub deliverSlot_m M) {b0} {b1} {b2} (hb2 : I b2) : I (deliverSlot b0 b1 b2) := by
  have hp := (Sub.rfl.inl.trans hm)
  unfold deliverSlot
  extract_lets -merge -useContext x0 x1
  refine setXIn_may h (Sub.rfl.inr.trans hm) ?_
  · exact h.lane (hp.testBit (by decide +kernel)) (hb2)

def deliverWords_m : Nat := mask [LNI_ILLEGAL_WORD.COUNT, LNI_PAY_FLAGS.ILLEGAL_OVF] ||| forEach_m ||| deliverSlot_m ||| bump32By_m
theorem deliverWords_may (h : May M I) (hm : Sub deliverWords_m M) {b0} {b1} {b2} (hb2 : I b2) : I (deliverWords b0 b1 b2) := by
  have ho := (Sub.rfl.inl.inl.inl.trans hm)
  unfold deliverWords
  extract_lets -merge -useContext x0
  refine forEach_may h (Sub.rfl.inr.inl.inl.trans hm) (fun a1 a2 ha2 => ?_) hb2
  · extract_lets -merge -useContext x3
    refine deliverSlot_may h (Sub.rfl.inr.inl.trans hm) ?_
    · refine bump32By_may h (Sub.rfl.inr.trans hm) (ho.ok (by decide +kernel)) (ho.ok (by decide +kernel)) ha2

def deliverAnc_m : Nat := forEach_m ||| storePacket_m ||| audioPacket_m
theorem deliverAnc_may (h : May M I) (hm : Sub deliverAnc_m M) {b0} {b1} {b2} (hb2 : I b2) : I (deliverAnc b0 b1 b2) := by
  unfold deliverAnc
  extract_lets -merge -useContext x0 x1 x2
  have hx2 : I x2 := by
    unfold x2
    refine forEach_may h (Sub.rfl.inl.inl.trans hm) (fun a3 a4 ha4 => ?_) hb2
    · refine storePacket_may h (Sub.rfl.inr.inl.trans hm) ha4
  clear_value x2
  refine may_ite ?_ ?_
  · exact hb2
  · split
    · refine audioPacket_may h (Sub.rfl.inr.trans hm) hx2
    · exact hx2

def deliver_m : Nat := forEach_m ||| deliverAnc_m ||| deliverWords_m
theorem deliver_may (h : May M I) (hm : Sub deliver_m M) {b0} {b1} {b2} {b3} (hb3 : I b3) : I (deliver b0 b1 b2 b3) := by
  unfold deliver
  extract_lets -merge -useContext x0 x1
  refine forEach_may h (Sub.rfl.inl.inl.trans hm) (fun a2 a3 ha3 => ?_) ?_
  · refine deliverAnc_may h (Sub.rfl.inr.inl.trans hm) ha3
  · refine deliverWords_may h (Sub.rfl.inr.trans hm) hb3

def checkTest_m : Nat := mask [LNI_TEST_ERR.COUNT, LNI_PAY_FLAGS.TEST_OVF] ||| bump32By_m
theorem checkTest_may (h : May M I) (hm : Sub checkTest_m M) {b0} {b1} {b2} (hb2 : I b2) : I (checkTest b0 b1 b2) := by
  have ho := (Sub.rfl.inl.trans hm)
  unfold checkTest
  extract_lets -merge -useContext x0 x1
  refine bump32By_may h (Sub.rfl.inr.trans hm) (ho.ok (by decide +kernel)) (ho.ok (by decide +kernel)) hb2

def receiveBlock_m : Nat := noteHeader_m ||| countVerdict_m ||| runs_m ||| recordCadence_m ||| recordSide_m ||| checkTest_m ||| deliver_m
theorem receiveBlock_may (h : May M I) (hm : Sub receiveBlock_m M) {b0} {b1} {b2} {b3} (hb3 : I b3) : I (receiveBlock b0 b1 b2 b3) := by
  unfold receiveBlock
  extract_lets -merge -useContext x0 x1 x2
  have hx2 : I x2 := by
    unfold x2
    refine noteHeader_may h (Sub.rfl.inl.inl.inl.inl.inl.inl.trans hm) ?_
    · refine countVerdict_may h (Sub.rfl.inr.inl.inl.inl.inl.inl.trans hm) hb3
  clear_value x2
  split
  · rename_i p3 p4 heq5
    have hp4 : I p4 := by
      refine Eq.subst (motive := I) (congrArg Prod.snd heq5) ?_
      refine runs_may h (Sub.rfl.inr.inl.inl.inl.inl.trans hm) hx2
    extract_lets -merge -useContext x6
    have hx6 : I x6 := by
      unfold x6
      refine may_ite ?_ ?_
      · refine recordCadence_may h (Sub.rfl.inr.inl.inl.inl.trans hm) ?_
        · refine recordSide_may h (Sub.rfl.inr.inl.inl.trans hm) hp4
      · exact hp4
    clear_value x6
    refine may_ite ?_ ?_
    · exact hx6
    · refine may_ite ?_ ?_
      · refine checkTest_may h (Sub.rfl.inr.inl.trans hm) hx6
      · refine may_ite ?_ ?_
        · refine deliver_may h (Sub.rfl.inr.trans hm) hx6
        · exact hx6

def laneBlockIn_m : Nat := inActive_m ||| adapt_m ||| countSymbols_m ||| align_m ||| receiveBlock_m
theorem laneBlockIn_may (h : May M I) (hm : Sub laneBlockIn_m M) {b0} {b1} {b2} {b3} {b4} (hb4 : I b4) : I (laneBlockIn b0 b1 b2 b3 b4) := by
  unfold laneBlockIn
  extract_lets -merge -useContext x0 x1
  have hx0 : I x0 := by
    unfold x0
    refine may_ite ?_ ?_
    · refine inActive_may h (Sub.rfl.inl.inl.inl.inl.trans hm) hb4
    · exact hb4
  clear_value x0
  have hx1 : I x1 := by
    unfold x1
    refine adapt_may h (Sub.rfl.inr.inl.inl.inl.trans hm) ?_
    · refine countSymbols_may h (Sub.rfl.inr.inl.inl.trans hm) hx0
  clear_value x1
  refine may_ite ?_ ?_
  · exact hx0
  · split
    · rename_i p2 p3 heq4
      have hp3 : I p3 := by
        refine Eq.subst (motive := I) (congrArg Prod.snd heq4) ?_
        refine align_may h (Sub.rfl.inr.inl.trans hm) hx1
      refine may_ite ?_ ?_
      · refine receiveBlock_may h (Sub.rfl.inr.trans hm) hp3
      · exact hp3

def execLaneBlockTx_m : Nat := onService_m ||| sendBlocks_m
theorem execLaneBlockTx_may (h : May M I) (hm : Sub execLaneBlockTx_m M) (hr : Run M I) {b0} {b1} (hb1 : I b1) : Ans I (execLaneBlockTx b0 b1) := by
  refine ⟨_, rfl, ?_⟩
  refine onService_may h (Sub.rfl.inl.trans hm) hr (fun I h a0 ha0 => ?_) hb1
  · refine sendBlocks_may h (Sub.rfl.inr.trans hm) ha0

def execLaneBlockRx_m : Nat := onService_m ||| laneBlockIn_m
theorem execLaneBlockRx_may (h : May M I) (hm : Sub execLaneBlockRx_m M) (hr : Run M I) {b0} {b1} {b2} {b3} {b4} {b5} (hb5 : I b5) : Ans I (execLaneBlockRx b0 b1 b2 b3 b4 b5) := by
  refine ⟨_, rfl, ?_⟩
  refine onService_may h (Sub.rfl.inl.trans hm) hr (fun I h a0 ha0 => ?_) hb5
  · refine laneBlockIn_may h (Sub.rfl.inr.trans hm) ha0

end

end Sys2Proof.Machine
end

