-- ==== Sys2Proof/Laws/Exec.lean ====
section
/-! SUPPORT. Every command: what the dispatch makes of the permissions of its meanings. -/

namespace Sys2Proof.Machine

section
variable {M : Nat} {I : State → Prop}

/-- The updates that commands use, all commands together. -/
def exec_m : Nat :=
  (((((((execPowerGoodRise_m ||| (execPowerGoodFall_m ||| execBringupStepEnd_m)) ||| ((execBringupStepTimeout_m ||| execColdHoldRelease_m)
  ||| (execElectronicFuseOpen_m ||| execSoftReset_m))) ||| (((execModuleResetProceed_m ||| execHostPerstN_m) ||| (execFunctionLevelReset_m
  ||| execD3hotEntry_m)) ||| ((execD0Return_m ||| execSleep_m) ||| (execSleepWake_m ||| execImageBootLoad_m)))) ||| (((execImageReset_m |||
  (execSignalDetectRise_m ||| execSignalDetectFall_m)) ||| ((execTrainingSetRx_m ||| execTrainingAttemptTimeout_m) ||| (execBackoffExpire_m
  ||| execQuietProbeTimer_m))) ||| (((execOneWayTrainTimer_m ||| execLaneBlockTx_m) ||| (execLaneBlockRx_m ||| execAlignmentTimeout_m)) |||
  ((execCdrLockLoss_m ||| execFastRetrainTimeout_m) ||| (execIdleLimitExpire_m ||| execLniTargetState_m))))) ||| ((((execLniRetrain_m |||
  (execLniClrCnt_m ||| execLnoTargetState_m)) ||| ((execLnoRetrain_m ||| execLnoClrCnt_m) ||| (execLnoTest_m ||| execInputFrameEnd_m))) |||
  (((execMeasurementHoldExpire_m ||| execFlowWriterTimeout_m) ||| (execKennelReaderChoice_m ||| execArmDeadline_m)) |||
  ((execSwitchingPoint_m ||| execWindowExit_m) ||| (execNofmtTimeout_m ||| execTake_m)))) ||| (((execSalvo_m ||| (execXptClrCnt_m |||
  execFreeze_m)) ||| ((execUnfreeze_m ||| execCapture_m) ||| (execCaptureDone_m ||| execStillSelect_m))) ||| (((execKnlClrCnt_m |||
  execHeadFrameBoundary_m) ||| (execCmpShadow_m ||| execCmpCommit_m)) ||| ((execCmpClrCnt_m ||| execBundleLoad_m) ||| (execBundleInForce_m
  ||| execShofarReq_m)))))) ||| (((((execShofarReqChecked_m ||| (execAlarmLoopSample_m ||| execAlarmLoopGapTimeout_m)) |||
  ((execContactDebounceDone_m ||| execContactRestoreExpire_m) ||| (execAudioBlockBoundary_m ||| execAudMap_m))) ||| (((execAudClrCnt_m |||
  execReedNop_m) ||| (execReedEnd_m ||| execSetx_m)) ||| ((execAddx_m ||| execLoop_m) ||| (execLdi_m ||| execSto_m)))) ||| (((execLds_m |||
  (execSts_m ||| execLda_m)) ||| ((execSta_m ||| execClr_m) ||| (execMul_m ||| execMac_m))) ||| (((execMsu_m ||| execMacr_m) ||| (execMacv_m
  ||| execBiq_m)) ||| ((execTlu_m ||| execValu_m) ||| (execReeWrite_m ||| execReeClrCnt_m))))) ||| ((((execPkClrMax_m ||| (execLdClrMax_m
  ||| execLdResetInt_m)) ||| ((execMeterConfigWrite_m ||| execMacFrameRx_m) ||| (execPauseTakeEffect_m ||| execPauseTimerExpire_m))) |||
  (((execMacFrameTx_m ||| execLinkUp_m) ||| (execLinkDown_m ||| execEthStepWindow_m)) ||| ((execEthPortIdleTimeout_m ||| execFlushMediaRx_m)
  ||| (execFlushCtlRx_m ||| execFlushCtlTx_m)))) ||| ((((execFlushDone_m ||| execEthClrCnt_m) ||| (execSnapArm_m ||| execSnapHold_m)) |||
  ((execSnapshotBoundary_m ||| execSnapshotCopyDone_m) ||| (execFlowPacketRx_m ||| execPositionLost_m))) ||| (((execPathDownTimeout_m |||
  execFlowVideoPacketTx_m) ||| (execFlowAncPacketTx_m ||| execFlowAudioPacketTx_m)) ||| ((execOpaqueRelayTx_m ||| execFlwCtx_m) |||
  (execFlwRxRecordCommit_m ||| execFlwClrCnt_m))))))) ||| ((((((execRefActivityLoss_m ||| (execRefWindowUpdate_m ||| execRefWtrExpire_m))
  ||| ((execTransitionMeasureEnd_m ||| execPipForceEn_m) ||| (execPipForceHold_m ||| execRefPrioWrite_m))) ||| (((execPipClrCnt_m |||
  execPlaneFrameBoundary_m) ||| (execHardRealign_m ||| execPulseEvent_m)) ||| ((execPulseConfigWrite_m ||| execTimeServoUpdate_m) |||
  (execLocalTimeSecond_m ||| execTimSetApply_m)))) ||| (((execTimClrCnt_m ||| (execPtpCfgWrite_m ||| execPtpMessageRx_m)) |||
  ((execAnnounceTimeout_m ||| execBarkTx_m) ||| (execBootBark_m ||| execBarkRx_m))) ||| (((execPathLost_m ||| execHandshakeTimeout_m) |||
  (execEvidenceTimer_m ||| execClaimWatchdogExpiry_m)) ||| ((execYieldTimer_m ||| execWithdrawEnd_m) ||| (execLockstepMismatch_m |||
  execFitRestoreTimer_m))))) ||| ((((execMirror_m ||| (execMirrorAck_m ||| execCommitRpt_m)) ||| ((execDecision_m ||| execHealth_m) |||
  (execResyncReq_m ||| execResyncAck_m))) ||| (((execState_m ||| execStateAck_m) ||| (execMessageRetransmit_m ||| execHealthRecordTx_m)) |||
  ((execSniffCycleStart_m ||| execTwnYield_m) ||| (execTwnTake_m ||| execTwnResync_m)))) ||| (((execTwnFeedBoth_m ||| (execTwnClrCnt_m |||
  execSqDoorbell_m)) ||| ((execSqReadError_m ||| execSqEnable_m) ||| (execCqHeadWrite_m ||| execNop_m))) ||| (((execFence_m |||
  execEventPop_m) ||| (execEventArm_m ||| execAccessErrRead_m)) ||| ((execMsixCoalesceTimeout_m ||| execNetTxDoorbell_m) |||
  (execNetTxReadError_m ||| execNetRxTail_m)))))) ||| (((((execHifClrCnt_m ||| (execBar0AccessRefused_m ||| execBar2Access_m)) |||
  ((execRegisterWrite_m ||| execImageWrite_m) ||| (execImageWriteDone_m ||| execImageReload_m))) ||| (((execImageValidated_m |||
  execRbCommit_m) ||| (execLabelCommit_m ||| execLabelCommitDone_m)) ||| ((execGrant_m ||| execGrantClear_m) ||| (execKeySet_m |||
  execLifecycle_m)))) ||| (((execEvalFix_m ||| (execClassReq_m ||| execAuditRead_m)) ||| ((execAuditSign_m ||| execDeviceKey_m) |||
  (execChallengeGet_m ||| execChallengeAnswer_m))) ||| (((execNonceExpire_m ||| execDebugLockoutExpire_m) ||| (execExtest_m |||
  execSamplePreload_m)) ||| ((execIdcode_m ||| execHighz_m) ||| (execClamp_m ||| execDbgAccess_m))))) ||| ((((execDbgChal_m |||
  (execBypass_m ||| execTrstN_m)) ||| ((execDbgRelock_m ||| execDbgModuleReset_m) ||| (execDbgHalt_m ||| execDbgResume_m))) |||
  (((execDbgStep_m ||| execDbgHaltAtBlock_m) ||| (execBreakpointHit_m ||| execDbgMemGo_m)) ||| ((execDbgMemDone_m ||| execDomainStartFail_m)
  ||| (execSensorUpdate_m ||| execThermalWarningHeld_m)))) ||| ((((execFeedMeasure_m ||| execMonClrMax_m) ||| (execMonClrCnt_m |||
  execDomainReachesOn_m)) ||| ((execPllLocked_m ||| execCdrLockAcquired_m) ||| (execForwardedClockActivity_m |||
  execSramUncorrectableError_m))) ||| (((execKennelStackFailure_m ||| execClockMonitorFailure_m) ||| (execLeadFrameDecision_m |||
  execDelayReqTx_m)) ||| ((execHostPerstNDeassert_m ||| execConfigurationSpaceReady_m) ||| (execMsixMaskWrite_m |||
  execLatchedRead_m))))))))

/-- A property that survives the plain updates survives every command; and every command answers a next state. -/
theorem exec_may (h : May M I) (hm : Sub exec_m M) (hr : Run M I) (c : Instr) {s : State} (hs : I s) : Does c s I := by
  cases c with
  | powerGoodRise _ _ _ _ => exact execPowerGoodRise_may h (Sub.rfl.inl.inl.inl.inl.inl.inl.inl.trans hm) hs
  | powerGoodFall _ => exact execPowerGoodFall_may h (Sub.rfl.inl.inr.inl.inl.inl.inl.inl.inl.trans hm) hs
  | bringupStepEnd _ _ _ => exact execBringupStepEnd_may h (Sub.rfl.inr.inr.inl.inl.inl.inl.inl.inl.trans hm) hr hs
  | bringupStepTimeout _ _ _ _ => exact execBringupStepTimeout_may h (Sub.rfl.inl.inl.inr.inl.inl.inl.inl.inl.trans hm) hr hs
  | coldHoldRelease _ => exact execColdHoldRelease_may h (Sub.rfl.inr.inl.inr.inl.inl.inl.inl.inl.trans hm) hr hs
  | electronicFuseOpen _ => exact execElectronicFuseOpen_may h (Sub.rfl.inl.inr.inr.inl.inl.inl.inl.inl.trans hm) hs
  | softReset _ _ _ _ => exact execSoftReset_may h (Sub.rfl.inr.inr.inr.inl.inl.inl.inl.inl.trans hm) hr hs
  | moduleResetProceed _ _ _ => exact execModuleResetProceed_may h (Sub.rfl.inl.inl.inl.inr.inl.inl.inl.inl.trans hm) hr hs
  | hostPerstN _ _ => exact execHostPerstN_may h (Sub.rfl.inr.inl.inl.inr.inl.inl.inl.inl.trans hm) hs
  | functionLevelReset _ _ => exact execFunctionLevelReset_may h (Sub.rfl.inl.inr.inl.inr.inl.inl.inl.inl.trans hm) hr hs
  | d3hotEntry _ => exact execD3hotEntry_may h (Sub.rfl.inr.inr.inl.inr.inl.inl.inl.inl.trans hm) hr hs
  | d0Return _ => exact execD0Return_may h (Sub.rfl.inl.inl.inr.inr.inl.inl.inl.inl.trans hm) hr hs
  | sleep _ _ _ => exact execSleep_may h (Sub.rfl.inr.inl.inr.inr.inl.inl.inl.inl.trans hm) hr hs
  | sleepWake _ _ => exact execSleepWake_may h (Sub.rfl.inl.inr.inr.inr.inl.inl.inl.inl.trans hm) hs
  | imageBootLoad _ _ => exact execImageBootLoad_may h (Sub.rfl.inr.inr.inr.inr.inl.inl.inl.inl.trans hm) hr hs
  | imageReset _ _ _ => exact execImageReset_may h (Sub.rfl.inl.inl.inl.inr.inl.inl.inl.trans hm) hr hs
  | signalDetectRise _ _ => exact execSignalDetectRise_may h (Sub.rfl.inl.inr.inl.inl.inr.inl.inl.inl.trans hm) hr hs
  | signalDetectFall _ _ => exact execSignalDetectFall_may h (Sub.rfl.inr.inr.inl.inl.inr.inl.inl.inl.trans hm) hr hs
  | trainingSetRx _ _ _ _ _ _ _ => exact execTrainingSetRx_may h (Sub.rfl.inl.inl.inr.inl.inr.inl.inl.inl.trans hm) hr hs
  | trainingAttemptTimeout _ _ _ => exact execTrainingAttemptTimeout_may h (Sub.rfl.inr.inl.inr.inl.inr.inl.inl.inl.trans hm) hr hs
  | backoffExpire _ _ _ => exact execBackoffExpire_may h (Sub.rfl.inl.inr.inr.inl.inr.inl.inl.inl.trans hm) hr hs
  | quietProbeTimer _ _ _ => exact execQuietProbeTimer_may h (Sub.rfl.inr.inr.inr.inl.inr.inl.inl.inl.trans hm) hr hs
  | oneWayTrainTimer _ _ => exact execOneWayTrainTimer_may h (Sub.rfl.inl.inl.inl.inr.inr.inl.inl.inl.trans hm) hr hs
  | laneBlockTx _ => exact execLaneBlockTx_may h (Sub.rfl.inr.inl.inl.inr.inr.inl.inl.inl.trans hm) hr hs
  | laneBlockRx _ _ _ _ _ => exact execLaneBlockRx_may h (Sub.rfl.inl.inr.inl.inr.inr.inl.inl.inl.trans hm) hr hs
  | alignmentTimeout _ _ => exact execAlignmentTimeout_may h (Sub.rfl.inr.inr.inl.inr.inr.inl.inl.inl.trans hm) hr hs
  | cdrLockLoss _ _ => exact execCdrLockLoss_may h (Sub.rfl.inl.inl.inr.inr.inr.inl.inl.inl.trans hm) hr hs
  | fastRetrainTimeout _ _ _ => exact execFastRetrainTimeout_may h (Sub.rfl.inr.inl.inr.inr.inr.inl.inl.inl.trans hm) hr hs
  | idleLimitExpire _ _ => exact execIdleLimitExpire_may h (Sub.rfl.inl.inr.inr.inr.inr.inl.inl.inl.trans hm) hr hs
  | lniTargetState _ _ _ => exact execLniTargetState_may h (Sub.rfl.inr.inr.inr.inr.inr.inl.inl.inl.trans hm) hr hs
  | lniRetrain _ _ => exact execLniRetrain_may h (Sub.rfl.inl.inl.inl.inl.inr.inl.inl.trans hm) hr hs
  | lniClrCnt _ => exact execLniClrCnt_may h (Sub.rfl.inl.inr.inl.inl.inl.inr.inl.inl.trans hm) hs
  | lnoTargetState _ _ _ => exact execLnoTargetState_may h (Sub.rfl.inr.inr.inl.inl.inl.inr.inl.inl.trans hm) hr hs
  | lnoRetrain _ _ => exact execLnoRetrain_may h (Sub.rfl.inl.inl.inr.inl.inl.inr.inl.inl.trans hm) hr hs
  | lnoClrCnt _ => exact execLnoClrCnt_may h (Sub.rfl.inr.inl.inr.inl.inl.inr.inl.inl.trans hm) hs
  | lnoTest _ _ => exact execLnoTest_may h (Sub.rfl.inl.inr.inr.inl.inl.inr.inl.inl.trans hm) hr hs
  | inputFrameEnd _ _ _ => exact execInputFrameEnd_may h (Sub.rfl.inr.inr.inr.inl.inl.inr.inl.inl.trans hm) hr hs
  | measurementHoldExpire _ _ _ => exact execMeasurementHoldExpire_may h (Sub.rfl.inl.inl.inl.inr.inl.inr.inl.inl.trans hm) hr hs
  | flowWriterTimeout _ _ => exact execFlowWriterTimeout_may h (Sub.rfl.inr.inl.inl.inr.inl.inr.inl.inl.trans hm) hr hs
  | kennelReaderChoice _ _ _ => exact execKennelReaderChoice_may h (Sub.rfl.inl.inr.inl.inr.inl.inr.inl.inl.trans hm) hr hs
  | armDeadline _ _ => exact execArmDeadline_may h (Sub.rfl.inr.inr.inl.inr.inl.inr.inl.inl.trans hm) hr hs
  | switchingPoint _ _ _ => exact execSwitchingPoint_may h (Sub.rfl.inl.inl.inr.inr.inl.inr.inl.inl.trans hm) hr hs
  | windowExit _ _ => exact execWindowExit_may h (Sub.rfl.inr.inl.inr.inr.inl.inr.inl.inl.trans hm) hr hs
  | nofmtTimeout _ _ => exact execNofmtTimeout_may h (Sub.rfl.inl.inr.inr.inr.inl.inr.inl.inl.trans hm) hr hs
  | take _ _ _ => exact execTake_may h (Sub.rfl.inr.inr.inr.inr.inl.inr.inl.inl.trans hm) hr hs
  | salvo _ _ _ _ => exact execSalvo_may h (Sub.rfl.inl.inl.inl.inr.inr.inl.inl.trans hm) hr hs
  | xptClrCnt => exact execXptClrCnt_may h (Sub.rfl.inl.inr.inl.inl.inr.inr.inl.inl.trans hm) hs
  | freeze _ _ _ => exact execFreeze_may h (Sub.rfl.inr.inr.inl.inl.inr.inr.inl.inl.trans hm) hr hs
  | unfreeze _ _ _ => exact execUnfreeze_may h (Sub.rfl.inl.inl.inr.inl.inr.inr.inl.inl.trans hm) hr hs
  | capture _ _ _ => exact execCapture_may h (Sub.rfl.inr.inl.inr.inl.inr.inr.inl.inl.trans hm) hr hs
  | captureDone _ _ => exact execCaptureDone_may h (Sub.rfl.inl.inr.inr.inl.inr.inr.inl.inl.trans hm) hr hs
  | stillSelect _ _ _ => exact execStillSelect_may h (Sub.rfl.inr.inr.inr.inl.inr.inr.inl.inl.trans hm) hr hs
  | knlClrCnt => exact execKnlClrCnt_may h (Sub.rfl.inl.inl.inl.inr.inr.inr.inl.inl.trans hm) hs
  | headFrameBoundary _ _ _ => exact execHeadFrameBoundary_may h (Sub.rfl.inr.inl.inl.inr.inr.inr.inl.inl.trans hm) hr hs
  | cmpShadow _ _ _ _ => exact execCmpShadow_may h (Sub.rfl.inl.inr.inl.inr.inr.inr.inl.inl.trans hm) hr hs
  | cmpCommit _ _ _ => exact execCmpCommit_may h (Sub.rfl.inr.inr.inl.inr.inr.inr.inl.inl.trans hm) hr hs
  | cmpClrCnt => exact execCmpClrCnt_may h (Sub.rfl.inl.inl.inr.inr.inr.inr.inl.inl.trans hm) hs
  | bundleLoad _ _ _ _ => exact execBundleLoad_may h (Sub.rfl.inr.inl.inr.inr.inr.inr.inl.inl.trans hm) hr hs
  | bundleInForce _ _ _ => exact execBundleInForce_may h (Sub.rfl.inl.inr.inr.inr.inr.inr.inl.inl.trans hm) hr hs
  | shofarReq _ _ _ _ => exact execShofarReq_may h (Sub.rfl.inr.inr.inr.inr.inr.inr.inl.inl.trans hm) hr hs
  | shofarReqChecked _ _ _ => exact execShofarReqChecked_may h (Sub.rfl.inl.inl.inl.inl.inl.inr.inl.trans hm) hr hs
  | alarmLoopSample _ _ _ => exact execAlarmLoopSample_may h (Sub.rfl.inl.inr.inl.inl.inl.inl.inr.inl.trans hm) hs
  | alarmLoopGapTimeout _ _ => exact execAlarmLoopGapTimeout_may h (Sub.rfl.inr.inr.inl.inl.inl.inl.inr.inl.trans hm) hs
  | contactDebounceDone _ _ _ => exact execContactDebounceDone_may h (Sub.rfl.inl.inl.inr.inl.inl.inl.inr.inl.trans hm) hs
  | contactRestoreExpire _ _ _ => exact execContactRestoreExpire_may h (Sub.rfl.inr.inl.inr.inl.inl.inl.inr.inl.trans hm) hr hs
  | audioBlockBoundary _ => exact execAudioBlockBoundary_may h (Sub.rfl.inl.inr.inr.inl.inl.inl.inr.inl.trans hm) hr hs
  | audMap _ _ _ _ => exact execAudMap_may h (Sub.rfl.inr.inr.inr.inl.inl.inl.inr.inl.trans hm) hr hs
  | audClrCnt => exact execAudClrCnt_may h (Sub.rfl.inl.inl.inl.inr.inl.inl.inr.inl.trans hm) hs
  | reedNop _ => exact execReedNop_may h (Sub.rfl.inr.inl.inl.inr.inl.inl.inr.inl.trans hm) hs
  | reedEnd _ => exact execReedEnd_may h (Sub.rfl.inl.inr.inl.inr.inl.inl.inr.inl.trans hm) hs
  | setx _ => exact execSetx_may h (Sub.rfl.inr.inr.inl.inr.inl.inl.inr.inl.trans hm) hs
  | addx _ => exact execAddx_may h (Sub.rfl.inl.inl.inr.inr.inl.inl.inr.inl.trans hm) hs
  | loop _ => exact execLoop_may h (Sub.rfl.inr.inl.inr.inr.inl.inl.inr.inl.trans hm) hs
  | ldi _ => exact execLdi_may h (Sub.rfl.inl.inr.inr.inr.inl.inl.inr.inl.trans hm) hs
  | sto _ => exact execSto_may h (Sub.rfl.inr.inr.inr.inr.inl.inl.inr.inl.trans hm) hs
  | lds _ => exact execLds_may h (Sub.rfl.inl.inl.inl.inr.inl.inr.inl.trans hm) hs
  | sts _ => exact execSts_may h (Sub.rfl.inl.inr.inl.inl.inr.inl.inr.inl.trans hm) hs
  | lda _ => exact execLda_may h (Sub.rfl.inr.inr.inl.inl.inr.inl.inr.inl.trans hm) hs
  | sta _ => exact execSta_may h (Sub.rfl.inl.inl.inr.inl.inr.inl.inr.inl.trans hm) hs
  | clr _ => exact execClr_may h (Sub.rfl.inr.inl.inr.inl.inr.inl.inr.inl.trans hm) hs
  | mul _ => exact execMul_may h (Sub.rfl.inl.inr.inr.inl.inr.inl.inr.inl.trans hm) hs
  | mac _ => exact execMac_may h (Sub.rfl.inr.inr.inr.inl.inr.inl.inr.inl.trans hm) hs
  | msu _ => exact execMsu_may h (Sub.rfl.inl.inl.inl.inr.inr.inl.inr.inl.trans hm) hs
  | macr _ => exact execMacr_may h (Sub.rfl.inr.inl.inl.inr.inr.inl.inr.inl.trans hm) hs
  | macv _ => exact execMacv_may h (Sub.rfl.inl.inr.inl.inr.inr.inl.inr.inl.trans hm) hs
  | biq _ => exact execBiq_may h (Sub.rfl.inr.inr.inl.inr.inr.inl.inr.inl.trans hm) hs
  | tlu _ => exact execTlu_may h (Sub.rfl.inl.inl.inr.inr.inr.inl.inr.inl.trans hm) hs
  | valu _ => exact execValu_may h (Sub.rfl.inr.inl.inr.inr.inr.inl.inr.inl.trans hm) hs
  | reeWrite _ _ _ _ => exact execReeWrite_may h (Sub.rfl.inl.inr.inr.inr.inr.inl.inr.inl.trans hm) hr hs
  | reeClrCnt => exact execReeClrCnt_may h (Sub.rfl.inr.inr.inr.inr.inr.inl.inr.inl.trans hm) hs
  | pkClrMax _ => exact execPkClrMax_may h (Sub.rfl.inl.inl.inl.inl.inr.inr.inl.trans hm) hs
  | ldClrMax _ => exact execLdClrMax_may h (Sub.rfl.inl.inr.inl.inl.inl.inr.inr.inl.trans hm) hs
  | ldResetInt _ => exact execLdResetInt_may h (Sub.rfl.inr.inr.inl.inl.inl.inr.inr.inl.trans hm) hs
  | meterConfigWrite _ _ => exact execMeterConfigWrite_may h (Sub.rfl.inl.inl.inr.inl.inl.inr.inr.inl.trans hm) hs
  | macFrameRx _ _ _ _ _ _ _ => exact execMacFrameRx_may h (Sub.rfl.inr.inl.inr.inl.inl.inr.inr.inl.trans hm) hr hs
  | pauseTakeEffect _ _ => exact execPauseTakeEffect_may h (Sub.rfl.inl.inr.inr.inl.inl.inr.inr.inl.trans hm) hr hs
  | pauseTimerExpire _ _ => exact execPauseTimerExpire_may h (Sub.rfl.inr.inr.inr.inl.inl.inr.inr.inl.trans hm) hr hs
  | macFrameTx _ _ => exact execMacFrameTx_may h (Sub.rfl.inl.inl.inl.inr.inl.inr.inr.inl.trans hm) hr hs
  | linkUp _ _ _ => exact execLinkUp_may h (Sub.rfl.inr.inl.inl.inr.inl.inr.inr.inl.trans hm) hr hs
  | linkDown _ _ _ => exact execLinkDown_may h (Sub.rfl.inl.inr.inl.inr.inl.inr.inr.inl.trans hm) hr hs
  | ethStepWindow _ _ => exact execEthStepWindow_may h (Sub.rfl.inr.inr.inl.inr.inl.inr.inr.inl.trans hm) hr hs
  | ethPortIdleTimeout _ _ => exact execEthPortIdleTimeout_may h (Sub.rfl.inl.inl.inr.inr.inl.inr.inr.inl.trans hm) hr hs
  | flushMediaRx _ _ => exact execFlushMediaRx_may h (Sub.rfl.inr.inl.inr.inr.inl.inr.inr.inl.trans hm) hr hs
  | flushCtlRx _ _ => exact execFlushCtlRx_may h (Sub.rfl.inl.inr.inr.inr.inl.inr.inr.inl.trans hm) hr hs
  | flushCtlTx _ _ => exact execFlushCtlTx_may h (Sub.rfl.inr.inr.inr.inr.inl.inr.inr.inl.trans hm) hr hs
  | flushDone _ _ _ => exact execFlushDone_may h (Sub.rfl.inl.inl.inl.inl.inr.inr.inr.inl.trans hm) hr hs
  | ethClrCnt => exact execEthClrCnt_may h (Sub.rfl.inr.inl.inl.inl.inr.inr.inr.inl.trans hm) hs
  | snapArm => exact execSnapArm_may h (Sub.rfl.inl.inr.inl.inl.inr.inr.inr.inl.trans hm) hs
  | snapHold _ => exact execSnapHold_may h (Sub.rfl.inr.inr.inl.inl.inr.inr.inr.inl.trans hm) hs
  | snapshotBoundary _ => exact execSnapshotBoundary_may h (Sub.rfl.inl.inl.inr.inl.inr.inr.inr.inl.trans hm) hr hs
  | snapshotCopyDone _ => exact execSnapshotCopyDone_may h (Sub.rfl.inr.inl.inr.inl.inr.inr.inr.inl.trans hm) hr hs
  | flowPacketRx _ _ _ => exact execFlowPacketRx_may h (Sub.rfl.inl.inr.inr.inl.inr.inr.inr.inl.trans hm) hr hs
  | positionLost _ _ => exact execPositionLost_may h (Sub.rfl.inr.inr.inr.inl.inr.inr.inr.inl.trans hm) hr hs
  | pathDownTimeout _ _ _ => exact execPathDownTimeout_may h (Sub.rfl.inl.inl.inl.inr.inr.inr.inr.inl.trans hm) hr hs
  | flowVideoPacketTx _ _ => exact execFlowVideoPacketTx_may h (Sub.rfl.inr.inl.inl.inr.inr.inr.inr.inl.trans hm) hr hs
  | flowAncPacketTx _ _ _ _ => exact execFlowAncPacketTx_may h (Sub.rfl.inl.inr.inl.inr.inr.inr.inr.inl.trans hm) hr hs
  | flowAudioPacketTx _ _ => exact execFlowAudioPacketTx_may h (Sub.rfl.inr.inr.inl.inr.inr.inr.inr.inl.trans hm) hr hs
  | opaqueRelayTx _ _ => exact execOpaqueRelayTx_may h (Sub.rfl.inl.inl.inr.inr.inr.inr.inr.inl.trans hm) hr hs
  | flwCtx _ _ _ _ => exact execFlwCtx_may h (Sub.rfl.inr.inl.inr.inr.inr.inr.inr.inl.trans hm) hr hs
  | flwRxRecordCommit _ => exact execFlwRxRecordCommit_may h (Sub.rfl.inl.inr.inr.inr.inr.inr.inr.inl.trans hm) hr hs
  | flwClrCnt => exact execFlwClrCnt_may h (Sub.rfl.inr.inr.inr.inr.inr.inr.inr.inl.trans hm) hs
  | refActivityLoss _ _ => exact execRefActivityLoss_may h (Sub.rfl.inl.inl.inl.inl.inl.inl.inr.trans hm) hr hs
  | refWindowUpdate _ _ _ => exact execRefWindowUpdate_may h (Sub.rfl.inl.inr.inl.inl.inl.inl.inl.inr.trans hm) hr hs
  | refWtrExpire _ _ => exact execRefWtrExpire_may h (Sub.rfl.inr.inr.inl.inl.inl.inl.inl.inr.trans hm) hr hs
  | transitionMeasureEnd _ => exact execTransitionMeasureEnd_may h (Sub.rfl.inl.inl.inr.inl.inl.inl.inl.inr.trans hm) hr hs
  | pipForceEn _ _ _ => exact execPipForceEn_may h (Sub.rfl.inr.inl.inr.inl.inl.inl.inl.inr.trans hm) hr hs
  | pipForceHold _ _ => exact execPipForceHold_may h (Sub.rfl.inl.inr.inr.inl.inl.inl.inl.inr.trans hm) hr hs
  | refPrioWrite _ _ _ _ _ => exact execRefPrioWrite_may h (Sub.rfl.inr.inr.inr.inl.inl.inl.inl.inr.trans hm) hr hs
  | pipClrCnt => exact execPipClrCnt_may h (Sub.rfl.inl.inl.inl.inr.inl.inl.inl.inr.trans hm) hs
  | planeFrameBoundary _ _ _ => exact execPlaneFrameBoundary_may h (Sub.rfl.inr.inl.inl.inr.inl.inl.inl.inr.trans hm) hr hs
  | hardRealign _ _ => exact execHardRealign_may h (Sub.rfl.inl.inr.inl.inr.inl.inl.inl.inr.trans hm) hr hs
  | pulseEvent _ _ _ => exact execPulseEvent_may h (Sub.rfl.inr.inr.inl.inr.inl.inl.inl.inr.trans hm) hr hs
  | pulseConfigWrite _ _ _ _ => exact execPulseConfigWrite_may h (Sub.rfl.inl.inl.inr.inr.inl.inl.inl.inr.trans hm) hr hs
  | timeServoUpdate _ _ => exact execTimeServoUpdate_may h (Sub.rfl.inr.inl.inr.inr.inl.inl.inl.inr.trans hm) hr hs
  | localTimeSecond _ => exact execLocalTimeSecond_may h (Sub.rfl.inl.inr.inr.inr.inl.inl.inl.inr.trans hm) hr hs
  | timSetApply _ => exact execTimSetApply_may h (Sub.rfl.inr.inr.inr.inr.inl.inl.inl.inr.trans hm) hr hs
  | timClrCnt => exact execTimClrCnt_may h (Sub.rfl.inl.inl.inl.inr.inl.inl.inr.trans hm) hs
  | ptpCfgWrite _ _ _ => exact execPtpCfgWrite_may h (Sub.rfl.inl.inr.inl.inl.inr.inl.inl.inr.trans hm) hr hs
  | ptpMessageRx _ _ _ _ _ => exact execPtpMessageRx_may h (Sub.rfl.inr.inr.inl.inl.inr.inl.inl.inr.trans hm) hr hs
  | announceTimeout _ _ => exact execAnnounceTimeout_may h (Sub.rfl.inl.inl.inr.inl.inr.inl.inl.inr.trans hm) hr hs
  | barkTx _ => exact execBarkTx_may h (Sub.rfl.inr.inl.inr.inl.inr.inl.inl.inr.trans hm) hr hs
  | bootBark _ => exact execBootBark_may h (Sub.rfl.inl.inr.inr.inl.inr.inl.inl.inr.trans hm) hs
  | barkRx _ _ _ => exact execBarkRx_may h (Sub.rfl.inr.inr.inr.inl.inr.inl.inl.inr.trans hm) hr hs
  | pathLost _ _ => exact execPathLost_may h (Sub.rfl.inl.inl.inl.inr.inr.inl.inl.inr.trans hm) hr hs
  | handshakeTimeout _ => exact execHandshakeTimeout_may h (Sub.rfl.inr.inl.inl.inr.inr.inl.inl.inr.trans hm) hr hs
  | evidenceTimer _ => exact execEvidenceTimer_may h (Sub.rfl.inl.inr.inl.inr.inr.inl.inl.inr.trans hm) hr hs
  | claimWatchdogExpiry _ => exact execClaimWatchdogExpiry_may h (Sub.rfl.inr.inr.inl.inr.inr.inl.inl.inr.trans hm) hr hs
  | yieldTimer _ => exact execYieldTimer_may h (Sub.rfl.inl.inl.inr.inr.inr.inl.inl.inr.trans hm) hr hs
  | withdrawEnd _ => exact execWithdrawEnd_may h (Sub.rfl.inr.inl.inr.inr.inr.inl.inl.inr.trans hm) hr hs
  | lockstepMismatch _ _ _ => exact execLockstepMismatch_may h (Sub.rfl.inl.inr.inr.inr.inr.inl.inl.inr.trans hm) hr hs
  | fitRestoreTimer _ _ => exact execFitRestoreTimer_may h (Sub.rfl.inr.inr.inr.inr.inr.inl.inl.inr.trans hm) hr hs
  | mirror _ _ => exact execMirror_may h (Sub.rfl.inl.inl.inl.inl.inr.inl.inr.trans hm) hr hs
  | mirrorAck _ _ => exact execMirrorAck_may h (Sub.rfl.inl.inr.inl.inl.inl.inr.inl.inr.trans hm) hr hs
  | commitRpt _ _ _ => exact execCommitRpt_may h (Sub.rfl.inr.inr.inl.inl.inl.inr.inl.inr.trans hm) hr hs
  | decision _ _ => exact execDecision_may h (Sub.rfl.inl.inl.inr.inl.inl.inr.inl.inr.trans hm) hr hs
  | health _ _ => exact execHealth_may h (Sub.rfl.inr.inl.inr.inl.inl.inr.inl.inr.trans hm) hr hs
  | resyncReq _ _ => exact execResyncReq_may h (Sub.rfl.inl.inr.inr.inl.inl.inr.inl.inr.trans hm) hr hs
  | resyncAck _ _ => exact execResyncAck_may h (Sub.rfl.inr.inr.inr.inl.inl.inr.inl.inr.trans hm) hr hs
  | state _ _ _ => exact execState_may h (Sub.rfl.inl.inl.inl.inr.inl.inr.inl.inr.trans hm) hr hs
  | stateAck _ => exact execStateAck_may h (Sub.rfl.inr.inl.inl.inr.inl.inr.inl.inr.trans hm) hr hs
  | messageRetransmit _ => exact execMessageRetransmit_may h (Sub.rfl.inl.inr.inl.inr.inl.inr.inl.inr.trans hm) hr hs
  | healthRecordTx _ => exact execHealthRecordTx_may h (Sub.rfl.inr.inr.inl.inr.inl.inr.inl.inr.trans hm) hr hs
  | sniffCycleStart _ _ => exact execSniffCycleStart_may h (Sub.rfl.inl.inl.inr.inr.inl.inr.inl.inr.trans hm) hr hs
  | twnYield _ => exact execTwnYield_may h (Sub.rfl.inr.inl.inr.inr.inl.inr.inl.inr.trans hm) hr hs
  | twnTake _ => exact execTwnTake_may h (Sub.rfl.inl.inr.inr.inr.inl.inr.inl.inr.trans hm) hr hs
  | twnResync _ => exact execTwnResync_may h (Sub.rfl.inr.inr.inr.inr.inl.inr.inl.inr.trans hm) hr hs
  | twnFeedBoth _ _ => exact execTwnFeedBoth_may h (Sub.rfl.inl.inl.inl.inr.inr.inl.inr.trans hm) hr hs
  | twnClrCnt => exact execTwnClrCnt_may h (Sub.rfl.inl.inr.inl.inl.inr.inr.inl.inr.trans hm) hs
  | sqDoorbell _ _ _ => exact execSqDoorbell_may h (Sub.rfl.inr.inr.inl.inl.inr.inr.inl.inr.trans hm) hr hs
  | sqReadError _ _ _ => exact execSqReadError_may h (Sub.rfl.inl.inl.inr.inl.inr.inr.inl.inr.trans hm) hr hs
  | sqEnable _ _ _ => exact execSqEnable_may h (Sub.rfl.inr.inl.inr.inl.inr.inr.inl.inr.trans hm) hr hs
  | cqHeadWrite _ _ _ => exact execCqHeadWrite_may h (Sub.rfl.inl.inr.inr.inl.inr.inr.inl.inr.trans hm) hr hs
  | nop _ _ _ => exact execNop_may h (Sub.rfl.inr.inr.inr.inl.inr.inr.inl.inr.trans hm) hr hs
  | fence _ _ _ => exact execFence_may h (Sub.rfl.inl.inl.inl.inr.inr.inr.inl.inr.trans hm) hr hs
  | eventPop => exact execEventPop_may h (Sub.rfl.inr.inl.inl.inr.inr.inr.inl.inr.trans hm) hs
  | eventArm => exact execEventArm_may h (Sub.rfl.inl.inr.inl.inr.inr.inr.inl.inr.trans hm) hs
  | accessErrRead => exact execAccessErrRead_may h (Sub.rfl.inr.inr.inl.inr.inr.inr.inl.inr.trans hm) hs
  | msixCoalesceTimeout _ _ => exact execMsixCoalesceTimeout_may h (Sub.rfl.inl.inl.inr.inr.inr.inr.inl.inr.trans hm) hr hs
  | netTxDoorbell _ _ _ _ => exact execNetTxDoorbell_may h (Sub.rfl.inr.inl.inr.inr.inr.inr.inl.inr.trans hm) hr hs
  | netTxReadError _ _ _ => exact execNetTxReadError_may h (Sub.rfl.inl.inr.inr.inr.inr.inr.inl.inr.trans hm) hr hs
  | netRxTail _ _ _ _ => exact execNetRxTail_may h (Sub.rfl.inr.inr.inr.inr.inr.inr.inl.inr.trans hm) hr hs
  | hifClrCnt => exact execHifClrCnt_may h (Sub.rfl.inl.inl.inl.inl.inl.inr.inr.trans hm) hs
  | bar0AccessRefused _ _ _ _ => exact execBar0AccessRefused_may h (Sub.rfl.inl.inr.inl.inl.inl.inl.inr.inr.trans hm) hs
  | bar2Access _ _ _ _ => exact execBar2Access_may h (Sub.rfl.inr.inr.inl.inl.inl.inl.inr.inr.trans hm) hs
  | registerWrite _ _ _ _ => exact execRegisterWrite_may h (Sub.rfl.inl.inl.inr.inl.inl.inl.inr.inr.trans hm) hr hs
  | imageWrite _ _ _ _ _ => exact execImageWrite_may h (Sub.rfl.inr.inl.inr.inl.inl.inl.inr.inr.trans hm) hr hs
  | imageWriteDone _ _ => exact execImageWriteDone_may h (Sub.rfl.inl.inr.inr.inl.inl.inl.inr.inr.trans hm) hr hs
  | imageReload _ _ _ _ => exact execImageReload_may h (Sub.rfl.inr.inr.inr.inl.inl.inl.inr.inr.trans hm) hr hs
  | imageValidated _ _ => exact execImageValidated_may h (Sub.rfl.inl.inl.inl.inr.inl.inl.inr.inr.trans hm) hr hs
  | rbCommit _ _ => exact execRbCommit_may h (Sub.rfl.inr.inl.inl.inr.inl.inl.inr.inr.trans hm) hr hs
  | labelCommit _ _ _ => exact execLabelCommit_may h (Sub.rfl.inl.inr.inl.inr.inl.inl.inr.inr.trans hm) hr hs
  | labelCommitDone _ _ => exact execLabelCommitDone_may h (Sub.rfl.inr.inr.inl.inr.inl.inl.inr.inr.trans hm) hr hs
  | grant _ _ => exact execGrant_may h (Sub.rfl.inl.inl.inr.inr.inl.inl.inr.inr.trans hm) hr hs
  | grantClear _ _ => exact execGrantClear_may h (Sub.rfl.inr.inl.inr.inr.inl.inl.inr.inr.trans hm) hr hs
  | keySet _ _ => exact execKeySet_may h (Sub.rfl.inl.inr.inr.inr.inl.inl.inr.inr.trans hm) hr hs
  | lifecycle _ _ => exact execLifecycle_may h (Sub.rfl.inr.inr.inr.inr.inl.inl.inr.inr.trans hm) hr hs
  | evalFix _ _ => exact execEvalFix_may h (Sub.rfl.inl.inl.inl.inr.inl.inr.inr.trans hm) hr hs
  | classReq _ _ => exact execClassReq_may h (Sub.rfl.inl.inr.inl.inl.inr.inl.inr.inr.trans hm) hr hs
  | auditRead _ _ => exact execAuditRead_may h (Sub.rfl.inr.inr.inl.inl.inr.inl.inr.inr.trans hm) hr hs
  | auditSign _ _ => exact execAuditSign_may h (Sub.rfl.inl.inl.inr.inl.inr.inl.inr.inr.trans hm) hr hs
  | deviceKey _ _ => exact execDeviceKey_may h (Sub.rfl.inr.inl.inr.inl.inr.inl.inr.inr.trans hm) hr hs
  | challengeGet _ => exact execChallengeGet_may h (Sub.rfl.inl.inr.inr.inl.inr.inl.inr.inr.trans hm) hr hs
  | challengeAnswer _ _ _ => exact execChallengeAnswer_may h (Sub.rfl.inr.inr.inr.inl.inr.inl.inr.inr.trans hm) hr hs
  | nonceExpire _ => exact execNonceExpire_may h (Sub.rfl.inl.inl.inl.inr.inr.inl.inr.inr.trans hm) hr hs
  | debugLockoutExpire _ => exact execDebugLockoutExpire_may h (Sub.rfl.inr.inl.inl.inr.inr.inl.inr.inr.trans hm) hr hs
  | extest _ _ => exact execExtest_may h (Sub.rfl.inl.inr.inl.inr.inr.inl.inr.inr.trans hm) hs
  | samplePreload _ _ => exact execSamplePreload_may h (Sub.rfl.inr.inr.inl.inr.inr.inl.inr.inr.trans hm) hs
  | idcode _ => exact execIdcode_may h (Sub.rfl.inl.inl.inr.inr.inr.inl.inr.inr.trans hm) hs
  | highz _ _ => exact execHighz_may h (Sub.rfl.inr.inl.inr.inr.inr.inl.inr.inr.trans hm) hs
  | clamp _ _ => exact execClamp_may h (Sub.rfl.inl.inr.inr.inr.inr.inl.inr.inr.trans hm) hs
  | dbgAccess _ _ _ _ _ => exact execDbgAccess_may h (Sub.rfl.inr.inr.inr.inr.inr.inl.inr.inr.trans hm) hr hs
  | dbgChal _ _ _ _ _ => exact execDbgChal_may h (Sub.rfl.inl.inl.inl.inl.inr.inr.inr.trans hm) hr hs
  | bypass _ _ _ => exact execBypass_may h (Sub.rfl.inl.inr.inl.inl.inl.inr.inr.inr.trans hm) hs
  | trstN _ => exact execTrstN_may h (Sub.rfl.inr.inr.inl.inl.inl.inr.inr.inr.trans hm) hs
  | dbgRelock _ _ => exact execDbgRelock_may h (Sub.rfl.inl.inl.inr.inl.inl.inr.inr.inr.trans hm) hr hs
  | dbgModuleReset _ _ _ _ => exact execDbgModuleReset_may h (Sub.rfl.inr.inl.inr.inl.inl.inr.inr.inr.trans hm) hr hs
  | dbgHalt _ => exact execDbgHalt_may h (Sub.rfl.inl.inr.inr.inl.inl.inr.inr.inr.trans hm) hr hs
  | dbgResume _ => exact execDbgResume_may h (Sub.rfl.inr.inr.inr.inl.inl.inr.inr.inr.trans hm) hr hs
  | dbgStep _ => exact execDbgStep_may h (Sub.rfl.inl.inl.inl.inr.inl.inr.inr.inr.trans hm) hr hs
  | dbgHaltAtBlock _ => exact execDbgHaltAtBlock_may h (Sub.rfl.inr.inl.inl.inr.inl.inr.inr.inr.trans hm) hr hs
  | breakpointHit _ _ _ => exact execBreakpointHit_may h (Sub.rfl.inl.inr.inl.inr.inl.inr.inr.inr.trans hm) hr hs
  | dbgMemGo _ _ => exact execDbgMemGo_may h (Sub.rfl.inr.inr.inl.inr.inl.inr.inr.inr.trans hm) hr hs
  | dbgMemDone _ _ => exact execDbgMemDone_may h (Sub.rfl.inl.inl.inr.inr.inl.inr.inr.inr.trans hm) hr hs
  | domainStartFail _ _ => exact execDomainStartFail_may h (Sub.rfl.inr.inl.inr.inr.inl.inr.inr.inr.trans hm) hr hs
  | sensorUpdate _ _ => exact execSensorUpdate_may h (Sub.rfl.inl.inr.inr.inr.inl.inr.inr.inr.trans hm) hs
  | thermalWarningHeld _ => exact execThermalWarningHeld_may h (Sub.rfl.inr.inr.inr.inr.inl.inr.inr.inr.trans hm) hr hs
  | feedMeasure _ _ _ => exact execFeedMeasure_may h (Sub.rfl.inl.inl.inl.inl.inr.inr.inr.inr.trans hm) hr hs
  | monClrMax => exact execMonClrMax_may h (Sub.rfl.inr.inl.inl.inl.inr.inr.inr.inr.trans hm) hs
  | monClrCnt => exact execMonClrCnt_may h (Sub.rfl.inl.inr.inl.inl.inr.inr.inr.inr.trans hm) hs
  | domainReachesOn _ _ => exact execDomainReachesOn_may h (Sub.rfl.inr.inr.inl.inl.inr.inr.inr.inr.trans hm) hr hs
  | pllLocked _ _ _ => exact execPllLocked_may h (Sub.rfl.inl.inl.inr.inl.inr.inr.inr.inr.trans hm) hr hs
  | cdrLockAcquired _ _ => exact execCdrLockAcquired_may h (Sub.rfl.inr.inl.inr.inl.inr.inr.inr.inr.trans hm) hr hs
  | forwardedClockActivity _ _ _ => exact execForwardedClockActivity_may h (Sub.rfl.inl.inr.inr.inl.inr.inr.inr.inr.trans hm) hr hs
  | sramUncorrectableError _ _ _ => exact execSramUncorrectableError_may h (Sub.rfl.inr.inr.inr.inl.inr.inr.inr.inr.trans hm) hr hs
  | kennelStackFailure _ _ => exact execKennelStackFailure_may h (Sub.rfl.inl.inl.inl.inr.inr.inr.inr.inr.trans hm) hr hs
  | clockMonitorFailure _ => exact execClockMonitorFailure_may h (Sub.rfl.inr.inl.inl.inr.inr.inr.inr.inr.trans hm) hr hs
  | leadFrameDecision _ _ _ _ _ => exact execLeadFrameDecision_may h (Sub.rfl.inl.inr.inl.inr.inr.inr.inr.inr.trans hm) hr hs
  | delayReqTx _ _ => exact execDelayReqTx_may h (Sub.rfl.inr.inr.inl.inr.inr.inr.inr.inr.trans hm) hr hs
  | hostPerstNDeassert _ => exact execHostPerstNDeassert_may h (Sub.rfl.inl.inl.inr.inr.inr.inr.inr.inr.trans hm) hs
  | configurationSpaceReady _ => exact execConfigurationSpaceReady_may h (Sub.rfl.inr.inl.inr.inr.inr.inr.inr.inr.trans hm) hs
  | msixMaskWrite _ _ => exact execMsixMaskWrite_may h (Sub.rfl.inl.inr.inr.inr.inr.inr.inr.inr.trans hm) hs
  | latchedRead _ _ => exact execLatchedRead_may h (Sub.rfl.inr.inr.inr.inr.inr.inr.inr.inr.trans hm) hs

end

end Sys2Proof.Machine
end

