-- ==== Sys2Proof/Laws/Running.lean ====
section
/-! SUPPORT. What `running` and `hideRunning` do to the register fields of the running blocks, and which properties of states survive
them. -/

namespace Sys2Proof.Machine

/-! ### Columns -/

theorem running_nodup : (runningFields.map Fld.id).Nodup := by decide +kernel

theorem mget_forEach_putCol (m : List (Nat × List (Nat × Nat))) (k : Nat) (l : List Fld) (s : State) :
    mget [] (forEach l (fun f s => putCol f (mget [] m f.id) s) s).regs k
      = if k ∈ l.map Fld.id then mget [] m k else mget [] s.regs k := by
  unfold forEach
  induction l generalizing s with
  | nil => simp
  | cons f l ih =>
    rw [List.foldl_cons, ih, List.map_cons]
    by_cases hl : k ∈ l.map Fld.id
    · rw [if_pos hl, if_pos (List.mem_cons_of_mem _ hl)]
    · rw [if_neg hl]
      by_cases hk : k = f.id
      · rw [hk, if_pos List.mem_cons_self]
        exact mget_mput_self [] _ _ _
      · rw [if_neg (fun h => (List.mem_cons.mp h).elim hk hl)]
        exact mget_mput_ne [] [] _ _ hk

theorem putCols_regs (m : List (Nat × List (Nat × Nat))) (s : State) : ∃ r, putCols m s = { s with regs := r } := by
  have key : ∀ (l : List Fld) (u : State), (∃ r, u = { s with regs := r }) →
      ∃ r, l.foldl (fun s f => putCol f (mget [] m f.id) s) u = { s with regs := r } := by
    intro l
    induction l with
    | nil => exact fun u h => h
    | cons f l ih =>
      rintro _ ⟨r, rfl⟩
      exact ih _ ⟨_, rfl⟩
  exact key runningFields s ⟨s.regs, rfl⟩

theorem putCols_same (m : List (Nat × List (Nat × Nat))) (s : State) (p : Part) : p.same s (putCols m s) := by
  obtain ⟨r, h⟩ := putCols_regs m s
  rw [h]
  cases p <;> exact Eq.refl _

@[simp] theorem putCols_hold (m : List (Nat × List (Nat × Nat))) (s : State) : (putCols m s).hold = s.hold := putCols_same m s .hold

/-- `putCols` sets the columns of the running fields and no other. -/
theorem getF_putCols_ne {f : Fld} (h : f.id ∉ runningFields.map Fld.id) (m : List (Nat × List (Nat × Nat))) (i : Nat) (s : State) :
    getF f i (putCols m s) = getF f i s := by
  simp only [getF, putCols, mget_forEach_putCol, if_neg h]

theorem getF_putCols {f : Fld} (h : f.id ∈ runningFields.map Fld.id) (m : List (Nat × List (Nat × Nat))) (i : Nat) (s : State) :
    getF f i (putCols m s) = mget (f.resetAt i) (mget [] m f.id) i := by
  simp only [getF, putCols, mget_forEach_putCol, if_pos h]

theorem mget_cols (c : Fld → List (Nat × Nat)) {l : List Fld} (hn : (l.map Fld.id).Nodup) {f : Fld} (hf : f ∈ l) :
    mget [] (l.map (fun g => (g.id, c g))) f.id = c f := by
  induction l with
  | nil => cases hf
  | cons g l ih =>
    rw [List.map_cons, List.nodup_cons] at hn
    rw [List.map_cons]
    rcases List.mem_cons.mp hf with rfl | hf
    · simp [mget]
    · have : g.id ≠ f.id := fun e => hn.1 (e ▸ List.mem_map.mpr ⟨f, hf, rfl⟩)
      simp only [mget, if_neg this]
      exact ih hn.2 hf

/-- The columns held of a state are those of its registers. -/
theorem mget_runningCols {k : Nat} (h : k ∈ runningFields.map Fld.id) (s : State) : mget [] (runningCols s) k = mget [] s.regs k := by
  obtain ⟨g, hg, rfl⟩ := List.mem_map.mp h
  exact mget_cols (fun f => colOf f s) running_nodup hg

theorem shownCol_eq {f : Fld} {old new vis : List (Nat × Nat)} (h : ∀ i, mget (f.resetAt i) new i = mget (f.resetAt i) old i) :
    shownCol f old new vis = vis := by
  unfold shownCol
  have key : ∀ (l : List Nat) (c : List (Nat × Nat)),
      l.foldl (fun c i => if mget (f.resetAt i) new i = mget (f.resetAt i) old i then c else mput (f.resetAt i) c i (mget (f.resetAt i) new i)) c = c := by
    intro l
    induction l with
    | nil => exact fun _ => rfl
    | cons a l ih => intro c; rw [List.foldl_cons, if_pos (h a)]; exact ih c
  exact key _ _

theorem mget_append_of {d : Nat} {a b : List (Nat × Nat)} {i : Nat} (h : i ∉ (a ++ b).map Prod.fst) : mget d a i = d ∧ mget d b i = d := by
  have key : ∀ m : List (Nat × Nat), i ∉ m.map Prod.fst → mget d m i = d := by
    intro m
    induction m with
    | nil => exact fun _ => rfl
    | cons e m ih =>
      intro hm
      rw [List.map_cons, List.mem_cons, not_or] at hm
      rw [show e = (e.1, e.2) from rfl, mget, if_neg (fun x => hm.1 x.symm)]
      exact ih hm.2
  rw [List.map_append, List.mem_append, not_or] at h
  exact ⟨key a h.1, key b h.2⟩

/-- An instance whose running value changed shows it; the others show what they did (R610). -/
theorem mget_shownCol (f : Fld) (old new vis : List (Nat × Nat)) (i : Nat) :
    mget (f.resetAt i) (shownCol f old new vis) i
      = if mget (f.resetAt i) new i = mget (f.resetAt i) old i then mget (f.resetAt i) vis i else mget (f.resetAt i) new i := by
  have key : ∀ (l : List Nat) (c : List (Nat × Nat)),
      mget (f.resetAt i) (l.foldl (fun c i => if mget (f.resetAt i) new i = mget (f.resetAt i) old i then c
        else mput (f.resetAt i) c i (mget (f.resetAt i) new i)) c) i
        = if i ∈ l ∧ mget (f.resetAt i) new i ≠ mget (f.resetAt i) old i then mget (f.resetAt i) new i else mget (f.resetAt i) c i := by
    intro l
    induction l with
    | nil => simp
    | cons a l ih =>
      intro c
      rw [List.foldl_cons, ih]
      by_cases ha : a = i
      · subst ha
        by_cases he : mget (f.resetAt a) new a = mget (f.resetAt a) old a <;> simp [he]
      · have hm : mget (f.resetAt i) (mput (f.resetAt a) c a (mget (f.resetAt a) new a)) i = mget (f.resetAt i) c i :=
          mget_mput_ne _ _ _ _ (fun e => ha e.symm)
        have hi : i ∈ a :: l ↔ i ∈ l := ⟨fun h => (List.mem_cons.mp h).resolve_left (fun e => ha e.symm), List.mem_cons_of_mem a⟩
        simp only [hi]
        split
        · rfl
        · split
          · rfl
          · exact hm
  unfold shownCol
  rw [key]
  by_cases he : mget (f.resetAt i) new i = mget (f.resetAt i) old i
  · simp [he]
  · have hi : i ∈ (new ++ old).map Prod.fst := by
      by_cases h : i ∈ (new ++ old).map Prod.fst
      · exact h
      · obtain ⟨h1, h2⟩ := mget_append_of (d := f.resetAt i) h
        exact absurd (h1.trans h2.symm) he
    rw [if_pos ⟨hi, he⟩, if_neg he]

/-! ### What a step of running blocks does -/

theorem running_plain {s : State} (h : ∀ live, s.hold ≠ .hidden live) (f : State → State) : running f s = f s := by
  unfold running
  split
  · rename_i hh; exact absurd hh (h _)
  · rfl

theorem getF_withHold (f : Fld) (i : Nat) (x : RunView) (s : State) : getF f i { s with hold := x } = getF f i s := rfl

theorem same_withHold (x : RunView) {s u : State} {p : Part} (hp : p ≠ .hold) (h : p.same s u) : p.same s { u with hold := x } := by
  cases p <;> first | exact h | exact absurd rfl hp

theorem running_hidden {s : State} {live : List (Nat × List (Nat × Nat))} (h : s.hold = .hidden live) (f : State → State) :
    running f s = match (f (runningFrom live s)).hold with
      | .shown vis => runningTo live vis (f (runningFrom live s))
      | _ => f (runningFrom live s) := by
  simp only [running, h] <;> rfl

theorem runningFrom_same (live : List (Nat × List (Nat × Nat))) (s : State) {p : Part} (hp : p ≠ .hold) : p.same s (runningFrom live s) :=
  same_withHold _ hp (putCols_same live s p)

theorem runningTo_same (live vis : List (Nat × List (Nat × Nat))) (u : State) {p : Part} (hp : p ≠ .hold) : p.same u (runningTo live vis u) :=
  same_withHold _ hp (putCols_same _ u p)

theorem getF_runningFrom_ne {f : Fld} (h : f.id ∉ runningFields.map Fld.id) (live : List (Nat × List (Nat × Nat))) (i : Nat) (s : State) :
    getF f i (runningFrom live s) = getF f i s := (getF_withHold f i _ _).trans (getF_putCols_ne h live i s)

theorem getF_runningFrom {f : Fld} (h : f.id ∈ runningFields.map Fld.id) (live : List (Nat × List (Nat × Nat))) (i : Nat) (s : State) :
    getF f i (runningFrom live s) = mget (f.resetAt i) (mget [] live f.id) i := (getF_withHold f i _ _).trans (getF_putCols h live i s)

theorem getF_runningTo_ne {f : Fld} (h : f.id ∉ runningFields.map Fld.id) (live vis : List (Nat × List (Nat × Nat))) (i : Nat) (u : State) :
    getF f i (runningTo live vis u) = getF f i u := (getF_withHold f i _ _).trans (getF_putCols_ne h _ i u)

/-- After the work a running field shows its running value where that changed, and what it did elsewhere (R610). -/
theorem getF_runningTo {f : Fld} (hf : f ∈ runningFields) (live vis : List (Nat × List (Nat × Nat))) (u : State) (i : Nat) :
    getF f i (runningTo live vis u)
      = if getF f i u = mget (f.resetAt i) (mget [] live f.id) i then mget (f.resetAt i) (mget [] vis f.id) i else getF f i u := by
  have hm : f.id ∈ runningFields.map Fld.id := List.mem_map.mpr ⟨f, hf, rfl⟩
  refine (getF_withHold f i _ _).trans ((getF_putCols hm _ i u).trans ?_)
  rw [mget_cols (fun g => shownCol g (mget [] live g.id) (mget [] (runningCols u) g.id) (mget [] vis g.id)) running_nodup hf, mget_shownCol,
    mget_runningCols hm]
  rfl

/-- A column whose running values are as they were shows what it did, whatever field it is read as. -/
theorem getF_runningTo_eq {f : Fld} (hm : f.id ∈ runningFields.map Fld.id) {live : List (Nat × List (Nat × Nat))} {s u : State}
    (h : ∀ g : Fld, g.id = f.id → ∀ i, getF g i u = getF g i (runningFrom live s)) (i : Nat) :
    getF f i (runningTo live (runningCols s) u) = getF f i s := by
  refine (getF_withHold f i _ _).trans ((getF_putCols hm _ i u).trans ?_)
  obtain ⟨g, hg, he⟩ := List.mem_map.mp hm
  have hgm : g.id ∈ runningFields.map Fld.id := he ▸ hm
  rw [← he, mget_cols (fun g => shownCol g (mget [] live g.id) (mget [] (runningCols u) g.id) (mget [] (runningCols s) g.id)) running_nodup hg]
  rw [shownCol_eq, mget_runningCols hgm, he]
  · rfl
  · intro j
    rw [mget_runningCols hgm]
    exact (h g he j).trans (getF_runningFrom hgm live j s)

/-! ### Register columns as the invariants ask -/

theorem cols_ok_mput {f : Fld} {c : List (Nat × Nat)} (h : fieldTableOk (f.id, c) = true) (hf : fieldOf f.id = some f) (i : Nat) {v : Nat}
    (hv : v < 2 ^ f.width) : fieldTableOk (f.id, mput (f.resetAt i) c i v) = true := by
  simp only [fieldTableOk, hf, Bool.and_eq_true, List.all_eq_true, decide_eq_true_eq, bne_iff_ne, ne_eq, risingFrom_none] at h ⊢
  unfold mput
  split
  · exact ⟨rising_mdrop i h.1, fun p hp => h.2 p (List.mem_filter.mp hp).1⟩
  · rename_i hn
    refine ⟨rising_minsert i v h.1, fun p hp => ?_⟩
    rcases mem_minsert hp with rfl | hp
    · exact ⟨hv, hn⟩
    · exact h.2 p hp

/-- A value that a column lists, or its field's reset value, fits the field. -/
theorem mget_lt {f : Fld} {c : List (Nat × Nat)} (h : fieldTableOk (f.id, c) = true) (hf : fieldOf f.id = some f) (i : Nat) :
    mget (f.resetAt i) c i = f.resetAt i ∨ mget (f.resetAt i) c i < 2 ^ f.width := by
  simp only [fieldTableOk, hf, Bool.and_eq_true, List.all_eq_true, decide_eq_true_eq] at h
  have key : ∀ m : List (Nat × Nat), (∀ p ∈ m, p.2 < 2 ^ f.width) → mget (f.resetAt i) m i = f.resetAt i ∨ mget (f.resetAt i) m i < 2 ^ f.width := by
    intro m
    induction m with
    | nil => exact fun _ => .inl rfl
    | cons e m ih =>
      intro hm
      rw [show e = (e.1, e.2) from rfl, mget]
      split
      · exact .inr (hm e List.mem_cons_self)
      · exact ih (fun p hp => hm p (List.mem_cons_of_mem _ hp))
  exact key c (fun p hp => (h.2 p hp).1)

/-- What a field shows is a column of the field. -/
theorem shownCol_ok {f : Fld} {old new vis : List (Nat × Nat)} (hf : fieldOf f.id = some f) (hn : fieldTableOk (f.id, new) = true)
    (hv : fieldTableOk (f.id, vis) = true) : fieldTableOk (f.id, shownCol f old new vis) = true := by
  unfold shownCol
  generalize (new ++ old).map (·.1) = l
  induction l generalizing vis with
  | nil => exact hv
  | cons a l ih =>
    rw [List.foldl_cons]
    refine ih ?_
    split
    · exact hv
    · rcases mget_lt hn hf a with he | hl
      · rw [he]
        simp only [mput, if_pos]
        simp only [fieldTableOk, hf, Bool.and_eq_true, List.all_eq_true, risingFrom_none] at hv ⊢
        exact ⟨rising_mdrop a hv.1, fun p hp => hv.2 p (List.mem_filter.mp hp).1⟩
      · exact cols_ok_mput hv hf a hl

end Sys2Proof.Machine
end

