-- ==== Sys2Proof/Laws/Frame.lean ====
section
/-! SUPPORT. The frame of what a mask names: nothing outside its parts and fields differs. -/

namespace Sys2Proof.Machine

theorem foldl_or_testBit {α : Type} (g : α → Nat) (l : List α) (a n : Nat) :
    (l.foldl (fun m x => m ||| 2 ^ g x) a).testBit n = (a.testBit n || l.any (fun x => g x == n)) := by
  induction l generalizing a with
  | nil => simp
  | cons x l ih => rw [List.foldl_cons, ih, Nat.testBit_or, Nat.testBit_two_pow, List.any_cons, Bool.or_assoc]; rfl

theorem mask_testBit (fs : List Fld) (n : Nat) : (mask fs).testBit n = fs.any (fun f => f.id == n) := by
  rw [mask, foldl_or_testBit]; simp

theorem pmask_testBit (ps : List Part) (n : Nat) : (pmask ps).testBit n = ps.any (fun p => p.bit == n) := by
  rw [pmask, foldl_or_testBit]; simp

theorem Part.bit_inj {p q : Part} (h : p.bit = q.bit) : p = q := by
  cases p <;> cases q <;> first | rfl | (exact absurd h (by decide))

/-- The fields that a reset of the listed domains returns (R16). -/
def fldsOf (ds : List Dom) : List Fld := allFields.filter (fun f => ds.contains f.dom)

/-- Bits of the wholesale operations. -/
def wholeBits : Nat := 2 ^ roleBit ||| 2 ^ domsBit ||| 2 ^ imageBit ||| 2 ^ deadBit ||| 2 ^ hideBit

/-- `m` names nothing but the parts `ps`, the fields `fs` and, where the fields they write are among these, the role, resets by domain and
operations that change what the fields of the running blocks show. -/
def framed (m : Nat) (ps : List Part) (fs : List Fld) : Prop :=
  Sub m (pmask ps ||| mask fs ||| wholeBits) ∧ (fs.all (fun f => decide (f.id < 931))) = true ∧
    (m.testBit roleBit = true → mask [TWN_STATUS.ROLE, TWN_STATUS.CLAIM] &&& mask fs = mask [TWN_STATUS.ROLE, TWN_STATUS.CLAIM]) ∧
    (m.testBit domsBit = true → mask (fldsOf [.module, .image]) &&& mask fs = mask (fldsOf [.module, .image])) ∧
    (m.testBit imageBit = true → mask (fldsOf [.image]) &&& mask fs = mask (fldsOf [.image])) ∧
    (m.testBit (Part.hold).bit = true ∨ m.testBit hideBit = true → mask runningFields &&& mask fs = mask runningFields)

theorem mem_of_mask {f : Fld} {as fs : List Fld} (h : mask as &&& mask fs = mask as) (hf : f.id ∈ as.map Fld.id) : f.id ∈ fs.map Fld.id := by
  have h1 : (mask as).testBit f.id = true := by
    rw [mask_testBit, List.any_eq_true]
    obtain ⟨g, hg, he⟩ := List.mem_map.mp hf
    exact ⟨g, hg, by rw [he]; exact beq_self_eq_true _⟩
  have h2 := Sub.testBit h h1
  rw [mask_testBit, List.any_eq_true] at h2
  obtain ⟨g, hg, he⟩ := h2
  exact List.mem_map.mpr ⟨g, hg, eq_of_beq he⟩

theorem wholeBits_range {n : Nat} (h : wholeBits.testBit n = true) : 1100 ≤ n := by
  simp only [wholeBits, Nat.testBit_or, Nat.testBit_two_pow, Bool.or_eq_true, decide_eq_true_eq, roleBit, domsBit, imageBit, deadBit, hideBit] at h
  omega

theorem wholeBits_power : wholeBits.testBit powerBit = false := by decide +kernel

theorem Part.bit_range (p : Part) : 1000 ≤ p.bit ∧ p.bit < 1033 := by cases p <;> decide

section
variable {m : Nat} {ps : List Part} {fs : List Fld}

theorem framed.fld (h : framed m ps fs) {f : Fld} (hf : Ok m f) : f.id ∈ fs.map Fld.id := by
  have hb : m.testBit f.id = true := by
    have h1 : okB m f = true := hf
    simp only [okB, Bool.and_eq_true] at h1; exact h1.1
  have hl : f.id < 931 := by
    have h1 : okB m f = true := hf
    simp only [okB, Bool.and_eq_true] at h1
    have h2 := fieldOf_of_isFld h1.2
    have h3 : f.id < allFields.length := by
      unfold fieldOf at h2
      exact (List.getElem?_eq_some_iff.mp h2).1
    have h4 : allFields.length = 931 := by decide +kernel
    omega
  have h1 := h.1.testBit hb
  rw [Nat.testBit_or, Nat.testBit_or, pmask_testBit, mask_testBit] at h1
  simp only [Bool.or_eq_true, List.any_eq_true] at h1
  rcases h1 with (⟨p, _, hp⟩ | ⟨g, hg, he⟩) | h1
  · have := p.bit_range; have hp := eq_of_beq hp; omega
  · exact List.mem_map.mpr ⟨g, hg, eq_of_beq he⟩
  · have := wholeBits_range h1; omega

theorem framed.part (h : framed m ps fs) {p : Part} (hb : m.testBit p.bit = true) : p ∈ ps := by
  have hr := p.bit_range
  have h1 := h.1.testBit hb
  rw [Nat.testBit_or, Nat.testBit_or, pmask_testBit, mask_testBit] at h1
  simp only [Bool.or_eq_true, List.any_eq_true] at h1
  rcases h1 with (⟨q, hq, he⟩ | ⟨g, hg, he⟩) | h1
  · rw [← Part.bit_inj (eq_of_beq he)]; exact hq
  · have h2 := List.all_eq_true.mp h.2.1 g hg
    have h3 := eq_of_beq he
    simp only [decide_eq_true_eq] at h2
    omega
  · have := wholeBits_range h1; omega

theorem framed.power (h : framed m ps fs) : m.testBit powerBit = false := by
  cases hb : m.testBit powerBit with
  | false => rfl
  | true =>
    have h1 := h.1.testBit hb
    rw [Nat.testBit_or, Nat.testBit_or, pmask_testBit, mask_testBit] at h1
    simp only [Bool.or_eq_true, List.any_eq_true] at h1
    rcases h1 with (⟨p, _, hp⟩ | ⟨g, hg, he⟩) | h1
    · have := p.bit_range; have hp := eq_of_beq hp; simp only [powerBit] at hp; omega
    · have h2 := List.all_eq_true.mp h.2.1 g hg
      have h3 := eq_of_beq he
      simp only [decide_eq_true_eq, powerBit] at h2 h3
      omega
    · exact absurd (wholeBits_power ▸ h1) (by decide)

/-- Writes to register columns of listed fields stay inside the frame. -/
theorem Frame.regs {s u v : State} (h : Frame ps fs s u) (hp : ∀ p : Part, p.same u v)
    (hf : ∀ f i, f.id ∉ fs.map Fld.id → getF f i v = getF f i u) : Frame ps fs s v := by
  refine ⟨fun p hn => ?_, fun f i hn => (hf f i hn).trans (h.2 f i hn)⟩
  have h1 := h.1 p hn
  have h2 := hp p
  cases p <;> exact Eq.trans h2 h1

theorem Frame.rfl (s : State) : Frame ps fs s s :=
  ⟨fun p _ => by cases p <;> exact Eq.refl _, fun _ _ _ => Eq.refl _⟩

theorem getF_putCol_ne {f g : Fld} (h : g.id ≠ f.id) (c : List (Nat × Nat)) (j : Nat) (s : State) : getF g j (putCol f c s) = getF g j s := by
  simp only [getF, putCol]
  rw [mget_mput_ne [] [] s.regs _ h]

/-- A change of one listed part stays inside the frame. -/
theorem Frame.part {s u v : State} (h : Frame ps fs s u) {p : Part} (hp : p ∈ ps) (hq : ∀ q : Part, q ≠ p → q.same u v)
    (hf : ∀ f i, getF f i v = getF f i u) : Frame ps fs s v := by
  refine ⟨fun q hn => ?_, fun f i hn => (hf f i).trans (h.2 f i hn)⟩
  have h1 := h.1 q hn
  have h2 := hq q (fun e => hn (e ▸ hp))
  cases q <;> exact Eq.trans h2 h1

theorem Frame.col {s u v : State} (h : Frame ps fs s u) {f : Fld} (hf : f.id ∈ fs.map Fld.id) (hp : ∀ p : Part, p.same u v)
    (hg : ∀ (g : Fld) (i : Nat), g.id ≠ f.id → getF g i v = getF g i u) : Frame ps fs s v :=
  h.regs hp (fun g i hn => hg g i (fun e => hn (e ▸ hf)))

theorem field_ids : allFields.map Fld.id = List.range 931 := by decide +kernel

theorem fieldOf_id {k : Nat} {g : Fld} (h : fieldOf k = some g) : g.id = k := by
  have h1 : (allFields.map Fld.id)[k]? = some g.id := by
    rw [List.getElem?_map]; exact congrArg (Option.map Fld.id) h
  rw [field_ids] at h1
  obtain ⟨_, h2⟩ := List.getElem?_eq_some_iff.mp h1
  rw [← h2, List.getElem_range]

theorem mget_filter_key {α : Type} {d : α} (q : Nat → Bool) {k : Nat} (h : q k = true) (m : List (Nat × α)) :
    mget d (m.filter (fun e => q e.1)) k = mget d m k := by
  induction m with
  | nil => rfl
  | cons e m ih =>
    obtain ⟨j, v⟩ := e
    by_cases hj : j = k
    · rw [List.filter_cons_of_pos (by rw [hj]; exact h)]; simp only [mget, if_pos hj]
    · rw [List.filter_cons]
      split
      · simp only [mget, if_neg hj]; exact ih
      · rw [ih]; simp only [mget, if_neg hj]

theorem getF_resetDomains {f : Fld} {ds : List Dom} (h : ∀ g, fieldOf f.id = some g → ds.contains g.dom = false) (i : Nat) (s : State) :
    getF f i (resetDomains ds s) = getF f i s := by
  have hq : (match fieldOf f.id with | some g => !(ds.contains g.dom) | none => true) = true := by
    cases hf : fieldOf f.id with
    | none => rfl
    | some g => simp only [h g hf, Bool.not_false]
  exact congrArg (fun c => mget (f.resetAt i) c i)
    (mget_filter_key (d := []) (fun k => match fieldOf k with | some g => !(ds.contains g.dom) | none => true) hq s.regs)

/-- A reset by domain stays inside a frame that lists the domain's fields. -/
theorem Frame.doms {s u : State} (h : Frame ps fs s u) {ds : List Dom} (hm : mask (fldsOf ds) &&& mask fs = mask (fldsOf ds)) :
    Frame ps fs s (resetDomains ds u) := by
  refine h.regs (fun p => by cases p <;> exact Eq.refl _) (fun f i hn => getF_resetDomains (fun g hg => ?_) i u)
  cases hc : ds.contains g.dom with
  | false => rfl
  | true =>
    refine absurd (mem_of_mask hm ?_) hn
    rw [← fieldOf_id hg]
    exact List.mem_map.mpr ⟨g, List.mem_filter.mpr ⟨List.mem_of_getElem? hg, hc⟩, Eq.refl _⟩

/-- What a mask names bounds what changes, if the dead store does. -/
theorem frame_but {s0 : State} (h : framed m ps fs) (hd : ∀ {s}, m.testBit deadBit = true → Frame ps fs s0 s → Frame ps fs s0 (deadStore s)) :
    May m (Frame ps fs s0) where
  fld := fun hf hs => hs.col (h.fld hf) (fun p => by cases p <;> exact Eq.refl _) (fun g i hn => getF_setF_ne hn _ _ _ _)
  clear := fun hf hs => hs.col (h.fld hf) (fun p => by cases p <;> exact Eq.refl _) (fun g i hn => getF_clearFld_ne hn _ _)
  copy := fun hf _ hs => hs.col (h.fld hf) (fun p => by cases p <;> exact Eq.refl _) (fun g i hn => getF_putCol_ne hn _ _ _)
  column := fun hf hs => hs.col (h.fld hf) (fun p => by cases p <;> exact Eq.refl _) (fun g i hn => getF_putCol_ne hn _ _ _)
  coefs := fun hf hs => hs.col (h.fld hf) (fun p => by cases p <;> exact Eq.refl _) (fun g i hn => getF_putCol_ne hn _ _ _)
  doms := fun hb hs => hs.doms (h.2.2.2.1 hb)
  image := fun hb hs => hs.doms (h.2.2.2.2.1 hb)
  role := fun hb _ hs => by
    have hr := h.2.2.1 hb
    exact (hs.col (f := TWN_STATUS.ROLE) (mem_of_mask hr (by decide)) (fun p => by cases p <;> exact Eq.refl _)
      (fun g i hn => getF_setF_ne hn _ _ _ _)).col (f := TWN_STATUS.CLAIM) (mem_of_mask hr (by decide))
      (fun p => by cases p <;> exact Eq.refl _) (fun g i hn => getF_setF_ne hn _ _ _ _)
  dead := fun hb hs => hd hb hs
  power := fun hb _ => by rw [h.power] at hb; cases hb
  clock := fun hb hs => hs.part (h.part hb) (fun q hq => by cases q <;> first | exact Eq.refl _ | exact absurd (Eq.refl _) hq) (fun _ _ => Eq.refl _)
  snap := fun hb hs => hs.part (h.part hb) (fun q hq => by cases q <;> first | exact Eq.refl _ | exact absurd (Eq.refl _) hq) (fun _ _ => Eq.refl _)
  timeOff := fun hb hs => hs.part (h.part hb) (fun q hq => by cases q <;> first | exact Eq.refl _ | exact absurd (Eq.refl _) hq) (fun _ _ => Eq.refl _)
  powered := fun hb hs => hs.part (h.part hb) (fun q hq => by cases q <;> first | exact Eq.refl _ | exact absurd (Eq.refl _) hq) (fun _ _ => Eq.refl _)
  lane := fun hb hs => hs.part (h.part hb) (fun q hq => by cases q <;> first | exact Eq.refl _ | exact absurd (Eq.refl _) hq) (fun _ _ => Eq.refl _)
  time := fun hb hs => hs.part (h.part hb) (fun q hq => by cases q <;> first | exact Eq.refl _ | exact absurd (Eq.refl _) hq) (fun _ _ => Eq.refl _)
  xpt := fun hb hs => hs.part (h.part hb) (fun q hq => by cases q <;> first | exact Eq.refl _ | exact absurd (Eq.refl _) hq) (fun _ _ => Eq.refl _)
  cmp := fun hb hs => hs.part (h.part hb) (fun q hq => by cases q <;> first | exact Eq.refl _ | exact absurd (Eq.refl _) hq) (fun _ _ => Eq.refl _)
  aud := fun hb hs => hs.part (h.part hb) (fun q hq => by cases q <;> first | exact Eq.refl _ | exact absurd (Eq.refl _) hq) (fun _ _ => Eq.refl _)
  reed := fun hb hs => hs.part (h.part hb) (fun q hq => by cases q <;> first | exact Eq.refl _ | exact absurd (Eq.refl _) hq) (fun _ _ => Eq.refl _)
  eth := fun hb hs => hs.part (h.part hb) (fun q hq => by cases q <;> first | exact Eq.refl _ | exact absurd (Eq.refl _) hq) (fun _ _ => Eq.refl _)
  dbg := fun hb hs => hs.part (h.part hb) (fun q hq => by cases q <;> first | exact Eq.refl _ | exact absurd (Eq.refl _) hq) (fun _ _ => Eq.refl _)
  cmd := fun hb hs => hs.part (h.part hb) (fun q hq => by cases q <;> first | exact Eq.refl _ | exact absurd (Eq.refl _) hq) (fun _ _ => Eq.refl _)
  twin := fun hb hs => hs.part (h.part hb) (fun q hq => by cases q <;> first | exact Eq.refl _ | exact absurd (Eq.refl _) hq) (fun _ _ => Eq.refl _)
  pst := fun hb hs => hs.part (h.part hb) (fun q hq => by cases q <;> first | exact Eq.refl _ | exact absurd (Eq.refl _) hq) (fun _ _ => Eq.refl _)
  sec := fun hb hs => hs.part (h.part hb) (fun q hq => by cases q <;> first | exact Eq.refl _ | exact absurd (Eq.refl _) hq) (fun _ _ => Eq.refl _)
  shf := fun hb hs => hs.part (h.part hb) (fun q hq => by cases q <;> first | exact Eq.refl _ | exact absurd (Eq.refl _) hq) (fun _ _ => Eq.refl _)
  img := fun hb hs => hs.part (h.part hb) (fun q hq => by cases q <;> first | exact Eq.refl _ | exact absurd (Eq.refl _) hq) (fun _ _ => Eq.refl _)
  boot := fun hb hs => hs.part (h.part hb) (fun q hq => by cases q <;> first | exact Eq.refl _ | exact absurd (Eq.refl _) hq) (fun _ _ => Eq.refl _)
  unhold := fun _ hb hs => hs.part (h.part hb) (fun q hq => by cases q <;> first | exact Eq.refl _ | exact absurd (Eq.refl _) hq) (fun _ _ => Eq.refl _)
  mon := fun hb hs => hs.part (h.part hb) (fun q hq => by cases q <;> first | exact Eq.refl _ | exact absurd (Eq.refl _) hq) (fun _ _ => Eq.refl _)
  evtFifo := fun hb hs => hs.part (h.part hb) (fun q hq => by cases q <;> first | exact Eq.refl _ | exact absurd (Eq.refl _) hq) (fun _ _ => Eq.refl _)
  evtHeld := fun hb hs => hs.part (h.part hb) (fun q hq => by cases q <;> first | exact Eq.refl _ | exact absurd (Eq.refl _) hq) (fun _ _ => Eq.refl _)
  evtLost := fun hb hs => hs.part (h.part hb) (fun q hq => by cases q <;> first | exact Eq.refl _ | exact absurd (Eq.refl _) hq) (fun _ _ => Eq.refl _)
  evtLast := fun hb hs => hs.part (h.part hb) (fun q hq => by cases q <;> first | exact Eq.refl _ | exact absurd (Eq.refl _) hq) (fun _ _ => Eq.refl _)
  cplHeld := fun hb hs => hs.part (h.part hb) (fun q hq => by cases q <;> first | exact Eq.refl _ | exact absurd (Eq.refl _) hq) (fun _ _ => Eq.refl _)
  coal := fun hb hs => hs.part (h.part hb) (fun q hq => by cases q <;> first | exact Eq.refl _ | exact absurd (Eq.refl _) hq) (fun _ _ => Eq.refl _)
  msix := fun hb hs => hs.part (h.part hb) (fun q hq => by cases q <;> first | exact Eq.refl _ | exact absurd (Eq.refl _) hq) (fun _ _ => Eq.refl _)
  pcie := fun hb hs => hs.part (h.part hb) (fun q hq => by cases q <;> first | exact Eq.refl _ | exact absurd (Eq.refl _) hq) (fun _ _ => Eq.refl _)
  out := fun hb hs => hs.part (h.part hb) (fun q hq => by cases q <;> first | exact Eq.refl _ | exact absurd (Eq.refl _) hq) (fun _ _ => Eq.refl _)
  freeCtr := fun hb hs => hs.part (h.part hb) (fun q hq => by cases q <;> first | exact Eq.refl _ | exact absurd (Eq.refl _) hq) (fun _ _ => Eq.refl _)

/-- What an unreadable store changes (R600). -/
def dead_m : Nat := setDiag_m ||| clearFlds_m ||| setPst_m ||| setShf_m ||| mask vaultFields ||| pmask [.vault]

theorem deadStore_frame {s0 s : State} (h : framed dead_m ps fs) (hs : Frame ps fs s0 s) : Frame ps fs s0 (deadStore s) := by
  have hm : May dead_m (Frame ps fs s0) := frame_but h (fun hb _ => absurd hb (by decide +kernel))
  unfold deadStore
  refine may_ite (setDiag_may hm (by decide +kernel) hs) ?_
  have h1 : Frame ps fs s0 (areaDefaults s) := by
    unfold areaDefaults
    exact setShf_may hm (by decide +kernel) (setPst_may hm (by decide +kernel)
      (clearFlds_may hm (by decide +kernel) (Sub.okAll (Sub.rfl (a := dead_m)) (by decide +kernel)) hs))
  refine setDiag_may hm (by decide +kernel) (setPst_may hm (by decide +kernel) ?_)
  exact h1.part (p := .vault) (h.part (by decide +kernel)) (fun q hq => by cases q <;> first | exact Eq.refl _ | exact absurd (Eq.refl _) hq)
    (fun _ _ => Eq.refl _)

/-- What a mask names bounds what changes. -/
theorem frame_may {s0 : State} (h : framed m ps fs) (hd : m.testBit deadBit = true → framed dead_m ps fs) : May m (Frame ps fs s0) :=
  frame_but h (fun hb hs => deadStore_frame (hd hb) hs)

theorem setDiag_hold (k : Nat) (s : State) : (setDiag k s).hold = s.hold := by
  have h := congrArg State.hold (kept_setDiag s k); simpa only [kept] using h

theorem deadStore_hold (s : State) : (deadStore s).hold = s.hold := by
  have hc : ∀ (l : List Fld) (u : State), (clearFlds l u).hold = u.hold := by
    intro l
    induction l with
    | nil => exact fun _ => rfl
    | cons f l ih => exact fun u => (ih (clearFld f u)).trans rfl
  unfold deadStore
  split
  · exact setDiag_hold _ _
  · refine (setDiag_hold _ _).trans ?_
    unfold areaDefaults
    simp only [setPst_hold, setShf_hold, hc]

/-- An operation that names no change of it keeps what the running blocks' fields show. -/
theorem hold_may (h : m.testBit (Part.hold).bit = false) (hp : m.testBit powerBit = false) {x : RunView} : May m (fun u => u.hold = x) where
  fld := fun _ hs => hs
  clear := fun _ hs => hs
  copy := fun _ _ hs => hs
  column := fun _ hs => hs
  coefs := fun _ hs => hs
  doms := fun _ hs => hs
  image := fun _ hs => hs
  role := fun _ _ hs => hs
  dead := fun _ hs => (congrArg (· = x) (deadStore_hold _)).mpr hs
  power := fun hb _ => by rw [hp] at hb; cases hb
  clock := fun _ hs => hs
  snap := fun _ hs => hs
  timeOff := fun _ hs => hs
  powered := fun _ hs => hs
  lane := fun _ hs => hs
  time := fun _ hs => hs
  xpt := fun _ hs => hs
  cmp := fun _ hs => hs
  aud := fun _ hs => hs
  reed := fun _ hs => hs
  eth := fun _ hs => hs
  dbg := fun _ hs => hs
  cmd := fun _ hs => hs
  twin := fun _ hs => hs
  pst := fun _ hs => hs
  sec := fun _ hs => hs
  shf := fun _ hs => hs
  img := fun _ hs => hs
  boot := fun _ hs => hs
  mon := fun _ hs => hs
  unhold := fun _ hb _ => by rw [h] at hb; cases hb
  evtFifo := fun _ hs => hs
  evtHeld := fun _ hs => hs
  evtLost := fun _ hs => hs
  evtLast := fun _ hs => hs
  cplHeld := fun _ hs => hs
  coal := fun _ hs => hs
  msix := fun _ hs => hs
  pcie := fun _ hs => hs
  out := fun _ hs => hs
  freeCtr := fun _ hs => hs

/-- What is outside a frame stays as it is where the running fields take other columns too, if the frame lists these fields. -/
theorem Frame.shows {s u v : State} (h : Frame ps fs s u) (hh : .hold ∈ ps) (hp : ∀ p : Part, p ≠ .hold → p.same u v)
    (hf : ∀ f i, f.id ∉ fs.map Fld.id → getF f i v = getF f i u) : Frame ps fs s v := by
  refine ⟨fun p hn => ?_, fun f i hn => (hf f i hn).trans (h.2 f i hn)⟩
  have h1 := h.1 p hn
  have h2 := hp p (fun e => hn (e ▸ hh))
  cases p <;> exact Eq.trans h2 h1

/-- The frame of what a mask names is the frame of a step of running blocks that is made of it, whether or not their fields show their
values (R610). -/
theorem frame_run {s0 : State} (h : framed m ps fs) (hd : m.testBit deadBit = true → framed dead_m ps fs) (hh : .hold ∈ ps) :
    Run m (Frame ps fs s0) where
  run := fun {f s} hf hs => by
    by_cases hc : ∃ live, s.hold = .hidden live
    · obtain ⟨live, hl⟩ := hc
      rw [running_hidden hl]
      have h1 : Frame ps fs (runningFrom live s) (f (runningFrom live s)) := hf _ (frame_may h hd) _ (Frame.rfl _)
      generalize hu : f (runningFrom live s) = u at h1
      by_cases hb : m.testBit (Part.hold).bit = true
      · have hr : ∀ g : Fld, g.id ∉ fs.map Fld.id → g.id ∉ runningFields.map Fld.id := fun g hg hm => hg (mem_of_mask (h.2.2.2.2.2 (.inl hb)) hm)
        have h2 : Frame ps fs s0 u := by
          refine ⟨fun p hn => ?_, fun g i hn => ((h1.2 g i hn).trans (getF_runningFrom_ne (hr g hn) live i s)).trans (hs.2 g i hn)⟩
          have hne : p ≠ .hold := fun e => hn (e ▸ hh)
          have a := hs.1 p hn
          have b := runningFrom_same live s hne
          have c := h1.1 p hn
          cases p <;> exact Eq.trans c (Eq.trans b a)
        split
        · exact h2.shows hh (fun p hp => runningTo_same _ _ _ hp) (fun g i hn => getF_runningTo_ne (hr g hn) _ _ i _)
        · exact h2
      · have hv : u.hold = .shown (runningCols s) := by
          rw [← hu]
          exact hf _ (hold_may (Bool.eq_false_iff.mpr hb) h.power) _ rfl
        rw [hv]
        refine ⟨fun p hn => ?_, fun g i hn => ?_⟩
        · have hne : p ≠ .hold := fun e => hn (e ▸ hh)
          have a := hs.1 p hn
          have b := runningFrom_same live s hne
          have c := h1.1 p hn
          have d := runningTo_same live (runningCols s) u hne
          cases p <;> exact Eq.trans d (Eq.trans c (Eq.trans b a))
        · refine Eq.trans ?_ (hs.2 g i hn)
          by_cases hm : g.id ∈ runningFields.map Fld.id
          · exact getF_runningTo_eq hm (fun k hk j => h1.2 k j (hk ▸ hn)) i
          · exact (getF_runningTo_ne hm live _ i u).trans ((h1.2 g i hn).trans (getF_runningFrom_ne hm live i s))
    · rw [running_plain (fun live e => hc ⟨live, e⟩)]
      exact hf _ (frame_may h hd) _ hs
  hide := fun hb {s} hs => by
    unfold hideRunning
    split
    · exact hs.shows hh (fun p hp => same_withHold _ hp (putCols_same [] _ p)) (fun g i hn => (getF_withHold g i _ _).trans
        (getF_putCols_ne (fun hm => hn (mem_of_mask (h.2.2.2.2.2 (.inr hb)) hm)) [] i _))
    · exact hs

end

/-! ### One register field -/

/-- `M` names neither `f` nor an operation that writes the store wholesale. -/
def spares (M : Nat) (f : Fld) : Bool :=
  !M.testBit f.id && !M.testBit domsBit && !M.testBit imageBit && !M.testBit deadBit && !M.testBit powerBit
    && (!M.testBit roleBit || (f.id != TWN_STATUS.ROLE.id && f.id != TWN_STATUS.CLAIM.id))

/-- A field that a mask spares keeps its value. -/
theorem reads_may {M : Nat} {f : Fld} (h : spares M f = true) {i v : Nat} : May M (fun u => getF f i u = v) := by
  simp only [spares, Bool.and_eq_true, Bool.not_eq_true', Bool.or_eq_true, bne_iff_ne] at h
  obtain ⟨⟨⟨⟨⟨hf, hd⟩, hi⟩, hk⟩, hp⟩, hr⟩ := h
  have hne : ∀ {g : Fld}, Ok M g → f.id ≠ g.id := fun {g} hg he => by
    have h1 : okB M g = true := hg
    simp only [okB, Bool.and_eq_true] at h1
    rw [← he, hf] at h1; cases h1.1
  exact {
    fld := fun hg hs => (getF_setF_ne (hne hg) _ _ _ _).trans hs
    clear := fun hg hs => (getF_clearFld_ne (hne hg) _ _).trans hs
    copy := fun hg _ hs => (getF_putCol_ne (hne hg) _ _ _).trans hs
    column := fun hg hs => (getF_putCol_ne (hne hg) _ _ _).trans hs
    coefs := fun hg hs => (getF_putCol_ne (hne hg) _ _ _).trans hs
    doms := fun hb _ => by rw [hd] at hb; cases hb
    image := fun hb _ => by rw [hi] at hb; cases hb
    role := fun hb _ hs => by
      rcases hr with hr | ⟨h1, h2⟩
      · rw [hr] at hb; cases hb
      · exact (getF_setF_ne h2 _ _ _ _).trans ((getF_setF_ne h1 _ _ _ _).trans hs)
    dead := fun hb _ => by rw [hk] at hb; cases hb
    power := fun hb _ => by rw [hp] at hb; cases hb
    clock := fun _ hs => hs
    snap := fun _ hs => hs
    timeOff := fun _ hs => hs
    powered := fun _ hs => hs
    lane := fun _ hs => hs
    time := fun _ hs => hs
    xpt := fun _ hs => hs
    cmp := fun _ hs => hs
    aud := fun _ hs => hs
    reed := fun _ hs => hs
    eth := fun _ hs => hs
    dbg := fun _ hs => hs
    cmd := fun _ hs => hs
    twin := fun _ hs => hs
    pst := fun _ hs => hs
    sec := fun _ hs => hs
    shf := fun _ hs => hs
    img := fun _ hs => hs
    boot := fun _ hs => hs
    unhold := fun _ _ hs => hs
    mon := fun _ hs => hs
    evtFifo := fun _ hs => hs
    evtHeld := fun _ hs => hs
    evtLost := fun _ hs => hs
    evtLast := fun _ hs => hs
    cplHeld := fun _ hs => hs
    coal := fun _ hs => hs
    msix := fun _ hs => hs
    pcie := fun _ hs => hs
    out := fun _ hs => hs
    freeCtr := fun _ hs => hs }

end Sys2Proof.Machine
end

