-- ==== Sys2Proof/Machine/Lands.lean ====
section
/-! DEFINITION. The land field: which land stands at a position (R729 to R735). -/

namespace Sys2Proof.Machine

/-- A land. The lanes of the video tiles have their lane number, the forwarded clocks their group, Ethernet lanes their port and lane, and
`neg` marks the N land of a pair. -/
inductive Land where
  | gnd | v54In
  | laneIn (lane : Nat) (neg : Bool)
  | laneOut (lane : Nat) (neg : Bool)
  | clockIn (group : Nat) (neg : Bool)
  | clockOut (group : Nat) (neg : Bool)
  | ethTx (port lane : Nat) (neg : Bool)
  | ethRx (port lane : Nat) (neg : Bool)
  | hostTx (lane : Nat) (neg : Bool)
  | hostRx (lane : Nat) (neg : Bool)
  | twinTx (lane : Nat) (neg : Bool)
  | twinRx (lane : Nat) (neg : Bool)
  | twinClockOut (neg : Bool)
  | twinClockIn (neg : Bool)
  | watchTx (neg : Bool)
  | watchRx (neg : Bool)
  | hostPerstN | ready | tck | tms | tdi | tdo | trstN | twinSide
  | alarm (sideB : Bool)
  | pulse (k : Nat)
  /-- reference lands of side A or B: 0 VID, 1 10M, 2 PPS, 3 WCK -/
  | ref (sideB : Bool) (kind : Nat)
  deriving DecidableEq, Repr

/-- Ring of a tile, counted from the outermost. -/
def tileRing (tx ty : Nat) : Nat := min (min tx ty) (min (19 - tx) (19 - ty))

/-- Place of a video tile in the joined walk of the four outermost rings (R730). -/
def walkOf (tx ty : Nat) : Nat :=
  let k := tileRing tx ty
  let start := ((List.range k).map (fun j => 76 - 8 * j)).sum
  start + (if ty = k then tx - k
    else if tx = 19 - k then (20 - 2 * k) + (ty - k - 1)
    else if ty = 19 - k then (39 - 4 * k) + (18 - k - tx)
    else (58 - 6 * k) + (18 - k - ty))

/-- Number of the lane whose pair stands at (`c`, `r`) of a tile, in the pattern of rows 1, 3, 5 and 7 (R731). -/
def pairAt (c r : Nat) : Nat := 4 * (r / 2) + c / 2

/-- A position of the tile of a lane group (R731). -/
def videoLand (out : Bool) (g c r : Nat) : Land :=
  if r % 2 = 1 then
    let n := 16 * g + pairAt c r
    if out then .laneOut n (c % 2 == 1) else .laneIn n (c % 2 == 1)
  else if r = 0 && (c = 3 || c = 4) then (if out then .clockOut g (c == 4) else .clockIn g (c == 4))
  else .gnd

/-- A position of the tile of an Ethernet port (R733). -/
def ethLand (p c r : Nat) : Land :=
  if r % 2 = 0 then .gnd
  else if r < 4 then .ethTx p (pairAt c r) (c % 2 == 1)
  else .ethRx p (pairAt c (r - 4)) (c % 2 == 1)

/-- A position of control tile C0 (R735). -/
def controlLand0 (c r : Nat) : Land :=
  match r with
  | 0 => ([.hostPerstN, .ready, .tck, .tms, .tdi, .tdo, .trstN, .gnd] : List Land).getD c .gnd
  | 2 => ([.alarm false, .gnd, .alarm true, .gnd, .pulse 0, .pulse 1, .pulse 2, .pulse 3] : List Land).getD c .gnd
  | 4 => if c % 2 = 0 then .ref false (c / 2) else .gnd
  | 6 => if c % 2 = 0 then .ref true (c / 2) else .gnd
  | _ => if r < 4 then .hostTx (pairAt c r) (c % 2 == 1) else .hostRx (pairAt c (r - 4)) (c % 2 == 1)

/-- A position of control tile C1 (R735). -/
def controlLand1 (c r : Nat) : Land :=
  match r with
  | 0 => ([.twinClockOut false, .twinClockOut true, .gnd, .twinClockIn false, .twinClockIn true, .gnd, .twinSide, .gnd] : List Land).getD c .gnd
  | 2 => ([.watchTx false, .watchTx true, .gnd, .watchRx false, .watchRx true] : List Land).getD c .gnd
  | 4 => .gnd
  | 6 => .gnd
  | _ => if r < 4 then .twinTx (pairAt c r) (c % 2 == 1) else .twinRx (pairAt c (r - 4)) (c % 2 == 1)

/-- The land at position (`x`, `y`); none where the field has no land (R729 to R735). -/
def landAt (x y : Nat) : Option Land :=
  if 160 ≤ x || 160 ≤ y then none
  else
    let (tx, ty, c, r) := (x / 8, y / 8, x % 8, y % 8)
    if 5 ≤ tx && tx ≤ 14 && 6 ≤ ty && ty ≤ 13 then none
    else if tileRing tx ty < 4 then
      let n := walkOf tx ty
      some (videoLand (n % 2 == 1) (n / 2) c r)
    else if (ty = 5 || ty = 14) && 6 ≤ tx && tx ≤ 13 then some (ethLand (if ty = 5 then tx - 6 else tx + 2) c r)
    else if (tx = 5 || tx = 14) && (ty = 5 || ty = 14) then some (if (c + r) % 2 = 0 then .v54In else .gnd)
    else if tx = 4 && ty = 4 then some (controlLand0 c r)
    else if tx = 15 && ty = 15 then some (controlLand1 c r)
    else some .gnd

end Sys2Proof.Machine
end

