-- ==== Sys2Proof/Tests/Slice0.lean ====
section
/-! SUPPORT. Tests: a concrete state and operands that meet the hypotheses of each statement, clause by clause; an ill-formed command for
each check of the operands; and effects of single commands with values worked out from the manual. -/

set_option Elab.async false

open Sys2Proof Sys2Proof.Machine
namespace Sys2Proof.Tests

/-- READY, and the function answers the host. -/
def up : State := { State.reset with pcie := { crs := false } } |> setF SYS_STATUS.READY 0 1 |> setF SYS_STATUS.STEP 0 8

/-- A LEAD whose image runs. -/
def leads : State := up |> setF TWN_STATUS.ROLE 0 1 |> setF TWN_STATUS.CLAIM 0 1 |> setF SYS_IMG_STATUS.SOURCE 0 1

/-- Ring 0 has one entry waiting. -/
def ringed (s : State) : State := s |> setF HIF_SQ_CFG.EN 0 1 |> setF HIF_SQ_CFG.SIZE_LOG2 0 4 |> setF HIF_SQ_TAIL.TAIL 0 1

/-- The lane group 0 of both directions is assigned. -/
def lanes (s : State) : State := s |> setF LNI_GRP_CFG.ENABLED 0 1 |> setF LNO_GRP_CFG.ENABLED 0 1

/-- The state that a command answers. -/
def after (c : Instr) (s : State) : State := match exec c s with | .next t => t | .fault _ => s | .refused _ => s

/-- The operand bytes `bs` at byte `off` of an entry. -/
def put (off : Nat) (bs : List Byte) (raw : List Byte) : List Byte := raw.take off ++ bs ++ raw.drop (off + bs.length)

/-- A ring entry of opcode `op` with tag 5. -/
def entry (op : Nat) : List Byte := leBytes 4 (op + 5 * 65536) ++ List.replicate 60 0#8

def inSt (n st : Nat) (s : State) : State := setF LNI_STATUS.STATE n st s
def outSt (n st : Nat) (s : State) : State := setF LNO_STATUS.STATE n st s

/-! ### Witnesses of the statements' hypotheses -/

theorem witness_StepTakesOneCommand : ∃ t, step { up with pending := [.snapArm] } = .next t := ⟨_, rfl⟩

theorem witness_RoleAndClaimAgree : (roleOk leads && claimOk leads) = true ∧ ∃ t, step { leads with pending := [.claimWatchdogExpiry 0] } = .next t :=
  ⟨by decide +kernel, _, rfl⟩

theorem witness_RegisterStoreStaysCanonical : (regsOk leads && vaultOk leads) = true := by decide +kernel

theorem witness_frames : (∃ x, powerFrame (.powerGoodFall 0) = some x) ∧ (∃ x, debugFrame (.idcode 0) = some x)
    ∧ (∃ x, monitorFrame (.feedMeasure 0 500 1) = some x) ∧ (∃ x, laneFrame (.laneBlockTx 0) = some x) ∧ (∃ x, videoFrame (.xptClrCnt) = some x)
    ∧ (∃ x, compositionFrame (.cmpClrCnt) = some x) ∧ (∃ x, mediaFrame (.setx 0) = some x) ∧ (∃ x, networkFrame (.macFrameTx 0 0) = some x)
    ∧ (∃ x, timeFrame (.pipClrCnt) = some x) ∧ (∃ x, twinFrame (.barkTx 0) = some x) ∧ (∃ x, hostFrame (.eventPop) = some x)
    ∧ (∃ x, storeFrame (.challengeGet 0) = some x) :=
  ⟨⟨_, rfl⟩, ⟨_, rfl⟩, ⟨_, rfl⟩, ⟨_, rfl⟩, ⟨_, rfl⟩, ⟨_, rfl⟩, ⟨_, rfl⟩, ⟨_, rfl⟩, ⟨_, rfl⟩, ⟨_, rfl⟩, ⟨_, rfl⟩, ⟨_, rfl⟩⟩

theorem witness_LanesFollowTheirSignal :
    (serving (lanes up) && laneAssigned .inp 15 (lanes up)) = true
    ∧ (let s := lanes up |> inSt 15 stDeep; inState 15 s = stDeep ∧ getB LNI_CTL.WAKE_SIGDET 15 s = true)
    ∧ (let s := lanes up |> inSt 15 stIdle |> setIn 15 (fun l => { l with idleByLoss := true, lossAt := 7 })
       inState 15 s = stIdle ∧ (inLane 15 s).idleByLoss = true ∧ getF LNI_CTL.TARGET_STATE 15 s ≠ 1
       ∧ (inLane 15 s).lossAt + clampNat 1 1000 (getF LNI_CTL.IDLE_LIMIT 15 s) * msUnit ≤ (advance (7 + 1000 * msUnit) s).now)
    ∧ (let s := lanes up |> inSt 15 stNoPartner |> setIn 15 (fun l => { l with noPartner := true })
       inState 15 s = stNoPartner ∧ (inLane 15 s).noPartner = true)
    ∧ (let s := lanes up |> inSt 15 stActive; inAssigned 15 s = true ∧ inState 15 s = stActive ∧ getB LNI_CTL.AUTO_IDLE 15 s = true)
    ∧ (let s := lanes up |> inSt 15 stActive |> setF LNI_CTL.AUTO_IDLE 15 0; inState 15 s = stActive ∧ getB LNI_CTL.AUTO_IDLE 15 s = false)
    ∧ (let s := lanes up |> inSt 15 stLock |> setIn 15 (fun l => { l with phase := .lock }); inState 15 s ≠ stActive ∧ inAttempt .inp 15 s = true)
    ∧ (let s := lanes up |> inSt 15 stActive |> setIn 15 (fun l => { l with searching := true, searchAt := 9 })
       inState 15 s = stActive ∧ (inLane 15 s).searching = true ∧ (inLane 15 s).searchAt + blocksTime 64 ≤ (advance (9 + blocksTime 64) s).now)
    ∧ (let s := lanes up |> inSt 15 stFast |> setIn 15 (fun l => { l with startAt := 5 })
       inState 15 s = stFast ∧ (inLane 15 s).startAt + 4 * msUnit ≤ (advance (5 + 4 * msUnit) s).now) := by decide +kernel

theorem witness_TrainingTimersMoveLane :
    let a := lanes up
    let at50 := 5 + 50 * msUnit
    serving a = true
    ∧ (let s := a |> inSt 3 stLock |> setIn 3 (fun l => { l with phase := .lock, startAt := 5 })
       laneAssigned .inp 3 s = true ∧ inAttempt .inp 3 s = true ∧ (inLane 3 s).startAt + 50 * msUnit ≤ (advance at50 s).now)
    ∧ (let s := a |> outSt 3 stLock |> setOut 3 (fun l => { l with phase := .lock, startAt := 5 })
       laneAssigned .out 3 s = true ∧ inAttempt .out 3 s = true ∧ (outLane 3 s).startAt + 50 * msUnit ≤ (advance at50 s).now)
    ∧ (let s := a |> inSt 3 stBackoff |> outSt 3 stBackoff |> setIn 3 (fun l => { l with backoffEnd := 9 }) |> setOut 3 (fun l => { l with backoffEnd := 9 })
       inState 3 s = stBackoff ∧ (inLane 3 s).noPartner = false ∧ (inLane 3 s).backoffEnd ≤ (advance 9 s).now
       ∧ outState 3 s = stBackoff ∧ (outLane 3 s).noPartner = false ∧ (outLane 3 s).backoffEnd ≤ (advance 9 s).now)
    ∧ (let s := a |> inSt 3 stNoPartner |> outSt 3 stNoPartner |> setIn 3 (fun l => { l with noPartner := true, probeAt := 4 })
         |> setOut 3 (fun l => { l with noPartner := true, probeAt := 4 })
       inState 3 s = stNoPartner ∧ (inLane 3 s).noPartner = true ∧ (inLane 3 s).probeAt + secUnit ≤ (advance (4 + secUnit) s).now
       ∧ outState 3 s = stNoPartner ∧ (outLane 3 s).noPartner = true ∧ (outLane 3 s).probeAt + secUnit ≤ (advance (4 + secUnit) s).now)
    ∧ (let s := a |> setF LNO_GRP_CFG.ONE_WAY 0 1 |> outSt 3 stLock |> setOut 3 (fun l => { l with phase := .lock, phaseAt := 6 })
       oneWay .out 3 s = true ∧ outState 3 s ≠ stFast ∧ (outLane 3 s).phase = .lock ∧ (outLane 3 s).noPartner = false
       ∧ (outLane 3 s).phaseAt + 20 * msUnit ≤ (advance (6 + 20 * msUnit) s).now)
    ∧ (let s := a |> setF LNO_GRP_CFG.ONE_WAY 0 1 |> outSt 3 stConfirm |> setOut 3 (fun l => { l with phase := .confirm, phaseAt := 6 })
       oneWay .out 3 s = true ∧ outState 3 s ≠ stFast ∧ (outLane 3 s).phase = .confirm
       ∧ (outLane 3 s).phaseAt + 2 * msUnit ≤ (advance (6 + 2 * msUnit) s).now)
    ∧ (let s := a |> inSt 3 stWake |> outSt 3 stWake
       inState 3 s = stWake ∧ (inLane 3 s).noPartner = false ∧ outState 3 s = stWake ∧ (outLane 3 s).noPartner = false)
    ∧ (let s := a |> inSt 3 stLock |> setIn 3 (fun l => { l with phase := .lock, startAt := 5, lockAt := 8 })
       getB LNI_STATUS.CDR_LOCK 3 s = false ∧ (let r := setF LNI_STATUS.CDR_LOCK 3 1 s
         getB LNI_STATUS.CDR_LOCK 3 r = true ∧ (inLane 3 r).lockAt + 100 * usUnit ≤ (advance (8 + 100 * usUnit) r).now
         ∧ (advance (8 + 100 * usUnit) r).now ≤ (inLane 3 r).startAt + 5 * msUnit ∧ inAttempt .inp 3 r = true ∧ (inLane 3 r).phase = .lock)) := by
  decide +kernel

theorem witness_HostOrdersMoveLanes :
    (reached (lanes up) = true ∧ inAssigned 15 (lanes up) = true ∧ outAssigned 15 (lanes up) = true ∧ laneSourced 15 (lanes up) = false)
    ∧ (let s := lanes up |> inSt 15 stIdle |> outSt 15 stIdle; inState 15 s = stIdle ∧ (inLane 15 s).idleByLoss = false ∧ outState 15 s = stIdle)
    ∧ (let s := lanes up |> inSt 15 stDeep |> outSt 15 stDeep
       inState 15 s = stDeep ∧ outState 15 s = stDeep ∧ (outLane 15 s).noPartner = false ∧ getB TWN_STATUS.WITHDRAWN 0 s = false)
    ∧ (let s := lanes up |> inSt 15 stProbe |> outSt 15 stProbe |> setIn 15 (fun l => { l with noPartner := true })
         |> setOut 15 (fun l => { l with noPartner := true })
       inState 15 s = stProbe ∧ (inLane 15 s).noPartner = true ∧ outState 15 s = stProbe ∧ (outLane 15 s).noPartner = true)
    ∧ (let s := lanes up |> inSt 15 stActive |> outSt 15 stActive; inState 15 s = stActive ∧ outState 15 s = stActive)
    ∧ (let s := lanes up |> setF XPT_OUT_SRC.SOURCE 120 (2 ^ 30); laneSourced 15 s = true) := by decide +kernel

/-- A training set of lane 3: TB with READY, from identity 9. -/
def tbSet : List Byte :=
  let b := [0x2B#8, 3#8, 0#8, 0#8, 1#8, 0#8, 0#8, 0#8, 0#8, 0#8, 0#8, 0#8, 0#8]
  b ++ [BitVec.ofNat 8 (255 - b.foldl (fun a c => a + c.toNat) 0 % 256)]

theorem witness_TrainingSetAdvancesAttempt :
    let a := lanes up |> inSt 3 stLock
    (let s := a |> setIn 3 (fun l => { l with phase := .align, sets := 3, startAt := 5 })
     serving s = true ∧ inAssigned 3 s = true ∧ inAttempt .inp 3 s = true ∧ setCheck tbSet = true ∧ miswired 3 tbSet = false
     ∧ otherMode 3 tbSet s = false ∧ miswired 4 tbSet = true ∧ (inLane 3 s).phase = .align ∧ 3 ≤ (inLane 3 s).sets ∧ oneWay .inp 3 s = false
     ∧ (advance (5 + 6 * msUnit) s).now ≤ (inLane 3 s).startAt + 6 * msUnit)
    ∧ (let s := a |> setIn 4 (fun l => { l with phase := .align }) |> inSt 4 stAlign; inAssigned 4 s = true ∧ inAttempt .inp 4 s = true)
    ∧ (let s := a |> setF LNI_GRP_CFG.CLK_MODE_ACT 0 1 |> setIn 3 (fun l => { l with phase := .align })
       inAttempt .inp 3 s = true ∧ otherMode 3 tbSet s = true)
    ∧ (let s := a |> setIn 3 (fun l => { l with phase := .eq, startAt := 5 }) |> setF LNI_EQ.PRESET_REQ 3 (setPreset tbSet)
       inAttempt .inp 3 s = true ∧ (inLane 3 s).phase = .eq ∧ setPreset tbSet = getF LNI_EQ.PRESET_REQ 3 s
       ∧ (advance (5 + 40 * msUnit) s).now ≤ (inLane 3 s).startAt + 40 * msUnit)
    ∧ (let s := a |> setIn 3 (fun l => { l with phase := .confirm, ready := 7 }) |> setOut 3 (fun l => { l with phase := .confirm, phaseAt := 4 })
       inAttempt .inp 3 s = true ∧ (inLane 3 s).phase = .confirm ∧ 7 ≤ (inLane 3 s).ready ∧ setType tbSet = typeTB ∧ setReady tbSet = true
       ∧ 16 ≤ readySent 3 (advance (4 + msUnit) s))
    ∧ (let s := lanes up |> inSt 3 stFast |> setIn 3 (fun l => { l with phase := .confirm, ready := 7 })
       inAttempt .inp 3 s = false ∧ inState 3 s = stFast ∧ 7 ≤ (inLane 3 s).ready) := by decide +kernel

/-- A block of 1,024 symbols: a comma, header byte 1, then zeros. -/
def block (b1 : Nat) : List Sym := .k comma :: .d (BitVec.ofNat 8 b1) :: List.replicate 1022 (.d 0#8)

theorem witness_BlocksAreCounted :
    (let s := lanes up |> outSt 3 stActive
     serving s = true ∧ regsOk s = true ∧ outState 3 s = stActive ∧ getF LNO_CTL.TARGET_STATE 3 s ≠ 1 ∧ getB TWN_STATUS.WITHDRAWN 0 s = false)
    ∧ (let s := lanes up |> outSt 3 stConfirm |> setOut 3 (fun l => { l with phase := .ready }); regsOk s = true ∧ (outLane 3 s).phase = .ready)
    ∧ (let s := lanes up |> inSt 3 stConfirm |> setIn 3 (fun l => { l with phase := .ready })
       inAssigned 3 s = true ∧ (inLane 3 s).phase = .ready ∧ blockBegins (block 0x55) = true ∧ getF LNI_CTL.TARGET_STATE 3 s ≠ 1)
    ∧ (let s := lanes up |> inSt 3 stActive |> setIn 3 (fun l => { l with fresh := true })
       inState 3 s = stActive ∧ (inLane 3 s).phase ≠ .ready ∧ getF LNI_BLOCKS.COUNT 3 s < 2 ^ 64
       ∧ (block 0x55).length = 1024 ∧ (align 3 (block 0x55) s).1 = true
       ∧ judge 3 (block 0x05) s = .header ∧ judge 3 (block 0x55) (setF LNI_PAY_CFG.SLOT_MODE 3 1 s) = .mode
       ∧ judge 3 (block 0x55) (setIn 3 (fun l => { l with noRef := false }) s) = .seqOnly)
    ∧ judge 3 (block 0x55) (lanes up |> setIn 3 (fun l => { l with fresh := false })) ∈ [Verdict.crc true, .crc false] := by decide +kernel

/-- Ring 0 of a LEAD with an entry waiting, the lanes of group 0, plane 0, and allocations 0 (FSYNC) and 1 (STILL). -/
def live : State := leads |> lanes |> ringed |> setF PIP_PLANE_CFG.ENABLED 0 1 |> setF PIP_PLANE_CFG.RATE 0 3 |> setF KNL_ALLOC_CFG.CLASS 0 clFsync |> setF KNL_ALLOC_CFG.N_F 0 4
  |> setF KNL_ALLOC_CFG.CLASS 1 clStill |> setF KNL_ALLOC_CFG.N_F 1 2 |> setF REE_ENG_CFG.ENABLED 2 1 |> setF REE_ENG_STATUS.STATE 2 reedRun
  |> setF CMP_HEAD_CFG.ENABLED 0 1 |> setF CMP_ENG_CFG.ENABLED 0 1
  |> setDom 400 dOn |> setDom 274 dOn |> setDom 256 dOn |> setDom 538 dOn |> setF ETH_PORT_CFG.ENABLED 0 1 |> setF PIP_REF_CFG.USED 2 1

theorem witness_RefusedEntryChangesNothing :
    let s := setF TWN_STATUS.ROLE 0 0 live
    s.hold = .plain ∧ fetchable 0 (advance 0 s) = true ∧ checkEntry 0 (entry 0x10) (fetched 0 0 s) = some stNotLead ∧ eOpcode (entry 0x10) = 0x10
    ∧ (checkEntry 0 (entry 0x18) (fetched 0 0 s)).isSome = true ∧ eOpcode (entry 0x18) = 0x18 ∧ bit (leAt (entry 0x18) 26 1) 0 = false
    ∧ (checkEntry 0 (put 26 [1#8] (entry 0x18)) (fetched 0 0 s)).isSome = true ∧ bit (leAt (put 26 [1#8] (entry 0x18)) 26 1) 0 = true
    ∧ (checkEntry 0 (entry 0x77) (fetched 0 0 live)).isSome = true ∧ opcodeRow (eOpcode (entry 0x77)) = none := by decide +kernel

theorem witness_ClearReturnsCounters : reached (lanes up) = true ∧ inAssigned 15 (lanes up) = true ∧ outAssigned 0 (lanes up) = true := by
  decide +kernel

def takeEntry : List Byte := put 24 (leBytes 8 15) (entry 0x10)

theorem witness_take : Passes 0x10 0 takeEntry 0 live ∧ takeCheck (takeOpAt takeEntry 24) (fetched 0 0 live) = none := by
  unfold Passes; decide +kernel

def salvoEntry : List Byte := put 32 (leBytes 4 2) (entry 0x11)
def salvoList : List Byte := leBytes 8 15 ++ leBytes 8 14

theorem witness_salvo : Passes 0x11 0 salvoEntry 0 live ∧ 1 ≤ leAt salvoEntry 32 4 ∧ leAt salvoEntry 32 4 ≤ 16384 ∧ eList salvoEntry % 8 = 0
    ∧ 8 * leAt salvoEntry 32 4 ≤ salvoList.length ∧ salvoCheck 0 [] (salvoOps salvoEntry salvoList) (fetched 0 0 live) = none := by
  unfold Passes; decide +kernel

theorem witness_freeze : Passes 0x18 0 (entry 0x18) 0 live ∧ freezeCheck (entry 0x18) (fetched 0 0 live) = none ∧ leAt (entry 0x18) 26 1 = 0
    ∧ Passes 0x18 0 (put 26 [1#8] (entry 0x18)) 0 live ∧ freezeCheck (put 26 [1#8] (entry 0x18)) (fetched 0 0 live) = none := by
  unfold Passes; decide +kernel

def captureEntry : List Byte := put 26 [1#8, 0#8, 1#8] (entry 0x19)

theorem witness_capture :
    let s := setAlloc 0 (fun x => { x with frames := [{ num := 7 }] }) live
    Passes 0x19 0 captureEntry 0 s ∧ captureCheck captureEntry (fetched 0 0 s) = none := by unfold Passes; decide +kernel

def selectEntry : List Byte := put 24 [1#8, 0#8, 1#8] (entry 0x1A)

theorem witness_stillSelect : Passes 0x1A 0 selectEntry 0 live ∧ selectCheck selectEntry (fetched 0 0 live) = none
    ∧ planesRead (fetched 0 0 (setF LNO_GRP_CFG.ENABLED 0 0 live)) = [] ∧ planesRead (fetched 0 0 live) ≠ [] := by unfold Passes; decide +kernel

/-- One shadow record of layer 0 of engine 0, disabled, on allocation 0. -/
def shadowList : List Byte := leBytes 4 (2 ^ 30) ++ List.replicate 28 0#8
def shadowEntry (commit : Byte) : List Byte := put 33 [commit, 1#8] (entry 0x20)

theorem witness_cmpShadow : Passes 0x20 0 (shadowEntry 0#8) 0 live ∧ engineOk (cmpEngine (shadowEntry 0#8)) (fetched 0 0 live) = true
    ∧ cmpCount (shadowEntry 0#8) = 1 ∧ shadowCheck 0 (shadowRecords (shadowEntry 0#8) shadowList) (fetched 0 0 live) = none
    ∧ cmpCommitFlag (shadowEntry 0#8) = false ∧ leAt shadowList 0 4 / 2 ^ 30 = 1
    ∧ Passes 0x20 0 (shadowEntry 1#8) 0 live ∧ cmpCommitFlag (shadowEntry 1#8) = true
    ∧ (let a := writeShadows (shadowEntry 1#8) shadowList (fetched 0 0 live); commitCheck 0 (takeCopy 0 a) a = none) := by
  unfold Passes; decide +kernel

theorem witness_cmpCommit : Passes 0x21 0 (entry 0x21) 0 live ∧ engineOk 0 (fetched 0 0 live) = true
    ∧ commitCheck 0 (takeCopy 0 (fetched 0 0 live)) (fetched 0 0 live) = none := by unfold Passes; decide +kernel

theorem witness_nop_fence : Passes 0x00 0 (entry 0x00) 0 live ∧ Passes 0x01 0 (entry 0x01) 0 live := by unfold Passes; decide +kernel

def bundleEntry : List Byte := put 32 (leBytes 4 704) (entry 0x28)

theorem witness_bundleLoad : Passes 0x28 0 bundleEntry 0 live ∧ 0x260 + 96 ≤ bundleLength bundleEntry ∧ bundleLength bundleEntry ≤ 131072
    ∧ Passes 0x29 0 (entry 0x29) 0 live := by unfold Passes; decide +kernel

/-! ### Witnesses: crosspoint, kennel, composition -/

/-- A take to input slot 7 that is armed for the instant at which the boundary 0 of plane 0 comes to the outputs. -/
def armedTake (o src : Nat) : PendTake :=
  { uid := 3, out := o, src := src, due := dueUntimed 0, armed := some { mode := mDirect, count := 0, after := tOut live } }

/-- Output slot `o` waits for that take. -/
def waiting (o : Nat) : State := setXpt (fun x => { x with pend := [armedTake o 0x40000007] }) live

theorem witness_TakesCommitAtTheirPoints :
    (let s := waiting 0
     serving s = true ∧ outUsed 0 s = true ∧ isSafety 0 s = false
     ∧ (dueTakes 0 (advance (tOut live) s).now (advance (tOut live) s)).getLast? = some (armedTake 0 0x40000007)
     ∧ (armedTake 0 0x40000007).armed ≠ none ∧ leadPath 0 s = none ∧ noSwitch 0 0x40000007 mDirect s = false
     ∧ noSwitch 0 0x40000007 mDirect (s |> setF XPT_OUT_SRC.SOURCE 0 0x40000007 |> setF XPT_OUT_STATE.MODE 0 mDirect) = true)
    ∧ (let s := setXpt (fun x => { x with pend := [{ uid := 3, out := 0, src := 0x40000007, due := dueUntimed 0 }] }) live
       let t := planePeriod 0 live + tOut live - armLead
       pointAt (takePoints 0 (advance t s)) ((advance t s).now + armLead) = true
       ∧ pointAt (takePoints 0 (advance (t + msUnit) s)) ((advance (t + msUnit) s).now + armLead) = false) := by decide +kernel

def goodFrame : FrameIn := { fmt := 0x23, vpid := none, vpidFmt := 0, start := 0, badLines := 0, picture := [] }

theorem witness_InputFramesAndWindow :
    let a := live |> setF XPT_IN_STATUS.WIN 0 wIn |> setF XPT_IN_STATUS.FORMAT 0 0x23
    (serving a = true ∧ inUsed 0 a = true ∧ inWin 0 a ≠ wNoSig ∧ inFmt 0 a ≠ 0 ∧ frameAgrees goodFrame (inFmt 0 a) = true
      ∧ frameAgrees { goodFrame with fmt := 0x24 } (inFmt 0 a) = false ∧ inWin 0 a = wIn ∧ inWin 0 live = wNoSig)
    ∧ (let s := live |> setF XPT_IN_STATUS.WIN 0 wNoFmt |> setXIn 0 (fun x => { x with cand := some 0x23 })
       inWin 0 s ≠ wNoSig ∧ inFmt 0 s = 0 ∧ fmtValid goodFrame.fmt = true ∧ frameOwn goodFrame = true ∧ (xin 0 s).cand = some goodFrame.fmt
       ∧ inWin 0 s = wNoFmt)
    ∧ (let s := a |> setF XPT_OUT_SRC.SOURCE 5 (srcInput 0) |> setF XPT_OUT_STATE.MODE 5 mDirect
       5 ∈ fedBy 0 s ∧ isSafety 5 s = false ∧ outMode 5 s = mDirect)
    ∧ (let s := live |> setF KNL_ALLOC_CFG.WRITER 0 0 |> setAlloc 0 (fun x => { x with started := true })
       0 ∈ allocsOf 0 s ∧ (alloc 0 s).started = true) := by decide +kernel

theorem witness_MeasurementHoldsAct :
    let late := 2 ^ 60
    let f (s : State) := serving s = true ∧ inUsed 0 s = true
    (let s := setMeas 0 (fun m => { m with lossSince := some 0 }) live |> setF KNL_MEAS_STATUS.LOSS 0 0
     f s ∧ getB KNL_MEAS_STATUS.LOSS 0 s = false
       ∧ elapsed (meas 0 s).lossSince (max 1 (getF KNL_MEAS_CFG2.LOSS_MS 0 s) * msUnit) (advance late s).now = true)
    ∧ (let s := setMeas 0 (fun m => { m with blackSince := some 0, freezeSince := some 0 }) live
       getB KNL_MEAS_STATUS.BLACK 0 s = false ∧ getB KNL_MEAS_STATUS.FREEZE 0 s = false
       ∧ elapsed (meas 0 s).blackSince (holdUnits (getF KNL_MEAS_CFG1.BLACK_SET 0 s)) (advance late s).now = true
       ∧ elapsed (meas 0 s).freezeSince (holdUnits (getF KNL_MEAS_CFG1.FREEZE_SET 0 s)) (advance late s).now = true)
    ∧ (let s := setMeas 0 (fun m => { m with blackClear := some 0, freezeClear := some 0 }) live |> setF KNL_MEAS_STATUS.BLACK 0 1
         |> setF KNL_MEAS_STATUS.FREEZE 0 1
       getB KNL_MEAS_STATUS.BLACK 0 s = true ∧ getB KNL_MEAS_STATUS.FREEZE 0 s = true
       ∧ elapsed (meas 0 s).blackClear (holdUnits (getF KNL_MEAS_CFG1.CLEAR 0 s)) (advance late s).now = true
       ∧ elapsed (meas 0 s).freezeClear (holdUnits (getF KNL_MEAS_CFG1.CLEAR 0 s)) (advance late s).now = true) := by decide +kernel

def rolling (ns : List Nat) (shown : Option Nat) : State :=
  live |> setF XPT_IN_STATUS.WIN 0 wIn |> setF XPT_IN_STATUS.FORMAT 0 0x23
    |> setAlloc 0 (fun x => { x with frames := ns.map (fun n => { num := n, fmt := 0x23, endAt := n }), started := true, fmt := 0x23 })
    |> setReader 0 0 (fun r => { r with shown := shown, fmt := 0x23 })

/-- The second output reference point of the readers of plane 0. -/
def secondPoint : Nat := tOut live + framePeriod 3

def choiceOf (s : State) : ReadChoice := chooseFrame 0 0 (advance secondPoint s).now (advance secondPoint s)

theorem witness_KennelFramesMove :
    (let s := rolling [2, 1] (some 1)
     serving s = true ∧ planeEnabled 0 s = true ∧ allocClass 0 s ≠ clStill ∧ written (allocClass 0 s) = true ∧ noFrames 0 s = false
       ∧ leadFrame 0 0 s = none ∧ pointAt (readerPts 0 0 (advance secondPoint s)) (advance secondPoint s).now = true)
    ∧ (let s := live |> setAlloc 1 (fun x => { x with stills := [(0, { num := 0, fmt := 0x23 })] })
       planeEnabled 0 s = true ∧ pointAt (readerPts 1 0 (advance secondPoint s)) (advance secondPoint s).now = true
       ∧ allocClass 1 s = clStill ∧ (alloc 1 s).pend = [] ∧ (reader 1 0 s).shown = none
       ∧ stillFrame 1 (getF KNL_ALLOC_STATUS.SELECT 1 s) s = some { num := 0, fmt := 0x23 } ∧ belongs 0x23 0 s = true)
    ∧ choiceOf (rolling [2, 1] (some 1)) = .next 2 ∧ choiceOf (rolling [3, 2, 1] (some 1)) = .drop 3 ∧ choiceOf (rolling [1] (some 1)) = .repeat 1
    ∧ choiceOf (rolling [2, 1] none) = .first 2 ∧ choiceOf (rolling [] none) = .none
    ∧ serves 0 0 (rolling [3, 2, 1] (some 1) |> setF XPT_OUT_SRC.SOURCE 0 0x80000000 |> setF XPT_OUT_STATE.MODE 0 mKennel) = true
    ∧ (let s := live |> setF KNL_ALLOC_CFG.CLASS 2 clFlowRx |> setF KNL_ALLOC_CFG.FMT_MAX 2 0x23 |> setAlloc 2 (fun x => { x with started := true })
       allocClass 2 s = clFlowRx ∧ (alloc 2 s).lastPkt + framePeriod (fmtRate (allocFmtMax 2 s)) ≤ (advance (2 ^ 45) s).now)
    ∧ (let s := live |> setAlloc 1 (fun x => { x with captures := [(7, 1, { num := 4 })] })
       (s.xpt.allocs.find? (fun q => q.2.captures.any (fun c => c.1 == 7))).map (·.1) = some 1
       ∧ (alloc 1 s).captures.find? (fun c => c.1 == 7) = some (7, 1, { num := 4 })) := by decide +kernel

theorem witness_HeadBoundaryCommits :
    let a := setPlane 0 (fun x => { x with next := 2 ^ 50 }) live
    (let s := setCmp (fun c => { c with pend := [{ uid := 3, engine := 0, copy := takeCopy 0 live, due := dueUntimed 0 }] }) a
     serving s = true ∧ getB CMP_ENG_CFG.ENABLED 0 s = true ∧ domDown 400 s = false ∧ headFallsNow 0 (advance (2 ^ 50) s) = true
     ∧ (s.cmp.pend.filter (fun q => q.engine == 0 && q.due.reached (advance (2 ^ 50) s).now (advance (2 ^ 50) s))).getLast?.map (·.uid) = some 3
     ∧ getB DBG_ENG_STATUS.HALTED 128 s = false ∧ headsOf 0 live = headsOf 0 s ∧ headsOf 0 s = [0]
     ∧ (baseLayers 0 s).contains 31 = false ∧ s.xpt.safety = [] ∧ regsOk s = true)
    ∧ (let s := a |> setF CMP_LAYER.WORD 0 (2 ^ 22)
       headFallsNow 0 (advance (2 ^ 50) s) = true ∧ s.cmp.pend = [] ∧ s.xpt.safety = [] ∧ (baseLayers 0 s).contains 0 = false
       ∧ rEn (layerWords 1 s) = false ∧ rEn (layerWords 0 s) = true
       ∧ (headOf 0 (rHead (layerWords 0 s)) s).isSome = true ∧ sourceDown (rAlloc (layerWords 0 s)) s = true) := by decide +kernel

/-- One map record that clears the de-embedding of input slot 0, and one flow record that takes receive context 0 out of use. -/
def mapEntry (op : Nat) : List Byte := put 32 (leBytes 4 1) (entry op)
def record0 (kind : Nat) : List Byte := leBytes 4 kind ++ List.replicate 28 0#8

theorem witness_audMap : Passes 0x30 0 (mapEntry 0x30) 0 live ∧ 1 ≤ mapCount (mapEntry 0x30) ∧ mapCount (mapEntry 0x30) ≤ 4096
    ∧ eList (mapEntry 0x30) % 32 = 0 ∧ 32 * mapCount (mapEntry 0x30) ≤ (record0 (2 ^ 28)).length
    ∧ mapCheck (mapRecords (mapEntry 0x30) (record0 (2 ^ 28))) (fetched 0 0 live) = none := by unfold Passes; decide +kernel

def coefEntry : List Byte := put 32 [2#8, 0#8, 0#8, 0#8, 2#8, 0#8] (entry 0x31)

theorem witness_reeWrite : Passes 0x31 0 coefEntry 0 live ∧ rwEngine coefEntry < 128 ∧ getB REE_ENG_CFG.ENABLED (rwEngine coefEntry) live = true
    ∧ 1 ≤ rwCount coefEntry ∧ rwFirst coefEntry + rwCount coefEntry ≤ (if rwState coefEntry then 8192 else 4096) ∧ eList coefEntry % 32 = 0
    ∧ 4 * rwCount coefEntry ≤ (List.replicate 8 0#8 : List Byte).length := by unfold Passes; decide +kernel

theorem witness_flwCtx :
    let s := setF FLW_RX_CFG.KIND 0 1 live
    Passes 0x38 0 (mapEntry 0x38) 0 s ∧ 1 ≤ mapCount (mapEntry 0x38) ∧ mapCount (mapEntry 0x38) ≤ 4096 ∧ eList (mapEntry 0x38) % 32 = 0
    ∧ 32 * mapCount (mapEntry 0x38) ≤ (record0 (2 ^ 30)).length
    ∧ flowCheck (flowRecords (mapEntry 0x38) (record0 (2 ^ 30))) (fetched 0 0 s) = none := by unfold Passes; decide +kernel

theorem witness_imageReload : imageBusy live = false
    ∧ Passes 0x41 0 (put 36 [2#8] (put 32 (leBytes 4 8192) (entry 0x41))) 0 live ∧ leAt (put 36 [2#8] (entry 0x41)) 36 1 = 2
    ∧ Passes 0x41 0 (entry 0x41) 0 live ∧ leAt (entry 0x41) 36 1 < 2 := by unfold Passes; decide +kernel

/-! ### Witnesses: Shofar, audio, reed engines -/

/-- A bundle of one message, all of one colour. -/
def message : List Byte := (List.replicate 270 [0x0F#8, 0xFF#8, 0x0F#8, 0xC1#8]).flatten
def bundle : List Byte :=
  leBytes 2 1 ++ leBytes 2 1 ++ leBytes 4 3 ++ List.replicate 72 0#8 ++ [0#8, 0#8, 0xFF#8, 0#8, 5#8, 0#8, 0#8, 0#8, 0#8, 0#8, 0xFF#8, 0#8, 5#8]
    ++ List.replicate 3 0#8 ++ [2#8, 0#8, 0#8, 0#8] ++ leBytes 4 0x260 ++ leBytes 4 1080 ++ List.replicate 500 0#8 ++ message ++ List.replicate 96 0#8

/-- A request to assert message 0. -/
def request : List Byte := leBytes 2 1 ++ [1#8, 0#8] ++ leBytes 8 1 ++ List.replicate 6 0#8 ++ leBytes 6 100 ++ List.replicate 136 0#8

theorem witness_PrinelDecides :
    let s := setShf (fun f => { f with pendBundle := [(7, bundle)], pendReq := [(8, request)], bundle := bundle }) live |> setF SHF_BUNDLE.VALID 0 1
    serving s = true ∧ s.shf.pendBundle.find? (fun p => p.1 == 7) = some (7, bundle)
    ∧ s.shf.pendReq.find? (fun p => p.1 == 8) = some (8, request) ∧ request.length = 160 := by decide +kernel

/-- Beyond its signature, whose check the model leaves open, the bundle passes. -/
theorem witness_PrinelDecides_passes (h : signedBy 9 (bundle.take (bundle.length - 96)) (bundle.drop (bundle.length - 96)) (advance 0 live) = true) :
    bundleCheck bundle (advance 0 live) = none := by
  unfold bundleCheck; rw [h]; decide +kernel

def shown : State := setShf (fun f => { f with bundle := bundle }) live |> setF SHF_BUNDLE.VALID 0 1

theorem witness_PrinelDecides_acts (h : signedBy 9 (request.take 64) ((request.drop 64).take 96) (advance 0 shown) = true) :
    reqCheck request (advance 0 shown) = none := by
  unfold reqCheck; rw [h]; decide +kernel

theorem witness_PrinelDecides_fails : bundleCheck [] (advance 0 live) = some stAuth ∧ reqCheck [] (advance 0 live) = some stFormat
    ∧ StoreTakes rowShofarState [] live ∧ reqAction request = 1 := by
  refine ⟨?_, by decide +kernel, ?_, by decide +kernel⟩
  · unfold bundleCheck signedBy keyActive; rw [show keyState 9 (advance 0 live) = 0 by decide +kernel]; rfl
  · unfold StoreTakes; decide +kernel

theorem witness_ContactsAreDebounced :
    loopClass 3000 = some 0 ∧ loopClass 10000 = some 1 ∧ loopClass 60000 = some 2 ∧ loopClass 5000 = none
    ∧ listedAt live.shf.gaps 1 = none ∧ live.powered = true
    ∧ (let s := setShf (fun f => { f with gaps := [(1, 0)], cand := [(1, 1, 0)], restore := [(0, 5), (3, 6)] }) shown
       s.powered = true ∧ serving s = true ∧ listedAt s.shf.gaps 1 = some 0 ∧ 0 + secUnit ≤ (advance (2 ^ 50) s).now
       ∧ s.shf.cand.find? (fun p => p.1 == 1) = some (1, 1, 0) ∧ (1 : Nat) ≠ 0 ∧ 0 + 20 * msUnit ≤ (advance (2 ^ 50) s).now
       ∧ restoreAt 0 s = some 5 ∧ restoreAt 3 s = some 6 ∧ 6 ≤ (advance (2 ^ 50) s).now)
    ∧ (let s := setShf (fun f => { f with bundle := bundle.set 0x52 0#8 }) shown; contactFaultMsg 0 s = some 0) := by decide +kernel

/-- Plane 0 is at its boundary at module time 0, and its next is a frame of 50 Hz later; the third block of that frame. -/
def framed (s : State) : State := setPlane 0 (fun x => { x with next := framePeriod 3 }) s
def thirdBlock : Nat := (3 * framePeriod 3 + 59) / 60

/-- A running engine. -/
theorem witness_AudioBlockStarts :
    let s := framed (setReed 2 (fun r => { r with ended := false }) live)
    serving s = true ∧ regsOk s = true ∧ 2 ∈ engines s ∧ engState 2 s = reedRun ∧ (reed 2 s).ended = false ∧ domDown 274 s = false
    ∧ s.dbg.haltBlock.contains 2 = false ∧ s.aud.boundary < (advance thirdBlock s).now
    ∧ blockFallsNow (advance thirdBlock s) = true ∧ blockFallsNow (advance (thirdBlock + msUnit / 10) s) = false := by decide +kernel

/-- Engine 2 is at the word `w`, within its block. -/
def atWord (w : Nat) : State := setReed 2 (fun r => { r with ended := false, prog := [0x08000000, w], pc := 1 }) live

theorem witness_ReedControlInstructions :
    (Executes 0x00 2 (atWord 0) ∧ Executes 0x01 2 (atWord 0x08000000) ∧ Executes 0x02 2 (atWord 0x12000005) ∧ Executes 0x03 2 (atWord 0x1A001FFF)
      ∧ Executes 0x04 2 (atWord 0x20002003) ∧ 1 ≤ bits 0x20002003 13 8 ∧ fXI 0x12000005 ≠ 0 ∧ fXI 0x1A001FFF ≠ 0 ∧ fXI 0x10000005 = 0
      ∧ Executes 0x02 2 (atWord 0x10000005))
    ∧ (let s := setReed 2 (fun r => { r with loops := [{ first := 0, last := 1, left := 3, step := 4, xi := 2 }] }) (atWord 0)
       Executes 0x00 2 s ∧ ∃ l, (reed 2 s).loops = [l] ∧ l.last = (reed 2 s).pc ∧ 1 < l.left ∧ l.xi ≠ 0)
    ∧ (let s := setReed 2 (fun r => { r with ramps := [4, 4094] }) (atWord 0x08000000)
       Executes 0x01 2 s ∧ (reed 2 s).ramps.Nodup ∧ ∀ k, k ∈ (reed 2 s).ramps → k < 4096) := by
  unfold Executes
  refine ⟨by decide +kernel, ⟨by decide +kernel, _, rfl, by decide +kernel⟩, by decide +kernel⟩

theorem witness_ReedMoveInstructions :
    Executes 0x08 2 (atWord 0x40000000) ∧ Executes 0x09 2 (atWord 0x48000000) ∧ Executes 0x0A 2 (atWord 0x50000000)
    ∧ Executes 0x0B 2 (atWord 0x58000000) ∧ Executes 0x0C 2 (atWord 0x60000000) ∧ Executes 0x0D 2 (atWord 0x68000000)
    ∧ Executes 0x0D 2 (atWord 0x69000000) ∧ bit 0x69000000 24 = true ∧ bit 0x68000000 24 = false ∧ Executes 0x0E 2 (atWord 0x70000000) := by
  unfold Executes; decide +kernel

theorem witness_ReedArithmeticInstructions :
    Executes 0x10 2 (atWord 0x80000000) ∧ Executes 0x11 2 (atWord 0x88000000) ∧ Executes 0x12 2 (atWord 0x90000000)
    ∧ Executes 0x13 2 (atWord 0x98000000) ∧ Executes 0x14 2 (atWord 0xA0000000) ∧ Executes 0x14 2 (atWord 0xA0010000)
    ∧ Executes 0x19 2 (atWord 0xC8000000) ∧ Executes 0x1C 2 (atWord 0xE000000B) ∧ bits 0xE000000B 0 4 < 12
    ∧ Executes 0x18 2 (atWord 0xC0000000) ∧ Executes 0x18 2 (atWord 0xC0100000) := by
  unfold Executes; decide +kernel

/-! ### Witnesses: Ethernet ports, meters, flows, references, planes -/

/-- The frame without its FCS: a UDP packet of 239.0.0.1 port 5004 that carries RTP of payload type 97 and sequence `seq`. -/
def rtpFrame (ver seq : Byte) : List Byte :=
  [1#8, 0#8, 0x5E#8, 0#8, 0#8, 1#8, 2#8, 0#8, 0#8, 0#8, 0#8, 9#8, 8#8, 0#8,
   0x45#8, 0#8, 0#8, 0x32#8, 0#8, 0#8, 0#8, 0#8, 0x40#8, 17#8, 0x81#8, 0xB9#8, 10#8, 0#8, 0#8, 1#8, 239#8, 0#8, 0#8, 1#8,
   3#8, 0xE8#8, 0x13#8, 0x8C#8, 0#8, 30#8, 0#8, 0#8, ver, 97#8, 0#8, seq] ++ List.replicate 18 0#8

def wire (body : List Byte) : List Byte := body ++ leBytes 4 (crc32 body)

/-- A PAUSE frame of 255 quanta, a frame of another MAC control opcode, and a frame of the host. -/
def controlFrame (type op : Nat) : List Byte := [1#8, 0x80#8, 0xC2#8, 0#8, 0#8, 1#8, 2#8, 0#8, 0#8, 0#8, 0#8, 9#8] ++ beBytes 2 type ++ beBytes 2 op
  ++ beBytes 2 255 ++ List.replicate 42 0#8

def mediaFrame : List Byte := wire (rtpFrame 0x80#8 7#8)
def pauseFrame : List Byte := wire (controlFrame 0x8808 1)
def hostFrame : List Byte := wire (controlFrame 0x0806 2)
def noHost : State := { live with pcie := { live.pcie with perst := true } }

theorem witness_ReceivedFramesAreSorted :
    serving live = true ∧ lpUsed 0 live = true ∧ flushedWhile 5 (lp 0 live).flushMedia (advance 0 live) = false
    ∧ (rxRow 0 mediaFrame false (advance 0 live) = 0 ∧ isPause 0 mediaFrame live = false ∧ frameType mediaFrame ≠ 0x8808
      ∧ isMedia (mediaFrame.take (mediaFrame.length - 4)) = true)
    ∧ (rxRow 0 pauseFrame false (advance 0 live) = 0 ∧ isPause 0 pauseFrame live = true)
    ∧ (rxRow 0 (wire (controlFrame 0x8808 2)) false (advance 0 live) = 0 ∧ isPause 0 (wire (controlFrame 0x8808 2)) live = false
      ∧ frameType (wire (controlFrame 0x8808 2)) = 0x8808)
    ∧ (rxRow 0 hostFrame false (advance 0 noHost) = 0 ∧ isPause 0 hostFrame noHost = false ∧ frameType hostFrame ≠ 0x8808
      ∧ isMedia (hostFrame.take (hostFrame.length - 4)) = false ∧ hostUp noHost = false) := by decide +kernel

/-- Each row of the table can fail. -/
theorem witness_ReceivedFramesAreSorted_rows :
    rxRow 0 (pauseFrame.take 63) false live = 1 ∧ rxRow 0 (2#8 :: mediaFrame.drop 1) false live = 2
    ∧ rxRow 0 (mediaFrame ++ List.replicate 9300 0#8) false live = 3
    ∧ rxRow 0 mediaFrame true live = 5 ∧ rxRow 0 (mediaFrame.set 60 1#8) false live = 5
    ∧ rxRow 0 (wire ((rtpFrame 0x80#8 7#8).set 24 0#8)) false live = 6 ∧ rxRow 0 (wire ((rtpFrame 0x80#8 7#8).set 41 1#8)) false live = 7
    ∧ rxRow 0 hostFrame false (setLp 0 (fun l => { l with ctlRx := List.replicate 66 { frame := List.replicate 1000 0#8 } }) live
      |> setF ETH_PORT_CFG.SPLIT 0 2) = 4 := by
  decide +kernel

def linked : State := live |> setF ETH_PORT_STATUS.LINK 0 1

theorem witness_FramesAreSentBetweenPauses :
    let f := rtpFrame 0x80#8 7#8
    (let s := setLp 0 (fun l => { l with mediaTx := [f] }) linked
     serving s = true ∧ lpUsed 0 s = true ∧ linkUp 0 s = true ∧ portBit ETH_PORT_STATUS.RFAULT 0 s = false ∧ (lp 0 s).mediaTx = [f]
     ∧ (paused 0 (advance 6 s) && getB ETH_LP_CFG.MEDIA_PAUSE 0 s) = false)
    ∧ (let s := setLp 0 (fun l => { l with mediaTx := [f], pauseEnd := some 5, pausePend := some 9 }) linked |> setF ETH_LP_CFG.MEDIA_PAUSE 0 1
       linkUp 0 s = true ∧ portBit ETH_PORT_STATUS.RFAULT 0 s = false ∧ (lp 0 s).mediaTx = [f]
       ∧ (paused 0 (advance 4 s) && getB ETH_LP_CFG.MEDIA_PAUSE 0 s) = true ∧ (lp 0 s).pausePend = some 9
       ∧ (lp 0 s).pauseEnd = some 5 ∧ 5 ≤ (advance 6 s).now)
    ∧ (let x : TxCtl := { frame := controlFrame 0x0806 2, tag := some 4 }
       let s := setLp 0 (fun l => { l with ctlTx := [x] }) linked
       (lp 0 s).mediaTx = [] ∧ paused 0 (advance 6 s) = false ∧ (lp 0 s).ctlTx = [x] ∧ frameType x.frame ≠ 0x8808
       ∧ (padFrame (insertTag x.frame x.tag)).length + 4 ≤ maxFrame 0 s)
    ∧ linkUp 0 live = false := by decide +kernel

/-- A whole millisecond of local time. -/
def wholeMs (s : State) : Nat := (msUnit - localTime s % msUnit) % msUnit

theorem witness_PortsFollowTheirLinks :
    serving live = true ∧ reached live = true ∧ lpUsed 0 live = true ∧ domDown 256 live = false ∧ linkUp 0 live = false ∧ linkUp 0 linked = true
    ∧ getB ETH_PORT_CFG.ENABLED 0 live = true ∧ msInstant (advance (wholeMs live) live) = true
    ∧ (let s := setDom 256 dOn live; getF PWR_DOM.STATE 256 s = dOn ∧ ∀ j, j < 4 → linkUp (4 * 0 + j) s = false)
    ∧ getB ETH_LP_CTL.MEDIA_RX_BUSY 0 live = false ∧ getB ETH_LP_CTL.CTL_RX_BUSY 0 live = false ∧ getB ETH_LP_CTL.CTL_TX_BUSY 0 live = false
    ∧ firstFrame (netRing (lpNet 0 live) live).txPend = none
    ∧ getF ETH_PORT_STATUS.STEP 0 (setF ETH_PORT_STATUS.STEP 0 2 live) = 2
    ∧ (let s := setF ETH_PORT_STATUS.STEP 0 1 (setPort 0 (fun x => { x with rxBytes := 2 ^ 40 }) live)
       getF ETH_PORT_STATUS.STEP 0 s = 1
       ∧ stepRise ETH_PORT_STEP.RISE1 0 s * windowBytes < max (ethPort 0 s).rxBytes (ethPort 0 s).txBytes * 100)
    ∧ getB ETH_LP_CTL.MEDIA_RX_BUSY 0 (setF ETH_LP_CTL.MEDIA_RX_BUSY 0 1 live) = true
    ∧ getB ETH_LP_CTL.CTL_RX_BUSY 0 (setF ETH_LP_CTL.CTL_RX_BUSY 0 1 live) = true
    ∧ getB ETH_LP_CTL.CTL_TX_BUSY 0 (setF ETH_LP_CTL.CTL_TX_BUSY 0 1 live) = true := by decide +kernel

theorem witness_MetersAndSnapshots :
    (let s := setF MON_SNAP_STATUS.ARMED 0 1 live
     serving s = true ∧ reached s = true ∧ getB MON_SNAP_STATUS.ARMED 0 s = true ∧ getB MON_SNAP_CTL.HOLD 0 s = false
     ∧ snapInstant (advance 0 s) = true ∧ regsOk s = true ∧ s.reed.cleared = []
     ∧ fieldOf REE_PK_MAX.PEAK_MAX.id = some REE_PK_MAX.PEAK_MAX ∧ REE_PK_MAX.PEAK_MAX.ctr = true
     ∧ getB REE_PK_CFG.EN 3 (setF REE_PK_CFG.EN 3 1 s) = true ∧ PIP_PLANE_COUNT.COUNT.ctr = true ∧ getB PIP_PLANE_CFG.ENABLED 0 s = true)
    ∧ getB MON_SNAP_CTL.HOLD 0 (setF MON_SNAP_CTL.HOLD 0 1 live) = true
    ∧ (setEth (fun e => { e with snapAt := some 5 }) live).eth.snapAt = some 5 := by decide +kernel

/-- Receive context 4, of kind OPAQUE, takes what comes to 239.0.0.1 port 5004 of port 0. -/
def listening : State := linked |> setF FLW_RX_CFG.KIND 4 5 |> setF FLW_RX_CFG.BIND 4 6 |> setF FLW_RX_STATUS.EN 4 1
  |> setF FLW_RX_REC.WORD 34 0xEF000001 |> setF FLW_RX_REC.WORD 38 5004 |> setF FLW_RX_REC.WORD 39 97 |> setDom 520 dOn

def who (f : List Byte) (s : State) : Option (Nat × Bool) :=
  classify_ 0 (beAt f (ipAt f + 16) 4) (beAt f (ipAt f + 22) 2) (beAt f (ipAt f + 12) 4) s
def rtp7 : List Byte := rtpFrame 0x80#8 7#8
def arrived : State := setLp 0 (fun l => { l with mediaRx := [(3, rtp7)] }) listening

theorem witness_FlowPacketsAreMerged :
    (serving arrived = true ∧ (lp 0 arrived).mediaRx = [(3, rtp7)] ∧ domDown 520 arrived = false ∧ who rtp7 arrived = some (4, false)
     ∧ rtpVersion (rtpBytes rtp7) = 2 ∧ rtpType (rtpBytes rtp7) = bits (rxWord 4 7 arrived) 0 7 ∧ rxKind 4 arrived ≠ kVideo
     ∧ (rxCtx 4 arrived).high = none)
    ∧ (who rtp7 live = none ∧ who (rtpFrame 0x40#8 7#8) listening = some (4, false) ∧ rtpVersion (rtpBytes (rtpFrame 0x40#8 7#8)) ≠ 2)
    ∧ (let s := setRx 4 (fun x => { x with high := some 65543, seen := [65543], waits := [(65542, 9)], lastA := some 3 }) arrived
       (rxCtx 4 s).high = some 65543 ∧ extSeq 4 (rtpBytes rtp7) s = 65543 ∧ (rxCtx 4 s).seen.contains (extSeq 4 (rtpBytes rtp7) s) = true
       ∧ (rxCtx 4 s).waits.any (fun w => decide (w.2 ≤ (advance 9 s).now)) = true
       ∧ (rxCtx 4 s).lastA = some 3 ∧ getB FLW_RX_STATUS.EN 4 s = true ∧ 3 + 10 * msUnit ≤ (advance (2 ^ 40) s).now) := by decide +kernel

/-- A transmit record of port `a`, and of port `b` where the context is paired, to 239.0.0.1: format 0x23, payloads of 1,200 bytes, TR 10 µs. -/
def sendRec (a : Nat) (pair : Option Nat) : List Nat :=
  [0, 2 ^ 24 * a + (match pair with | some b => 2 ^ 31 + 2 ^ 16 * b | none => 0), 0xEF000001, 0xEF000001, 0, 0, 0, 0x23 * 2 ^ 24 + 2 ^ 13 + 1200]

/-- Transmit context 6, of kind `kind`, has a frame with `n` packets of ancillary data to send under `ws`. -/
def sending (kind n : Nat) (ws : List Nat) : State :=
  listening |> setF ETH_PORT_STATUS.LINK 0 3 |> setF FLW_TX_CFG.KIND 6 kind |> setF FLW_TX_STATUS.EN 6 1
    |> setTx 6 (fun x => { x with queue := [{ frame := { num := 7, fmt := 0x23, packets := List.replicate n (List.replicate 262 0#10) }, words := ws }] })

/-- The reader of allocation 0 on plane 0 serves transmit context 6, which sends video of format `f`. -/
def serving6 (ns : List Nat) (f : Nat) : State :=
  rolling ns none |> setF FLW_TX_CFG.KIND 6 kVideo |> setF FLW_TX_STATUS.EN 6 1 |> setF FLW_TX_REC.WORD 55 (f * 2 ^ 24)

theorem witness_FlowsAreSentUnderTheirRecords :
    (let s := sending kVideo 0 (sendRec 0 none)
     serving s = true ∧ (txCtx 6 s).queue.map (·.words) = [sendRec 0 none] ∧ getF FLW_TX_CFG.KIND 6 s = kVideo
     ∧ (∀ f, f ∈ (txCtx 6 s).queue → videoDue f (txCtx 6 s).sent ≤ (advance (2 ^ 50) s).now
         ∧ (txCtx 6 s).sent + 1 < videoPackets f.frame.fmt (videoSize (f.words.getD 7 0)))
     ∧ getB TWN_STATUS.CLAIM 0 s = true ∧ getB TWN_STATUS.CLAIM 0 (setF TWN_STATUS.CLAIM 0 0 s) = false
     ∧ bit ((sendRec 0 none).getD 1 0) 31 = false ∧ carriesMedia 0 (advance (2 ^ 50) s) = true
     ∧ mediaTxBytes 0 s + (flowHeaders (sendRec 0 none) 0 0xEF000001 (List.replicate 1250 0#8) s).length ≤ mediaTxSize 0 s
     ∧ bit ((sendRec 0 (some 1)).getD 1 0) 31 = true ∧ bits ((sendRec 0 (some 1)).getD 1 0) 24 6 = 0 ∧ bits ((sendRec 0 (some 1)).getD 1 0) 16 6 = 1
     ∧ carriesMedia 1 (advance (2 ^ 50) s) = true
     ∧ mediaTxBytes 1 s + (flowHeaders (sendRec 0 (some 1)) 1 0xEF000001 (List.replicate 1250 0#8) s).length ≤ mediaTxSize 1 s)
    ∧ (let s := setTx 6 (fun x => { x with sent := 4319 }) (sending kVideo 0 (sendRec 0 none))
       ∀ f, f ∈ (txCtx 6 s).queue → videoPackets f.frame.fmt (videoSize (f.words.getD 7 0)) ≤ (txCtx 6 s).sent + 1)
    ∧ (let s := sending kAnc 0 (sendRec 0 none)
       getF FLW_TX_CFG.KIND 6 s = kAnc ∧ ∀ f, f ∈ (txCtx 6 s).queue → f.at_ + (20 + (txCtx 6 s).sent) * usUnit ≤ (advance (2 ^ 50) s).now
         ∧ max 1 (ancToSend f.frame (bit (f.words.getD 7 0) 0)).length ≤ (txCtx 6 s).sent + 1)
    ∧ (let s := listening |> setF FLW_TX_CFG.KIND 6 3 |> setF FLW_TX_STATUS.EN 6 1
         |> setTx 6 (fun x => { x with audio := List.replicate 48 [0] })
       txAudio 6 s = true ∧ getB FLW_TX_STATUS.EN 6 s = true ∧ txSampleRate 6 s / txPacketRate 6 s ≤ (txCtx 6 s).audio.length
       ∧ (txCtx 6 s).audioAt + txSampleRate 6 s / txPacketRate 6 s * secUnit / txSampleRate 6 s + txLat 6 s * secUnit / 48000
           ≤ (advance (2 ^ 50) s).now)
    ∧ (let s := setRx 4 (fun x => { x with relay := [(3, sendRec 0 none, [0x80#8])] }) listening
       (rxCtx 4 s).relay = [(3, sendRec 0 none, [0x80#8])] ∧ 3 ≤ (advance 3 s).now ∧ sendRec 0 none ≠ [])
    ∧ (let r : PendRec := { uid := 3, tx := false, ctx := 4, words := [0x60000004], due := dueUntimed 0 }
       let s := setEth (fun e => { e with recs := [r] }) listening
       s.eth.recs = [r] ∧ r.tx = false ∧ recIsTx r.words = false ∧ recOn r.words = true
       ∧ r.due.reached (advance (2 ^ 50) s).now (advance (2 ^ 50) s) = true) := by decide +kernel

/-- Where neither packet of a frame is one of audio or the payload identifier, which the model leaves open, two are sent. -/
theorem witness_FlowsAreSentUnderTheirRecords_anc (p : List Word10) (h : Config.isAudioPacket p = false) (h' : Config.isVpidPacket p = false) :
    0 + 1 < max 1 (ancToSend { num := 7, fmt := 0x23, packets := [p, p] } false).length := by
  simp [ancToSend, framePackets, List.range, List.range.loop, h, h', isInterlaced]

/-- Staging without room. -/
theorem witness_FlowsAreSentUnderTheirRecords_full :
    let s := setLp 0 (fun l => { l with mediaTx := List.replicate 66 (List.replicate 1000 0#8) }) listening |> setF ETH_PORT_CFG.SPLIT 0 2
    carriesMedia 0 s = true ∧ ¬ mediaTxBytes 0 s + (flowHeaders (sendRec 0 none) 0 0xEF000001 [] s).length ≤ mediaTxSize 0 s := by decide +kernel

theorem witness_FlowsAreSentUnderTheirRecords_takes :
    (let s := serving6 [] 0x23
     serving s = true ∧ regsOk s = true ∧ planeEnabled 0 s = true ∧ pointAt (readerPts 0 0 (advance secondPoint s)) (advance secondPoint s).now = true
     ∧ written (allocClass 0 s) = true ∧ noFrames 0 s = false ∧ leadFrame 0 0 s = none ∧ 6 ∈ flowReads 0 0 s ∧ choiceOf s = .none
     ∧ getF FLW_TX_CFG.KIND 6 s = kVideo)
    ∧ (let k : KFrame := { num := 2, fmt := 0x23, endAt := 2 }
       let s := serving6 [2, 1] 0x23
       choiceOf s = .first k.num ∧ delayFrames 0 s = 0 ∧ frameNo 0 k.num s = some k ∧ belongs k.fmt 0 s = true
       ∧ k.fmt = bits (txWord 6 7 s) 24 8 ∧ k.fmt ≠ bits (txWord 6 7 (serving6 [2, 1] 0x24)) 24 8) := by decide +kernel

def good : RefMeas := { filled := true, freq := 100, drift := 1 }
def bad : RefMeas := { filled := true, freq := -20000, drift := 1 }

theorem witness_ReferencesAreSelected :
    (let s := setF PIP_REF_STATUS.QUAL 2 qQualified live
     serving s = true ∧ refUsed 2 s = true ∧ refQual 2 s ≠ qAbsent ∧ refQual 2 s = qQualified ∧ s.boot.refBad.contains 2 = false
     ∧ refRejects 2 bad = true ∧ refRejects 2 good = false ∧ refAccepts 2 bad = false ∧ refAccepts 2 good = true
     ∧ refCarried 2 (advance 0 s) = true ∧ rateSeen 2 bad s = true ∧ rateSeen 2 good s = true
     ∧ reached s = true ∧ getB PIP_CTL.FORCE_HOLD 0 s = false ∧ refOk 2 s = true ∧ refOk 0 s = false)
    ∧ (let s := setF PIP_REF_STATUS.QUAL 2 qWait live |> setRef 2 (fun r => { r with wtrEnd := some 4 })
       refQual 2 s = qWait ∧ (mget ({} : RefSt) s.time.refs 2).wtrEnd = some 4 ∧ 4 ≤ (advance 4 s).now)
    ∧ refQual 2 (setF PIP_REF_STATUS.QUAL 2 qDisqual live) = qDisqual
    ∧ (let s := setF PIP_REF_STATUS.QUAL 2 qQualified live |> setF PIP_STATUS.STATE 0 pipTransition |> setF PIP_STATUS.TARGET 0 2
       pipState s = pipTransition ∧ s.time.transAt + measureTime s ≤ (advance (2 ^ 60) s).now ∧ getB PIP_CTL.FORCE_HOLD 0 s = false
       ∧ refOk (getF PIP_STATUS.TARGET 0 s) s = true)
    ∧ (let s := setF PIP_REF_STATUS.QUAL 2 qQualified live |> setF PIP_STATUS.STATE 0 pipLocked |> setF PIP_STATUS.SELECTED 0 4
       pipState s = pipLocked ∧ selected s ≠ 2 ∧ pipState s ≠ pipHoldover)
    ∧ getB SYS_STATUS.READY 0 live = true := by decide +kernel

theorem witness_ReferencesAreSelected_store : StoreTakes rowPref [] live := by unfold StoreTakes; decide +kernel

theorem witness_PlanesAndPulses :
    (let s := setPlane 0 (fun x => { x with next := 7 }) live
     reached s = true ∧ serving s = true ∧ planeEnabled 0 s = true ∧ getF PIP_PLANE_STATUS.STATE 0 s ≠ plHeld
     ∧ (planeSt 0 s).next ≤ (advance 7 s).now ∧ stepDue s = false ∧ (planeSt 0 s).hard = false)
    ∧ (let s := setPlane 0 (fun x => { x with hard := true }) live; (planeSt 0 s).hard = true ∧ isVideo 0 s = false ∧ onTwin s = false)
    ∧ (let s := setPulse 3 (fun x => { x with cfg := { en := true, src := 9 } }) live |> setDom 540 dOn
       pulseSource 9 s = true ∧ pulseFalls 9 (advance thirdBlock (framed s)) = true ∧ pulsesDriven (framed s) = true ∧ (pulseSt 3 s).written = none
       ∧ (pulseSt 3 s).cfg.en = true ∧ (pulseSt 3 s).cfg.src = 9) := by
  decide +kernel

/-! ### Witnesses: time and the twin -/

theorem witness_LocalTimeStepsAndSlews :
    serving live = true ∧ reached live = true ∧ getF TIM_STATUS.SOURCE 0 live = refNone
    ∧ (let s := setF TIM_STATUS.SOURCE 0 2 live
       getF TIM_STATUS.SOURCE 0 s ≠ refNone ∧ ¬ (getF TIM_STATUS.SOURCE 0 s = 4 ∨ getF TIM_STATUS.SOURCE 0 s = 5)
       ∧ (500 : Int).natAbs < msOffset ∧ msOffset ≤ (-(2 ^ 40) : Int).natAbs)
    ∧ (let s := setF TIM_STATUS.SOURCE 0 4 live
       getF TIM_STATUS.SOURCE 0 s = 4 ∧ (foldHalf (5 * secUnit + 500) secUnit).natAbs < msOffset ∧ msOffset ≤ (foldHalf (secUnit / 2 - 9) secUnit).natAbs)
    ∧ secondInstant (advance (secUnit - localTime live % secUnit) live) = true
    ∧ getB TIM_STATUS.SET_PEND 0 (setF TIM_STATUS.SET_PEND 0 1 live) = true ∧ getB TIM_STATUS.SET_PEND 0 live = false
    ∧ (let s := setF SEC_GRANT_A.VALID 2 1 live
       getF SEC_GRANT_A.NOT_AFTER_HI 2 s * 2 ^ 32 + getF SEC_GRANT_B.NOT_AFTER_LO 2 s < timeSec (localTime (advance (2 ^ 60) s)))
    ∧ isPtp (getF TIM_STATUS.SOURCE 0 (setF TIM_STATUS.SOURCE 0 9 live)) = true := by decide +kernel

theorem witness_PtpInstancesFollowAMaster :
    let e := setF TIM_PTP_CFG.ENABLED 0 1 live
    (reached e = true ∧ serving e = true ∧ ptpOn 0 e = true ∧ (ptp 0 e).master = none ∧ (ptp 0 e).foreign = [])
    ∧ (let s := setPtp 0 (fun x => { x with foreign := [((5, 1), 1, [128])] }) e; ptpOn 0 s = true ∧ (ptp 0 s).foreign = [((5, 1), 1, [128])])
    ∧ (let s := setPtp 0 (fun x => { x with master := some ((4, 1), [128]), foreign := [((5, 1), 1, [127])] }) e
       (ptp 0 s).master = some ((4, 1), [128]) ∧ ((4, 1) : Nat × Nat) ≠ (5, 1) ∧ betterDs [127] [128] = true
       ∧ (ptp 0 s).foreign = [((5, 1), 1, [127])])
    ∧ (let s := setPtp 0 (fun x => { x with master := some ((5, 1), [128]), req := some (3, 900), sync := some (700, 800), await := some (6, 650), annAt := 7 })
         e |> setF TIM_PTP_STATUS.PORT_STATE 0 ptpUncalibrated
       ptpOn 0 s = true ∧ (ptp 0 s).master = some ((5, 1), [128]) ∧ (ptp 0 s).req = some (3, 900) ∧ (ptp 0 s).sync = some (700, 800)
       ∧ (ptp 0 s).await = some (6, 650) ∧ (ptp 0 s).master.isSome = true
       ∧ (ptp 0 s).annAt + 3 * logTime (ptp 0 s).annLog ≤ (advance (7 + 3 * secUnit) s).now
       ∧ portState 0 s = ptpUncalibrated ∧ (ptp 0 s).reqLog = none)
    ∧ (let s := setPtp 0 (fun x => { x with reqLog := some (-3), reqAt := 7 }) e |> setF TIM_PTP_STATUS.PORT_STATE 0 ptpSlave
       portState 0 s = ptpSlave ∧ (ptp 0 s).reqAt + logTime (-3) ≤ (advance (7 + secUnit / 8) s).now) := by decide +kernel

/-- A module in each role, with its CLAIM. -/
def inRole (r : Nat) : State := live |> setF TWN_STATUS.ROLE 0 r |> setF TWN_STATUS.CLAIM 0 (b2n (r == roleLead)) |> setF TWN_CFG.SOLO 0 0
  |> setF TWN_STATUS.LINK_UP 0 1

theorem witness_TwinTimersMoveRoles :
    (List.range 4).all (fun r => serving (inRole r) && claimOk (inRole r)) = true
    ∧ (let s := setPath 0 (fun x => { x with at_ := 9 }) (inRole roleHeel)
       getB (pathFld 0) 0 s = true ∧ getB (pathFld 1) 0 s = false ∧ (pathSt 0 s).at_ + 8500 * usUnit ≤ (advance (9 + 8500 * usUnit) s).now)
    ∧ (let s := setTwin (fun w => { w with handshakeAt := some 3 }) (inRole roleInit)
       role s = roleInit ∧ s.twin.handshakeAt = some 3 ∧ 3 + getF TWN_CFG.HANDSHAKE_MS 0 s * msUnit ≤ (advance (2 ^ 50) s).now
       ∧ s.twin.hardware = false)
    ∧ (let s := inRole roleLead
       getB TWN_STATUS.CLAIM 0 s = true ∧ getB TWN_CFG.SOLO 0 s = false
       ∧ max s.twin.fedAt s.twin.roleAt + 4 * msUnit ≤ (advance (max s.twin.fedAt s.twin.roleAt + 4 * msUnit) s).now)
    ∧ (let s := inRole roleYielded
       role s = roleYielded ∧ getB TWN_STATUS.WITHDRAWN 0 s = false ∧ s.twin.roleAt + 20 * msUnit ≤ (advance (s.twin.roleAt + 20 * msUnit) s).now
       ∧ outState 3 (outSt 3 stActive s) = stActive)
    ∧ (let s := setF TWN_STATUS.WITHDRAWN 0 1 (inRole roleYielded)
       role s = roleYielded ∧ getB TWN_STATUS.WITHDRAWN 0 s = true
       ∧ s.twin.withdrawnAt + 200 * msUnit ≤ (advance (s.twin.withdrawnAt + 200 * msUnit) s).now) := by decide +kernel

/-- Lane 15 is ACTIVE and its far end reports; `a` is its SIDE_A. -/
def reporting (a : Nat) (s : State) : State := s |> inSt 15 stActive |> outSt 15 stActive |> setF LNI_PAY_STATUS.SIDE_A 15 a
  |> setF XPT_OUT_SRC.SOURCE 120 (2 ^ 30) |> setIn 15 (fun l => { l with fresh := false })

/-- Evidence that has lasted: the lanes select the HEEL that is cut off, or the other side of a LEAD. -/
theorem witness_TwinTimersMoveRoles_evidence :
    (let s := setTwin (fun w => { w with ownSince := some 0 }) (reporting 1 (inRole roleHeel)) |> setF TWN_STATUS.LINK_UP 0 0
     let a := updateEvidence (advance (2 ^ 50) s)
     role s = roleHeel ∧ twinSilent s = true ∧ s.twin.hardware = false ∧ getB TWN_CFG.SOLO 0 s = false
     ∧ heldFor a.twin.ownSince (2 * msUnit) a = true)
    ∧ (let s := setTwin (fun w => { w with twinSince := some 0 }) (reporting 0 (inRole roleLead))
       let a := updateEvidence (advance (2 ^ 50) s)
       role s = roleLead ∧ heldFor a.twin.twinSince (20 * msUnit) a = true) := by decide +kernel

theorem witness_TwinDiagnosesItself :
    serving live = true ∧ getB SYS_STATUS.READY 0 live = true ∧ bankUsed 40 live = true ∧ allocClass 0 live ≠ clAbsent
    ∧ (let s := setTwin (fun w => { w with diag := 2 ^ diagLanes, lanesSince := some 5 }) (lanes up |> setF LNO_GRP_CFG.ENABLED 0 0)
       serving s = true ∧ assignedActive s = true ∧ s.twin.lanesSince = some 5 ∧ 5 + secUnit ≤ (advance (5 + secUnit) s).now)
    ∧ (setMon (fun x => { x with clearAt := some 3 }) live).mon.clearAt = some 3 ∧ 3 + 60 * secUnit ≤ (advance (2 ^ 60) live).now
    ∧ (let s := inRole roleHeel
       role s = roleHeel ∧ s.twin.hardware = false ∧ getB TWN_STATUS.LINK_UP 0 s = true ∧ (sniffSkips s).testBit 5 = false
       ∧ (sniffSkips s).testBit 0 = false)
    ∧ (let s := setTwin (fun w => { w with healthAt := some 5 }) live
       s.twin.healthAt = some 5 ∧ 5 + 100 * msUnit ≤ (advance (5 + 100 * msUnit) s).now ∧ s.twin.hardware = false)
    ∧ (let b : List Byte := 1#8 :: List.replicate 59 0#8
       let r := b ++ leBytes 4 (crc32 b)
       r.length = 64 ∧ leAt r 60 4 = crc32 (r.take 60) ∧ leAt r 0 1 = 1 ∧ (r.drop 8).take 8 = ownDigest (inRole roleHeel)
       ∧ (let q := b.set 8 1#8 ++ leBytes 4 (crc32 (b.set 8 1#8))
          q.length = 64 ∧ leAt q 60 4 = crc32 (q.take 60) ∧ leAt q 0 1 = 1 ∧ (q.drop 8).take 8 ≠ ownDigest (inRole roleHeel)))
    ∧ twinTxLanes (setF LNO_STATUS.STATE 2048 stActive live) ≠ [] := by decide +kernel

/-- A bark of kind `kind`, role `r`, flags `f`, pair `pair`, epoch `e`. -/
def barkBytes (kind r f pair e : Nat) : List Byte :=
  let b := [1#8, BitVec.ofNat 8 kind, BitVec.ofNat 8 r, BitVec.ofNat 8 f] ++ leBytes 4 1 ++ leBytes 6 pair ++ [0#8, 0#8] ++ leBytes 4 e
    ++ List.replicate 40 0#8
  b ++ leBytes 4 (crc32 b)

theorem witness_BarksMoveRoles :
    (let s := live
     serving s = true ∧ getB SYS_STATUS.READY 0 s = true ∧ getB DBG_ENG_STATUS.HALTED 161 s = false ∧ s.twin.hardware = false
     ∧ s.dbg.tapTest = false ∧ crumhornRuns s = true ∧ s.twin.barked = false ∧ imageRuns s = true ∧ pathDead 0 s = false
     ∧ s.twin.linkDeaf = false ∧ getF TWN_PAIR_ID.ID 0 s = 0 ∧ barkInstant (advance (wholeMs s) s) = true)
    ∧ (let s := setTwin (fun w => { w with bootAt := some 5 }) live; s.twin.bootAt = some 5 ∧ 5 + msUnit ≤ (advance (5 + msUnit) s).now)
    ∧ (setTwin (fun w => { w with linkDeaf := true }) live).twin.linkDeaf = true
    ∧ ((parseBark (barkBytes kindBark roleLead 1 9 0)).map (·.pairId)) = some 9
    ∧ ((parseBark (barkBytes kindBark roleLead 1 0 0)).map (fun b => (b.pairId, b.role, b.claim))) = some (0, roleLead, true)
    ∧ ((parseBark (barkBytes kindBark roleInit 0 0 7)).map (fun b => (b.role, b.epoch))) = some (roleInit, 7)
    ∧ ((parseBark (barkBytes kindYield roleYielded 0 0 7)).map (fun b => (b.role, b.kind))) = some (roleYielded, kindYield)
    ∧ (let s := setTwin (fun w => { w with handshakeAt := some 3 }) (inRole roleInit)
       role s = roleInit ∧ s.twin.handshakeAt ≠ none ∧ (inRole roleInit).twin.handshakeAt = none ∧ getB TWN_CFG.SOLO 0 s = false)
    ∧ 2 ≤ (pathSt 0 (setPath 0 (fun x => { x with good := 2 }) live)).good := by decide +kernel

theorem witness_TwinOrdersOfTheHost :
    (let s := setTwin (fun w => { w with last := { w.last with sync := 2 } }) (inRole roleLead) |> setF TWN_STATUS.TWIN_FIT 0 1
     reached s = true ∧ claimOk s = true ∧ role s = roleLead ∧ getB TWN_STATUS.TWIN_FIT 0 s = true ∧ s.twin.last.sync = 2 ∧ pathUp s = true
     ∧ getB TWN_CFG.SOLO 0 s = false)
    ∧ (reached (inRole roleLead) = true ∧ claimOk (inRole roleLead) = true ∧ getB TWN_STATUS.TWIN_FIT 0 (inRole roleLead) = false
      ∧ role (inRole roleLead) ≠ roleHeel)
    ∧ (let s := inRole roleHeel |> setF TWN_STATUS.LINK_UP 0 0
       reached s = true ∧ claimOk s = true ∧ role s = roleHeel ∧ twinSilent s = true
       ∧ selectTwin (updateEvidence (advance 0 s)) = false) := by decide +kernel

/-- HEEL hears its twin; the mirror of a take. -/
def heel : State := inRole roleHeel
def mirrorOf : Mirror := { mseq := 4, ring := 0, entry := 3, raw := takeEntry }
def stateCopy : TwinCopy := { m0 := 4 }

theorem witness_TwinMessagesAreTaken :
    (let s := setTwin (fun w => { w with mseqWant := some 4 }) heel
     serving s = true ∧ role s = roleHeel ∧ hearsTwin s = true ∧ getB TWN_CTL.FEED_BOTH 0 s = false ∧ queueing s = false
     ∧ s.twin.mseqWant = some mirrorOf.mseq ∧ mirrorOf.deadline = none ∧ mirrorCheck mirrorOf (advance 0 s) = none
     ∧ mirrorLacks mirrorOf (advance 0 s) = false ∧ getF AUD_BLOCK.COUNT 0 s < 5 ∧ localTime (advance 0 s) < 2 ^ 60 ∧ 0 ≤ localTime (advance 0 s))
    ∧ (let s := setTwin (fun w => { w with resync := .requested, reqMseq := 9 }) heel; queueing s = true ∧ s.twin.queued = []
       ∧ s.twin.resync = .requested)
    ∧ (let s := setTwin (fun w => { w with resync := .stepped }) heel; s.twin.resync = .stepped ∧ s.twin.queued = [] ∧ hearsTwin s = true)
    ∧ (let s := setTwin (fun w => { w with unacked := [(.stateAck 3, 0)] }) (inRole roleLead) |> setF LNO_STATUS.STATE 2048 stActive
       role s = roleLead ∧ hearsTwin s = true ∧ getB TWN_CTL.FEED_BOTH 0 s = false ∧ twinTxLanes s ≠ [] ∧ s.twin.hardware = false
       ∧ s.twin.unacked = [(.stateAck 3, 0)] ∧ 0 + 100 * usUnit ≤ (advance (2 ^ 50) s).now) := by decide +kernel

theorem witness_TwinMessagesAreTaken_lead :
    let s := setTwin (fun w => { w with last := { w.last with sync := 2 } }) (rolling [2, 1] (some 1)) |> setF TWN_STATUS.LINK_UP 0 1
    role s = roleLead ∧ twinSynced s = true ∧ getB TWN_CTL.FEED_BOTH 0 s = false ∧ written (allocClass 0 s) = true
    ∧ chosenNo (chooseFrame 0 0 ((advance (2 ^ 40) s).now + 40 * usUnit) (advance (2 ^ 40) s)) = some 2 := by decide +kernel

/-! ### Witnesses: host interface, images, security -/

/-- A descriptor of a control frame of 60 bytes for port 0. -/
def txDesc : List Byte := List.replicate 8 0#8 ++ leBytes 2 60 ++ [2#8, 0#8] ++ List.replicate 20 0#8

theorem witness_RingsAndEvents :
    (reached live = true ∧ ringWaits 0 live = true ∧ ringIdle 1 live = true ∧ sqSize 0 live ≤ 70000 % 2 ^ 32 ∧ 3 % 2 ^ 32 < sqSize 0 live
      ∧ getB HIF_SQ_CFG.EN 0 live = true ∧ bit 5 31 = false ∧ bit 0x80000004 31 = true
      ∧ ringIdle 0 (setCmd (fun c => { c with opens := [{ uid := 1, ring := 0, tag := 2, entry := 0, opcode := 0x10 }] }) live) = false)
    ∧ (let s := { live with cplHeld := [{ ring := 0, tag := 2, entry := 0, status := 0 }] } |> setF HIF_CQ_CFG.SIZE_LOG2 0 4
       s.cplHeld.map (·.ring) = [0] ∧ (getF HIF_CQ_TAIL.TAIL 0 s + 1) % cqSize 0 s ≠ 9 % 2 ^ 32 % cqSize 0 s)
    ∧ (let s := live |> setF HIF_NET_TX_CFG.EN 0 1 |> setF HIF_NET_TX_CFG.SIZE_LOG2 0 4
       (netRing 0 s).txPend = [] ∧ bit (byteAt txDesc 10) 1 = true ∧ getB HIF_NET_TX_CFG.EN 0 s = true
       ∧ (1 + netTxSize 0 s - getF HIF_NET_TX_TAIL.TAIL 0 s % netTxSize 0 s) % netTxSize 0 s ≠ 0
       ∧ lpUsed (byteAt txDesc 11) s = true ∧ lpNet (byteAt txDesc 11) s = 0
       ∧ ctlTxBytes (byteAt txDesc 11) s + ((List.replicate 60 0#8 : List Byte).take (leAt txDesc 8 2)).length ≤ ctlTxSize (byteAt txDesc 11) s)
    ∧ (let s := setNet 0 (fun n => { n with txPend := [(txDesc, none)] }) live
       (firstFrame (netRing 0 s).txPend).map (fun fs => fs.any (fun d => d.2.isNone)) = some true)
    ∧ (({ live with evtFifo := [{ source := 3, bits := 1 }] }).evtFifo ≠ [] ∧ live.evtFifo = [])
    ∧ (let s := { live with coal := [(0, 2, 5)] } |> setF HIF_CQ_CFG.COAL_US 0 40
       (mget (0, 0) s.coal 0).1 ≠ 0 ∧ (mget (0, 0) s.coal 0).2 + getF HIF_CQ_CFG.COAL_US 0 s * usUnit ≤ (advance (5 + 40 * usUnit) s).now)
    ∧ (mget ({} : MsixVec) ({ live with msix := [(5, { masked := true, pending := true })] }).msix 5).pending = true := by decide +kernel

theorem witness_FullFifoCountsLost :
    (getF HIF_EVT_MASK.MASK 0 live).testBit (3 - 1) = false ∧ live.evtFifo.any (joins { source := 3, bits := 1 }) = false
    ∧ live.evtFifo.length < evtFifoCap ∧ fieldOf XPT_IN_EVT.WIN_EXIT.id = some XPT_IN_EVT.WIN_EXIT ∧ XPT_IN_EVT.WIN_EXIT.evt ≠ 0 := by
  decide +kernel

/-- The FIFO can be full. -/
theorem witness_FullFifoCountsLost_full :
    let s := { live with evtFifo := List.replicate 65536 { source := 4 } }
    evtFifoCap ≤ s.evtFifo.length ∧ s.evtFifo.any (joins { source := 3, bits := 1 }) = false :=
  ⟨by rw [show ({ live with evtFifo := List.replicate 65536 { source := 4 } } : State).evtFifo.length = 65536 from List.length_replicate ..]
      exact Nat.le_refl _,
    (List.any_replicate ..).trans (by decide)⟩

theorem witness_HostAccessesAreServed :
    reached live = true
    ∧ bar0Refused 0x3FFFFFC 4 (some (5 % 2 ^ 32)) live = true ∧ bar0Refused 0x8 2 none live = true
    ∧ bar0Refused XPT_OUT_CFG.FALLBACK_EN.base 4 none live = false := by decide +kernel

theorem witness_HostAccessesAreServed_rw :
    (bar0Refused KNL_MEAS_CFG1.BLACK_SET.base 4 (some (5 % 2 ^ 32)) live = false ∧ 0x800000 ≤ KNL_MEAS_CFG1.BLACK_SET.base
      ∧ KNL_MEAS_CFG1.BLACK_SET.base < 0x1400000 ∧ (fieldsAt KNL_MEAS_CFG1.BLACK_SET.base live).contains (KNL_MEAS_CFG1.BLACK_SET, 0, false)
      ∧ KNL_MEAS_CFG1.BLACK_SET.spans = false ∧ KNL_MEAS_CFG1.BLACK_SET.acc = .rw ∧ keptAtThree KNL_MEAS_CFG1.BLACK_SET 5 = false) := by
  decide +kernel
theorem witness_HostAccessesAreServed_w1c :
    (bar0Refused XPT_IN_EVT.WIN_EXIT.base 4 (some (5 % 2 ^ 32)) live = false ∧ 0x800000 ≤ XPT_IN_EVT.WIN_EXIT.base
      ∧ XPT_IN_EVT.WIN_EXIT.base < 0x1400000 ∧ (fieldsAt XPT_IN_EVT.WIN_EXIT.base live).all (fun q => q.1.acc == .w1c)) := by decide +kernel
theorem witness_HostAccessesAreServed_latch :
    (bar0Refused XPT_TAKE_CNT.COUNT.base 4 none live = false ∧ (fieldsAt XPT_TAKE_CNT.COUNT.base live).contains (XPT_TAKE_CNT.COUNT, 0, false)
      ∧ XPT_TAKE_CNT.COUNT.live64 = true ∧ live.pcie.latch.find? (fun p => p.1 == XPT_TAKE_CNT.COUNT.base) = none
      ∧ unitRefused XPT_TAKE_CNT.COUNT.base live = false) := by decide +kernel
theorem witness_HostAccessesAreServed_bar2 :
    (let s := setF SYS_STATUS.READY 0 0 up;
       s.powered = true ∧ hostUp s = true ∧ getB SYS_STATUS.READY 0 s = false ∧ sysBlock 0x3FFFFFC = false ∧ bar0Refused 0x3FFFFFC 4 none s = true)
    ∧ (bar2At 0x20000040 live = some (false, 0x40) ∧ bar2Writable false 0x40 (setF SEC_STATUS.LIFECYCLE 0 lcDeployed live) = false ∧ bar2At 0x40 live = some (true, 0x40))
    ∧ (let s := live |> setF SEC_STATUS.DEBUG_LEVEL 0 1 |> setDom 440 dOn
       bar2Writable false 0x40 s = true ∧ ∀ j, j < 8 → bankGated ((0x40 + j) / 0x400000) s = false) := by decide +kernel

theorem witness_FunctionResetsAndSleeps :
    serving live = true ∧ getB SYS_STATUS.READY 0 live = true ∧ live.cplHeld.length ≤ 0xFFFFFFFF ∧ live.powered = true ∧ hostUp live = true
    ∧ live.pcie.perst = false ∧ 4 ≤ getF SYS_STATUS.STEP 0 live ∧ getF SYS_STATUS.STEP 0 State.reset < 4 ∧ State.reset.powered = true
    ∧ (let s := { live with pcie := { live.pcie with d3hot := true }, msix := [(5, { pending := true, masked := false })] }
       serving s = true ∧ s.pcie.d3hot = true ∧ s.pcie.crs = false ∧ (mget ({} : MsixVec) s.msix 5).pending = true
       ∧ (mget ({} : MsixVec) s.msix 5).masked = false) := by decide +kernel

/-- An image cannot be shown to pass validation on numbers: its AUDIO section alone has 1 MiB, and its signature is a free value. -/
theorem witness_ImagesAndLabels :
    serving live = true ∧ reached live = true
    ∧ (let s := setImg (fun i => { i with writing := some (3, 0, [1#8]) }) live; s.img.writing = some (3, 0, [1#8]))
    ∧ (let s := setImg (fun i => { i with load := some { uid := 3, source := 1, bytes := [1#8], valid := false } }) live
       (s.img.load.map (·.valid)) = some false
       ∧ judgeLoad { uid := 3, source := 1, bytes := [1#8], valid := false } (advance 0 s) = some (0x08, noSection)
       ∧ judgeLoad { uid := 3, source := 3, bytes := [1#8], valid := false } (advance 0 s) = some (0x01, noSection))
    ∧ (let s := lanes up
       serving s = true ∧ getB SYS_STATUS.READY 0 s = true ∧ s.img.bootDone = false ∧ getF SYS_IMG_STATUS.SOURCE 0 s = 0
       ∧ slotState 0 s ≠ slotValid ∧ slotState 1 s ≠ slotValid ∧ slotState 1 (setF SYS_IMG_SLOT_B.STATE 0 slotValid s) = slotValid
       ∧ slotState 0 (setF SYS_IMG_SLOT_A.STATE 0 slotValid s) = slotValid)
    ∧ (let s := setImg (fun i => { i with boot := some { source := 1, bytes := [1#8], valid := true } }) live
       midSalvo s = false ∧ (s.img.boot.map (·.source)) = some 1)
    ∧ (let s := setImg (fun i => { i with load := some { uid := 3, source := 1, bytes := [1#8], valid := true } }) live
       s.img.boot = none ∧ (s.img.load.map (·.valid)) = some true ∧ midSalvo s = false)
    ∧ getF SYS_IMG_ROLLBACK.VALUE 0 live ≤ getF SYS_IMG_RB_STORED.VALUE 0 live
    ∧ (let s := setF SYS_IMG_ROLLBACK.VALUE 0 5 live; getF SYS_IMG_RB_STORED.VALUE 0 s < getF SYS_IMG_ROLLBACK.VALUE 0 s)
    ∧ getB PST_LABEL_CTL.BUSY 0 live = false ∧ getB PST_LABEL_CTL.BUSY 0 (setF PST_LABEL_CTL.BUSY 0 1 live) = true
    ∧ (setPst (fun p => { p with journal := some (7, List.replicate 8 1) }) live).pst.journal = some (7, List.replicate 8 1) := by decide +kernel

theorem witness_ImagesAndLabels_store : StoreTakes rowSecurity [] live ∧ StoreTakes rowJournal [] live ∧ StoreTakes (rowLabel 32767) [] live := by
  unfold StoreTakes; decide +kernel

/-- The request area holds `q`. -/
def asked (q : List Byte) (s : State) : State :=
  { s with regs := mput [] s.regs SEC_REQ_DATA.WORD.id (((List.range 88).map (fun w => (w, leAt q (4 * w) 4))).filter (fun p => p.2 != 0)) }

/-- A request of opcode `op` under key `key`, sequence `seq`, end of validity `till`, argument bytes `x`. -/
def reqOf (op key seq till : Nat) (x : List Byte) : List Byte :=
  let q := leBytes 2 1 ++ [BitVec.ofNat 8 op, BitVec.ofNat 8 key] ++ leBytes 8 seq ++ List.replicate 14 0#8 ++ leBytes 6 till ++ x
  q ++ List.replicate (352 - q.length) 0#8

/-- The state in which the request is judged. -/
def judged (q : List Byte) (s : State) : State := setF SEC_REQ_CTL.OP_LAST 0 (rqOp q) (withBad [] id (advance 0 s))

/-- What the mailbox answers a request in `s`, where the request area reads as `q`. -/
def verdict (q : List Byte) (s : State) : Option Nat := reqVerdict q (judged q s)

def unsigned (op : Nat) (x : List Byte) : List Byte := reqOf op 0xFF 0 0 x

/-- Two audit records; a provisioned module whose slot 2 is empty. -/
def audited : State := live |> setF SEC_AUDIT_OLD.ASEQ 0 1 |> setF SEC_AUDIT_NEW.ASEQ 0 2
def provisioned : State := setF SEC_STATUS.LIFECYCLE 0 lcProvisioned live

theorem witness_RequestsAreCheckedFirst :
    let s := asked (unsigned opGrantClear [0xFF#8]) live
    reqBytes s = unsigned opGrantClear [0xFF#8] ∧ reqVerdict (reqBytes s) (judged (reqBytes s) s) = none := by decide +kernel

theorem witness_RequestsAreCheckedFirst_opcodes :
    verdict (unsigned opAuditRead [1#8]) audited = none ∧ verdict (unsigned opAuditSign []) live = none
    ∧ verdict (unsigned opDeviceKey []) live = none
    ∧ verdict (unsigned opKeySet ([2#8, 1#8, 0#8, 0#8, 4#8])) provisioned = none
    ∧ verdict (unsigned 0x7F []) live = some stFormat ∧ 0x7F ∉ secOps ∧ verdict (unsigned opGrant []) live = some stFormat ∧ verdict (unsigned opAuditRead [3#8]) audited = some stBadIndex
    ∧ verdict (reqOf opKeySet 2 1 0 [2#8, 2#8]) live = some stDenied := by decide +kernel

/-- Beyond its signature, whose check the model leaves open, a signed request passes. -/
def passesSigned (q : List Byte) (s : State) : Prop :=
  signedBy (rqKey q) (q.take 256) ((q.drop 256).take 96) (judged q s) = true → verdict q s = none

theorem witness_RequestsAreCheckedFirst_grant : passesSigned (reqOf opGrant 2 1 (2 ^ 40) [3#8, 0x76#8]) live := by
  intro h; unfold verdict reqVerdict; rw [h]; decide +kernel
theorem witness_RequestsAreCheckedFirst_lifecycle : passesSigned (reqOf opLifecycle 0 1 0 [1#8]) (setF SEC_STATUS.LIFECYCLE 0 lcManufacture live) := by
  intro h; unfold verdict reqVerdict; rw [h]; decide +kernel
theorem witness_RequestsAreCheckedFirst_return : passesSigned (reqOf opLifecycle 2 1 0 [3#8]) provisioned := by
  intro h; unfold verdict reqVerdict; rw [h]; decide +kernel

/-- A request to enter RETURN with a MODULE reset at once, and one of a LEAD whose twin can relieve it. -/
theorem witness_RequestsAreCheckedFirst_returnRoles :
    (let s := provisioned
     s.twin.resetPending = false ∧ byteAt (reqOf opLifecycle 2 1 0 [3#8]) 32 = lcReturn ∧ getB TWN_STATUS.TWIN_FIT 0 s = false
     ∧ StoreTakes rowSecurity [] s)
    ∧ (let s := provisioned |> setF TWN_STATUS.TWIN_FIT 0 1 |> setF TWN_STATUS.LINK_UP 0 1
       role s = roleLead ∧ getB TWN_STATUS.TWIN_FIT 0 s = true ∧ pathUp s = true) := by unfold StoreTakes; decide +kernel

theorem witness_RequestsAreCheckedFirst_classReq : passesSigned (reqOf opClassReq 2 1 0 [0x76#8]) live := by
  intro h; unfold verdict reqVerdict; rw [h]; decide +kernel
theorem witness_RequestsAreCheckedFirst_evalFix :
    passesSigned (reqOf opEvalFix 2 1 0 []) (live |> setF SEC_STATUS.CLASS_REQ 0 0x76 |> setF SYS_IMG_STATUS.SOURCE 0 0 |> setF SEC_KEYS.SLOTS 0 0x15) := by
  intro h; unfold verdict reqVerdict; rw [h]; decide +kernel

theorem witness_ChallengesAreAnsweredOnce :
    (reached live = true ∧ serving live = true ∧ lockedOut (advance 0 live) = false ∧ chalVerdict 1 live = stExpired ∧ stExpired ≠ stOk)
    ∧ (let s := setSec (fun x => { x with lockEnd := some 9, nonceAt := some 3, fails := 2 }) live
       lockedOut (advance 0 s) = true ∧ 2 ≤ s.sec.fails ∧ live.sec.fails < 2 ∧ s.sec.nonceAt = some 3
       ∧ 3 + 60 * secUnit ≤ (advance (2 ^ 60) s).now ∧ s.sec.lockEnd = some 9 ∧ 9 ≤ (advance 9 s).now) := by decide +kernel

/-- Beyond the signature an answer to a held nonce opens level 1. -/
theorem witness_ChallengesAreAnsweredOnce_opens :
    let s := setSec (fun x => { x with nonceAt := some 0 }) live |> setF SEC_CHAL_CTL.NONCE_VALID 0 1
    signedBy 10 (chalMessage 1 s) (chalAnswerBytes s) s = true → chalVerdict 1 s = stOk := by
  intro s h
  unfold chalVerdict
  rw [if_pos (rfl : (1 : Nat) = 1), h]; decide +kernel

/-! ### Witnesses: debug access, power, bring-up, monitors -/

/-- The port runs, in HEEL and in LEAD. -/
def ported (r : Nat) : State := inRole r |> setDom 541 dOn

theorem witness_IdcodeRegisterFields : tapRuns (ported roleHeel) = true := by decide +kernel

theorem witness_TestAccessPortWorks :
    tapRuns (ported roleHeel) = true ∧ testAllowed (ported roleHeel) = true ∧ tapRuns (ported roleLead) = true
    ∧ testAllowed (ported roleLead) = false
    ∧ unitRefused (0x2c00000 + 0) (ported roleLead) = false
    ∧ (let s := setF SEC_STATUS.LIFECYCLE 0 lcDeployed (ported roleHeel); tapRuns s = true ∧ effLevel s = 0)
    ∧ 7 ∉ [0x00, 0x01, 0x02, 0x03, 0x04, 0x10, 0x11] := by decide +kernel

theorem witness_DebugModuleActs :
    (let s := setF DBG_ENG_SEL.UNIT 0 2 live
     reached s = true ∧ serving s = true ∧ unitOk 2 s = true ∧ unitHalted 2 s = false ∧ unitRuns 2 s = true ∧ engState 2 s = reedRun
     ∧ regsOk s = true ∧ 1 ≤ effLevel s ∧ getB DBG_MEM_CTL.BUSY 0 s = false ∧ unitOk 161 s = false)
    ∧ (let s := live |> setF DBG_ENG_SEL.UNIT 0 2 |> setF DBG_ENG_STATUS.HALTED 2 1 |> setReed 2 (fun r => { r with ended := false })
       unitOk 2 s = true ∧ unitHalted 2 s = true ∧ (reed 2 s).ended = false)
    ∧ (let s := live |> setF DBG_ENG_SEL.UNIT 0 161 |> setF SEC_STATUS.DEBUG_LEVEL 0 2 |> setF DBG_ENG_STATUS.HALTED 161 1
       unitOk 161 s = true ∧ unitHalted 161 s = true)
    ∧ (let s := setF SEC_STATUS.LIFECYCLE 0 lcDeployed live; reached s = true ∧ effLevel s = 0 ∧ unitOk 2 s = false)
    ∧ (let s := atWord 0 |> setF DBG_BP.EN 11 1 |> setF DBG_BP.ADDR 11 1
       getB DBG_BP.EN (4 * 2 + 3) s = true ∧ engRuns 2 s = true ∧ (reed 2 s).past = false ∧ getF DBG_BP.ADDR (4 * 2 + 3) s = (reed 2 s).pc
       ∧ unitHalted 2 s = false)
    ∧ getB DBG_MEM_CTL.BUSY 0 (setF DBG_MEM_CTL.BUSY 0 1 live) = true
    ∧ (live.twin.resetPending = false ∧ role (inRole roleHeel) ≠ roleLead ∧ 1 ≤ effLevel (inRole roleHeel))
    ∧ (let s := setF TWN_STATUS.TWIN_FIT 0 1 (inRole roleLead)
       reached s = true ∧ 1 ≤ effLevel s ∧ role s = roleLead ∧ getB TWN_STATUS.TWIN_FIT 0 s = true ∧ pathUp s = true)
    ∧ (let s := setDbg (fun d => { d with mem := some { size := 4, addr := 0x60000000 } }) live
       (s.dbg.mem.map (·.addr)) = some 0x60000000 ∧ (fabDecode (getB SYS_REMAP.REMAP 0 s) 0x60000000).1 = tgNone
       ∧ (fabDecode (getB SYS_REMAP.REMAP 0 s) 0x10000000).1 = tgRom) := by decide +kernel

/-- Bring-up is in step `n`. -/
def booting (n : Nat) : State := setF SYS_STATUS.STEP 0 n State.reset

theorem witness_BringUpRunsInSteps :
    (let s : State := { State.reset with powered := false }
     s.powered = false ∧ s.boot.fuse = false ∧ s.vault = none ∧ fieldOf SYS_ID.ID.id = some SYS_ID.ID ∧ fieldOf PST_ROUTE.SOURCE.id = some PST_ROUTE.SOURCE)
    ∧ (setBoot (fun b => { b with fuse := true }) { State.reset with powered := false }).boot.fuse = true ∧ State.reset.hold = .plain
    ∧ (let s := setBoot (fun b => { b with cold := true }) State.reset; s.powered = true ∧ serving s = true ∧ s.boot.cold = true)
    ∧ (List.range 8).all (fun n => bringingUp (booting (n + 1)) && decide ((advance 0 (booting (n + 1))).now ≤ stepDeadline (booting (n + 1)))
        && bringupStep (booting (n + 1)) == n + 1) = true
    ∧ coreDomain 541 = true
    ∧ stepDeadline (booting 4) ≤ (advance (2 ^ 60) (booting 4)).now ∧ faultStep 5 = bringupStep (booting 4)
    ∧ faultStep 1 = bringupStep (booting 2) ∧ faultFatal 1 0 = true ∧ faultFatal 5 0 = false := by decide +kernel

theorem witness_ResetsSleepAndDomains :
    (let s := inRole roleHeel
     reached s = true ∧ getB SYS_STATUS.HALTED 0 s = false ∧ s.twin.resetPending = false ∧ role s ≠ roleLead ∧ imageBusy s = false)
    ∧ (let s := setF TWN_STATUS.TWIN_FIT 0 1 (inRole roleLead); role s = roleLead ∧ getB TWN_STATUS.TWIN_FIT 0 s = true ∧ pathUp s = true)
    ∧ (let s := setTwin (fun w => { w with resetPending := true }) (inRole roleYielded) |> setF TWN_STATUS.TWIN_CLAIM 0 1
       serving s = true ∧ s.twin.resetPending = true ∧ getB TWN_STATUS.TWIN_CLAIM 0 s = true
       ∧ s.twin.roleAt + 20 * msUnit ≤ (advance (2 ^ 60) s).now)
    ∧ (let s := setBoot (fun b => { b with asleep := true }) up |> setF PWR_CTL.WAKE_ALARM 0 1 |> setF PWR_CTL.WAKE_YIELD 0 1
       crumhornRuns s = true ∧ s.boot.asleep = true ∧ getB PWR_CTL.WAKE_ALARM 0 s = true ∧ getB PWR_CTL.WAKE_YIELD 0 s = true)
    ∧ (let s := setBoot (fun b => { b with domAt := [(5, 9)] }) (setDom 5 dStarting live)
       serving s = true ∧ domStarts 5 s = true ∧ ∃ e, domDue 5 s = some e ∧ (advance 0 s).now ≤ e ∧ e ≤ (advance (2 ^ 60) s).now)
    ∧ getB LNI_GRP_CFG.ENABLED 0 live = true := by
  refine ⟨by decide +kernel, by decide +kernel, by decide +kernel, by decide +kernel, ⟨by decide +kernel, by decide +kernel, _, rfl, ?_⟩, by decide +kernel⟩
  decide +kernel

/-- After a MODULE reset a lane works on the values that it holds, and not on those that its fields show. -/
theorem witness_ResetsSleepAndDomains_hidden :
    let s : State := { lanes up with hold := .hidden [(LNI_GRP_CFG.ENABLED.id, [(0, 1)]), (LNI_STATUS.STATE.id, [(15, stIdle)])] }
    let c := Instr.signalDetectRise 0 15
    worksApart c = false ∧ { State.reset with hold := .reset }.hold = .reset
    ∧ ∃ u, exec c (atWork s) = .next u ∧ getF LNI_STATUS.SIGDET 15 u ≠ getF LNI_STATUS.SIGDET 15 (atWork s) :=
  ⟨rfl, rfl, _, rfl, by decide +kernel⟩

theorem witness_MonitorsReport :
    (serving live = true ∧ getB MON_THERM_STATUS.WARN 0 live = false ∧ warnLevel live ≤ tempAt (List.replicate 40 110) 3
      ∧ (List.range 32).all (fun k => decide (tempAt (List.replicate 40 30) k < warnLevel live)) = true
      ∧ tripReading (List.replicate 40 120) = true ∧ live.mon.feedLow = false)
    ∧ (let s := setMon (fun m => { m with tripAt := some 3, warnAt := some 4, feedLow := true }) live |> setF MON_THERM_STATUS.WARN 0 1
       s.mon.tripAt = some 3 ∧ 3 + msUnit ≤ (advance (2 ^ 60) s).now ∧ getB MON_THERM_STATUS.WARN 0 s = true ∧ s.mon.warnAt = some 4
       ∧ 4 + 10 * secUnit ≤ (advance (2 ^ 60) s).now ∧ s.mon.feedLow = true ∧ s.twin.diag.testBit diagThermal = false) := by decide +kernel

theorem witness_MeetingOrdersResolve :
    (let s := lanes up
     reached s = true ∧ inAssigned 15 s = true ∧ outAssigned 15 s = true ∧ laneSourced 15 s = false ∧ bits 6 0 2 = 2 ∧ bit 6 2 = true
     ∧ bar0Refused (LNI_CTL.TARGET_STATE.base + 128 * 15) 4 (some (6 % 2 ^ 32)) s = false
     ∧ bar0Refused (LNO_CTL.TARGET_STATE.base + 128 * 15) 4 (some (6 % 2 ^ 32)) s = false)
    ∧ (let s := lanes up |> inSt 3 stLock |> outSt 3 stLock |> setIn 3 (fun l => { l with phase := .lock }) |> setOut 3 (fun l => { l with phase := .lock })
       inAttempt .inp 3 s = true ∧ inAttempt .out 3 s = true ∧ laneSourced 3 s = false ∧ inState 3 s ∈ [stLock, stAlign, stEq, stConfirm, stBackoff, stFast]
       ∧ outState 3 s ∈ [stLock, stAlign, stEq, stConfirm, stBackoff, stFast] ∧ inState 3 s ≠ stDeep ∧ inState 3 s ≠ stActive ∧ outState 3 s ≠ stDeep
       ∧ outState 3 s ≠ stActive ∧ (inLane 3 s).noPartner = false ∧ (outLane 3 s).noPartner = false)
    ∧ (let s := lanes up |> inSt 3 stConfirm |> outSt 3 stConfirm |> setF LNI_CTL.TARGET_STATE 3 1 |> setF LNO_CTL.TARGET_STATE 3 1
         |> setIn 3 (fun l => { l with phase := .ready }) |> setOut 3 (fun l => { l with phase := .ready })
       getF LNI_CTL.TARGET_STATE 3 s = 1 ∧ (inLane 3 s).phase = .ready ∧ blockBegins (block 0x55) = true ∧ getF LNO_CTL.TARGET_STATE 3 s = 1
       ∧ (outLane 3 s).phase = .ready ∧ getB TWN_STATUS.WITHDRAWN 0 s = false)
    ∧ (let s := lanes up |> inSt 3 stProbe |> outSt 3 stProbe |> setIn 3 (fun l => { l with noPartner := true }) |> setOut 3 (fun l => { l with noPartner := true })
       inState 3 s = stProbe ∧ (inLane 3 s).noPartner = true ∧ outState 3 s = stProbe ∧ (outLane 3 s).noPartner = true)
    ∧ (let s := lanes up |> inSt 3 stActive |> outSt 3 stIdle; inState 3 s = stActive ∧ outState 3 s = stIdle) := by decide +kernel

/-! ### The operands of a command

A command whose operands name no unit of the module is ill formed. -/

theorem wf_lane : (Instr.signalDetectRise 0 2055).wf = true ∧ (Instr.signalDetectRise 0 2056).wf = false ∧ (Instr.lniRetrain 0 2048).wf = false := by
  decide
theorem wf_target : (Instr.lniTargetState 0 5 3).wf = true ∧ (Instr.lniTargetState 0 5 4).wf = false := by decide
theorem wf_training_set : (Instr.trainingSetRx 0 3 tbSet false true true 5).wf = true ∧ (Instr.trainingSetRx 0 3 [] false true true 5).wf = false := by
  decide +kernel
theorem wf_block : (Instr.laneBlockRx 0 3 (block 1) 5000 []).wf = true ∧ (Instr.laneBlockRx 0 3 [] 5000 []).wf = false
    ∧ (Instr.laneBlockRx 0 3 (block 1) 10241 []).wf = false := by decide +kernel
theorem wf_slot : (Instr.windowExit 0 16383).wf = true ∧ (Instr.windowExit 0 16384).wf = false := by decide
theorem wf_kennel : (Instr.kennelReaderChoice 0 8191 7).wf = true ∧ (Instr.kennelReaderChoice 0 8192 7).wf = false
    ∧ (Instr.kennelReaderChoice 0 8191 8).wf = false := by decide
theorem wf_engine : (Instr.headFrameBoundary 0 31 []).wf = true ∧ (Instr.headFrameBoundary 0 32 []).wf = false ∧ (Instr.reedNop 127).wf = true
    ∧ (Instr.reedNop 128).wf = false := by decide
theorem wf_entry : (Instr.nop 0 15 (entry 0)).wf = true ∧ (Instr.nop 0 16 (entry 0)).wf = false ∧ (Instr.nop 0 15 []).wf = false := by
  decide +kernel
theorem wf_port : (Instr.linkUp 0 63 false).wf = true ∧ (Instr.linkUp 0 64 false).wf = false ∧ (Instr.flushDone 0 63 3).wf = false
    ∧ (Instr.ethStepWindow 0 16).wf = false := by decide
theorem wf_context : (Instr.positionLost 0 65535).wf = true ∧ (Instr.positionLost 0 65536).wf = false := by decide
theorem wf_meter : (Instr.meterConfigWrite (.pk 8191) 5).wf = true ∧ (Instr.meterConfigWrite (.pk 8192) 5).wf = false
    ∧ (Instr.meterConfigWrite (.ch 1023 8) 5).wf = false ∧ (Instr.meterConfigWrite (.ctl 1024) 5).wf = false
    ∧ (Instr.meterConfigWrite (.pk 8191) (2 ^ 32)).wf = false := by decide
theorem wf_reference : (Instr.refActivityLoss 0 10).wf = true ∧ (Instr.refActivityLoss 0 11).wf = false
    ∧ (Instr.refPrioWrite 0 10 8 false []).wf = false := by decide
theorem wf_bark : (Instr.barkRx 0 1 (List.replicate 64 0#8)).wf = true ∧ (Instr.barkRx 0 2 (List.replicate 64 0#8)).wf = false
    ∧ (Instr.barkRx 0 1 []).wf = false := by decide +kernel
theorem wf_mirror : (Instr.mirror 0 { mseq := 1, ring := 15, entry := 0, raw := entry 0x10 }).wf = true
    ∧ (Instr.mirror 0 { mseq := 1, ring := 16, entry := 0, raw := entry 0x10 }).wf = false
    ∧ (Instr.mirror 0 { mseq := 1, ring := 15, entry := 0, raw := [] }).wf = false := by decide +kernel
theorem wf_access : (Instr.registerWrite 0 0x200020 5 {}).wf = true ∧ (Instr.registerWrite 0 0x200022 5 {}).wf = false
    ∧ (Instr.registerWrite 0 0x4000000 5 {}).wf = false ∧ (Instr.bar0AccessRefused 0 8 3 none).wf = false
    ∧ (Instr.bar2Access 0 (2 ^ 33) 4 none).wf = false := by decide
theorem wf_debug : (Instr.breakpointHit 0 161 3).wf = true ∧ (Instr.breakpointHit 0 162 3).wf = false ∧ (Instr.breakpointHit 0 161 4).wf = false
    ∧ (Instr.dbgAccess 0 4 0 0 []).wf = false ∧ (Instr.highz 0 2).wf = false := by decide
theorem wf_system : (Instr.softReset 0 256 [] []).wf = false ∧ (Instr.sleepWake 0 8).wf = false ∧ (Instr.domainReachesOn 0 544).wf = true
    ∧ (Instr.domainReachesOn 0 545).wf = false ∧ (Instr.sensorUpdate 0 []).wf = false ∧ (Instr.challengeAnswer 0 4 []).wf = false
    ∧ (Instr.sramUncorrectableError 0 80 none).wf = false ∧ (Instr.labelCommit 0 65536 []).wf = false := by decide

/-! ### Effects

One command on a small state. Expected values are worked out from the rules, or are check values of a standard code. -/

/-- The CRC-32 of the nine digits is its standard check value. -/
theorem test_crc32_check_value : crc32 [0x31#8, 0x32#8, 0x33#8, 0x34#8, 0x35#8, 0x36#8, 0x37#8, 0x38#8, 0x39#8] = 0xCBF43926 := by decide +kernel

/-- STEP_MAJ 0, part 0x2048, manufacturer 0x4E7, the low bit 1 (R676). -/
theorem test_idcode_word : idcodeVal State.reset = 0x020489CF := by decide +kernel

/-- WAKE_SIGDET takes a lane out of DEEP (R79). -/
theorem test_signal_wakes_deep : inState 15 (after (.signalDetectRise 0 15) (lanes up |> inSt 15 stDeep)) ≠ stDeep := by decide +kernel

/-- After the eighth TB set with READY and 16 of its own, the lane waits for its first block (R65, R66). -/
theorem test_training_ends :
    (inLane 3 (after (.trainingSetRx msUnit 3 tbSet false true true 5) (lanes up |> inSt 3 stLock |> setIn 3 (fun l => { l with phase := .confirm, ready := 7 })
      |> setOut 3 (fun l => { l with phase := .confirm })))).phase = .ready := by decide +kernel

theorem test_order_deep : inState 15 (after (.lniTargetState 0 15 2) (lanes up |> inSt 15 stActive)) = stDeep := by decide +kernel

theorem test_block_sent : getF LNO_BLOCKS.COUNT 3 (after (.laneBlockTx 0) (lanes up |> outSt 3 stActive)) = 1 := by decide +kernel

/-- A take to input slot 0 waits, and the switching point makes it the source of output slot 0 of lane 15 (R156, R164). -/
def taken : State := after (.switchingPoint secondPoint 120 []) (after (.armDeadline (secondPoint - armLead) 120)
  (after (.take 0 0 (put 24 (leBytes 8 (15 + 2 ^ 62)) takeEntry)) live))
theorem test_take_commits : getF XPT_TAKE_CNT.COUNT 0 taken = 1 ∧ getF XPT_OUT_SRC.SOURCE 120 taken = 2 ^ 30 := by decide +kernel

/-- Two frames are ready: the reader drops one and shows the newer (R186). -/
theorem test_reader_drops : (reader 0 0 (after (.kennelReaderChoice secondPoint 0 0) (rolling [3, 2, 1] (some 1)))).shown = some 3 := by decide +kernel

/-- A shadow record written without COMMIT is in the shadow, eight words after the active one (R233). -/
theorem test_shadow_written : getF CMP_LAYER.WORD 8 (after (.cmpShadow 0 0 (shadowEntry 0#8) (some shadowList)) live) = 2 ^ 30 := by decide +kernel

/-- 3 kΩ closes the loop, and the contact's debouncing begins (R248). -/
theorem test_loop_closed : (after (.alarmLoopSample 0 1 3000) live).shf.cand = [(1, 0, 0)] := by decide +kernel

/-- Coefficients written to an engine are in force at the block boundary (R332). -/
theorem test_coefficients_commit :
    getF REE_COEF.COEF 8192 (after (.audioBlockBoundary thirdBlock) (after (.reeWrite 0 0 coefEntry (some (leBytes 8 7))) (framed live))) = 7 := by decide +kernel

/-- Half of full scale times the coefficient 1.0: the sum has 59 fraction bits, and the store gives the sample back (R317, R320). -/
def halved : State :=
  setReed 2 (fun r => { r with ended := false, prog := [0x81000000, 0x68000001], v := [(0, 0x40000000)] }) live |> setCoef 2 0 0x10000000
theorem test_product : getAcc 2 0 0 (after (.mul 2) halved) = 2 ^ 58 := by decide +kernel
theorem test_product_stored : getV 2 1 0 (after (.sta 2) (after (.mul 2) halved)) = 0x40000000 := by decide +kernel

/-- The absolute value of the most negative number saturates (R321). -/
theorem test_absolute_saturates :
    getV 2 1 0 (after (.valu 2) (setReed 2 (fun r => { r with ended := false, prog := [0xE0800003], v := [(0, 0x80000000)] }) live)) = 0x7FFFFFFF := by
  decide +kernel

/-- 0 − 1 is 8191 (R322). -/
theorem test_index_wraps : xval 2 1 (after (.addx 2) (atWord 0x1A001FFF)) = 8191 := by decide +kernel

/-- A frame of a flow is queued without its FCS; with a bad FCS it is counted (R357, R361). -/
theorem test_frame_queued : (lp 0 (after (.macFrameRx 0 0 mediaFrame 0 0 0 0) live)).mediaRx = [(0, rtpFrame 0x80#8 7#8)] := by decide +kernel
theorem test_frame_bad : getF ETH_LP_FCS_ERR.COUNT 0 (after (.macFrameRx 0 0 (mediaFrame.set 60 1#8) 0 0 0 0) live) = 1 := by decide +kernel

/-- One quantum of 512 bits at 400 Gbit/s is 1.28 ns (R369). -/
theorem test_pause_time :
    (lp 0 (after (.pauseTakeEffect 0 0) (setLp 0 (fun l => { l with pausePend := some 1 }) linked))).pauseEnd = some 83886 := by decide +kernel

theorem test_packet_accepted : getF FLW_RX_PKTS.COUNT 4 (after (.flowPacketRx 0 0 .opaque_) arrived) = 1 := by decide +kernel

/-- 20 ppm is beyond the reject limit of a video reference (R437). -/
theorem test_reference_rejected : refQual 2 (after (.refWindowUpdate 0 2 bad) (setF PIP_REF_STATUS.QUAL 2 qQualified live)) = qDisqual := by
  decide +kernel

/-- Roles (R500): no twin, LEAD; the claim watchdog, YIELDED. -/
theorem test_handshake_alone : role (after (.handshakeTimeout (2 ^ 50)) (setTwin (fun w => { w with handshakeAt := some 3 }) (inRole roleInit))) = roleLead := by
  decide +kernel
theorem test_watchdog_yields : role (after (.claimWatchdogExpiry (4 * msUnit)) (inRole roleLead)) = roleYielded := by decide +kernel

/-- A tail outside the ring (R535), a pop of the empty FIFO (R550), an access of two bytes (R12). -/
theorem test_tail_outside : getF HIF_SQ_STATUS.FAULT 0 (after (.sqDoorbell 0 0 70000) live) = 1 := by decide +kernel
theorem test_pop_underruns : getF HIF_EVT_STATUS.UNDERRUN 0 (after .eventPop live) = 1 := by decide +kernel
theorem test_access_counted : getF HIF_ACCESS_ERR.COUNT 0 (after (.bar0AccessRefused 0 8 2 none) live) = 1 := by decide +kernel

/-- Label rows are 0 to 32767 (R627). -/
theorem test_label_rows : getF PST_LABEL_CTL.BUSY 0 (after (.labelCommit 0 32767 []) live) = 1
    ∧ getF PST_LABEL_CTL.BUSY 0 (after (.labelCommit 0 32768 []) live) = 0 := by decide +kernel

theorem test_breakpoint_halts :
    engState 2 (after (.breakpointHit 0 2 3) (atWord 0 |> setF DBG_BP.EN 11 1 |> setF DBG_BP.ADDR 11 1)) = reedHalted := by decide +kernel

/-- Bring-up: step 8 ends in READY, a fuse fault of step 2 halts (R597, R602). -/
theorem test_bringup_ready : getF SYS_STATUS.READY 0 (after (.bringupStepEnd 0 {} []) (booting 8)) = 1 := by decide +kernel
theorem test_bringup_halts : getF SYS_STATUS.HALTED 0 (after (.bringupStepTimeout (2 ^ 60) 1 0 []) (booting 2)) = 1 := by decide +kernel

/-- A MODULE reset begins again at step 6 (R608). -/
theorem test_soft_reset : getF SYS_STATUS.STEP 0 (after (.softReset 0 0xA5 [] []) (inRole roleHeel)) = 6 := by decide +kernel

/-- 41.9 V is low (R708), and the last of 40 sensors is the hottest (R723). -/
theorem test_feed_low : getB MON_EVT.FEED_LOW 0 (after (.feedMeasure 0 419 100) live) = true := by decide +kernel
theorem test_hottest : getF MON_THERM_STATUS.HOT_SENSOR 0 (after (.sensorUpdate 0 (List.replicate 39 30 ++ [40])) live) = 39 := by decide +kernel

/-- Every row of the table that gives bits would decode here; the table gives none. -/
theorem test_no_row_has_bits : decodeTableWord 32 0 = none ∧ (live.withFetchWord 32 0).pending = live.pending := ⟨rfl, rfl⟩

/-- The manual's own places of three lands (R731, R733). -/
theorem test_lands : landAt 14 139 = some (.laneIn 1031 false) ∧ landAt 14 131 = some (.laneOut 1031 false)
    ∧ landAt 78 113 = some (.ethTx 11 3 false) := by decide +kernel

/-! ### The manual's own numbers -/

/-- The drummer's mix: eleven words whose static count is 207 cycles (chapter "Reed engines", worked example). -/
theorem test_static_cycles :
    staticCycles 0 [] [0x12000000, 0x70000000, 0x72000000, 0x22204030, 0x88400000, 0x8A400040, 0x98030078, 0x9A03007A, 0x69000000, 0x6B000001, 0x08000000]
      = 207 := by decide +kernel

/-- Its ramp from +6 dB to −6 dB: the first coefficient is 510,532,727 and the last is the target. -/
theorem test_ramp :
    (let s := live |> setCoef 2 120 0x1FEC982C |> setCoef 2 121 0x0804DCE7
     rampCoef 2 120 0 s = 510532727 ∧ rampCoef 2 120 15 s = 0x0804DCE7) := by decide +kernel

/-- Input 1207.0 is written 0x4000_25B8 (R135); channel 5 of input 1031.2 has home ring 132,005 (R273). -/
theorem test_numbers_of_slots : srcInput (8 * 1207) = 0x400025B8 ∧ homeRing 8 (8 * 1031 + 2) 5 = 132005 := by decide +kernel

/-- A 1080p50 VIDEO context with 1,200-byte payloads sends 4,320 packets per frame and reserves 2,232,576,000 bit/s (R414). -/
theorem test_reserved_rate :
    videoPackets 0x26 1200 = 4320 ∧ txRate 6 (live |> setF FLW_TX_CFG.KIND 6 kVideo |> setF FLW_TX_REC.WORD 55 (0x26 * 2 ^ 24 + 1200)) = 2232576000 := by
  decide +kernel

end Sys2Proof.Tests
end

section
/-! Control actions of a lane that meet (R80): how a step begins and ends, what an order, a new series and the end of training do to a
lane, and the statement from these. -/

namespace Sys2Proof.Machine

/-! ### How a step begins and ends -/

/-- A host access that the module serves acts by its own effect at the module time of the access. -/
theorem acts_onHost {c : Instr} {t : Nat} {f : State → State} {s : State} {P : State → Prop} (hc : exec c s = .next (onHost t f s))
    (hr : reached s = true) (hP : P (f (advance t s))) : Acts c s P := by
  simp only [reached, Bool.and_eq_true, beq_iff_eq] at hr
  obtain ⟨hh, hp⟩ := hr
  refine ⟨f (advance t s), ?_, hP⟩
  rw [hc, onHost, if_pos hh, running_plain (by simp [hp])]
  rfl

/-- An event of a module in service acts by its own effect at the module time of the event. -/
theorem acts_onService {c : Instr} {t : Nat} {f : State → State} {s : State} {P : State → Prop} (hc : exec c s = .next (onService t f s))
    (hr : serving s = true) (hP : P (f (advance t s))) : Acts c s P := by
  simp only [serving, Bool.and_eq_true, beq_iff_eq] at hr
  obtain ⟨hh, hp⟩ := hr
  refine ⟨f (advance t s), ?_, hP⟩
  rw [hc, onService, if_pos hh, running_plain (by simp [hp])]
  rfl

theorem serving_of_reached {s : State} (h : reached s = true) : serving s = true := by
  simp only [reached, hostReaches, serving, Bool.and_eq_true] at h ⊢
  exact ⟨h.1.1.1, h.2⟩

theorem hold_of_reached {s : State} (h : reached s = true) : s.hold = .plain := by
  simp only [reached, Bool.and_eq_true, beq_iff_eq] at h
  exact h.2

@[simp] theorem stepEnd_hold (s : State) : (stepEnd s).hold = s.hold := by
  simp [stepEnd]

theorem hideRunning_of_plain {s : State} (h : s.hold = .plain) : hideRunning s = s := by
  simp [hideRunning, h]

/-- The state in which a register write at module time `t` takes effect: the rows that will not verify are given with the write. -/
def atWrite (t : Nat) (env : RegEnv) (s : State) : State := setPst (fun p => { p with failing := env.bad }) (advance t s)

/-- Whether a write is refused does not depend on its time or on the rows that will not verify. -/
theorem bar0Refused_atWrite (off size t : Nat) (w : Option Nat) (env : RegEnv) (s : State) :
    bar0Refused off size w (atWrite t env s) = bar0Refused off size w s := rfl

/-- A register write that the module takes acts by the write's own effect (R530), if that makes no MODULE reset. -/
theorem acts_registerWrite {t off v : Nat} {env : RegEnv} {s : State} {P : State → Prop} (hr : reached s = true) (ho : 0x100000 ≤ off)
    (hb : bar0Refused off 4 (some (v % 2 ^ 32)) s = false)
    (hh : (regWrite env off (v % 2 ^ 32) (atWrite t env s)).hold = .plain) (hP : P (regWrite env off (v % 2 ^ 32) (atWrite t env s))) :
    Acts (.registerWrite t off v env) s P := by
  have hw : withBad env.bad (hostWrite env off v) (advance t s) = regWrite env off (v % 2 ^ 32) (atWrite t env s) := by
    have hb' := (bar0Refused_atWrite off 4 t (some (v % 2 ^ 32)) env s).trans hb
    unfold atWrite at hb' ⊢
    simp only [withBad, hostWrite, hb', Bool.false_eq_true, if_false]
  obtain ⟨m, hm, hPm, hhm⟩ : ∃ m, onHost t (withBad env.bad (hostWrite env off v)) s = stepEnd m ∧ P m ∧ m.hold = .plain := by
    simp only [reached, Bool.and_eq_true, beq_iff_eq] at hr
    refine ⟨_, ?_, hP, hh⟩
    rw [onHost, if_pos hr.1, running_plain (by simp [hr.2]), ← hw]
    rfl
  refine ⟨m, ?_, hPm⟩
  have hsys : sysBlock off = false := by simp [sysBlock, ho]
  show execRegisterWrite t off v env s = _
  rw [execRegisterWrite, hsys, if_neg (by decide), hm, hideRunning_of_plain (by simp [hhm])]

/-! ### What the lane operations leave alone -/

section
variable {f : Fld} (i n : Nat) (s : State)

@[simp] theorem getF_setIn (g : InLane → InLane) : getF f i (setIn n g s) = getF f i s := rfl
@[simp] theorem getF_setOut (g : OutLane → OutLane) : getF f i (setOut n g s) = getF f i s := rfl
@[simp] theorem inLane_setIn (g : InLane → InLane) : inLane n (setIn n g s) = g (inLane n s) := mget_mmod_self _ _ _ _
@[simp] theorem outLane_setOut (g : OutLane → OutLane) : outLane n (setOut n g s) = g (outLane n s) := mget_mmod_self _ _ _ _

theorem getF_leaveIn (h : spares leaveIn_m f = true) (b : Bool) : getF f i (leaveIn n b s) = getF f i s :=
  leaveIn_may (reads_may h) Sub.rfl rfl

theorem getF_leaveOut (h : spares leaveOut_m f = true) (b : Bool) : getF f i (leaveOut n b s) = getF f i s :=
  leaveOut_may (reads_may h) Sub.rfl rfl

theorem getF_takeClock (h : spares takeClock_m f = true) : getF f i (takeClock n s) = getF f i s := takeClock_may (reads_may h) Sub.rfl rfl

theorem getF_sendSets (h : spares sendSets_m f = true) : getF f i (sendSets n s) = getF f i s := sendSets_may (reads_may h) Sub.rfl rfl

theorem getF_enterIn (h : spares enterIn_m f = true) (st : Nat) : getF f i (enterIn n st s) = getF f i s :=
  enterIn_may (reads_may h) Sub.rfl rfl

theorem getF_enterOut (h : spares enterOut_m f = true) (st : Nat) : getF f i (enterOut n st s) = getF f i s :=
  enterOut_may (reads_may h) Sub.rfl rfl

theorem getF_startSeriesOn (h : spares startSeriesOn_m f = true) (d : Dir) : getF f i (startSeriesOn d n s) = getF f i s :=
  startSeriesOn_may (reads_may h) Sub.rfl rfl

theorem getF_deepOn (h : spares deepOn_m f = true) (d : Dir) : getF f i (deepOn d n s) = getF f i s := deepOn_may (reads_may h) Sub.rfl rfl

end

/-- Entering a state leaves the lane in it. -/
theorem inState_enterIn (n st : Nat) (s : State) : inState n (enterIn n st s) = st % 16 := getF_setF_self _ _ _ _
theorem outState_enterOut (n st : Nat) (s : State) : outState n (enterOut n st s) = st % 16 := getF_setF_self _ _ _ _

/-- The sets that a transmitter repeats are no part of its phase. -/
theorem outLane_sendSets_phase (n : Nat) (s : State) : (outLane n (sendSets n s)).phase = (outLane n s).phase := by
  unfold sendSets
  extract_lets l b q u x
  have hu : (outLane n u).phase = (outLane n s).phase := by simp [u]
  split
  · rfl
  · split <;> exact hu

/-! ### Either direction of a lane -/

/-- ATTEMPT of a lane (R87). -/
def laneAttempt (d : Dir) (n : Nat) (s : State) : Nat :=
  match d with
  | .inp => getF LNI_STATUS.ATTEMPT n s
  | .out => getF LNO_STATUS.ATTEMPT n s

/-- Assignment is read from ENABLED of the lane's group alone. -/
theorem laneAssigned_congr {d : Dir} {n : Nat} {s u : State} (hi : ∀ g, getF LNI_GRP_CFG.ENABLED g u = getF LNI_GRP_CFG.ENABLED g s)
    (ho : ∀ g, getF LNO_GRP_CFG.ENABLED g u = getF LNO_GRP_CFG.ENABLED g s) : laneAssigned d n u = laneAssigned d n s := by
  cases d <;> simp only [laneAssigned, inAssigned, outAssigned, getB, hi, ho]

theorem isTwinLane_of_lt {n : Nat} (h : n < 2048) : isTwinLane n = false := decide_eq_false (Nat.not_le.mpr h)

/-! ### DEEP -/

theorem laneState_deepOn (d : Dir) (n : Nat) (s : State) : laneState d n (deepOn d n s) = stDeep := by
  cases d with
  | inp =>
    show getF LNI_STATUS.STATE n (setF _ _ _ (setF _ _ _ (enterIn n stDeep s))) = stDeep
    rw [getF_setF_ne (by decide), getF_setF_ne (by decide)]
    exact inState_enterIn n stDeep s
  | out => exact (getF_sendSets n n _ (by decide +kernel)).trans (outState_enterOut n stDeep s)

/-- An attempt in progress is abandoned (R80). -/
theorem lanePhase_deepOn (d : Dir) (n : Nat) (s : State) : lanePhase d n (deepOn d n s) = .none := by
  cases d with
  | inp => simp [lanePhase, deepOn]
  | out => simp [lanePhase, deepOn, outLane_sendSets_phase]

/-! ### A new series -/

/-- What a series on a transmitter of the backplane may change. -/
def startOut_m : Nat := leaveOut_m ||| seriesOut_m ||| takeClock_m ||| enterOut_m ||| sendSets_m ||| setOut_m ||| mask [LNO_STATUS.ONE_WAY_ACT]

theorem startSeriesOn_inp {n : Nat} (hn : n < 2048) (s : State) : startSeriesOn .inp n s
    = startAttempt .inp n (setIn n (fun l => { l with idleByLoss := false }) (seriesIn n (leaveIn n false s))) := by
  simp only [startSeriesOn, isTwinLane_of_lt hn, Bool.false_eq_true, if_false]

theorem startSeriesOn_out {n : Nat} (hn : n < 2048) (s : State) :
    startSeriesOn .out n s = startAttempt .out n (seriesOut n (leaveOut n false s)) := by
  simp only [startSeriesOn, isTwinLane_of_lt hn, Bool.false_eq_true, if_false]

theorem startSeriesOn_out_may {M : Nat} {I : State → Prop} (h : May M I) (hm : Sub startOut_m M) {n : Nat} (hn : n < 2048) {s : State}
    (hs : I s) : I (startSeriesOn .out n s) := by
  have hsub {a : Nat} (ha : Sub a startOut_m) : Sub a M := ha.trans hm
  rw [startSeriesOn_out hn]
  have h1 : I (seriesOut n (leaveOut n false s)) := seriesOut_may h (hsub (by decide +kernel)) (leaveOut_may h (hsub (by decide +kernel)) hs)
  refine sendSets_may h (hsub (by decide +kernel)) (setOut_may h (hsub (by decide +kernel)) (h.fld (hm.ok (by decide +kernel)) ?_))
  exact enterOut_may h (hsub (by decide +kernel)) (takeClock_may h (hsub (by decide +kernel)) h1)

/-- A series started on the transmitter leaves the receiver's registers alone. -/
theorem getF_startSeriesOn_out {f : Fld} (h : spares startOut_m f = true) {n : Nat} (hn : n < 2048) (i : Nat) (s : State) :
    getF f i (startSeriesOn .out n s) = getF f i s := startSeriesOn_out_may (reads_may h) Sub.rfl hn rfl

theorem laneAssigned_leaveIn (d : Dir) (n k : Nat) (b : Bool) (s : State) : laneAssigned d n (leaveIn k b s) = laneAssigned d n s :=
  laneAssigned_congr (fun g => getF_leaveIn g k s (by decide +kernel) b) (fun g => getF_leaveIn g k s (by decide +kernel) b)

theorem laneAssigned_leaveOut (d : Dir) (n k : Nat) (b : Bool) (s : State) : laneAssigned d n (leaveOut k b s) = laneAssigned d n s :=
  laneAssigned_congr (fun g => getF_leaveOut g k s (by decide +kernel) b) (fun g => getF_leaveOut g k s (by decide +kernel) b)

theorem laneAssigned_startSeriesOn (d e : Dir) (n k : Nat) (s : State) : laneAssigned d n (startSeriesOn e k s) = laneAssigned d n s :=
  laneAssigned_congr (fun g => getF_startSeriesOn g k s (by decide +kernel) e) (fun g => getF_startSeriesOn g k s (by decide +kernel) e)

theorem laneAssigned_setF {f : Fld} (hi : LNI_GRP_CFG.ENABLED.id ≠ f.id) (ho : LNO_GRP_CFG.ENABLED.id ≠ f.id) (d : Dir) (n i v : Nat)
    (s : State) : laneAssigned d n (setF f i v s) = laneAssigned d n s :=
  laneAssigned_congr (fun g => getF_setF_ne hi i g v s) (fun g => getF_setF_ne ho i g v s)

/-- An attempt of a lane that does not rest in NO_PARTNER begins at TRAIN_LOCK (R65). -/
theorem laneState_startAttempt {d : Dir} {n : Nat} {s : State} (h : restsNoPartner d n s = false) :
    laneState d n (startAttempt d n s) = stLock := by
  cases d with
  | inp =>
    have hl : (inLane n s).noPartner = false := h
    simp only [laneState, startAttempt, inState, getF_setIn, hl, Bool.false_eq_true, if_false]
    rw [getF_setF_ne (by decide), getF_setF_ne (by decide), getF_setF_ne (by decide)]
    exact inState_enterIn n stLock _
  | out =>
    have hl : (outLane n s).noPartner = false := h
    simp only [laneState, startAttempt, outState, hl, Bool.false_eq_true, if_false]
    rw [getF_sendSets _ _ _ (by decide +kernel), getF_setOut, getF_setF_ne (by decide)]
    exact outState_enterOut n stLock _

/-- The start of an attempt does not count it. -/
theorem laneAttempt_startAttempt (d : Dir) (n : Nat) (s : State) : laneAttempt d n (startAttempt d n s) = laneAttempt d n s := by
  cases d with
  | inp =>
    simp only [laneAttempt, startAttempt, getF_setIn]
    rw [getF_setF_ne (by decide), getF_setF_ne (by decide), getF_setF_ne (by decide), getF_enterIn _ _ _ (by decide +kernel),
      getF_takeClock _ _ _ (by decide +kernel)]
  | out =>
    simp only [laneAttempt, startAttempt]
    rw [getF_sendSets _ _ _ (by decide +kernel), getF_setOut, getF_setF_ne (by decide), getF_enterOut _ _ _ (by decide +kernel),
      getF_takeClock _ _ _ (by decide +kernel)]

theorem attempt_seriesIn {n : Nat} {s : State} (h : inAssigned n s = true) : getF LNI_STATUS.ATTEMPT n (seriesIn n s) = 1 := by
  simp only [seriesIn, h, Bool.not_true, Bool.false_eq_true, if_false, getF_setIn]
  rw [getF_setF_ne (by decide), getF_setF_ne (by decide)]
  exact getF_setF_self _ _ _ _

theorem attempt_seriesOut {n : Nat} {s : State} (h : outAssigned n s = true) : getF LNO_STATUS.ATTEMPT n (seriesOut n s) = 1 := by
  simp only [seriesOut, h, Bool.not_true, Bool.false_eq_true, if_false, getF_setOut]
  rw [getF_setF_ne (by decide)]
  exact getF_setF_self _ _ _ _

theorem noPartner_seriesIn {n : Nat} {s : State} (h : inAssigned n s = true) : (inLane n (seriesIn n s)).noPartner = false := by
  simp [seriesIn, h]

theorem noPartner_seriesOut {n : Nat} {s : State} (h : outAssigned n s = true) : (outLane n (seriesOut n s)).noPartner = false := by
  simp [seriesOut, h]

/-- A new series of an assigned lane is in TRAIN_LOCK of attempt 1 (R65, R80). -/
theorem startSeriesOn_restarts {d : Dir} {n : Nat} {s : State} (hn : n < 2048) (ha : laneAssigned d n s = true) :
    laneState d n (startSeriesOn d n s) = stLock ∧ laneAttempt d n (startSeriesOn d n s) = 1 := by
  cases d with
  | inp =>
    have ha' : inAssigned n (leaveIn n false s) = true := (laneAssigned_leaveIn .inp n n false s).trans ha
    rw [startSeriesOn_inp hn]
    refine ⟨laneState_startAttempt ?_, (laneAttempt_startAttempt _ _ _).trans (attempt_seriesIn ha')⟩
    simpa [restsNoPartner] using noPartner_seriesIn ha'
  | out =>
    have ha' : outAssigned n (leaveOut n false s) = true := (laneAssigned_leaveOut .out n n false s).trans ha
    rw [startSeriesOn_out hn]
    exact ⟨laneState_startAttempt (noPartner_seriesOut ha'), (laneAttempt_startAttempt _ _ _).trans (attempt_seriesOut ha')⟩

/-- An assigned receiver trains first of its pair, and with it perhaps the transmitter (R53, R67). -/
theorem pairDirs_inp {n : Nat} {s : State} (ha : inAssigned n s = true) : pairDirs .inp n s = [.inp] ∨ pairDirs .inp n s = [.inp, .out] := by
  unfold pairDirs
  split
  · simp [laneAssigned, ha]
  · by_cases ho : outAssigned n s = true ∧ ¬ laneState .out n s = stDeep <;> simp [laneAssigned, ha, ho]

/-- An assigned transmitter trains last of its pair, and with it perhaps the receiver (R53, R67). -/
theorem pairDirs_out {n : Nat} {s : State} (ha : outAssigned n s = true) : pairDirs .out n s = [.out] ∨ pairDirs .out n s = [.inp, .out] := by
  unfold pairDirs
  split
  · simp [laneAssigned, ha]
  · by_cases hi : inAssigned n s = true ∧ ¬ laneState .inp n s = stDeep <;> simp [laneAssigned, ha, hi]

/-- A new series on the pair of an assigned lane puts that lane in TRAIN_LOCK of attempt 1, whatever its partner does (R80). -/
theorem startSeries_restarts {d : Dir} {n : Nat} {s : State} (hn : n < 2048) (ha : laneAssigned d n s = true) :
    laneState d n (startSeries d n s) = stLock ∧ laneAttempt d n (startSeries d n s) = 1 := by
  cases d with
  | inp =>
    have h := startSeriesOn_restarts hn ha
    rcases pairDirs_inp ha with hp | hp <;> simp only [startSeries, hp, forEach, List.foldl_cons, List.foldl_nil]
    · exact h
    · exact ⟨(getF_startSeriesOn_out (by decide +kernel) hn n _).trans h.1, (getF_startSeriesOn_out (by decide +kernel) hn n _).trans h.2⟩
  | out =>
    rcases pairDirs_out ha with hp | hp <;> simp only [startSeries, hp, forEach, List.foldl_cons, List.foldl_nil]
    · exact startSeriesOn_restarts hn ha
    · exact startSeriesOn_restarts hn ((laneAssigned_startSeriesOn .out .inp n n s).trans ha)

/-! ### Orders (R75 to R80) -/

section
variable {n : Nat} {s : State}

/-- RETRAIN in ACTIVE, IDLE or NO_PARTNER starts a new series from attempt 1 (R80, R85). -/
theorem retrain_restarts {d : Dir} (hn : n < 2048) (ha : laneAssigned d n s = true)
    (hs : (laneState d n s = stActive ∨ laneState d n s = stIdle) ∨ restsNoPartner d n s = true) :
    laneState d n (retrain d n s) = stLock ∧ laneAttempt d n (retrain d n s) = 1 := by
  have hr : retrain d n s = startSeries d n s := by simp [retrain, hn, ha, hs]
  rw [hr]
  exact startSeries_restarts hn ha

/-- RETRAIN while a series or a fast retrain runs does nothing (R80). -/
theorem retrain_in_series {d : Dir} (hs : laneState d n s ∈ [stLock, stAlign, stEq, stConfirm, stBackoff, stFast])
    (hp : restsNoPartner d n s = false) : retrain d n s = s := by
  have hne : laneState d n s ≠ stActive ∧ laneState d n s ≠ stIdle := by
    constructor <;> intro h <;> rw [h] at hs <;> revert hs <;> decide
  simp [retrain, hne, hp]

theorem orderIn_deep (hn : n < 2048) (ha : inAssigned n s = true) : orderIn n 2 s
    = if inState n s = stDeep then setF LNI_CTL.TARGET_STATE n 2 s else deepOn .inp n (setF LNI_CTL.TARGET_STATE n 2 s) := by
  have hst : inState n (setF LNI_CTL.TARGET_STATE n 2 s) = inState n s := getF_setF_ne (by decide) _ _ _ _
  simp [orderIn, hn, ha, hst]

/-- DEEP takes a receiver to DEEP from wherever it is, and is stored (R75, R80). -/
theorem orderIn_deep_reaches (hn : n < 2048) (ha : inAssigned n s = true) :
    inState n (orderIn n 2 s) = stDeep ∧ getF LNI_CTL.TARGET_STATE n (orderIn n 2 s) = 2 := by
  rw [orderIn_deep hn ha]
  split
  · exact ⟨(getF_setF_ne (by decide) _ _ _ _).trans ‹_›, getF_setF_self _ _ _ _⟩
  · exact ⟨laneState_deepOn .inp n _, (getF_deepOn n n _ (by decide +kernel) .inp).trans (getF_setF_self _ _ _ _)⟩

/-- DEEP abandons a receiver's attempt (R80). -/
theorem orderIn_deep_abandons (hn : n < 2048) (ha : inAssigned n s = true) (hs : inState n s ≠ stDeep) :
    inState n (orderIn n 2 s) = stDeep ∧ lanePhase .inp n (orderIn n 2 s) = .none := by
  rw [orderIn_deep hn ha, if_neg hs]
  exact ⟨laneState_deepOn .inp n _, lanePhase_deepOn .inp n _⟩

/-- IDLE ordered outside ACTIVE is stored, and the lane goes on as it was (R80). -/
theorem orderIn_idle_waits (hn : n < 2048) (ha : inAssigned n s = true) (hs : inState n s ≠ stActive) :
    getF LNI_CTL.TARGET_STATE n (orderIn n 1 s) = 1 ∧ inState n (orderIn n 1 s) = inState n s
      ∧ lanePhase .inp n (orderIn n 1 s) = lanePhase .inp n s := by
  have hst : inState n (setF LNI_CTL.TARGET_STATE n 1 s) = inState n s := getF_setF_ne (by decide) _ _ _ _
  have ho : orderIn n 1 s = setF LNI_CTL.TARGET_STATE n 1 s := by simp [orderIn, hn, ha, hst, hs]
  rw [ho]
  exact ⟨getF_setF_self _ _ _ _, hst, rfl⟩

/-- ACTIVE ordered in NO_PARTNER or a quiet probe starts a new series from attempt 1 (R80, R85). -/
theorem orderIn_active_restarts (hn : n < 2048) (ha : inAssigned n s = true) (hs : inState n s = stNoPartner ∨ inState n s = stProbe)
    (hp : (inLane n s).noPartner = true) :
    inState n (orderIn n 0 s) = stLock ∧ getF LNI_STATUS.ATTEMPT n (orderIn n 0 s) = 1 := by
  have hst : inState n (setF LNI_CTL.TARGET_STATE n 0 s) = inState n s := getF_setF_ne (by decide) _ _ _ _
  have hne : inState n s ≠ stIdle ∧ inState n s ≠ stDeep := by
    rcases hs with h | h <;> rw [h] <;> decide
  have hp' : inNoPartner n (setF LNI_CTL.TARGET_STATE n 0 s) = true := hp
  have ho : orderIn n 0 s = startSeries .inp n (setF LNI_CTL.TARGET_STATE n 0 s) := by simp [orderIn, hn, ha, hst, hne, hp']
  rw [ho]
  exact startSeries_restarts (d := .inp) hn ((laneAssigned_setF (by decide) (by decide) .inp n n 0 s).trans ha)

/-- IDLE and DEEP are refused while a slot of the lane has a source (R77). -/
theorem orderOut_refused {k : Nat} (hn : n < 2048) (ha : outAssigned n s = true) (hk : k = 1 ∨ k = 2) (hc : laneSourced n s = true) :
    orderOut n k s = setF LNO_STATUS.REFUSED n 1 s := by
  rcases hk with rfl | rfl <;> simp [orderOut, hn, ha, hc]

theorem orderOut_deep (hn : n < 2048) (ha : outAssigned n s = true) (hc : laneSourced n s = false) : orderOut n 2 s
    = if outState n s = stDeep then setF LNO_CTL.TARGET_STATE n 2 s else deepOn .out n (setF LNO_CTL.TARGET_STATE n 2 s) := by
  have hst : outState n (setF LNO_CTL.TARGET_STATE n 2 s) = outState n s := getF_setF_ne (by decide) _ _ _ _
  simp [orderOut, hn, ha, hc, hst]

/-- DEEP takes a transmitter without a source to DEEP (R75, R77, R80). -/
theorem orderOut_deep_reaches (hn : n < 2048) (ha : outAssigned n s = true) (hc : laneSourced n s = false) :
    outState n (orderOut n 2 s) = stDeep := by
  rw [orderOut_deep hn ha hc]
  split
  · exact (getF_setF_ne (by decide) _ _ _ _).trans ‹_›
  · exact laneState_deepOn .out n _

/-- DEEP abandons a transmitter's attempt (R80). -/
theorem orderOut_deep_abandons (hn : n < 2048) (ha : outAssigned n s = true) (hc : laneSourced n s = false) (hs : outState n s ≠ stDeep) :
    outState n (orderOut n 2 s) = stDeep ∧ lanePhase .out n (orderOut n 2 s) = .none := by
  rw [orderOut_deep hn ha hc, if_neg hs]
  exact ⟨laneState_deepOn .out n _, lanePhase_deepOn .out n _⟩

theorem orderOut_idle_waits (hn : n < 2048) (ha : outAssigned n s = true) (hc : laneSourced n s = false) (hs : outState n s ≠ stActive) :
    getF LNO_CTL.TARGET_STATE n (orderOut n 1 s) = 1 ∧ outState n (orderOut n 1 s) = outState n s
      ∧ lanePhase .out n (orderOut n 1 s) = lanePhase .out n s := by
  have hst : outState n (setF LNO_CTL.TARGET_STATE n 1 s) = outState n s := getF_setF_ne (by decide) _ _ _ _
  have ho : orderOut n 1 s = setF LNO_CTL.TARGET_STATE n 1 s := by simp [orderOut, hn, ha, hc, hst, hs]
  rw [ho]
  exact ⟨getF_setF_self _ _ _ _, hst, rfl⟩

theorem orderOut_active_restarts (hn : n < 2048) (ha : outAssigned n s = true) (hp : (outLane n s).noPartner = true) :
    outState n (orderOut n 0 s) = stLock ∧ getF LNO_STATUS.ATTEMPT n (orderOut n 0 s) = 1 := by
  have hp' : outNoPartner n (setF LNO_CTL.TARGET_STATE n 0 s) = true := hp
  have ho : orderOut n 0 s = startSeries .out n (setF LNO_CTL.TARGET_STATE n 0 s) := by simp [orderOut, hn, ha, hp']
  rw [ho]
  exact startSeries_restarts (d := .out) hn ((laneAssigned_setF (by decide) (by decide) .out n n 0 s).trans ha)

end

/-! ### The end of training (R66) -/

theorem getF_raiseLane {f : Fld} {fs : List Fld} (h : spares (raiseLane_m ||| mask fs) f = true) (hfs : fs.all (okB (mask fs)) = true)
    (i n : Nat) (s : State) : getF f i (raiseLane fs n s) = getF f i s :=
  raiseLane_may (reads_may h) Sub.rfl.inl ((Sub.rfl.inr : Sub (mask fs) _).okAll hfs) rfl

/-- IDLE ordered in training takes effect when the receiver reaches ACTIVE (R80). -/
theorem inState_inActive_idle {n : Nat} {s : State} (h : getF LNI_CTL.TARGET_STATE n s = 1) : inState n (inActive n s) = stIdle := by
  unfold inActive
  extract_lets u
  have hu : getF LNI_CTL.TARGET_STATE n u = 1 := by
    simp only [u]
    rw [getF_raiseLane (by decide +kernel) (by decide +kernel), getF_setIn, getF_setF_ne (by decide), getF_setF_ne (by decide),
      getF_setF_ne (by decide), getF_setF_ne (by decide), h]
  rw [if_pos hu]
  exact getF_setF_self _ _ _ _

/-- The first block of a receiver whose target is IDLE puts it in IDLE, and it takes no block (R66, R80). -/
theorem inState_laneBlockIn_idle {n tr : Nat} {syms : List Sym} {anc : List Anc} {s : State} (ha : inAssigned n s = true)
    (hp : (inLane n s).phase = .ready) (hb : blockBegins syms = true) (ht : getF LNI_CTL.TARGET_STATE n s = 1) :
    inState n (laneBlockIn n syms tr anc s) = stIdle := by
  have hi := inState_inActive_idle ht
  have hskip : (!inAssigned n (inActive n s) || inState n (inActive n s) != stActive || syms.length != 1024) = true := by
    simp [hi, stIdle, stActive]
  unfold laneBlockIn
  simp only [ha, hp, hb, beq_self_eq_true, Bool.and_self, if_true, hskip]
  exact hi

theorem getF_wakeSlots {f : Fld} (h : spares wakeSlots_m f = true) (i n : Nat) (s : State) : getF f i (wakeSlots n s) = getF f i s :=
  wakeSlots_may (reads_may h) Sub.rfl rfl

/-- A transmitter reaches ACTIVE, an IDLE ordered meanwhile left aside. -/
def outUp (n : Nat) (s : State) : State :=
  s |> setF LNO_STATUS.STATE n stActive |> setF LNO_STATUS.ATTEMPT n 0
    |> setOut n (fun l => { l with phase := .none, wasActive := true, noPartner := false, prevPayload := zeroPayload })
    |> sendSets n |> raiseLane [LNO_EVT.UP] n |> wakeSlots n

theorem outActive_eq (n : Nat) (s : State) : outActive n s
    = if getF LNO_CTL.TARGET_STATE n (outUp n s) = 1 then setF LNO_STATUS.STATE n stIdle (outUp n s) else outUp n s := rfl

/-- A field that neither the sets, nor UP, nor the slots' MODE, nor ATTEMPT shows reads as after STATE is written. -/
theorem getF_outUp {f : Fld} (hw : spares wakeSlots_m f = true) (hr : spares (raiseLane_m ||| mask [LNO_EVT.UP]) f = true)
    (hs : spares sendSets_m f = true) (ha : f.id ≠ LNO_STATUS.ATTEMPT.id) (i n : Nat) (s : State) :
    getF f i (outUp n s) = getF f i (setF LNO_STATUS.STATE n stActive s) := by
  unfold outUp
  rw [getF_wakeSlots hw, getF_raiseLane hr (by decide +kernel), getF_sendSets _ _ _ hs, getF_setOut, getF_setF_ne ha]

theorem target_outUp (i n : Nat) (s : State) : getF LNO_CTL.TARGET_STATE i (outUp n s) = getF LNO_CTL.TARGET_STATE i s :=
  (getF_outUp (by decide +kernel) (by decide +kernel) (by decide +kernel) (by decide) i n s).trans (getF_setF_ne (by decide) _ _ _ _)

theorem target_outActive (i n : Nat) (s : State) : getF LNO_CTL.TARGET_STATE i (outActive n s) = getF LNO_CTL.TARGET_STATE i s :=
  outActive_may (reads_may (by decide +kernel)) Sub.rfl rfl

/-- IDLE ordered in training takes effect when the transmitter reaches ACTIVE (R80). -/
theorem outState_outActive_idle {n : Nat} {s : State} (h : getF LNO_CTL.TARGET_STATE n s = 1) : outState n (outActive n s) = stIdle := by
  rw [outActive_eq, if_pos ((target_outUp n n s).trans h)]
  exact getF_setF_self _ _ _ _

/-- No other transmitter changes its state. -/
theorem outState_outActive_ne {n k : Nat} (h : n ≠ k) (s : State) : outState n (outActive k s) = outState n s := by
  have hup : outState n (outUp k s) = outState n s :=
    (getF_outUp (by decide +kernel) (by decide +kernel) (by decide +kernel) (by decide) n k s).trans (getF_setF_inst _ h _ _)
  rw [outActive_eq]
  split
  · exact (getF_setF_inst _ h _ _).trans hup
  · exact hup

/-- Of the transmitters that reach ACTIVE together, one whose target is IDLE ends in IDLE. -/
theorem outState_forEach_outActive_idle {n : Nat} {l : List Nat} {s : State} (ht : getF LNO_CTL.TARGET_STATE n s = 1)
    (hn : n ∈ l ∨ outState n s = stIdle) : outState n (forEach l outActive s) = stIdle := by
  induction l generalizing s with
  | nil => exact hn.resolve_left List.not_mem_nil
  | cons k l ih =>
    rw [forEach, List.foldl_cons]
    refine ih (s := outActive k s) ((target_outActive n k s).trans ht) ?_
    by_cases hk : n = k
    · exact .inr (hk ▸ outState_outActive_idle (hk ▸ ht))
    · exact hn.imp (fun h => (List.mem_cons.mp h).resolve_left hk) (fun h => (outState_outActive_ne hk s).trans h)

/-- A table lists what it reads other than the default. -/
theorem mem_of_mget_ne {α : Type} {d : α} {m : List (Nat × α)} {i : Nat} (h : mget d m i ≠ d) : (i, mget d m i) ∈ m := by
  induction m with
  | nil => exact absurd rfl h
  | cons p m ih =>
    obtain ⟨k, v⟩ := p
    by_cases hk : k = i
    · simp [mget, hk]
    · simp only [mget, if_neg hk] at h ⊢
      exact List.mem_cons_of_mem _ (ih h)

/-- The block edge at which a transmitter whose target is IDLE has finished training puts it in IDLE (R66, R80). -/
theorem outState_sendBlocks_idle {n : Nat} {s : State} (hp : (outLane n s).phase = .ready) (hw : getB TWN_STATUS.WITHDRAWN 0 s = false)
    (ht : getF LNO_CTL.TARGET_STATE n s = 1) : outState n (sendBlocks s) = stIdle := by
  have hmem : (n, outLane n s) ∈ s.lane.out := mem_of_mget_ne (fun h : outLane n s = {} => by rw [h] at hp; cases hp)
  unfold sendBlocks
  extract_lets away done s1 ls s2
  have hdone : n ∈ done := List.mem_map.mpr ⟨_, List.mem_filter.mpr ⟨hmem, by simp [hp, away, hw]⟩, rfl⟩
  have h1 : outState n s1 = stIdle := outState_forEach_outActive_idle ht (.inl hdone)
  have h2 : outState n s2 = outState n s1 := forEach_may (M := sendBlock_m) (reads_may (by decide +kernel)) (by decide +kernel)
    (fun _ _ hs => sendBlock_may (reads_may (by decide +kernel)) Sub.rfl hs) rfl
  exact h2.trans h1

/-! ### Writes of the control registers (R80, R530) -/

/-- A register takes the low 32 bits of a written value, TARGET_STATE among them. -/
theorem bits_mod_word (v : Nat) : bits (v % 2 ^ 32) 0 2 = bits v 0 2 := by
  simp only [bits, Nat.shiftRight_zero]; omega

/-- What a write of LNI_CTL does before it orders a state: the bits without an effect of their own, and CLR_CNT. -/
def lniCtlPlain (n v : Nat) (s : State) : State :=
  plainWrite (LNI_CTL.TARGET_STATE.base + 128 * n) (bits v 3 29 * 8 + getF LNI_CTL.TARGET_STATE n s) s |> when_ (bit v 3) (lniClear n)

theorem lniCtlPlain_may {M : Nat} {I : State → Prop} (h : May M I) (hm : Sub (plainWrite_m ||| lniClear_m) M) {n v : Nat} {s : State}
    (hs : I s) : I (lniCtlPlain n v s) :=
  may_ite (lniClear_may h (Sub.rfl.inr.trans hm) (plainWrite_may h (Sub.rfl.inl.trans hm) hs)) (plainWrite_may h (Sub.rfl.inl.trans hm) hs)

/-- ENABLED is written by the image alone. -/
theorem inAssigned_lniCtlPlain (n v : Nat) (s : State) : inAssigned n (lniCtlPlain n v s) = inAssigned n s :=
  laneAssigned_congr (d := .inp) (fun _ => lniCtlPlain_may (reads_may (by decide +kernel)) Sub.rfl rfl)
    (fun _ => lniCtlPlain_may (reads_may (by decide +kernel)) Sub.rfl rfl)

theorem getF_when_lnoClear {f : Fld} (h : spares lnoClear_m f = true) (i n : Nat) (b : Bool) (s : State) :
    getF f i (when_ b (lnoClear n) s) = getF f i s :=
  when__may (reads_may h) (by decide +kernel) (fun _ hs => lnoClear_may (reads_may h) Sub.rfl hs) rfl

theorem outAssigned_when_lnoClear (n : Nat) (b : Bool) (s : State) : outAssigned n (when_ b (lnoClear n) s) = outAssigned n s :=
  laneAssigned_congr (d := .out) (fun g => getF_when_lnoClear (by decide +kernel) g n b s) (fun g => getF_when_lnoClear (by decide +kernel) g n b s)

theorem outState_when_lnoClear (n : Nat) (b : Bool) (s : State) : outState n (when_ b (lnoClear n) s) = outState n s :=
  getF_when_lnoClear (by decide +kernel) n n b s

/-- CLR_CNT leaves the sources of the lane's slots alone. -/
theorem laneSourced_when_lnoClear (n : Nat) (b : Bool) (s : State) : laneSourced n (when_ b (lnoClear n) s) = laneSourced n s := by
  have hsrc := fun i => getF_when_lnoClear (f := XPT_OUT_SRC.SOURCE) (by decide +kernel) i n b s
  have hsafe := fun i => getF_when_lnoClear (f := XPT_OUT_CFG.SAFETY) (by decide +kernel) i n b s
  have hen := fun i => getF_when_lnoClear (f := LNO_GRP_CFG.ENABLED) (by decide +kernel) i n b s
  have hmode := fun i => getF_when_lnoClear (f := LNO_PAY_CFG.SLOT_MODE) (by decide +kernel) i n b s
  simp only [laneSourced, outUsed, outSourced, outSrc, isSafety, getB, hsrc, hsafe, hen, hmode]

/-- A write of LNI_CTL with DEEP orders DEEP, whatever RETRAIN says (R80). -/
theorem regWrite_lniCtl_deep {n v : Nat} {env : RegEnv} {s : State} (hn : n < 2048) (ha : inAssigned n s = true) (hv : bits v 0 2 = 2) :
    regWrite env (LNI_CTL.TARGET_STATE.base + 128 * n) v s = orderIn n 2 (lniCtlPlain n v s) := by
  have hb : LNI_CTL.TARGET_STATE.base = 0x410000 := rfl
  have hreg : 0x410000 ≤ 0x410000 + 128 * n ∧ 0x410000 + 128 * n < 0x450000 := by omega
  have hoff : (0x410000 + 128 * n) % 128 = 0 := by omega
  rw [lniCtlPlain, hb, regWrite, if_neg (by omega), if_neg (by omega), if_neg (by omega), if_pos (by omega)]
  simp [writeLni, hreg, hoff, ha, hv, when_]

/-- A write of LNO_CTL with DEEP orders DEEP, whatever RETRAIN says (R80). -/
theorem regWrite_lnoCtl_deep {n v : Nat} {env : RegEnv} {s : State} (hn : n < 2048) (ha : outAssigned n s = true) (hv : bits v 0 2 = 2) :
    regWrite env (LNO_CTL.TARGET_STATE.base + 128 * n) v s = orderOut n 2 (when_ (bit v 3) (lnoClear n) s) := by
  have hb : LNO_CTL.TARGET_STATE.base = 0x610000 := rfl
  have hreg : 0x610000 ≤ 0x610000 + 128 * n ∧ 0x610000 + 128 * n < 0x650000 := by omega
  have hoff : (0x610000 + 128 * n) % 128 = 0 := by omega
  rw [hb, regWrite, if_neg (by omega), if_neg (by omega), if_neg (by omega), if_neg (by omega), if_pos (by omega)]
  simp [writeLno, hreg, hoff, ha, hv, when_]

section
variable {t n v : Nat} {env : RegEnv} {s : State}

/-- DEEP written together with RETRAIN acts on a receiver as DEEP alone (R80). -/
theorem acts_lniCtl_deep (hr : reached s = true) (hn : n < 2048) (ha : inAssigned n s = true)
    (hb : bar0Refused (LNI_CTL.TARGET_STATE.base + 128 * n) 4 (some (v % 2 ^ 32)) s = false) (hv : bits v 0 2 = 2) :
    Acts (.registerWrite t (LNI_CTL.TARGET_STATE.base + 128 * n) v env) s
      (fun m => inState n m = stDeep ∧ getF LNI_CTL.TARGET_STATE n m = 2) := by
  have hu : inAssigned n (atWrite t env s) = true := ha
  have hw := regWrite_lniCtl_deep (env := env) hn hu ((bits_mod_word v).trans hv)
  refine acts_registerWrite hr (Nat.le_add_right_of_le (by decide)) hb ?_ ?_ <;> rw [hw]
  · exact orderIn_may (hold_may (by decide +kernel) (by decide +kernel)) Sub.rfl
      (lniCtlPlain_may (hold_may (by decide +kernel) (by decide +kernel)) Sub.rfl (hold_of_reached hr))
  · exact orderIn_deep_reaches hn ((inAssigned_lniCtlPlain n _ _).trans hu)

/-- DEEP written together with RETRAIN acts on a transmitter as DEEP alone, and as nothing where DEEP is refused (R77, R80; log entry 45). -/
theorem acts_lnoCtl_deep (hr : reached s = true) (hn : n < 2048) (ha : outAssigned n s = true)
    (hb : bar0Refused (LNO_CTL.TARGET_STATE.base + 128 * n) 4 (some (v % 2 ^ 32)) s = false) (hv : bits v 0 2 = 2) :
    Acts (.registerWrite t (LNO_CTL.TARGET_STATE.base + 128 * n) v env) s
      (fun m => outState n m = if laneSourced n s then outState n s else stDeep) := by
  have hu : outAssigned n (atWrite t env s) = true := ha
  have hw := regWrite_lnoCtl_deep (env := env) hn hu ((bits_mod_word v).trans hv)
  refine acts_registerWrite hr (Nat.le_add_right_of_le (by decide)) hb ?_ ?_ <;> rw [hw]
  · exact orderOut_may (hold_may (by decide +kernel) (by decide +kernel)) Sub.rfl
      (when__may (hold_may (m := lnoClear_m) (by decide +kernel) (by decide +kernel)) (by decide +kernel)
        (fun _ hs => lnoClear_may (hold_may (by decide +kernel) (by decide +kernel)) Sub.rfl hs) (hold_of_reached hr))
  · generalize hx : bit (v % 2 ^ 32) 3 = b
    have ha' := (outAssigned_when_lnoClear n b (atWrite t env s)).trans hu
    have hc' : laneSourced n (when_ b (lnoClear n) (atWrite t env s)) = laneSourced n s := laneSourced_when_lnoClear n b (atWrite t env s)
    cases hc : laneSourced n s with
    | true =>
      rw [orderOut_refused hn ha' (.inr rfl) (hc'.trans hc)]
      exact (getF_setF_ne (by decide) _ _ _ _).trans (outState_when_lnoClear n b (atWrite t env s))
    | false => exact orderOut_deep_reaches hn ha' (hc'.trans hc)

end

/-! ### The statement -/

/-- Settles O15: each clause is the rule of its order, or of the block that ends training, at the module time of the command. The clause of
DEEP with RETRAIN on a transmitter with a source, where both are dropped, is the choice of log entry 45. -/
theorem meetingOrdersResolve : Obligations.MeetingOrdersResolve := by
  unfold Obligations.MeetingOrdersResolve
  intro t n v tr env syms anc s hr hn
  have hserv := serving_of_reached hr
  refine ⟨fun ha => ⟨fun hb hv _ => acts_lniCtl_deep hr hn ha hb hv, fun _ hd hs => ⟨?_, ?_⟩, fun ht hp hb => ?_, fun hs hp => ?_,
      fun hs hp => ⟨?_, ?_⟩, fun hs => ?_⟩,
    fun ha => ⟨fun hb hv _ => acts_lnoCtl_deep hr hn ha hb hv, fun _ hc hd hs => ⟨?_, ?_⟩, fun ht hp hw => ?_, fun hs hp => ?_,
      fun _ hp => ⟨?_, ?_⟩, fun hs => ?_⟩⟩
  · exact acts_onHost rfl hr (orderIn_deep_abandons hn ha hd)
  · exact acts_onHost rfl hr (orderIn_idle_waits hn ha hs)
  · exact acts_onService rfl hserv (inState_laneBlockIn_idle ha hp hb ht)
  · exact acts_onHost rfl hr (by rw [retrain_in_series (d := .inp) (s := advance t s) hs hp]; exact ⟨rfl, rfl⟩)
  · exact acts_onHost rfl hr (orderIn_active_restarts hn ha hs hp)
  · exact acts_onHost rfl hr (retrain_restarts (d := .inp) hn ha (.inr hp))
  · exact acts_onHost rfl hr (retrain_restarts (d := .inp) hn ha (.inl hs))
  · exact acts_onHost rfl hr (orderOut_deep_abandons hn ha hc hd)
  · exact acts_onHost rfl hr (orderOut_idle_waits hn ha hc hs)
  · exact acts_onService rfl hserv (outState_sendBlocks_idle hp hw ht)
  · exact acts_onHost rfl hr (by rw [retrain_in_series (d := .out) (s := advance t s) hs hp]; exact ⟨rfl, rfl⟩)
  · exact acts_onHost rfl hr (orderOut_active_restarts hn ha hp)
  · exact acts_onHost rfl hr (retrain_restarts (d := .out) hn ha (.inr hp))
  · exact acts_onHost rfl hr (retrain_restarts (d := .out) hn ha (.inl hs))

end Sys2Proof.Machine
end

section
/-! The event FIFO when it is full (R551): what a record does that finds no room, what the first record does that finds room again, and
that posting a record leaves the sticky event bits it reports. -/

namespace Sys2Proof.Machine

/-! ### Counting (R19) -/

/-- A flag that is set reads 1. -/
theorem getF_setF_one {f : Fld} (hw : 0 < f.width) (i : Nat) (s : State) : getF f i (setF f i 1 s) = 1 :=
  (getF_setF_self ..).trans (Nat.mod_eq_of_lt (Nat.one_lt_two_pow (Nat.ne_of_gt hw)))

/-- A counter of 32 bits counts one event, or sets its overflow flag once it is full. -/
theorem counted_bump32 {c o : Fld} (hne : c.id ≠ o.id) (ho : 0 < o.width) (i : Nat) (s : State) : Counted c o i s (bump32 c o i s) := by
  unfold Counted bump32
  split
  case isTrue hfull => exact ⟨(getF_setF_ne hne ..).trans hfull, getF_setF_one ho ..⟩
  case isFalse => exact getF_setF_self ..

/-! ### What signals and counters leave of the FIFO -/

@[simp] theorem signal_evtFifo (n : Nat) (s : State) : (signal n s).evtFifo = s.evtFifo := by
  unfold signal; dsimp only; split <;> rfl

@[simp] theorem signal_evtLost (n : Nat) (s : State) : (signal n s).evtLost = s.evtLost := by
  unfold signal; dsimp only; split <;> rfl

@[simp] theorem bump32_evtFifo (c o : Fld) (i : Nat) (s : State) : (bump32 c o i s).evtFifo = s.evtFifo := by
  unfold bump32; split <;> rfl

@[simp] theorem bump32_evtLost (c o : Fld) (i : Nat) (s : State) : (bump32 c o i s).evtLost = s.evtLost := by
  unfold bump32; split <;> rfl

/-! ### One record (R549 to R551) -/

/-- The record of a held event, stamped with the local time at which it is posted. -/
def postedRec (h : HeldEvt) (s : State) : EvtRec :=
  { source := h.source, index := h.index % 2 ^ 24, bits := h.bits, sec := timeSec (localTime s) % 2 ^ 32, ns := timeNs (localTime s),
    lost := s.evtLost, stamp := h.stamp }

/-- An armed FIFO is disarmed by a record and signals it (R556). -/
def disarm (s : State) : State :=
  if getB HIF_EVT_STATUS.ARMED 0 s then s |> setF HIF_EVT_STATUS.ARMED 0 0 |> signal 16 else s

@[simp] theorem disarm_evtFifo (s : State) : (disarm s).evtFifo = s.evtFifo := by
  unfold disarm
  split
  · exact signal_evtFifo ..
  · rfl

@[simp] theorem disarm_evtLost (s : State) : (disarm s).evtLost = s.evtLost := by
  unfold disarm
  split
  · exact signal_evtLost ..
  · rfl

section
variable {h : HeldEvt} {s : State} (hm : (getF HIF_EVT_MASK.MASK 0 s).testBit (h.source - 1) = false)
  (hj : s.evtFifo.any (joins h) = false)
include hm hj

/-- A record that finds the FIFO full is counted and remembered as lost. -/
theorem postNow_full (hf : evtFifoCap ≤ s.evtFifo.length) :
    postNow h s = bump32 HIF_EVT_LOST.COUNT HIF_CNT_FLAGS.LOST_OVF 0 { s with evtLost := true } := by
  simp only [postNow, hm, hj, hf, Bool.false_eq_true, if_false, if_true]

/-- A record that finds room goes to the end of the FIFO, and no loss is left to report. -/
theorem postNow_room (hf : s.evtFifo.length < evtFifoCap) :
    postNow h s = disarm (when_ (h.source = 0x19) (signal 21) { s with evtFifo := s.evtFifo ++ [postedRec h s], evtLost := false }) := by
  simp only [postNow, hm, hj, Nat.not_le.mpr hf, Bool.false_eq_true, if_false, when_, decide_eq_true_eq]
  rfl

/-- The new record is lost: it leaves the FIFO as it is (R551). -/
theorem postNow_full_counts (hf : evtFifoCap ≤ s.evtFifo.length) :
    (postNow h s).evtFifo = s.evtFifo ∧ (postNow h s).evtLost = true
      ∧ Counted HIF_EVT_LOST.COUNT HIF_CNT_FLAGS.LOST_OVF 0 s (postNow h s) := by
  rw [postNow_full hm hj hf]
  exact ⟨bump32_evtFifo .., bump32_evtLost .., counted_bump32 (s := { s with evtLost := true }) (by decide) (by decide) 0⟩

/-- The new record says whether records were lost before it (R551). -/
theorem postNow_room_marks (hf : s.evtFifo.length < evtFifoCap) :
    (postNow h s).evtFifo = s.evtFifo ++ [postedRec h s] ∧ (postNow h s).evtLost = false := by
  rw [postNow_room hm hj hf, disarm_evtFifo, disarm_evtLost, when_]
  split
  · exact ⟨signal_evtFifo .., signal_evtLost ..⟩
  · exact ⟨rfl, rfl⟩

end

/-! ### Sticky event bits (R549) -/

theorem mem_allFields {f : Fld} (h : fieldOf f.id = some f) : f ∈ allFields := List.mem_of_getElem? h

/-- No event bit is a field that posting a record writes, and every event bit has room for a 1. -/
theorem event_spared {f : Fld} (hf : fieldOf f.id = some f) (he : f.evt ≠ 0) : spares post_m f = true ∧ 0 < f.width := by
  have hall : ∀ g ∈ allFields, g.evt ≠ 0 → spares post_m g = true ∧ 0 < g.width := by decide +kernel
  exact hall f (mem_allFields hf) he

/-- Posting a record writes no event bit, whether the record is kept, joined, discarded or put into the FIFO. -/
theorem getF_post_event {f : Fld} (hf : fieldOf f.id = some f) (he : f.evt ≠ 0) (i source index b : Nat) (s : State) :
    getF f i (post source index b s) = getF f i s :=
  post_may (reads_may (event_spared hf he).1) Sub.rfl rfl

/-- Setting `g` leaves a bit of the register map set: `g` is the bit itself or another field. -/
theorem getF_setF_one_ne_zero {f g : Fld} (hf : fieldOf f.id = some f) (hg : fieldOf g.id = some g) (hw : 0 < g.width) {i : Nat} {s : State}
    (h : getF f i s ≠ 0) : getF f i (setF g i 1 s) ≠ 0 := by
  by_cases hid : f.id = g.id
  · have hfg : f = g := Option.some.inj (hf.symm.trans (hid ▸ hg))
    rw [hfg, getF_setF_one hw]
    exact Nat.one_ne_zero
  · rwa [getF_setF_ne hid]

/-- After every bit of a list has been set, a bit reads set that is in the list or was set before. -/
theorem getF_foldl_setF_one {l : List Fld} (hl : ∀ g ∈ l, fieldOf g.id = some g ∧ 0 < g.width) {f : Fld} (hf : fieldOf f.id = some f)
    {i : Nat} {s : State} (h : f ∈ l ∨ getF f i s ≠ 0) : getF f i (l.foldl (fun s g => setF g i 1 s) s) ≠ 0 := by
  induction l generalizing s with
  | nil => exact h.resolve_left List.not_mem_nil
  | cons g l ih =>
    obtain ⟨hg, hw⟩ := hl g List.mem_cons_self
    refine ih (fun k hk => hl k (List.mem_cons_of_mem _ hk)) ?_
    rcases h with hmem | hset
    · rcases List.mem_cons.mp hmem with rfl | hmem
      · exact .inr (by rw [getF_setF_one hw]; exact Nat.one_ne_zero)
      · exact .inl hmem
    · exact .inr (getF_setF_one_ne_zero hf hg hw hset)

/-- Raised event bits stay set, whatever becomes of the record that reports them (R551). -/
theorem getF_raiseAs_ne_zero {fs : List Fld} (hfs : ∀ g ∈ fs, fieldOf g.id = some g ∧ g.evt ≠ 0) {f : Fld} (hf : f ∈ fs) (index i : Nat)
    (s : State) : getF f i (raiseAs index fs i s) ≠ 0 := by
  obtain ⟨hfld, hevt⟩ := hfs f hf
  have hset : getF f i ((fs.filter (fun g => getF g i s == 0)).foldl (fun s g => setF g i 1 s) s) ≠ 0 := by
    refine getF_foldl_setF_one (fun g hg => ?_) hfld ?_
    · obtain ⟨hg, he⟩ := hfs g (List.mem_filter.mp hg).1
      exact ⟨hg, (event_spared hg he).2⟩
    · by_cases h0 : getF f i s = 0
      · exact .inl (List.mem_filter.mpr ⟨hf, beq_iff_eq.mpr h0⟩)
      · exact .inr h0
  unfold raiseAs
  dsimp only
  split
  · exact hset
  · rwa [getF_post_event hfld hevt]

/-! ### The statement -/

/-- Settles O49: a record without room and a record with room are two cases of one post, and no post writes an event bit. -/
theorem fullFifoCountsLost : Obligations.FullFifoCountsLost := by
  unfold Obligations.FullFifoCountsLost
  refine ⟨fun h s hm hj => ⟨postNow_full_counts hm hj, fun hf => ?_⟩, fun fs i s hfs f hf => ?_⟩
  · obtain ⟨hfifo, hlost⟩ := postNow_room_marks hm hj hf
    exact ⟨postedRec h s, hfifo, rfl, rfl, rfl, hlost⟩
  · exact bne_iff_ne.mpr (getF_raiseAs_ne_zero hfs hf i i s)

end Sys2Proof.Machine
end

section
/-! The identification of the die (R676): the four fields of the IDCODE register, the register DBG_IDCODE that shows it and the TAP
instruction that shifts it out. -/

namespace Sys2Proof.Machine

/-! ### The fields of the word -/

/-- A field of `w` bits at `lo`, above fields that fill less than `2 ^ lo`, reads as what was packed there. -/
theorem bits_of_packed {x v r lo : Nat} (w : Nat) (hx : x = v * 2 ^ lo + r) (hr : r < 2 ^ lo) : bits x lo w = v % 2 ^ w := by
  rw [bits, Nat.shiftRight_eq_div_pow, hx, Nat.add_comm, Nat.add_mul_div_right _ _ (Nat.two_pow_pos lo), Nat.div_eq_of_lt hr, Nat.zero_add]

theorem idcodeVal_stepping (s : State) : bits (idcodeVal s) 28 4 = getF SYS_INFO.STEP_MAJ 0 s % 16 := by
  have hx : idcodeVal s = getF SYS_INFO.STEP_MAJ 0 s % 16 * 2 ^ 28 + (0x2048 * 2 ^ 12 + 0x4E7 * 2 + 1) := by unfold idcodeVal; omega
  exact (bits_of_packed 4 hx (by decide)).trans (Nat.mod_mod _ 16)

theorem idcodeVal_part (s : State) : bits (idcodeVal s) 12 16 = 0x2048 := by
  have hx : idcodeVal s = (getF SYS_INFO.STEP_MAJ 0 s % 16 * 2 ^ 16 + 0x2048) * 2 ^ 12 + (0x4E7 * 2 + 1) := by unfold idcodeVal; omega
  exact (bits_of_packed 16 hx (by decide)).trans (Nat.mul_add_mod_self_right ..)

theorem idcodeVal_manufacturer (s : State) : bits (idcodeVal s) 1 11 = 0x4E7 := by
  have hx : idcodeVal s = ((getF SYS_INFO.STEP_MAJ 0 s % 16 * 2 ^ 16 + 0x2048) * 2 ^ 11 + 0x4E7) * 2 ^ 1 + 1 := by unfold idcodeVal; omega
  exact (bits_of_packed 11 hx (by decide)).trans (Nat.mul_add_mod_self_right ..)

theorem idcodeVal_bit_zero (s : State) : bits (idcodeVal s) 0 1 = 1 := by
  simp only [bits, idcodeVal, Nat.shiftRight_zero]
  omega

/-- The four fields fill one word. -/
theorem idcodeVal_lt (s : State) : idcodeVal s < 2 ^ 32 := by
  have hstep : getF SYS_INFO.STEP_MAJ 0 s % 16 < 16 := Nat.mod_lt _ (by decide)
  unfold idcodeVal
  omega

/-! ### Where it shows -/

/-- DBG_IDCODE holds nothing of its own: a read derives it (R692). -/
theorem readField_idcode (s : State) : readField DBG_IDCODE.IDCODE 0 s = idcodeVal s := rfl

/-- Loading an instruction shifts nothing out. -/
@[simp] theorem loadIr_out (ir : Nat) (s : State) : (loadIr ir s).out = s.out := rfl

/-- While the debug module has its clock, the TAP runs the instruction. -/
theorem whenTap_of_runs {s : State} (h : tapRuns s = true) (f : State → State) : whenTap f s = f s := if_pos h

/-- IDCODE loads its instruction at its module time and shifts out the identification of the state it met. -/
theorem exec_idcode {s : State} (h : tapRuns s = true) (t : Nat) :
    exec (.idcode t) s = .next (emit (.tdo (idcodeVal s)) (loadIr 0x02 (advance t s))) :=
  congrArg Host.Outcome.next (whenTap_of_runs h _)

/-! ### The statement -/

/-- Settles O55: each field is what was packed at its place, and the read and the shift both give the packed word. -/
theorem idcodeRegisterFields : Obligations.IdcodeRegisterFields := by
  unfold Obligations.IdcodeRegisterFields
  intro s
  refine ⟨⟨idcodeVal_stepping s, idcodeVal_part s, idcodeVal_manufacturer s, idcodeVal_bit_zero s, idcodeVal_lt s⟩,
    readField_idcode s, fun t ht => ⟨_, exec_idcode ht t, ?_⟩⟩
  simp only [emit_out, loadIr_out, advance_out]

end Sys2Proof.Machine
end
